-- ==== Sys2Proof/Word.lean ====
section
/-!
DEFINITION. The words the spec treats as bits: every register is 32 bits wide (R11), and memory is bytes.
-/
namespace Sys2Proof

/-- A register word (R11). -/
abbrev Word := BitVec 32

/-- A byte of memory; multi-byte values are little-endian (R11). -/
abbrev Byte := BitVec 8

end Sys2Proof
end

