-- ==== Sys2Proof/Machine/Bits.lean ====
section
/-!
DEFINITION. Bit fields, signed readings, saturation and exact rounding, as the spec's encodings use them (R11, R13).
-/
namespace Sys2Proof.Machine

/-- Bits `hi` down to `lo` of a word, as a number. -/
def fld (w : Word) (hi lo : Nat) : Nat := (w.toNat >>> lo) % 2 ^ (hi + 1 - lo)

/-- One bit of a word. -/
def bit (w : Word) (i : Nat) : Bool := w.getLsbD i

/-- A word built from a number (reduced modulo 2^32). -/
def w32 (n : Nat) : Word := BitVec.ofNat 32 n

/-- `w` with bits `hi` down to `lo` replaced by `v` (reduced to the field). -/
def setFld (w : Word) (hi lo v : Nat) : Word :=
  let m := (2 ^ (hi + 1 - lo) - 1) <<< lo
  (w &&& ~~~(w32 m)) ||| w32 ((v % 2 ^ (hi + 1 - lo)) <<< lo)

/-- `w` with bit `i` set to `b`. -/
def setBit (w : Word) (i : Nat) (b : Bool) : Word := setFld w i i b.toNat

/-- A Boolean as a number. -/
def b2n (b : Bool) : Nat := if b then 1 else 0

/-- The field `v << lo` of a register image. -/
def at_ (lo : Nat) (v : Nat) : Nat := v <<< lo

/-- An unsigned `bits`-bit number read as two's complement. -/
def signed (bits n : Nat) : Int :=
  let m := n % 2 ^ bits
  if m < 2 ^ (bits - 1) then (m : Int) else (m : Int) - (2 ^ bits : Nat)

/-- An integer as the unsigned number of its low `bits` bits. -/
def unsigned (bits : Nat) (i : Int) : Nat := (i % ((2 ^ bits : Nat) : Int)).toNat

/-- Saturation of an exact integer to signed `bits`-bit range. -/
def satS (bits : Nat) (i : Int) : Int :=
  let hi : Int := (2 ^ (bits - 1) : Nat) - 1
  let lo : Int := -((2 ^ (bits - 1) : Nat) : Int)
  if i > hi then hi else if i < lo then lo else i

/-- True where `satS` changes the value. -/
def satClips (bits : Nat) (i : Int) : Bool := satS bits i != i

/-- Saturation of an unsigned counter at `2^bits − 1`. -/
def satU (bits n : Nat) : Nat := if n < 2 ^ bits then n else 2 ^ bits - 1

/-- A saturating 32-bit counter register plus `n`. -/
def satAdd (w : Word) (n : Nat) : Word := w32 (satU 32 (w.toNat + n))

/-- Floor division by a positive number. -/
def fdiv (a : Int) (b : Nat) : Int := a.fdiv (b : Int)

/-- Exact division rounded to nearest, ties towards +∞. [DEDUCED, unsafe: log entry 65; DEDUCED, unsafe: log entry 82] -/
def roundDiv (a : Int) (b : Nat) : Int := (2 * a + b).fdiv ((2 * b : Nat) : Int)

/-- Exact division rounded to nearest, ties to even. -/
def roundEven (a : Int) (b : Nat) : Int :=
  let q := a.fdiv (b : Int)
  let r2 := 2 * (a - q * b)
  if r2 < (b : Int) then q else if r2 > (b : Int) then q + 1 else if q % 2 = 0 then q else q + 1

/-- Ceiling division of naturals; 0 when the divisor is 0. -/
def cdiv (a b : Nat) : Nat := if b = 0 then 0 else (a + b - 1) / b

/-- A list entry, or a default past its end. -/
def nth {α : Type} (d : α) (l : List α) (i : Nat) : α := l.getD i d

/-- Indices `lo … lo+n−1`. -/
def rangeFrom (lo n : Nat) : List Nat := (List.range n).map (lo + ·)

/-- The little-endian bytes of a number. -/
def leBytes : Nat → Nat → List Byte
  | 0, _ => []
  | k + 1, n => BitVec.ofNat 8 n :: leBytes k (n / 256)

/-- The number spelt by little-endian bytes. -/
def ofLe : List Byte → Nat
  | [] => 0
  | b :: bs => b.toNat + 256 * ofLe bs

/-- The number spelt by big-endian bytes (network headers keep their standard's order, R11). -/
def ofBe (l : List Byte) : Nat := l.foldl (fun a b => a * 256 + b.toNat) 0

/-- `n` bytes of a list from position `i`. -/
def slice {α : Type} (l : List α) (i n : Nat) : List α := (l.drop i).take n

/-- Insertion into an ordered list, after equal elements. -/
def insertBy {α : Type} (le : α → α → Bool) (x : α) : List α → List α
  | [] => [x]
  | y :: ys => if le y x then y :: insertBy le x ys else x :: y :: ys

/-- A stable insertion sort. -/
def sortBy {α : Type} (le : α → α → Bool) (l : List α) : List α := l.foldl (fun acc x => insertBy le x acc) []

/-- Bits of a number set to one. -/
def popcount : Nat → Nat → Nat
  | 0, _ => 0
  | k + 1, n => n % 2 + popcount k (n / 2)

/-- A table-free CRC step over one byte, most significant bit first, `width` bits, polynomial `poly`. -/
def crcByte (width poly crc byte : Nat) : Nat :=
  let c0 := crc ^^^ (byte <<< (width - 8))
  (List.range 8).foldl (fun c _ =>
    let c' := (c <<< 1) % 2 ^ width
    if c.testBit (width - 1) then c' ^^^ poly else c') (c0 % 2 ^ width)

/-- An MSB-first CRC over bytes with no reflection and no final XOR. -/
def crcMsb (width poly init : Nat) (l : List Byte) : Nat :=
  l.foldl (fun c b => crcByte width poly c b.toNat) init

/-- The CRC-8 of the SPI port: polynomial 0x07, initial value 0x00 (R64). -/
def crc8 (l : List Byte) : Nat := crcMsb 8 0x07 0 l

/-- Greatest natural whose square does not exceed `n`, by bisection on `fuel` bits. -/
def isqrt (n : Nat) : Nat := Nat.sqrt n

end Sys2Proof.Machine
end

