-- ==== Sys2Proof/Machine/Dsp.lean ====
section
/-!
DEFINITION. Arithmetic that the spec fixes exactly: the gain conversion of R158, the interpolator table of R117, and the
rounding of sums to Q1.31.
-/
namespace Sys2Proof.Machine

/-- The greatest number of `k` bits added to `acc` for which `p` holds, `p` being true up to some point. -/
def bisect (p : Nat → Bool) : Nat → Nat → Nat
  | 0, acc => acc
  | k + 1, acc => bisect p k (if p (acc + 2 ^ k) then acc + 2 ^ k else acc)

/-- `m` is at most 10^(g/2560) · 2^27 rounded to nearest: (2m − 1)^2560 ≤ 2^(28·2560) · 10^g. -/
def gainLe (g : Int) (m : Nat) : Bool :=
  m == 0 || decide ((2 * m - 1) ^ 2560 * 10 ^ ((-g).toNat) ≤ 2 ^ 71680 * 10 ^ g.toNat)

/-- Gain encoding to linear Q5.27 (R158): 10^(g/2560) rounded; −32,768 is mute. -/
def gainLin (g : Int) : Int := if g = -32768 then 0 else if g = 0 then 0x08000000 else (bisect (gainLe g) 34 0 : Nat)

/-! ### The interpolator of R117, evaluated in fixed point with 120 fractional bits -/

def fxOne : Nat := 2 ^ 120

/-- π with 120 fractional bits. -/
def fxPi : Int := 4175892906503776358826876457663557747

/-- sin by its series, `n` terms: `t` is the current term, `acc` the sum. -/
def fxSinAux (x2 : Int) : Nat → Nat → Int → Int → Int
  | 0, _, _, acc => acc
  | f + 1, n, t, acc =>
    fxSinAux x2 f (n + 1) (-(t * x2 / (fxOne : Int)) / ((2 * n + 2) * (2 * n + 3) : Nat)) (acc + t)

def fxSin (x : Int) : Int := fxSinAux (x * x / (fxOne : Int)) 40 0 x 0

/-- I0(2√q) = Σ q^k / (k!)², with `q` in fixed point. -/
def fxI0Aux (q : Nat) : Nat → Nat → Nat → Nat → Nat
  | 0, _, _, acc => acc
  | f + 1, k, t, acc => fxI0Aux q f (k + 1) (t * q / fxOne / ((k + 1) * (k + 1))) (acc + t)

def fxI0 (q : Nat) : Nat := fxI0Aux q 60 0 fxOne 0

/-- The unwindowed value times the window, up to the common factor 1/I0(β): phase `ph`, tap `k` (−3 to 4). With u = k − ph/256
and β = 7, the argument q of I0(2√q) is (49/4)·(1 − (u/4)²). -/
def interpRaw (ph : Nat) (k : Int) : Int :=
  let u256 : Int := 256 * k - ph
  if u256 = 0 then (fxI0 (49 * fxOne / 4) : Nat)
  else
    let x : Int := fxPi * u256 / 256
    let sinc : Int := fxSin x * (fxOne : Int) / x
    let q : Nat := (49 * ((1048576 : Int) - u256 * u256) * fxOne / 4194304).toNat
    sinc * (fxI0 q : Nat) / (fxOne : Int)

/-- Taps k = −3 … 4 of phase `ph` rounded to Q2.30, before the sum is corrected. -/
def interpRounded (ph : Nat) : List Int :=
  let raw := (List.range 8).map (fun (i : Nat) => interpRaw ph ((i : Int) - 3))
  let sum := raw.foldl (· + ·) 0
  raw.map (fun v => if sum = 0 then 0 else (2 * v * 2 ^ 30 + sum).fdiv (2 * sum))

/-- Index of the tap of largest magnitude, the lowest winning a tie. -/
def argMaxAbs (l : List Int) : Nat :=
  (l.foldl (fun (a : Nat × Nat × Int) v => if v.natAbs > a.2.2.natAbs ∨ a.1 = 0 then (a.1 + 1, a.1, v) else (a.1 + 1, a.2.1, a.2.2))
    (0, 0, 0)).2.1

/-- The interpolator's taps h_φ[−3 … 4] in Q2.30, each phase summing to exactly 1.0 (R117). -/
def interpTaps (ph : Nat) : List Int :=
  let l := interpRounded ph
  let d := (2 : Int) ^ 30 - l.foldl (· + ·) 0
  l.modify (argMaxAbs l) (· + d)

/-- Rounding to nearest, ties toward +∞, dropping `k` fractional bits. -/
def rnd (k : Nat) (x : Int) : Int := (x + 2 ^ (k - 1)).fdiv (2 ^ k)

/-- A sum in the accumulator format (62 fractional bits) rounded and saturated to Q1.31. -/
def accQ31 (a : Int) : Int := satS 32 (rnd 31 a)

/-- Σ h[k]·x[t − D − k], k = −3 … 4, in the accumulator format; `x` gives the sample `d` frames ago, and no sample of the
future is read. -/
def interpSum (ph d : Nat) (x : Nat → Int) : Int :=
  ((interpTaps ph).zipIdx.foldl (fun a p =>
    let k : Int := (p.2 : Int) - 3
    let ago : Int := (d : Int) + k
    if ago < 0 then a else a + 2 * (p.1 * x ago.toNat)) 0)

/-- Push a value on a history, newest first, at most `n` long; leading silence is not stored. -/
def pushHist (n : Nat) (x : Int) (l : List Int) : List Int :=
  if x = 0 ∧ l = [] then [] else (x :: l).take n

/-- The value `d` frames ago; zero before the history began. -/
def ago (l : List Int) (d : Nat) : Int := l.getD d 0

/-- The blend ((2^30 − a)·old + a·new) / 2^30 of two samples, rounded and saturated once to Q1.31. [DEDUCED, unsafe: log entry 47] -/
def blend30 (a old new : Int) : Int := satS 32 (rnd 30 ((2 ^ 30 - a) * old + a * new))

/-- One biquad in transposed direct form II (R159): output Q9.31 and next state Q12.52, and the number of saturations. -/
def biquad (c : List Int) (x : Int) (st : Int × Int) : Int × (Int × Int) × Nat :=
  let b0 := nth 0 c 0; let b1 := nth 0 c 1; let b2 := nth 0 c 2; let a1 := nth 0 c 3; let a2 := nth 0 c 4
  -- products have 60 fractional bits, the state 52
  let yr := rnd 29 (b0 * x + st.1 * 2 ^ 8)
  let y := satS 40 yr
  let n1 := rnd 8 (b1 * x - a1 * y + st.2 * 2 ^ 8)
  let n2 := rnd 8 (b2 * x - a2 * y)
  (y, (satS 64 n1, satS 64 n2), b2n (satClips 40 yr) + b2n (satClips 64 n1) + b2n (satClips 64 n2))

end Sys2Proof.Machine
end

