-- ==== Sys2Proof/Machine/Num.lean ====
section
/-!
DEFINITION. Arithmetic of the Panner and of the layout service: IEEE 754 binary32 and binary64 operations rounded to nearest
even (R91, R106), and real functions evaluated in fixed point with 120 fractional bits, which the named formats then round.
-/
namespace Sys2Proof.Machine

/-! ### Binary floating point -/

/-- A binary format: precision, exponent of the smallest subnormal, exponent of the overflow threshold. -/
structure Fmt where
  prec : Nat
  emin : Int
  emax : Int
  deriving DecidableEq, Repr

def f32 : Fmt := { prec := 24, emin := -149, emax := 128 }
def f64 : Fmt := { prec := 53, emin := -1074, emax := 1024 }

/-- A value m·2^e, or no number: a quotient by zero, an overflow, or what is computed from one. Comparisons with it are false.
[DEDUCED, unsafe: log entry 145] -/
inductive Fp where
  | num (m e : Int)
  | nan
  deriving DecidableEq, Repr

/-- n·2^k for any k, as a fraction: numerator and denominator. -/
def scale2 (n : Int) (k : Int) : Int × Nat := if 0 ≤ k then (n * 2 ^ k.toNat, 1) else (n, 2 ^ (-k).toNat)

/-- floor(log2(a/d)) of positive numbers. -/
def log2Frac (a d : Nat) : Int :=
  let k : Int := (Nat.log2 a : Int) - (Nat.log2 d : Int)
  if (if 0 ≤ k then decide (d * 2 ^ k.toNat ≤ a) else decide (d ≤ a * 2 ^ (-k).toNat)) then k else k - 1

/-- n/d·2^e rounded to nearest even. -/
def Fp.ofRat (f : Fmt) (n : Int) (d : Nat) (e : Int) : Fp :=
  if d = 0 then .nan
  else if n = 0 then .num 0 0
  else
    let top := log2Frac n.natAbs d + e
    let u := max (top - ((f.prec : Int) - 1)) f.emin
    let q := scale2 n (e - u)
    let m := if n < 0 then -roundEven (-q.1) (q.2 * d) else roundEven q.1 (q.2 * d)
    if f.emax ≤ log2Frac (max m.natAbs 1) 1 + u then .nan else .num m u

def Fp.ofInt (f : Fmt) (n : Int) : Fp := Fp.ofRat f n 1 0
def Fp.zero : Fp := .num 0 0
def Fp.one : Fp := .num 1 0

/-- Two numbers over one exponent. -/
def Fp.align (a b : Int × Int) : Int × Int × Int :=
  let e := min a.2 b.2
  (a.1 * 2 ^ (a.2 - e).toNat, b.1 * 2 ^ (b.2 - e).toNat, e)

def Fp.add (f : Fmt) : Fp → Fp → Fp
  | .num m e, .num n k => let r := Fp.align (m, e) (n, k); Fp.ofRat f (r.1 + r.2.1) 1 r.2.2
  | _, _ => .nan
def Fp.neg : Fp → Fp
  | .num m e => .num (-m) e
  | .nan => .nan
def Fp.sub (f : Fmt) (a b : Fp) : Fp := Fp.add f a (Fp.neg b)
def Fp.mul (f : Fmt) : Fp → Fp → Fp
  | .num m e, .num n k => Fp.ofRat f (m * n) 1 (e + k)
  | _, _ => .nan
def Fp.div (f : Fmt) : Fp → Fp → Fp
  | .num m e, .num n k => Fp.ofRat f (if n < 0 then -m else m) n.natAbs (e - k)
  | _, _ => .nan

/-- The square root, rounded to nearest even: the root of enough digits with a sticky digit below them. -/
def Fp.sqrt (f : Fmt) : Fp → Fp
  | .num m e =>
    if m < 0 then .nan
    else
      let k : Nat := 2 * f.prec + 4 + (e % 2).toNat
      let n := m.toNat * 2 ^ k
      let r := Nat.sqrt n
      Fp.ofRat f (2 * r + b2n (r * r != n) : Nat) 1 ((e - k) / 2 - 1)
  | .nan => .nan

def Fp.lt : Fp → Fp → Bool
  | .num m e, .num n k => let r := Fp.align (m, e) (n, k); decide (r.1 < r.2.1)
  | _, _ => false
def Fp.le : Fp → Fp → Bool
  | .num m e, .num n k => let r := Fp.align (m, e) (n, k); decide (r.1 ≤ r.2.1)
  | _, _ => false
def Fp.abs : Fp → Fp
  | .num m e => .num m.natAbs e
  | .nan => .nan
def Fp.isZero (a : Fp) : Bool := match a with | .num m _ => m == 0 | .nan => false
def Fp.maxZero (a : Fp) : Fp := if Fp.lt a .zero then .zero else a

/-- A value with `k` fractional bits rounded to nearest, ties toward +∞; no number reads zero. -/
def Fp.toFix (k : Nat) : Fp → Int
  | .num m e => let q := scale2 m (e + k); roundDiv q.1 q.2
  | .nan => 0

/-- A sum in list order, each addition rounded. -/
def Fp.sum (f : Fmt) (l : List Fp) : Fp := l.foldl (Fp.add f) .zero

/-! ### Real functions in fixed point -/

def fxLn2 : Int := 921350637599661305226344307672478454
def fxLn10 : Int := 3060660568284699479708353448060341288

/-- A ratio in fixed point. -/
def fxRat (n : Int) (d : Nat) : Int := (n * (fxOne : Int)).fdiv d
def fxMul (a b : Int) : Int := (a * b).fdiv (fxOne : Int)
def fxDiv (a b : Int) : Int := if b = 0 then 0 else (a * (fxOne : Int)).fdiv b
def fxSqrt (x : Int) : Int := (Nat.sqrt (x.toNat * fxOne) : Nat)

/-- sin and cos of any argument, reduced to one turn. -/
def fxSinR (x : Int) : Int :=
  let y := x % (2 * fxPi)
  fxSin (if fxPi < y then y - 2 * fxPi else y)
def fxCosR (x : Int) : Int := fxSinR (x + fxPi / 2)

/-- Σ t^k/k!, `n` terms. -/
def fxExpAux (x : Int) : Nat → Nat → Int → Int → Int
  | 0, _, _, acc => acc
  | f + 1, k, t, acc => fxExpAux x f (k + 1) (fxMul t x / ((k + 1 : Nat) : Int)) (acc + t)

/-- e^x: x = k·ln 2 + r with 0 ≤ r < ln 2. -/
def fxExp (x : Int) : Int :=
  let k := x.fdiv fxLn2
  let y := fxExpAux (x - k * fxLn2) 40 0 (fxOne : Int) 0
  if 0 ≤ k then y * 2 ^ k.toNat else y.fdiv (2 ^ (-k).toNat)

/-- Σ t^(2k+1)/(2k+1), the signs alternating where `alt`. -/
def fxOddAux (alt : Bool) (t2 : Int) : Nat → Nat → Int → Int → Int
  | 0, _, _, acc => acc
  | f + 1, k, t, acc =>
    fxOddAux alt t2 f (k + 1) (fxMul t t2) (if alt && k % 2 = 1 then acc - t / ((2 * k + 1 : Nat) : Int) else acc + t / ((2 * k + 1 : Nat) : Int))

/-- ln(n/d) of a positive fraction: n/d = m·2^k with 1 ≤ m < 2, and ln m = 2 artanh((m − 1)/(m + 1)). -/
def fxLnRat (n d : Nat) : Int :=
  if n = 0 ∨ d = 0 then 0
  else
    let k := log2Frac n d
    let m : Int := if 0 ≤ k then fxRat n (d * 2 ^ k.toNat) else fxRat ((n : Int) * 2 ^ (-k).toNat) d
    let t := fxDiv (m - fxOne) (m + fxOne)
    k * fxLn2 + 2 * fxOddAux false (fxMul t t) 42 0 t 0
def fxLn (x : Int) : Int := fxLnRat x.toNat fxOne

/-- arctan of 0 ≤ t ≤ 1: three halvings of the angle, then the series. -/
def fxAtan01 (t : Int) : Int :=
  let half := fun (t : Int) => fxDiv t ((fxOne : Int) + fxSqrt ((fxOne : Int) + fxMul t t))
  let u := half (half (half t))
  8 * fxOddAux true (fxMul u u) 22 0 u 0

/-- The angle of (x, y) in (−π, π], 0 at the origin. -/
def fxAtan2 (y x : Int) : Int :=
  let ay := (y.natAbs : Int); let ax := (x.natAbs : Int)
  let a := if ax = 0 ∧ ay = 0 then 0 else if ay ≤ ax then fxAtan01 (fxDiv ay ax) else fxPi / 2 - fxAtan01 (fxDiv ax ay)
  let b := if x < 0 then fxPi - a else a
  if y < 0 then -b else b

/-- 10^(n/d). -/
def fxPow10 (n : Int) (d : Nat) : Int := fxExp ((n * fxLn10).fdiv d)

/-- 10·log10(n/d) in 1/128 dB, in fixed point. -/
def fxLevel (n d : Nat) : Int := fxDiv (1280 * fxLnRat n d) fxLn10

/-- The peak amplitude of a sine of level l/(128·e) dBFS, `d` = 2,560·e, against full scale (R14, R427). -/
def fxAmp (l : Int) (d : Nat) : Int := fxMul (fxPow10 l d) (fxRat 0x7FFFFFFF 0x80000000)

/-- A fixed-point number rounded to `k` fractional bits (nearest, ties toward +∞), or to a binary format. -/
def fxTo (k : Nat) (x : Int) : Int := rnd (120 - k) x

/-- The RMS level in 1/128 dB of `n` Q1.31 samples whose squares sum to `q`: 0 dBFS is the RMS of a sine whose peak is 0x7FFFFFFF
(R14). [DESIGN CHOICE, unsafe: log entry 97] -/
def rmsLevel (q n : Nat) : Int := fxTo 0 (fxLevel (2 * q) (n * (0x7FFFFFFF * 0x7FFFFFFF)))

def fxToFp (f : Fmt) (x : Int) : Fp := Fp.ofRat f x 1 (-120)
def Fp.toFx : Fp → Int := Fp.toFix 120

/-! ### Points and directions (R83, R85) -/

/-- A point (x, y, z) in 1/65,536 m, and a triangle by its three corners. -/
abbrev P3 := Int × Int × Int
abbrev T3 := P3 × P3 × P3
/-- A vector of binary floating-point values. -/
abbrev V3 := Fp × Fp × Fp

def P3.dot (a b : P3) : Int := a.1 * b.1 + a.2.1 * b.2.1 + a.2.2 * b.2.2
def P3.cross (a b : P3) : P3 := (a.2.1 * b.2.2 - a.2.2 * b.2.1, a.2.2 * b.1 - a.1 * b.2.2, a.1 * b.2.1 - a.2.1 * b.1)
/-- det(a, b, c), rows a, b and c. -/
def P3.det (a b c : P3) : Int := P3.dot a (P3.cross b c)

/-- |p| is less than 1/256 m (R85). -/
def P3.near (p : P3) : Bool := decide (P3.dot p p < 65536)

/-- The square of the distance of a point, in 2^-32 m²; a point nearer than 1/256 m stands at 1/256 m (R85). -/
def P3.dist2 (p : P3) : Nat := if P3.near p then 65536 else (P3.dot p p).toNat

/-- The distance of a point in 1/65,536 m, in fixed point. -/
def P3.dist (p : P3) : Int := (Nat.sqrt (P3.dist2 p * fxOne * fxOne) : Nat)

/-- The direction of a point: p/|p|, or (0, 1, 0) for a point nearer than 1/256 m (R85). [DESIGN CHOICE, unsafe: log entry 37] -/
def V3.dir (f : Fmt) (p : P3) : V3 :=
  if P3.near p then (.zero, .one, .zero)
  else
    let c := fun (x : Int) => Fp.ofRat f x 65536 0
    let x := c p.1; let y := c p.2.1; let z := c p.2.2
    let r := Fp.sqrt f (Fp.add f (Fp.add f (Fp.mul f x x) (Fp.mul f y y)) (Fp.mul f z z))
    (Fp.div f x r, Fp.div f y r, Fp.div f z r)

/-- a·b, the products summed in ascending index. -/
def V3.dot (f : Fmt) (a b : V3) : Fp :=
  Fp.add f (Fp.add f (Fp.mul f a.1 b.1) (Fp.mul f a.2.1 b.2.1)) (Fp.mul f a.2.2 b.2.2)
def V3.sub (f : Fmt) (a b : V3) : V3 := (Fp.sub f a.1 b.1, Fp.sub f a.2.1 b.2.1, Fp.sub f a.2.2 b.2.2)
def V3.cross (f : Fmt) (a b : V3) : V3 :=
  let m := fun (p q r t : Fp) => Fp.sub f (Fp.mul f p q) (Fp.mul f r t)
  (m a.2.1 b.2.2 a.2.2 b.2.1, m a.2.2 b.1 a.1 b.2.2, m a.1 b.2.1 a.2.1 b.1)
/-- det(a, b, c), rows a, b and c. -/
def V3.det (f : Fmt) (a b c : V3) : Fp := V3.dot f a (V3.cross f b c)
def V3.norm (f : Fmt) (a : V3) : Fp := Fp.sqrt f (V3.dot f a a)

end Sys2Proof.Machine
end

