-- ==== Sys2Proof/Machine/Tab.lean ====
section
/-!
DEFINITION. Sparse tables as plain data: a list of (key, value) pairs in one canonical form, keys strictly rising and no
entry equal to what an unlisted key reads as. Registers, memory and every numbered item of a unit are held this way.
-/
namespace Sys2Proof.Machine

/-- A sparse table. -/
abbrev Tab (α : Type) := List (Nat × α)

variable {α : Type}

/-- What the table holds at `k`; `d k` where nothing is listed. -/
def Tab.get (d : Nat → α) : Tab α → Nat → α
  | [], k => d k
  | (k', v) :: t, k => if k' = k then v else Tab.get d t k

/-- The table with nothing listed at `k`. -/
def Tab.erase : Tab α → Nat → Tab α
  | [], _ => []
  | (k', v) :: t, k => if k' = k then Tab.erase t k else (k', v) :: Tab.erase t k

/-- The table with `v` listed at `k`, in key order. -/
def Tab.put : Tab α → Nat → α → Tab α
  | [], k, v => [(k, v)]
  | (k', v') :: t, k, v =>
    if k < k' then (k, v) :: (k', v') :: t
    else if k = k' then (k, v) :: t
    else (k', v') :: Tab.put t k v

/-- A write: the canonical form lists nothing at `k` when `v` is what an unlisted `k` reads as. -/
def Tab.set [DecidableEq α] (d : Nat → α) (t : Tab α) (k : Nat) (v : α) : Tab α :=
  if v = d k then Tab.erase t k else Tab.put (Tab.erase t k) k v

/-- Keys rise strictly, and start above `lo` where a bound is given. -/
def Tab.sortedFrom : Option Nat → Tab α → Bool
  | _, [] => true
  | none, (k, _) :: t => Tab.sortedFrom (some k) t
  | some b, (k, _) :: t => decide (b < k) && Tab.sortedFrom (some k) t

/-- The canonical form. -/
def Tab.wf [DecidableEq α] (d : Nat → α) (t : Tab α) : Bool :=
  Tab.sortedFrom none t && t.all (fun p => decide (p.2 ≠ d p.1))

/-- Any list of pairs put into canonical form, later pairs winning; a table that has the form stays as it is. -/
def Tab.canon [DecidableEq α] (d : Nat → α) (t : Tab α) : Tab α :=
  if Tab.wf d t then t else t.foldl (fun acc p => Tab.set d acc p.1 p.2) []

/-- Apply `f` to every listed entry, keeping the canonical form. -/
def Tab.mapVals [DecidableEq α] (d : Nat → α) (f : Nat → α → α) (t : Tab α) : Tab α :=
  t.foldl (fun acc p => Tab.set d acc p.1 (f p.1 p.2)) []

/-- The table without the keys that `p` picks. -/
def Tab.drop (p : Nat → Bool) (t : Tab α) : Tab α := t.filter (fun e => !p e.1)

/-- The listed keys. -/
def Tab.keys (t : Tab α) : List Nat := t.map (·.1)

end Sys2Proof.Machine
end

