-- ==== Sys2Proof/Machine/Parts.lean ====
section
/-!
DEFINITION. Parts of the units' state that a Hoop resynchronisation item carries (R555): trajectories, object state, correction
channels, Router sinks and generators, and power-stage channels.
-/
namespace Sys2Proof.Machine

/-- A trajectory of R142: from `v0` in frame `s` to `v1` in frame `h`; `h ≤ s` is an immediate step. -/
structure Ramp where
  v0 : Int := 0
  v1 : Int := 0
  s : Nat := 0
  h : Nat := 0
  deriving DecidableEq, Repr

/-- A point in 1/65,536 m (R13, R83). -/
structure Pos where
  x : Int := 0
  y : Int := 0
  z : Int := 0
  deriving DecidableEq, Repr

/-- What the Panner holds of one object (R102, R122, R123). -/
structure ObjPan where
  gain : Int := 0
  spreadW : Nat := 0
  spreadD : Nat := 0
  spreadH : Nat := 0
  snap : Nat := 0
  zone : Nat := 0
  prio : Nat := 0
  /-- most recent position and its presentation frame -/
  last : Option (Pos × Nat) := none
  /-- the position before it with a distinct frame since the last jump -/
  prev : Option (Pos × Nat) := none
  /-- a rate change cleared the velocity history: `last` starts no velocity (R124) -/
  cleared : Bool := false
  /-- a record with jump = 1 acts at the next load -/
  jump : Bool := false
  late : Bool := false
  held : Bool := false
  /-- reported object state of the last solve (R134) -/
  solvedPos : Pos := {}
  snapped : Bool := false
  tri : Nat := 0
  deriving DecidableEq, Repr

/-- The front end of one object (R112 to R117, R603). -/
structure FrontEnd where
  enabled : Bool := false
  trim : Ramp := {}
  fade : Ramp := {}
  recGain : Ramp := { v0 := 0x08000000, v1 := 0x08000000 }
  distGain : Ramp := { v0 := 0x40000000, v1 := 0x40000000 }
  /-- b0 b1 b2 a1 a2 -/
  coef : List Ramp := [{ v0 := 0x20000000, v1 := 0x20000000 }, {}, {}, {}, {}]
  /-- corner frequency in Hz of the targets in force (R114); zero without a filter -/
  fc : Fp := Fp.num 0 0
  /-- filter state Q12.52 -/
  s1 : Int := 0
  s2 : Int := 0
  /-- applied delay trajectory in 1/256 sample, and the target still to be reached (R116) -/
  delay : Ramp := {}
  target : Nat := 0
  mode : Nat := 0
  /-- a jump cross-fade: weight trajectory, old delay and old mode -/
  jump : Option (Ramp × Nat × Nat) := none
  /-- the first target after enabling has loaded -/
  primed : Bool := false
  bed : Bool := false
  /-- on-chip history of the delay line since the object was enabled, newest first; older samples stand in DRAM (R118) -/
  line : List Int := []
  /-- the line was cleared at this frame: earlier samples read zero (R124) -/
  clearedAt : Nat := 0
  /-- the last output sample -/
  last : Int := 0
  deriving DecidableEq, Repr

/-- A bank transition of one output (R177). -/
structure Transition where
  start : Nat := 0
  rx : Nat := 0
  /-- the bank being left -/
  old : Nat := 0
  endFrame : Nat := 0
  deriving DecidableEq, Repr

/-- One block of a partition (R162, R163), with the bank and the transition at its release. Of P0 the block's values stand on chip,
once complete; the other partitions' values stand in DRAM (R161). -/
structure PartBlock where
  p : Nat := 0
  start : Nat := 0
  bank : Nat := 0
  trans : Option Transition := none
  vals : List Int := []
  complete : Bool := false
  late : Bool := false
  deriving DecidableEq, Repr

/-- A shedding (`up` false) or a re-admission of a tier at `frame`, with the length of its fade (R167). -/
structure TierEvent where
  tier : Nat := 0
  frame : Nat := 0
  len : Nat := 0
  up : Bool := false
  deriving DecidableEq, Repr

/-- One correction channel (R157 to R177). -/
structure CorrOut where
  bank : Nat := 0
  /-- preparation of bank A, B has succeeded since its last write -/
  prepA : Bool := true
  prepB : Bool := true
  /-- prepared taps in Q4.28, lowest first -/
  tapsA : List Int := []
  tapsB : List Int := []
  /-- FIR length L of each bank as prepared -/
  lenA : Nat := 0
  lenB : Nat := 0
  gain : Ramp := { v0 := 0x08000000, v1 := 0x08000000 }
  mute : Ramp := { v0 := 0x40000000, v1 := 0x40000000 }
  trans : Option Transition := none
  /-- biquad states (s1, s2) of the cascade in force and of the one being left -/
  iir : List (Int × Int) := []
  iirOld : List (Int × Int) := []
  /-- FIR inputs u, newest first, and the frame of the newest -/
  u : List Int := []
  uAt : Nat := 0
  /-- input spectra held, by FDL size (0 to 3), and the frame whose input the newest ends at -/
  fdl : Tab Nat := []
  fdlAt : Tab Nat := []
  /-- block exponents of the spectra: 32b + p of bank b's partition p, 64 + 4k + slot of the FDL of size 2^(7+k) (R181) -/
  exps : Tab Nat := []
  blocks : List PartBlock := []
  /-- FIR outputs v on chip, newest first, for the alignment delay; the ring in DRAM holds the older ones (R169) -/
  v : List Int := []
  /-- the output sample z_j in Q1.31 -/
  z : Int := 0
  deriving DecidableEq, Repr

/-- One Router sink (R418, R421 to R423). [DEDUCED, unsafe: log entry 94] -/
structure Sink where
  src : Nat := 0
  /-- a cross-fade: the old source and the weight of the new one -/
  xfade : Option (Nat × Ramp) := none
  held : Option Nat := none
  deriving DecidableEq, Repr

/-- One test generator (R427, R428). -/
structure Gen where
  /-- type running; 0 off -/
  kind : Nat := 0
  /-- a fade-out in progress ends in this type -/
  next : Option Nat := none
  phase : Nat := 0
  wrapped : Bool := false
  /-- LFSR state, the seeded state, and samples since the start -/
  lfsr : Nat := 0
  seeded : Nat := 0
  count : Nat := 0
  /-- level in 1/128 dB, and the fade -/
  level : Ramp := { v0 := -16384, v1 := -16384 }
  fade : Ramp := {}
  /-- samples before the output delay, newest first -/
  line : List Int := []
  deriving DecidableEq, Repr

/-- The level of a PWM pin (R289). -/
inductive PinLevel where
  | low | high | mid
  deriving DecidableEq, Repr

/-- The signal path and the modulator of one power-stage channel (R291 to R296, R313, R314, R325). Instants in a frame are counted in
edge steps from the start of the channel's output frame. -/
structure PsMod where
  /-- the output register: the sample of the frame that waits for its phase; and the samples given to the upsampler, newest first -/
  reg : Int := 0
  hist : List Int := []
  /-- limiter gains at the end of the last frame (R291) -/
  gPl : Int := 0x40000000
  gSag : Int := 0x40000000
  /-- the last two values at Fm: modulation index in Q2.30, or demand in Q1.31 of sense full scale -/
  d1 : Int := 0
  d2 : Int := 0
  /-- rounding error carried into the next edge of leg A, B, in 2^-32 step (R294) -/
  errA : Int := 0
  errB : Int := 0
  /-- comparator output of leg A, B -/
  upA : Bool := false
  upB : Bool := false
  /-- pin levels at the start of the output frame, and its edges: instant, leg B, new level -/
  pwmA : PinLevel := .mid
  pwmB : PinLevel := .mid
  edges : List (Int × Bool × PinLevel) := []
  /-- local-counter instant, and edge step since the epoch's first tick, at which the output frame starts -/
  since : Nat := 0
  base : Nat := 0
  /-- switching waits for a carrier-period boundary (R308) -/
  waits : Bool := false
  /-- the loop: integrators with 62 fractional bits, last y, state POSITIVE, instant of the last edge (R296) -/
  i1 : Int := 0
  i2 : Int := 0
  y : Int := 0
  positive : Bool := false
  edgeAt : Int := 0
  /-- samples since the pilot started; samples and phase of the AC stimulus -/
  pilot : Option Nat := none
  stim : Option (Nat × Nat) := none
  deriving DecidableEq, Repr

/-- The carrier of a group (R293, R303): period and start of channel 0's carrier in edge steps, and a change that waits for its
boundary. -/
structure Carrier where
  n : Nat := 0
  start : Nat := 0
  next : Option (Nat × Nat) := none
  deriving DecidableEq, Repr

/-- One power-stage channel (R290 to R311). [DEDUCED, unsafe: log entry 72] -/
structure PsCh where
  /-- 0 Off, 1 Quiet, 2 Running, 3 Recheck -/
  state : Nat := 0
  latched : Bool := false
  /-- cause of the latch: 1 SHORT, 2 driver fault, 3 loop fault -/
  cause : Nat := 0
  /-- local-counter instant of the latch, and rechecks begun at its multiples since -/
  latchAt : Nat := 0
  rechecks : Nat := 0
  /-- rechecks begun since the latch, commanded ones included -/
  tries : Nat := 0
  /-- instant at which the recheck ends -/
  recheckEnd : Nat := 0
  /-- settings with which the channel runs: mode, early, low_latency, dead_ns -/
  mode : Nat := 0
  early : Bool := false
  lowLat : Bool := false
  dead : Nat := 0
  /-- instant from which switching may start; the channel is Quiet until then (R308) -/
  startDue : Option Nat := none
  /-- a ramp-down in progress ends in 1 a restart or 2 Off -/
  stopTo : Nat := 0
  ramp : Ramp := {}
  vfs : Ramp := {}
  /-- the power-limit gain in Q2.30, and P_avg in 0.1 W with 32 fractional bits (R304) -/
  gPl : Int := 0x40000000
  pAvg : Nat := 0
  clip : Nat := 0
  oc : Nat := 0
  /-- the last switching cycle with an over-current, and how many up to it were successive (R304) -/
  ocCycle : Nat := 0
  ocRun : Nat := 0
  /-- hysteresis in Q1.31, closed-loop delay in ns, lock target in 1/256 Hz, lock and counts of epochs (R297, R298) -/
  h : Nat := 0
  tLoop : Nat := 0
  target : Nat := 0
  locked : Bool := false
  lockRun : Nat := 0
  outRun : Nat := 0
  farRun : Nat := 0
  /-- the first start after a device reset has completed (R326) -/
  started : Bool := false
  /-- the sample taken from the sink in the last frame, and the instant from which the input has been silent -/
  x : Int := 0
  silentSince : Option Nat := none
  /-- on a Hoop standby, the hysteresis that the active last reported (R307) -/
  peerH : Option Nat := none
  /-- a clock error abandoned the channel's recheck, which runs again after the clock recovers (R305) -/
  redo : Bool := false
  mod : PsMod := {}
  deriving DecidableEq, Repr

/-- An object record (R102), fields as received. -/
structure ObjRecord where
  obj : Nat := 0
  flags : Nat := 0
  pos : Pos := {}
  gain : Int := 0
  spreadW : Nat := 0
  spreadD : Nat := 0
  spreadH : Nat := 0
  snap : Nat := 0
  zone : Nat := 0
  prio : Nat := 0
  deriving DecidableEq, Repr

/-- A burst on the Weave (R487, R500). -/
structure Burst where
  initiator : Nat := 0
  write : Bool := false
  addr : Nat := 0
  /-- bytes asked for by a read; of a write, bytes with their strobes -/
  len : Nat := 0
  data : List (Byte × Bool) := []
  /-- part of a locked sequence, and its final transfer -/
  locked : Bool := false
  final : Bool := false
  /-- the target reports an error of its own (environment) -/
  targetErr : Bool := false
  /-- of a fetch engine's write, the release frame of the activation that writes (R555) -/
  release : Nat := 0
  deriving DecidableEq, Repr

/-- One received subframe of AES3 or AES10: the 24-bit word, validity and user bits, and a parity error. -/
abbrev Subframe := Nat × Bool × Bool × Bool

/-- Four sums Σ v cos, −Σ v sin, Σ i cos, −Σ i sin, in units of 2^-62 (R316, R325). -/
abbrev Sums := Int × Int × Int × Int

end Sys2Proof.Machine
end

