-- ==== Sys2Proof/Syntax.lean ====
section
/-!
DEFINITION. The commands that the block takes, one constructor per row of the table of operations and events, with the
operands that the spec's text gives each: register values, addresses, times, samples and messages that come from outside.
-/
namespace Sys2Proof

/-- A received Announce message's data set (R387). -/
structure Announce where
  domain : Nat := 0
  priority1 : Nat := 128
  clockClass : Nat := 248
  accuracy : Nat := 0xFE
  variance : Nat := 0xFFFF
  priority2 : Nat := 128
  gmId : Nat := 0
  stepsRemoved : Nat := 0
  /-- port identity of the sender, and its IPv4 address -/
  sender : Nat := 0
  addr : Nat := 0
  deriving DecidableEq, Repr

/-- A received media datagram after its CSRC entries, extension and padding (R407). -/
structure RtpPacket where
  dst : Nat := 0
  dport : Nat := 0
  src : Nat := 0
  version : Nat := 2
  pt : Nat := 0
  seq : Nat := 0
  ts : Nat := 0
  ssrc : Nat := 0
  payload : List Byte := []
  deriving DecidableEq, Repr

/-- A descriptor of a transmit ring in host memory, with the frame it names (R397). -/
structure HtxDesc where
  len : Nat := 0
  tsReq : Bool := false
  tag : Nat := 0
  frame : List Byte := []
  deriving DecidableEq, Repr

/-- What the surroundings show to a start attempt (R505 to R508, R527, R528). [DEDUCED, unsafe: log entry 114] -/
structure StartEnv where
  /-- BOOTSEL1, BOOTSEL0 and the ROLE pin, sampled at a reset release -/
  bootsel : Nat := 0
  role : Bool := false
  /-- the PLL and both audio masters lock within 3 ms -/
  pllLock : Bool := true
  /-- set points whose training fails, one bit each -/
  trainFail : Nat := 0
  /-- terms of the self-test window that hold: VCORE, VIO, REFCLK_IN, Tj, one bit each -/
  window : Nat := 15
  /-- a VIO bank lies within neither range at reset release (R585) -/
  badBank : Bool := false
  /-- the first failing part (1 to 4) and item of the full test -/
  testFail : Option (Nat × Nat) := none
  /-- CLAIM_IN_N is low -/
  claimIn : Bool := false
  /-- time that the steps before the image load take, in ns -/
  elapsed : Nat := 0
  deriving DecidableEq, Repr

/-- A received Hoop heartbeat (R545). -/
structure Heartbeat where
  /-- the sender's role (1 primary, 2 secondary) and HOOP_STATUS state -/
  role : Nat := 0
  state : Nat := 0
  id : Nat := 0
  variant : Nat := 0
  build : Nat := 0
  claim : Bool := false
  /-- the sender is in Safe-Hold, frozen or otherwise unable to claim -/
  unable : Bool := false
  /-- the sender's tick less this device's, in ns (R539) -/
  offset : Int := 0
  /-- the tier that the sender's BUDGET computed (R282) -/
  tier : Option Nat := none
  /-- the message's CRC is good (R544) -/
  crcOk : Bool := true
  deriving DecidableEq, Repr

/-- A received frame record (R545, R547): the active's decisions for frame `frame`. -/
structure FrameRecord where
  frame : Nat := 0
  /-- the active's output CRC of frame n − 2 -/
  crc : Option Nat := none
  /-- an admitted-tier change: epoch frame and tier -/
  tier : Option (Nat × Nat) := none
  /-- latch decisions of the port inputs: page, kind (0 newest, 1 repeat, 2 overrun) and φ of an ASRC (R362) -/
  inputs : List (Nat × Nat × Nat) := []
  /-- receive streams and whether the sample was present (R410) -/
  streams : List (Nat × Bool) := []
  /-- the host slot was read -/
  hostIn : Bool := false
  /-- Audio-tap samples by chain (R448) -/
  taps : List (Nat × Int) := []
  /-- power-limit gains by channel, and rail-sag gains by group (R304, R306) -/
  plGains : List (Nat × Int) := []
  sagGains : List (Nat × Int) := []
  /-- verdict changes: channel and verdict (R322) -/
  verdicts : List (Nat × Nat) := []
  /-- object records with their presentation frames (R132) -/
  records : List (Machine.ObjRecord × Nat) := []
  /-- by leader of a gang: the ratio in Q8.40, 0 where the engine has lost lock, and the input sample index at the frame's output
  sample in Q.40 (R368) -/
  ratios : List (Nat × Nat × Nat) := []
  /-- hysteresis of the self-oscillating channels (R307) -/
  hyst : List (Nat × Nat) := []
  /-- the tick h of a planned handover (R557) -/
  handover : Option Nat := none
  /-- Direct misses and late activations of the frame reported on (R551) -/
  decisions : List Nat := []
  crcOk : Bool := true
  deriving DecidableEq, Repr

/-- An item of a resync message (R555). -/
inductive ResyncItem where
  /-- a block of the object delay-line region, at its address in DRAM -/
  | line (addr : Nat) (bytes : List Byte)
  | object (obj : Nat) (pan : Machine.ObjPan) (fe : Machine.FrontEnd)
  /-- a Warp row: its nodes by column, and its ramp record -/
  | warpRow (row : Nat) (nodes : List (Nat × Machine.Ramp)) (rec' : Option (Nat × Nat))
  | corr (out : Nat) (ch : Machine.CorrOut)
  | routeNodes (out : Nat) (nodes : List (Nat × Machine.Ramp))
  | routeParts (sinks : List (Nat × Machine.Sink)) (gens : List (Nat × Machine.Gen))
  | pstg (chans : List (Nat × Machine.PsCh)) (sag : List (Nat × Int))
  /-- half 0 X, 1 Y of a core's local memory -/
  | osier (core half : Nat) (bytes : List Byte)
  | region (addr : Nat) (bytes : List Byte)
  deriving DecidableEq, Repr

/-- What the surroundings show in the frame that a tick begins. -/
structure TickEnv where
  /-- CLAIM_IN_N at the tick: 0 high, 1 low, 2 floating (R541, R543) -/
  claimIn : Nat := 0
  /-- converter samples of the capture chains, by chain (R439 to R441) -/
  capt : List (Nat × Int) := []
  /-- power-stage channels: measured power in 0.1 W (R304), and Loop-tap samples of voltage and current in Q1.31 (R296);
  groups: rail in 1/256 V (R306) -/
  power : List (Nat × Nat) := []
  sense : List (Nat × List (Int × Int)) := []
  rails : List (Nat × Nat) := []
  /-- objects whose delay-line prefetch is absent (R26), and objects that the solve did not finish (R119) -/
  prefetchMiss : List Nat := []
  unsolved : List Nat := []
  /-- sinks whose output register a faulty fixed unit does not load (R29, R540) -/
  unloaded : List Nat := []
  deriving DecidableEq, Repr

/-- The operand fields, move slots and control slot that a bundle holds beside what a row names (R227). -/
structure Slots where
  d : BitVec 4 := 0
  a : BitVec 4 := 0
  b : BitVec 4 := 0
  c : BitVec 4 := 0
  x : BitVec 14 := 0
  y : BitVec 14 := 0
  ctl : BitVec 12 := 0
  deriving DecidableEq, Repr

/-- The fields of a move (R233). -/
structure MoveArgs where
  r : BitVec 4 := 0
  areg : BitVec 2 := 0
  mod : BitVec 2 := 0
  deriving DecidableEq, Repr

/-- The commands, one for each row of the opcode table; the rows with operands come first, those without after them. An `ini` is the
number of the initiator that makes an access (R490). [DESIGN CHOICE, safe: log entry 140] -/
inductive Instr where
  /-- FRAME_TICK (R20). -/
  | frameTick (env : TickEnv)
  /-- DIRECT_WINDOW_END (R21). -/
  | directWindowEnd (slack : Option Nat)
  /-- REGISTER_WRITE (R49). -/
  | registerWrite (ini : Nat) (addr : Nat) (v : Word)
  /-- LO_READ_LATCH (R12). -/
  | loReadLatch (ini : Nat) (addr : Nat)
  /-- COMMIT_REQUEST (R51). -/
  | commitRequest (page : Nat) (alsoCancel : Bool)
  /-- COMMIT_CANCEL (R46). -/
  | commitCancel (page : Nat)
  /-- PAGE_ENABLE_WRITE (R46). -/
  | pageEnableWrite (page : Nat) (enable : Bool)
  /-- SOFT_RESET (R56). -/
  | softReset (page : Nat) (enable : Bool)
  /-- FAULT_CAUSE_CLEAR (R46). -/
  | faultCauseClear (page : Nat)
  /-- IRQ_FORCE (R46). -/
  | irqForce (page : Nat) (v : Word)
  /-- IRQ_EOI (R59). -/
  | irqEoi (vector : Nat)
  /-- SPI_READ (R65). -/
  | spiRead (addr : Nat) (words : Nat)
  /-- SPI_WRITE (R65). -/
  | spiWrite (addr : Nat) (words : Nat) (data : List Byte) (crc : Byte)
  /-- DMA_RUN (R68). -/
  | dmaRun (ch : Nat)
  /-- DMA_DESCRIPTOR_DONE (R68). -/
  | dmaDescriptorDone (ch : Nat) (words : List Byte) (data : List Byte)
  /-- PLAIT_OPEN (R72). -/
  | plaitOpen (ini : Nat)
  /-- PLAIT_CAPTURE (R73). -/
  | plaitCapture (ini : Nat) (addr : Nat) (v : Word)
  /-- PLAIT_COMMIT_NEXT_FRAME (R74). -/
  | plaitCommitNextFrame (ini : Nat) (allowTier : Bool)
  /-- PLAIT_COMMIT_FRAME_INDEX (R74). -/
  | plaitCommitFrameIndex (ini : Nat) (allowTier : Bool)
  /-- PLAIT_COMMIT_PTP_TIME (R74). -/
  | plaitCommitPtpTime (ini : Nat) (allowTier : Bool)
  /-- PLAIT_COMMIT_DECISION (R75). -/
  | plaitCommitDecision (slot : Nat)
  /-- PLAIT_ABORT (R78). -/
  | plaitAbort (slot : Nat) (ticket : Nat)
  /-- LAYOUT_BUILD (R88). -/
  | layoutBuild (v : Word)
  /-- OBJECT_LATE (R123). -/
  | objectLate (obj : Nat)
  /-- OBJECT_HOLD (R123). -/
  | objectHold (obj : Nat)
  /-- FELOT_MESSAGE (R130). -/
  | felotMessage (net : Nat) (dstIp : Nat) (dstPort : Nat) (srcIp : Nat) (payload : List Byte)
  /-- WARP_DIRECT_POST (R147). -/
  | warpDirectPost (gain : Word) (busy : Bool)
  /-- CORR_BANK_POST (R177). -/
  | corrBankPost (v : Word)
  /-- CORR_GAIN_POST (R170). -/
  | corrGainPost (v : Word)
  /-- CORR_MUTE_POST (R170). -/
  | corrMutePost (v : Word)
  /-- CORR_PREPARATION (R174). -/
  | corrPreparation (v : Word)
  /-- PARTITION_LATE (R166). -/
  | partitionLate (out : Nat) (part : Nat) (start : Nat)
  /-- TRANSITION_END (R177). -/
  | transitionEnd (out : Nat)
  /-- DEFERRED_RELEASE (R193). -/
  | deferredRelease (node : Nat)
  /-- AFFINITY_WAIT_EXPIRY (R199). -/
  | affinityWaitExpiry (node : Nat)
  /-- NODE_COMPLETE (R201). -/
  | nodeComplete (node : Nat) (writes : List (Nat × Int))
  /-- COIL_SUBMIT (R203). -/
  | coilSubmit (node : Nat)
  /-- ACTIVATION_LATE (R214). -/
  | activationLate (node : Nat)
  /-- DIRECT_COST_STOP (R259). -/
  | directCostStop (core : Nat)
  /-- INSTRUCTION_WRITE (R264). -/
  | instructionWrite (core : Nat) (bundle : Nat) (broadcast : Bool) (w : Word)
  /-- TRANSFER_COMPLETE (R252). -/
  | transferComplete (core : Nat)
  /-- OSIER_WINDOW_ACCESS_RELEASE (R268). -/
  | osierWindowAccessRelease (core : Nat)
  /-- INJECT_PARITY (R267). -/
  | injectParity (core : Nat)
  /-- INJECT_RESIDUE (R267). -/
  | injectResidue (core : Nat)
  /-- NOP (R242). -/
  | nop (core : Nat) (f : Slots)
  /-- BR (R244). -/
  | br (core : Nat) (f : Slots)
  /-- CALL (R248). -/
  | call (core : Nat) (f : Slots)
  /-- JR (R244). -/
  | jr (core : Nat) (f : Slots)
  /-- LOOP (R246). -/
  | loop (core : Nat) (f : Slots)
  /-- LOOPI (R246). -/
  | loopi (core : Nat) (f : Slots)
  /-- ENDL (R247). -/
  | endl (core : Nat) (f : Slots)
  /-- MOVSR (R223). -/
  | movsr (core : Nat) (f : Slots)
  /-- MOVRS (R223). -/
  | movrs (core : Nat) (f : Slots)
  /-- BEXPR (R241). -/
  | bexpr (core : Nat) (f : Slots)
  /-- ADD (R242). -/
  | add (core : Nat) (f : Slots)
  /-- SUB (R242). -/
  | sub (core : Nat) (f : Slots)
  /-- AND (R242). -/
  | and (core : Nat) (f : Slots)
  /-- OR (R242). -/
  | or (core : Nat) (f : Slots)
  /-- XOR (R242). -/
  | xor (core : Nat) (f : Slots)
  /-- SHL (R242). -/
  | shl (core : Nat) (f : Slots)
  /-- SHR (R242). -/
  | shr (core : Nat) (f : Slots)
  /-- SAR (R242). -/
  | sar (core : Nat) (f : Slots)
  /-- MIN (R242). -/
  | min (core : Nat) (f : Slots)
  /-- MAX (R242). -/
  | max (core : Nat) (f : Slots)
  /-- MUL (R242). -/
  | mul (core : Nat) (f : Slots)
  /-- ADDI (R242). -/
  | addi (core : Nat) (f : Slots)
  /-- CMP (R243). -/
  | cmp (core : Nat) (f : Slots)
  /-- CMPI (R243). -/
  | cmpi (core : Nat) (f : Slots)
  /-- MOVI (R242). -/
  | movi (core : Nat) (f : Slots)
  /-- MOVU (R242). -/
  | movu (core : Nat) (f : Slots)
  /-- VADD (R236). -/
  | vadd (core : Nat) (f : Slots)
  /-- VSUB (R236). -/
  | vsub (core : Nat) (f : Slots)
  /-- VADDW (R242). -/
  | vaddw (core : Nat) (f : Slots)
  /-- VSUBW (R242). -/
  | vsubw (core : Nat) (f : Slots)
  /-- VNEG (R242). -/
  | vneg (core : Nat) (f : Slots)
  /-- VABS (R242). -/
  | vabs (core : Nat) (f : Slots)
  /-- VAND (R242). -/
  | vand (core : Nat) (f : Slots)
  /-- VOR (R242). -/
  | vor (core : Nat) (f : Slots)
  /-- VXOR (R242). -/
  | vxor (core : Nat) (f : Slots)
  /-- VMIN (R242). -/
  | vmin (core : Nat) (f : Slots)
  /-- VMAX (R242). -/
  | vmax (core : Nat) (f : Slots)
  /-- VSCALE (R239). -/
  | vscale (core : Nat) (f : Slots)
  /-- VSHLI (R239). -/
  | vshli (core : Nat) (f : Slots)
  /-- VPERM (R242). -/
  | vperm (core : Nat) (f : Slots)
  /-- VBCAST (R242). -/
  | vbcast (core : Nat) (f : Slots)
  /-- VINS (R242). -/
  | vins (core : Nat) (f : Slots)
  /-- VEXT (R242). -/
  | vext (core : Nat) (f : Slots)
  /-- VMULR (R236). -/
  | vmulr (core : Nat) (f : Slots)
  /-- VMULRS (R236). -/
  | vmulrs (core : Nat) (f : Slots)
  /-- VCMUL (R240). -/
  | vcmul (core : Nat) (f : Slots)
  /-- VCMULJ (R240). -/
  | vcmulj (core : Nat) (f : Slots)
  /-- MPY (R236). -/
  | mpy (core : Nat) (f : Slots)
  /-- MAC (R236). -/
  | mac (core : Nat) (f : Slots)
  /-- MSU (R236). -/
  | msu (core : Nat) (f : Slots)
  /-- MPYS (R242). -/
  | mpys (core : Nat) (f : Slots)
  /-- MACS (R242). -/
  | macs (core : Nat) (f : Slots)
  /-- MSUS (R242). -/
  | msus (core : Nat) (f : Slots)
  /-- ACCLR (R242). -/
  | acclr (core : Nat) (f : Slots)
  /-- ACLD (R242). -/
  | acld (core : Nat) (f : Slots)
  /-- ACADD (R242). -/
  | acadd (core : Nat) (f : Slots)
  /-- ACADDV (R242). -/
  | acaddv (core : Nat) (f : Slots)
  /-- ACSUBV (R242). -/
  | acsubv (core : Nat) (f : Slots)
  /-- VBF (R242). -/
  | vbf (core : Nat) (f : Slots)
  /-- ACSUM (R242). -/
  | acsum (core : Nat) (f : Slots)
  /-- ACSH (R242). -/
  | acsh (core : Nat) (f : Slots)
  /-- ACGET (R242). -/
  | acget (core : Nat) (f : Slots)
  /-- ACPUT (R242). -/
  | acput (core : Nat) (f : Slots)
  /-- ACRND (R238). -/
  | acrnd (core : Nat) (f : Slots)
  /-- ACRNDB (R241). -/
  | acrndb (core : Nat) (f : Slots)
  /-- ACTRN (R238). -/
  | actrn (core : Nat) (f : Slots)
  /-- EXP (R237). -/
  | exp (core : Nat) (f : Slots)
  /-- ACEXP (R242). -/
  | acexp (core : Nat) (f : Slots)
  /-- NORM (R242). -/
  | norm (core : Nat) (f : Slots)
  /-- BEXP (R241). -/
  | bexp (core : Nat) (f : Slots)
  /-- FRD (R250). -/
  | frd (core : Nat) (f : Slots)
  /-- FWR (R250). -/
  | fwr (core : Nat) (f : Slots)
  /-- XRD (R251). -/
  | xrd (core : Nat) (f : Slots)
  /-- XWR (R251). -/
  | xwr (core : Nat) (f : Slots)
  /-- LDV (R233). -/
  | ldv (core : Nat) (y : Bool) (move : MoveArgs) (op : BitVec 8) (f : Slots)
  /-- STV (R233). -/
  | stv (core : Nat) (y : Bool) (move : MoveArgs) (op : BitVec 8) (f : Slots)
  /-- LDS (R233). -/
  | lds (core : Nat) (y : Bool) (move : MoveArgs) (op : BitVec 8) (f : Slots)
  /-- STS (R233). -/
  | sts (core : Nat) (y : Bool) (move : MoveArgs) (op : BitVec 8) (f : Slots)
  /-- LDB (R233). -/
  | ldb (core : Nat) (y : Bool) (move : MoveArgs) (op : BitVec 8) (f : Slots)
  /-- UPD (R249). -/
  | upd (core : Nat) (arg : BitVec 8) (op : BitVec 8) (f : Slots)
  /-- UPDR (R234). -/
  | updr (core : Nat) (arg : BitVec 8) (op : BitVec 8) (f : Slots)
  /-- WAITX (R249). -/
  | waitx (core : Nat) (arg : BitVec 8) (op : BitVec 8) (f : Slots)
  /-- DONE (R257). -/
  | done (core : Nat) (arg : BitVec 8) (op : BitVec 8) (f : Slots)
  /-- SATCLR (R249). -/
  | satclr (core : Nat) (arg : BitVec 8) (op : BitVec 8) (f : Slots)
  /-- BUDGET_EPOCH_CLOSE (R279). -/
  | budgetEpochClose (temps : List Int) (reg : Option (Nat × Nat)) (freqs : List (Nat × Nat))
  /-- WAKE_SPI (R286). -/
  | wakeSpi (env : StartEnv)
  /-- WAKE_GPIO (R286). -/
  | wakeGpio (pin : Nat) (env : StartEnv)
  /-- STANDBY_TIMER_EXPIRY (R286). -/
  | standbyTimerExpiry (env : StartEnv)
  /-- OVER_CURRENT (R304). -/
  | overCurrent (ch : Nat)
  /-- SHORT (R304). -/
  | short (ch : Nat)
  /-- DRIVER_FAULT (R304). -/
  | driverFault (group : Nat)
  /-- DRIVER_FAULT_RECOVERY (R304). -/
  | driverFaultRecovery (group : Nat)
  /-- LOOP_FAULT (R298). -/
  | loopFault (ch : Nat)
  /-- RECHECK_START (R305). -/
  | recheckStart (ch : Nat)
  /-- RECHECK_COMMAND (R305). -/
  | recheckCommand (ch : Nat)
  /-- RECHECK_END (R305). -/
  | recheckEnd (ch : Nat)
  /-- CHANNEL_START (R308). -/
  | channelStart (ch : Nat) (hyst : Nat) (tLoop : Nat)
  /-- CHANNEL_RAMP_DOWN_DONE (R309). -/
  | channelRampDownDone (ch : Nat)
  /-- LSUP_WINDOW_END (R316). -/
  | lsupWindowEnd (ch : Nat) (sums : Machine.Sums) (overload : Bool)
  /-- VERDICT_CHANGE (R322). -/
  | verdictChange (ch : Nat)
  /-- BASELINE_CAPTURE (R323). -/
  | baselineCapture (ch : Nat)
  /-- AC_BASELINE_TEST (R328). -/
  | acBaselineTest (ch : Nat)
  /-- AC_TEST_COMMAND (R326). -/
  | acTestCommand (ch : Nat)
  /-- CLEAR_BASELINES (R335). -/
  | clearBaselines (ch : Nat)
  /-- AC_TEST_SILENCE_START (R326). -/
  | acTestSilenceStart (ch : Nat)
  /-- AC_TEST_FIRST_START (R326). -/
  | acTestFirstStart (ch : Nat)
  /-- AC_POINT_END (R325). -/
  | acPointEnd (ch : Nat) (sums : Machine.Sums)
  /-- AC_TEST_END (R328). -/
  | acTestEnd (ch : Nat)
  /-- AC_TEST_ABORT (R327). -/
  | acTestAbort (ch : Nat)
  /-- PORT_START (R347). -/
  | portStart (page : Nat) (tx : Bool)
  /-- LEADIN_END (R347). -/
  | leadinEnd (page : Nat) (tx : Bool)
  /-- PORT_STOP (R348). -/
  | portStop (page : Nat) (tx : Bool)
  /-- PORT_FADE_END (R348). -/
  | portFadeEnd (page : Nat) (tx : Bool)
  /-- LEADOUT_END (R348). -/
  | leadoutEnd (page : Nat) (tx : Bool)
  /-- MASK_CHANGE_APPLY (R343). -/
  | maskChangeApply (page : Nat) (tx : Bool)
  /-- RECEIVER_LOCK (R347). -/
  | receiverLock (page : Nat)
  /-- RECEIVER_LOCK_LOSS (R353). -/
  | receiverLockLoss (page : Nat)
  /-- PORT_INPUT_FRAME (R357). -/
  | portInputFrame (page : Nat) (words : List Nat)
  /-- AES_INPUT_FRAME (R353). -/
  | aesInputFrame (index : Nat) (a : Machine.Subframe) (b : Machine.Subframe)
  /-- AES_CS_BLOCK (R351). -/
  | aesCsBlock (index : Nat) (b : Bool) (bytes : List Byte)
  /-- MADI_INPUT_FRAME (R356). -/
  | madiInputFrame (index : Nat) (sub : List Machine.Subframe)
  /-- RATE_MEASURE (R360). -/
  | rateMeasure (page : Nat) (cnt : Nat) (t0 : Nat) (t1 : Nat)
  /-- ASRC_LOCK (R364). -/
  | asrcLock (engine : Nat) (ratio : Nat)
  /-- ASRC_UNLOCK (R365). -/
  | asrcUnlock (engine : Nat) (range : Bool)
  /-- HOST_AUDIO_IN_READ (R370). -/
  | hostAudioInRead (data : List Byte)
  /-- HOST_AUDIO_OUT_DONE (R371). -/
  | hostAudioOutDone (err : Bool)
  /-- SERVO_MEASUREMENT (R380). -/
  | servoMeasurement (offset : Int)
  /-- PTP_SYNC (R386). -/
  | ptpSync (port : Nat) (domain : Nat) (sender : Nat) (seq : Nat) (twoStep : Bool) (t1 : Nat) (corr : Int)
  /-- PTP_FOLLOW_UP (R386). -/
  | ptpFollowUp (port : Nat) (domain : Nat) (sender : Nat) (seq : Nat) (t1 : Nat) (corr : Int)
  /-- PTP_DELAY_REQ (R389). -/
  | ptpDelayReq (port : Nat) (domain : Nat) (requester : Nat) (seq : Nat)
  /-- PTP_DELAY_RESP (R386). -/
  | ptpDelayResp (port : Nat) (domain : Nat) (sender : Nat) (seq : Nat) (t4 : Nat) (corr : Int)
  /-- PTP_ANNOUNCE (R387). -/
  | ptpAnnounce (port : Nat) (a : Announce)
  /-- PTP_MANAGEMENT_SIGNALING (R385). -/
  | ptpManagementSignaling (port : Nat) (frame : List Byte) (buf : Nat)
  /-- ANNOUNCE_TIMEOUT (R388). -/
  | announceTimeout (port : Nat)
  /-- PTP_MESSAGE_INTERVAL (R389). -/
  | ptpMessageInterval (port : Nat) (kind : Nat)
  /-- REF10M_MEASURE (R390). -/
  | ref10mMeasure (ppb : Int)
  /-- TRIGGER_EDGE (R399). -/
  | triggerEdge (k : Nat)
  /-- CAPTURE_EDGE (R400). -/
  | captureEdge (k : Nat) (rising : Bool)
  /-- TCAP_POP (R400). -/
  | tcapPop (k : Nat)
  /-- ETH_FRAME_RECEIVE (R401): the first bit after the frame's start-of-frame delimiter came `sfd` before the command (R395), in
  2^-32 ns. -/
  | ethFrameReceive (port : Nat) (frame : List Byte) (fcsOk : Bool) (sfd : Nat) (buf : Nat)
  /-- STREAM_PACKET_RECEIVE (R408). -/
  | streamPacketReceive (port : Nat) (packet : RtpPacket)
  /-- ARP_REQUEST (R403). -/
  | arpRequest (port : Nat) (target : Nat) (sender : Nat) (mac : Nat)
  /-- ICMP_ECHO_REQUEST (R403). -/
  | icmpEchoRequest (port : Nat) (sender : Nat) (payload : List Byte)
  /-- IGMP_QUERY (R402). -/
  | igmpQuery (port : Nat) (version : Nat) (frame : List Byte) (buf : Nat)
  /-- IGMP_REPORT (R402). -/
  | igmpReport (port : Nat)
  /-- LINK_CHANGE (R403). -/
  | linkChange (port : Nat) (up : Bool)
  /-- GRATUITOUS_ARP (R403). -/
  | gratuitousArp (port : Nat)
  /-- HTX_TAIL_WRITE (R397). -/
  | htxTailWrite (port : Nat) (v : Word)
  /-- HOST_FRAME_SEND (R398). -/
  | hostFrameSend (port : Nat) (desc : HtxDesc)
  /-- TXTS_POP (R397). -/
  | txtsPop (port : Nat)
  /-- PATCH_POST (R421). -/
  | patchPost (v : Word)
  /-- CROSSFADE_END (R423). -/
  | crossfadeEnd (sink : Nat)
  /-- MIX_NODE_POST (R425). -/
  | mixNodePost (v : Word)
  /-- GENERATOR_FADE_END (R428). -/
  | generatorFadeEnd (gen : Nat)
  /-- METER_CLEAR (R431). -/
  | meterClear (v : Word)
  /-- METER_CONFIG_WRITE (R431). -/
  | meterConfigWrite (meter : Nat) (word : Nat) (v : Word)
  /-- LOUDNESS_START (R434). -/
  | loudnessStart (meter : Nat)
  /-- LOUDNESS_STOP (R434). -/
  | loudnessStop (meter : Nat)
  /-- LOUDNESS_RESET (R434). -/
  | loudnessReset (meter : Nat)
  /-- LOUDNESS_BLOCK (R434). -/
  | loudnessBlock (meter : Nat)
  /-- DETECTOR_CLEAR (R447). -/
  | detectorClear (v : Word)
  /-- DETECTOR_CONFIG_WRITE (R447). -/
  | detectorConfigWrite (chain : Nat) (word : Nat) (v : Word)
  /-- CAPTURE_BLEND_END (R446). -/
  | captureBlendEnd (chain : Nat)
  /-- MEAS_START (R451). -/
  | measStart (job : Nat)
  /-- TRAINING (R482). -/
  | training (mask : Nat)
  /-- TRAINING_DONE (R482). -/
  | trainingDone (failed : Nat)
  /-- MR4_POLL (R475). -/
  | mr4Poll (die : Nat) (field : Nat) (above : Bool) (beyond : Bool) (ns : Nat)
  /-- BANK_REFRESH (R475). -/
  | bankRefresh (ch : Nat) (bank : Nat)
  /-- DRAM_REQUEST (R470). -/
  | dramRequest (port : Nat) (ini : Nat) (write : Bool) (addr : Nat) (len : Nat) (data : List Byte) (ecc : Nat) (wait : Bool) (exitNs : Nat)
  /-- SCRUB_READ (R478). -/
  | scrubRead (ecc : Nat)
  /-- IDLE_SELF_REFRESH_ENTRY (R483). -/
  | idleSelfRefreshEntry (ch : Nat)
  /-- WEAVE_BURST (R493). -/
  | weaveBurst (b : Machine.Burst) (wait : Bool)
  /-- INITIATOR_RESET_MID_BURST (R501). -/
  | initiatorResetMidBurst (b : Machine.Burst) (done : Nat)
  /-- RESET_RELEASE (R507). -/
  | resetRelease (env : StartEnv)
  /-- START_READY (R508). -/
  | startReady (slot0 : Option (List Byte)) (slot1 : Option (List Byte)) (ns : Nat)
  /-- HOST_LOAD_GO (R514). -/
  | hostLoadGo (len : Nat)
  /-- START_ATTEMPT_FAIL (R515). -/
  | startAttemptFail (code : Nat)
  /-- BOOT_RETRY (R515). -/
  | bootRetry (env : StartEnv)
  /-- SAFE_HOLD_ENTRY (R532). -/
  | safeHoldEntry (part : Nat) (item : Nat)
  /-- SAFE_HOLD_RETRY (R532). -/
  | safeHoldRetry (env : StartEnv)
  /-- START_ATTEMPT_COMMAND (R532). -/
  | startAttemptCommand (env : StartEnv)
  /-- LIFECYCLE_ADVANCE (R520). -/
  | lifecycleAdvance (target : Nat) (confirm : Nat)
  /-- PIN_READBACK (R531). -/
  | pinReadback (ball : Nat) (same : Bool)
  /-- SELFTEST_SLICE (R531). -/
  | selftestSlice (part : Nat) (item : Nat) (window : Nat) (ok : Bool) (last : Bool)
  /-- BIST_RUN (R535). -/
  | bistRun (parts : Nat)
  /-- BIST_INJECT (R535). -/
  | bistInject (item : Nat)
  /-- REJOIN (R555). -/
  | rejoin (ok : Bool)
  /-- FAULT_RECORD (R561). -/
  | faultRecord (page : Nat) (code : Nat) (detail : Nat)
  /-- SRAM_SCRUB (R567). -/
  | sramScrub (ecc : Nat)
  /-- FAULT_TAIL_WRITE (R563). -/
  | faultTailWrite (index : Nat)
  /-- SAN_ADDR (R573). -/
  | sanAddr (addr : Nat)
  /-- EXTEST (R596). -/
  | extest (bits : List Bool)
  /-- SAMPLE_PRELOAD (R596). -/
  | samplePreload (bits : List Bool)
  /-- GPIO_SAMPLE (R586). -/
  | gpioSample (pins : Word)
  /-- ARRAY_WINDOW_WRITE (R45). -/
  | arrayWindowWrite (ini : Nat) (page : Nat) (off : Nat) (data : List (Byte × Bool))
  /-- ARP_REPLY (R403). -/
  | arpReply (port : Nat) (sender : Nat) (mac : Nat)
  /-- SENSE_OVERLOAD (R441). -/
  | senseOverload (chain : Nat)
  /-- PORT_OUTPUT_FRAME (R345). -/
  | portOutputFrame (page : Nat)
  /-- SET_POINT_SWITCH_DONE (R480). -/
  | setPointSwitchDone (ns : Nat)
  /-- BIST_RUN_DONE (R535). -/
  | bistRunDone (failed : Option (Nat × Nat))
  /-- PCIE_ATOMIC_OP (R500). -/
  | pcieAtomicOp (bar : Nat) (off : Nat) (size : Nat) (op : Nat) (x : Nat) (y : Nat)
  /-- ARP_REFRESH (R403). -/
  | arpRefresh (port : Nat) (addr : Nat)
  /-- HEARTBEAT (R545). -/
  | heartbeat (beat : Heartbeat)
  /-- FRAME_RECORD_SEAL (R545). -/
  | frameRecordSeal (taps : List (Nat × Int))
  /-- FRAME_RECORD (R547). -/
  | frameRecord (r : FrameRecord)
  /-- PLAIT_MIRROR (R81). -/
  | plaitMirror (frame : Nat) (writes : List (Nat × Word)) (crcOk : Bool)
  /-- STANDBY_REPORT (R548). -/
  | standbyReport (frame : Nat) (crc : Option Nat) (decisions : List Nat) (request : Bool) (crcOk : Bool)
  /-- RESYNC_MESSAGE (R555). -/
  | resyncMessage (items : List ResyncItem) (crcOk : Bool)
  /-- GUARD_BEGIN (R21). -/
  | guardBegin
  /-- DIRECT_CUTOFF (R212). -/
  | directCutoff
  /-- RATE_CHANGE_RAMP (R38). -/
  | rateChangeRamp
  /-- RATE_CHANGE_MUTE (R38). -/
  | rateChangeMute
  /-- RATE_CHANGE_SWITCH (R38). -/
  | rateChangeSwitch
  /-- RATE_CHANGE_RESUME (R38). -/
  | rateChangeResume
  /-- SPI_READ_TIMEOUT (R65). -/
  | spiReadTimeout
  /-- SPI_STATUS (R66). -/
  | spiStatus
  /-- SPI_CLEAR (R66). -/
  | spiClear
  /-- LAYOUT_BUILD_DONE (R88). -/
  | layoutBuildDone
  /-- HEALING_REBUILD_DONE (R98). -/
  | healingRebuildDone
  /-- RECORD_POST (R120). -/
  | recordPost
  /-- WARP_POST_ACCEPT (R147). -/
  | warpPostAccept
  /-- WARP_FADE_DONE (R152). -/
  | warpFadeDone
  /-- CORR_PREP_DONE (R175). -/
  | corrPrepDone
  /-- CORR_FADE_DONE (R171). -/
  | corrFadeDone
  /-- NODE_DISPATCH (R200). -/
  | nodeDispatch
  /-- HELD_RELEASE_ENTER (R202). -/
  | heldReleaseEnter
  /-- SUBMIT_HOLD_RELEASE (R203). -/
  | submitHoldRelease
  /-- NODE_ACTIVATE (R217). -/
  | nodeActivate
  /-- NODE_DEACTIVATE (R217). -/
  | nodeDeactivate
  /-- REGULATOR_TIMEOUT (R276). -/
  | regulatorTimeout
  /-- DOMAIN_TRANSITION_DONE (R273). -/
  | domainTransitionDone
  /-- STANDBY_ENTER (R285). -/
  | standbyEnter
  /-- CLOCK_ERROR (R304). -/
  | clockError
  /-- CLOCK_RECOVERY (R304). -/
  | clockRecovery
  /-- HOLDOVER (R380). -/
  | holdover
  /-- STAKE_SET (R382). -/
  | stakeSet
  /-- STAKE_ADD (R382). -/
  | stakeAdd
  /-- STAKE_SUBTRACT (R382). -/
  | stakeSubtract
  /-- STAKE_STEP_REQUEST (R383). -/
  | stakeStepRequest
  /-- STAKE_STEP_APPLY (R384). -/
  | stakeStepApply
  /-- PPS_EDGE (R390). -/
  | ppsEdge
  /-- PPS_LOSS (R390). -/
  | ppsLoss
  /-- ROUTE_FADE_DONE (R426). -/
  | routeFadeDone
  /-- MEAS_ABORT (R459). -/
  | measAbort
  /-- MEAS_CLEAR (R458). -/
  | measClear
  /-- MEAS_RUN_END (R454). -/
  | measRunEnd
  /-- RESPONSE_STORED (R458). -/
  | responseStored
  /-- SET_POINT_HELD_START (R481). -/
  | setPointHeldStart
  /-- URGENCY_RAISE (R470). -/
  | urgencyRaise
  /-- LOCK_TIMEOUT (R500). -/
  | lockTimeout
  /-- PORST_ASSERT (R56). -/
  | porstAssert
  /-- SYSRST_ASSERT (R56). -/
  | sysrstAssert
  /-- SELFTEST_WINDOW_HELD (R528). -/
  | selftestWindowHeld
  /-- HOST_LOAD_TIMEOUT (R514). -/
  | hostLoadTimeout
  /-- SHUTDOWN_PIN (R529). -/
  | shutdownPin
  /-- SHUTDOWN_COMMAND (R529). -/
  | shutdownCommand
  /-- OTP_READ (R525). -/
  | otpRead
  /-- OTP_PROGRAM (R525). -/
  | otpProgram
  /-- OTP_OPERATION_DONE (R525). -/
  | otpOperationDone
  /-- RECORD_ERASE (R530). -/
  | recordErase
  /-- SLICE_ABANDON (R531). -/
  | sliceAbandon
  /-- COVERAGE_LAPSE (R531). -/
  | coverageLapse
  /-- HEARTBEAT_LOSS (R550). -/
  | heartbeatLoss
  /-- HOOP_LINK_CHANGE (R544). -/
  | hoopLinkChange
  /-- CLAIM_TIMEOUT (R540). -/
  | claimTimeout
  /-- SECONDARY_CLAIM_TIMEOUT (R543). -/
  | secondaryClaimTimeout
  /-- YIELD (R557). -/
  | yield
  /-- REJOIN_COMMAND (R554). -/
  | rejoinCommand
  /-- REVERT_REQUEST (R558). -/
  | revertRequest
  /-- REVERT_HOLD_EXPIRY (R558). -/
  | revertHoldExpiry
  /-- COLLECTOR_MISMATCH (R565). -/
  | collectorMismatch
  /-- FREEZE_PIN (R571). -/
  | freezePin
  /-- FREEZE_COMMAND (R571). -/
  | freezeCommand
  /-- FREEZE_RELEASE (R576). -/
  | freezeRelease
  /-- FREEZE_LIMIT_EXPIRY (R576). -/
  | freezeLimitExpiry
  /-- SAN_DATA (R573). -/
  | sanData
  /-- SAN_RELEASE (R573). -/
  | sanRelease
  /-- SAN_STATUS (R573). -/
  | sanStatus
  /-- IDCODE (R596). -/
  | idcode
  /-- CLAMP (R596). -/
  | clamp
  /-- HIGHZ (R596). -/
  | highz
  /-- BYPASS (R596). -/
  | bypass
  /-- TAP_RESET (R596). -/
  | tapReset
  /-- PCIE_LINK_DOWN (R501). -/
  | pcieLinkDown
  /-- GM_HOLDOVER_LIMIT (R389). -/
  | gmHoldoverLimit
  deriving DecidableEq, Repr

end Sys2Proof
end

