-- ==== Sys2Proof/Decode.lean ====
section
/-!
DEFINITION. Words of the table. The table of operations and events gives its rows no bits: a command reaches the block as an access,
a message or an event, and not as an instruction word.
-/
namespace Sys2Proof

/-- The command that a word of `nbits` bits spells: none, since no row has bits. [DESIGN CHOICE, safe: log entry 2] -/
def decodeTableWord (_nbits _w : Nat) : Option Instr := none

end Sys2Proof
end

