-- ==== Sys2Proof/Config.lean ====
section
/-!
DEFINITION. Free values: results that the spec leaves open, as constants with no body, so that no proof can see a value.
Each is named in the assumption log.
-/
namespace Sys2Proof.Config

/-- A fresh free value, drawn by its number. [DESIGN CHOICE, unsafe: log entry 137] -/
opaque free : Nat → BitVec 64

/-- The rounding error of a partition's FFT arithmetic against the exact convolution, in units of Q5.27: block size, taps,
input window (newest first) and position in the block. R161 and R165 give the formats and not the kernel's arithmetic.
[DESIGN CHOICE, safe: log entry 46] -/
opaque fftError : Nat → List Int → List Int → Nat → Int

/-- Mantissa word `k` of the spectrum of a block of samples, and the spectrum's block exponent: R181 gives their form, and no rule the
FFT's rounding. [DESIGN CHOICE, safe: log entry 46] -/
opaque fftWord : List Int → Nat → BitVec 32
opaque fftExp : List Int → Nat
/-- A partition's value from a filter spectrum and an input spectrum that software has written over (R181: it corrupts the output):
words and exponent of each, and position in the block. [DESIGN CHOICE, safe: log entry 46] -/
opaque fftFrom : List (BitVec 32) → Nat → List (BitVec 32) → Nat → Nat → Int

/-! ### The Coil -/

/-- Load of the device's own services at tier `t`, in units of 2^-16 bundle per frame (R209 counts their nodes and states
no cost). [DESIGN CHOICE, safe: log entry 49] -/
opaque deviceLoad : Nat → Nat
/-- Home core of a descriptor that the device owns (R188: their contents are not stated). [DESIGN CHOICE, safe: log entry 49] -/
opaque deviceHome : Nat → Nat
/-- Entry bundle of a CORR node's kernel, among the device's bundles (R164: "the device supplies its kernel"). [DESIGN CHOICE, safe: log entry 49] -/
opaque deviceEntry : Nat → Nat

/-- A bundle of the device's own kernels, by bundle address (R226 states no contents). [DESIGN CHOICE, safe: log entry 59] -/
opaque deviceBundle : Nat → BitVec 64
/-- A word of X or Y that a cold dispatch has left undefined (R256): number of the dispatch, core, and word, Y words from 0x4000.
[DESIGN CHOICE, safe: log entry 59] -/
opaque coldWord : Nat → Nat → Nat → BitVec 32

/-! ### Power stages -/

/-- One sample at Fm of an upsampler (R292 gives its passband, stopband and delay, and no taps): low-latency or linear-phase, ratio,
input samples newest first, index within the frame. [DESIGN CHOICE, safe: log entry 69] -/
opaque upsample : Bool → Nat → List Int → Nat → Int

/-! ### Generators and measurement -/

/-- Pink noise of unit amplitude in Q1.31: seeded LFSR state, samples since the start, rate code. R427 gives the slope of the filter
that forms it and no coefficients. [DESIGN CHOICE, safe: log entry 96] -/
opaque pink : Nat → Nat → Nat → Int
/-- The rounding error of a deconvolution (R456 gives the transform and not its arithmetic), in units of the last place stored: type
of stimulus, average, word. [DESIGN CHOICE, safe: log entry 101] -/
opaque deconvError : Nat → List Int → Nat → Int

end Sys2Proof.Config
end

