-- ==== Sys2Proof/Machine/RegMap.lean ====
section
/-!
DEFINITION. The register map: every register that the spec's chapters tabulate, with its offset, its writable bits, its
write-one-to-clear bits, whether it is staged, and its reset value, page by page (R43, R46, R49 and the register tables).
A field with access RO, WO or W1S-without-storage contributes no writable bit. Registers whose reset the spec gives
per variant, per index or from OTP are completed in `Machine/Regs.lean`.
-/
namespace Sys2Proof.Machine

/-- One row of a register table: `count` registers `stride` bytes apart from offset `off`. -/
structure RegInfo where
  off : Nat
  stride : Nat
  count : Nat
  /-- bits that a write stores (RW, ST) -/
  rw : Nat
  /-- bits that a write of 1 clears -/
  w1c : Nat
  staged : Bool
  reset : Nat
  deriving DecidableEq, Repr

/-- The page header of spec/02_control_pages_plaits.md (R46). -/
def hdrRegs : List RegInfo :=
 [
  ⟨0x0, 0x0, 1, 0x0, 0x0, false, 0x1⟩,
  ⟨0x4, 0x0, 1, 0x0, 0x0, false, 0x0⟩,
  ⟨0x8, 0x0, 1, 0x1, 0x0, false, 0x0⟩,
  ⟨0xC, 0x0, 1, 0x0, 0x0, false, 0x0⟩,
  ⟨0x10, 0x0, 1, 0x0, 0xFFFFFFFF, false, 0x0⟩,
  ⟨0x14, 0x0, 1, 0xFFFFFFFF, 0x0, false, 0x0⟩,
  ⟨0x18, 0x0, 1, 0x0, 0x0, false, 0x0⟩,
  ⟨0x1C, 0x0, 1, 0x0, 0x0, false, 0x0⟩,
  ⟨0x20, 0x0, 1, 0x3, 0x0, false, 0x0⟩,
  ⟨0x24, 0x0, 1, 0xFFFFFFFF, 0x0, false, 0x0⟩,
  ⟨0x28, 0x0, 1, 0xFFFFFFFF, 0x0, false, 0x0⟩,
  ⟨0x2C, 0x0, 1, 0x0, 0x0, false, 0x0⟩,
  ⟨0x30, 0x0, 1, 0x0, 0x0, false, 0x0⟩]

/-- The IDENT page registers of spec/02_control_pages_plaits.md (R48). -/
def identRegs : List RegInfo :=
 [
  ⟨0x40, 0x0, 1, 0x0, 0x0, false, 0x100⟩,
  ⟨0x44, 0x0, 1, 0x0, 0x0, false, 0x0⟩,
  ⟨0x48, 0x0, 1, 0x0, 0x0, false, 0x0⟩,
  ⟨0x4C, 0x0, 1, 0x0, 0x0, false, 0x0⟩,
  ⟨0x50, 0x0, 1, 0x0, 0x0, false, 0x0⟩,
  ⟨0x54, 0x0, 1, 0x0, 0x0, false, 0x0⟩,
  ⟨0x58, 0x0, 1, 0x0, 0x0, false, 0x0⟩,
  ⟨0x5C, 0x0, 1, 0x0, 0x0, false, 0x0⟩,
  ⟨0x100, 0x4, 64, 0x0, 0x0, false, 0x0⟩]

/-- The HOST page registers of spec/02_control_pages_plaits.md (R60, R68, R376, R586). -/
def hostRegs : List RegInfo :=
 [
  ⟨0x40, 0x20, 8, 0x1, 0x0, false, 0x0⟩,
  ⟨0x44, 0x20, 8, 0xFFFFFFFF, 0x0, false, 0x0⟩,
  ⟨0x48, 0x20, 8, 0xFFFFFFFF, 0x0, false, 0x0⟩,
  ⟨0x180, 0x4, 2, 0x0, 0x0, false, 0x0⟩,
  ⟨0x200, 0x0, 1, 0xFFFFFFFF, 0x0, true, 0x0⟩,
  ⟨0x204, 0x0, 1, 0xFFFFFFFF, 0x0, true, 0x0⟩,
  ⟨0x208, 0x0, 1, 0xFFF3FF, 0x0, true, 0x0⟩,
  ⟨0x20C, 0x0, 1, 0xFFF, 0x0, true, 0x0⟩,
  ⟨0x210, 0x0, 1, 0x0, 0x0, false, 0x0⟩,
  ⟨0x214, 0x0, 1, 0x0, 0x0, false, 0x0⟩,
  ⟨0x218, 0x0, 1, 0x0, 0x0, false, 0x0⟩,
  ⟨0x21C, 0x0, 1, 0x0, 0x0, false, 0x0⟩,
  ⟨0x220, 0x0, 1, 0xFFFFFFFF, 0x0, true, 0x0⟩,
  ⟨0x224, 0x0, 1, 0xFFFFFFFF, 0x0, true, 0x0⟩,
  ⟨0x228, 0x0, 1, 0xFFF3FF, 0x0, true, 0x0⟩,
  ⟨0x230, 0x0, 1, 0x0, 0x0, false, 0x0⟩,
  ⟨0x234, 0x0, 1, 0x0, 0x0, false, 0x0⟩,
  ⟨0x300, 0x0, 1, 0xFFFFFFFF, 0x0, false, 0x0⟩,
  ⟨0x304, 0x0, 1, 0xFFFFFFFF, 0x0, false, 0x0⟩,
  ⟨0x308, 0x0, 1, 0x0, 0x0, false, 0x0⟩,
  ⟨0x400, 0x4, 256, 0xFFFFFFFF, 0x0, false, 0x0⟩]

/-- The IRQ page registers of spec/02_control_pages_plaits.md (R57, R59). -/
def irqRegs : List RegInfo :=
 [
  ⟨0x100, 0x4, 64, 0x0, 0x0, false, 0x0⟩,
  ⟨0x200, 0x0, 1, 0x0, 0x0, false, 0x0⟩,
  ⟨0x204, 0x0, 1, 0x0, 0x0, false, 0x0⟩,
  ⟨0x208, 0x0, 1, 0x0, 0x0, false, 0x0⟩]

/-- The PLAIT page registers of spec/02_control_pages_plaits.md (R71). -/
def plaitRegs : List RegInfo :=
 [
  ⟨0x40, 0x0, 1, 0x0, 0x0, false, 0x0⟩,
  ⟨0x44, 0x0, 1, 0x0, 0x0, false, 0x0⟩,
  ⟨0x48, 0x0, 1, 0xFFFFFFFF, 0x0, false, 0x0⟩,
  ⟨0x4C, 0x0, 1, 0xFFFFFFFF, 0x0, false, 0x0⟩,
  ⟨0x50, 0x0, 1, 0xFFFFFFFF, 0x0, false, 0x0⟩,
  ⟨0x54, 0x0, 1, 0x0, 0x0, false, 0x0⟩,
  ⟨0x58, 0x0, 1, 0x0, 0x0, false, 0x0⟩,
  ⟨0x5C, 0x0, 1, 0x0, 0x0, false, 0x8000⟩,
  ⟨0x100, 0x8, 16, 0x0, 0x0, false, 0x0⟩,
  ⟨0x104, 0x8, 16, 0x0, 0x0, false, 0x0⟩,
  ⟨0x200, 0x8, 16, 0x0, 0x0, false, 0x0⟩,
  ⟨0x204, 0x8, 16, 0x0, 0x0, false, 0x0⟩,
  ⟨0x300, 0x4, 16, 0x0, 0x0, false, 0x0⟩]

/-- The BOOT page registers of spec/17_start_and_selftest.md (R533). -/
def bootRegs : List RegInfo :=
 [
  ⟨0x40, 0x0, 1, 0x0, 0x0, false, 0x0⟩,
  ⟨0x44, 0x0, 1, 0x0, 0x0, false, 0x0⟩,
  ⟨0x48, 0x0, 1, 0x0, 0x0, false, 0x0⟩,
  ⟨0x4C, 0x0, 1, 0x0, 0x0, false, 0x0⟩,
  ⟨0x50, 0x0, 1, 0x0, 0x0, false, 0x0⟩,
  ⟨0x54, 0x0, 1, 0xF, 0x0, false, 0x0⟩,
  ⟨0x58, 0x0, 1, 0x0, 0x0, false, 0x0⟩,
  ⟨0x60, 0x0, 1, 0x1FF, 0x0, false, 0x0⟩,
  ⟨0x64, 0x0, 1, 0xFFFFFFFF, 0x0, false, 0x0⟩,
  ⟨0x68, 0x0, 1, 0x0, 0x0, false, 0x0⟩,
  ⟨0x6C, 0x0, 1, 0x0, 0x0, false, 0x0⟩,
  ⟨0x70, 0x0, 1, 0x0, 0x0, false, 0x0⟩,
  ⟨0x74, 0x0, 1, 0x0, 0x0, false, 0x0⟩,
  ⟨0x78, 0x0, 1, 0x0, 0x0, false, 0x0⟩]

/-- The BIST page registers of spec/17_start_and_selftest.md (R535). -/
def bistRegs : List RegInfo :=
 [
  ⟨0x40, 0x0, 1, 0x0, 0x0, false, 0x0⟩,
  ⟨0x44, 0x0, 1, 0x0, 0x0, false, 0x0⟩,
  ⟨0x48, 0x0, 1, 0x0, 0x0, false, 0x0⟩,
  ⟨0x4C, 0x0, 1, 0x0, 0x0, false, 0x0⟩,
  ⟨0x50, 0x0, 1, 0x0, 0x0, false, 0x0⟩,
  ⟨0x54, 0x0, 1, 0x0, 0x0, false, 0x0⟩,
  ⟨0x58, 0x0, 1, 0x0, 0x0, false, 0x0⟩,
  ⟨0x5C, 0x0, 1, 0x0, 0x0, false, 0x0⟩]

/-- The BUDGET page registers of spec/08_power_and_heat_budget.md (R287). -/
def budgetRegs : List RegInfo :=
 [
  ⟨0x40, 0x0, 1, 0x1, 0x0, false, 0x1⟩,
  ⟨0x44, 0x0, 1, 0x7FF, 0x0, true, 0xFA⟩,
  ⟨0x48, 0x0, 1, 0x3FF03FF, 0x0, true, 0x3520226⟩,
  ⟨0x4C, 0x0, 1, 0x0, 0x0, false, 0x352⟩,
  ⟨0x50, 0x0, 1, 0xFFFF, 0x0, true, 0x1A4⟩,
  ⟨0x54, 0x0, 1, 0xFFFF, 0x0, true, 0x3C⟩,
  ⟨0x58, 0x0, 1, 0xFFFFFFFF, 0x0, true, 0x300690⟩,
  ⟨0x5C, 0x0, 1, 0x3, 0x0, true, 0x3⟩,
  ⟨0x60, 0x0, 1, 0x0, 0x0, false, 0x0⟩,
  ⟨0x64, 0x0, 1, 0x0, 0x0, false, 0x0⟩,
  ⟨0x68, 0x0, 1, 0x0, 0x0, false, 0x0⟩,
  ⟨0x6C, 0x0, 1, 0x0, 0x0, false, 0x0⟩,
  ⟨0x80, 0x4, 16, 0x0, 0x0, false, 0x0⟩,
  ⟨0xC0, 0x0, 1, 0xFFF, 0x0, true, 0x0⟩,
  ⟨0xC4, 0x0, 1, 0x0, 0x0, false, 0x0⟩,
  ⟨0xC8, 0x0, 1, 0xFFFFFFFE, 0x0, false, 0x0⟩]

/-- The FAULT page registers of spec/19_faults_and_freeze.md (R578). -/
def faultRegs : List RegInfo :=
 [
  ⟨0x40, 0x0, 1, 0x6, 0x0, false, 0x0⟩,
  ⟨0x44, 0x0, 1, 0xFFF, 0x0, false, 0x0⟩,
  ⟨0x48, 0x0, 1, 0x0, 0x0, false, 0x0⟩,
  ⟨0x4C, 0x0, 1, 0x0, 0x0, false, 0x0⟩,
  ⟨0x50, 0x0, 1, 0xFF, 0x0, false, 0x0⟩,
  ⟨0x54, 0x0, 1, 0x0, 0x0, false, 0x0⟩,
  ⟨0x58, 0x0, 1, 0x3F, 0x0, false, 0x0⟩,
  ⟨0x60, 0x0, 1, 0x0, 0x0, false, 0x0⟩,
  ⟨0x64, 0x0, 1, 0x0, 0x0, false, 0x0⟩,
  ⟨0x68, 0x0, 1, 0x0, 0x0, false, 0x0⟩,
  ⟨0x6C, 0x0, 1, 0x0, 0x0, false, 0x0⟩,
  ⟨0x70, 0x0, 1, 0x0, 0x0, false, 0x0⟩,
  ⟨0x74, 0x0, 1, 0x0, 0x0, false, 0x0⟩]

/-- The HOOP page registers of spec/18_redundancy.md (R559). -/
def hoopRegs : List RegInfo :=
 [
  ⟨0x40, 0x0, 1, 0x3, 0x0, true, 0x3⟩,
  ⟨0x44, 0x0, 1, 0x3FF, 0x0, true, 0xA⟩,
  ⟨0x48, 0x0, 1, 0x0, 0x0, false, 0x0⟩,
  ⟨0x4C, 0x0, 1, 0x0, 0x0, false, 0x0⟩,
  ⟨0x50, 0x0, 1, 0x0, 0x0, false, 0x0⟩,
  ⟨0x54, 0x0, 1, 0x0, 0x0, false, 0x0⟩,
  ⟨0x58, 0x0, 1, 0x0, 0x0, false, 0x0⟩,
  ⟨0x5C, 0x0, 1, 0x0, 0x0, false, 0x0⟩,
  ⟨0x60, 0x0, 1, 0x0, 0x0, false, 0x0⟩,
  ⟨0x64, 0x0, 1, 0x0, 0x0, false, 0x0⟩,
  ⟨0x68, 0x0, 1, 0x0, 0x0, false, 0x0⟩,
  ⟨0x6C, 0x0, 1, 0x0, 0x0, false, 0x0⟩,
  ⟨0x70, 0x0, 1, 0x0, 0x0, false, 0x0⟩,
  ⟨0x74, 0x0, 1, 0x0, 0x0, false, 0x0⟩,
  ⟨0x78, 0x0, 1, 0x0, 0x0, false, 0x0⟩,
  ⟨0x80, 0x0, 1, 0x0, 0x0, false, 0x0⟩,
  ⟨0x84, 0x0, 1, 0x0, 0x0, false, 0x0⟩]

/-- The STAKE page registers of spec/12_network_and_time.md (R16, R413). -/
def stakeRegs : List RegInfo :=
 [
  ⟨0x40, 0x0, 1, 0x0, 0x0, false, 0x0⟩,
  ⟨0x44, 0x0, 1, 0x0, 0x0, false, 0x0⟩,
  ⟨0x48, 0x0, 1, 0x0, 0x0, false, 0x0⟩,
  ⟨0x4C, 0x0, 1, 0x0, 0x0, false, 0x0⟩,
  ⟨0x50, 0x0, 1, 0x0, 0x0, false, 0x4⟩,
  ⟨0x54, 0x0, 1, 0x0, 0x0, false, 0x0⟩,
  ⟨0x58, 0x0, 1, 0x33, 0x0, true, 0x0⟩,
  ⟨0x5C, 0x0, 1, 0xFFFFFFFF, 0x0, true, 0x0⟩,
  ⟨0x60, 0x0, 1, 0x3FFFFFF, 0x0, true, 0x6403E8⟩,
  ⟨0x64, 0x0, 1, 0xFFFFF, 0x0, true, 0x64⟩,
  ⟨0x68, 0x0, 1, 0xFFFFFFFF, 0x0, false, 0x0⟩,
  ⟨0x6C, 0x0, 1, 0xFFFFFFFF, 0x0, false, 0x0⟩,
  ⟨0x70, 0x0, 1, 0xFFFFFFFF, 0x0, false, 0x0⟩,
  ⟨0x74, 0x0, 1, 0x0, 0x0, false, 0x0⟩,
  ⟨0x78, 0x0, 1, 0x0, 0x0, false, 0xF800⟩,
  ⟨0x7C, 0x0, 1, 0x0, 0x0, false, 0x0⟩,
  ⟨0x80, 0x0, 1, 0x0, 0x0, false, 0x0⟩,
  ⟨0x84, 0x0, 1, 0x0, 0x0, false, 0x0⟩,
  ⟨0x88, 0x0, 1, 0xFFFFFFFF, 0x0, false, 0x0⟩,
  ⟨0x8C, 0x0, 1, 0xFFFFFFFF, 0x0, false, 0x0⟩,
  ⟨0x90, 0x0, 1, 0xFFFFF, 0x0, true, 0xE10⟩,
  ⟨0x94, 0x0, 1, 0x73, 0x0, true, 0x0⟩,
  ⟨0x98, 0x0, 1, 0x0, 0x0, false, 0x0⟩,
  ⟨0xA0, 0x0, 1, 0xFFFFFF03, 0x0, true, 0x80807F01⟩,
  ⟨0xA4, 0x0, 1, 0x3F, 0x0, true, 0x0⟩,
  ⟨0xA8, 0x0, 1, 0xFFFFFFFF, 0x0, true, 0x3FDFDFE⟩,
  ⟨0xAC, 0x0, 1, 0x0, 0x0, false, 0x0⟩,
  ⟨0xB0, 0x0, 1, 0x0, 0x0, false, 0x0⟩,
  ⟨0xB4, 0x0, 1, 0x0, 0x0, false, 0x0⟩,
  ⟨0x100, 0x0, 1, 0x7, 0x0, true, 0x0⟩] ++
 [
  ⟨0x104, 0x0, 1, 0x1FFF, 0x0, true, 0x3E8⟩,
  ⟨0x108, 0x0, 1, 0x0, 0x0, false, 0x0⟩,
  ⟨0x10C, 0x0, 1, 0x0, 0x0, false, 0x0⟩,
  ⟨0x110, 0x0, 1, 0x0, 0x0, false, 0x0⟩,
  ⟨0x140, 0x20, 8, 0xFFFFFFFF, 0x0, true, 0x0⟩,
  ⟨0x144, 0x20, 8, 0xFFFFFFFF, 0x0, true, 0x0⟩,
  ⟨0x148, 0x20, 8, 0xFFFFFFFF, 0x0, true, 0x0⟩,
  ⟨0x14C, 0x20, 8, 0xFFFFFFFF, 0x0, true, 0x0⟩,
  ⟨0x150, 0x20, 8, 0xFFFFFFFF, 0x0, true, 0x0⟩,
  ⟨0x154, 0x20, 8, 0xFFFFFFFF, 0x0, true, 0x0⟩,
  ⟨0x158, 0x20, 8, 0x3, 0x0, true, 0x0⟩,
  ⟨0x15C, 0x20, 8, 0x0, 0x0, false, 0x0⟩,
  ⟨0x240, 0x10, 4, 0x3, 0x10, false, 0x0⟩,
  ⟨0x244, 0x10, 4, 0x0, 0x0, false, 0x0⟩,
  ⟨0x248, 0x10, 4, 0x0, 0x0, false, 0x0⟩,
  ⟨0x24C, 0x10, 4, 0x0, 0x0, false, 0x0⟩]

/-- The NET page registers of spec/12_network_and_time.md (R414). -/
def netRegs : List RegInfo :=
 [
  ⟨0x40, 0x0, 1, 0x3F70FFFF, 0x0, true, 0x2E000004⟩,
  ⟨0x44, 0x0, 1, 0xFFFFFFFF, 0x0, true, 0x0⟩,
  ⟨0x48, 0x0, 1, 0xFFFFFFFF, 0x0, true, 0x0⟩,
  ⟨0x4C, 0x0, 1, 0xFFFFFFFF, 0x0, true, 0x0⟩,
  ⟨0x50, 0x0, 1, 0xFFFFFFFF, 0x0, true, 0x0⟩,
  ⟨0x54, 0x0, 1, 0xFFFFFFFF, 0x0, true, 0x0⟩,
  ⟨0x58, 0x0, 1, 0x0, 0x0, false, 0x0⟩,
  ⟨0x5C, 0x0, 1, 0x0, 0x0, false, 0x0⟩,
  ⟨0x60, 0x0, 1, 0x0, 0x0, false, 0x0⟩,
  ⟨0x70, 0x0, 1, 0xFFFFFFFF, 0x0, true, 0x0⟩,
  ⟨0x74, 0x0, 1, 0xFFFFFFFF, 0x0, true, 0x0⟩,
  ⟨0x78, 0x0, 1, 0x10FFF, 0x0, true, 0x0⟩,
  ⟨0x7C, 0x0, 1, 0x0, 0x0, false, 0x0⟩,
  ⟨0x80, 0x0, 1, 0xFFF, 0x0, false, 0x0⟩,
  ⟨0x90, 0x0, 1, 0xFFFFFFFF, 0x0, true, 0x0⟩,
  ⟨0x94, 0x0, 1, 0xFFFFFFFF, 0x0, true, 0x0⟩,
  ⟨0x98, 0x0, 1, 0x10FFF, 0x0, true, 0x0⟩,
  ⟨0x9C, 0x0, 1, 0x0, 0x0, false, 0x0⟩,
  ⟨0xA0, 0x0, 1, 0xFFF, 0x0, false, 0x0⟩,
  ⟨0xB0, 0x0, 1, 0x0, 0x100, false, 0x0⟩,
  ⟨0xB4, 0x0, 1, 0x0, 0x0, false, 0x0⟩,
  ⟨0xB8, 0x0, 1, 0x0, 0x0, false, 0x0⟩,
  ⟨0xBC, 0x0, 1, 0x0, 0x0, false, 0x0⟩,
  ⟨0xC0, 0x0, 1, 0x0, 0x0, false, 0x0⟩,
  ⟨0xC4, 0x0, 1, 0x0, 0x0, false, 0x0⟩,
  ⟨0xC8, 0x0, 1, 0x0, 0x0, false, 0x0⟩,
  ⟨0xCC, 0x0, 1, 0x0, 0x0, false, 0x0⟩,
  ⟨0x100, 0x4, 8, 0x0, 0x0, false, 0x0⟩]

/-- The STREAM page registers of spec/12_network_and_time.md (R415). -/
def streamRegs : List RegInfo :=
 [
  ⟨0x40, 0x4, 4, 0xFFFFFFFF, 0x0, true, 0x0⟩,
  ⟨0x50, 0x4, 4, 0xFFFFFFFF, 0x0, true, 0x0⟩,
  ⟨0x60, 0x0, 1, 0x3FF, 0x0, true, 0x5⟩,
  ⟨0x64, 0x0, 1, 0x0, 0x0, false, 0x0⟩,
  ⟨0x68, 0x0, 1, 0x0, 0x0, false, 0x0⟩,
  ⟨0x6C, 0x0, 1, 0x0, 0x0, false, 0x0⟩]

/-- The PORT page registers of spec/11_audio_ports.md (R372). -/
def portRegs : List RegInfo :=
 [
  ⟨0x40, 0x0, 1, 0x3FFF01B, 0x0, true, 0x2842000⟩,
  ⟨0x44, 0x0, 1, 0x7, 0x0, true, 0x0⟩,
  ⟨0x48, 0x0, 1, 0xFFFF, 0x0, true, 0x0⟩,
  ⟨0x4C, 0x0, 1, 0xFFFF, 0x0, true, 0x0⟩,
  ⟨0x50, 0x0, 1, 0xFFFFFFFF, 0x0, true, 0x400040⟩,
  ⟨0x54, 0x0, 1, 0x3FF, 0x0, true, 0x5⟩,
  ⟨0x58, 0x0, 1, 0xF, 0x0, true, 0x0⟩,
  ⟨0x60, 0x0, 1, 0x0, 0x0, false, 0x0⟩,
  ⟨0x64, 0x0, 1, 0x0, 0x0, false, 0x0⟩,
  ⟨0x68, 0x0, 1, 0x0, 0x0, false, 0x0⟩,
  ⟨0x6C, 0x0, 1, 0x0, 0x0, false, 0x0⟩,
  ⟨0x70, 0x0, 1, 0x0, 0x0, false, 0x0⟩,
  ⟨0x74, 0x0, 1, 0x0, 0x0, false, 0x0⟩,
  ⟨0x78, 0x0, 1, 0x0, 0x0, false, 0x0⟩]

/-- The AES page registers of spec/11_audio_ports.md (R346, R373). -/
def aesRegs : List RegInfo :=
 [
  ⟨0x40, 0x0, 1, 0xF7, 0x0, true, 0x0⟩,
  ⟨0x44, 0x0, 1, 0xF70D, 0x0, true, 0x8⟩,
  ⟨0x50, 0x0, 1, 0xFFFFFFFF, 0x0, true, 0x400040⟩,
  ⟨0x54, 0x0, 1, 0x3FF, 0x0, true, 0x5⟩,
  ⟨0x64, 0x0, 1, 0x0, 0x0, false, 0x0⟩,
  ⟨0x68, 0x0, 1, 0x0, 0x0, false, 0x0⟩,
  ⟨0x6C, 0x0, 1, 0x0, 0x0, false, 0x0⟩,
  ⟨0x70, 0x0, 1, 0x0, 0x0, false, 0x0⟩,
  ⟨0x74, 0x0, 1, 0x0, 0x0, false, 0x0⟩,
  ⟨0x78, 0x0, 1, 0x0, 0x0, false, 0x0⟩,
  ⟨0x80, 0x4, 6, 0xFFFFFFFF, 0x0, true, 0x0⟩,
  ⟨0xA0, 0x4, 6, 0x0, 0x0, false, 0x0⟩,
  ⟨0xC0, 0x4, 6, 0x0, 0x0, false, 0x0⟩,
  ⟨0xE0, 0x0, 1, 0x0, 0x0, false, 0x0⟩,
  ⟨0xE4, 0x0, 1, 0x0, 0x0, false, 0x0⟩,
  ⟨0xE8, 0x0, 1, 0x0, 0x0, false, 0x0⟩]

/-- The MADI page registers of spec/11_audio_ports.md (R346, R374). -/
def madiRegs : List RegInfo :=
 [
  ⟨0x40, 0x0, 1, 0xF7F, 0x0, true, 0x0⟩,
  ⟨0x50, 0x0, 1, 0xFFFFFFFF, 0x0, true, 0x400040⟩,
  ⟨0x54, 0x0, 1, 0x3FF, 0x0, true, 0x5⟩,
  ⟨0x64, 0x0, 1, 0x0, 0x0, false, 0x0⟩,
  ⟨0x68, 0x0, 1, 0x0, 0x0, false, 0x0⟩,
  ⟨0x6C, 0x0, 1, 0x0, 0x0, false, 0x0⟩,
  ⟨0x70, 0x0, 1, 0x0, 0x0, false, 0x0⟩,
  ⟨0x74, 0x0, 1, 0x0, 0x0, false, 0x0⟩,
  ⟨0x78, 0x0, 1, 0x0, 0x0, false, 0x0⟩,
  ⟨0xE4, 0x0, 1, 0x0, 0x0, false, 0x0⟩]

/-- The ASRC page registers of spec/11_audio_ports.md (R375). -/
def asrcRegs : List RegInfo :=
 [
  ⟨0x40, 0x0, 1, 0x31CF, 0x0, true, 0x0⟩,
  ⟨0x44, 0x0, 1, 0x1F, 0x0, true, 0x4⟩,
  ⟨0x48, 0x0, 1, 0x0, 0x0, false, 0x0⟩,
  ⟨0x4C, 0x0, 1, 0x0, 0x0, false, 0x0⟩,
  ⟨0x50, 0x0, 1, 0x0, 0x0, false, 0x0⟩,
  ⟨0x54, 0x0, 1, 0x0, 0x0, false, 0x0⟩]

/-- The ROUTE page registers of spec/13_routing_and_meters.md (R435). -/
def routeRegs : List RegInfo :=
 [
  ⟨0x44, 0x0, 1, 0x3FF, 0x0, true, 0xA⟩,
  ⟨0x48, 0x0, 1, 0x3F, 0x0, true, 0x5⟩,
  ⟨0x4C, 0x0, 1, 0x1FFF, 0x0, false, 0x0⟩,
  ⟨0x50, 0x0, 1, 0x0, 0x0, false, 0x0⟩,
  ⟨0x54, 0x0, 1, 0xFFFF, 0x0, false, 0x0⟩,
  ⟨0x58, 0x0, 1, 0x0, 0x0, false, 0x0⟩,
  ⟨0x5C, 0x0, 1, 0x0, 0x0, false, 0x0⟩,
  ⟨0x60, 0x0, 1, 0x0, 0x0, false, 0x0⟩,
  ⟨0x100, 0x10, 16, 0x7, 0x0, true, 0x0⟩,
  ⟨0x104, 0x10, 16, 0xFFFFFFFF, 0x0, true, 0x0⟩,
  ⟨0x108, 0x10, 16, 0xFFFFFFF, 0x0, true, 0xC000⟩,
  ⟨0x10C, 0x10, 16, 0xFFFFFFFF, 0x0, true, 0x1⟩]

/-- The METER page registers of spec/13_routing_and_meters.md (R437). -/
def meterRegs : List RegInfo :=
 [
  ⟨0x40, 0x0, 1, 0x0, 0x0, false, 0x0⟩,
  ⟨0x100, 0x20, 16, 0x0, 0x0, false, 0x0⟩,
  ⟨0x104, 0x20, 16, 0x0, 0x0, false, 0x80008000⟩,
  ⟨0x108, 0x20, 16, 0x0, 0x0, false, 0x8000⟩,
  ⟨0x10C, 0x20, 16, 0x0, 0x0, false, 0x0⟩]

/-- The SCENE page registers of spec/03_scene_and_panning.md (R133). -/
def sceneRegs : List RegInfo :=
 [
  ⟨0x44, 0x0, 1, 0x7, 0x0, true, 0x0⟩,
  ⟨0x48, 0x0, 1, 0x1F, 0x0, true, 0x1⟩,
  ⟨0x4C, 0x0, 1, 0x1FFFF, 0x0, true, 0x15700⟩,
  ⟨0x50, 0x0, 1, 0x3FF, 0x0, true, 0x14⟩,
  ⟨0x54, 0x0, 1, 0x0, 0x0, false, 0x0⟩,
  ⟨0x58, 0x0, 1, 0x0, 0x0, false, 0x0⟩,
  ⟨0x5C, 0x0, 1, 0xFFFF, 0x0, false, 0x2436⟩,
  ⟨0x60, 0x0, 1, 0xFFFF, 0x0, false, 0x0⟩,
  ⟨0x64, 0x0, 1, 0xFFFFFFFF, 0x0, false, 0x0⟩,
  ⟨0x68, 0x0, 1, 0xFFFFFFFF, 0x0, false, 0x0⟩,
  ⟨0x6C, 0x0, 1, 0x3, 0x0, false, 0x0⟩,
  ⟨0x70, 0x4, 9, 0x0, 0x0, false, 0x0⟩,
  ⟨0xA0, 0x4, 8, 0xFFFFFFFF, 0x0, false, 0x0⟩,
  ⟨0xC0, 0x0, 1, 0x0, 0x0, false, 0x0⟩,
  ⟨0xC4, 0x0, 1, 0x0, 0x0, false, 0x800⟩,
  ⟨0xC8, 0x0, 1, 0x0, 0x0, false, 0x0⟩,
  ⟨0x100, 0x4, 16, 0xFFFFFFFF, 0x0, true, 0x0⟩,
  ⟨0x140, 0x4, 16, 0x0, 0x0, false, 0x0⟩]

/-- The OBJ page registers of spec/03_scene_and_panning.md (R135). -/
def objRegs : List RegInfo :=
 [
  ⟨0x44, 0x0, 1, 0x1, 0x0, true, 0x0⟩,
  ⟨0x48, 0x0, 1, 0x3FF, 0x0, true, 0xA⟩,
  ⟨0x4C, 0x0, 1, 0xFFFFFFFF, 0x0, true, 0x0⟩,
  ⟨0x50, 0x0, 1, 0xFFFFFFFF, 0x0, true, 0x0⟩,
  ⟨0x54, 0x0, 1, 0x0, 0x0, false, 0x0⟩]

/-- The WARP page registers of spec/04_warp_matrix.md (R155). -/
def warpRegs : List RegInfo :=
 [
  ⟨0x44, 0x0, 1, 0x1, 0x0, true, 0x0⟩,
  ⟨0x48, 0x0, 1, 0x3FF, 0x0, true, 0xA⟩,
  ⟨0x4C, 0x0, 1, 0x3FF01FF, 0x0, false, 0x0⟩,
  ⟨0x50, 0x0, 1, 0x0, 0x0, false, 0x0⟩,
  ⟨0x54, 0x0, 1, 0x3FF, 0x0, false, 0x0⟩,
  ⟨0x58, 0x0, 1, 0x0, 0x0, false, 0x0⟩,
  ⟨0x5C, 0x0, 1, 0x0, 0x0, false, 0x0⟩,
  ⟨0x80, 0x4, 32, 0xFFFFFFFF, 0x0, true, 0x0⟩,
  ⟨0x100, 0x4, 16, 0x0, 0xFFFFFFFF, false, 0x0⟩]

/-- The CORR page registers of spec/05_output_correction.md (R183). -/
def corrRegs : List RegInfo :=
 [
  ⟨0x44, 0x0, 1, 0x3FF, 0x0, true, 0x14⟩,
  ⟨0x48, 0x0, 1, 0x3FF, 0x0, true, 0xA⟩,
  ⟨0x4C, 0x0, 1, 0x3FF, 0x0, true, 0x5⟩,
  ⟨0x50, 0x0, 1, 0xFFFFFFFF, 0x0, true, 0x0⟩,
  ⟨0x54, 0x0, 1, 0xFFFFFFFF, 0x0, true, 0x0⟩,
  ⟨0x58, 0x0, 1, 0xFFFFFF, 0x0, true, 0x0⟩,
  ⟨0x60, 0x0, 1, 0x1FF, 0x0, false, 0x0⟩,
  ⟨0x64, 0x0, 1, 0x0, 0x0, false, 0x0⟩,
  ⟨0x68, 0x0, 1, 0x0, 0x0, false, 0x0⟩,
  ⟨0x6C, 0x0, 1, 0x0, 0x0, false, 0x0⟩,
  ⟨0x70, 0x0, 1, 0x0, 0x0, false, 0x0⟩,
  ⟨0x74, 0x0, 1, 0x0, 0x0, false, 0x0⟩,
  ⟨0x78, 0x0, 1, 0x0, 0x0, false, 0x0⟩,
  ⟨0x7C, 0x0, 1, 0x0, 0x0, false, 0x0⟩,
  ⟨0x80, 0x0, 1, 0x0, 0x0, false, 0x0⟩,
  ⟨0x100, 0x4, 16, 0x0, 0xFFFFFFFF, false, 0x0⟩]

/-- The MEAS page registers of spec/14_capture_and_measurement.md (R463). -/
def measRegs : List RegInfo :=
 [
  ⟨0x40, 0x0, 1, 0xFFFFFFFF, 0x0, true, 0x0⟩,
  ⟨0x44, 0x0, 1, 0xFFFFFFFF, 0x0, true, 0x0⟩,
  ⟨0x48, 0x0, 1, 0xFFFFFFFF, 0x0, true, 0x0⟩,
  ⟨0x4C, 0x0, 1, 0x0, 0x0, false, 0x0⟩,
  ⟨0x50, 0x0, 1, 0xFFFFFFFF, 0x0, false, 0x0⟩,
  ⟨0x54, 0x0, 1, 0xFFFFFFFF, 0x0, false, 0x0⟩,
  ⟨0x58, 0x0, 1, 0x0, 0x0, false, 0x0⟩,
  ⟨0x5C, 0x0, 1, 0x0, 0x0, false, 0x80000000⟩,
  ⟨0x60, 0x4, 9, 0x0, 0x0, false, 0x0⟩]

/-- The CAPT page registers of spec/14_capture_and_measurement.md (R461). -/
def captRegs : List RegInfo :=
 [
  ⟨0x40, 0x0, 1, 0xFFFFFFFF, 0x0, true, 0x0⟩,
  ⟨0x44, 0x4, 5, 0xFFFFFFFF, 0x0, true, 0x0⟩,
  ⟨0x58, 0x4, 5, 0xFFFFFFFF, 0x0, true, 0x0⟩,
  ⟨0x6C, 0x0, 1, 0x3FF, 0x0, true, 0xA⟩,
  ⟨0x70, 0x4, 4, 0xFFFFFFFF, 0x0, true, 0xFFFFFFFF⟩,
  ⟨0x80, 0x0, 1, 0x0, 0x0, false, 0x0⟩,
  ⟨0x84, 0x0, 1, 0x0, 0x0, false, 0x0⟩,
  ⟨0x90, 0x4, 4, 0x0, 0xFFFFFFFF, false, 0x0⟩,
  ⟨0x100, 0x4, 144, 0x0, 0x0, false, 0x0⟩]

/-- The COIL page registers of spec/06_coil_scheduler.md (R220). -/
def coilRegs : List RegInfo :=
 [
  ⟨0x44, 0x0, 1, 0x3FF, 0x0, false, 0x64⟩,
  ⟨0x48, 0x0, 1, 0x3FF, 0x0, true, 0xA⟩,
  ⟨0x50, 0x4, 4, 0xFFFFFFFF, 0x0, true, 0x0⟩,
  ⟨0x60, 0x0, 1, 0x7FFF3FFF, 0x0, false, 0x0⟩,
  ⟨0x64, 0x0, 1, 0x0, 0x0, false, 0x0⟩,
  ⟨0x68, 0x0, 1, 0x0, 0x0, false, 0x0⟩,
  ⟨0x6C, 0x0, 1, 0x0, 0x0, false, 0x40⟩,
  ⟨0x70, 0x0, 1, 0x0, 0x0, false, 0x0⟩,
  ⟨0x74, 0x0, 1, 0x0, 0x0, false, 0x0⟩,
  ⟨0x78, 0x4, 3, 0x0, 0x0, false, 0x0⟩,
  ⟨0x84, 0x0, 1, 0x0, 0x0, false, 0x0⟩,
  ⟨0x88, 0x0, 1, 0x0, 0x0, false, 0x0⟩,
  ⟨0x8C, 0x0, 1, 0x0, 0x0, false, 0x0⟩,
  ⟨0x90, 0x0, 1, 0x0, 0x0, false, 0x0⟩,
  ⟨0x94, 0x0, 1, 0x0, 0x0, false, 0x0⟩,
  ⟨0x98, 0x0, 1, 0x0, 0x0, false, 0x0⟩,
  ⟨0x9C, 0x0, 1, 0x0, 0x0, false, 0x0⟩,
  ⟨0xA0, 0x0, 1, 0x0, 0x0, false, 0x0⟩]

/-- The OSIER page registers of spec/07_osier_cores.md (R267). -/
def osierRegs : List RegInfo :=
 [
  ⟨0x40, 0x0, 1, 0x0, 0x0, false, 0x0⟩,
  ⟨0x44, 0x0, 1, 0x0, 0x0, false, 0x0⟩,
  ⟨0x48, 0x0, 1, 0x0, 0x0, false, 0x0⟩,
  ⟨0x4C, 0x0, 1, 0x0, 0x0, false, 0x0⟩,
  ⟨0x50, 0x0, 1, 0x0, 0x0, false, 0x0⟩,
  ⟨0x54, 0x0, 1, 0x0, 0x0, false, 0x0⟩,
  ⟨0x58, 0x0, 1, 0x0, 0x0, false, 0x0⟩,
  ⟨0x5C, 0x0, 1, 0x0, 0x0, false, 0x0⟩,
  ⟨0x60, 0x0, 1, 0x0, 0x0, false, 0x0⟩,
  ⟨0x64, 0x0, 1, 0x0, 0x0, false, 0x0⟩,
  ⟨0x68, 0x0, 1, 0x0, 0x0, false, 0x0⟩]

/-- The PSTG page registers of spec/09_power_stage.md (R311). -/
def pstgRegs : List RegInfo :=
 [
  ⟨0x40, 0x0, 1, 0x1, 0x0, true, 0x0⟩,
  ⟨0x44, 0x0, 1, 0xFFFFFFFF, 0x0, true, 0xE6660000⟩,
  ⟨0x48, 0x0, 1, 0xFFFFFFFF, 0x0, true, 0xC801F4⟩,
  ⟨0x4C, 0x0, 1, 0x11F1F1F, 0x0, true, 0x1F0000⟩,
  ⟨0x50, 0x0, 1, 0x3FF, 0x0, true, 0x14⟩,
  ⟨0x54, 0x0, 1, 0xFFFF, 0x0, true, 0x7D0⟩,
  ⟨0x58, 0x0, 1, 0x0, 0x0, false, 0xFFFF0000⟩,
  ⟨0x5C, 0x0, 1, 0x0, 0x0, false, 0x0⟩,
  ⟨0x60, 0x0, 1, 0x0, 0x0, false, 0x0⟩,
  ⟨0x70, 0x0, 1, 0x7FFFFF, 0x0, true, 0x119400⟩,
  ⟨0x74, 0x0, 1, 0x0, 0x0, false, 0x0⟩,
  ⟨0x100, 0x4, 32, 0xFFFFFFFF, 0x0, true, 0x0⟩,
  ⟨0x200, 0x40, 8, 0x3F1F, 0x0, true, 0x0⟩,
  ⟨0x204, 0x40, 8, 0xFFFF, 0x0, true, 0x0⟩,
  ⟨0x208, 0x40, 8, 0xFFFFFFFF, 0x0, true, 0x0⟩,
  ⟨0x20C, 0x40, 8, 0xFFFFFFFF, 0x0, true, 0xA0000⟩,
  ⟨0x210, 0x40, 8, 0xFFFFFFFF, 0x0, true, 0x3E8000A⟩,
  ⟨0x214, 0x40, 8, 0xFFFFFFFF, 0x0, true, 0x2000000⟩,
  ⟨0x218, 0x40, 8, 0xFFFFFFFF, 0x0, true, 0x0⟩,
  ⟨0x21C, 0x40, 8, 0xFFFFFFFF, 0x0, true, 0x0⟩,
  ⟨0x220, 0x40, 8, 0xFFFFFFFF, 0x0, true, 0x0⟩,
  ⟨0x224, 0x40, 8, 0xFFFFFFFF, 0x0, true, 0x0⟩,
  ⟨0x228, 0x40, 8, 0x0, 0x0, false, 0x0⟩,
  ⟨0x22C, 0x40, 8, 0x0, 0x0, false, 0x0⟩,
  ⟨0x230, 0x40, 8, 0x0, 0x0, false, 0xFFFF0000⟩,
  ⟨0x234, 0x40, 8, 0x0, 0x0, false, 0x0⟩,
  ⟨0x238, 0x40, 8, 0x0, 0x0, false, 0x0⟩,
  ⟨0x23C, 0x40, 8, 0x0, 0x0, false, 0x0⟩]

/-- The LSUP page registers of spec/10_load_supervision.md (R335). -/
def lsupRegs : List RegInfo :=
 [
  ⟨0x44, 0x0, 1, 0xFFFF0003, 0x0, true, 0x2580000⟩,
  ⟨0x48, 0x0, 1, 0x0, 0x0, false, 0x0⟩,
  ⟨0x4C, 0x0, 1, 0x0, 0x0, false, 0x0⟩,
  ⟨0x50, 0x0, 1, 0x0, 0x0, false, 0x0⟩,
  ⟨0x54, 0x0, 1, 0x0, 0x0, false, 0x0⟩,
  ⟨0x60, 0x4, 8, 0xFFFFFF, 0x0, true, 0x753000⟩,
  ⟨0x80, 0x4, 16, 0x0, 0x0, false, 0x0⟩,
  ⟨0x100, 0x4, 64, 0xE1FF80FF, 0x0, true, 0xC100002E⟩,
  ⟨0x200, 0x4, 64, 0xFFFF, 0x0, true, 0x0⟩,
  ⟨0x300, 0x4, 64, 0xFFFF, 0x0, true, 0xA14⟩,
  ⟨0x400, 0x4, 64, 0x0, 0x0, false, 0x0⟩,
  ⟨0x500, 0x4, 64, 0x0, 0x0, false, 0x0⟩,
  ⟨0x600, 0x4, 64, 0xFFFF001F, 0x0, true, 0x320F0014⟩]

/-- The MEMC page registers of spec/15_memory.md (R485). -/
def memcRegs : List RegInfo :=
 [
  ⟨0x40, 0x0, 1, 0x3, 0x0, true, 0x0⟩,
  ⟨0x44, 0x0, 1, 0x0, 0x0, false, 0x0⟩,
  ⟨0x48, 0x0, 1, 0x0, 0x0, false, 0x0⟩,
  ⟨0x4C, 0x0, 1, 0xFFFF, 0x0, true, 0x0⟩,
  ⟨0x50, 0x0, 1, 0x1F, 0x0, true, 0xB⟩,
  ⟨0x54, 0x0, 1, 0x100FF, 0x0, true, 0x10000⟩,
  ⟨0x60, 0x0, 1, 0x0, 0x0, false, 0x0⟩,
  ⟨0x64, 0x0, 1, 0x0, 0x0, false, 0x0⟩,
  ⟨0x68, 0x0, 1, 0x0, 0x0, false, 0x0⟩,
  ⟨0x6C, 0x0, 1, 0x0, 0x0, false, 0x0⟩,
  ⟨0x70, 0x0, 1, 0x0, 0x0, false, 0x0⟩,
  ⟨0x74, 0x0, 1, 0x0, 0x0, false, 0x0⟩,
  ⟨0x78, 0x0, 1, 0x0, 0x0, false, 0x0⟩,
  ⟨0x7C, 0x0, 1, 0x0, 0x0, false, 0x0⟩,
  ⟨0x80, 0x4, 12, 0xFFFFF, 0x0, true, 0x0⟩,
  ⟨0xC0, 0x4, 12, 0x0, 0x0, false, 0x0⟩]

/-- The WEAVE page registers of spec/16_weave.md (R504). -/
def weaveRegs : List RegInfo :=
 [
  ⟨0x40, 0x4, 3, 0xFFFFFFFF, 0x0, true, 0x0⟩,
  ⟨0x50, 0x0, 1, 0x0, 0x0, false, 0x0⟩,
  ⟨0x54, 0x0, 1, 0x0, 0x0, false, 0x0⟩,
  ⟨0x58, 0x0, 1, 0x0, 0x0, false, 0x0⟩,
  ⟨0x5C, 0x0, 1, 0x0, 0x0, false, 0x0⟩,
  ⟨0x60, 0x0, 1, 0x0, 0x0, false, 0x0⟩,
  ⟨0x64, 0x0, 1, 0x0, 0x0, false, 0x0⟩,
  ⟨0x68, 0x0, 1, 0x0, 0x0, false, 0x0⟩,
  ⟨0x6C, 0x0, 1, 0x0, 0x0, false, 0x0⟩,
  ⟨0x70, 0x0, 1, 0x0, 0x0, false, 0x0⟩,
  ⟨0x78, 0x0, 1, 0x0, 0x0, false, 0x0⟩]

/-- The unit whose page has index `p`, as the number of its first page (R43); `none` for an index R43 does not list. -/
def unitOf (p : Nat) : Option Nat :=
  if p = 0x0 then some 0x0
  else if p = 0x1 then some 0x1
  else if p = 0x2 then some 0x2
  else if p = 0x3 then some 0x3
  else if p = 0x4 then some 0x4
  else if p = 0x5 then some 0x5
  else if p = 0x6 then some 0x6
  else if p = 0x7 then some 0x7
  else if p = 0x8 then some 0x8
  else if p = 0x10 then some 0x10
  else if 0x11 ≤ p ∧ p ≤ 0x12 then some 0x11
  else if p = 0x13 then some 0x13
  else if 0x20 ≤ p ∧ p ≤ 0x2F then some 0x20
  else if 0x30 ≤ p ∧ p ≤ 0x37 then some 0x30
  else if 0x38 ≤ p ∧ p ≤ 0x3B then some 0x38
  else if 0x3C ≤ p ∧ p ≤ 0x43 then some 0x3C
  else if p = 0x48 then some 0x48
  else if p = 0x49 then some 0x49
  else if p = 0x50 then some 0x50
  else if p = 0x51 then some 0x51
  else if p = 0x52 then some 0x52
  else if p = 0x53 then some 0x53
  else if p = 0x54 then some 0x54
  else if p = 0x55 then some 0x55
  else if p = 0x58 then some 0x58
  else if 0x60 ≤ p ∧ p ≤ 0xDF then some 0x60
  else if 0xE0 ≤ p ∧ p ≤ 0xE7 then some 0xE0
  else if p = 0xE8 then some 0xE8
  else if p = 0xF0 then some 0xF0
  else if p = 0xF8 then some 0xF8
  else none

/-- The unit registers of the unit with code `u`. -/
def unitRegs (u : Nat) : List RegInfo :=
  match u with
  | 0x0 => identRegs
  | 0x1 => hostRegs
  | 0x2 => irqRegs
  | 0x3 => plaitRegs
  | 0x4 => bootRegs
  | 0x5 => bistRegs
  | 0x6 => budgetRegs
  | 0x7 => faultRegs
  | 0x8 => hoopRegs
  | 0x10 => stakeRegs
  | 0x11 => netRegs
  | 0x13 => streamRegs
  | 0x20 => portRegs
  | 0x30 => aesRegs
  | 0x38 => madiRegs
  | 0x3C => asrcRegs
  | 0x48 => routeRegs
  | 0x49 => meterRegs
  | 0x50 => sceneRegs
  | 0x51 => objRegs
  | 0x52 => warpRegs
  | 0x53 => corrRegs
  | 0x54 => measRegs
  | 0x55 => captRegs
  | 0x58 => coilRegs
  | 0x60 => osierRegs
  | 0xE0 => pstgRegs
  | 0xE8 => lsupRegs
  | 0xF0 => memcRegs
  | 0xF8 => weaveRegs
  | _ => []

/-- The row and index within it that offset `off` names. -/
def findReg : List RegInfo → Nat → Option (RegInfo × Nat)
  | [], _ => none
  | r :: rs, off =>
    if r.off ≤ off then
      let k := if r.stride = 0 then 0 else (off - r.off) / r.stride
      if k < r.count ∧ r.off + k * r.stride = off then some (r, k) else findReg rs off
    else findReg rs off

/-- The register at offset `off` of page `p`: the header's rows, then the unit's. -/
def regAt (p off : Nat) : Option (RegInfo × Nat) :=
  match unitOf p with
  | none => none
  | some u => (findReg hdrRegs off).orElse (fun _ => findReg (unitRegs u) off)

/-! Register addresses by their spec names (page × 0x1000 + offset, R41). -/
namespace Reg

def pageId (p : Nat) : Nat := p * 0x1000 + 0x0
def pageCaps (p : Nat) : Nat := p * 0x1000 + 0x4
def pageCtrl (p : Nat) : Nat := p * 0x1000 + 0x8
def pageStatus (p : Nat) : Nat := p * 0x1000 + 0xC
def irqStatus (p : Nat) : Nat := p * 0x1000 + 0x10
def irqEnable (p : Nat) : Nat := p * 0x1000 + 0x14
def irqForce (p : Nat) : Nat := p * 0x1000 + 0x18
def commit (p : Nat) : Nat := p * 0x1000 + 0x1C
def commitMode (p : Nat) : Nat := p * 0x1000 + 0x20
def commitFrameLo (p : Nat) : Nat := p * 0x1000 + 0x24
def commitFrameHi (p : Nat) : Nat := p * 0x1000 + 0x28
def faultCause (p : Nat) : Nat := p * 0x1000 + 0x2C
def faultCount (p : Nat) : Nat := p * 0x1000 + 0x30
def identPart : Nat := 0x40
def identDeviceIdLo : Nat := 0x44
def identDeviceIdHi : Nat := 0x48
def identCapObjA : Nat := 0x4C
def identCapObjB : Nat := 0x50
def identCapOut : Nat := 0x54
def identCapUnits : Nat := 0x58
def identCapFeat : Nat := 0x5C
def identPageMap (k : Nat) : Nat := 0x100 + k * 0x4
def dmaCtrl (k : Nat) : Nat := 0x1040 + k * 0x20
def dmaDescLo (k : Nat) : Nat := 0x1044 + k * 0x20
def dmaDescHi (k : Nat) : Nat := 0x1048 + k * 0x20
def hostMsixPba (k : Nat) : Nat := 0x1180 + k * 0x4
def hostAudInBaseLo : Nat := 0x1200
def hostAudInBaseHi : Nat := 0x1204
def hostAudInCfg : Nat := 0x1208
def hostAudInOffset : Nat := 0x120C
def hostAudInPosLo : Nat := 0x1210
def hostAudInPosHi : Nat := 0x1214
def hostAudStatus : Nat := 0x1218
def hostAudUnderrun : Nat := 0x121C
def hostAudOutBaseLo : Nat := 0x1220
def hostAudOutBaseHi : Nat := 0x1224
def hostAudOutCfg : Nat := 0x1228
def hostAudOutPosLo : Nat := 0x1230
def hostAudOutPosHi : Nat := 0x1234
def hostGpioDir : Nat := 0x1300
def hostGpioOut : Nat := 0x1304
def hostGpioIn : Nat := 0x1308
def hostMsixTable (k : Nat) : Nat := 0x1400 + k * 0x4
def irqSummary (k : Nat) : Nat := 0x2100 + k * 0x4
def irqVecPendLo : Nat := 0x2200
def irqVecPendHi : Nat := 0x2204
def irqEoi : Nat := 0x2208
def plaitOpen : Nat := 0x3040
def plaitCur : Nat := 0x3044
def plaitTargetLo : Nat := 0x3048
def plaitTargetHi : Nat := 0x304C
def plaitTargetNs : Nat := 0x3050
def plaitCommit : Nat := 0x3054
def plaitAbort : Nat := 0x3058
def plaitPoolFree : Nat := 0x305C
def plaitSlotStatus (k : Nat) : Nat := 0x3100 + k * 0x8
def plaitSlotTicket (k : Nat) : Nat := 0x3104 + k * 0x8
def plaitSlotFrameLo (k : Nat) : Nat := 0x3200 + k * 0x8
def plaitSlotFrameHi (k : Nat) : Nat := 0x3204 + k * 0x8
def plaitSlotErrAddr (k : Nat) : Nat := 0x3300 + k * 0x4
def bootStatus : Nat := 0x4040
def bootAttempts : Nat := 0x4044
def bootLastErr : Nat := 0x4048
def bootStraps : Nat := 0x404C
def bootCmd : Nat := 0x4050
def bootHostWin : Nat := 0x4054
def bootHostGo : Nat := 0x4058
def bootOtpAddr : Nat := 0x4060
def bootOtpData : Nat := 0x4064
def bootOtpCmd : Nat := 0x4068
def bootOtpStatus : Nat := 0x406C
def bootImageIdLo : Nat := 0x4070
def bootImageIdHi : Nat := 0x4074
def bootStartTimeMs : Nat := 0x4078
def bistStatus : Nat := 0x5040
def bistResult : Nat := 0x5044
def bistWindow : Nat := 0x5048
def bistLapseCount : Nat := 0x504C
def bistDeferCount : Nat := 0x5050
def bistAbandonCount : Nat := 0x5054
def bistRun : Nat := 0x5058
def bistInject : Nat := 0x505C
def budgetCtrl : Nat := 0x6040
def budgetSlackTargetNs : Nat := 0x6044
def budgetVcoreLimits : Nat := 0x6048
def budgetVcore : Nat := 0x604C
def budgetPowerLimit : Nat := 0x6050
def budgetRailAllow : Nat := 0x6054
def budgetTjLimit : Nat := 0x6058
def budgetTierMax : Nat := 0x605C
def budgetTierStatus : Nat := 0x6060
def budgetPower : Nat := 0x6064
def budgetSlack : Nat := 0x6068
def budgetTj : Nat := 0x606C
def budgetTemp (k : Nat) : Nat := 0x6080 + k * 0x4
def budgetDomain : Nat := 0x60C0
def budgetDomainStatus : Nat := 0x60C4
def budgetStandby : Nat := 0x60C8
def faultCtrl : Nat := 0x7040
def faultFreezeLimitS : Nat := 0x7044
def faultStatus : Nat := 0x7048
def faultRecHead : Nat := 0x704C
def faultRecTail : Nat := 0x7050
def faultOverflow : Nat := 0x7054
def faultSnapWin : Nat := 0x7058
def faultFreezeTimeSLo : Nat := 0x7060
def faultFreezeTimeSHi : Nat := 0x7064
def faultFreezeTimeNs : Nat := 0x7068
def faultFreezeFrameLo : Nat := 0x706C
def faultFreezeFrameHi : Nat := 0x7070
def faultFreezeCount : Nat := 0x7074
def hoopCtrl : Nat := 0x8040
def hoopRevertHold : Nat := 0x8044
def hoopCmd : Nat := 0x8048
def hoopStatus : Nat := 0x804C
def hoopTickOffsetNs : Nat := 0x8050
def hoopHoldLeftS : Nat := 0x8054
def hoopHandoverFrameLo : Nat := 0x8058
def hoopHandoverFrameHi : Nat := 0x805C
def hoopLastSwitchFrameLo : Nat := 0x8060
def hoopLastSwitchFrameHi : Nat := 0x8064
def hoopSwitchCount : Nat := 0x8068
def hoopCrcMismatch : Nat := 0x806C
def hoopDiverge : Nat := 0x8070
def hoopLinkErr : Nat := 0x8074
def hoopResyncCount : Nat := 0x8078
def hoopPeerIdLo : Nat := 0x8080
def hoopPeerIdHi : Nat := 0x8084
def stakeTimeSLo : Nat := 0x10040
def stakeTimeSHi : Nat := 0x10044
def stakeTimeNs : Nat := 0x10048
def stakeTimeFrac : Nat := 0x1004C
def stakeIncrNs : Nat := 0x10050
def stakeIncrFrac : Nat := 0x10054
def stakeSrc : Nat := 0x10058
def stakeFreeTrimPpb : Nat := 0x1005C
def stakeSlew : Nat := 0x10060
def stakeStepThrUs : Nat := 0x10064
def stakeSetSLo : Nat := 0x10068
def stakeSetSHi : Nat := 0x1006C
def stakeSetNs : Nat := 0x10070
def stakeSetCtrl : Nat := 0x10074
def stakeServo : Nat := 0x10078
def stakeOffsetNs : Nat := 0x1007C
def stakeFreqPpb : Nat := 0x10080
def stakeStepCount : Nat := 0x10084
def stakeGmTodLo : Nat := 0x10088
def stakeGmTodHi : Nat := 0x1008C
def stakeGmHoldS : Nat := 0x10090
def stakeWclk : Nat := 0x10094
def stakeWclkInMhz : Nat := 0x10098
def stakePtpCfg : Nat := 0x100A0
def stakePtpCfg2 : Nat := 0x100A4
def stakePtpIntervals : Nat := 0x100A8
def stakePtpGmIdLo : Nat := 0x100AC
def stakePtpGmIdHi : Nat := 0x100B0
def stakePtpStatus : Nat := 0x100B4
def stakeRenderRate : Nat := 0x10100
def stakeDirectWindowNs : Nat := 0x10104
def stakeFrameIndexLo : Nat := 0x10108
def stakeFrameIndexHi : Nat := 0x1010C
def stakeFrameStatus : Nat := 0x10110
def stakeTtStartSLo (k : Nat) : Nat := 0x10140 + k * 0x20
def stakeTtStartSHi (k : Nat) : Nat := 0x10144 + k * 0x20
def stakeTtStartNs (k : Nat) : Nat := 0x10148 + k * 0x20
def stakeTtPeriodNs (k : Nat) : Nat := 0x1014C + k * 0x20
def stakeTtPeriodFrac (k : Nat) : Nat := 0x10150 + k * 0x20
def stakeTtWidthNs (k : Nat) : Nat := 0x10154 + k * 0x20
def stakeTtCtrl (k : Nat) : Nat := 0x10158 + k * 0x20
def stakeTtStatus (k : Nat) : Nat := 0x1015C + k * 0x20
def stakeTcapCtrl (k : Nat) : Nat := 0x10240 + k * 0x10
def stakeTcapSLo (k : Nat) : Nat := 0x10244 + k * 0x10
def stakeTcapSHi (k : Nat) : Nat := 0x10248 + k * 0x10
def stakeTcapNs (k : Nat) : Nat := 0x1024C + k * 0x10
def netCfg (i : Nat) : Nat := 0x11040 + i * 0x1000
def netIp (i : Nat) : Nat := 0x11044 + i * 0x1000
def netMask (i : Nat) : Nat := 0x11048 + i * 0x1000
def netGw (i : Nat) : Nat := 0x1104C + i * 0x1000
def netLat (i : Nat) : Nat := 0x11050 + i * 0x1000
def netAsymNs (i : Nat) : Nat := 0x11054 + i * 0x1000
def netMacLo (i : Nat) : Nat := 0x11058 + i * 0x1000
def netMacHi (i : Nat) : Nat := 0x1105C + i * 0x1000
def netStatus (i : Nat) : Nat := 0x11060 + i * 0x1000
def netHrxBaseLo (i : Nat) : Nat := 0x11070 + i * 0x1000
def netHrxBaseHi (i : Nat) : Nat := 0x11074 + i * 0x1000
def netHrxCfg (i : Nat) : Nat := 0x11078 + i * 0x1000
def netHrxHead (i : Nat) : Nat := 0x1107C + i * 0x1000
def netHrxTail (i : Nat) : Nat := 0x11080 + i * 0x1000
def netHtxBaseLo (i : Nat) : Nat := 0x11090 + i * 0x1000
def netHtxBaseHi (i : Nat) : Nat := 0x11094 + i * 0x1000
def netHtxCfg (i : Nat) : Nat := 0x11098 + i * 0x1000
def netHtxHead (i : Nat) : Nat := 0x1109C + i * 0x1000
def netHtxTail (i : Nat) : Nat := 0x110A0 + i * 0x1000
def netTxtsLevel (i : Nat) : Nat := 0x110B0 + i * 0x1000
def netTxtsTag (i : Nat) : Nat := 0x110B4 + i * 0x1000
def netTxtsSLo (i : Nat) : Nat := 0x110B8 + i * 0x1000
def netTxtsSHi (i : Nat) : Nat := 0x110BC + i * 0x1000
def netTxtsNs (i : Nat) : Nat := 0x110C0 + i * 0x1000
def netTxtsFrac (i : Nat) : Nat := 0x110C4 + i * 0x1000
def netTxtsPop (i : Nat) : Nat := 0x110C8 + i * 0x1000
def netTxtsOverflow (i : Nat) : Nat := 0x110CC + i * 0x1000
def netCnt (i : Nat) (k : Nat) : Nat := 0x11100 + i * 0x1000 + k * 0x4
def streamRxEn (k : Nat) : Nat := 0x13040 + k * 0x4
def streamTxEn (k : Nat) : Nat := 0x13050 + k * 0x4
def streamRampMs : Nat := 0x13060
def streamLoad : Nat := 0x13064
def streamWire : Nat := 0x13068
def streamErr : Nat := 0x1306C
def portFormat (i : Nat) : Nat := 0x20040 + i * 0x1000
def portRate (i : Nat) : Nat := 0x20044 + i * 0x1000
def portInMask (i : Nat) : Nat := 0x20048 + i * 0x1000
def portOutMask (i : Nat) : Nat := 0x2004C + i * 0x1000
def portLeadin (i : Nat) : Nat := 0x20050 + i * 0x1000
def portRampMs (i : Nat) : Nat := 0x20054 + i * 0x1000
def portGroup (i : Nat) : Nat := 0x20058 + i * 0x1000
def portStatus (i : Nat) : Nat := 0x20060 + i * 0x1000
def portInPhaseNs (i : Nat) : Nat := 0x20064 + i * 0x1000
def portRateMhz (i : Nat) : Nat := 0x20068 + i * 0x1000
def portRateClass (i : Nat) : Nat := 0x2006C + i * 0x1000
def portUnderrun (i : Nat) : Nat := 0x20070 + i * 0x1000
def portOverrun (i : Nat) : Nat := 0x20074 + i * 0x1000
def portRealign (i : Nat) : Nat := 0x20078 + i * 0x1000
def aesRxCfg (i : Nat) : Nat := 0x30040 + i * 0x1000
def aesTxCfg (i : Nat) : Nat := 0x30044 + i * 0x1000
def aesLeadin (i : Nat) : Nat := 0x30050 + i * 0x1000
def aesRampMs (i : Nat) : Nat := 0x30054 + i * 0x1000
def aesInPhaseNs (i : Nat) : Nat := 0x30064 + i * 0x1000
def aesRateMhz (i : Nat) : Nat := 0x30068 + i * 0x1000
def aesRateClass (i : Nat) : Nat := 0x3006C + i * 0x1000
def aesUnderrun (i : Nat) : Nat := 0x30070 + i * 0x1000
def aesOverrun (i : Nat) : Nat := 0x30074 + i * 0x1000
def aesRealign (i : Nat) : Nat := 0x30078 + i * 0x1000
def aesTxCs (i : Nat) (k : Nat) : Nat := 0x30080 + i * 0x1000 + k * 0x4
def aesRxCsa (i : Nat) (k : Nat) : Nat := 0x300A0 + i * 0x1000 + k * 0x4
def aesRxCsb (i : Nat) (k : Nat) : Nat := 0x300C0 + i * 0x1000 + k * 0x4
def aesCrccCount (i : Nat) : Nat := 0x300E0 + i * 0x1000
def aesParityCount (i : Nat) : Nat := 0x300E4 + i * 0x1000
def aesValidityCount (i : Nat) : Nat := 0x300E8 + i * 0x1000
def madiCfg (i : Nat) : Nat := 0x38040 + i * 0x1000
def madiLeadin (i : Nat) : Nat := 0x38050 + i * 0x1000
def madiRampMs (i : Nat) : Nat := 0x38054 + i * 0x1000
def madiInPhaseNs (i : Nat) : Nat := 0x38064 + i * 0x1000
def madiRateMhz (i : Nat) : Nat := 0x38068 + i * 0x1000
def madiRateClass (i : Nat) : Nat := 0x3806C + i * 0x1000
def madiUnderrun (i : Nat) : Nat := 0x38070 + i * 0x1000
def madiOverrun (i : Nat) : Nat := 0x38074 + i * 0x1000
def madiRealign (i : Nat) : Nat := 0x38078 + i * 0x1000
def madiParityCount (i : Nat) : Nat := 0x380E4 + i * 0x1000
def asrcBind (i : Nat) : Nat := 0x3C040 + i * 0x1000
def asrcCfg (i : Nat) : Nat := 0x3C044 + i * 0x1000
def asrcStatus (i : Nat) : Nat := 0x3C048 + i * 0x1000
def asrcRatioLo (i : Nat) : Nat := 0x3C04C + i * 0x1000
def asrcRatioHi (i : Nat) : Nat := 0x3C050 + i * 0x1000
def asrcGdNs (i : Nat) : Nat := 0x3C054 + i * 0x1000
def routeRampTime : Nat := 0x48044
def routeXfade : Nat := 0x48048
def routePatchSink : Nat := 0x4804C
def routePatchSrc : Nat := 0x48050
def routeMixNode : Nat := 0x48054
def routeMixGain : Nat := 0x48058
def routeDiscards : Nat := 0x4805C
def routeClipCount : Nat := 0x48060
def routeGenCtrl (k : Nat) : Nat := 0x48100 + k * 0x10
def routeGenFreq (k : Nat) : Nat := 0x48104 + k * 0x10
def routeGenLevel (k : Nat) : Nat := 0x48108 + k * 0x10
def routeGenSeed (k : Nat) : Nat := 0x4810C + k * 0x10
def meterClear : Nat := 0x49040
def meterLoudCtrl (k : Nat) : Nat := 0x49100 + k * 0x20
def meterLoudMs (k : Nat) : Nat := 0x49104 + k * 0x20
def meterLoudI (k : Nat) : Nat := 0x49108 + k * 0x20
def meterLoudStatus (k : Nat) : Nat := 0x4910C + k * 0x20
def sceneBanks : Nat := 0x50044
def sceneSolvePeriod : Nat := 0x50048
def sceneSoundSpeed : Nat := 0x5004C
def sceneHealRampMs : Nat := 0x50050
def sceneLayoutBuild : Nat := 0x50054
def sceneLayoutStatus : Nat := 0x50058
def sceneFelotPort : Nat := 0x5005C
def sceneFelotSceneId : Nat := 0x50060
def sceneFelotGroup : Nat := 0x50064
def sceneFelotSrc : Nat := 0x50068
def sceneFelotNets : Nat := 0x5006C
def sceneFelotCnt (k : Nat) : Nat := 0x50070 + k * 0x4
def sceneRec (k : Nat) : Nat := 0x500A0 + k * 0x4
def sceneRecPost : Nat := 0x500C0
def sceneQueueFree : Nat := 0x500C4
def sceneErrIndex : Nat := 0x500C8
def sceneSpkExclude (k : Nat) : Nat := 0x50100 + k * 0x4
def sceneSpkAvail (k : Nat) : Nat := 0x50140 + k * 0x4
def objBanks : Nat := 0x51044
def objTrimRampMs : Nat := 0x51048
def objDlineBaseLo : Nat := 0x5104C
def objDlineBaseHi : Nat := 0x51050
def objPrefetchMiss : Nat := 0x51054
def warpBanks : Nat := 0x52044
def warpRampTime : Nat := 0x52048
def warpDwNode : Nat := 0x5204C
def warpDwGain : Nat := 0x52050
def warpViewRow : Nat := 0x52054
def warpClipCount : Nat := 0x52058
def warpDwDiscards : Nat := 0x5205C
def warpRowDirect (k : Nat) : Nat := 0x52080 + k * 0x4
def warpClipMap (k : Nat) : Nat := 0x52100 + k * 0x4
def corrXfadeMs : Nat := 0x53044
def corrGainRampMs : Nat := 0x53048
def corrMuteRampMs : Nat := 0x5304C
def corrDramBaseLo : Nat := 0x53050
def corrDramBaseHi : Nat := 0x53054
def corrCsBase : Nat := 0x53058
def corrOutSel : Nat := 0x53060
def corrOutBank : Nat := 0x53064
def corrOutGain : Nat := 0x53068
def corrOutMute : Nat := 0x5306C
def corrPrep : Nat := 0x53070
def corrPrepStatus : Nat := 0x53074
def corrLateCount : Nat := 0x53078
def corrClipCount : Nat := 0x5307C
def corrDiscards : Nat := 0x53080
def corrClipMap (k : Nat) : Nat := 0x53100 + k * 0x4
def measDramBaseLo : Nat := 0x54040
def measDramBaseHi : Nat := 0x54044
def measDramSize : Nat := 0x54048
def measCmd : Nat := 0x5404C
def measStartLo : Nat := 0x54050
def measStartHi : Nat := 0x54054
def measStatus : Nat := 0x54058
def measFree : Nat := 0x5405C
def measMlsPoly (k : Nat) : Nat := 0x54060 + k * 0x4
def captMicCfg : Nat := 0x55040
def captResp (k : Nat) : Nat := 0x55044 + k * 0x4
def captBank (k : Nat) : Nat := 0x55058 + k * 0x4
def captXfadeMs : Nat := 0x5506C
def captHoopSel (k : Nat) : Nat := 0x55070 + k * 0x4
def captDetClear : Nat := 0x55080
def captClipCount : Nat := 0x55084
def captOvl (k : Nat) : Nat := 0x55090 + k * 0x4
def captGdNs (k : Nat) : Nat := 0x55100 + k * 0x4
def coilAffinityWait : Nat := 0x58044
def coilDirectXfadeMs : Nat := 0x58048
def coilGroupTier (k : Nat) : Nat := 0x58050 + k * 0x4
def coilNodeSel : Nat := 0x58060
def coilNodeCtrl : Nat := 0x58064
def coilSubmit : Nat := 0x58068
def coilSubmitCredit : Nat := 0x5806C
def coilTier : Nat := 0x58070
def coilCapacity : Nat := 0x58074
def coilLoad (k : Nat) : Nat := 0x58078 + k * 0x4
def coilDirectNs : Nat := 0x58084
def coilFill : Nat := 0x58088
def coilDelayFill : Nat := 0x5808C
def coilMissCount : Nat := 0x58090
def coilOverrunCount : Nat := 0x58094
def coilLateCount : Nat := 0x58098
def coilHoldCount : Nat := 0x5809C
def coilErr : Nat := 0x580A0
def osierStatus (i : Nat) : Nat := 0x60040 + i * 0x1000
def osierNode (i : Nat) : Nat := 0x60044 + i * 0x1000
def osierPc (i : Nat) : Nat := 0x60048 + i * 0x1000
def osierFaultInfo (i : Nat) : Nat := 0x6004C + i * 0x1000
def osierBundlesLo (i : Nat) : Nat := 0x60050 + i * 0x1000
def osierBundlesHi (i : Nat) : Nat := 0x60054 + i * 0x1000
def osierResidueCount (i : Nat) : Nat := 0x60058 + i * 0x1000
def osierParityCount (i : Nat) : Nat := 0x6005C + i * 0x1000
def osierEccCorrected (i : Nat) : Nat := 0x60060 + i * 0x1000
def osierInject (i : Nat) : Nat := 0x60064 + i * 0x1000
def osierLateWrites (i : Nat) : Nat := 0x60068 + i * 0x1000
def pstgGrpCtrl (i : Nat) : Nat := 0xE0040 + i * 0x1000
def pstgGrpRail (i : Nat) : Nat := 0xE0044 + i * 0x1000
def pstgGrpSagTime (i : Nat) : Nat := 0xE0048 + i * 0x1000
def pstgGrpFreq (i : Nat) : Nat := 0xE004C + i * 0x1000
def pstgRampMs (i : Nat) : Nat := 0xE0050 + i * 0x1000
def pstgRecheckMs (i : Nat) : Nat := 0xE0054 + i * 0x1000
def pstgGrpStatus (i : Nat) : Nat := 0xE0058 + i * 0x1000
def pstgGrpFsw (i : Nat) : Nat := 0xE005C + i * 0x1000
def pstgGrpRailMeas (i : Nat) : Nat := 0xE0060 + i * 0x1000
def pstgAmGuard (i : Nat) : Nat := 0xE0070 + i * 0x1000
def pstgPlanStatus (i : Nat) : Nat := 0xE0074 + i * 0x1000
def pstgStation (i : Nat) (k : Nat) : Nat := 0xE0100 + i * 0x1000 + k * 0x4
def pstgChCfg (i : Nat) (k : Nat) : Nat := 0xE0200 + i * 0x1000 + k * 0x40
def pstgChVfs (i : Nat) (k : Nat) : Nat := 0xE0204 + i * 0x1000 + k * 0x40
def pstgChSense (i : Nat) (k : Nat) : Nat := 0xE0208 + i * 0x1000 + k * 0x40
def pstgChPlimit (i : Nat) (k : Nat) : Nat := 0xE020C + i * 0x1000 + k * 0x40
def pstgChPlTime (i : Nat) (k : Nat) : Nat := 0xE0210 + i * 0x1000 + k * 0x40
def pstgChProt (i : Nat) (k : Nat) : Nat := 0xE0214 + i * 0x1000 + k * 0x40
def pstgChLoopA1 (i : Nat) (k : Nat) : Nat := 0xE0218 + i * 0x1000 + k * 0x40
def pstgChLoopA2 (i : Nat) (k : Nat) : Nat := 0xE021C + i * 0x1000 + k * 0x40
def pstgChLoopB0 (i : Nat) (k : Nat) : Nat := 0xE0220 + i * 0x1000 + k * 0x40
def pstgChLoopB1 (i : Nat) (k : Nat) : Nat := 0xE0224 + i * 0x1000 + k * 0x40
def pstgChStatus (i : Nat) (k : Nat) : Nat := 0xE0228 + i * 0x1000 + k * 0x40
def pstgChCmd (i : Nat) (k : Nat) : Nat := 0xE022C + i * 0x1000 + k * 0x40
def pstgChGain (i : Nat) (k : Nat) : Nat := 0xE0230 + i * 0x1000 + k * 0x40
def pstgChPower (i : Nat) (k : Nat) : Nat := 0xE0234 + i * 0x1000 + k * 0x40
def pstgChCounts (i : Nat) (k : Nat) : Nat := 0xE0238 + i * 0x1000 + k * 0x40
def pstgChLoopStatus (i : Nat) (k : Nat) : Nat := 0xE023C + i * 0x1000 + k * 0x40
def lsupAcCtrl : Nat := 0xE8044
def lsupCmd : Nat := 0xE8048
def lsupCmdStatus : Nat := 0xE804C
def lsupHealCount : Nat := 0xE8050
def lsupAbortCount : Nat := 0xE8054
def lsupGrpPilot (k : Nat) : Nat := 0xE8060 + k * 0x4
def lsupUnavail (k : Nat) : Nat := 0xE8080 + k * 0x4
def lsupChCfg (k : Nat) : Nat := 0xE8100 + k * 0x4
def lsupChZnom (k : Nat) : Nat := 0xE8200 + k * 0x4
def lsupChTol (k : Nat) : Nat := 0xE8300 + k * 0x4
def lsupChStatus (k : Nat) : Nat := 0xE8400 + k * 0x4
def lsupChZ (k : Nat) : Nat := 0xE8500 + k * 0x4
def lsupChAc (k : Nat) : Nat := 0xE8600 + k * 0x4
def memcFsp : Nat := 0xF0040
def memcStatus : Nat := 0xF0044
def memcTrain : Nat := 0xF0048
def memcSrIdleUs : Nat := 0xF004C
def memcRh : Nat := 0xF0050
def memcScrub : Nat := 0xF0054
def memcLoad : Nat := 0xF0060
def memcEccCe : Nat := 0xF0064
def memcEccUe : Nat := 0xF0068
def memcEccAddrLo : Nat := 0xF006C
def memcEccAddrHi : Nat := 0xF0070
def memcRhCount : Nat := 0xF0074
def memcTemp : Nat := 0xF0078
def memcWindowMaxNs : Nat := 0xF007C
def memcPortTarget (k : Nat) : Nat := 0xF0080 + k * 0x4
def memcPortMax (k : Nat) : Nat := 0xF00C0 + k * 0x4
def weaveWeight (k : Nat) : Nat := 0xF8040 + k * 0x4
def weaveDiscards : Nat := 0xF8050
def weaveAddrErr : Nat := 0xF8054
def weaveLockBreaks : Nat := 0xF8058
def weaveResetBursts : Nat := 0xF805C
def weaveRecInfo : Nat := 0xF8060
def weaveRecAddrLo : Nat := 0xF8064
def weaveRecAddrHi : Nat := 0xF8068
def weaveRecFrameLo : Nat := 0xF806C
def weaveRecFrameHi : Nat := 0xF8070
def weaveTargetErr : Nat := 0xF8078

end Reg

end Sys2Proof.Machine
end

