-- ==== Sys2Proof/Machine/State.lean ====
section
/-!
DEFINITION. The machine's state as plain data: every register, table, queue, counter, mode and pin the spec gives the
block, unit by unit, the queue of waiting commands, and `State.reset`. Field defaults are the reset values.
-/
namespace Sys2Proof.Machine

/-- Reasons for which a step stops with a fault. [DESIGN CHOICE, safe: log entry 11] -/
inductive Fault where
  /-- R9: the command describes an environment outside the limits the manual states, where behaviour is not defined. Raised by
  FRAME_TICK alone, on a running member of a pair whose CLAIM_IN_N floats (R543); safe (the hardware goes on, the model stops). -/
  | outsideLimits
  deriving DecidableEq, Repr

/-- Reasons for which a command is refused. -/
inductive Refusal where
  /-- The command has no meaning yet; only an arm of `exec` could raise it, and none does; safe. -/
  | notModelled (mnemonic : String)
  deriving DecidableEq, Repr

/-- The three parts of the family (R1). [DESIGN CHOICE, unsafe: log entry 6] -/
inductive Variant where
  | zn5480 | zn5340 | zn5220
  deriving DecidableEq, Repr

/-- A page commit that waits for its tick (R51, R53). -/
structure PendCommit where
  /-- offsets and staging values snapshotted at the request -/
  values : List (Nat × Word)
  /-- COMMIT_MODE at the request: 1 next frame, 2 frame index -/
  mode : Nat
  /-- local-counter instant from which a mode-1 commit may take its tick -/
  ready : Nat
  /-- frame index of a mode-2 commit -/
  frame : Nat
  deriving DecidableEq, Repr

/-- The time base: Stake time and the frame ticks (R15, R17, R377). Times are in units of 2^-32 ns. [DESIGN CHOICE, unsafe: log entry 139] -/
structure Clock where
  /-- Stake time since the PTP epoch -/
  stake : Nat := 0
  /-- the increment I per counter tick, in 2^-32 ns (R377, R378) -/
  incr : Nat := 4 * 2 ^ 32
  /-- the free-running local counter, never stepped -/
  mono : Nat := 0
  /-- time in the AON domain -/
  aon : Nat := 0
  /-- frame ticks are being produced -/
  ticking : Bool := false
  /-- the tick-placement bound of R17 holds -/
  locked : Bool := false
  /-- rate code in force (the rate at which ticks are, or last were, produced) -/
  rate : Nat := 0
  /-- index of the frame in progress -/
  frame : Nat := 0
  /-- index of the next tick -/
  nextTick : Nat := 0
  /-- a rate change that is pending: the Stake second S and the new code (R38, R40) -/
  rateChange : Option (Nat × Nat) := none
  /-- the number of the steps of R38 that have been carried out for the pending change -/
  rateStep : Nat := 0
  /-- frames of lead-in and ramp after the first tick are counted from this frame -/
  firstTick : Nat := 0
  /-- local-counter instant of the tick that began the frame in progress -/
  tickMono : Nat := 0
  /-- phase of the frame: 0 direct window, 1 background, 2 guard (R21) -/
  phase : Nat := 0
  deriving DecidableEq, Repr

/-- States of a plait slot (R71). -/
inductive SlotState where
  | free | open | pending | done
  deriving DecidableEq, Repr

/-- Outcomes of a plait (R82). -/
inductive Outcome where
  | none | committed | abortFull | abortLate | abortConflict | abortBudget | abortHost | abortReset
  deriving DecidableEq, Repr

/-- One plait slot record (R71); the records lie in the AON domain (R72). -/
structure Slot where
  state : SlotState := .free
  outcome : Outcome := .none
  tierStepped : Bool := false
  owner : Nat := 0
  ticket : Nat := 0
  /-- captured writes in capture order: register address and value -/
  writes : List (Nat × Word) := []
  /-- number of writes captured (kept after the pool entries are freed) -/
  captured : Nat := 0
  /-- a write was lost because the plait or the pool was full (R73) -/
  overfull : Bool := false
  targetLo : Word := 0
  targetHi : Word := 0
  targetNs : Word := 0
  /-- PLAIT_COMMIT's mode once written, 0 before; the decision is then due (R74) -/
  mode : Nat := 0
  allowTier : Bool := false
  /-- resolved target frame -/
  frame : Nat := 0
  /-- a mode-1 plait decided while ticks are stopped resolves at the first tick from this local-counter instant (R602) -/
  floating : Option Nat := none
  errAddr : Word := 0
  /-- order in which the decision was reached -/
  decided : Nat := 0
  /-- order in which the outcome was reached -/
  finished : Nat := 0
  /-- tiers by which BUDGET lowers the admitted tier at the plait's frame (R76) -/
  tierDrop : Nat := 0
  deriving DecidableEq, Repr

/-- The PLAIT page's machinery (R70 to R82). -/
structure PlaitSt where
  slots : Tab Slot := []
  /-- the 16-bit ticket counter of R72 -/
  ticket : Nat := 0
  /-- counts decisions and outcomes, for the orders of R72 and R77 -/
  seq : Nat := 0
  deriving DecidableEq, Repr

/-- One DMA channel (R67, R68). -/
structure DmaCh where
  running : Bool := false
  /-- address of the descriptor in progress, and whether it lies in host memory -/
  desc : Nat := 0
  descHost : Bool := false
  deriving DecidableEq, Repr

/-- The SPI control port (R62 to R66). -/
structure SpiSt where
  crcErr : Bool := false
  timeout : Bool := false
  decodeErr : Bool := false
  busy : Bool := false
  /-- bytes returned on SPIS_MISO in the last transaction -/
  miso : List Byte := []
  deriving DecidableEq, Repr

/-- Page machinery common to all units: pending commits, latches and host interfaces. -/
structure Ctl where
  commits : Tab (Option PendCommit) := []
  /-- PAGE_CTRL enables in force in the units (a change of enable acts at its tick, R602) -/
  enabled : Tab Bool := []
  /-- PAGE_CTRL changes that wait for their tick, oldest first: the new value and the earliest instant -/
  enablePosts : Tab (List (Bool × Nat)) := []
  /-- halves latched by a read of _LO, by register address (R12) -/
  latch : Tab (Option Word) := []
  dma : Tab DmaCh := []
  spi : SpiSt := {}
  /-- vectors that were pending after the last command, one bit each (R59) -/
  vecPend : Nat := 0
  /-- MSI-X messages sent by the last command -/
  msix : List Nat := []
  /-- data returned by the last read on the Weave, and its response code -/
  busData : List Byte := []
  busResp : Nat := 0
  /-- writes to host memory made by the last command: address and bytes -/
  hostWrites : List (Nat × List Byte) := []
  deriving DecidableEq, Repr

/-- One record of the FAULT ring (R563, R579). -/
structure FaultRec where
  frame : Nat := 0
  page : Nat := 0
  code : Nat := 0
  cls : Nat := 0
  valid : Bool := false
  detail : Nat := 0
  repeats : Nat := 0
  deriving DecidableEq, Repr

/-- The FAULT unit and the freeze machinery (R561 to R579). -/
structure FaultSt where
  ring : Tab FaultRec := []
  head : Nat := 0
  tail : Nat := 0
  /-- all 256 entries are unread (head and tail then name the same entry) -/
  full : Bool := false
  /-- instant of the latest detection counted in the newest record -/
  lastAt : Nat := 0
  /-- index of the newest record, if one has been written -/
  newest : Option Nat := none
  collectorFail : Bool := false
  /-- the AON stall timer has expired and code 0x85 waits for the next tick (R566) -/
  stall : Bool := false
  stallPending : Bool := false
  /-- a freeze requested by the command in progress, with its cause; carried out before the command ends -/
  freezeReq : Option Nat := none
  /-- the freeze latch -/
  latch : Bool := false
  /-- AON instant at which the latch is released, if limited (R576) -/
  latchDue : Option Nat := none
  frozen : Bool := false
  /-- cause of the freeze in force: 0 none, 1 pin, 2 command, 3 report -/
  cause : Nat := 0
  freezeStake : Nat := 0
  freezeFrame : Nat := 0
  /-- FREEZE_N is low -/
  pinLow : Bool := false
  /-- a shutdown requested while frozen is held until release (R572) -/
  heldShutdown : Bool := false
  /-- released, with ticks waiting for the servo's first offset or holdover: 1 waiting, 2 taken (R576 step 5) -/
  releaseWait : Nat := 0
  deriving DecidableEq, Repr

/-- Start, life cycle and OTP (R505 to R534). -/
structure BootSt where
  /-- PORST_N or SYSRST_N is low, or has not been released since power-on -/
  inReset : Bool := true
  /-- BOOT_STATUS phase: 0 reset, 1 locking, 2 OTP, 3 training and test, 4 loading, 5 applying, 6 Ready, 7 Boot-Wait,
  8 Safe-Hold, 9 shutdown, 10 Halted -/
  phase : Nat := 0
  /-- life-cycle state in force: 0 BLANK, 1 FACTORY, 2 FIELD, 3 RETURNED (R519, R520) -/
  lc : Nat := 0
  fieldDebug : Bool := false
  /-- kind of the last start: 0 full, 1 quick, 2 wake (R507) -/
  kind : Nat := 0
  slot : Nat := 0
  /-- source in force: 0 QSPI, 1 PCIe -/
  source : Nat := 0
  bootCode : Nat := 0
  override : Bool := false
  rolePin : Nat := 0
  bootsel : Nat := 0
  /-- consecutive failed attempts (k of R515) -/
  fails : Nat := 0
  /-- local-counter instant of reset release, and the instant at which a retry or Safe-Hold delay ends -/
  releaseAt : Nat := 0
  retryDue : Option Nat := none
  /-- the instant at which an alternating PCIe attempt times out (R514) -/
  hostDue : Option Nat := none
  /-- image length written to BOOT_HOST_GO and not yet checked -/
  hostGo : Option Nat := none
  /-- a shutdown requested during a start is held until Ready (R529) -/
  heldShutdown : Bool := false
  /-- the attempts in progress began in Safe-Hold, to which a failure returns (R532) -/
  safeOrigin : Bool := false
  /-- what the environment shows to the next start attempt (R506, R508, R528) -/
  env : StartEnv := {}
  /-- Halted after a failed test, or held by a boundary-scan instruction -/
  failedTest : Bool := false
  erasing : Bool := false
  /-- an OTP operation in progress -/
  otpBusy : Bool := false
  otpFailed : Bool := false
  /-- OTP bytes; a blank byte reads 0 (R522) -/
  otp : Tab Byte := []
  /-- the two shutdown-record sectors of the QSPI flash; a byte past the list is erased and reads 0xFF (R513, R530) -/
  sector0 : List Byte := []
  sector1 : List Byte := []
  /-- the AON store of set-point training (R482, R486): by set point, the free draw that a training stored (0 for none) or
  the bytes that a start restored; and the validity bits -/
  train : Tab (Nat × List Byte) := []
  trainValid : Nat := 0
  /-- a shutdown in progress: the step of R529 and the local-counter instant at which it ends -/
  shutStep : Nat := 0
  shutDue : Nat := 0
  deriving DecidableEq, Repr

/-- Self-test (R526 to R535). -/
structure BistSt where
  /-- the window terms VCORE, VIO, REFCLK_IN, Tj that hold, one bit each (R528) -/
  window : Nat := 15
  /-- self-test waiting for the window at a start -/
  waiting : Bool := false
  /-- mismatches counted on a driven pin: ball index to consecutive mismatches (R531) -/
  mismatch : Tab Nat := []
  /-- balls whose next test fails once (BIST_INJECT) -/
  inject : Tab Bool := []
  /-- parts being run by BIST_RUN -/
  running : Nat := 0
  lapse : Bool := false
  /-- local-counter instant of the last slice and of the start of the slice cycle -/
  lastSlice : Nat := 0
  cycleStart : Nat := 0
  /-- slices done in the cycle in progress -/
  sliceDone : Tab Bool := []
  /-- a slice in progress: part and item, with the state it saved -/
  slice : Option (Nat × Nat) := none
  deriving DecidableEq, Repr

/-- The BUDGET unit (R269 to R287). -/
structure BudgetSt where
  /-- set point v in mV -/
  v : Nat := 850
  /-- the voltage loop is stopped by a regulator fault (R276) -/
  regFault : Bool := false
  /-- successive epochs with a read-back mismatch -/
  mismatch : Nat := 0
  /-- minimum slack of the epoch in progress, in ns -/
  slackMin : Option Nat := none
  /-- the last 100 epoch powers in 0.1 W, newest first -/
  powers : List Nat := []
  /-- admitted tier in force -/
  admitted : Nat := 0
  /-- the tier decided for the next epoch boundary: its frame and tier (R269) -/
  nextTier : Option (Nat × Nat) := none
  /-- why that decision steps down (the codes of BUDGET_TIER_STATUS.reason), 0 where it does not -/
  nextWhy : Nat := 0
  /-- epoch closes left before a step-up is allowed: 101 from a change on, of which the close of the epoch in progress is one -/
  holdoff : Nat := 0
  reason : Nat := 0
  /-- cap tier (R211) -/
  cap : Nat := 0
  /-- step-downs that wait for their frame: frame, tier to reach (`none`: one below the tier in force) and reason (R280) -/
  steps : List (Nat × Option Nat × Nat) := []
  /-- Tj in 1/16 °C as the last epoch read it -/
  tj : Int := 0
  /-- domains that are on and out of transition, one bit each -/
  domains : Nat := 0xFFF
  /-- domains in transition to the value given -/
  transition : Option Nat := none
  standby : Bool := false
  /-- AON instant at which the standby timer expires -/
  wakeDue : Option Nat := none
  /-- the standby's own computed tier, sent to the active (R282) -/
  ownTier : Nat := 0
  /-- the peer's most recent tier, on an active (R282) -/
  peerTier : Option Nat := none
  deriving DecidableEq, Repr

/-- The JTAG TAP (R573, R596). -/
structure JtagSt where
  /-- instruction selected -/
  ir : Nat := 0x02
  /-- the next state-access address -/
  sanAddr : Nat := 0
  /-- the last value captured into a data register -/
  dr : Nat := 0
  /-- the boundary-scan register's update values -/
  bsr : List Bool := []
  /-- a boundary-scan instruction holds the device until the next reset -/
  held : Bool := false
  deriving DecidableEq, Repr

/-- A record waiting for a solve grid point (R120, R131). -/
structure QueuedRecord where
  record : ObjRecord := {}
  /-- presentation frame; `none` while it has none (no render rate in force) -/
  f : Option Nat := none
  /-- Felot presentation time in ns since the PTP epoch; `none` for a register-path record -/
  t : Option Nat := none
  /-- order of acceptance or posting -/
  order : Nat := 0
  /-- the message that carried it, by the order value at its acceptance -/
  msg : Nat := 0
  deriving DecidableEq, Repr

/-- Targets that one object's solve delivers (R104, R112); gains in Q2.30 by column, other entries zero. -/
structure SolveOut where
  gains : List (Nat × Int) := []
  recGain : Int := 0
  distGain : Int := 0x40000000
  /-- b0 b1 b2 a1 a2 in Q3.29 -/
  coef : List Int := [0x20000000, 0, 0, 0, 0]
  /-- corner frequency in Hz (R114); zero without a filter -/
  fc : Fp := Fp.num 0 0
  /-- delay target in 1/256 sample, and the delay mode -/
  delay : Nat := 0
  mode : Nat := 0
  jump : Bool := false
  bed : Bool := false
  enable : Bool := false
  deriving DecidableEq, Repr

/-- The SCENE unit: layouts, mesh in use, records and solve pipeline (R86 to R134). -/
structure SceneSt where
  objs : Tab ObjPan := []
  queue : List QueuedRecord := []
  order : Nat := 0
  /-- highest Felot sequence accepted since the stream was enabled, and the accepted sequences within 64 of it -/
  seqH : Option Nat := none
  seqSeen : List Nat := []
  /-- a layout build in progress: bank and mode -/
  build : Option (Nat × Nat) := none
  validA : Bool := false
  validB : Bool := false
  /-- a healing rebuild in progress, and a rebuilt mesh (with the speakers it omits) that is in use or waits for a grid point -/
  rebuild : Bool := false
  rebuilt : Option (List (Nat × Nat × Nat) × List Nat) := none
  rebuiltWait : Option (List (Nat × Nat × Nat) × List Nat) := none
  /-- speakers that LSUP reports unavailable (R96) -/
  lsupUnavail : List Nat := []
  /-- a healing event waits for its solve; its targets wait for their load -/
  healPending : Bool := false
  healLoad : Bool := false
  /-- end frame of the ramp window in force (R121) -/
  windowEnd : Nat := 0
  /-- length of a ramp window that opens when the solved targets load -/
  windowNext : Option Nat := none
  /-- the sub-source limit that the last solve used (R111) -/
  subLimit : Nat := 16
  /-- targets solved at the last grid point, waiting for the next (R121), by object -/
  solved : Tab (Option SolveOut) := []
  /-- object configuration bank used by the last solve (R125) -/
  cfgBank : Nat := 0
  /-- the solve of the last grid point left objects unsolved (R119) -/
  overrun : Bool := false
  /-- presentation times, in ns, of Felot messages with records accepted while no render rate was in force (R131) -/
  waitMsgs : List Nat := []
  /-- the render rate that frame numbers and delays are counted in: the last one in force (R124) -/
  lastRate : Nat := 0
  deriving DecidableEq, Repr

/-- The object front end (OBJ). -/
structure ObjSt where
  fe : Tab FrontEnd := []
  /-- outputs x_i of the last frame (R603) -/
  x : Tab Int := []
  deriving DecidableEq, Repr

/-- A post waiting for its tick: unit-specific words and the local-counter instant from which a tick takes it. -/
structure Post where
  ready : Nat := 0
  a : Nat := 0
  b : Nat := 0
  c : Nat := 0
  deriving DecidableEq, Repr

/-- The Warp (R137 to R156). -/
structure WarpSt where
  /-- node (i, j) at key 512·i + j -/
  nodes : Tab Ramp := []
  /-- the row's ramp record: start and end frame -/
  rows : Tab (Nat × Nat) := []
  /-- the output fade F, and whether its end is still to be reported -/
  fade : Ramp := {}
  fadeBusy : Bool := false
  posts : List Post := []
  /-- a direct write that holds the Weave until the previous post is taken (R147) -/
  held : Option Post := none
  /-- columns of the last frame, y_j in Q1.31 -/
  y : Tab Int := []
  /-- a soft reset waits for the next tick (R153) -/
  resetDue : Bool := false
  deriving DecidableEq, Repr

/-- CORR (R157 to R184). -/
structure CorrSt where
  outs : Tab CorrOut := []
  /-- the enable fade E, and whether its end is still to be reported -/
  fade : Ramp := {}
  fadeBusy : Bool := false
  /-- posts: a = kind (0 bank, 1 gain, 2 mute), b = output, c = value -/
  posts : List Post := []
  /-- preparation in progress: bank, first, count; and the outputs already prepared -/
  prep : Option (Nat × Nat × Nat) := none
  prepAt : Nat := 0
  resetDue : Bool := false
  /-- sheddings and re-admissions of tiers, oldest first (R167) -/
  tiers : List TierEvent := []
  /-- the delay lines were cleared at this frame: earlier samples read zero (R179) -/
  clearedAt : Nat := 0
  deriving DecidableEq, Repr

/-- Live state of one Coil node (R192 to R206, R221). [DEDUCED, unsafe: log entry 55] -/
structure NodeSt where
  active : Bool := false
  counter : Int := 0
  /-- armed: waits for its counter to reach zero -/
  armed : Bool := false
  lastCore : Option Nat := none
  /-- the count of its core's Block and Service activations at its last dispatch -/
  stamp : Nat := 0
  /-- a predecessor of the next activation was late or skipped -/
  lateIn : Bool := false
  lastLate : Bool := false
  /-- the last activation was skipped (R205) -/
  skipped : Bool := false
  prevRelease : Option Nat := none
  /-- frame of a deferred release, its delay-list entry (R193) -/
  deferred : Option Nat := none
  /-- frame from which the node fades in, and frame from which it fades out (R205, R206) -/
  fadeIn : Option Nat := none
  fadeOut : Option Nat := none
  /-- the node stops at the end of its fade-out -/
  stopping : Bool := false
  /-- the gate object is disabled (R195) -/
  gated : Bool := false
  /-- weight of a Direct node's output against its input (R206) -/
  xfade : Ramp := { v0 := 0x40000000, v1 := 0x40000000 }
  deriving DecidableEq, Repr

/-- A released activation that has not completed (R196 to R202). -/
structure Act where
  node : Nat := 0
  cls : Nat := 0
  point : Nat := 0
  /-- release frame, and order of the release among the Coil's events -/
  release : Nat := 0
  order : Nat := 0
  /-- absolute deadline frame -/
  deadline : Option Nat := none
  /-- 0 held for space, 1 on a ready list, 2 running -/
  state : Nat := 1
  /-- of a held release: 0 completion post, 1 delay-list move, 2 CORR block, 3 host submission; and its key within the cause -/
  cause : Nat := 0
  key : Nat := 0
  core : Nat := 0
  /-- the affinity wait: the awaited core and the instant at which it ends; `expired` once it has -/
  wait : Option (Nat × Nat) := none
  expired : Bool := false
  lateIn : Bool := false
  late : Bool := false
  overrun : Bool := false
  warm : Bool := false
  fade : Int := 0x40000000
  /-- DONE has been executed, or the node stopped -/
  posted : Bool := false
  deriving DecidableEq, Repr

/-- The progress of the direct path through one frame (R25, R191, R573). -/
structure PathSt where
  /-- steps of R25 completed in the frame in progress -/
  steps : Nat := 7
  /-- Direct nodes due in the frame at points 0 and 1, in ascending index -/
  due0 : List Nat := []
  due1 : List Nat := []
  /-- Direct nodes of the frame that have ended, and those that missed it -/
  ended : List Nat := []
  missed : List Nat := []
  /-- channels before each point, and after it in the previous frame (points 0 and 1) -/
  in0 : Tab Int := []
  in1 : Tab Int := []
  prev0 : Tab Int := []
  prev1 : Tab Int := []
  /-- channels after point 0 and point 1 -/
  out0 : Tab Int := []
  out1 : Tab Int := []
  /-- writes of the frame's Direct nodes, by key 1,024 × node + channel -/
  writes : Tab (Option Int) := []
  /-- what the surroundings show in the frame in progress -/
  env : TickEnv := {}
  deriving DecidableEq, Repr

/-- The Coil (R185 to R221). -/
structure CoilSt where
  nodes : Tab NodeSt := []
  acts : List Act := []
  /-- node of the last Block or Service activation that ran on a core -/
  coreLast : Tab (Option Nat) := []
  /-- Block and Service activations that have run on a core -/
  coreRuns : Tab Nat := []
  /-- counts the Coil's events -/
  order : Nat := 0
  /-- activation and deactivation posts: a = op, b = first, c = count -/
  posts : List Post := []
  /-- the submission queue: the instant at which each entry leaves, and its node; and the submissions that the Weave holds, with their
  initiators -/
  submits : List (Nat × Nat) := []
  heldSubmits : List (Nat × Nat) := []
  /-- COIL_SUBMIT_CREDIT stands at zero -/
  noCredit : Bool := false
  path : PathSt := {}
  /-- the frame at which tier t was last shed and last re-admitted -/
  shedAt : Tab (Option Nat) := []
  readmitAt : Tab (Option Nat) := []
  /-- release instants saturated counters are recorded once per event by IRQ; cap tier of the last epoch -/
  cap : Nat := 0
  deriving DecidableEq, Repr

/-- Destination of a write-back in an Osier bank (R222, R230). -/
inductive Dest where
  | v (r lane : Nat) | s (r : Nat) | ac (r lane : Nat) | acPart (r lane part : Nat)
  | a (n field : Nat) | lc (i : Nat) | flag (i : Nat) | bexp | bexpMin
  deriving DecidableEq, Repr

/-- A result that is not yet visible: the bundle at which it becomes visible and the bundle that issued it (R229). -/
structure WriteBack where
  due : Nat := 0
  issue : Nat := 0
  dest : Dest := .bexp
  val : Int := 0
  deriving DecidableEq, Repr

/-- One register bank of an Osier core (R222). -/
structure Bank where
  node : Option Nat := none
  /-- lane `l` of V`r` at key 4r + l -/
  v : Tab Word := []
  s : Tab Word := []
  /-- lane `l` of AC`r` at key 4r + l, in units of 2^-62 -/
  ac : Tab Int := []
  /-- field `f` of A`n` at key 4n + f: ptr, start, size, step -/
  a : Tab Nat := []
  lc0 : Word := 0
  lc1 : Word := 0
  /-- Z N C V SAT BRV in bits 0 to 5 -/
  flags : Nat := 0
  bexp : Nat := 31
  pc : Nat := 0
  /-- active loop levels, innermost first: first and last bundle of the body -/
  loops : List (Nat × Nat) := []
  /-- delay slots still to issue, and the target of a taken branch -/
  delay : Nat := 0
  target : Option Nat := none
  wbs : List WriteBack := []
  /-- the bundle whose write is in force for a register, by register key, plus one (R231) -/
  lastW : Tab Nat := []
  /-- bundles issued by the activation, and its declared cost -/
  issued : Nat := 0
  cost : Nat := 0
  /-- instant from which issue has been stalled, and stalled time so far in 2^-32 ns (R259) -/
  stall : Option Nat := none
  stalled : Nat := 0
  /-- DONE has issued with this `bad` bit, and transfers are still outstanding (R257) -/
  done : Option Bool := none
  deriving DecidableEq, Repr

/-- A transfer of XRD or XWR (R251, R252). -/
structure Xfer where
  write : Bool := false
  y : Bool := false
  common : Bool := false
  loc : Nat := 0
  ext : Nat := 0
  bytes : Nat := 0
  node : Nat := 0
  /-- deadline frame (R253) and release frame (R555) of the writing activation -/
  deadline : Option Nat := none
  release : Nat := 0
  deriving DecidableEq, Repr

/-- One Osier core (R222 to R268). [DESIGN CHOICE, safe: log entry 59] -/
structure CoreSt where
  b0 : Bank := {}
  b1 : Bank := {}
  xfers : List Xfer := []
  /-- a transfer ended with a Weave error (R252) -/
  xferErr : Bool := false
  injResidue : Bool := false
  injParity : Bool := false
  /-- the low word held for the instruction window (R264) -/
  low : Word := 0
  /-- window accesses held while bank 1 runs: offset, and the word of a write (R268) -/
  held : List (Nat × Option Word) := []
  /-- X and Y outside the Direct region are undefined but for the words named (R256); Y words at 0x4000 + word -/
  undef : Bool := false
  /-- number of the cold dispatch that left them so: it names the free words -/
  cold : Nat := 0
  defd : Tab Bool := []
  deriving DecidableEq, Repr

/-- The Osier cores. -/
structure OsierSt where
  cores : Tab CoreSt := []
  /-- the boot loader has written the device's own kernels (R226) -/
  devLoaded : Bool := false
  deriving DecidableEq, Repr

/-- The power-stage controller (R288 to R311). [DEDUCED, unsafe: log entry 34] -/
structure PstgSt where
  ch : Tab PsCh := []
  /-- groups whose driver fault holds -/
  drvFault : List Nat := []
  /-- a clock error, or step 3 of R38, mutes every channel; and the instant from which the clock has been good -/
  muted : Bool := false
  /-- what mutes: 1 a clock error or a freeze, 2 a rate change, 4 a Stake step, added up -/
  muteKind : Nat := 0
  /-- rail-sag gain in Q2.30 and V_rail in 1/256 V, by group -/
  gSag : Tab Int := []
  rail : Tab Nat := []
  /-- carriers by group (R293) -/
  carr : Tab Carrier := []
  /-- the plan in force: candidate by group, and its status bits (R302) -/
  plan : List Nat := []
  planValid : Bool := false
  nohit : Nat := 0
  clear : Nat := 0
  deriving DecidableEq, Repr

/-- One LSUP channel (R312 to R336). -/
structure LsCh where
  /-- 0 none, 1 OK, 2 DRIFT, 3 OPEN, 4 SHORT -/
  confirmed : Nat := 0
  /-- verdict of the last reading, and the readings of the current run, newest first -/
  reading : Nat := 0
  run : List Nat := []
  /-- last reading: |Z| in 1/65,536 Ω, phase in 1/128 degree, |V| and |I| in Q0.32 -/
  mag : Nat := 0
  phase : Int := 0
  absV : Nat := 0
  absI : Nat := 0
  /-- a change of the confirmed verdict that waits for its tick: verdict and instant (R322) -/
  change : Option (Nat × Nat) := none
  /-- verdicts of the recheck in progress -/
  recheck : List Nat := []
  /-- a baseline capture: the phasor sums of the readings taken so far (R323) -/
  capture : Option (List (Int × Int × Int × Int)) := none
  /-- an AC test: 0 none, 1 started by itself, 2 commanded, 3 commanded and stored as baseline; its points so far -/
  ac : Nat := 0
  points : List (Option (Nat × Int)) := []
  acVerdict : Nat := 0
  curve : List (Nat × Int) := []
  /-- end of the last test with a verdict -/
  lastTest : Option Nat := none
  /-- the test after the first start has run -/
  startTest : Bool := false
  /-- the channel was making readings at the last tick, so that a window is in progress (R317) -/
  live : Bool := false
  deriving DecidableEq, Repr

/-- LSUP. -/
structure LsupSt where
  ch : Tab LsCh := []
  /-- channel of the operation in progress, and the outcome of the last one -/
  busy : Option Nat := none
  failed : Bool := false
  deriving DecidableEq, Repr

/-- One input frame in a port's buffer (R357). -/
structure InFrame where
  /-- Stake instant at which the frame finished -/
  finish : Nat := 0
  vals : List Int := []
  /-- validity and user bits by channel -/
  aux : List (Bool × Bool) := []
  /-- frame index under which an aligned group takes it (R359) -/
  tag : Option Nat := none
  deriving DecidableEq, Repr

/-- One direction of a serial, AES3 or MADI port (R342 to R348). [DEDUCED, unsafe: log entry 81] -/
structure PortDir where
  /-- 0 stopped, 1 lead-in, 2 running, 3 lead-out -/
  state : Nat := 0
  /-- the stop sequence has begun -/
  stopping : Bool := false
  /-- a start that waits for the receiver's lock (R347) -/
  waitLock : Bool := false
  /-- Stake instant at which the lead-in or lead-out began, and input frames received in it -/
  leadAt : Nat := 0
  frames : Nat := 0
  /-- the lead-in in progress is step 5 of R38, so that the fade that follows takes 20 ms -/
  rateLead : Bool := false
  /-- channels that carry data, one bit each, and bits that wait for a frame sync: channel and Stake instant (R343) -/
  mask : Nat := 0
  toSet : List (Nat × Nat) := []
  toClear : List (Nat × Nat) := []
  /-- the fade of each channel -/
  fade : Tab Ramp := []
  /-- the condition of R338 held at the last tick -/
  unconv : Bool := false
  deriving DecidableEq, Repr

/-- One PORT, AES or MADI page. -/
structure PortPg where
  rx : PortDir := {}
  tx : PortDir := {}
  /-- PORT_FORMAT and the rate field with which the port runs -/
  fmt : Word := 0
  rate : Nat := 0
  locked : Bool := false
  buf : List InFrame := []
  /-- last sample received, and samples latched for the frame in progress with their validity and user bits -/
  lastIn : List Int := []
  latched : List Int := []
  latchedAux : List (Bool × Bool) := []
  /-- the aligned group joined, and the tag of the next frame (R359) -/
  group : Nat := 0
  nextTag : Option Nat := none
  /-- output register, the frame that Standard outputs present, and the words at the pins -/
  outReg : List Int := []
  outStd : List Int := []
  outPin : List Int := []
  auxReg : List (Bool × Bool) := []
  auxPin : List (Bool × Bool) := []
  /-- position in the AES3 block, and the block being sent (R352) -/
  txIndex : Nat := 0
  txBlock : List Word := []
  deriving DecidableEq, Repr

/-- One ASRC engine (R363 to R368). -/
structure AsrcEng where
  locked : Bool := false
  /-- local-counter instant at which the loop has narrowed to bw -/
  narrowAt : Nat := 0
  fade : Ramp := {}
  /-- input sample index of the next output sample, in Q.40, and the ratio last named to the Hoop peer, 0 for none (R368) -/
  pos : Nat := 0
  told : Nat := 0
  deriving DecidableEq, Repr

/-- Ports, sample-rate converters and host audio (R337 to R376). -/
structure PortSt where
  pages : Tab PortPg := []
  asrc : Tab AsrcEng := []
  /-- on a Hoop standby, the active's latch decision for the next tick: 0 newest, 1 repeat, k + 1 after an overrun of k frames; and φ (R362) -/
  forced : Tab (Option (Nat × Nat)) := []
  /-- the sealed decision on the host slot for the next tick (R547) -/
  hostForced : Option Bool := none
  /-- the slot read for the next tick: frame index and samples; and the samples latched (R370) -/
  hostIn : Option (Nat × List Int) := none
  hostLatched : List Int := []
  /-- host output samples of the frame in progress, and frames to be written (R371) -/
  hostOut : List Int := []
  hostPend : List (Nat × List Int) := []
  /-- the gain of step 2 of R38, and of R383, on every port output -/
  outGain : Ramp := { v0 := 0x40000000, v1 := 0x40000000 }
  /-- the same gain on the outputs that have no lead-in, with step 6 of R38 and step 5 of R383: streams, host audio, power stages -/
  sinkGain : Ramp := { v0 := 0x40000000, v1 := 0x40000000 }
  deriving DecidableEq, Repr


/-- The Router (R417 to R428). -/
structure RouteSt where
  sinks : Tab Sink := []
  /-- node (m, o) at key 256·m + o -/
  nodes : Tab Ramp := []
  /-- a = 0 patch, 1 node; b = sink or node; c = source or gain -/
  posts : List Post := []
  fade : Ramp := {}
  fadeBusy : Bool := false
  gens : Tab Gen := []
  /-- mix outputs of the last frame in which step 6 ran -/
  mix : Tab Int := []
  resetDue : Bool := false
  deriving DecidableEq, Repr

/-- One meter point (R429 to R432). -/
structure Meter where
  peak : Nat := 0
  tp : Nat := 0
  /-- held value, with 32 fractional bits below its format, and the countdown (R430) -/
  held : Nat := 0
  hold : Nat := 0
  clips : Nat := 0
  /-- configuration words in force -/
  cfg0 : Word := 0
  cfg1 : Word := 0
  /-- samples of the RMS window since it restarted, newest first -/
  win : List Int := []
  /-- the interpolator's samples, newest first -/
  hist : List Int := []
  deriving DecidableEq, Repr

/-- One loudness meter (R433, R434). -/
structure Loud where
  running : Bool := false
  start : Nat := 0
  /-- frames at which blocks end have been reached this many times -/
  ends : Nat := 0
  /-- last frame in which tier 3 was not admitted -/
  gap : Option Nat := none
  /-- meter points of the map in force with their weights in 1/100, and the K-weighting filters by point -/
  map : List (Nat × Nat) := []
  filt : Tab (List Int) := []
  /-- weighted sum of squares of the 100 ms in progress, and of those before it, newest first, for 3 s -/
  acc : Int := 0
  segs : List Int := []
  /-- blocks that have ended and not yet been reported: sums over the block and over 3 s, and whether it counts as integrated -/
  ready : List (Int × Int × Bool) := []
  /-- sums of the blocks since the start that count as integrated -/
  blocks : List Int := []
  deriving DecidableEq, Repr

/-- METER. -/
structure MeterSt where
  points : Tab Meter := []
  loud : Tab Loud := []
  /-- a = 0 clear (b first, c count), 1 configuration word (b offset, c value), 2 loudness command (b meter, c command) -/
  posts : List Post := []
  stale : Bool := false
  deriving DecidableEq, Repr


/-- One capture chain (R439 to R447). -/
structure Chain where
  /-- response in force, and FIR bank in force -/
  minPhase : Bool := false
  bank : Nat := 0
  /-- 0 steady, 1 fading out before a restart, 2 silent after it, 3 fading in -/
  step : Nat := 0
  fade : Ramp := { v0 := 0x40000000, v1 := 0x40000000 }
  silentTo : Nat := 0
  /-- a bank blend: the old bank and the weight of the new -/
  blend : Option (Nat × Ramp) := none
  /-- FIR inputs, newest first -/
  hist : List Int := []
  /-- Audio-tap sample of the frame as the Router and the detectors have it, and the chain's own (R448, R455) -/
  x : Int := 0
  own : Int := 0
  /-- Audio-tap sample of the active for the next frame (R448) -/
  active : Option Int := none
  /-- detector configuration in force, and results -/
  cfg0 : Word := 0
  cfg1 : Word := 0
  cfg2 : Word := 0
  peak : Nat := 0
  win : List Int := []
  /-- envelope, with 32 fractional bits below Q1.31 (R447) -/
  env : Int := 0
  above : Bool := false
  deriving DecidableEq, Repr

/-- CAPT (R439 to R449). -/
structure CaptSt where
  chains : Tab Chain := []
  /-- a = 0 clear (b first, c count), 1 detector configuration word (b offset, c value) -/
  posts : List Post := []
  /-- PDM line modes in force -/
  mode : Tab Nat := []
  resetDue : Bool := false
  deriving DecidableEq, Repr

/-- The measurement service (R450 to R460). -/
structure MeasSt where
  /-- 0 idle, 1 waiting, 2 playing, 3 processing -/
  state : Nat := 0
  job : Nat := 0
  /-- the job entry and the tone table as the start took them, little-endian numbers -/
  entry : Nat := 0
  tones : Nat := 0
  start : Nat := 0
  /-- outputs of each run in order -/
  runs : List (List Nat) := []
  /-- the path delay of each output that a sink takes at the start frame, in ns with 120 fractional bits (R457) -/
  paths : List (Nat × Int) := []
  /-- samples of the runs in progress, newest first, by 16 × run + microphone (R455) -/
  caps : Tab (List Int) := []
  /-- frame of the abort of R459 -/
  abortAt : Option Nat := none
  /-- runs that have ended -/
  run : Nat := 0
  /-- responses still to be stored: run, its first averaged frame, the microphone and the average -/
  todo : List (Nat × Nat × Nat × List Int) := []
  /-- index entries in use, and bytes of storage used -/
  entries : Nat := 0
  used : Nat := 0
  deriving DecidableEq, Repr



/-- What the heartbeats say of the peer (R545). -/
structure PeerSt where
  role : Nat := 0
  state : Nat := 0
  id : Nat := 0
  variant : Nat := 0
  build : Nat := 0
  claim : Bool := false
  /-- it reports itself unable to claim -/
  unable : Bool := false
  deriving DecidableEq, Repr

/-- A message that the device has sent on the Hoop link: type, flags of the content, frame and content (R544, R545). -/
structure HoopSent where
  kind : Nat := 0
  seq : Nat := 0
  frame : Nat := 0
  fields : List Int := []
  writes : List (Nat × Word) := []
  /-- the contents of a frame record, and of a resync message -/
  record : Option FrameRecord := none
  items : List ResyncItem := []
  deriving DecidableEq, Repr

/-- What the active of a pair copies to a member that rejoins (R555). -/
structure CopySt where
  /-- step of R555; 1 until the first frame record -/
  step : Nat := 1
  /-- frame at which the step, or the copy of the region, began; blocks or items sent since -/
  from_ : Nat := 0
  done : Nat := 0
  /-- entry of the region table that is being copied in step 4 -/
  region : Nat := 0
  deriving DecidableEq, Repr

/-- The Hoop pair machinery and the claim (R536 to R560). -/
structure HoopSt where
  /-- 0 unpaired, 1 primary, 2 secondary -/
  role : Nat := 0
  /-- 0 unpaired, 1 waiting for the link, 2 rejoining, 3 standby in step, 4 standby out of step, 5 active -/
  state : Nat := 0
  link : Bool := false
  /-- local-counter instant from which the link has been down, and of Ready -/
  linkDownAt : Nat := 0
  readyAt : Nat := 0
  /-- the claim is asserted, and the claim-gated output enables are open -/
  claim : Bool := false
  enables : Bool := false
  /-- consecutive own ticks at which the claim was asserted and CLAIM_IN_N read high (R541) -/
  claimRun : Nat := 0
  /-- CLAIM_IN_N is low; it floats (R543) -/
  peerClaim : Bool := false
  floating : Bool := false
  /-- a dual claim has been recorded in the episode in progress -/
  dualSeen : Bool := false
  /-- a secondary with a dual claim releases it at its next tick (R542) -/
  drop : Bool := false
  /-- the outgoing member of a planned handover does not claim again before it has read CLAIM_IN_N low -/
  yielded : Bool := false
  /-- the member rejoins at the first tick that reads the peer's claim: 1 since Ready, 2 since it stopped being the active -/
  joinWait : Nat := 0
  /-- the secondary timer of R543 has run out -/
  mayClaim : Bool := false
  /-- equal roles: no claim until the next reset (R536) -/
  refuseClaim : Bool := false
  /-- AON instant at which the claim timer expires -/
  claimDue : Option Nat := none
  /-- every output register was loaded for the last frame -/
  loaded : Bool := false
  peer : PeerSt := {}
  /-- variant or build differ, or the roles are equal (R537) -/
  mismatch : Bool := false
  /-- frame of the last heartbeat -/
  lastHb : Option Nat := none
  hbLost : Bool := false
  /-- the tick offset lies beyond ±500 ns (R539) -/
  offsetBad : Bool := false
  /-- own output CRCs of the last frames, newest first: frame and CRC (R549) -/
  crcs : List (Nat × Nat) := []
  /-- frame for which the last seal was made -/
  lastSeal : Option Nat := none
  /-- on a standby, the frame records that wait for their tick (R547) -/
  records : List FrameRecord := []
  /-- on an active, the order value of the Scene at the last seal: later records wait for the next grid point (R547) -/
  sealOrder : Nat := 0
  /-- on an active, the copy to a member that rejoins; on a standby, the regions whose copy has ended, with their cut ticks (R555) -/
  copy : Option CopySt := none
  cuts : List (Nat × Nat) := []
  /-- own Direct misses and late activations since the last report or record -/
  decisions : List Nat := []
  /-- the counters of misses and late activations at the last seal or report -/
  marks : List Nat := []
  /-- rejoin: step of R555 in progress (0 none), frame j, region being copied, frame at which the settling ends, frame from
  which CRCs have matched, failed rejoins in succession, and the end of automatic rejoins (R556) -/
  step : Nat := 0
  joinFrame : Option Nat := none
  region : Nat := 0
  settleEnd : Nat := 0
  matchFrom : Option Nat := none
  fails : Nat := 0
  gaveUp : Bool := false
  /-- the tick h of a planned handover, on the outgoing and on the incoming member (R557) -/
  handover : Option Nat := none
  incoming : Option Nat := none
  /-- frame from which CRCs have matched continuously in step, and whether the handover has been requested (R558) -/
  holdFrom : Option Nat := none
  requested : Bool := false
  /-- sequence counts by message type, and the messages sent by the last command -/
  seqs : Tab Nat := []
  sent : List HoopSent := []
  deriving DecidableEq, Repr

/-- One PTP port (R385 to R389). -/
structure PtpPort where
  /-- port state in the codes of IEEE 1588: 3 DISABLED, 4 LISTENING, 6 MASTER, 7 PASSIVE, 9 SLAVE -/
  state : Nat := 3
  /-- the best foreign master heard, and the instant of its last Announce -/
  foreign : Option Announce := none
  heardAt : Nat := 0
  /-- mean path delay and last t2 − t1 of a Sync, in 2^-32 ns -/
  delay : Int := 0
  msDiff : Int := 0
  /-- a two-step Sync that waits for its Follow_Up: sequence, t2, correction -/
  sync : Option (Nat × Nat × Int) := none
  /-- a Delay_Req sent: sequence and t3 -/
  req : Option (Nat × Nat) := none
  reqSeq : Nat := 0
  syncSeq : Nat := 0
  annSeq : Nat := 0
  syncTx : Nat := 0
  /-- the last 64 offsets, newest first, and the instant from which the other port has been the better by half (R388) -/
  offsets : List Int := []
  betterSince : Option Nat := none
  /-- the first receipt timeout of a port that listens has run out -/
  ready : Bool := false
  deriving DecidableEq, Repr

/-- One time trigger (R399), times in 2^-32 ns. -/
structure Trigger where
  running : Bool := false
  done : Bool := false
  start : Nat := 0
  period : Nat := 0
  width : Nat := 0
  inv : Bool := false
  /-- index of the pulse in progress or next, and whether TTk is in its pulse -/
  j : Nat := 0
  high : Bool := false
  /-- a commit that waits for the pulse to end -/
  reload : Bool := false
  deriving DecidableEq, Repr

/-- The Stake discipline, PTP, triggers and captures (R377 to R400). -/
structure StakeSt where
  /-- servo state: 0 free, 1 acquiring, 2 locked, 3 holdover -/
  servo : Nat := 0
  /-- successive measurements within 50 ns -/
  good : Nat := 0
  lastMeas : Nat := 0
  /-- values of I with the local-counter instants from which they held, newest first -/
  hist : List (Nat × Nat) := []
  /-- the instant of the last change of I by the loop, from which the slew rate counts (R381) -/
  steerAt : Nat := 0
  /-- the I that holdover keeps, towards which I slews (R380, R381) -/
  holdI : Option Nat := none
  holdAt : Nat := 0
  gmExpired : Bool := false
  /-- an offset that the source has measured and the servo has not yet used, in 2^-32 ns -/
  fresh : Option Int := none
  /-- the seconds register of the next PPS edge has been written; the last edge -/
  todWritten : Bool := false
  lastPps : Option Nat := none
  /-- a step in progress: stage (1 requested, 2 ramping, 3 Quiet, 4 stepped, 5 resuming), and its operation and operand -/
  stepStage : Nat := 0
  stepOp : Nat := 0
  stepBy : Int := 0
  stepAt : Nat := 0
  /-- a step that the servo requests once the pending change has ended, as the amount to add to Stake time (R40) -/
  stepWait : Option Int := none
  /-- a soft reset of the page waits for a pending change to end (R413) -/
  softReset : Bool := false
  ptp : Tab PtpPort := []
  /-- the slave port: 0 none, 1 A, 2 B -/
  selected : Nat := 0
  trig : Tab Trigger := []
  /-- queued captures, oldest first, and the entry that a read of S_LO latched -/
  tcap : Tab (List Nat) := []
  tcapLatch : Tab Nat := []
  /-- Stake time at which WCLK_OUT started -/
  wclkFrom : Option Nat := none
  deriving DecidableEq, Repr

/-- A frame or packet that the device has sent: port, kind and fields.
Kinds: 0 Announce, 1 Sync, 2 Follow_Up, 3 Delay_Req, 4 Delay_Resp, 5 ARP request, 6 ARP reply, 7 gratuitous ARP, 8 ICMP echo reply,
9 IGMP report, 10 host frame, 11 media packet. -/
structure Sent where
  port : Nat := 0
  kind : Nat := 0
  /-- the VLAN tag, if any -/
  vlan : Option Nat := none
  /-- destination address and UDP port, and DSCP -/
  dst : Nat := 0
  dport : Nat := 0
  dscp : Nat := 0
  /-- PTP: domain and sourcePortIdentity -/
  domain : Nat := 0
  ident : Nat := 0
  fields : List Nat := []
  payload : List Byte := []
  deriving DecidableEq, Repr

/-- One Ethernet port (R395 to R403). -/
structure NetPort where
  link : Bool := false
  igmpV2 : Bool := false
  /-- timestamp queue: tag and time, oldest first -/
  txts : List (Nat × Nat) := []
  /-- ARP cache: address, MAC, and the instant of the last refresh -/
  arp : List (Nat × Nat × Nat) := []
  /-- gratuitous ARPs still to send, and the instant of the next -/
  grat : Nat := 0
  gratAt : Nat := 0
  /-- IGMP reports to send: group, and the instant from which -/
  reports : List (Nat × Nat) := []
  /-- groups joined, each with the sources of INCLUDE mode, or with none in EXCLUDE mode -/
  joined : List (Nat × List Nat) := []
  /-- addresses that an ARP request has asked for within the last second, and the instant -/
  asked : List (Nat × Nat) := []
  /-- echo replies sent in the second that began at the instant -/
  echoAt : Nat := 0
  echoes : Nat := 0
  /-- echo requests dropped beyond the rate (R403) -/
  echoDrops : Nat := 0
  deriving DecidableEq, Repr

/-- NET. -/
structure NetSt where
  ports : Tab NetPort := []
  /-- frames sent by the last command -/
  sent : List Sent := []
  /-- while a received frame is handled: how long before the command its first bit came (R395), in 2^-32 ns -/
  sfd : Nat := 0
  deriving DecidableEq, Repr

/-- One receive stream (R404 to R410). -/
structure RxStream where
  /-- enabled; or fading out until the frame given -/
  on : Bool := false
  fadeEnd : Option Nat := none
  fade : Ramp := {}
  primed : Bool := false
  /-- slot (k mod B): frame index and samples -/
  buf : Tab (Nat × List (Option Int)) := []
  last : List Int := []
  /-- last sequence number on each path -/
  seqA : Option Nat := none
  seqB : Option Nat := none
  /-- on a standby, whether the active used a sample at the next tick -/
  forced : Option Bool := none
  deriving DecidableEq, Repr

/-- One transmit stream (R404, R411). -/
structure TxStream where
  on : Bool := false
  fadeEnd : Option Nat := none
  /-- samples of the last frames by channel, newest frame first -/
  hist : List (List Int) := []
  deriving DecidableEq, Repr

/-- STREAM (R404 to R416). -/
structure StreamSt where
  rxs : Tab RxStream := []
  txs : Tab TxStream := []
  /-- network-receive sources of the frame in progress -/
  rx : Tab Int := []
  deriving DecidableEq, Repr



/-- A request at a MEMC port (R470). -/
structure DramReq where
  port : Nat := 0
  initiator : Nat := 0
  write : Bool := false
  addr : Nat := 0
  len : Nat := 0
  data : List Byte := []
  /-- local-counter instant of arrival, and the urgency reached -/
  arrival : Nat := 0
  urgency : Nat := 0
  /-- what the block's check code shows: 0 good, 1 a single-bit error, 2 an uncorrectable error (environment) -/
  ecc : Nat := 0
  deriving DecidableEq, Repr

/-- MEMC (R465 to R486). -/
structure MemcSt where
  /-- set point in force -/
  fsp : Nat := 0
  /-- a change in progress: target, local-counter instant of its start, and whether it retrains the target -/
  switching : Option (Nat × Nat × Bool) := none
  /-- a held change, and whether training held it -/
  held : Option (Nat × Bool) := none
  /-- local-counter instant at which the last change ended -/
  lastEnd : Option Nat := none
  /-- a training sequence: mask of set points being trained -/
  training : Option Nat := none
  /-- requests waiting, oldest first -/
  queue : List DramReq := []
  /-- open row by 16 × channel + bank, and local-counter instant of each channel's last request -/
  open_ : Tab (Option Nat) := []
  lastReq : Tab Nat := []
  /-- channels in self-refresh, one bit each; and why all are: 0 no reason, 1 freeze, 2 standby -/
  sr : Nat := 0
  srWhy : Nat := 0
  /-- postponed refresh commands by 16 × channel + bank -/
  postponed : Tab Nat := []
  /-- neighbour refreshes queued, oldest first: channel, bank, row, further activates in the bank -/
  neighbours : List (Nat × Nat × Nat × Nat) := []
  /-- dies at the doubled rate, one bit each, and successive cooler polls of each -/
  hot : Nat := 0
  cool : Tab Nat := []
  /-- bytes moved in the epoch in progress and the instant of its start; bytes and length of the last complete epoch -/
  bytes : Nat := 0
  since : Nat := 0
  lastBytes : Nat := 0
  lastLen : Nat := 0
  /-- next block of the scrub -/
  scrubAt : Nat := 0
  deriving DecidableEq, Repr

/-- One target's arbiter (R493, R494, R500). -/
structure Arb where
  /-- the initiator granted last, on which an idle target is parked -/
  parked : Nat := 0
  /-- the initiator whose turn it is, and the bursts granted in the turn -/
  turn : Option Nat := none
  used : Nat := 0
  /-- a lock: its initiator, the Stake instant of its first grant, and transfers so far -/
  lock : Option (Nat × Nat × Nat) := none
  /-- an initiator whose lock was broken, until the final transfer of its sequence -/
  broken : Option Nat := none
  deriving DecidableEq, Repr

/-- WEAVE (R487 to R504). -/
structure WeaveSt where
  arbs : Tab Arb := []
  /-- bursts that wait at their targets, oldest first -/
  waiting : List Burst := []
  deriving DecidableEq, Repr

/-- The whole machine. -/
structure State where
  /-- the part, as the OTP's variant field gives it at the last start (R1, R522) -/
  variant : Variant := .zn5480
  /-- live values of unstaged registers and staging copies of staged ones, by register address -/
  regs : Tab Word := []
  /-- effective copies of staged registers, by register address (R50) -/
  eff : Tab Word := []
  /-- bytes of array windows, DRAM, common store and Osier memories, by 41-bit Weave address -/
  mem : List Host.Cell := []
  clk : Clock := {}
  ctl : Ctl := {}
  plait : PlaitSt := {}
  fault : FaultSt := {}
  boot : BootSt := {}
  bist : BistSt := {}
  budget : BudgetSt := {}
  jtag : JtagSt := {}
  scene : SceneSt := {}
  obj : ObjSt := {}
  warp : WarpSt := {}
  corr : CorrSt := {}
  coil : CoilSt := {}
  osier : OsierSt := {}
  pstg : PstgSt := {}
  lsup : LsupSt := {}
  port : PortSt := {}
  stake : StakeSt := {}
  net : NetSt := {}
  stream : StreamSt := {}
  route : RouteSt := {}
  meter : MeterSt := {}
  capt : CaptSt := {}
  meas : MeasSt := {}
  hoop : HoopSt := {}
  memc : MemcSt := {}
  weave : WeaveSt := {}
  /-- counts the free values drawn (the model's own field) -/
  freeCtr : Nat := 0
  /-- commands waiting, first in first out -/
  pending : List Instr := []
  deriving DecidableEq, Repr

/-- The machine as the reset leaves it, in reset, before the release edge (R56, R505).
[DESIGN CHOICE, unsafe: log entry 3; DESIGN CHOICE, safe: log entry 4; DESIGN CHOICE, safe: log entry 5; DESIGN CHOICE, unsafe: log entry 6; DESIGN CHOICE, unsafe: log entry 7; DESIGN CHOICE, unsafe: log entry 139] -/
def State.reset : State := {}

/-- The result of a step. -/
abbrev Res := Host.Outcome State Fault Refusal

end Sys2Proof.Machine
end

