-- ==== Sys2Proof/Machine/Regs.lean ====
section
/-!
DEFINITION. The variant tables (R1, R2), page presence and power (R4, R270, R273), register storage with reset values and
staging (R46, R49, R50, R55), and byte memory (R11).
-/
namespace Sys2Proof.Machine

/-! ### Capacities (R1) -/

def Variant.code : Variant → Nat
  | .zn5480 => 0 | .zn5340 => 1 | .zn5220 => 2

/-- One of three values by variant. -/
def Variant.pick {α : Type} (v : Variant) (a b c : α) : α :=
  match v with | .zn5480 => a | .zn5340 => b | .zn5220 => c

def Variant.cores (v : Variant) : Nat := v.pick 128 64 32
def Variant.psChannels (v : Variant) : Nat := v.pick 64 32 16
def Variant.ports (v : Variant) : Nat := v.pick 16 8 4
def Variant.aes (v : Variant) : Nat := v.pick 8 8 4
def Variant.madi (v : Variant) : Nat := v.pick 4 2 0
def Variant.nets (v : Variant) : Nat := v.pick 2 2 1
def Variant.hasHoop (v : Variant) : Bool := v.pick true true false
def Variant.hasMeas (v : Variant) : Bool := v.pick true true false
def Variant.has2022_7 (v : Variant) : Bool := v.pick true false false
def Variant.hasAcTest (v : Variant) : Bool := v.pick true false false
def Variant.hasSelfOsc (v : Variant) : Bool := v.pick true true false
/-- usable DRAM in 32 MiB units (R48) -/
def Variant.dram32 (v : Variant) : Nat := v.pick 248 124 124
/-- usable DRAM in bytes -/
def Variant.dramBytes (v : Variant) : Nat := v.dram32 * 0x2000000

/-! ### Rates (R15, R16) -/

/-- Fr in Hz by rate code; 0 for no render rate. -/
def rateHz : Nat → Nat
  | 1 => 44100 | 2 => 48000 | 3 => 88200 | 4 => 96000 | 5 => 176400 | 6 => 192000 | _ => 0

/-- 0 for 44.1/48, 1 for 88.2/96, 2 for 176.4/192 kHz. -/
def rateClass (code : Nat) : Nat := (code - 1) / 2

/-- Frequency of the audio master of the code's family in Hz (R15). -/
def masterHz (code : Nat) : Nat := if code % 2 = 1 then 90316800 else 98304000

/-- Fb of R119: the frames of one millisecond unit. -/
def frameBase : Nat → Nat
  | 1 => 45 | 2 => 48 | 3 => 90 | 4 => 96 | 5 => 180 | 6 => 192 | _ => 1

/-- Object capacity at a rate code (R1); 0 while no rate is in force. [DESIGN CHOICE, unsafe: log entry 36] -/
def objCap (v : Variant) (code : Nat) : Nat :=
  if code = 0 then 0 else (v.pick 1024 512 256) >>> rateClass code

/-- Render-output capacity at a rate code (R1); 0 while no rate is in force. [DESIGN CHOICE, unsafe: log entry 36] -/
def outCap (v : Variant) (code : Nat) : Nat :=
  if code = 0 then 0 else if rateClass code = 2 then v.pick 256 256 128 else v.pick 512 256 128

/-- Frames in `ms` milliseconds, rounded up (R144). -/
def msFrames (ms code : Nat) : Nat := cdiv (ms * rateHz code) 1000

/-! ### Pages -/

/-- A page that exists in the variant (R2, R43). [DEDUCED, unsafe: log entry 18; DEDUCED, unsafe: log entry 95] -/
def pagePresent (v : Variant) (p : Nat) : Bool :=
  (unitOf p).isSome &&
  match v with
  | .zn5480 => true
  | .zn5340 => !((0x28 ≤ p && p ≤ 0x2F) || (0x3A ≤ p && p ≤ 0x3B) || (0xA0 ≤ p && p ≤ 0xDF) || (0xE4 ≤ p && p ≤ 0xE7))
  | .zn5220 => !(p == 8 || p == 0x12 || (0x24 ≤ p && p ≤ 0x2F) || (0x34 ≤ p && p ≤ 0x3B) || p == 0x54 ||
      (0x80 ≤ p && p ≤ 0xDF) || (0xE2 ≤ p && p ≤ 0xE7))

/-- Domains of the units that the variant has, one bit each (R270, R271). -/
def presentDomains (v : Variant) : Nat := v.pick 0xFFF 0xCFF 0x47F

/-- The domain that holds a page (R270); IDENT is held with CTRL. [DEDUCED, unsafe: log entry 18] -/
def pageDomain (p : Nat) : Nat :=
  match unitOf p with
  | none => 1
  | some u =>
    if u = 0x11 ∨ u = 0x13 then 2
    else if u = 0x20 ∨ u = 0x30 ∨ u = 0x38 ∨ u = 0x3C then 3
    else if u = 0xE0 ∨ u = 0xE8 then 4
    else if u = 0x48 ∨ u = 0x49 ∨ (0x50 ≤ u ∧ u ≤ 0x58) then 5
    else if u = 0x60 then 6 + (p - 0x60) / 32
    else if u = 0xF0 then 10
    else if u = 0x08 then 11
    else 1

def State.domainOn (s : State) (d : Nat) : Bool :=
  s.budget.domains.testBit d && (s.budget.transition.map (fun t => t.testBit d)).getD true

/-- The device is out of reset, not in standby and not frozen, so its clocked logic runs. [DEDUCED, unsafe: log entry 136] -/
def State.running (s : State) : Bool := !s.boot.inReset && !s.budget.standby && !s.fault.frozen

/-- The member is a standby of a pair (R546 to R550). -/
def State.isStandby (s : State) : Bool := decide (2 ≤ s.hoop.state ∧ s.hoop.state ≤ 4)

/-- The claim-gated output enables are open (R541). -/
def State.enablesOpen (s : State) : Bool := s.hoop.enables

/-- Pages that the start-up phase leaves responding (R529, R532); IDENT holds no activity to stop. [DEDUCED, unsafe: log entry 19] -/
def phasePage (phase p : Nat) : Bool :=
  if phase = 7 ∨ phase = 8 then p = 0 || p = 1 || p = 2 || p = 4 || p = 5 || p = 7
  else if phase = 10 then p = 0 || p = 1 || p = 2 || p = 4 || p = 5 || p = 7
  else true

/-- The page answers accesses: present, powered and not stopped (R4, R273).
[DEDUCED, unsafe: log entry 18; DEDUCED, unsafe: log entry 19; DEDUCED, unsafe: log entry 30] -/
def State.pageUp (s : State) (p : Nat) : Bool :=
  s.running && pagePresent s.variant p && s.domainOn (pageDomain p) && phasePage s.boot.phase p

/-- IRQ_STATUS bits that the unit defines; one IRQ_ENABLE bit each. The HOST bits are the model's reading of R68.
[DEDUCED, unsafe: log entry 20; DEDUCED, unsafe: log entry 21] -/
def irqMask (u : Nat) : Nat :=
  match u with
  | 0x01 => 0xFF | 0x03 => 3 | 0x04 => 0xF | 0x05 => 0xF | 0x06 => 0x1F | 0x07 => 0xF | 0x08 => 0xFF
  | 0x10 => 0x7F | 0x11 => 0x1F | 0x13 => 0x1F | 0x20 => 0x1F | 0x30 => 0x7F | 0x38 => 0x1F | 0x3C => 3
  | 0x48 => 7 | 0x49 => 3 | 0x50 => 0xFF | 0x51 => 3 | 0x52 => 7 | 0x53 => 0x7F | 0x54 => 7 | 0x55 => 0xF
  | 0x58 => 0x7F | 0x60 => 0x1F | 0xE0 => 0x1FF | 0xE8 => 0x7F | 0xF0 => 0x3F | 0xF8 => 0x1F
  | _ => 0

/-- Pages whose PAGE_CTRL enable reads 1 and ignores writes. -/
def fixedEnable (p : Nat) : Bool :=
  match unitOf p with
  | some u => u == 0 || u == 4 || u == 5 || u == 7 || u == 0x60 || u == 0xF0 || u == 0xF8
  | none => false

/-! ### Registers -/

/-- Reset targets of the MEMC ports (R469). -/
def memcTargetReset (k : Nat) : Nat :=
  nth 0 [4000, 4000, 4000, 8000, 8000, 8000, 8000, 20000, 50000, 20000, 50000, 100000] k

/-- Reset weights of the Weave initiators (R490). -/
def weaveWeightReset (i : Nat) : Nat :=
  nth 1 [4, 1, 2, 2, 2, 2, 2, 2, 2, 2, 1, 4, 8, 8, 8, 8, 8, 2, 4, 2, 1, 1, 8, 8] i

/-- Feedback taps of MEAS_MLS_POLY12 to 20: tap t is bit t − 1 (R463 gives the registers and not the polynomials).
[PRESUMED, unsafe: log entry 100] -/
def mlsPoly (k : Nat) : Nat :=
  nth 0 [0x829, 0x100D, 0x2015, 0x6000, 0xD008, 0x12000, 0x20400, 0x40023, 0x90000] k

/-- Reset value of the register at address `a` (R55 and the register tables).
[PRESUMED, unsafe: log entry 100; DESIGN CHOICE, unsafe: log entry 137] -/
def regReset (v : Variant) (a : Nat) : Word :=
  let p := a / 0x1000
  let o := a % 0x1000
  match regAt p o with
  | none => 0
  | some (r, k) =>
    if a = Reg.budgetDomain ∨ a = Reg.budgetDomainStatus then w32 (presentDomains v)
    else if r.off = 0x80 ∧ p = 0xF0 then w32 (memcTargetReset k)
    else if r.off = 0x40 ∧ p = 0xF8 then
      w32 ((List.range 8).foldl (fun n i => n + weaveWeightReset (8 * k + i) <<< (4 * i)) 0)
    else if r.off = 0x60 ∧ p = 0x54 then w32 (mlsPoly k)
    else if r.off = 0x100 ∧ p = 0xE8 then w32 (r.reset + k <<< 15)
    else w32 r.reset

/-- The stored value: live for an unstaged register, staging for a staged one. -/
def State.rd (s : State) (a : Nat) : Word := Tab.get (regReset s.variant) s.regs a

/-- The effective value of a staged register. -/
def State.ef (s : State) (a : Nat) : Word := Tab.get (regReset s.variant) s.eff a

/-- DESIGN CHOICE, unsafe: log entry 137. -/
def State.wr (s : State) (a : Nat) (v : Word) : State := { s with regs := Tab.set (regReset s.variant) s.regs a v }
def State.we (s : State) (a : Nat) (v : Word) : State := { s with eff := Tab.set (regReset s.variant) s.eff a v }

/-- A field of a stored value, and of an effective one. -/
def State.rdF (s : State) (a hi lo : Nat) : Nat := fld (s.rd a) hi lo
def State.efF (s : State) (a hi lo : Nat) : Nat := fld (s.ef a) hi lo

/-- A bit of a stored value, and of an effective one. -/
def State.rdB (s : State) (a i : Nat) : Bool := bit (s.rd a) i
def State.efB (s : State) (a i : Nat) : Bool := bit (s.ef a) i

def State.wrF (s : State) (a hi lo v : Nat) : State := s.wr a (setFld (s.rd a) hi lo v)

/-- A saturating counter register rises by `n`. -/
def State.count (s : State) (a n : Nat) : State := if n = 0 then s else s.wr a (satAdd (s.rd a) n)

/-- IRQ_STATUS bit `i` of page `p` is set. [DEDUCED, unsafe: log entry 20] -/
def State.irq (s : State) (p i : Nat) : State := s.wr (Reg.irqStatus p) (setBit (s.rd (Reg.irqStatus p)) i true)

/-- A 64-bit value held in two registers. -/
def State.rd64 (s : State) (lo hi : Nat) : Nat := (s.rd lo).toNat + (s.rd hi).toNat * 2 ^ 32
def State.ef64 (s : State) (lo hi : Nat) : Nat := (s.ef lo).toNat + (s.ef hi).toNat * 2 ^ 32
def State.wr64 (s : State) (lo hi n : Nat) : State := (s.wr lo (w32 n)).wr hi (w32 (n / 2 ^ 32))

/-- A staged register is given the same staging and effective value (R77). -/
def State.wrBoth (s : State) (a : Nat) (v : Word) : State := (s.wr a v).we a v

/-- PAGE_CTRL enable of a page as software reads it. -/
def State.enableBit (s : State) (p : Nat) : Bool := fixedEnable p || s.rdB (Reg.pageCtrl p) 0

/-- The enable that the unit acts on. -/
def State.unitOn (s : State) (p : Nat) : Bool :=
  fixedEnable p || (s.pageUp p && Tab.get (fun _ => false) s.ctl.enabled p)

/-- A fresh free value: one that the spec leaves open, under no constraint.
[DESIGN CHOICE, safe: log entry 4; DESIGN CHOICE, safe: log entry 106] -/
def State.drawFree (s : State) : BitVec 64 × State := (Config.free s.freeCtr, { s with freeCtr := s.freeCtr + 1 })

/-- A free sample in Q1.31. [DESIGN CHOICE, safe: log entry 77] -/
def State.drawSample (s : State) : Int × State := ((s.drawFree.1.setWidth 32).toInt, s.drawFree.2)

/-- `n` free samples. -/
def State.drawSamples (s : State) : Nat → List Int × State
  | 0 => ([], s)
  | k + 1 =>
    let (x, s1) := s.drawSample
    let (xs, s2) := State.drawSamples s1 k
    (x :: xs, s2)

/-! ### Memory -/

/-- What a byte that nothing has written reads as (R56 for arrays; the model's choice for RAM). [DESIGN CHOICE, unsafe: log entry 3] -/
def memDefault (_ : Nat) : Byte := 0

def State.ld8 (s : State) (a : Nat) : Byte := Tab.get memDefault s.mem a
def State.st8 (s : State) (a : Nat) (b : Byte) : State := { s with mem := Tab.set memDefault s.mem a b }

/-- `n` bytes from address `a`. -/
def State.ldN (s : State) (a n : Nat) : List Byte := (List.range n).map (fun i => s.ld8 (a + i))

/-- Store bytes at consecutive addresses from `a`. -/
def State.stN (s : State) (a : Nat) : List Byte → State
  | [] => s
  | b :: bs => State.stN (s.st8 a b) (a + 1) bs

/-- A little-endian number of `n` bytes (R11). -/
def State.ldLe (s : State) (a n : Nat) : Nat := ofLe (s.ldN a n)
def State.ld32 (s : State) (a : Nat) : Word := w32 (s.ldLe a 4)
def State.ldS32 (s : State) (a : Nat) : Int := signed 32 (s.ldLe a 4)
def State.st32 (s : State) (a : Nat) (w : Word) : State := s.stN a (leBytes 4 w.toNat)
def State.st64 (s : State) (a n : Nat) : State := s.stN a (leBytes 8 n)

/-- Bytes in `[lo, hi)` return to their unlisted value. -/
def State.clearMem (s : State) (lo hi : Nat) : State :=
  { s with mem := Tab.drop (fun k => decide (lo ≤ k ∧ k < hi)) s.mem }

/-- Registers, copies and latches of the page at the addresses picked return to their reset values. -/
def Page.clearRegs (s : State) (p : Nat) (pick : Nat → Bool) : State :=
  let mine := fun (a : Nat) => a / 0x1000 == p && pick (a % 0x1000)
  { s with regs := Tab.drop mine s.regs, eff := Tab.drop mine s.eff, ctl := { s.ctl with latch := Tab.drop mine s.ctl.latch } }

/-- Base of page `p`'s array window (R41). -/
def winBase (p : Nat) : Nat := 0x01000000 + p * 0x100000

/-- Weave address of common-store offset `o` (R488: bit 40). -/
def csAddr (o : Nat) : Nat := 0x10000000000 + o

/-- First DRAM address (R41). -/
def dramBase : Nat := 0x1000000000

/-- The variant's address is in usable DRAM. [DEDUCED, unsafe: log entry 30] -/
def inDram (v : Variant) (a n : Nat) : Bool := decide (dramBase ≤ a ∧ a + n ≤ dramBase + v.dramBytes)

/-! ### Trajectories (R142) -/

/-- The value in frame `n`. -/
def Ramp.at (r : Ramp) (n : Nat) : Int :=
  if r.h ≤ n then r.v1
  else if n ≤ r.s then r.v0
  else r.v0 + Int.tdiv (((n - r.s : Nat) : Int) * (r.v1 - r.v0)) ((r.h - r.s : Nat) : Int)

/-- Re-aim at frame `n` toward `t`, reached at `h` (R141, R143). -/
def Ramp.aim (r : Ramp) (n h : Nat) (t : Int) : Ramp := { v0 := r.at n, v1 := t, s := n, h := h }

/-- The trajectory completed at its end value. -/
def Ramp.finish (r : Ramp) : Ramp := { v0 := r.v1, v1 := r.v1, s := 0, h := 0 }

/-- A constant. -/
def Ramp.const (v : Int) : Ramp := { v0 := v, v1 := v }

/-- Still running in frame `n`. -/
def Ramp.runs (r : Ramp) (n : Nat) : Bool := decide (n < r.h)

/-- 1.0 in Q2.30. -/
def one30 : Int := 0x40000000

end Sys2Proof.Machine
end

