-- ==== Sys2Proof/Machine/Clock.lean ====
section
/-!
DEFINITION. Passage of time: Stake time, the local counter and AON time, in units of 2^-32 ns, and tick instants
(R15, R17, R19, R377). Commands that name an instant move time forward to it; time never moves back except by a Stake step.
-/
namespace Sys2Proof.Machine

/-- Units of 2^-32 ns in a nanosecond, a microsecond, a millisecond and a second. -/
def nsU : Nat := 2 ^ 32
def usU : Nat := 1000 * nsU
def msU : Nat := 1000 * usU
def secU : Nat := 1000 * msU

/-- The Stake instant of tick `n` at rate code `code` (R17), rounded up to the counter's unit. -/
def tickAt (code n : Nat) : Nat := cdiv (n * secU) (rateHz code)

/-- The frame index of a Stake time (R17). -/
def frameOf (code stake : Nat) : Nat := stake * rateHz code / secU

/-- The index of the first tick at or after a Stake time: ceil(t × Fr). -/
def frameCeil (code stake : Nat) : Nat := cdiv (stake * rateHz code) secU

/-- The increment I of a counter tick, never zero (R378). -/
def Clock.inc (c : Clock) : Nat := max 1 c.incr

/-- `d` units of local-counter time pass: Stake time rises by I for every 4 ns (R377). [DESIGN CHOICE, unsafe: log entry 10] -/
def State.pass (s : State) (d : Nat) : State :=
  { s with clk := { s.clk with stake := s.clk.stake + d * s.clk.inc / (4 * nsU), mono := s.clk.mono + d, aon := s.clk.aon + d } }

/-- Time moves forward to Stake time `t`, if that lies ahead. [DESIGN CHOICE, unsafe: log entry 10] -/
def State.toStake (s : State) (t : Nat) : State :=
  if t ≤ s.clk.stake then s
  else
    let d := cdiv ((t - s.clk.stake) * (4 * nsU)) s.clk.inc
    { s with clk := { s.clk with stake := t, mono := s.clk.mono + d, aon := s.clk.aon + d } }

/-- Time moves forward to local-counter time `t`, if that lies ahead. [DESIGN CHOICE, unsafe: log entry 10] -/
def State.toMono (s : State) (t : Nat) : State := s.pass (t - s.clk.mono)

/-- AON time moves forward to `t` while the counters stand still (standby, freeze). -/
def State.toAon (s : State) (t : Nat) : State :=
  { s with clk := { s.clk with aon := max s.clk.aon t } }

/-- One tick of the 250 MHz counter: Stake time rises by I (R377). -/
def State.counterTick (s : State) : State :=
  { s with clk := { s.clk with stake := s.clk.stake + s.clk.incr, mono := s.clk.mono + 4 * nsU,
                               aon := s.clk.aon + 4 * nsU } }

/-- The earliest local-counter instant of a tick that a direct write at this moment may take: 2 µs later (R53, R147). -/
def State.postReady (s : State) : Nat := s.clk.mono + 2 * usU

/-- A render rate is in force (ticks are produced, or only interrupted by a stop). -/
def State.rateOn (s : State) : Bool := s.clk.rate != 0

/-- The Stake instant of the next tick. -/
def State.nextTickAt (s : State) : Nat := tickAt s.clk.rate s.clk.nextTick

/-- The first tick at least `d` units after now, while ticks run. [DEDUCED, unsafe: log entry 16] -/
def State.firstTickAfter (s : State) (d : Nat) : Nat :=
  max s.clk.nextTick (frameCeil s.clk.rate (s.clk.stake + d))

/-- Frames in `ms` milliseconds at the rate in force (R144). -/
def State.ms (s : State) (ms : Nat) : Nat := msFrames ms s.clk.rate

/-- DESIGN CHOICE, unsafe: log entry 36. -/
def State.objCap (s : State) : Nat := Machine.objCap s.variant s.clk.rate
def State.outCap (s : State) : Nat := Machine.outCap s.variant s.clk.rate

/-- The capacity that judges a configuration: that of the rate in force, or the variant's largest while none is (R601).
[DESIGN CHOICE, unsafe: log entry 36] -/
def State.objCapCfg (s : State) : Nat := Machine.objCap s.variant (if s.rateOn then s.clk.rate else 2)
/-- DESIGN CHOICE, unsafe: log entry 36. -/
def State.outCapCfg (s : State) : Nat := Machine.outCap s.variant (if s.rateOn then s.clk.rate else 2)

/-- The rate in mHz of `cnt` edges from Stake instant `t0` to `t1` of a gate that ends now; 0 without an edge for 1 ms (R360). -/
def State.measuredMhz (s : State) (cnt t0 t1 : Nat) : Nat :=
  if cnt < 2 ∨ t1 ≤ t0 ∨ t1 + msU < s.clk.stake then 0
  else (roundDiv (((cnt - 1) * 1000 * secU : Nat) : Int) (t1 - t0)).toNat

/-- The rate class of a rate in mHz (R361): the nearest nominal rate in ratio, or 7 beyond 12.5 % of every one. -/
def rateClassOf (mhz : Nat) : Nat :=
  if mhz = 0 then 0
  else
    let nom (c : Nat) := rateHz c * 1000
    let near (c : Nat) : Bool := decide (8 * ((mhz : Int) - nom c).natAbs ≤ nom c)
    if !(([1, 2, 3, 4, 5, 6] : List Nat).any near) then 7
    else ([2, 3, 4, 5, 6] : List Nat).foldl (fun b c =>
      -- max(mhz/nom, nom/mhz) is smaller for c than for b
      let hi (c : Nat) := max mhz (nom c)
      let lo (c : Nat) := min mhz (nom c)
      if hi c * lo b < hi b * lo c then c else b) 1

end Sys2Proof.Machine
end

