-- ==== Sys2Proof/Machine/FaultUnit.lean ====
section
/-!
DEFINITION. Fault codes, fault records and FAULT_N (R46, R47, R561 to R568, R578).
-/
namespace Sys2Proof.Machine

/-- The class of the record that a page's code raises, by unit (R567, R568); 0 where the code raises none (R561). -/
def faultClass (u code : Nat) : Nat :=
  match u with
  | 0x60 => if code = 0x88 then 1 else if code ∈ [0x80, 0x81, 0x82, 0x84, 0x85, 0x86, 0x87] then 2 else 0
  | 0x07 => if code = 0x82 then 1 else if code ∈ [0x80, 0x81, 0x83, 0x84, 0x85] then 2 else 0
  | 0xF0 => if code = 0x85 then 1 else if code ∈ [0x80, 0x82, 0x84] then 2 else 0
  | 0x58 => if code ∈ [0x81, 0x83] then 2 else 0
  | 0x51 => if code = 0x80 then 2 else 0
  | 0x53 => if code = 0x85 then 2 else 0
  | 0x50 => if code = 0x83 then 2 else 0
  | 0xF8 => if code ∈ [0x80, 0x81, 0x82, 0x83] then 2 else 0
  | 0x06 => if code ∈ [0x80, 0x82, 0x83, 0x84, 0x85] then 2 else 0
  | 0xE0 => if code ∈ [0x80, 0x81, 0x82, 0x83, 0x85] then 2 else 0
  | 0x05 => if code = 0x80 then 3 else if code = 0x82 then 2 else 0
  | 0x08 => if 0x80 ≤ code ∧ code ≤ 0x86 then 2 else 0
  | 0x04 => if 0x80 ≤ code ∧ code ≤ 0x88 then 3 else 0
  | 0xE8 => if code = 0x83 then 2 else 0
  | 0x10 => if code ∈ [0x81, 0x82, 0x83] then 2 else 0
  | 0x11 => if code ∈ [0x80, 0x81] then 2 else 0
  | 0x13 => if code = 0x81 then 2 else 0
  | 0x01 => if code = 0x81 then 2 else 0
  | _ => 0

/-- Readout over JTAG is permitted in the life-cycle state (R521). -/
def State.readoutPermitted (s : State) : Bool :=
  s.boot.lc = 1 || (s.boot.lc = 2 && s.boot.fieldDebug) || s.boot.lc = 3

/-- BIST direct controls and fault injection are permitted (R521). -/
def State.directControls (s : State) : Bool := s.boot.lc = 1 || s.boot.lc = 3

def FaultSt.entry (f : FaultSt) (i : Nat) : FaultRec := Tab.get (fun _ => ({} : FaultRec)) f.ring i

/-- Indices of the entries between the tail and the head (R563). [DEDUCED, unsafe: log entry 129] -/
def FaultSt.unread (f : FaultSt) : List Nat :=
  let n := if f.full then 256 else (f.head + 256 - f.tail) % 256
  (List.range n).map (fun i => (f.tail + i) % 256)

/-- Entries of class 2 or 3 between tail and head (FAULT_STATUS pending). -/
def FaultSt.pendingCount (f : FaultSt) : Nat :=
  (f.unread.filter (fun i => (f.entry i).valid && decide (2 ≤ (f.entry i).cls))).length

/-- FAULT_N is driven low (R564, R584). -/
def State.faultN (s : State) : Bool :=
  s.boot.inReset || decide (0 < s.fault.pendingCount) || s.fault.frozen || s.boot.phase = 7 || s.boot.phase = 8 ||
  (s.boot.phase = 10 && s.boot.failedTest) || s.fault.collectorFail || s.fault.stall

/-- The newest record, when the detection repeats it within 1 ms (R563). [DEDUCED, unsafe: log entry 129] -/
def State.repeats (s : State) (p code : Nat) : Option Nat :=
  match s.fault.newest with
  | none => none
  | some i =>
    let r := s.fault.entry i
    if r.valid ∧ r.page = p ∧ r.code = code ∧ s.clk.mono ≤ s.fault.lastAt + msU ∧ r.repeats < 0xFFFF then some i else none

/-- A record in the FAULT ring: a repeat is counted in the newest record, anything else is a new entry (R563). [DEDUCED, unsafe: log entry 129] -/
def State.addRecord (s : State) (p code cls detail : Nat) : State :=
  let f := s.fault
  let s1 : State :=
    match s.repeats p code with
    | some i =>
      let r := f.entry i
      { s with fault := { f with ring := Tab.set (fun _ => {}) f.ring i { r with repeats := r.repeats + 1 },
                                 lastAt := s.clk.mono } }
    | none =>
      let r : FaultRec := { frame := s.clk.frame, page := p, code := code, cls := cls, valid := true,
                            detail := detail % 65536 }
      let head' := (f.head + 1) % 256
      let s' : State := { s with fault := { f with
        ring := Tab.set (fun _ => {}) f.ring f.head r, head := head', newest := some f.head, lastAt := s.clk.mono
        tail := if f.full then head' else f.tail, full := f.full || decide (head' = f.tail) } }
      if f.full then (s'.count Reg.faultOverflow 1).irq 7 1 else s'
  let s2 := s1.irq 7 0
  if 2 ≤ cls ∧ s.rdB Reg.faultCtrl 1 ∧ s.readoutPermitted ∧ ¬ s.fault.frozen then
    { s2 with fault := { s2.fault with freezeReq := some 3 } }
  else s2

/-- FAULT_COUNT of a page rises without a code (as R88 and R136 count discarded array writes). -/
def State.faultTick (s : State) (p : Nat) : State := s.count (Reg.faultCount p) 1

/-- A page records a fault code: FAULT_CAUSE takes it, FAULT_COUNT rises, and the code raises a record where R561 says so. -/
def State.faultD (s : State) (p code detail : Nat) : State :=
  let s1 := (s.wrF (Reg.faultCause p) 7 0 code).faultTick p
  match unitOf p with
  | none => s1
  | some u =>
    let c := faultClass u code
    if c = 0 then s1 else s1.addRecord p code c detail

/-- DEDUCED, unsafe: log entry 129. -/
def State.fault' (s : State) (p code : Nat) : State := s.faultD p code 0

/-- The Weave counts a discarded write (R4, R44, R45) in WEAVE_DISCARDS. [DEDUCED, unsafe: log entry 25] -/
def State.discard (s : State) : State := (s.count Reg.weaveDiscards 1).irq 0xF8 4

/-! ### The Weave's record (R498, R504) -/

/-- An event that the Weave records: 1 address error, 2 lock broken, 3 reset in mid-burst, 4 target error. It is counted, replaces
the record and reaches the FAULT page. [DEDUCED, unsafe: log entry 28] -/
def State.weaveEvent (s : State) (type ini target beats : Nat) (write : Bool) (addr : Nat) : State :=
  let (ctr, bitNo, code) : Nat × Nat × Nat := match type with
    | 1 => (Reg.weaveAddrErr, 0, 0x80)
    | 2 => (Reg.weaveLockBreaks, 1, 0x81)
    | 3 => (Reg.weaveResetBursts, 2, 0x82)
    | _ => (Reg.weaveTargetErr, 3, 0x83)
  let s1 := (s.count ctr 1).wr Reg.weaveRecInfo
    (w32 (at_ 28 type + at_ 23 ini + at_ 18 target + at_ 13 beats + b2n write))
  let s2 := (s1.wr64 Reg.weaveRecAddrLo Reg.weaveRecAddrHi addr).wr64 Reg.weaveRecFrameLo Reg.weaveRecFrameHi s.clk.frame
  (s2.irq 0xF8 bitNo).fault' 0xF8 code

/-- Software advances FAULT_REC_TAIL (R563). [DEDUCED, unsafe: log entry 129] -/
def State.tailWrite (s : State) (i : Nat) : State :=
  { s with fault := { s.fault with tail := i % 256, full := s.fault.full && decide (i % 256 = s.fault.tail) } }

end Sys2Proof.Machine
end

