-- ==== Sys2Proof/Machine/Layout.lean ====
section
/-!
DEFINITION. Loudspeaker layouts, meshes, repair patches and the layout service (R86 to R99, R134).
-/
namespace Sys2Proof.Machine

def Scene.page : Nat := 0x50
def Scene.win : Nat := winBase 0x50

/-- A triangle of speaker indices. -/
abbrev Tri := Nat × Nat × Nat

/-! ### Entries of a layout bank (R86) -/

def Layout.entry (b j : Nat) : Nat := Scene.win + b * 0x8000 + 32 * j
def Layout.pos (s : State) (b j : Nat) : P3 :=
  (s.ldS32 (Layout.entry b j), s.ldS32 (Layout.entry b j + 4), s.ldS32 (Layout.entry b j + 8))
def Layout.present (s : State) (b j : Nat) : Bool := bit (s.ld32 (Layout.entry b j + 12)) 0
def Layout.redistribute (s : State) (b j : Nat) : Bool := bit (s.ld32 (Layout.entry b j + 12)) 1
def Layout.nbr (s : State) (b j m : Nat) : Nat := s.ldLe (Layout.entry b j + 16 + 2 * m) 2
def Layout.nbrGain (s : State) (b j m : Nat) : Int := signed 16 (s.ldLe (Layout.entry b j + 24 + 2 * m) 2)
def Layout.presentList (s : State) (b : Nat) : List Nat := (List.range 576).filter (Layout.present s b)

def Layout.corners (s : State) (b : Nat) (t : Tri) : T3 :=
  (Layout.pos s b t.1, Layout.pos s b t.2.1, Layout.pos s b t.2.2)

/-! ### Mesh and patch areas (R93, R95) -/

def Mesh.area (b : Nat) : Nat := Scene.win + 0x10000 + b * 0x4000
def Mesh.count (s : State) (b : Nat) : Nat := s.ldLe (Mesh.area b) 4
def Mesh.loadTri (s : State) (a : Nat) : Tri := (s.ldLe a 2, s.ldLe (a + 2) 2, s.ldLe (a + 4) 2)
def Mesh.list (s : State) (b : Nat) : List Tri :=
  (List.range (min (Mesh.count s b) 1148)).map (fun t => Mesh.loadTri s (Mesh.area b + 16 + 8 * t))
def Mesh.storeTri (s : State) (a : Nat) (t : Tri) : State :=
  s.stN a (leBytes 2 t.1 ++ leBytes 2 t.2.1 ++ leBytes 2 t.2.2 ++ leBytes 2 0)
def Mesh.store (s : State) (b : Nat) (l : List Tri) : State :=
  l.zipIdx.foldl (fun s p => Mesh.storeTri s (Mesh.area b + 16 + 8 * p.2) p.1)
    (s.stN (Mesh.area b) (leBytes 4 l.length ++ leBytes 12 0))

def Patch.area (b j : Nat) : Nat := Scene.win + 0x20000 + b * 0x18000 + 192 * j
def Patch.status (s : State) (b j : Nat) : Nat := fld (s.ld32 (Patch.area b j)) 17 16
def Patch.list (s : State) (b j : Nat) : List Tri :=
  (List.range (min (fld (s.ld32 (Patch.area b j)) 15 0) 23)).map (fun t => Mesh.loadTri s (Patch.area b j + 8 + 8 * t))
def Patch.store (s : State) (b j : Nat) (status : Nat) (l : List Tri) : State :=
  l.zipIdx.foldl (fun s p => Mesh.storeTri s (Patch.area b j + 8 + 8 * p.2) p.1)
    (s.stN (Patch.area b j) (leBytes 4 (l.length % 65536 + status * 65536) ++ leBytes 4 0))

/-! ### Triangles and their order -/

def Tri.has (t : Tri) (j : Nat) : Bool := t.1 = j || t.2.1 = j || t.2.2 = j

/-- Rotated so that v0 is the lowest index (R91). -/
def Tri.rotate (t : Tri) : Tri :=
  if t.1 ≤ t.2.1 ∧ t.1 ≤ t.2.2 then t else if t.2.1 ≤ t.1 ∧ t.2.1 ≤ t.2.2 then (t.2.1, t.2.2, t.1) else (t.2.2, t.1, t.2.1)

def Tri.le (a b : Tri) : Bool :=
  decide (a.1 < b.1 ∨ (a.1 = b.1 ∧ (a.2.1 < b.2.1 ∨ (a.2.1 = b.2.1 ∧ a.2.2 ≤ b.2.2))))

/-- The order of a computed mesh (R91). -/
def Mesh.order (l : List Tri) : List Tri := sortBy Tri.le (l.map Tri.rotate)

/-! ### The split rule (R91) -/

/-- The tolerance 10^-6 of R91, as a binary64 value. -/
def tol64 : Fp := Fp.ofRat f64 1 1000000 0

/-- Diagonals (i, j), i < j, of a polygon of `n` corners. -/
def diagonals (n : Nat) : List (Nat × Nat) :=
  (List.range n).flatMap (fun i => ((List.range n).filter (fun j => decide (i + 2 ≤ j ∧ ¬ (i = 0 ∧ j + 1 = n)))).map (fun j => (i, j)))

/-- The diagonal from corner i to corner j of a polygon in one open hemisphere, counter-clockwise from outside, lies within it:
it starts and ends inside the corners' angles and crosses no side. det(a, b, c) tells on which side of the arc ab c lies.
[DEDUCED, unsafe: log entry 38] -/
def diagonalInside (pts : List P3) (i j : Nat) : Bool :=
  let n := pts.length
  let p := fun k => nth (0, 0, 0) pts (k % n)
  let left := fun a b c => decide (0 < P3.det (p a) (p b) (p c))
  let leftOn := fun a b c => decide (0 ≤ P3.det (p a) (p b) (p c))
  let cone := fun a b => let prev := a + n - 1; let next := a + 1
    if leftOn prev a next then left a b prev && left b a next else !(leftOn a b next && leftOn b a prev)
  let crosses := fun k =>
    let sg := fun a b c => (P3.det (p a) (p b) (p c)).sign
    decide (sg i j k * sg i j (k + 1) < 0 ∧ sg k (k + 1) i * sg k (k + 1) j < 0)
  cone i j && cone j i && (List.range n).all (fun k => [k, (k + 1) % n].any (fun x => x == i || x == j) || !crosses k)

/-- The diagonal that the split rule takes: the largest dot product, equal within the tolerance, then the lowest speaker
index, then the lower other end. [DEDUCED, unsafe: log entry 43] -/
def splitChoice (pos : Nat → P3) (poly : List Nat) : Option (Nat × Nat) :=
  let pts := poly.map pos
  let ds := (diagonals poly.length).filter (fun d => diagonalInside pts d.1 d.2)
  let dir := fun k => V3.dir f64 (nth (0, 0, 0) pts k)
  let dots := ds.map (fun d => (d, V3.dot f64 (dir d.1) (dir d.2)))
  let best := dots.foldl (fun (m : Option Fp) d => match m with | none => some d.2 | some x => some (if Fp.lt x d.2 then d.2 else x)) none
  match best with
  | none => none
  | some x =>
    let key := fun d : Nat × Nat => let a := nth 0 poly d.1; let b := nth 0 poly d.2; (min a b, max a b)
    let cand := (dots.filter (fun d => Fp.le (Fp.sub f64 x d.2) tol64)).map (·.1)
    cand.foldl (fun m d => match m with
      | none => some d
      | some e => if (key d).1 < (key e).1 ∨ ((key d).1 = (key e).1 ∧ (key d).2 < (key e).2) then some d else some e) none

/-- The split rule applied to each part in turn until every part is a triangle. [DEDUCED, unsafe: log entry 43] -/
def splitPoly (pos : Nat → P3) : Nat → List Nat → List Tri
  | 0, _ => []
  | f + 1, poly =>
    match poly with
    | [a, b, c] => [(a, b, c)]
    | _ =>
      match splitChoice pos poly with
      | none => []
      | some (i, j) =>
        splitPoly pos f ((poly.drop i).take (j + 1 - i)) ++ splitPoly pos f (poly.take (i + 1) ++ poly.drop j)

/-! ### The convex hull (R91) -/

/-- The plane of three directions: its unit normal and its signed distance from the origin. -/
def Plane.of (a b c : V3) : V3 × Fp :=
  let n := V3.cross f64 (V3.sub f64 b a) (V3.sub f64 c a)
  let r := V3.norm f64 n
  let u := (Fp.div f64 n.1 r, Fp.div f64 n.2.1 r, Fp.div f64 n.2.2 r)
  (u, V3.dot f64 u a)

/-- Height of a direction above a plane. -/
def Plane.height (pl : V3 × Fp) (d : V3) : Fp := Fp.sub f64 (V3.dot f64 pl.1 d) pl.2

/-- The face of the hull on the plane of three of its directions, seen so that they run counter-clockwise: every direction that
lies on the plane within 10^-6, none lying above it, in counter-clockwise order from the lowest index. [DEDUCED, unsafe: log entry 38] -/
def Hull.face (dirs : List (Nat × V3)) (a b c : V3) : Option (List Nat) :=
  let pl := Plane.of a b c
  let hs := dirs.map (fun d => (d, Plane.height pl d.2))
  if hs.all (fun h => Fp.le h.2 tol64) then
    match (hs.filter (fun h => Fp.le (Fp.neg tol64) h.2)).map (·.1) with
    | [] => none
    | v0 :: rest =>
      let before := fun (x y : Nat × V3) =>
        Fp.le .zero (V3.dot f64 pl.1 (V3.cross f64 (V3.sub f64 x.2 v0.2) (V3.sub f64 y.2 v0.2)))
      some (v0.1 :: (sortBy before rest).map (·.1))
  else none

/-- The faces of the convex hull of directions, each once, as polygons counter-clockwise from outside. [DEDUCED, unsafe: log entry 38] -/
def Hull.faces (dirs : List (Nat × V3)) : List (List Nat) :=
  let idx := dirs.zipIdx
  let triples := idx.flatMap (fun a => (idx.filter (fun b => decide (a.2 < b.2))).flatMap (fun b =>
    (idx.filter (fun c => decide (b.2 < c.2))).map (fun c => (a.1.2, b.1.2, c.1.2))))
  let found := triples.filterMap (fun t => (Hull.face dirs t.1 t.2.1 t.2.2).orElse fun _ => Hull.face dirs t.1 t.2.2 t.2.1)
  let same := fun (x y : List Nat) => x.all y.contains && y.all x.contains
  found.foldl (fun acc x => if acc.any (same x) then acc else acc ++ [x]) []

/-- The mesh of a set of entries: hull faces, split, rotated and sorted (R91). [DEDUCED, unsafe: log entry 43] -/
def Mesh.compute (s : State) (b : Nat) (entries : List Nat) : List Tri :=
  Mesh.order ((Hull.faces (entries.map (fun j => (j, V3.dir f64 (Layout.pos s b j))))).flatMap
    (fun face => splitPoly (Layout.pos s b) (face.length + 1) face))

/-! ### The checks of R88 -/

/-- The first failure of a check over a list: code and index. -/
def firstFail (l : List Nat) (bad : Nat → Bool) (code : Nat) : Option (Nat × Nat) := (l.find? bad).map (fun i => (code, i))

/-- Code 1; the table reports no index and SCENE_LAYOUT_STATUS then reads 0 there. [DESIGN CHOICE, unsafe: log entry 146] -/
def Layout.code1 (s : State) (b : Nat) : Option (Nat × Nat) :=
  let l := Layout.presentList s b
  if l.length < 4 ∨ (l.filter (· < 512)).length < 3 then some (1, 0) else none

/-- A present speaker less than 0.1 m from the origin; 0.1 m is 6,553.6 units. -/
def Layout.code2 (s : State) (b : Nat) : Option (Nat × Nat) :=
  firstFail (Layout.presentList s b) (fun j => let p := Layout.pos s b j
    decide (100 * (p.1 * p.1 + p.2.1 * p.2.1 + p.2.2 * p.2.2) < 65536 * 65536)) 2

/-- cos 0.5° in binary64. -/
def cosHalfDeg : Fp := fxToFp f64 (fxCosR (fxPi / 360))

/-- Two present directions less than 0.5° apart (their dot product above cos 0.5°); the higher index is reported. -/
def Layout.code3 (s : State) (b : Nat) : Option (Nat × Nat) :=
  let l := (Layout.presentList s b).map (fun j => (j, V3.dir f64 (Layout.pos s b j)))
  (l.find? (fun q => l.any (fun p => decide (p.1 < q.1) && Fp.lt cosHalfDeg (V3.dot f64 p.2 q.2)))).map (fun q => (3, q.1))

def Layout.code8 (s : State) (b : Nat) : Option (Nat × Nat) :=
  firstFail ((Layout.presentList s b).filter (fun j => decide (512 ≤ j) && Layout.redistribute s b j))
    (fun j => (List.range 4).any (fun m => let x := Layout.nbr s b j m
      x != 0xFFFF && !(decide (x < 512) && Layout.present s b x))) 8

/-- Indices of triangles that fail a test. -/
def triFail (l : List Tri) (bad : Tri → Bool) (code : Nat) : Option (Nat × Nat) := (l.findIdx? bad).map (fun i => (code, i))

/-- The directions of a triangle's corners in binary64. -/
def Layout.dirs (s : State) (b : Nat) (t : Tri) : V3 × V3 × V3 :=
  let c := Layout.corners s b t
  (V3.dir f64 c.1, V3.dir f64 c.2.1, V3.dir f64 c.2.2)

/-- Code 4. The corners of a host-supplied triangle stand in any order (R92), so that its plane's distance has no sign. -/
def Layout.code4 (s : State) (b mode : Nat) (l : List Tri) : Option (Nat × Nat) :=
  triFail l (fun t =>
    let c := Layout.dirs s b t
    let d := (Plane.of c.1 c.2.1 c.2.2).2
    Fp.lt (if mode = 0 then d else d.abs) (Fp.ofRat f64 2 100 0)) 4
def Layout.code5 (s : State) (b : Nat) (l : List Tri) : Option (Nat × Nat) :=
  triFail l (fun t => let c := Layout.dirs s b t; Fp.lt (V3.det f64 c.1 c.2.1 c.2.2).abs (Fp.ofRat f64 1 1000 0)) 5
def Layout.code6 (s : State) (b : Nat) (l : List Tri) : Option (Nat × Nat) :=
  firstFail ((Layout.presentList s b).filter (· < 512)) (fun j => decide (24 < (l.filter (fun t => Tri.has t j)).length)) 6

/-- Edges of a triangle, lower index first. -/
def Tri.edges (t : Tri) : List (Nat × Nat) :=
  [(min t.1 t.2.1, max t.1 t.2.1), (min t.2.1 t.2.2, max t.2.1 t.2.2), (min t.2.2 t.1, max t.2.2 t.1)]

/-- The solid angle of a triangle of directions: tan(Ω/2) = |det(l1, l2, l3)| / (1 + l1·l2 + l2·l3 + l3·l1). -/
def solidAngle (c : V3 × V3 × V3) : Int :=
  let d := fun a b => (V3.dot f64 a b).toFx
  2 * fxAtan2 ((V3.det f64 c.1 c.2.1 c.2.2).abs.toFx) ((fxOne : Int) + d c.1 c.2.1 + d c.2.1 c.2.2 + d c.2.2 c.1)

def Layout.code7 (s : State) (b : Nat) (l : List Tri) : Option (Nat × Nat) :=
  let all := l.flatMap Tri.edges
  match triFail l (fun t => (Tri.edges t).any (fun e => all.count e != 2)) 7 with
  | some r => some r
  | none =>
    let sum := l.foldl (fun a t => a + solidAngle (Layout.dirs s b t)) 0
    if 1000 * (sum - 4 * fxPi).natAbs ≤ fxOne then none else some (7, l.length)

/-- Code 9; the table reports no index, as for code 1. [DESIGN CHOICE, unsafe: log entry 146] -/
def Layout.code9 (n : Nat) : Option (Nat × Nat) := if 1148 < n then some (9, 0) else none
def Layout.code10 (s : State) (b : Nat) (l : List Tri) : Option (Nat × Nat) :=
  triFail l (fun t => [t.1, t.2.1, t.2.2].any (fun j => decide (576 ≤ j) || !Layout.present s b j)) 10

/-- A host triangle's corners run clockwise as seen from outside: det(l1, l2, l3) is negative (R92). -/
def Layout.clockwise (s : State) (b : Nat) (t : Tri) : Bool :=
  let c := Layout.dirs s b t
  Fp.lt (V3.det f64 c.1 c.2.1 c.2.2) .zero

/-- The build of bank `b` (R88): an error code and index, or the mesh. [DEDUCED, unsafe: log entry 51] -/
def Layout.build (s : State) (b mode : Nat) : (Nat × Nat) ⊕ List Tri :=
  let pre := (Layout.code1 s b).orElse fun _ => (Layout.code2 s b).orElse fun _ => (Layout.code3 s b).orElse fun _ => Layout.code8 s b
  if mode = 0 then
    match pre with
    | some e => .inl e
    | none =>
      let l := Mesh.compute s b (Layout.presentList s b)
      match (Layout.code4 s b mode l).orElse fun _ => (Layout.code6 s b l).orElse fun _ => Layout.code9 l.length with
      | some e => .inl e
      | none => .inr l
  else
    match (Layout.code9 (Mesh.count s b)).orElse fun _ => pre with
    | some e => .inl e
    | none =>
      let l := Mesh.list s b
      match (Layout.code10 s b l).orElse fun _ => (Layout.code4 s b mode l).orElse fun _ => (Layout.code5 s b l).orElse fun _ =>
          (Layout.code6 s b l).orElse fun _ => Layout.code7 s b l with
      | some e => .inl e
      | none => .inr (l.map (fun t => if Layout.clockwise s b t then (t.1, t.2.2, t.2.1) else t))

/-- The corners after speaker `j` in a triangle that holds it. -/
def Tri.after (t : Tri) (j : Nat) : Nat × Nat :=
  if t.1 = j then (t.2.1, t.2.2) else if t.2.1 = j then (t.2.2, t.1) else (t.1, t.2.1)

/-- From corner `k` around: each side (a, b) leads from a to b, until the walk comes back to `start` or finds no side. -/
def ringWalk (sides : List (Nat × Nat)) (start : Nat) : Nat → Nat → List Nat
  | 0, _ => []
  | f + 1, k =>
    match sides.find? (fun e => e.1 == k) with
    | some e => if e.2 = start then [] else e.2 :: ringWalk sides start f e.2
    | none => []

/-- The neighbours of speaker `j` in their order around it, counter-clockwise from outside, from its triangles (R95). -/
def ringOrder (j : Nat) (l : List Tri) : List Nat :=
  match l.map (fun t => Tri.after t j) with
  | [] => []
  | e :: es => e.1 :: ringWalk (e :: es) e.1 (es.length + 1) e.1

/-- The origin is a mean of the four points with weights that are not all zero and not of two signs: det(b, c, d)·a −
det(a, c, d)·b + det(a, b, d)·c − det(a, b, c)·d = 0 holds of any four. -/
def originIn4 (a b c d : P3) : Bool :=
  let w := [P3.det b c d, -P3.det a c d, P3.det a b d, -P3.det a b c]
  w.any (· != 0) && (w.all (fun x => decide (0 ≤ x)) || w.all (fun x => decide (x ≤ 0)))

/-- The same of three points on one plane through the origin, and of two on one line. -/
def originIn3 (a b c : P3) : Bool :=
  let n := [P3.cross a b, P3.cross b c, P3.cross c a].find? (· != (0, 0, 0))
  match n with
  | some n =>
    let w := [P3.dot n (P3.cross b c), P3.dot n (P3.cross c a), P3.dot n (P3.cross a b)]
    P3.det a b c == 0 && (w.all (fun x => decide (0 ≤ x)) || w.all (fun x => decide (x ≤ 0)))
  | none => decide (P3.dot a b < 0 ∨ P3.dot b c < 0 ∨ P3.dot c a < 0)

/-- Each entry with the entries after it. -/
def tailsOf {α : Type} : List α → List (α × List α)
  | [] => []
  | x :: xs => (x, xs) :: tailsOf xs

/-- Points that all lie within one open hemisphere: the origin is no weighted mean of at most four of them (R95).
[DEDUCED, unsafe: log entry 38] -/
def inHemisphere (l : List P3) : Bool :=
  !((tailsOf l).any (fun a => a.1 == (0, 0, 0) || (tailsOf a.2).any (fun b => originIn3 a.1 b.1 b.1 || (tailsOf b.2).any (fun c =>
    originIn3 a.1 b.1 c.1 || c.2.any (fun d => originIn4 a.1 b.1 c.1 d)))))

/-- Repair patch of speaker `j` (R95): status and triangles. -/
def Layout.patch (s : State) (b : Nat) (mesh : List Tri) (j : Nat) : Nat × List Tri :=
  let ring := ringOrder j (mesh.filter (fun t => Tri.has t j))
  if inHemisphere (ring.map (Layout.pos s b)) then
    (1, Mesh.order (splitPoly (Layout.pos s b) (ring.length + 1) ring))
  else (2, [])

/-- Every patch of the bank is written (R88, R95). -/
def Layout.storePatches (s : State) (b : Nat) (mesh : List Tri) : State :=
  ((Layout.presentList s b).filter (· < 512)).foldl (fun s j => let p := Layout.patch s b mesh j; Patch.store s b j p.1 p.2) s

/-! ### Availability and the mesh in use (R94 to R99) -/

def Scene.layoutBank (s : State) : Nat := s.efF Reg.sceneBanks 0 0

/-- Speaker `j` is excluded, or LSUP reports it unavailable (R96). -/
def Scene.unavailable (s : State) (j : Nat) : Bool :=
  s.efB (Reg.sceneSpkExclude (j / 32)) (j % 32) || s.scene.lsupUnavail.contains j

/-- Unavailable real speakers that the layout in force holds. -/
def Scene.unavailList (s : State) : List Nat :=
  (List.range 512).filter (fun j => Layout.present s (Scene.layoutBank s) j && Scene.unavailable s j)

/-- Unavailable speakers that fall back: adjacent to another, or without a patch (R98). [DEDUCED, unsafe: log entry 41] -/
def Scene.fallback (s : State) (b : Nat) (mesh : List Tri) (u : List Nat) : List Nat :=
  u.filter (fun j => Patch.status s b j = 2 || u.any (fun i => i != j && mesh.any (fun t => Tri.has t i && Tri.has t j)))

/-- The mesh in use and the speakers whose gains are zeroed instead of patched (R94, R97, R98). -/
def Scene.meshInUse (s : State) : List Tri × List Nat :=
  let b := Scene.layoutBank s
  let mesh := Mesh.list s b
  let u := Scene.unavailList s
  let plain :=
    if u = [] then (mesh, [])
    else
      let fb := Scene.fallback s b mesh u
      let patched := u.filter (fun j => !fb.contains j)
      if patched = [] then (mesh, fb)
      else
        let kept := mesh.filter (fun t => !(patched.any (Tri.has t)))
        (Mesh.order (kept ++ patched.flatMap (Patch.list s b)), fb)
  match s.scene.rebuilt with
  | some (m, left) => if left = u then (m, []) else plain
  | none => plain

/-- A layout-build write (R88, R89): the bank that is not in force. A request while one runs is ignored. -/
def Scene.buildWrite (s : State) (w : Word) : State :=
  if !s.pageUp Scene.page then s.discard
  else if !bit w 0 ∨ s.scene.build.isSome then s
  else
    let b := 1 - Scene.layoutBank s
    let s1 := { s with scene := { s.scene with build := some (b, fld w 1 1)
                                               validA := s.scene.validA && b != 0, validB := s.scene.validB && b != 1 } }
    s1

/-- The build ends (R88): a valid bank with mesh and patches, or a code and index. It pauses while tier 1 is shed (R89); while no
render rate is in force no tier is shed, and it completes. [DESIGN CHOICE, unsafe: log entry 147] -/
def Scene.buildDone (s : State) : State :=
  match s.scene.build with
  | none => s
  | some (b, mode) =>
    if s.budget.admitted < 1 ∧ s.rateOn then s
    else
      let s0 := { s with scene := { s.scene with build := none } }
      match Layout.build s b mode with
      | .inl (code, idx) => (s0.wr Reg.sceneLayoutStatus (w32 (at_ 16 idx + at_ 8 code))).irq Scene.page 1
      | .inr l =>
        let s1 := Layout.storePatches (Mesh.store s0 b l) b l
        let s2 := { s1 with scene := { s1.scene with validA := s1.scene.validA || b = 0, validB := s1.scene.validB || b = 1 } }
        (s2.wr Reg.sceneLayoutStatus (s2.rd Reg.sceneLayoutStatus &&& 0xFFFF0000)).irq Scene.page 0

/-- A healing rebuild completes; its mesh waits for the next grid point (R98). While no render rate is in force no tier is shed,
and it completes as a build does. [DEDUCED, unsafe: log entry 41; DESIGN CHOICE, unsafe: log entry 147] -/
def Scene.rebuildDone (s : State) : State :=
  if s.scene.rebuild ∧ (1 ≤ s.budget.admitted ∨ !s.rateOn) then
    let b := Scene.layoutBank s
    let u := Scene.unavailList s
    let m := Mesh.compute s b ((Layout.presentList s b).filter (fun j => !u.contains j))
    { s with scene := { s.scene with rebuild := false, rebuiltWait := some (m, u) } }
  else s

/-- A healing event: the solve of the next grid point heals, and a rebuild that has ended but is not in use yet is dropped
(R96 to R99). [DEDUCED, unsafe: log entry 41] -/
def Scene.healEvent (s : State) : State := { s with scene := { s.scene with healPending := true, rebuiltWait := none } }

/-- A change from `s` to `s'` is a healing event where the availability of some speaker differs (R96). -/
def Scene.healIfChanged (s s' : State) : State :=
  if (List.range 512).any (fun j => Scene.unavailable s j != Scene.unavailable s' j) then Scene.healEvent s' else s'

end Sys2Proof.Machine
end

