-- ==== Sys2Proof/Machine/Warp.lean ====
section
/-!
DEFINITION. The Warp render matrix (R137 to R156): node trajectories, loads, direct posts, the column sum and the fade.
-/
namespace Sys2Proof.Machine

/-- Page, and default of a node: gain, target and ramp all zero (R137). -/
def Warp.page : Nat := 0x52
def Warp.nodeDefault (_ : Nat) : Ramp := {}
def Warp.rowDefault (_ : Nat) : Nat × Nat := (0, 0)

/-- Node (i, j). -/
def Warp.node (s : State) (i j : Nat) : Ramp := Tab.get Warp.nodeDefault s.warp.nodes (512 * i + j)

def Warp.setNode (s : State) (i j : Nat) (r : Ramp) : State :=
  { s with warp := { s.warp with nodes := Tab.set Warp.nodeDefault s.warp.nodes (512 * i + j) r } }

/-- Columns of row `i` that hold anything. -/
def Warp.rowCols (s : State) (i : Nat) : List Nat :=
  ((Tab.keys s.warp.nodes).filter (fun k => k / 512 = i)).map (· % 512)

/-- A node re-aimed at `L` toward `t` (R141): one whose gain already equals the target does not change. -/
def Warp.aimNode (r : Ramp) (l h : Nat) (t : Int) : Ramp :=
  if r.at l = t then Ramp.const t else r.aim l h t

/-- A load on row `i` at `L` with end frame `h`: the listed nodes take new targets, and every node of the row is re-aimed
(R141, R143). -/
def Warp.load (s : State) (i : Nat) (targets : List (Nat × Int)) (l h : Nat) : State :=
  let cols := (Warp.rowCols s i ++ targets.map (·.1)).dedup
  let s1 := cols.foldl (fun s j =>
    let r := Warp.node s i j
    let t := ((targets.find? (fun p => p.1 = j)).map (·.2)).getD r.v1
    Warp.setNode s i j (Warp.aimNode r l h t)) s
  { s1 with warp := { s1.warp with rows := Tab.set Warp.rowDefault s1.warp.rows i (l, h) } }

/-- A Panner load of the row: every column takes a target, the unlisted ones zero (R145). -/
def Warp.loadAll (s : State) (i : Nat) (targets : List (Nat × Int)) (l h : Nat) : State :=
  let rest := (Warp.rowCols s i).filter (fun j => !(targets.any (fun p => p.1 = j)))
  Warp.load s i (targets ++ rest.map (fun j => (j, 0))) l h

/-- The row is a direct row by the effective WARP_ROW_DIRECT (R147). -/
def Warp.isDirect (s : State) (i : Nat) : Bool := s.efB (Reg.warpRowDirect (i / 32)) (i % 32)

/-- A post of `gain` to node (row, col) takes effect at tick `l` (R148, R149). While no render rate is in force it completes
as a step (R601). -/
def Warp.applyPost (s : State) (row col : Nat) (gain : Int) (l : Nat) : State :=
  if !Warp.isDirect s row || s.objCapCfg ≤ row || s.outCapCfg ≤ col then
    ((s.count Reg.warpDwDiscards 1).irq Warp.page 1).fault' Warp.page 0x80
  else if s.rateOn then
    let hrow := (Tab.get Warp.rowDefault s.warp.rows row).2
    let h := max (l + s.ms (s.efF Reg.warpRampTime 9 0)) (if l < hrow then hrow else l)
    Warp.load s row [(col, gain)] l h
  else Warp.setNode s row col (Ramp.const gain)

/-- The Warp takes a direct post into its queue (or acts at once while no rate is in force). [DEDUCED, safe: log entry 45] -/
def Warp.enqueue (s : State) (p : Post) : State :=
  if s.rateOn then { s with warp := { s.warp with posts := s.warp.posts ++ [p] } }
  else Warp.applyPost s p.a p.b (signed 32 p.c) s.clk.frame

/-- A direct write that arrives while the Warp still takes the previous post: it holds the Weave (R147). [DEDUCED, safe: log entry 45] -/
def Warp.hold (s : State) (gain : Word) : State :=
  if !s.pageUp Warp.page then s.discard
  else { s with warp := { s.warp with held := some { ready := s.postReady, a := s.rdF Reg.warpDwNode 25 16,
                                                     b := s.rdF Reg.warpDwNode 8 0, c := gain.toNat } } }

/-- The held write is accepted. [DEDUCED, safe: log entry 45] -/
def Warp.accept (s : State) : State :=
  match s.warp.held with
  | none => s
  | some p => Warp.enqueue { s with warp := { s.warp with held := none } } { p with ready := s.postReady }

/-- A direct write to WARP_DW_GAIN (R147): the node is the one WARP_DW_NODE names at the write. The Weave stands still while a write
is held, so that one is accepted first. [DEDUCED, safe: log entry 45] -/
def Warp.post (s0 : State) (gain : Word) : State :=
  if !s0.pageUp Warp.page then s0.discard
  else
    let s := Warp.accept s0
    Warp.enqueue s { ready := s.postReady, a := s.rdF Reg.warpDwNode 25 16, b := s.rdF Reg.warpDwNode 8 0, c := gain.toNat }

/-- Direct posts whose tick this is take effect in posting order (R147, R602). -/
def Warp.tickPosts (s : State) (n : Nat) : State :=
  let due := s.warp.posts.filter (fun p => p.ready ≤ s.clk.mono)
  let s1 := { s with warp := { s.warp with posts := s.warp.posts.filter (fun p => !(p.ready ≤ s.clk.mono)) } }
  due.foldl (fun s p => Warp.applyPost s p.a p.b (signed 32 p.c) n) s1

/-- A change of enable at frame `n` starts the output fade (R152); with no rate in force it takes its end value (R601). -/
def Warp.setEnable (s : State) (b : Bool) (n : Nat) : State :=
  let t := if b then one30 else 0
  if s.rateOn then
    { s with warp := { s.warp with fade := s.warp.fade.aim n (n + s.ms (s.efF Reg.warpRampTime 9 0)) t, fadeBusy := true } }
  else { s with warp := { s.warp with fade := Ramp.const t, fadeBusy := true } }

/-- The fade has reached its end value: fade_done (R152, R155). -/
def Warp.fadeDone (s : State) : State :=
  if s.warp.fadeBusy ∧ s.warp.fade.h ≤ s.clk.frame then
    ({ s with warp := { s.warp with fadeBusy := false } }).irq Warp.page 2
  else s

/-- The column sum A_j of frame `n` in units of 2^-62, over the rows in ascending order (R138). -/
def Warp.columnSum (s : State) (x : Nat → Int) (j n : Nat) : Int :=
  s.warp.nodes.foldl (fun a e =>
    if e.1 % 512 = j ∧ e.1 / 512 < s.objCap then a + 2 * (e.2.at n * x (e.1 / 512)) else a) 0

/-- Rounding of the faded column sum to Q1.31 before saturation (R139). -/
def Warp.roundColumn (a f : Int) : Int := (a * f + 2 ^ 60).fdiv (2 ^ 61)

/-- Step 4 of R25 in frame `n`: every present column, with clips counted (R139, R140). -/
def Warp.run (s : State) (x : Nat → Int) (n : Nat) : State :=
  if !s.pageUp Warp.page then { s with warp := { s.warp with y := [] } }
  else
    let f := s.warp.fade.at n
    let cols := ((Tab.keys s.warp.nodes).map (· % 512)).dedup.filter (· < s.outCap)
    let raw := cols.map (fun j => (j, Warp.roundColumn (Warp.columnSum s x j n) f))
    let y := raw.foldl (fun t p => Tab.set (fun _ => 0) t p.1 (satS 32 p.2)) []
    let clipped := (raw.filter (fun p => satClips 32 p.2)).map (·.1)
    let s1 := { s with warp := { s.warp with y := y } }
    if clipped.isEmpty then s1
    else
      let s2 := clipped.foldl (fun s j =>
        s.wr (Reg.warpClipMap (j / 32)) (setBit (s.rd (Reg.warpClipMap (j / 32))) (j % 32) true)) s1
      (s2.count Reg.warpClipCount clipped.length).irq Warp.page 0

/-- y_j of the last frame. -/
def Warp.out (s : State) (j : Nat) : Int := Tab.get (fun _ => 0) s.warp.y j

/-- The soft reset's effect on the matrix at its tick (R153); posts made since the reset stay. -/
def Warp.resetMatrix (s : State) : State :=
  ({ s with warp := { posts := s.warp.posts, held := s.warp.held } } : State).clearMem (winBase Warp.page) (winBase Warp.page + 0x80800)

/-- A soft reset: registers now, the matrix at the next tick (R56, R153). -/
def Warp.softReset (s : State) : State :=
  let s1 := { s with warp := { s.warp with posts := [], held := none, resetDue := true } }
  if s.rateOn then s1 else Warp.resetMatrix s1

def Warp.tickReset (s : State) : State := if s.warp.resetDue then Warp.resetMatrix s else s

/-- Second S of a rate change: every running ramp completes, and rows and columns above a capacity that the new rate reduces are loaded
toward zero (R145, R154). `newCode` is in force, and `n` is the first frame at it. -/
def Warp.rateChange (s : State) (old newCode n : Nat) : State :=
  let s1 := { s with warp := { s.warp with
    nodes := Tab.mapVals Warp.nodeDefault (fun _ r => r.finish) s.warp.nodes
    rows := [], fade := s.warp.fade.finish } }
  let oc := Machine.objCap s.variant newCode
  let cc := Machine.outCap s.variant newCode
  let h := n + msFrames (s.efF Reg.warpRampTime 9 0) newCode
  let was := if old = 0 then 2 else old
  let rowOut := fun (i : Nat) => decide (oc < Machine.objCap s.variant was ∧ oc ≤ i)
  let colOut := fun (j : Nat) => decide (cc < Machine.outCap s.variant was ∧ cc ≤ j)
  let rows := ((Tab.keys s1.warp.nodes).map (· / 512)).dedup
  if newCode = 0 then s1
  else rows.foldl (fun s i =>
    let cols := (Warp.rowCols s i).filter (fun j => rowOut i || colOut j)
    if cols.isEmpty then s else Warp.load s i (cols.map (fun j => (j, 0))) n h) s1

def Warp.vectorAddr (bank v j : Nat) : Nat := winBase Warp.page + bank * 0x40000 + 2048 * v + 4 * j
def Warp.indexAddr (bank i : Nat) : Nat := winBase Warp.page + 0x80000 + bank * 0x400 + i

/-- The bed-map vector of object `i` in the bank in force, as targets (R126, R151). -/
def Warp.bedTargets (s : State) (i : Nat) : List (Nat × Int) :=
  let bank := s.efF Reg.warpBanks 0 0
  let v := (s.ld8 (Warp.indexAddr bank i)).toNat
  if v < 128 then
    ((List.range 512).map (fun j => (j, s.ldS32 (Warp.vectorAddr bank v j)))).filter (fun p => p.2 != 0)
  else []

/-- An index byte that is neither a vector nor 0xFF (R151). -/
def Warp.badIndex (b : Nat) : Bool := decide (128 ≤ b ∧ b ≤ 254)

/-- Own-range checks of a pending set (R52 first stage; R155). -/
def Warp.check1 (f : Nat → Word) : Option Nat := if 1000 < fld (f 0x48) 9 0 then some 0x01 else none

/-- Checks on device state (R52 second stage; R151): a commit that changes the bank to one with a bad index table.
[DESIGN CHOICE, unsafe: log entry 154] -/
def Warp.check2 (s : State) (old new : Nat → Word) : Option Nat :=
  if new 0x44 ≠ old 0x44 then
    let bank := fld (new 0x44) 0 0
    if (List.range 1024).any (fun i => Warp.badIndex (s.ld8 (Warp.indexAddr bank i)).toNat) then some 0x81 else none
  else none

/-- A word written to the array window at offset `o` (R151, R156). -/
def Warp.winWrite (s : State) (o : Nat) (w : Word) : State :=
  let bank := s.efF Reg.warpBanks 0 0
  if o < 0x80000 then s.st32 (winBase Warp.page + o) w
  else if o < 0x80800 then
    if (o - 0x80000) / 0x400 = bank ∧ (leBytes 4 w.toNat).any (fun b => Warp.badIndex b.toNat) then
      s.fault' Warp.page 0x81
    else s.st32 (winBase Warp.page + o) w
  else if 0x90000 ≤ o ∧ o < 0x92000 ∨ 0xA0000 ≤ o ∧ o < 0xA2000 then s.discard
  else s

/-- A word read from the computed areas of the window (R156). -/
def Warp.winRead (s : State) (o : Nat) : Word :=
  let n := s.clk.frame
  if 0x90000 ≤ o ∧ o < 0x92000 then
    let h := (Tab.get Warp.rowDefault s.warp.rows ((o - 0x90000) / 8)).2
    if o % 8 = 0 then w32 h
    else if n < h then w32 (2 ^ 31 + (h - n) % 2 ^ 20) else 0
  else if 0xA0000 ≤ o ∧ o < 0xA2000 then
    let r := Warp.node s (s.rdF Reg.warpViewRow 9 0) ((o - 0xA0000) / 16)
    if o % 16 = 0 then w32 (unsigned 32 (r.at n))
    else if o % 16 = 4 then
      if r.runs n ∧ r.s < r.h then w32 (unsigned 32 (Int.tdiv (r.v1 - r.v0) ((r.h - r.s : Nat) : Int))) else 0
    else if o % 16 = 8 then w32 (unsigned 32 r.v1)
    else 0
  else if o < 0x80800 then s.ld32 (winBase Warp.page + o)
  else 0

end Sys2Proof.Machine
end

