-- ==== Sys2Proof/Machine/Scene.lean ====
section
/-!
DEFINITION. Objects, records, the Panner's solve and the Felot stream (R100 to R111, R119 to R134).
-/
namespace Sys2Proof.Machine

def Scene.objDefault (_ : Nat) : ObjPan := {}
def Scene.obj (s : State) (i : Nat) : ObjPan := Tab.get Scene.objDefault s.scene.objs i
def Scene.setObj (s : State) (i : Nat) (o : ObjPan) : State :=
  { s with scene := { s.scene with objs := Tab.set Scene.objDefault s.scene.objs i o } }

def Pos.p3 (p : Pos) : P3 := (p.x, p.y, p.z)
def Pos.of (p : P3) : Pos := { x := p.1, y := p.2.1, z := p.2.2 }

/-! ### Configuration entries (R101) -/

def ObjCfg.addr (b i : Nat) : Nat := Scene.win + 0x52000 + b * 0x8000 + 32 * i
def ObjCfg.word (s : State) (b i k : Nat) : Word := s.ld32 (ObjCfg.addr b i + 4 * k)
def ObjCfg.enable (s : State) (b i : Nat) : Bool := bit (ObjCfg.word s b i 0) 0
def ObjCfg.bed (s : State) (b i : Nat) : Bool := bit (ObjCfg.word s b i 0) 1
def ObjCfg.pOne (s : State) (b i : Nat) : Bool := bit (ObjCfg.word s b i 0) 2
def ObjCfg.delayMode (s : State) (b i : Nat) : Nat := fld (ObjCfg.word s b i 0) 5 4
def ObjCfg.distLaw (s : State) (b i : Nat) : Nat := fld (ObjCfg.word s b i 0) 7 6
def ObjCfg.subs (s : State) (b i : Nat) : Nat := fld (ObjCfg.word s b i 0) 12 8
def ObjCfg.bedSpeaker (s : State) (b i : Nat) : Nat := fld (ObjCfg.word s b i 1) 15 0
def ObjCfg.expectMs (s : State) (b i : Nat) : Nat := fld (ObjCfg.word s b i 1) 31 16
def ObjCfg.rRef (s : State) (b i : Nat) : Nat := (ObjCfg.word s b i 2).toNat
def ObjCfg.rolloff (s : State) (b i : Nat) : Nat := fld (ObjCfg.word s b i 3) 15 0
def ObjCfg.kAir (s : State) (b i : Nat) : Nat := (ObjCfg.word s b i 4).toNat

/-- An entry that the range checks of R101 accept. Bit 3 of the first word, which the table does not list, counts as reserved.
[DESIGN CHOICE, unsafe: log entry 148] -/
def ObjCfg.ok (s : State) (b i : Nat) : Bool :=
  let bs := ObjCfg.bedSpeaker s b i
  decide (ObjCfg.delayMode s b i ≠ 3 ∧ ObjCfg.distLaw s b i ≠ 3 ∧ ObjCfg.subs s b i ≤ 16 ∧ (bs ≤ 511 ∨ bs = 0xFFFF) ∧
    ObjCfg.expectMs s b i ≤ 1000) &&
  ObjCfg.word s b i 0 &&& 0xFFFFE008 == 0 && fld (ObjCfg.word s b i 3) 31 16 == 0 &&
  ObjCfg.word s b i 5 == 0 && ObjCfg.word s b i 6 == 0 && ObjCfg.word s b i 7 == 0

/-- The lowest object whose entry is out of range. -/
def ObjCfg.firstBad (s : State) (b : Nat) : Option Nat := (List.range 1024).find? (fun i => !ObjCfg.ok s b i)

/-! ### Records (R102, R103, R120) -/

def ObjRecord.parse (l : List Byte) : ObjRecord :=
  { obj := ofLe (slice l 0 2), flags := ofLe (slice l 2 2)
    pos := { x := signed 32 (ofLe (slice l 4 4)), y := signed 32 (ofLe (slice l 8 4)), z := signed 32 (ofLe (slice l 12 4)) }
    gain := signed 16 (ofLe (slice l 16 2))
    spreadW := ofLe (slice l 18 2), spreadD := ofLe (slice l 20 2), spreadH := ofLe (slice l 22 2)
    snap := ofLe (slice l 24 2), zone := ofLe (slice l 26 1), prio := ofLe (slice l 27 1) }

/-- Reserved bits of the record are zero (R102, R103). -/
def ObjRecord.reservedZero (l : List Byte) : Bool :=
  decide (ofLe (slice l 2 2) < 128) && decide (ofLe (slice l 28 4) = 0) && !(ofLe (slice l 26 1)).testBit 6

/-- R103 accepts the record at the given object capacity. -/
def ObjRecord.ok (cap : Nat) (l : List Byte) : Bool :=
  let r := ObjRecord.parse l
  decide (r.obj < cap ∧ r.snap ≤ 46080) && ObjRecord.reservedZero l

/-- A record acts on the object's state (R102, R122, R123); `f` is its presentation frame. A jump without a valid position leaves
the position history as it is. [DESIGN CHOICE, unsafe: log entry 149] -/
def ObjPan.applyRecord (o : ObjPan) (r : ObjRecord) (f : Nat) : ObjPan :=
  let v := fun i => r.flags.testBit i
  let o1 : ObjPan := if v 1 then { o with gain := r.gain } else o
  let o2 : ObjPan := if v 2 then { o1 with spreadW := r.spreadW, spreadD := r.spreadD, spreadH := r.spreadH } else o1
  let o3 : ObjPan := if v 3 then { o2 with snap := r.snap } else o2
  let o4 : ObjPan := if v 4 then { o3 with zone := r.zone } else o3
  let o5 : ObjPan := if v 5 then { o4 with prio := r.prio } else o4
  let o6 : ObjPan := if v 6 then { o5 with jump := true } else o5
  if v 0 then
    let prev := if v 6 then none
      else match o.last with
        | some (p, f0) => if o.cleared then none else if f0 = f then o.prev else some (p, f0)
        | none => none
    { o6 with last := some (r.pos, f), prev := prev, cleared := false, late := false, held := false }
  else o6

/-- The order in which a solve applies records (R120): no frame first, then ascending frame, Felot before register, then order. -/
def QueuedRecord.le (a b : QueuedRecord) : Bool :=
  match a.f, b.f with
  | none, none => decide (a.order ≤ b.order)
  | none, some _ => true
  | some _, none => false
  | some x, some y =>
    decide (x < y) || (x == y && (decide (b2n a.t.isNone < b2n b.t.isNone) ||
      (a.t.isNone == b.t.isNone && decide (a.order ≤ b.order))))

/-- A queued record is in force at grid point `n` (R120). -/
def QueuedRecord.due (n : Nat) (q : QueuedRecord) : Bool :=
  match q.f with | none => q.t.isNone | some f => decide (f ≤ n)

/-- The solve at grid point `n` uses a queued record: on an active that has sealed the frame, only what it has named in it (R547). -/
def Scene.uses (s : State) (n : Nat) (q : QueuedRecord) : Bool :=
  q.due n && !(s.hoop.state == 5 && s.hoop.link && s.hoop.lastSeal == some n && decide (s.hoop.sealOrder ≤ q.order))

/-- Every record in force at grid point `n` is applied (R120). A record without a frame takes the solve's own. -/
def Scene.applyRecords (s : State) (n : Nat) : State :=
  let due := s.scene.queue.filter (Scene.uses s n)
  let rest := s.scene.queue.filter (fun q => !Scene.uses s n q)
  (sortBy QueuedRecord.le due).foldl (fun s q =>
    Scene.setObj s q.record.obj ((Scene.obj s q.record.obj).applyRecord q.record (q.f.getD n)))
    { s with scene := { s.scene with queue := rest } }

/-- Queue a record (register path or Felot). -/
def Scene.enqueue (s : State) (r : ObjRecord) (f t : Option Nat) (msg : Nat) : State :=
  { s with scene := { s.scene with queue := s.scene.queue ++ [{ record := r, f := f, t := t, order := s.scene.order, msg := msg }],
                                   order := s.scene.order + 1 } }

/-- The record in SCENE_REC0–7 is posted at frame `f` (R133); with no render rate in force it has none (R120). [DEDUCED, unsafe: log entry 40] -/
def Scene.recordPost (s : State) (f : Nat) : State :=
  let l := (List.range 8).flatMap (fun k => leBytes 4 (s.rd (Reg.sceneRec k)).toNat)
  if !ObjRecord.ok s.objCapCfg l then s.fault' Scene.page 0x82
  else Scene.enqueue s (ObjRecord.parse l) (if s.rateOn then some f else none) none s.scene.order

/-! ### Lateness (R123) -/

/-- The frame at which object `i` becomes late, if it expects records. [DEDUCED, unsafe: log entry 42] -/
def Scene.lateFrame (s : State) (i : Nat) : Option Nat :=
  let e := ObjCfg.expectMs s s.scene.cfgBank i
  match (Scene.obj s i).last with
  | some (_, f) => if e = 0 then none else some (f + e * rateHz s.clk.rate / 1000)
  | none => none

/-- F50: frames in 50 ms, rounded down. [DEDUCED, unsafe: log entry 42] -/
def Scene.f50 (s : State) : Nat := 50 * rateHz s.clk.rate / 1000

/-- DEDUCED, unsafe: log entry 42. -/
def Scene.objectLate (s : State) (i : Nat) : State :=
  match Scene.lateFrame s i with
  | some f => if f ≤ s.clk.frame ∧ !(Scene.obj s i).late ∧ s.rateOn then
      (Scene.setObj s i { Scene.obj s i with late := true }).irq Scene.page 4 else s
  | none => s

/-- DEDUCED, unsafe: log entry 42. -/
def Scene.objectHold (s : State) (i : Nat) : State :=
  match Scene.lateFrame s i with
  | some f => if f + Scene.f50 s < s.clk.frame ∧ (Scene.obj s i).late ∧ !(Scene.obj s i).held ∧ s.rateOn then
      (Scene.setObj s i { Scene.obj s i with held := true }).irq Scene.page 5 else s
  | none => s

/-- One coordinate k frames beyond f_last at the velocity (p_last − p_prev)/(f_last − f_prev) (R122, R123), rounded to the
position's unit and held in its 32 bits. [DEDUCED, unsafe: log entry 150] -/
def Scene.extrapolate (p q : Int) (df : Int) (k : Nat) : Int :=
  satS 32 (p + (if df < 0 then roundDiv (-((p - q) * k)) df.natAbs else roundDiv ((p - q) * k) df.natAbs))

/-- The object's position at grid point `b` (R123). -/
def Scene.posAt (s : State) (i b : Nat) : Pos :=
  let o := Scene.obj s i
  match o.last with
  | none => {}
  | some (p, f) =>
    match Scene.lateFrame s i with
    | none => p
    | some fl =>
      if b ≤ fl then p
      else match o.prev with
        | none => p
        | some (q, g) =>
          let k := min (b - fl) (Scene.f50 s)
          let df : Int := (f : Int) - g
          { x := Scene.extrapolate p.x q.x df k, y := Scene.extrapolate p.y q.y df k, z := Scene.extrapolate p.z q.z df k }

/-! ### The panning law (R104 to R111) -/

/-- Offsets of the sub-sources in half units (R107). -/
def Pan.offsets : List (Int × Int × Int) :=
  [(-2, 0, -1), (2, 0, -1), (0, -2, 1), (0, 2, 1), (-1, -1, 0), (1, -1, 0), (-1, 1, 0), (1, 1, 0),
   (0, 0, 2), (0, 0, -2), (-2, -2, -2), (2, 2, -2), (-2, 2, 2), (2, -2, 2), (-2, 0, 2), (2, 0, 2)]

/-! The Panner's sequence of binary32 operations: R106 fixes that there is one and R32 the order of its sums; the model takes the
operations in the order in which R94, R104 and R87 write their formulas. [DESIGN CHOICE, unsafe: log entry 37] -/

/-- Gains by speaker index, nothing listed where zero. -/
abbrev Gains := Tab Fp
def Gains.zero (_ : Nat) : Fp := .zero

/-- g = u^T·L^-1 for a direction and a triangle of directions (R94): the columns of L^-1 are the cross products of the rows over
the determinant. [DESIGN CHOICE, unsafe: log entry 37] -/
def Pan.comps (u : V3) (t : T3) : V3 :=
  let l1 := V3.dir f32 t.1; let l2 := V3.dir f32 t.2.1; let l3 := V3.dir f32 t.2.2
  let d := V3.det f32 l1 l2 l3
  (Fp.div f32 (V3.dot f32 u (V3.cross f32 l2 l3)) d, Fp.div f32 (V3.dot f32 u (V3.cross f32 l3 l1)) d,
   Fp.div f32 (V3.dot f32 u (V3.cross f32 l1 l2)) d)

def Fp.min (a b : Fp) : Fp := if Fp.lt b a then b else a

/-- The triangle of a direction and its raw gains (R94): the first whose components are all at least −2^−20, else the one whose
smallest component is largest. -/
def Pan.triangle (corners : Tri → T3) (mesh : List Tri) (u : V3) : Option (Nat × Tri × V3) :=
  let c := mesh.zipIdx.map (fun p => (p.2, p.1, Pan.comps u (corners p.1)))
  let low := fun (e : Nat × Tri × V3) => Fp.min (Fp.min e.2.2.1 e.2.2.2.1) e.2.2.2.2
  match c.find? (fun e => [e.2.2.1, e.2.2.2.1, e.2.2.2.2].all (Fp.le (.num (-1) (-20)))) with
  | some e => some e
  | none => c.foldl (fun (m : Option (Nat × Tri × V3)) e => match m with
      | none => some e
      | some x => if Fp.lt (low x) (low e) ∨ low x = .nan then some e else some x) none

/-- ‖g‖_p over the entries, summed in ascending index (R104). -/
def Gains.norm (pOne : Bool) (g : Gains) : Fp :=
  if pOne then Fp.sum f32 (g.map (fun e => e.2.abs)) else Fp.sqrt f32 (Fp.sum f32 (g.map (fun e => Fp.mul f32 e.2 e.2)))

/-- g / ‖g‖_p; a vector that holds nothing stays so. -/
def Gains.normalise (pOne : Bool) (g : Gains) : Gains :=
  let r := Gains.norm pOne g
  if r.isZero then g else Tab.mapVals Gains.zero (fun _ v => Fp.div f32 v r) g

/-- Raw gains of one sub-source on the mesh, negative components taken as zero (R104, R105). -/
def Pan.source (corners : Tri → T3) (mesh : List Tri) (u : V3) : Gains :=
  match Pan.triangle corners mesh u with
  | none => []
  | some (_, t, g) =>
    [(t.1, g.1), (t.2.1, g.2.1), (t.2.2, g.2.2)].foldl (fun acc e => Tab.set Gains.zero acc e.1 e.2.maxZero) []

/-- Step 5 of R104: the sum of the normalised sub-sources, in ascending sub-source, normalised. The weight 1/n of R107 cancels. -/
def Pan.combine (pOne : Bool) (srcs : List Gains) : Gains :=
  Gains.normalise pOne (srcs.foldl (fun acc g =>
    (Gains.normalise pOne g).foldl (fun acc e => Tab.set Gains.zero acc e.1 (Fp.add f32 (Tab.get Gains.zero acc e.1) e.2)) acc) [])

/-- The linear value of a neighbour gain (R13, R87): 10^(g/2560), zero for mute. -/
def Pan.nbrLin (g : Int) : Fp := if g = -32768 then .zero else fxToFp f32 (fxPow10 g 2560)

/-- A sub-source's place (R107): the object's position plus the offset factors, in half units, times half the spread in 1/256 m. -/
def Pan.subSource (p : P3) (f : Int × Int × Int) (w d h : Nat) : P3 := (p.1 + f.1 * w * 64, p.2.1 + f.2.1 * d * 64, p.2.2 + f.2.2 * h * 64)

/-- The object's zone excludes real speaker `j` (R109). -/
def Pan.zoneExcludes (s : State) (zone j : Nat) : Bool :=
  zone.testBit 7 &&
  (s.ld8 (Scene.win + 0x50000 + s.efF Reg.sceneBanks 1 1 * 0x1000 + 64 * (zone % 64) + j / 8)).getLsbD (j % 8)

/-- Real speakers that may be named for an object (R108, R109). -/
def Pan.candidates (s : State) (zone : Nat) : List Nat :=
  ((Layout.presentList s (Scene.layoutBank s)).filter (· < 512)).filter
    (fun j => !Scene.unavailable s j && !Pan.zoneExcludes s zone j)

/-- The dot product of the directions of a point and a speaker: larger at a smaller angle. -/
def Pan.cosTo (s : State) (u : V3) (j : Nat) : Fp := V3.dot f32 u (V3.dir f32 (Layout.pos s (Scene.layoutBank s) j))

/-- The candidate at the smallest angle, the lowest index winning a tie (R108, R109). -/
def Pan.nearest (s : State) (l : List Nat) (u : V3) : Option Nat :=
  (l.foldl (fun (m : Option (Nat × Fp)) j =>
    let a := Pan.cosTo s u j
    match m with | none => some (j, a) | some x => if Fp.lt x.2 a then some (j, a) else some x) none).map (·.1)

/-- cos of a snap angle in 1/256°. -/
def Pan.snapCos (snap : Nat) : Fp := fxToFp f32 (fxCosR (fxPi * snap / 46080))

/-- A gain rounded to Q2.30; the flag tells of a saturation (R106). -/
def Fp.toQ30 (g : Fp) : Int × Bool := let v := Fp.toFix 30 g; (satS 32 v, satClips 32 v)

/-- Zone exclusion and healing fallback of step 6 (R109). -/
def Pan.exclude (s : State) (zone : Nat) (pOne : Bool) (fallback : List Nat) (u : V3) (g : Gains) : Gains :=
  let out := fun j => decide (j < 512) && (Pan.zoneExcludes s zone j || fallback.contains j)
  if g.any (fun e => !e.2.isZero && out e.1) then
    let rest := g.filter (fun e => !e.2.isZero && !out e.1)
    if rest = [] then
      match Pan.nearest s (Pan.candidates s zone) u with
      | some j => [(j, .one)]
      | none => []
    else Gains.normalise pOne rest
  else g

/-- Virtual handling of step 7 (R87, R110): real gains, with the shares of redistributing virtual speakers added. -/
def Pan.virtuals (s : State) (zone : Nat) (g : Gains) : Gains :=
  let b := Scene.layoutBank s
  (g.filter (fun e => decide (512 ≤ e.1) && !e.2.isZero && Layout.redistribute s b e.1)).foldl (fun acc e =>
    (List.range 4).foldl (fun acc m =>
      let j := Layout.nbr s b e.1 m
      if decide (j < 512) && Layout.present s b j && !Scene.unavailable s j && !Pan.zoneExcludes s zone j then
        Tab.set Gains.zero acc j (Fp.add f32 (Tab.get Gains.zero acc j) (Fp.mul f32 e.2 (Pan.nbrLin (Layout.nbrGain s b e.1 m))))
      else acc) acc) (g.filter (fun e => decide (e.1 < 512)))

/-- The solve of a point (R104): 512 targets, the sub-source-0 triangle, snap, saturation. `o` gives snap, zone and spread, and `n`
is the number of sub-sources. -/
def Pan.solve (s : State) (mesh : List Tri) (fallback : List Nat) (o : ObjPan) (pOne : Bool) (n : Nat) (pos : P3) :
    List (Nat × Int) × Nat × Bool × Bool :=
  let corners := Layout.corners s (Scene.layoutBank s)
  let u := V3.dir f32 pos
  let cand := if o.snap = 0 then [] else
    (Pan.candidates s o.zone).filter (fun j => Fp.le (Pan.snapCos o.snap) (Pan.cosTo s u j))
  let (g, tri, snapped) : Gains × Nat × Bool := match Pan.nearest s cand u with
    | some j => ([(j, .one)], 0, true)
    | none =>
      let srcs := if 2 ≤ n ∧ (o.spreadW, o.spreadD, o.spreadH) ≠ (0, 0, 0) then
          (Pan.offsets.take n).map (fun f => V3.dir f32 (Pan.subSource pos f o.spreadW o.spreadD o.spreadH))
        else [u]
      (Pan.combine pOne (srcs.map (Pan.source corners mesh)), ((Pan.triangle corners mesh (srcs.headD u)).map (·.1)).getD 0, false)
  let g2 := Pan.virtuals s o.zone (Pan.exclude s o.zone pOne fallback u g)
  let q := g2.map (fun e => (e.1, e.2.toQ30))
  ((q.map (fun e => (e.1, e.2.1))).filter (fun e => e.2 != 0), tri, snapped, q.any (fun e => e.2.2))

/-! ### Front-end targets (R113 to R115) -/

/-- Distance gain in Q2.30 (R113) at distance r (fixed point, 1/65,536 m): (r_ref/r)^(k/256), or 10^(−rolloff/256·(r − r_ref)/20);
zero beyond 144 dB. The real value is rounded once. [DEDUCED, unsafe: log entry 39] -/
def Obj.distGain (law rolloff rRef : Nat) (p : P3) : Int :=
  let r := P3.dist p
  let ref := (rRef : Int) * fxOne
  if law = 0 ∨ rRef = 0 ∨ r ≤ ref then one30
  else
    -- the natural logarithm of the gain
    let x := if law = 1 then -(((rolloff : Int) * fxLnRat r.toNat ref.toNat).fdiv 256)
      else -((((rolloff : Int) * (r - ref)).fdiv (256 * 65536)) * fxLn10).fdiv (20 * fxOne)
    if x < -((144 * fxLn10).fdiv 20) then 0 else fxTo 30 (fxExp x)

/-- Corner frequency (R114): k_air/r, clamped to 20 Hz and 0.45 Fr, rounded to binary32. [DEDUCED, unsafe: log entry 39] -/
def Obj.airCorner (kAir : Nat) (p : P3) (rate : Nat) : Fp :=
  let fc := fxToFp f32 (((kAir : Int) * 65536 * fxOne * fxOne).fdiv (P3.dist p))
  let hi := Fp.ofRat f32 (45 * rateHz rate : Nat) 100 0
  if Fp.lt fc (Fp.ofInt f32 20) then Fp.ofInt f32 20 else if Fp.lt hi fc then hi else fc

/-- Filter coefficients b0 b1 b2 a1 a2 in Q3.29 from a corner frequency (R114): binary32 operations in the order of the formulas,
tan, π and √2 rounded to binary32; a corner of zero is the identity set. [DESIGN CHOICE, unsafe: log entry 37] -/
def Obj.airCoefs (fc : Fp) (rate : Nat) : List Int :=
  if fc.isZero then [0x20000000, 0, 0, 0, 0]
  else
    let mul := Fp.mul f32; let add := Fp.add f32; let sub := Fp.sub f32
    let w := Fp.div f32 (mul (fxToFp f32 fxPi) fc) (Fp.ofInt f32 (rateHz rate))
    let k := fxToFp f32 (fxDiv (fxSinR w.toFx) (fxCosR w.toFx))
    let k2 := mul k k
    let rk := mul (fxToFp f32 (fxSqrt (2 * fxOne))) k
    let n := Fp.div f32 .one (add (add .one rk) k2)
    let two := Fp.ofInt f32 2
    let b0 := mul k2 n
    [b0, mul two b0, b0, mul (mul two (sub k2 .one)) n, mul (add (sub .one rk) k2) n].map (fun c => satS 32 (c.toFix 29))

/-- The delay target in 1/256 sample (R115): round(τ·Fr·256), clamped to 4 samples and 1 s; c in 1/256 m/s. The distance is the real
square root; τ·Fr·256 = (√d2 − ref)·Fr·256/(256·c). [DEDUCED, unsafe: log entry 39] -/
def Obj.delayTarget (mode rRef : Nat) (p : P3) (c rate : Nat) : Nat :=
  if mode = 0 then 0
  else
    let fr := rateHz rate
    let a := 256 * fr
    let ref : Int := if mode = 2 then (rRef : Int) else 0
    -- floor((2·a·(r − ref) + 256·c)/(2·256·c)), the root taken with its factor
    let x := ((Nat.sqrt (4 * a * a * P3.dist2 p) : Nat) : Int) - 2 * a * ref
    min (256 * fr) (max 1024 (if x < 0 then 0 else ((x + 256 * c).fdiv (512 * c)).toNat))

/-- One object's solve at grid point `n`: panning targets and front-end targets (R104, R112 to R116, R126). A bed object whose speaker
is unavailable is a point at the speaker's position, with no snap, zone or spread (R100); the front end of a bed object has gains only. -/
def Scene.solveObject (s : State) (mesh : List Tri) (fallback : List Nat) (limit i n : Nat) : State :=
  let b := s.scene.cfgBank
  let o := Scene.obj s i
  let en := ObjCfg.enable s b i
  if !en then s
  else
    let bedSp := ObjCfg.bedSpeaker s b i
    let isBed := ObjCfg.bed s b i
    let bedPoint := isBed && decide (bedSp < 512) && Scene.unavailable s bedSp
    let pos := if bedPoint then Pos.of (Layout.pos s (Scene.layoutBank s) bedSp) else Scene.posAt s i n
    let pOne := ObjCfg.pOne s b i
    let (gains, tri, snapped, sat) :=
      if bedPoint then Pan.solve s mesh fallback {} pOne 1 pos.p3
      else if isBed then ((if bedSp < 512 then [(bedSp, one30)] else Warp.bedTargets s i), 0, false, false)
      else Pan.solve s mesh fallback o pOne (min (ObjCfg.subs s b i) limit) pos.p3
    let rr := ObjCfg.rRef s b i
    let mode := if isBed then 0 else ObjCfg.delayMode s b i
    let kair := ObjCfg.kAir s b i
    let fc := if isBed ∨ kair = 0 then .zero else Obj.airCorner kair pos.p3 s.clk.rate
    let out : SolveOut :=
      { gains := gains, recGain := gainLin (min o.gain 3072), bed := isBed, enable := en, mode := mode, jump := o.jump
        distGain := if isBed then one30 else Obj.distGain (ObjCfg.distLaw s b i) (ObjCfg.rolloff s b i) rr pos.p3
        fc := fc, coef := Obj.airCoefs fc s.clk.rate
        delay := Obj.delayTarget mode rr pos.p3 (s.efF Reg.sceneSoundSpeed 16 0) s.clk.rate }
    let s1 := { s with scene := { s.scene with solved := Tab.set (fun _ => none) s.scene.solved i (some out) } }
    let s2 := Scene.setObj s1 i { o with solvedPos := pos, snapped := snapped, tri := tri, jump := false }
    if sat then s2.fault' Scene.page 0x84 else s2

/-- The sub-source limit of the admitted tier (R111). -/
def Scene.subLimitNow (s : State) : Nat := if s.budget.admitted < 3 then 4 else 16

/-- The solve interval N in frames (R119); 0 when solving is off. -/
def Scene.interval (s : State) : Nat := s.efF Reg.sceneSolvePeriod 4 0 * frameBase s.clk.rate

/-- A ramp window of `ms` opens when the solved targets load (R97, R98, R111, R121). -/
def Scene.openWindow (s : State) (ms : Nat) : State :=
  { s with scene := { s.scene with windowNext := some (max (s.scene.windowNext.getD 0) (s.ms ms)) } }

/-- The mesh work of a grid point before the solve (R97 to R99): a rebuilt mesh that omits exactly the unavailable speakers comes
into use, one that no longer fits is discarded, healing starts, and a rebuild runs while a speaker needs one. [DEDUCED, unsafe: log entry 41] -/
def Scene.gridMesh (s : State) : State :=
  let u := Scene.unavailList s
  let heal := s.efF Reg.sceneHealRampMs 9 0
  let s1 := match s.scene.rebuiltWait with
    | some (m, l) =>
      if l = u then
        (Scene.openWindow { s with scene := { s.scene with rebuilt := some (m, l), rebuiltWait := none } } heal).irq Scene.page 3
      else { s with scene := { s.scene with rebuiltWait := none, rebuild := true } }
    | none => s
  let s2 := match s1.scene.rebuilt with
    | some (_, l) => if l = u then s1 else { s1 with scene := { s1.scene with rebuilt := none, rebuild := true } }
    | none => s1
  let s3 := if s2.scene.healPending then Scene.openWindow { s2 with scene := { s2.scene with healPending := false, healLoad := true } } heal else s2
  if u = [] then { s3 with scene := { s3.scene with rebuild := false, rebuilt := none } }
  else if (Scene.meshInUse s3).2 = [] then s3
  else { s3 with scene := { s3.scene with rebuild := true } }

/-- The solve at grid point `n` (R104, R119, R120, R125); `unsolved` are the objects that a fault leaves unsolved, and code 0x83
follows at the next grid point. A window opens at the first solve under another sub-source limit, whether or not some object has
more than four. [DESIGN CHOICE, unsafe: log entry 151] -/
def Scene.solve (s : State) (n : Nat) (unsolved : List Nat) : State :=
  let s0 := { s with scene := { s.scene with cfgBank := s.efF Reg.sceneBanks 2 2 } }
  let s1 := Scene.gridMesh (Scene.applyRecords s0 n)
  let lim := Scene.subLimitNow s1
  let s2 := if lim = s1.scene.subLimit then s1 else Scene.openWindow { s1 with scene := { s1.scene with subLimit := lim } } 20
  let (mesh, fb) := Scene.meshInUse s2
  let s3 := (List.range s2.objCap).foldl (fun s i =>
    if unsolved.contains i then s else Scene.solveObject s mesh fb lim i n) s2
  { s3 with scene := { s3.scene with overrun := unsolved != [] } }

/-! ### The Felot stream (R127 to R132) -/

/-- One of SCENE_FELOT_CNT0–8 rises; any but `accepted` raises felot_discard. -/
def Felot.count (s : State) (k : Nat) : State :=
  let s1 := s.count (Reg.sceneFelotCnt k) 1
  if k = 0 then s1 else s1.irq Scene.page 6

/-- The datagram is Felot's by R127: net port, destination address and port, source. [DEDUCED, unsafe: log entry 89] -/
def Felot.accepts (s : State) (net dstIp dstPort srcIp : Nat) : Bool :=
  s.rdB Reg.sceneFelotNets net && dstPort == s.rdF Reg.sceneFelotPort 15 0 &&
  (dstIp == (s.ef (Reg.netIp net)).toNat || ((s.rd Reg.sceneFelotGroup).toNat != 0 && dstIp == (s.rd Reg.sceneFelotGroup).toNat)) &&
  ((s.rd Reg.sceneFelotSrc).toNat == 0 || srcIp == (s.rd Reg.sceneFelotSrc).toNat)

/-- Header checks of R129. -/
def Felot.malformed (l : List Byte) : Bool :=
  let count := ofLe (slice l 0x12 1)
  ofLe (slice l 0 1) != 1 || l.length != 32 + 32 * count || decide (40 < count) || decide (999999999 < ofLe (slice l 0x0E 4)) ||
  ofLe (slice l 1 1) != 0 || (slice l 0x13 13).any (· != 0) || decide (l.length < 32)

/-- What R130 says of a sequence number: accepted with new H and history, duplicate, or stale. -/
def Felot.sequence (s : State) (q : Nat) : (Option Nat × List Nat) ⊕ Nat :=
  match s.scene.seqH with
  | none => .inl (some q, [q])
  | some h =>
    let d := signed 32 (q + 2 ^ 32 - h)
    if 0 < d then .inl (some q, (q :: s.scene.seqSeen).filter (fun x => decide (signed 32 (q + 2 ^ 32 - x) < 64)))
    else if -64 < d then
      if s.scene.seqSeen.contains q then .inr 1 else .inl (some h, q :: s.scene.seqSeen)
    else if -65536 < d then .inr 2
    else .inl (some q, [q])

/-- Felot entries in the queue. -/
def Felot.queued (s : State) : Nat := (s.scene.queue.filter (fun q => q.t.isSome)).length

/-- A Felot message in the payload `l` of an accepted datagram (R128 to R131). [DEDUCED, unsafe: log entry 40] -/
def Felot.message (s : State) (l : List Byte) : State :=
  if Felot.malformed l then Felot.count s 5
  else if ofLe (slice l 2 2) ≠ s.rdF Reg.sceneFelotSceneId 15 0 then Felot.count s 7
  else match Felot.sequence s (ofLe (slice l 4 4)) with
    | .inr k => Felot.count s k
    | .inl (h, seen) =>
      let n := ofLe (slice l 0x12 1)
      let t := ofLe (slice l 8 6) * 1000000000 + ofLe (slice l 0x0E 4)
      if 0 < n ∧ s.clk.stake + secU < t * nsU then Felot.count s 4
      else if 0 < n ∧ 2048 < Felot.queued s + n then Felot.count s 6
      else
        let s1 := Felot.count { s with scene := { s.scene with seqH := h, seqSeen := seen } } 0
        let f := cdiv (t * rateHz s.clk.rate) 1000000000
        let s2 :=
          if n = 0 then s1
          else if !s.rateOn then { s1 with scene := { s1.scene with waitMsgs := s1.scene.waitMsgs ++ [t] } }
          else if f ≤ s.clk.frame then Felot.count s1 3 else s1
        (List.range n).foldl (fun s k =>
          let r := slice l (32 + 32 * k) 32
          if ObjRecord.ok s.objCapCfg r then
            Scene.enqueue s (ObjRecord.parse r) (if s.rateOn then some f else none) (some t) s1.scene.order
          else (Felot.count s 8).fault' Scene.page 0x82) s2

/-- The frame at rate `new` of the instant of frame `f` at rate `old`. -/
def reframeIndex (old new f : Nat) : Nat := cdiv (f * rateHz new) (rateHz old)

/-- Queued Felot records take their frames under the rate now in force (R124, R131): at the first tick at a rate, `first` is its index,
and a message accepted without a rate whose frame is `first` or earlier counts as late. [DEDUCED, unsafe: log entry 152] -/
def Felot.reframe (s : State) (first : Nat) : State :=
  let frameOfT := fun t => cdiv (t * rateHz s.clk.rate) 1000000000
  let late := s.scene.waitMsgs.filter (fun t => decide (frameOfT t ≤ first))
  let s1 := { s with scene := { s.scene with waitMsgs := [], queue := s.scene.queue.map (fun q => match q.t with
    | some t => { q with f := some (frameOfT t) } | none => q) } }
  late.foldl (fun s _ => Felot.count s 3) s1

/-! ### Rate change, checks, reset, window -/

/-- Second S (R6, R124): velocity histories clear, and the frame numbers that are kept name the same instants at the new rate; a
smaller capacity raises the capacity interrupt. Targets that wait for their load are dropped. [DESIGN CHOICE, unsafe: log entry 153] -/
def Scene.rateChange (s : State) (old new : Nat) : State :=
  let from_ := s.scene.lastRate
  let fix := fun f => if new = 0 ∨ from_ = 0 then f else reframeIndex from_ new f
  let s1 := { s with scene := { s.scene with
    objs := Tab.mapVals Scene.objDefault (fun _ o => { o with
      prev := none, cleared := true, last := o.last.map (fun l => (l.1, fix l.2)) }) s.scene.objs
    queue := s.scene.queue.map (fun q => match q.t with | none => { q with f := q.f.map fix } | some _ => q)
    solved := [], windowNext := none, windowEnd := 0, overrun := false, lastRate := if new = 0 then from_ else new } }
  if new ≠ 0 ∧ old ≠ 0 ∧ (Machine.objCap s.variant new < Machine.objCap s.variant old ∨
      Machine.outCap s.variant new < Machine.outCap s.variant old) then s1.irq Scene.page 7 else s1

def Scene.check1 (f : Nat → Word) : Option Nat :=
  if 16 < fld (f 0x48) 4 0 ∨ fld (f 0x4C) 16 0 < 76800 ∨ 102400 < fld (f 0x4C) 16 0 ∨ 1000 < fld (f 0x50) 9 0 then some 0x01 else none

/-- Conditions on the banks named (R90, R101): code and the object to name. A bank is tested by the commit that changes its selection,
and not by one that keeps it. [DEDUCED, unsafe: log entry 154] -/
def Scene.check2 (s : State) (old new : Nat → Word) : Option (Nat × Option Nat) :=
  let o := old 0x44; let n := new 0x44
  if fld n 0 0 ≠ fld o 0 0 ∧ !(if fld n 0 0 = 0 then s.scene.validA else s.scene.validB) then some (0x80, none)
  else if fld n 2 2 ≠ fld o 2 2 then
    match ObjCfg.firstBad s (fld n 2 2) with
    | some i => some (0x81, some i)
    | none => none
  else none

/-- A soft reset (R56). -/
def Scene.softReset (s : State) : State :=
  ({ s with scene := { lsupUnavail := s.scene.lsupUnavail } }).clearMem Scene.win (Scene.win + 0x100000)

/-- A word written to the window (R88, R90, R134). -/
def Scene.winWrite (s : State) (o : Nat) (w : Word) : State :=
  let area : Option Nat :=
    if o < 0x4800 ∨ (0x10000 ≤ o ∧ o < 0x123F0) ∨ (0x20000 ≤ o ∧ o < 0x38000) then some 0
    else if (0x8000 ≤ o ∧ o < 0xC800) ∨ (0x14000 ≤ o ∧ o < 0x163F0) ∨ (0x38000 ≤ o ∧ o < 0x50000) then some 1
    else none
  let layoutOrMesh := o < 0x20000
  match area with
  | some b =>
    if (s.scene.build.map (·.1)) = some b then s.faultTick Scene.page
    else
      let s1 := s.st32 (Scene.win + o) w
      if layoutOrMesh then
        { s1 with scene := { s1.scene with validA := s1.scene.validA && b != 0, validB := s1.scene.validB && b != 1 } }
      else s1
  | none =>
    if 0x50000 ≤ o ∧ o < 0x62000 then s.st32 (Scene.win + o) w
    else if 0x62000 ≤ o ∧ o < 0x6A000 then s.discard
    else s

/-- A word read from the window; the object-state area is computed (R134). -/
def Scene.winRead (s : State) (o : Nat) : Word :=
  if 0x62000 ≤ o ∧ o < 0x6A000 then
    let i := (o - 0x62000) / 32
    let q := Scene.obj s i
    let fl := (q.last.map (·.2)).getD 0
    match (o - 0x62000) % 32 with
    | 0x00 => w32 (unsigned 32 q.solvedPos.x)
    | 0x04 => w32 (unsigned 32 q.solvedPos.y)
    | 0x08 => w32 (unsigned 32 q.solvedPos.z)
    | 0x0C => w32 (b2n q.late + at_ 1 (b2n q.held) + at_ 2 (b2n q.snapped) + at_ 3 (b2n q.prev.isSome) + at_ 16 (q.tri % 65536))
    | 0x10 => w32 fl
    | 0x14 => w32 (fl / 2 ^ 32)
    | 0x18 => w32 (unsigned 16 q.gain + at_ 16 q.prio)
    | _ => 0
  else if o < 0x62000 then s.ld32 (Scene.win + o)
  else 0

end Sys2Proof.Machine
end

