-- ==== Sys2Proof/Machine/Otp.lean ====
section
/-!
DEFINITION. What the OTP holds (R519 to R523): fields, life-cycle word and settings records.
-/
namespace Sys2Proof.Machine

/-- DESIGN CHOICE, unsafe: log entry 7. -/
def Otp.byte (s : State) (a : Nat) : Byte := Tab.get (fun _ => 0) s.boot.otp a

/-- A 32-bit word; the device's own area reads zero (R522). -/
def Otp.word (s : State) (a : Nat) : Word :=
  if 0x400 ≤ a then 0 else w32 (ofLe ((List.range 4).map (fun i => Otp.byte s (a / 4 * 4 + i))))

/-- `n` bytes read as a little-endian number. -/
def Otp.num (s : State) (a n : Nat) : Nat := ofLe ((List.range n).map (fun i => Otp.byte s (a + i)))

/-- A settings record: offset, slot size with its tag (R522). -/
inductive OtpRecord where
  | keyHash | role | straps | fieldDebug
  deriving DecidableEq, Repr

def OtpRecord.base : OtpRecord → Nat
  | .keyHash => 0x200 | .role => 0x290 | .straps => 0x2B0 | .fieldDebug => 0x2D0
def OtpRecord.size : OtpRecord → Nat
  | .keyHash => 36 | _ => 8

/-- Slot `k` (0 to 3) is valid: its tag holds 0xA5 and the CRC matches (R523). -/
def Otp.slotValid (s : State) (r : OtpRecord) (k : Nat) : Bool :=
  let a := r.base + k * r.size
  let d := (List.range (r.size - 4)).map (fun i => Otp.byte s (a + i))
  let tag := Otp.num s (a + r.size - 4) 4
  tag / 256 % 256 == 0xA5 && tag % 256 == crc8 d

/-- The highest valid slot. -/
def Otp.inForce (s : State) (r : OtpRecord) : Option Nat := ([3, 2, 1, 0] : List Nat).find? (Otp.slotValid s r)

/-- Data word of the record in force. -/
def Otp.record (s : State) (r : OtpRecord) : Option Nat := (Otp.inForce s r).map (fun k => Otp.num s (r.base + k * r.size) (r.size - 4))

/-- Life-cycle state that the word at 0x020 spells (R519). -/
def Otp.lifeCycle (s : State) : Nat :=
  if 5 ≤ popcount 8 (Otp.byte s 0x22).toNat then 3
  else if 5 ≤ popcount 8 (Otp.byte s 0x21).toNat then 2
  else if 5 ≤ popcount 8 (Otp.byte s 0x20).toNat then 1 else 0

/-- DESIGN CHOICE, unsafe: log entry 6. -/
def Otp.variant (s : State) : Variant :=
  match Otp.num s 0x1C 4 % 4 with | 1 => .zn5340 | 2 => .zn5220 | _ => .zn5480

def Otp.deviceId (s : State) : Nat := Otp.num s 0 8
/-- The EUI-64 clock identity, first byte most significant. -/
def Otp.clockId (s : State) : Nat := ofBe ((List.range 8).map (fun i => Otp.byte s (8 + i)))
/-- The MAC address of a port, first byte most significant. -/
def Otp.mac (s : State) (port : Nat) : Nat := ofBe ((List.range 6).map (fun i => Otp.byte s (0x10 + 6 * port + i)))

end Sys2Proof.Machine
end

