-- ==== Sys2Proof/Machine/Stake.lean ====
section
/-!
DEFINITION. The Stake clock: the servo, steps, references, triggers, captures and the word clock (R377 to R384, R389, R390,
R392, R394, R399, R400, R413).
-/
namespace Sys2Proof.Machine

def Stake.page : Nat := 0x10

/-- Nominal I: 4 ns in units of 2^-32 ns. -/
def nominalI : Nat := 4 * nsU

def Stake.src (s : State) : Nat := s.efF Reg.stakeSrc 1 0
def Stake.maxPpm (s : State) : Nat := s.efF Reg.stakeSlew 25 16

/-- Greatest |I − 4 ns| (R378). -/
def Stake.maxDelta (s : State) : Nat := nominalI * Stake.maxPpm s / 1000000

/-- I of free-run for a trim in ppb (R379). -/
def Stake.trimI (trim : Int) : Nat := (roundDiv (nominalI * (1000000000 + trim)) 1000000000).toNat

def Stake.setI (s : State) (i : Nat) : State := { s with clk := { s.clk with incr := i } }

/-- DESIGN CHOICE, safe: log entry 85. -/
def Stake.clampI (s : State) (i : Nat) : Nat := max (nominalI - Stake.maxDelta s) (min (nominalI + Stake.maxDelta s) i)

/-- A rate change or a step is pending (R40). -/
def Stake.rateChanging (s : State) : Bool := s.clk.rateChange.isSome
/-- DEDUCED, unsafe: log entry 87. -/
def Stake.stepping (s : State) : Bool := s.stake.stepStage != 0

/-! ### The servo (R380, R381, R388 to R390) -/

/-- Record the value of I that holds from now, and forget those older than 60 s. -/
def Stake.noteI (s : State) : State :=
  let h := (s.clk.mono, s.clk.incr) :: s.stake.hist
  let k := (h.findIdx? (fun e => decide (e.1 + 60 * secU ≤ s.clk.mono))).getD h.length
  { s with stake := { s.stake with hist := h.take (k + 1) } }

/-- The mean of I over the last 60 s (R380), weighted by time. -/
def Stake.meanI (s : State) : Nat :=
  let from_ := s.clk.mono - 60 * secU
  let r := s.stake.hist.foldl (fun (a : Nat × Nat × Nat) e =>
    let lo := max from_ e.1
    let w := a.1 - lo
    (min a.1 lo, a.2.1 + w * e.2, a.2.2 + w)) (s.clk.mono, 0, 0)
  if r.2.2 = 0 then s.clk.incr else (roundDiv r.2.1 r.2.2).toNat

/-- The most by which the slew rate lets I change since its last change (R381). -/
def Stake.slewMax (s : State) : Nat :=
  s.efF Reg.stakeSlew 15 0 * nominalI * (s.clk.mono - s.stake.steerAt) / (1000000000 * secU)

/-- The loop's output: a new I within the slew rate and the range (R381). The gains of the loop are not stated, so that the
value within those bounds is free. [DESIGN CHOICE, safe: log entry 85] -/
def Stake.steer (s : State) : State :=
  let lim := Stake.slewMax s
  let i := Stake.clampI s s.clk.incr
  let lo := max (i - lim) (nominalI - Stake.maxDelta s)
  let hi := min (i + lim) (nominalI + Stake.maxDelta s)
  let (v, s1) := s.drawFree
  let s2 := Stake.noteI (Stake.setI s1 (lo + v.toNat % (hi - lo + 1)))
  { s2 with stake := { s2.stake with steerAt := s2.clk.mono } }

/-- In holdover, I goes to the mean that it keeps, no faster than the slew rate (R380, R381). -/
def Stake.holdSlew (s : State) : State :=
  match s.stake.holdI with
  | none => s
  | some m =>
    if s.stake.servo ≠ 3 ∨ s.clk.incr = m then s
    else
      let lim := Stake.slewMax s
      let s1 := Stake.setI s (max (s.clk.incr - lim) (min (s.clk.incr + lim) m))
      if lim = 0 then s else { s1 with stake := { s1.stake with steerAt := s1.clk.mono } }

/-- The servo's state changes; the lock bit tells of a change of locked. -/
def Stake.setServo (s : State) (st : Nat) : State :=
  let was := s.stake.servo = 2
  let s1 : State := { s with stake := { s.stake with servo := st, good := if st = 2 then s.stake.good else 0, gmExpired := false } }
  if was ≠ (st = 2) then s1.irq Stake.page 0 else s1

/-- Signed nanoseconds of an offset, saturating. -/
def Stake.offsetNs (o : Int) : Word := w32 (unsigned 32 (satS 32 (roundDiv o nsU)))

/-- A trigger resumes at its first edge S + jP after `t` (R384, R399). -/
def Trigger.from (x : Trigger) (t : Nat) : Trigger :=
  if !x.running then x
  else if t < x.start then { x with j := 0, high := false }
  else if x.period = 0 then { x with running := false, high := false }
  else { x with j := (t - x.start) / x.period + 1, high := false }

/-- A port's measurements in progress, with the clock moved on by `d`. -/
def PtpPort.shift (x : PtpPort) (d : Int) : PtpPort :=
  { x with
    msDiff := x.msDiff + d, offsets := x.offsets.map (· + d)
    sync := x.sync.map (fun q => (q.1, (q.2.1 + d).toNat, q.2.2)), req := x.req.map (fun q => (q.1, (q.2 + d).toNat)) }

/-- Stake time steps to `t` (R382): the count, code 0x81 and the step bit; triggers resume after it. [DEDUCED, unsafe: log entry 87] -/
def Stake.jump (s : State) (t : Nat) : State :=
  let s1 : State := { s with
    clk := { s.clk with stake := t }
    stake := { s.stake with
      fresh := none, trig := s.stake.trig.map (fun e => (e.1, e.2.from t))
      ptp := s.stake.ptp.map (fun e => (e.1, e.2.shift (t - s.clk.stake))) } }
  (((s1.count Reg.stakeStepCount 1).irq Stake.page 1).fault' Stake.page 0x81).wr Reg.stakeOffsetNs 0

/-- The Stake time that operation `op` with operand `x` gives from now. -/
def Stake.target (s : State) (op : Nat) (x : Int) : Int :=
  if op = 1 then x else if op = 2 then s.clk.stake + x else s.clk.stake - x

/-- A step is requested: at once while no ticks occur (R382), else as step 1 of R383. -/
def Stake.request (s : State) (op : Nat) (x : Int) : State :=
  if !s.clk.ticking then Stake.jump s (Stake.target s op x).toNat
  else { s with stake := { s.stake with stepStage := 1, stepOp := op, stepBy := x, stepAt := s.clk.mono } }

/-- After a freeze, the servo has its first offset, or has entered holdover (R576). [DESIGN CHOICE, safe: log entry 85] -/
def Stake.noteOffset (s : State) : State :=
  if s.fault.releaseWait = 1 then { s with fault := { s.fault with releaseWait := 2 } } else s

/-- The servo acts on an offset (R380 to R382). -/
def Stake.measure (s' : State) (o : Int) : State :=
  let s := Stake.noteOffset s'
  let s0 := s.wr Reg.stakeOffsetNs (Stake.offsetNs o)
  let thr := s.efF Reg.stakeStepThrUs 19 0
  let a := o.natAbs
  if Stake.stepping s then { s0 with stake := { s0.stake with lastMeas := s.clk.mono } }
  else if thr ≠ 0 ∧ thr * usU < a ∧ !Stake.rateChanging s then
    let s1 := Stake.request s0 3 o
    { s1 with stake := { s1.stake with lastMeas := s.clk.mono, fresh := none } }
  else
    let s1 := Stake.steer { s0 with stake := { s0.stake with stepWait := if thr ≠ 0 ∧ thr * usU < a then some (-o) else none } }
    let g := if a ≤ 50 * nsU then s.stake.good + 1 else 0
    let st := s.stake.servo
    let s2 : State := { s1 with stake := { s1.stake with good := g, lastMeas := s.clk.mono, fresh := none } }
    if st = 3 then Stake.setServo s2 1
    else if st = 2 then (if usU < a then Stake.setServo s2 1 else s2)
    else if 16 ≤ g then Stake.setServo s2 2 else s2

/-- The offset of an edge at Stake time `t` from the nearest k/F of a rate of `hz` (R379). -/
def Stake.edgeOffset (t : Int) (hz : Nat) : Int :=
  let k := roundDiv (t * hz) secU
  roundDiv (t * hz - k * secU) hz

/-- SERVO_MEASUREMENT: under src 1 and src 2 the servo takes the offset that PTP or the PPS edge has given; under src 3 it takes
that of a WCLK_IN edge whose Stake time is `o` after the present one, in 2^-32 ns, against the nominal rate of the class that
STAKE_WCLK_IN_MHZ has; without a class there is no measurement. [DESIGN CHOICE, safe: log entry 85] -/
def Stake.measurement (s : State) (o : Int) : State :=
  match Stake.src s with
  | 0 => s
  | 3 =>
    let hz := rateHz (rateClassOf (s.rd Reg.stakeWclkInMhz).toNat)
    if hz = 0 then s else Stake.measure s (Stake.edgeOffset (s.clk.stake + o) hz)
  | _ => match s.stake.fresh with | some v => Stake.measure s v | none => s

/-- The servo enters holdover (R380, R390). [DEDUCED, unsafe: log entry 86] -/
def Stake.enterHoldover (s' : State) : State :=
  let s := Stake.noteOffset s'
  let s1 := Stake.setServo { s with stake := { s.stake with holdI := some (Stake.clampI s (Stake.meanI s)), holdAt := s.clk.mono } } 3
  ((Stake.holdSlew s1).irq Stake.page 2).fault' Stake.page 0x82

/-- HOLDOVER: 3 s without a measurement. [DEDUCED, unsafe: log entry 86] -/
def Stake.holdover (s : State) : State :=
  if Stake.src s = 0 ∨ s.stake.servo = 0 ∨ s.stake.servo = 3 then s
  else Stake.enterHoldover (s.toMono (s.stake.lastMeas + 3 * secU))

/-- PPS_LOSS: 1.5 s without an edge under src 2. [DEDUCED, unsafe: log entry 86] -/
def Stake.ppsLoss (s : State) : State :=
  if Stake.src s ≠ 2 ∨ s.stake.servo = 3 then s
  else match s.stake.lastPps with
    | none => s
    | some t => Stake.enterHoldover (s.toMono (t + 3 * secU / 2))

/-- GM_HOLDOVER_LIMIT (R389). -/
def Stake.gmLimit (s : State) : State :=
  if Stake.src s = 2 ∧ s.stake.servo = 3 ∧ !s.stake.gmExpired then
    let s1 := s.toMono (s.stake.holdAt + s.efF Reg.stakeGmHoldS 19 0 * secU)
    { s1 with stake := { s1.stake with gmExpired := true } }
  else s

/-- clockClass and timeSource announced (R389). [DEDUCED, unsafe: log entry 86] -/
def Stake.clockClass (s : State) : Nat :=
  if Stake.src s ≠ 2 then 248
  else match s.stake.servo with | 2 => 6 | 3 => if s.stake.gmExpired then 187 else 7 | _ => 248
def Stake.timeSource (s : State) : Nat :=
  if Stake.src s ≠ 2 then 0xA0 else if s.stake.servo = 3 ∧ s.stake.gmExpired then 0xA0 else 0x20

/-! ### References (R390) -/

/-- DEDUCED, unsafe: log entry 86. -/
def Stake.refFault (s : State) : State := (s.irq Stake.page 3).fault' Stake.page 0x83

/-- PPS_EDGE: an edge of PPS_IN of the polarity that pps_falling selects. -/
def Stake.ppsEdge (s' : State) : State :=
  let s := if Stake.src s' = 2 ∧ s'.stake.todWritten then Stake.noteOffset s' else s'
  if Stake.src s ≠ 2 then s
  else if s.stake.todWritten then
    let s1 : State := { s with stake := { s.stake with todWritten := false, lastPps := some s.clk.mono, lastMeas := s.clk.mono } }
    let by_ : Int := ((s.rd64 Reg.stakeGmTodLo Reg.stakeGmTodHi * secU : Nat) : Int) - s.clk.stake
    let s2 := if s1.stake.servo = 3 then Stake.setServo s1 1 else s1
    if Stake.stepping s ∨ Stake.rateChanging s then { s2 with stake := { s2.stake with stepWait := some by_ } }
    else Stake.request s2 2 by_
  else
    let sec := (s.clk.stake + secU / 2) / secU
    let o : Int := (s.clk.stake : Int) - (sec * secU : Nat)
    if 100 * usU < o.natAbs then Stake.refFault s
    else { s with stake := { s.stake with lastPps := some s.clk.mono, fresh := some o } }

/-- REF10M_MEASURE: REF10M_IN's error against the counter clock over the last second, in ppb. -/
def Stake.ref10m (s : State) (ppb : Int) : State :=
  if Stake.src s ≠ 2 ∨ !s.efB Reg.stakeSrc 4 then s
  else if 50000 < ppb.natAbs then Stake.refFault s
  else if Stake.stepping s ∨ s.stake.servo = 3 then s
  else Stake.steer s

/-! ### STAKE_SET_CTRL (R382, R40) -/

/-- A write of op 1, 2 or 3 to STAKE_SET_CTRL. -/
def Stake.setCtrl (s : State) (op : Nat) : State :=
  if !s.pageUp Stake.page then s.discard
  else if op = 0 then s
  else
    let ns := (s.rd Reg.stakeSetNs).toNat
    let x := s.rd64 Reg.stakeSetSLo Reg.stakeSetSHi * secU + ns * nsU
    let t := Stake.target s op x
    if Stake.src s = 1 ∨ Stake.src s = 2 ∨ Stake.stepping s ∨ Stake.rateChanging s then s.fault' Stake.page 0x85
    else if 999999999 < ns ∨ (op ≠ 1 ∧ (t < 0 ∨ ((2 ^ 64 * secU : Nat) : Int) ≤ t)) then s.fault' Stake.page 0x01
    else Stake.request s op x

/-! ### Triggers (R399) -/

def Stake.trig (s : State) (k : Nat) : Trigger := Tab.get (fun _ => {}) s.stake.trig k
def Stake.setTrig (s : State) (k : Nat) (x : Trigger) : State :=
  { s with stake := { s.stake with trig := Tab.set (fun _ => {}) s.stake.trig k x } }

/-- Trigger `k` takes its effective settings now. -/
def Stake.loadTrig (s : State) (k : Nat) : State :=
  let st := s.ef64 (Reg.stakeTtStartSLo k) (Reg.stakeTtStartSHi k) * secU + (s.ef (Reg.stakeTtStartNs k)).toNat * nsU
  let p := (s.ef (Reg.stakeTtPeriodNs k)).toNat * nsU + (s.ef (Reg.stakeTtPeriodFrac k)).toNat
  let w := (s.ef (Reg.stakeTtWidthNs k)).toNat * nsU
  let x : Trigger := { start := st, period := p, width := w, inv := s.efB (Reg.stakeTtCtrl k) 1 }
  if !s.efB (Reg.stakeTtCtrl k) 0 then Stake.setTrig s k { x with done := (Stake.trig s k).done }
  else if s.clk.stake < st then Stake.setTrig s k { x with running := w != 0 }
  else if p = 0 then (Stake.setTrig s k x).fault' Stake.page 0x84
  else Stake.setTrig s k { x with running := w != 0, j := cdiv (s.clk.stake + usU - st) p }

/-- A commit changes the settings of trigger `k`: they wait for a pulse in progress to end. -/
def Stake.commitTrig (s : State) (k : Nat) : State :=
  let x := Stake.trig s k
  if x.running ∧ x.high then Stake.setTrig s k { x with reload := true } else Stake.loadTrig s k

/-- The point of the 0.5 ns grid nearest to `t` (R399). -/
def Trigger.grid (t : Nat) : Nat := (t + nsU / 4) / (nsU / 2) * (nsU / 2)

/-- TRIGGER_EDGE: the next edge of trigger `k` falls due, and TTk is driven. [DESIGN CHOICE, unsafe: log entry 10] -/
def Stake.edge (s : State) (k : Nat) : State :=
  let x := Stake.trig s k
  if !x.running then s
  else
    let t := x.start + x.j * x.period
    if !x.high then
      let s1 := s.toStake (Trigger.grid t)
      let s2 := Stake.setTrig s1 k { x with high := true, done := x.done || x.period == 0 }
      if x.period = 0 then s2.irq Stake.page 4 else s2
    else
      let s1 := s.toStake (Trigger.grid (t + x.width))
      if x.reload then Stake.loadTrig (Stake.setTrig s1 k { x with reload := false, high := false }) k
      else if x.period = 0 then Stake.setTrig s1 k { x with high := false, running := false }
      else Stake.setTrig s1 k { x with high := false, j := x.j + 1 }

/-- The level at TTk. -/
def Stake.ttPin (s : State) (k : Nat) : Bool := (Stake.trig s k).high != (Stake.trig s k).inv

/-! ### Captures (R400) -/

/-- CAPTURE_EDGE on input `k`. -/
def Stake.capture (s : State) (k : Nat) (rising : Bool) : State :=
  let sel := s.rdF (Reg.stakeTcapCtrl k) 1 0
  if 4 ≤ k ∨ !s.pageUp Stake.page ∨ !(sel == 3 || (sel == 1 && rising) || (sel == 2 && !rising)) then s
  else
    let q := Tab.get (fun _ => []) s.stake.tcap k
    if 4 ≤ q.length then s.wr (Reg.stakeTcapCtrl k) (setBit (s.rd (Reg.stakeTcapCtrl k)) 4 true)
    else ({ s with stake := { s.stake with tcap := Tab.set (fun _ => []) s.stake.tcap k (q ++ [s.clk.stake / nsU * nsU]) } }).irq Stake.page 5

/-- A read of S_LO latches the oldest entry. -/
def Stake.tcapLatch (s : State) (k : Nat) : State :=
  { s with stake := { s.stake with tcapLatch := Tab.set (fun _ => 0) s.stake.tcapLatch k
                                     ((Tab.get (fun _ => []) s.stake.tcap k).headD 0) } }

/-- TCAP_POP: a read of NS removes the oldest entry. -/
def Stake.tcapPop (s : State) (k : Nat) : State :=
  { s with stake := { s.stake with tcap := Tab.set (fun _ => []) s.stake.tcap k ((Tab.get (fun _ => []) s.stake.tcap k).drop 1) } }

/-! ### Live registers -/

/-- Seconds and nanoseconds of a time. -/
def secsOf (t : Nat) : Nat := t / secU
def nanosOf (t : Nat) : Nat := t % secU / nsU

/-- Registers of the page that are not held in storage. -/
def Stake.read (s : State) (o : Nat) : Option Word :=
  let c := s.clk
  if o = 0x40 then some (w32 (secsOf c.stake))
  else if o = 0x44 then some (w32 (secsOf c.stake / 2 ^ 32))
  else if o = 0x48 then some (w32 (nanosOf c.stake))
  else if o = 0x4C then some (w32 (c.stake % nsU))
  else if o = 0x50 then some (w32 (c.incr / nsU % 16))
  else if o = 0x54 then some (w32 (c.incr % nsU))
  else if o = 0x78 then some (w32 (Stake.clockClass s * 256 + b2n (Stake.stepping s) * 16 + s.stake.servo))
  else if o = 0x80 then some (w32 (unsigned 32 (satS 32 (roundDiv (((c.incr : Int) - nominalI) * 1000000000) nominalI))))
  else if o = 0x108 then some (w32 c.frame)
  else if o = 0x10C then some (w32 (c.frame / 2 ^ 32))
  else if 0x140 ≤ o ∧ o < 0x240 ∧ o % 0x20 = 0x1C then
    let x := Stake.trig s ((o - 0x140) / 0x20)
    some (w32 (b2n x.done * 2 + b2n x.running))
  else if 0x240 ≤ o ∧ o < 0x280 then
    let k := (o - 0x240) / 0x10
    let t := Tab.get (fun _ => 0) s.stake.tcapLatch k
    match o % 0x10 with
    | 0 => some (w32 (((s.rd (Reg.stakeTcapCtrl k)).toNat &&& 0x13) + (Tab.get (fun _ => []) s.stake.tcap k).length * 256))
    | 4 => some (w32 (secsOf t))
    | 8 => some (w32 (secsOf t / 2 ^ 32))
    | 12 => some (w32 (nanosOf t))
    | _ => none
  else none

/-! ### Commits (R16, R23, R40, R379, R394, R413) -/

def inRangeS (v : Nat) : Bool := let i := signed 8 v; decide (-7 ≤ i ∧ i ≤ 4)

/-- Own-range checks. -/
def Stake.check1 (f : Nat → Word) : Option Nat :=
  let ppm := fld (f 0x60) 25 16
  let w := fld (f 0x104) 12 0
  let iv := f 0xA8
  if fld (f 0x100) 2 0 = 7 ∨ w < 600 ∨ 4000 < w then some 0x01
  else if ppm < 1 ∨ 500 < ppm ∨ fld (f 0x60) 15 0 = 0 ∨ ppm * 1000 < (signed 32 (f 0x5C).toNat).natAbs then some 0x01
  else if 1000000 < fld (f 0x64) 19 0 ∨ fld (f 0x94) 6 4 = 7 ∨ fld (f 0xA0) 1 0 = 3 ∨ fld (f 0xA4) 5 4 = 3 then some 0x01
  else if fld iv 31 24 < 2 ∨ 10 < fld iv 31 24 ∨ !inRangeS (fld iv 23 16) ∨ !inRangeS (fld iv 15 8) ∨ !inRangeS (fld iv 7 0) then some 0x01
  else if (List.range 8).any (fun k =>
      let p := (f (0x14C + 0x20 * k)).toNat * nsU + (f (0x150 + 0x20 * k)).toNat
      let wd := (f (0x154 + 0x20 * k)).toNat * nsU
      decide (p ≠ 0 ∧ p ≤ wd)) then some 0x01
  else none

/-- Checks on device state: `early` tells of early_active (R23), `sameTick` that the change pending took effect at this tick
(R606). -/
def Stake.check2 (s : State) (old new : Nat → Word) (early sameTick : Bool) : Option Nat :=
  if fld (old 0x104) 12 0 ≠ fld (new 0x104) 12 0 ∧ early then some 0x80
  else if fld (old 0x100) 2 0 ≠ fld (new 0x100) 2 0 ∧ (Stake.stepping s ∨ (Stake.rateChanging s ∧ !sameTick)) then some 0x86
  else none

/-- RATE_MEASURE of WCLK_IN (R394). -/
def Stake.wclkMeasure (s : State) (cnt t0 t1 : Nat) : State :=
  if !s.pageUp Stake.page then s else s.wr Reg.stakeWclkInMhz (w32 (satU 32 (s.measuredMhz cnt t0 t1)))

/-- The first instant k/F of WCLK_OUT from now on (R394); without a rate the wave starts once Fr is in force, at second S. -/
def Stake.wclkStart (s : State) (code : Nat) : Option Nat :=
  let hz := rateHz (if code = 0 then s.clk.rate else code)
  if hz = 0 then some s.clk.stake else some (cdiv (cdiv (s.clk.stake * hz) secU * secU) hz)

/-- The level at WCLK_OUT: edge k at Stake time k/F (R394). -/
def Stake.wclkPin (s : State) : Bool :=
  let w := s.ef Reg.stakeWclk
  let code := fld w 6 4
  let hz := rateHz (if code = 0 then s.clk.rate else code)
  match s.stake.wclkFrom with
  | none => false
  | some t => bit w 0 && hz != 0 && decide (t ≤ s.clk.stake) && ((decide (s.clk.stake * hz * 2 / secU % 2 = 0)) != bit w 1)

/-- Commit hook for everything but the render rate. -/
def Stake.commit (s : State) (old new : Nat → Word) : State :=
  let src := fld (new 0x58) 1 0
  let trim := signed 32 (new 0x5C).toNat
  let s1 :=
    if fld (old 0x58) 1 0 ≠ src then
      let s' := Stake.setServo s (if src = 0 then 0 else 1)
      let s' : State := { s' with stake := { s'.stake with fresh := none, hist := [(s.clk.mono, s.clk.incr)], lastMeas := s.clk.mono, steerAt := s.clk.mono, holdI := none, lastPps := none } }
      if src = 0 then Stake.setI s' (Stake.trimI trim) else s'
    else if src = 0 ∧ old 0x5C ≠ new 0x5C then Stake.setI s (Stake.trimI trim)
    else s
  let s2 := if src = 0 then s1 else Stake.setI s1 (Stake.clampI s1 s1.clk.incr)
  let s3 : State := if old 0x94 ≠ new 0x94 then
      { s2 with stake := { s2.stake with wclkFrom := if bit (new 0x94) 0 then Stake.wclkStart s2 (fld (new 0x94) 6 4) else none } }
    else s2
  (List.range 8).foldl (fun s k =>
    if (List.range 7).any (fun i => old (0x140 + 0x20 * k + 4 * i) != new (0x140 + 0x20 * k + 4 * i)) then Stake.commitTrig s k else s) s3

/-- What a soft reset returns to its start besides registers (R413): Stake time continues with I of 4 ns. -/
def Stake.resetUnit (s : State) : State :=
  Stake.setI { s with stake := {} } nominalI

end Sys2Proof.Machine
end

