-- ==== Sys2Proof/Machine/Net.lean ====
section
/-!
DEFINITION. PTP and the Ethernet ports' own services (R385 to R389, R395 to R403, R414). Ports are numbered 0 (A) and 1 (B).
-/
namespace Sys2Proof.Machine

def Net.page (p : Nat) : Nat := 0x11 + p
def Net.port (s : State) (p : Nat) : NetPort := Tab.get (fun _ => {}) s.net.ports p
def Net.setPort (s : State) (p : Nat) (x : NetPort) : State :=
  { s with net := { s.net with ports := Tab.set (fun _ => {}) s.net.ports p x } }

def Net.ip (s : State) (p : Nat) : Nat := (s.ef (Reg.netIp p)).toNat

/-- The port runs: its page is up and enabled, its mode is not off, and its link is up. -/
def Net.live (s : State) (p : Nat) : Bool :=
  decide (p < s.variant.nets) && s.unitOn (Net.page p) && s.efF (Reg.netCfg p) 1 0 != 0 && (Net.port s p).link

/-- A NET_CNT counter. -/
def Net.count (s : State) (p k : Nat) : State := s.count (Reg.netCnt p k) 1

/-- The tag of the frames that port `p` originates: pcp and vid (R401). -/
def Net.vlanTag (s : State) (p : Nat) : Option Nat :=
  let c := s.ef (Reg.netCfg p)
  if bit c 3 then some (fld c 22 20 * 8192 + fld c 15 4) else none

/-- A frame leaves port `p`; a host's frame is complete as it stands (R397). -/
def Net.emit (s : State) (x : Sent) : State :=
  if !Net.live s x.port then s
  else
    let y := { x with vlan := if x.kind = 10 then none else Net.vlanTag s x.port }
    Net.count { s with net := { s.net with sent := s.net.sent ++ [y] } } x.port 4

/-- The device sends a frame of its own on port `p`. -/
def Net.send (s : State) (p kind : Nat) (fields : List Nat) (payload : List Byte) : State :=
  Net.emit s { port := p, kind := kind, fields := fields, payload := payload }

/-- The address that resolves a destination: its own, or the gateway's for one off the subnet (R403). -/
def Net.nextHop (s : State) (p dst : Nat) : Nat :=
  let m := (s.ef (Reg.netMask p)).toNat
  if (dst &&& m) = (Net.ip s p &&& m) then dst else (s.ef (Reg.netGw p)).toNat

def Net.isGroup (a : Nat) : Bool := decide (0xE0000000 ≤ a ∧ a < 0xF0000000)

/-- The address needs no resolution, or ARP holds it or its gateway (R403, R411). -/
def Net.resolved (s : State) (p dst : Nat) : Bool :=
  Net.isGroup dst || (Net.port s p).arp.any (fun e => e.1 == Net.nextHop s p dst)

/-- An ARP request asks for the hop of a destination that is not resolved, no more than once a second.
[DESIGN CHOICE, unsafe: log entry 90] -/
def Net.ask (s : State) (p dst : Nat) : State :=
  let hop := Net.nextHop s p dst
  let x := Net.port s p
  let recent := x.asked.filter (fun e => decide (s.clk.mono < e.2 + secU))
  if hop = 0 ∨ recent.any (fun e => e.1 == hop) then s
  else Net.send (Net.setPort s p { x with asked := recent ++ [(hop, s.clk.mono)] }) p 5 [hop] []

/-- The frame that is handled began `x` before the command (R395). -/
def Net.since (s : State) (x : Nat) : State := { s with net := { s.net with sfd := x } }

/-- Timestamps at the medium: the module's own latency is taken out or put in (R395), to the grid of 0.5 ns. -/
def Net.rxStamp (s : State) (p : Nat) : Nat := (s.clk.stake - s.net.sfd - s.efF (Reg.netLat p) 15 0 * nsU) / (nsU / 2) * (nsU / 2)
/-- DEDUCED, unsafe: log entry 91. -/
def Net.txStamp (s : State) (p : Nat) : Nat := (s.clk.stake + s.efF (Reg.netLat p) 31 16 * nsU) / (nsU / 2) * (nsU / 2)

/-! ### PTP (R385 to R389) -/

def Ptp.port (s : State) (p : Nat) : PtpPort := Tab.get (fun _ => {}) s.stake.ptp p
def Ptp.setPort (s : State) (p : Nat) (x : PtpPort) : State :=
  { s with stake := { s.stake with ptp := Tab.set (fun _ => {}) s.stake.ptp p x } }

def Ptp.enabled (s : State) (p : Nat) : Bool := s.efB Reg.stakePtpCfg2 p && Net.live s p
def Ptp.domain (s : State) : Nat := s.efF Reg.stakePtpCfg 15 8

/-- A port's identity: the clock's and the port number (R387). -/
def Ptp.ident (s : State) (p : Nat) : Nat := Otp.clockId s * 65536 + p + 1

/-- The port sends a PTP message to `dst`: event messages to UDP port 319, the others to 320, with DSCP ptp_dscp (R386). A unicast
address that ARP has not resolved loses the message, which is counted. -/
def Ptp.sendTo (s : State) (p kind dst : Nat) (fields : List Nat) : State :=
  if !Net.resolved s p dst then Net.ask (Net.count s p 5) p dst
  else Net.emit s { port := p, kind := kind, fields := fields, dst := dst, dport := if kind = 1 ∨ kind = 3 then 319 else 320
                    dscp := s.efF (Reg.netCfg p) 29 24, domain := Ptp.domain s, ident := Ptp.ident s p }

/-- The PTP group, 224.0.1.129. -/
def Ptp.group : Nat := 0xE0000181

/-- The device's own data set. -/
def Ptp.own (s : State) : Announce :=
  { domain := Ptp.domain s, priority1 := s.efF Reg.stakePtpCfg 23 16, clockClass := Stake.clockClass s
    priority2 := s.efF Reg.stakePtpCfg 31 24, gmId := Otp.clockId s, stepsRemoved := 0, sender := Otp.clockId s * 65536 }

/-- The order of two data sets, as a key: lower is better (the default comparison of IEEE 1588). -/
def Announce.key (a : Announce) : List Nat :=
  [a.priority1, a.clockClass, a.accuracy, a.variance, a.priority2, a.gmId, a.stepsRemoved, a.sender]

def lexLt : List Nat → List Nat → Bool
  | a :: as, b :: bs => if a < b then true else if b < a then false else lexLt as bs
  | [], _ :: _ => true
  | _, [] => false

/-- `a` is better than `b`: with one grandmaster, the nearer one; else by the clock's own values. [DEDUCED, unsafe: log entry 88] -/
def Announce.better (a b : Announce) : Bool :=
  if a.gmId = b.gmId then lexLt [a.stepsRemoved, a.sender] [b.stepsRemoved, b.sender]
  else lexLt (Announce.key a) (Announce.key b)

/-- n²·variance of a list of offsets. -/
def scatter (l : List Int) : Int :=
  let n : Int := l.length
  n * (l.foldl (fun a x => a + x * x) 0) - (l.foldl (· + ·) 0) * (l.foldl (· + ·) 0)

/-- The standard deviation of `a` lies below `num/den` of that of `b`. -/
def steadier (a b : List Int) (num den : Int) : Bool :=
  a.length != 0 && b.length != 0 &&
  decide (scatter a * (b.length * b.length : Nat) * den * den < scatter b * (a.length * a.length : Nat) * num * num)

/-- Ports of the device with PTP enabled. -/
def Ptp.ports (s : State) : List Nat := ([0, 1] : List Nat).filter (Ptp.enabled s)

/-- The port that the BMCA would make SLAVE: the one that hears the best master, and of two that hear the same grandmaster the
one in use or, with none in use, the steadier one (R387, R388). [DEDUCED, unsafe: log entry 88] -/
def Ptp.best (s : State) : Option (Nat × Announce) :=
  let heard := (Ptp.ports s).filterMap (fun p => (Ptp.port s p).foreign.map (fun a => (p, a)))
  match heard with
  | [] => none
  | [x] => some x
  | x :: y :: _ =>
    if x.2.gmId = y.2.gmId then
      if s.stake.selected = 1 + x.1 then some x
      else if s.stake.selected = 1 + y.1 then some y
      else if steadier (Ptp.port s y.1).offsets (Ptp.port s x.1).offsets 1 1 then some y else some x
    else if Announce.better y.2 x.2 then some y else some x

/-- State of each port and the slave port, decided over again (R387). [DEDUCED, unsafe: log entry 88] -/
def Ptp.decide_ (s : State) : State :=
  let own := Ptp.own s
  let slaveOnly := s.efB Reg.stakePtpCfg2 4
  let masterOnly := s.efB Reg.stakePtpCfg2 5
  let best := Ptp.best s
  let follow := match best with | some (_, a) => slaveOnly || Announce.better a own | none => false
  let alone (p : Nat) : Nat :=
    if slaveOnly ∨ ((Ptp.port s p).foreign.isNone ∧ !(Ptp.port s p).ready) then 4 else 6
  let stateOf (p : Nat) : Nat :=
    if !Ptp.enabled s p then 3
    else if masterOnly then
      (match (Ptp.port s p).foreign with
      | some a => if Announce.better a own then 7 else 6
      | none => alone p)
    else match best with
      | none => alone p
      | some (q, _) =>
        if !follow then alone p
        else if q = p then 9
        else if (Ptp.port s p).foreign.isSome then 7 else 4
  let sel := match best with | some (q, _) => if follow ∧ !masterOnly then q + 1 else 0 | none => 0
  let gm := match best with | some (_, a) => if sel ≠ 0 then a.gmId else Otp.clockId s | none => Otp.clockId s
  let changed := ([0, 1] : List Nat).any (fun p => (Ptp.port s p).state != stateOf p)
  let oldGm := s.rd64 Reg.stakePtpGmIdLo Reg.stakePtpGmIdHi
  let s1 := ([0, 1] : List Nat).foldl (fun s p =>
    let x := Ptp.port s p
    if stateOf p = 3 then Ptp.setPort s p { reqSeq := x.reqSeq, syncSeq := x.syncSeq, annSeq := x.annSeq }
    else Ptp.setPort s p { x with state := stateOf p, heardAt := if x.state = 3 then s.clk.mono else x.heardAt }) s
  let s2 : State := { s1 with stake := { s1.stake with selected := sel, fresh := if Stake.src s = 1 ∧ sel ≠ s.stake.selected then none else s.stake.fresh } }
  let anyOn := !(Ptp.ports s).isEmpty
  let s3 := if anyOn then s2.wr64 Reg.stakePtpGmIdLo Reg.stakePtpGmIdHi gm else s2
  if changed ∨ (anyOn ∧ gm ≠ oldGm) then s3.irq Stake.page 6 else s3

/-- PTP_ANNOUNCE on port `p`. [DEDUCED, unsafe: log entry 88] -/
def Ptp.announce (s : State) (p : Nat) (a : Announce) : State :=
  if !Ptp.enabled s p ∨ a.domain ≠ Ptp.domain s ∨ a.gmId = Otp.clockId s then s
  else
    let x := Ptp.port s p
    let keep : Bool := match x.foreign with
      | some f => f.sender != a.sender && Announce.better f a
      | none => false
    if keep then s
    else Ptp.decide_ (Ptp.setPort s p { x with foreign := some a, heardAt := s.clk.mono })

/-- 2^k s in units of time for a signed log2 interval. -/
def log2Interval (f : Nat) : Nat :=
  let i := signed 8 f
  if 0 ≤ i then secU * 2 ^ i.toNat else secU / 2 ^ (-i).toNat

/-- ANNOUNCE_TIMEOUT on port `p`: the receipt timeout has run out since the last Announce, or since the port began to listen
(R387, R388). -/
def Ptp.timeout (s : State) (p : Nat) : State :=
  let x := Ptp.port s p
  if !Ptp.enabled s p ∨ (x.foreign.isNone ∧ (x.state ≠ 4 ∨ x.ready)) then s
  else
    let t := s.efF Reg.stakePtpIntervals 31 24 * log2Interval (s.efF Reg.stakePtpIntervals 7 0)
    let s1 := s.toMono (x.heardAt + t)
    Ptp.decide_ (Ptp.setPort s1 p { x with foreign := none, offsets := [], ready := true })

/-- An offset of port `p`: with the mean path delay, the correction and NET_ASYM_NS taken out (R387). On the slave port it is the
servo's measurement; the choice of the slave port is looked at again (R388). -/
def Ptp.offset (s : State) (p : Nat) (t1 t2 : Nat) (corr : Int) : State :=
  let x := Ptp.port s p
  let asym : Int := signed 32 (s.ef (Reg.netAsymNs p)).toNat * nsU
  let d : Int := (t2 : Int) - t1 - corr
  let o := d - x.delay - asym
  let s1 := Ptp.setPort s p { x with sync := none, msDiff := d, offsets := (o :: x.offsets).take 64 }
  let s2 : State := if s.stake.selected = p + 1 ∧ Stake.src s = 1 then { s1 with stake := { s1.stake with fresh := some o } } else s1
  -- the other port has been steadier by half for 10 s
  let cur := s.stake.selected
  let q := 1 - (cur - 1)
  if cur = 0 ∨ (Ptp.port s2 q).foreign.isNone then s2
  else
    let y := Ptp.port s2 q
    if (y.foreign.map (·.gmId)) = ((Ptp.port s2 (cur - 1)).foreign.map (·.gmId)) ∧ steadier y.offsets (Ptp.port s2 (cur - 1)).offsets 1 2 then
      match y.betterSince with
      | none => Ptp.setPort s2 q { y with betterSince := some s.clk.mono }
      | some t =>
        if t + 10 * secU ≤ s.clk.mono then
          Ptp.decide_ { (Ptp.setPort s2 q { y with betterSince := none }) with stake := { (Ptp.setPort s2 q { y with betterSince := none }).stake with selected := q + 1 } }
        else s2
    else Ptp.setPort s2 q { y with betterSince := none }

/-- The message comes from the master that the port follows. -/
def Ptp.fromMaster (s : State) (p domain sender : Nat) : Bool :=
  Ptp.enabled s p && domain == Ptp.domain s &&
  (match (Ptp.port s p).foreign with | some a => a.sender == sender | none => false)

/-- PTP_SYNC: `t1` is the origin time of a one-step message, in 2^-32 ns (R386). [DEDUCED, unsafe: log entry 88] -/
def Ptp.sync (s : State) (p domain sender seq : Nat) (twoStep : Bool) (t1 : Nat) (corr : Int) : State :=
  if !Ptp.fromMaster s p domain sender then s
  else
    let t2 := Net.rxStamp s p
    if twoStep then Ptp.setPort s p { (Ptp.port s p) with sync := some (seq, t2, corr) } else Ptp.offset s p t1 t2 corr

/-- PTP_FOLLOW_UP. -/
def Ptp.followUp (s : State) (p domain sender seq t1 : Nat) (corr : Int) : State :=
  if !Ptp.fromMaster s p domain sender then s
  else match (Ptp.port s p).sync with
    | some (q, t2, c) => if q = seq then Ptp.offset s p t1 t2 (c + corr) else s
    | none => s

/-- PTP_DELAY_REQ: a master answers with the receive time. -/
def Ptp.delayReq (s : State) (p domain requester seq : Nat) : State :=
  if !Ptp.enabled s p ∨ domain ≠ Ptp.domain s ∨ (Ptp.port s p).state ≠ 6 then s
  else Ptp.sendTo s p 4 Ptp.group [seq, requester, Net.rxStamp s p]

/-- PTP_DELAY_RESP: `t4` is the master's receive time. [DEDUCED, unsafe: log entry 88] -/
def Ptp.delayResp (s : State) (p domain sender seq t4 : Nat) (corr : Int) : State :=
  if !Ptp.fromMaster s p domain sender then s
  else
    let x := Ptp.port s p
    match x.req with
    | some (q, t3) =>
      if q = seq then Ptp.setPort s p { x with req := none, delay := (x.msDiff + ((t4 : Int) - t3 - corr)).fdiv 2 } else s
    | none => s

/-- The port sends Delay_Req: the slave port, and one that hears the same grandmaster, whose offsets R388 compares. -/
def Ptp.requests (s : State) (p : Nat) : Bool :=
  let x := Ptp.port s p
  x.state == 9 || (x.state == 7 && s.stake.selected != 0 &&
    x.foreign.map (·.gmId) == (Ptp.port s (s.stake.selected - 1)).foreign.map (·.gmId))

/-- PTP_MESSAGE_INTERVAL: a timer of port `p` sends a message: 0 Announce, 1 Sync, 2 Follow_Up, 3 Delay_Req (R386, R389). With
hybrid set, Delay_Req goes to the address of the master that the port hears. [DEDUCED, unsafe: log entry 88] -/
def Ptp.interval (s : State) (p kind : Nat) : State :=
  let x := Ptp.port s p
  if !Ptp.enabled s p then s
  else if kind = 3 then
    if !Ptp.requests s p then s
    else
      let dst := if s.efB Reg.stakePtpCfg2 3 then (x.foreign.map (·.addr)).getD 0 else Ptp.group
      if !Net.resolved s p dst then Ptp.sendTo s p 3 dst []
      else
        Ptp.sendTo (Ptp.setPort s p { x with req := some (x.reqSeq, Net.txStamp s p), reqSeq := (x.reqSeq + 1) % 65536 }) p 3 dst [x.reqSeq]
  else if x.state ≠ 6 then s
  else if kind = 0 then
    let o := Ptp.own s
    Ptp.sendTo (Ptp.setPort s p { x with annSeq := (x.annSeq + 1) % 65536 }) p 0 Ptp.group
      [x.annSeq, o.priority1, o.clockClass, o.accuracy, o.variance, o.priority2, o.gmId, o.stepsRemoved, Stake.timeSource s]
  else if kind = 1 then
    let two := s.efB Reg.stakePtpCfg2 2
    let t := Net.txStamp s p
    Ptp.sendTo (Ptp.setPort s p { x with syncSeq := (x.syncSeq + 1) % 65536, syncTx := t }) p 1 Ptp.group
      [x.syncSeq, b2n two, if two then 0 else t]
  else if kind = 2 ∧ s.efB Reg.stakePtpCfg2 2 then Ptp.sendTo s p 2 Ptp.group [(x.syncSeq + 65535) % 65536, x.syncTx]
  else s

/-- STAKE_PTP_STATUS. -/
def Ptp.status (s : State) : Word :=
  let steps := if s.stake.selected = 0 then 0 else ((Ptp.port s (s.stake.selected - 1)).foreign.map (·.stepsRemoved + 1)).getD 0
  w32 (min 255 steps * 65536 + (Ptp.port s 1).state * 256 + (Ptp.port s 0).state * 16 + s.stake.selected)

/-! ### Host rings (R396, R397) -/

/-- The common store's bytes (R488), and memory that a Weave access reaches as plain memory. -/
def inCommon (a n : Nat) : Bool := decide (csAddr 0 ≤ a ∧ a + n ≤ csAddr 0x1000000)
def State.isMem (s : State) (a n : Nat) : Bool := inCommon a n || inDram s.variant a n

def Net.hrxBase (s : State) (p : Nat) : Nat := s.ef64 (Reg.netHrxBaseLo p) (Reg.netHrxBaseHi p)
def Net.htxBase (s : State) (p : Nat) : Nat := s.ef64 (Reg.netHtxBaseLo p) (Reg.netHtxBaseHi p)

/-- A frame goes to the host receive ring; `buf` is the buffer address of a descriptor that lies in host memory (R396).
[DEDUCED, unsafe: log entry 89] -/
def Net.toHost (s : State) (p : Nat) (frame : List Byte) (vlan : Option Nat) (buf : Nat) : State :=
  let cfg := s.ef (Reg.netHrxCfg p)
  let cnt := fld cfg 11 0
  let head := s.rdF (Reg.netHrxHead p) 11 0
  let tail := s.rdF (Reg.netHrxTail p) 11 0
  if cnt = 0 ∨ (head + 1) % cnt = tail then (Net.count s p 2).irq (Net.page p) 1
  else
    let host := bit cfg 16
    let d := Net.hrxBase s p + 32 * head
    let b := if host then buf else s.ldLe d 8
    let t := Net.rxStamp s p
    let desc := leBytes 8 b ++ leBytes 8 (secsOf t) ++ leBytes 4 (nanosOf t) ++ leBytes 4 (t % nsU) ++
      leBytes 4 (frame.length % 65536 + b2n vlan.isSome * 2 ^ 16 + 2 ^ 31) ++ leBytes 4 (vlan.getD 0)
    if !host ∧ (!s.isMem d 32 ∨ !s.isMem b frame.length) then s.fault' (Net.page p) 0x80
    else
      let s1 : State := if host then { s with ctl := { s.ctl with hostWrites := s.ctl.hostWrites ++ [(b, frame), (d, desc)] } }
        else (s.stN b frame).stN d desc
      ((Net.count s1 p 1).wr (Reg.netHrxHead p) (w32 ((head + 1) % cnt))).irq (Net.page p) 1

/-- Two bytes of a frame in network order. -/
def be16 (f : List Byte) (i : Nat) : Nat := ofBe (slice f i 2)

/-- HTX_TAIL_WRITE. [DEDUCED, unsafe: log entry 91] -/
def Net.htxTail (s : State) (p v : Nat) : State :=
  if !s.pageUp (Net.page p) ∨ 2 ≤ p then s.discard else s.wr (Reg.netHtxTail p) (w32 (v % 4096))

/-- A transmit timestamp is queued, or discarded when 16 wait (R397). [DEDUCED, unsafe: log entry 91] -/
def Net.queueStamp (s : State) (p tag : Nat) : State :=
  let x := Net.port s p
  if 16 ≤ x.txts.length then
    ((s.wr (Reg.netTxtsLevel p) (setBit (s.rd (Reg.netTxtsLevel p)) 8 true)).count (Reg.netTxtsOverflow p) 1).irq (Net.page p) 3
  else (Net.setPort s p { x with txts := x.txts ++ [(tag % 65536, Net.txStamp s p)] }).irq (Net.page p) 3

/-- HOST_FRAME_SEND: the descriptor at NET_HTX_HEAD is sent (R397, R398); `desc` is one that lies in host memory. [DEDUCED, unsafe: log entry 91] -/
def Net.hostSend (s : State) (p : Nat) (desc : HtxDesc) : State :=
  let cfg := s.ef (Reg.netHtxCfg p)
  let cnt := fld cfg 11 0
  let head := s.rdF (Reg.netHtxHead p) 11 0
  let tail := s.rdF (Reg.netHtxTail p) 11 0
  if !Net.live s p ∨ cnt = 0 ∨ head = tail then s
  else
    let host := bit cfg 16
    let d := Net.htxBase s p + 32 * head
    let w := s.ld32 (d + 8)
    let len := if host then desc.len else fld w 15 0
    let ts := if host then desc.tsReq else bit w 16
    let tag := if host then desc.tag else fld (s.ld32 (d + 12)) 15 0
    let frame := if host then desc.frame.take len else s.ldN (s.ldLe d 8) len
    if !host ∧ (!s.isMem d 32 ∨ !s.isMem (s.ldLe d 8) len) then s.fault' (Net.page p) 0x80
    else
      let limit := if be16 frame 12 = 0x8100 then 1518 else 1514
      let ok := decide (60 ≤ len ∧ len ≤ limit)
      let done := leBytes 4 (len % 65536 + b2n ts * 2 ^ 16 + 2 ^ 31)
      let s1 : State := if host then { s with ctl := { s.ctl with hostWrites := s.ctl.hostWrites ++ [(d + 8, done)] } } else s.stN (d + 8) done
      let s2 := (s1.wr (Reg.netHtxHead p) (w32 ((head + 1) % cnt))).irq (Net.page p) 2
      if !ok then Net.count s2 p 2
      else
        let s3 := Net.send s2 p 10 [tag] frame
        if ts then Net.queueStamp s3 p tag else s3

/-- TXTS_POP. -/
def Net.txtsPop (s : State) (p : Nat) : State :=
  if !s.pageUp (Net.page p) ∨ 2 ≤ p then s.discard
  else Net.setPort s p { (Net.port s p) with txts := (Net.port s p).txts.drop 1 }

/-! ### ARP, ICMP, IGMP, links (R402, R403) -/

/-- An ARP request for the port's address is answered. -/
def Net.arpAnswer (s : State) (p sender mac : Nat) : State := Net.send s p 6 [sender, mac] []

/-- ARP_REQUEST for an address. [DEDUCED, unsafe: log entry 90] -/
def Net.arpRequest (s : State) (p target sender mac : Nat) : State :=
  if !Net.live s p then s
  else
    let s1 := Net.count s p 0
    if Net.ip s p ≠ 0 ∧ target = Net.ip s p then Net.arpAnswer s1 p sender mac else s1

/-- An ARP reply fills the cache of 64 entries, the oldest giving way, or tells of a conflict. [DEDUCED, unsafe: log entry 90] -/
def Net.arpLearn (s : State) (p sender mac : Nat) : State :=
  let x := Net.port s p
  if Net.ip s p ≠ 0 ∧ sender = Net.ip s p then (s.fault' (Net.page p) 0x81).irq (Net.page p) 4
  else
    let rest := x.arp.filter (fun e => e.1 ≠ sender)
    Net.setPort s p { x with arp := (rest.drop (rest.length - 63)) ++ [(sender, mac, s.clk.mono)] }

/-- ARP_REPLY. -/
def Net.arpReply (s : State) (p sender mac : Nat) : State :=
  if !Net.live s p then s else Net.arpLearn (Net.count s p 0) p sender mac

/-- ARP_REFRESH of an entry, 60 s after its last refresh. -/
def Net.arpRefresh (s : State) (p addr : Nat) : State :=
  let x := Net.port s p
  match x.arp.find? (fun e => e.1 = addr) with
  | none => s
  | some (_, mac, t) =>
    let s1 := s.toMono (t + 60 * secU)
    Net.send (Net.setPort s1 p { x with arp := x.arp.map (fun e => if e.1 = addr then (addr, mac, s1.clk.mono) else e) }) p 5 [addr] []

/-- The answer to an echo request with a payload: up to 1,472 bytes, and 100 a second; `ids` are its identifier and sequence.
[DEDUCED, unsafe: log entry 90] -/
def Net.echoed (s : State) (p sender : Nat) (ids : List Nat) (payload : List Byte) : State :=
  let x := Net.port s p
  let y := if x.echoAt + secU ≤ s.clk.mono then { x with echoAt := s.clk.mono, echoes := 0 } else x
  if 1472 < payload.length ∨ 100 ≤ y.echoes then Net.setPort s p { y with echoDrops := satU 32 (y.echoDrops + 1) }
  else
    let x : Sent := { port := p, kind := 8, dst := sender, fields := ids, payload := payload }
    Net.count (Net.emit (Net.setPort s p { y with echoes := y.echoes + 1 }) x) p 6

/-- ICMP_ECHO_REQUEST. -/
def Net.echo (s : State) (p sender : Nat) (payload : List Byte) : State :=
  if !Net.live s p ∨ Net.ip s p = 0 then s else Net.echoed (Net.count s p 0) p sender [] payload

/-- The next of three gratuitous ARPs goes out. [DEDUCED, unsafe: log entry 90] -/
def Net.gratuitous (s : State) (p : Nat) : State :=
  let x := Net.port s p
  if x.grat = 0 ∨ !Net.live s p then s
  else
    let s1 := s.toMono x.gratAt
    Net.send (Net.setPort s1 p { x with grat := x.grat - 1, gratAt := s1.clk.mono + secU }) p 7 [Net.ip s p] []

/-- Three gratuitous ARPs are due from now on. [DEDUCED, unsafe: log entry 90] -/
def Net.announceIp (s : State) (p : Nat) : State :=
  if Net.ip s p = 0 then s else Net.gratuitous (Net.setPort s p { (Net.port s p) with grat := 3, gratAt := s.clk.mono }) p

/-- Groups that the port uses, each with its source filter or 0: of PTP, Felot and receive streams (R402, R409). -/
def Net.wanted (s : State) (p : Nat) : List (Nat × Nat) :=
  if Net.ip s p = 0 then []
  else
    let ptp := if s.efB Reg.stakePtpCfg2 p then [(Ptp.group, 0)] else []
    let fg := (s.rd Reg.sceneFelotGroup).toNat
    let felot := if s.rdB Reg.sceneFelotNets p ∧ fg ≠ 0 then [(fg, (s.rd Reg.sceneFelotSrc).toNat)] else []
    let rx := (List.range 128).filterMap (fun e =>
      let a := winBase 0x13 + 64 * e
      let on := s.efB (Reg.streamRxEn (e / 32)) (e % 32)
      let paths := fld (s.ld32 a) 3 2
      let used := paths.testBit p && !(p == 1 && paths == 3 && !s.variant.has2022_7)
      let o := a + (if p = 0 then 0x10 else 0x1C)
      if on ∧ used ∧ Net.isGroup (s.ld32 o).toNat then some ((s.ld32 o).toNat, (s.ld32 (o + 4)).toNat) else none)
    ptp ++ felot ++ rx

/-- Groups that the port joins, with their sources: INCLUDE mode with those of the filters, or EXCLUDE mode with none where a user
of the group has no filter (R402). -/
def Net.groups (s : State) (p : Nat) : List (Nat × List Nat) :=
  let l := Net.wanted s p
  (l.map (·.1)).dedup.map (fun g =>
    let src := (l.filter (fun e => e.1 == g)).map (·.2)
    (g, if src.contains 0 then [] else src.dedup))

/-- Joins, leaves and changes of sources since the last look: two unsolicited reports each, 1 s apart (R402). -/
def Net.rejoin (s : State) (p : Nat) : State :=
  let x := Net.port s p
  let now := Net.groups s p
  let diff := (now.filter (fun g => !x.joined.contains g)).map (·.1) ++
    (x.joined.filter (fun g => !now.any (fun h => h.1 == g.1))).map (·.1)
  Net.setPort s p { x with joined := now, reports := x.reports ++ diff.flatMap (fun g => [(g, s.clk.mono), (g, s.clk.mono + secU)]) }

/-- IGMP_REPORT: the next report due goes out: its group, whether joined, IGMPv2, and the sources of INCLUDE mode. -/
def Net.report (s : State) (p : Nat) : State :=
  let s := Net.rejoin s p
  let x := Net.port s p
  match x.reports with
  | [] => s
  | (g, t) :: rest =>
    let s1 := s.toMono t
    let src := (x.joined.find? (fun e => e.1 == g)).map (·.2)
    Net.send (Net.setPort s1 p { x with reports := rest }) p 9 ([g, b2n src.isSome, b2n x.igmpV2] ++ src.getD []) []

/-- What an IGMP query of version 2 or 3 does besides its copy to the host: a report for each group follows after a random delay,
which the environment's next IGMP_REPORT fixes; IGMPv1 is not supported (R402). -/
def Net.queried (s : State) (p version : Nat) : State :=
  let s0 := Net.rejoin s p
  let x := Net.port s0 p
  if version < 2 then s0
  else Net.setPort s0 p { x with igmpV2 := x.igmpV2 || version == 2, reports := x.reports ++ x.joined.map (fun g => (g.1, s.clk.mono)) }

/-- LINK_CHANGE. -/
def Net.linkChange (s : State) (p : Nat) (up : Bool) : State :=
  if s.variant.nets ≤ p ∨ !s.running ∨ (Net.port s p).link = up then s
  else
    let s1 := (Net.setPort s p { (Net.port s p) with link := up }).irq (Net.page p) 0
    let s2 := if up then Net.announceIp s1 p else s1
    Ptp.decide_ (Net.rejoin s2 p)

/-! ### Registers and commits -/

def Net.read (s : State) (p o : Nat) : Option Word :=
  let x := Net.port s p
  let t := (x.txts.headD (0, 0))
  if o = 0x58 then some (w32 (Otp.mac s p % 2 ^ 32))
  else if o = 0x5C then some (w32 (Otp.mac s p / 2 ^ 32))
  else if o = 0x60 then some (w32 (b2n x.igmpV2 * 256 + (Ptp.port s p).state * 16 + b2n x.link))
  else if o = 0xB0 then some (w32 (((s.rd (Reg.netTxtsLevel p)).toNat &&& 0x100) + x.txts.length))
  else if o = 0xB4 then some (w32 (if x.txts.isEmpty then 0 else t.1 + p * 65536))
  else if o = 0xB8 then some (w32 (secsOf t.2))
  else if o = 0xBC then some (w32 (secsOf t.2 / 2 ^ 32))
  else if o = 0xC0 then some (w32 (nanosOf t.2))
  else if o = 0xC4 then some (w32 (t.2 % nsU))
  else none

def Net.check1 (f : Nat → Word) : Option Nat :=
  if fld (f 0x40) 1 0 = 3 ∨ fld (f 0x70) 4 0 ≠ 0 ∨ fld (f 0x90) 4 0 ≠ 0 then some 0x01 else none

/-- Commit hook: an address that changes is announced, and groups are joined. -/
def Net.commit (s : State) (p : Nat) (old new : Nat → Word) : State :=
  let s1 := if old 0x44 ≠ new 0x44 ∧ (Net.port s p).link then Net.announceIp s p else s
  Ptp.decide_ (Net.rejoin s1 p)

/-- Commit hook of STAKE for PTP: the PTP group is joined or left, and the ports' states are decided over again. -/
def Ptp.commit (s : State) : State :=
  Ptp.decide_ (([0, 1] : List Nat).foldl (fun s p => if p < s.variant.nets then Net.rejoin s p else s) s)

/-- A port whose page or link has come up or gone down takes its place in PTP. -/
def Ptp.follow (s : State) : State :=
  if ([0, 1] : List Nat).any (fun p => Ptp.enabled s p == ((Ptp.port s p).state == 3)) then Ptp.decide_ s else s

def Net.softReset (s : State) (p : Nat) : State := Net.setPort s p { link := (Net.port s p).link }

end Sys2Proof.Machine
end

