-- ==== Sys2Proof/Machine/Modulator.lean ====
section
/-!
DEFINITION. The signal path and the modulators of the power stages (R289 to R296, R313, R314, R325): upsampling, gains, the demanded
voltage, the pilot and the AC stimulus, the carrier's edges and the self-oscillating loop, on integers.
-/
namespace Sys2Proof.Machine

/-! ### Rates and delays (R291, R292, R300) -/

/-- Edge steps per second of the rate family (R293, R300). -/
def Pstg.edgeRate (code : Nat) : Nat := if code % 2 = 1 then 5780275200 else 6291456000
/-- Fm in Hz and samples at Fm per frame (R291). -/
def Pstg.fm (code : Nat) : Nat := if code % 2 = 1 then 705600 else 768000
def Pstg.ratio (code : Nat) : Nat := if code ≤ 2 then 16 else if code ≤ 4 then 8 else 4
/-- Edge steps in a sample at Fm, and in a Loop sample (R296). -/
def Pstg.fmSteps : Nat := 8192
def Pstg.loopSteps : Nat := 512
/-- Edge steps in a frame. -/
def Pstg.frameSteps (code : Nat) : Nat := Pstg.ratio code * Pstg.fmSteps

/-- Group delay of an upsampler in samples at Fr (R292). -/
def Pstg.groupDelay (lowLat : Bool) (code : Nat) : Nat :=
  if lowLat then 2 else if code ≤ 2 then 16 else if code ≤ 4 then 14 else 12

/-- U in ns (R36, R292): the upsampler's group delay, 2/Fm, and the closed-loop delay of a self-oscillating channel. -/
def Pstg.delayU (lowLat : Bool) (code tLoop : Nat) : Nat :=
  Pstg.groupDelay lowLat code * 1000000000 / rateHz code + 2000000000 / Pstg.fm code + tLoop

/-- A time in ns in edge steps, to nearest. -/
def Pstg.nsSteps (code ns : Nat) : Nat := (roundDiv ((ns * Pstg.edgeRate code : Nat) : Int) 1000000000).toNat

/-! ### Sines (R313, R325) -/

/-- Peak in Q1.31 of a sine `att` dB below 0 dBFS (R14). -/
def Pstg.sinePeak (att : Nat) : Int := fxTo 0 ((2 ^ 31 - 1) * fxPow10 (-(att : Int)) 20)

/-- A sine sample at phase ph/fm of a turn. -/
def Pstg.sineAt (peak : Int) (ph fm : Nat) : Int := fxTo 0 (peak * fxSinR ((2 * fxPi * ph).fdiv fm))

/-- The pilot's frequency in Hz (R313). -/
def Pstg.pilotHz (s : State) (c : Nat) : Nat := s.efF (Reg.lsupGrpPilot (c / 8)) 23 0 / 256 + 250 * (c % 8)

/-- f_k = 50 Hz × round(10 × 40^(k/31)) (R325). -/
def Pstg.acHz (k : Nat) : Nat := 50 * (fxTo 0 (10 * fxExp ((k * fxLnRat 40 1).fdiv 31))).toNat

/-- Phases either side of a half turn, or at its start: a sine has a zero crossing between them. -/
def Pstg.crosses (p q fm : Nat) : Bool := q == 0 || decide (2 * p < fm) != decide (2 * q < fm)

/-- The pilot at one sample: its value, and the samples counted next; a pilot that is no longer called for ends at the next zero
crossing of its phase (R314). -/
def Pstg.pilotStep (f fm : Nat) (peak : Int) (wanted : Bool) (p : Option Nat) : Int × Option Nat :=
  match (match p with | some n => some n | none => if wanted then some 0 else none) with
  | none => (0, none)
  | some n =>
    let ph := n * f % fm
    let stop := !wanted && Pstg.crosses ((n - 1) * f % fm) ph fm
    if stop then (0, none) else (Pstg.sineAt peak ph fm, some (n + 1))

/-- The AC stimulus at one sample: its phase is continuous across points of 37.5 ms, and it ends at its first zero crossing at or
after 1.2 s, or once its test has ended (R325, R327). -/
def Pstg.stimStep (fm : Nat) (wanted : Bool) (p : Option (Nat × Nat)) : Int × Option (Nat × Nat) :=
  match p with
  | none => (0, none)
  | some (n, ph) =>
    let point := n / (fm * 3 / 80)
    let f := Pstg.acHz (min 31 point)
    let next := (ph + f) % fm
    if (!wanted || decide (32 ≤ point)) && ph == 0 && n != 0 then (0, none)
    else
      let v := Pstg.sineAt (Pstg.sinePeak 30) ph fm
      if (!wanted || decide (32 ≤ point)) && Pstg.crosses ph next fm then (v, none) else (v, some (n + 1, next))

/-! ### The demanded voltage (R291) -/

/-- The gain product at sample `j` of a frame: the ramp gain, and the limiter gains interpolated linearly across the frame.
[DEDUCED, unsafe: log entry 71] -/
def PsCh.gained (x : PsCh) (gSag : Int) (ratio frame j : Nat) (v : Int) : Int :=
  let lerp := fun (a b : Int) => a + roundDiv ((b - a) * (j + 1)) ratio
  rnd 90 (v * x.ramp.at frame * lerp x.mod.gPl x.gPl * lerp x.mod.gSag gSag)

/-- V_d in 2^-39 V at sample `j` of a frame: (gained sample + pilot + stimulus) × V_fs. A recheck has audio gain zero (R305). -/
def PsCh.demand (x : PsCh) (gSag : Int) (code frame j : Nat) (tones : Int) : Int :=
  let v := if x.state = 3 then 0 else x.gained gSag (Pstg.ratio code) frame j (Config.upsample x.lowLat (Pstg.ratio code) x.mod.hist j)
  (v + tones) * x.vfs.at frame

/-! ### Three-level modulation (R293 to R295) -/

/-- m_max in Q2.30: 1 − 2 × (40 ns + t_dt) × f_sw, with f_sw in 1/256 Hz. -/
def Pstg.mMax (dead fsw : Nat) : Int := 2 ^ 30 - roundDiv ((2 * (40 + dead) * fsw * 2 ^ 30 : Nat) : Int) 256000000000

/-- m = V_d / V_rail in Q2.30, unclamped; a rail of zero asks for more than any limit. [DEDUCED, unsafe: log entry 71] -/
def Pstg.index (vd : Int) (rail : Nat) : Int := if rail = 0 then vd.sign * 2 ^ 40 else roundDiv vd (2 * rail)

/-- The carrier of channel `c` of a group at edge step `t` (R293): its period, its place in it, and the steps to its next turning
point or change. -/
def Carrier.look (g : Carrier) (c t : Nat) : Nat × Nat × Nat :=
  let cur := match g.next with | some (n, s0) => if s0 ≤ t then (n, s0) else (g.n, g.start) | none => (g.n, g.start)
  let n := max 2 cur.1
  let p := (((t : Int) - cur.2 - (c * n / 8 : Nat)) % (n : Int)).toNat
  let turn := if p < n / 2 then n / 2 - p else n - p
  (n, p, match g.next with | some (_, s0) => if t < s0 then min turn (s0 - t) else turn | none => turn)

/-- The carrier of a group at a tick: a changed period takes effect at the first boundary of channel 0's carrier (R303). -/
def Carrier.tick (g : Carrier) (want t : Nat) : Carrier :=
  let g1 : Carrier := match g.next with | some (n, s0) => if s0 ≤ t then Carrier.mk n s0 none else g | none => g
  if g1.n = 0 then { n := want, start := 0 }
  else if want = g1.n then { g1 with next := none }
  else { g1 with next := some (want, g1.start + cdiv (t - g1.start) g1.n * g1.n) }

/-- signal − carrier at τ of a sample at Fm, times a positive factor: the signal runs from `a` to `b` across the sample, the carrier
stands at place `p` of its period `n`. -/
def Pstg.above (a b : Int) (n : Nat) (tau p : Int) (rising : Bool) : Int :=
  (a * (Pstg.fmSteps - tau) + b * tau) * n - Pstg.fmSteps * 2 ^ 30 * (if rising then 4 * p - n else 3 * n - 4 * p)

/-- One leg over a stretch [t, t + d) of a sample at Fm in which the carrier does not turn: the comparator's output after it, and
the crossing in 2^-32 step where it changes. -/
def Pstg.legCross (a b : Int) (n p t d : Nat) (up : Bool) : Bool × Option Int :=
  let rising := decide (p < n / 2)
  let f0 := Pstg.above a b n t p rising
  let f1 := Pstg.above a b n (t + d) (p + d) rising
  let up1 := decide (0 ≤ f1)
  if up1 = up then (up, none)
  else
    let frac := if f0 = f1 ∨ decide (0 ≤ f0) = up1 then 0 else (f0 * d * 2 ^ 32).fdiv (f0 - f1)
    (up1, some (t * 2 ^ 32 + frac))

/-- An edge of a leg put on the grid, with the error of the leg's last edge added: the step, and the error for its next (R294). -/
def Pstg.snap (x err : Int) : Int × Int :=
  let v := x + err
  let e := (v + 2 ^ 31).fdiv (2 ^ 32)
  (e, v - e * 2 ^ 32)

/-- A pin's transition to a level: mid for the dead time, then the level (R295). -/
def Pstg.transition (e : Int) (legB : Bool) (up : Bool) (dt : Nat) : List (Int × Bool × PinLevel) :=
  let l : PinLevel := if up then .high else .low
  if dt = 0 then [(e, legB, l)] else [(e, legB, .mid), (e + dt, legB, l)]

/-- With dt_comp, an edge is advanced by the dead time where the load current delays the output transition: on leg A a rise with
positive current or a fall with negative current, on leg B the reverse. [DEDUCED, unsafe: log entry 71] -/
def Pstg.advance (comp : Bool) (cur : Int) (legB up : Bool) (dt : Nat) : Int :=
  if comp ∧ cur ≠ 0 ∧ (decide (0 < cur) != legB) = up then dt else 0

/-- What a three-level channel needs to know of its surroundings. -/
structure ModEnv where
  carr : Carrier
  /-- channel of the group, and the edge step at which its output frame starts -/
  chan : Nat
  base : Nat
  dt : Nat
  comp : Bool
  sense : List (Int × Int)

/-- One sample at Fm of a three-level channel, from step `t` of the sample at step `off` of the frame. -/
def PsMod.threeLevel (e : ModEnv) (off : Nat) : Nat → Nat → PsMod → PsMod
  | 0, _, m => m
  | fuel + 1, t, m =>
    if Pstg.fmSteps ≤ t then m
    else
      let (n, p, left) := e.carr.look e.chan (e.base + off + t)
      let d := min left (Pstg.fmSteps - t)
      -- switching starts at a carrier-period boundary, with both legs high
      if m.waits ∧ p ≠ 0 then PsMod.threeLevel e off fuel (t + d) m
      else
        let first := Pstg.transition ((off + t : Nat) : Int) false true e.dt ++ Pstg.transition ((off + t : Nat) : Int) true true e.dt
        let m0 := if m.waits then { m with waits := false, upA := true, upB := true, edges := m.edges ++ first } else m
        let cur := (nth (0, 0) e.sense ((off + t) / Pstg.loopSteps)).2
        let leg := fun (m : PsMod) (legB : Bool) =>
          let sg : Int := if legB then -1 else 1
          let (up, x) := Pstg.legCross (sg * m.d2) (sg * m.d1) n p t d (if legB then m.upB else m.upA)
          match x with
          | none => m
          | some x =>
            let (st, err) := Pstg.snap x (if legB then m.errB else m.errA)
            let at_ := (off : Int) + st - Pstg.advance e.comp cur legB up e.dt
            let m1 := { m with edges := m.edges ++ Pstg.transition at_ legB up e.dt }
            if legB then { m1 with upB := up, errB := err } else { m1 with upA := up, errA := err }
        PsMod.threeLevel e off fuel (t + d) (leg (leg m0 false) true)

/-! ### The self-oscillating loop (R296) -/

def sat64 (x : Int) : Int := satS 64 x

/-- One Loop sample at step `t` of the frame: demand and sensed voltage in Q1.31, coefficients in Q1.31, hysteresis in Q1.31. The
integrators and y have 62 fractional bits; the legs switch in antiphase, never sooner than 40 ns and the dead time after the last
edge. [DEDUCED, unsafe: log entry 71] -/
def PsMod.loopStep (m : PsMod) (r v a1 a2 b0 b1 h : Int) (t dt min40 : Nat) : PsMod :=
  let e := r - v
  let i1 := if a1 = 0 then 0 else sat64 (m.i1 + a1 * e)
  let i2 := if a2 = 0 then 0 else sat64 (m.i2 + rnd 31 (a2 * i1))
  let y := i2 + rnd 31 (b1 * i1) + b0 * e
  let lim := h * 2 ^ 31
  let m1 := { m with i1 := i1, i2 := i2, y := y }
  let goal := if lim < y then true else if y < -lim then false else m.positive
  if goal = m.positive then m1
  else
    let thr := if goal then lim else -lim
    let frac := if y = m.y then 0 else max 0 (min (Pstg.loopSteps : Int) (((thr - m.y) * Pstg.loopSteps * 2 + (y - m.y)).fdiv (2 * (y - m.y))))
    let at_ := max ((t : Int) + frac) (m.edgeAt + dt + min40)
    { m1 with positive := goal, edgeAt := at_, upA := goal, upB := !goal,
              edges := m.edges ++ Pstg.transition at_ false goal dt ++ Pstg.transition at_ true (!goal) dt }

/-! ### One output frame -/

/-- The switching cycle in which edge step `t` of the output frame lies (R304): a period of the channel's carrier, or of the loop at its
lock target. [DEDUCED, unsafe: log entry 72] -/
def PsCh.cycle (x : PsCh) (g : Carrier) (chan code t : Nat) : Nat :=
  let abs := x.mod.base + t
  if x.mode = 2 then abs * x.target / (256 * Pstg.edgeRate code)
  else
    let l := g.look chan abs
    (abs - l.2.1) / l.1

/-- A new output frame begins: the edges of the last that lie in it stay, and the others give the level at its start. -/
def PsMod.startFrame (m : PsMod) (len since base : Nat) : PsMod :=
  let past := m.edges.filter (fun e => decide (e.1 < (len : Int)))
  let last := fun (legB : Bool) (l : PinLevel) => past.foldl (fun a e => if e.2.1 = legB then e.2.2 else a) l
  { m with pwmA := last false m.pwmA, pwmB := last true m.pwmB, since := since, base := base, edgeAt := m.edgeAt - len,
           edges := (m.edges.filter (fun e => decide ((len : Int) ≤ e.1))).map (fun e => (e.1 - len, e.2.1, e.2.2)) }

/-- The level of a leg's pin, by the channel's state, at `t` steps into the output frame (R289, R290). -/
def PsCh.level (x : PsCh) (legB : Bool) (t : Int) : PinLevel :=
  if x.state = 0 then .mid
  else if x.state = 1 then .low
  else (x.mod.edges.filter (fun e => decide (e.1 ≤ t))).foldl (fun a e => if e.2.1 = legB then e.2.2 else a)
    (if legB then x.mod.pwmB else x.mod.pwmA)

/-- More edges, in the order of their instants. -/
def PsMod.withEdges (m : PsMod) (l : List (Int × Bool × PinLevel)) : PsMod :=
  { m with edges := sortBy (fun a b => decide (a.1 ≤ b.1)) (m.edges ++ l) }

/-- Switching starts from the Quiet levels (R308): a three-level channel waits for its carrier-period boundary, a self-oscillating one
begins in state NEGATIVE. [DEDUCED, unsafe: log entry 71] -/
def PsMod.started (m : PsMod) (selfOsc : Bool) : PsMod :=
  { m with d1 := 0, d2 := 0, errA := 0, errB := 0, upA := false, upB := selfOsc, pwmA := .low, pwmB := if selfOsc then .high else .low
           edges := [], waits := !selfOsc, i1 := 0, i2 := 0, y := 0, positive := false, edgeAt := 0 }

/-- An over-current at step `t` of the output frame (R304): a three-level channel holds both legs low to the carrier's turning point at
`t` + `left`; a self-oscillating one goes to the opposite state, not sooner than 40 ns after its last edge. -/
def PsCh.limitCurrent (x : PsCh) (t : Int) (left dt min40 : Nat) : PsMod :=
  let m := x.mod
  if x.mode = 2 then
    let last := (m.edges.filter (fun e => decide (e.1 ≤ t))).foldl (fun a e => max a e.1) m.edgeAt
    let at_ := max t (last + min40)
    let up := !(x.level false t == .high)
    -- edges of the loop that are still to come end in its own state
    let later := m.edges.any (fun e => decide (t < e.1))
    ({ m with positive := if later then m.positive else up } : PsMod).withEdges (Pstg.transition at_ false up dt ++ Pstg.transition at_ true (!up) dt)
  else
    let endAt := t + left
    let kept := m.edges.filter (fun e => decide (e.1 < t ∨ endAt ≤ e.1))
    ({ m with edges := kept } : PsMod).withEdges
      [(t, false, .low), (t, true, .low), (endAt, false, x.level false endAt), (endAt, true, x.level true endAt)]

end Sys2Proof.Machine
end

