-- ==== Sys2Proof/Machine/Ports.lean ====
section
/-!
DEFINITION. Serial, AES3 and MADI ports, the ASRC engines and host audio (R337 to R376).
-/
namespace Sys2Proof.Machine

/-! ### Pages and settings -/

/-- 1 serial, 2 AES3, 3 MADI (the codes of ASRC_BIND); 0 another page. -/
def Port.kind (p : Nat) : Nat :=
  if 0x20 ≤ p ∧ p < 0x30 then 1 else if 0x30 ≤ p ∧ p < 0x38 then 2 else if 0x38 ≤ p ∧ p < 0x3C then 3 else 0

def Port.pageOf (kind index : Nat) : Nat := if kind = 1 then 0x20 + index else if kind = 2 then 0x30 + index else 0x38 + index

/-- Channels of a port in each direction (R337). -/
def Port.chans (p : Nat) : Nat := if Port.kind p = 1 then 16 else if Port.kind p = 2 then 2 else 64

def Port.pg (s : State) (p : Nat) : PortPg := Tab.get (fun _ => {}) s.port.pages p
def Port.setPg (s : State) (p : Nat) (x : PortPg) : State :=
  { s with port := { s.port with pages := Tab.set (fun _ => {}) s.port.pages p x } }

def PortPg.dir (x : PortPg) (tx : Bool) : PortDir := if tx then x.tx else x.rx
def PortPg.setDir (x : PortPg) (tx : Bool) (d : PortDir) : PortPg := if tx then { x with tx := d } else { x with rx := d }

/-- A register of the page at its PORT offset (R346, R373, R374). -/
def Port.reg (p off : Nat) : Nat := p * 0x1000 + off

/-- The effective rate field of a direction; an AES3 receiver has none. -/
def Port.rateField (s : State) (p : Nat) (tx : Bool) : Nat :=
  if Port.kind p = 1 then s.efF (Port.reg p 0x44) 2 0
  else if Port.kind p = 2 then (if tx then s.efF (Port.reg p 0x44) 10 8 else 0)
  else s.efF (Port.reg p 0x40) 6 4

/-- The rate code of a direction: its field, or Fr in force for 0. [DEDUCED, safe: log entry 78] -/
def Port.rateCode (s : State) (p : Nat) (tx : Bool) : Nat :=
  let f := if Port.kind p = 1 then (Port.pg s p).rate else Port.rateField s p tx
  if f = 0 then s.clk.rate else f

/-- The direction's enable: PAGE_CTRL, and for AES and MADI the direction's own bit (R373, R374). -/
def Port.isOn (s : State) (p : Nat) (tx : Bool) : Bool :=
  s.unitOn p &&
  (if Port.kind p = 1 then true
   else if Port.kind p = 2 then (if tx then s.efB (Port.reg p 0x44) 0 else s.efB (Port.reg p 0x40) 0)
   else (if tx then s.efB (Port.reg p 0x40) 1 else s.efB (Port.reg p 0x40) 0))

/-- A MADI direction that follows Fr at a rate MADI does not support (R355). -/
def Port.madiInactive (s : State) (p : Nat) (tx : Bool) : Bool :=
  Port.kind p == 3 && Port.rateField s p tx == 0 && decide (5 ≤ s.clk.rate)

/-! #### Serial format (R340 to R342) -/

def Port.leader (x : PortPg) : Bool := bit x.fmt 3
def Port.early (x : PortPg) : Bool := bit x.fmt 4
def Port.slots (x : PortPg) : Nat := min 16 (fld x.fmt 21 17)
def bitsOf (code : Nat) : Nat := if code = 0 then 16 else if code = 1 then 24 else 32
def Port.slotBits (w : Word) : Nat := bitsOf (fld w 23 22)
/-- DEDUCED, unsafe: log entry 82. -/
def Port.dataBits (w : Word) : Nat := bitsOf (fld w 25 24)

/-- BCLK in Hz; no slots clock as one (R340, R341). -/
def bclkHz (fmt : Word) (rateCode : Nat) : Nat := rateHz rateCode * max 1 (fld fmt 21 17) * Port.slotBits fmt

def Port.bclk (s : State) (p : Nat) : Nat := bclkHz (Port.pg s p).fmt (Port.rateCode s p true)

/-- Four BCLK periods in units of time (R343). [DEDUCED, unsafe: log entry 83] -/
def Port.fourBclk (s : State) (p : Nat) : Nat := cdiv (4 * secU) (Port.bclk s p)

/-- The port clocks itself: a serial leader, or any transmitter of AES3 and MADI. -/
def Port.ownClock (x : PortPg) (p : Nat) (tx : Bool) : Bool := if Port.kind p = 1 then Port.leader x else tx

/-- e of R344. [DEDUCED, unsafe: log entry 83] -/
def Port.earlyBclk (s : State) (p : Nat) : Nat :=
  if Port.early (Port.pg s p) then cdiv (s.efF Reg.stakeDirectWindowNs 12 0 * Port.bclk s p) 1000000000 else 0

/-- Channels that the direction carries (R340, R342, R355). -/
def Port.carried (s : State) (p : Nat) (tx : Bool) : List Nat :=
  let x := Port.pg s p
  if Port.kind p = 1 then (List.range (Port.slots x)).filter (fun k => (x.dir tx).mask.testBit k)
  else if Port.kind p = 2 then [0, 1]
  else
    let full := if s.efB (Port.reg p 0x40) 3 then 56 else 64
    List.range (if 3 ≤ Port.rateCode s p tx then full / 2 else full)

/-! ### ASRC bindings (R363) -/

def Asrc.page (e : Nat) : Nat := 0x3C + e
def Asrc.eng (s : State) (e : Nat) : AsrcEng := Tab.get (fun _ => {}) s.port.asrc e
def Asrc.setEng (s : State) (e : Nat) (x : AsrcEng) : State :=
  { s with port := { s.port with asrc := Tab.set (fun _ => {}) s.port.asrc e x } }

/-- The binding of a value of ASRC_BIND: page, direction and first channel; `none` where it names no port, an absent port or a
channel past the port's last. -/
def Asrc.target (s : State) (w : Word) : Option (Nat × Bool × Nat) :=
  let k := fld w 7 6
  if k = 0 then none
  else
    let p := Port.pageOf k (fld w 3 0)
    let first := 16 * fld w 13 12
    if Port.kind p = k ∧ pagePresent s.variant p ∧ first < Port.chans p then some (p, bit w 8, first) else none

/-- Engines bound to a direction, lowest first. -/
def Asrc.gang (s : State) (p : Nat) (tx : Bool) : List Nat :=
  (List.range 8).filter (fun e =>
    match Asrc.target s (s.ef (Reg.asrcBind e)) with
    | some (q, t, _) => q == p && t == tx
    | none => false)

/-- The engine that converts a channel. -/
def Asrc.cover (s : State) (p : Nat) (tx : Bool) (k : Nat) : Option Nat :=
  (Asrc.gang s p tx).find? (fun e => 16 * fld (s.ef (Reg.asrcBind e)) 13 12 == k / 16 * 16)

/-- At least one engine is bound (R338). [DESIGN CHOICE, safe: log entry 77] -/
def Port.converted (s : State) (p : Nat) (tx : Bool) : Bool := !(Asrc.gang s p tx).isEmpty

/-- The condition of R338: a synchronous direction whose configured rate is not Fr, or a converted one with a channel that
no engine covers. -/
def Port.unconverted (s : State) (p : Nat) (tx : Bool) : Bool :=
  if Port.converted s p tx then (Port.carried s p tx).any (fun k => (Asrc.cover s p tx k).isNone)
  else Port.rateCode s p tx != s.clk.rate

/-! ### Starting and stopping (R346 to R348) -/

def Port.rampFrames (s : State) (p : Nat) : Nat := s.ms (s.efF (Port.reg p 0x54) 9 0)

/-- Every channel's fade re-aimed at frame `n` toward `t` over `r` frames. -/
def PortDir.aimAll (d : PortDir) (chans n r : Nat) (t : Int) : PortDir :=
  { d with fade := (List.range chans).foldl (fun f k =>
      Tab.set (fun _ => {}) f k ((Tab.get (fun _ => ({} : Ramp)) f k).aim n (n + r) t)) d.fade }

/-- Directions that a start or stop of `tx` moves: a serial port's two move together. -/
def Port.dirs (p : Nat) (tx : Bool) : List Bool := if Port.kind p = 1 then [false, true] else [tx]

def Port.mapDirs (s : State) (p : Nat) (tx : Bool) (f : PortDir → PortDir) : State :=
  (Port.dirs p tx).foldl (fun s t =>
    let x := Port.pg s p
    Port.setPg s p (x.setDir t (f (x.dir t)))) s

/-- The instant of the first frame start of a port rate at or after now. [DEDUCED, unsafe: log entry 76] -/
def Port.frameStart (s : State) (code : Nat) : Nat :=
  if code = 0 then s.clk.stake else cdiv (cdiv (s.clk.stake * rateHz code) secU * secU) (rateHz code)

/-- The lead-in begins. [DEDUCED, unsafe: log entry 76] -/
def Port.beginLead (s : State) (p : Nat) (tx : Bool) : State :=
  let at_ := Port.frameStart s (Port.rateCode s p tx)
  Port.mapDirs s p tx (fun d => { d with state := 1, waitLock := false, leadAt := at_, frames := 0, fade := [] })

/-- PORT_START: step 1 of R347 with the settings in force; a receiver waits for its lock. A direction that clocks itself at Fr
has no frame start while no rate is in force, and starts at a later rate (R38). [DEDUCED, unsafe: log entry 76] -/
def Port.start (s : State) (p : Nat) (tx : Bool) : State :=
  if Port.kind p = 0 ∨ (Port.pg s p |>.dir tx).state ≠ 0 ∨ !Port.isOn s p tx ∨ Port.madiInactive s p tx then s
  else
    let x := Port.pg s p
    let x := if Port.kind p = 1 then { x with fmt := s.ef (Port.reg p 0x40), rate := Port.rateField s p tx } else x
    let s1 := Port.setPg s p x
    let s2 := (Port.dirs p tx).foldl (fun s t =>
      let x := Port.pg s p
      let m := if Port.kind p = 1 then s.efF (if t then Port.reg p 0x4C else Port.reg p 0x48) 15 0 else 0
      Port.setPg s p (x.setDir t { (x.dir t) with mask := m, toSet := [], toClear := [], stopping := false, rateLead := false })) s1
    if Port.ownClock x p tx ∧ Port.rateField s p tx = 0 ∧ s.clk.rate = 0 then s
    else if Port.ownClock x p tx ∨ x.locked then Port.beginLead s2 p tx
    else Port.mapDirs s2 p tx (fun d => { d with waitLock := true })

/-- LEADIN_END: step 3 of R347, or step 6 of R38. The count runs at the port rate; a receiver's frames are counted as they
come. [DEDUCED, unsafe: log entry 76] -/
def Port.leadinEnd (s : State) (p : Nat) (tx : Bool) : State :=
  let d := (Port.pg s p).dir tx
  let cnt := s.efF (Port.reg p 0x50) 15 0
  if Port.kind p = 0 ∨ d.state ≠ 1 then s
  else if ¬ Port.ownClock (Port.pg s p) p tx ∧ d.frames < cnt then s
  else
    let s1 := if Port.ownClock (Port.pg s p) p tx then
        s.toStake (d.leadAt + cdiv (cnt * secU) (rateHz (Port.rateCode s p tx))) else s
    let n := s1.clk.frame
    let r := if d.rateLead then s1.ms 20 else Port.rampFrames s1 p
    Port.mapDirs s1 p tx (fun d => { (d.aimAll (Port.chans p) n r one30) with state := 2, rateLead := false })

/-- The stop sequence begins (R348): the channels fade to zero. -/
def Port.stop (s : State) (p : Nat) (tx : Bool) : State :=
  let n := s.clk.frame
  let r := Port.rampFrames s p
  let s1 := Port.mapDirs s p tx (fun d =>
    if d.state = 0 then { d with waitLock := false }
    else if d.stopping then d
    else { (d.aimAll (Port.chans p) n r 0) with stopping := true })
  if r = 0 ∧ (tx ∨ Port.kind p = 1) then Port.setPg s1 p { (Port.pg s1 p) with outReg := [] } else s1

/-- PORT_STOP: a direction whose enable is clear and whose stop has not begun. -/
def Port.stopCmd (s : State) (p : Nat) (tx : Bool) : State :=
  if Port.kind p = 0 ∨ Port.isOn s p tx then s else Port.stop s p tx

/-- PORT_FADE_END: the lead-out begins. -/
def Port.fadeEnd (s : State) (p : Nat) (tx : Bool) : State :=
  let d := (Port.pg s p).dir tx
  if d.stopping ∧ d.state ≠ 3 ∧ d.fade.all (fun e => decide (e.2.h ≤ s.clk.frame)) then
    let t := Port.frameStart s (Port.rateCode s p tx)
    Port.mapDirs s p tx (fun d => { d with state := 3, leadAt := t, frames := 0 })
  else s

/-- The direction's clocks and line coding have stopped. -/
def PortDir.halted (d : PortDir) : PortDir := { d with state := 0, stopping := false, waitLock := false, rateLead := false, fade := [] }

/-- LEADOUT_END: the clocks stop at a frame boundary. [DEDUCED, unsafe: log entry 76] -/
def Port.leadoutEnd (s : State) (p : Nat) (tx : Bool) : State :=
  let d := (Port.pg s p).dir tx
  if d.state ≠ 3 ∨ d.rateLead then s
  else
    let cnt := s.efF (Port.reg p 0x50) 31 16
    let s1 := s.toStake (d.leadAt + cdiv (cnt * secU) (rateHz (Port.rateCode s p tx)))
    let s2 := Port.mapDirs s1 p tx PortDir.halted
    if tx ∨ Port.kind p = 1 then Port.setPg s2 p { (Port.pg s2 p) with outReg := [], outStd := [], outPin := [], auxPin := [] } else s2

/-- Mask bits whose frame sync has come: newly set ones start to fade in, faded-out ones clear (R343). [DEDUCED, unsafe: log entry 81] -/
def Port.maskApply (s : State) (p : Nat) (tx : Bool) : State :=
  if Port.kind p ≠ 1 then s
  else
    let x := Port.pg s p
    let d := x.dir tx
    let n := s.clk.frame
    let r := Port.rampFrames s p
    let due := (d.toSet.filter (fun e => e.2 ≤ s.clk.stake)).map (·.1)
    let gone := (d.toClear.filter (fun e => decide (e.2 ≤ s.clk.stake) &&
      decide ((Tab.get (fun _ => ({} : Ramp)) d.fade e.1).h ≤ n))).map (·.1)
    let m := (List.range 16).foldl (fun m k =>
      if k ∈ due then m ||| 1 <<< k else if k ∈ gone ∧ m.testBit k then m ^^^ 1 <<< k else m) d.mask
    let f := due.foldl (fun f k =>
      if d.state = 2 ∧ !d.stopping then Tab.set (fun _ => {}) f k ({ v0 := 0, v1 := one30, s := n, h := n + r } : Ramp) else f) d.fade
    Port.setPg s p (x.setDir tx { d with mask := m, fade := f, toSet := d.toSet.filter (fun e => !(e.1 ∈ due)),
                                         toClear := d.toClear.filter (fun e => !(e.1 ∈ gone)) })

/-- The first frame sync at or after Stake instant `t`: a leader's lie at its frame starts, a follower's where the pins show them. -/
def Port.syncFrom (s : State) (p t : Nat) : Nat :=
  let f := rateHz (Port.rateCode s p true)
  if Port.leader (Port.pg s p) ∧ f ≠ 0 then cdiv (cdiv (t * f) secU * secU) f else t

/-- A commit changes a mask at frame `n` (R343). [DEDUCED, unsafe: log entry 81] -/
def Port.maskChange (s : State) (p : Nat) (tx : Bool) (old new n : Nat) : State :=
  let x := Port.pg s p
  let d := x.dir tx
  let r := Port.rampFrames s p
  let wait := Port.syncFrom s p (s.clk.stake + Port.fourBclk s p)
  let fadeEnd := Port.syncFrom s p (s.clk.stake + Port.fourBclk s p + (if s.rateOn then cdiv (r * secU) (rateHz s.clk.rate) else 0))
  let on := (List.range 16).filter (fun k => new.testBit k && !old.testBit k)
  let off := (List.range 16).filter (fun k => old.testBit k && !new.testBit k)
  if d.state = 0 then Port.setPg s p (x.setDir tx { d with mask := new, toSet := [], toClear := [] })
  else
    let f := off.foldl (fun f k =>
      Tab.set (fun _ => {}) f k ((Tab.get (fun _ => ({} : Ramp)) f k).aim n (n + r) (if r = 0 then (Tab.get (fun _ => ({} : Ramp)) f k).at n else 0))) d.fade
    let keep (l : List (Nat × Nat)) := l.filter (fun e => !(e.1 ∈ on) && !(e.1 ∈ off))
    Port.setPg s p (x.setDir tx { d with
      fade := f, toSet := keep d.toSet ++ on.map (fun k => (k, wait)), toClear := keep d.toClear ++ off.map (fun k => (k, fadeEnd)) })

/-! ### Locks and the rate meter (R350, R353, R360, R361) -/

/-- The page's receiver can lock: an enabled follower, AES3 or MADI input. -/
def Port.receiver (s : State) (p : Nat) : Bool :=
  Port.isOn s p false && (if Port.kind p = 1 then !bit (s.ef (Port.reg p 0x40)) 3 else Port.kind p != 0)

/-- RECEIVER_LOCK. -/
def Port.lock (s : State) (p : Nat) : State :=
  let x := Port.pg s p
  if !Port.receiver s p ∨ x.locked then s
  else
    let s1 := (Port.setPg s p { x with locked := true, group := 0, nextTag := none }).irq p 1
    let d := x.rx
    if d.waitLock then Port.beginLead s1 p false
    else if d.state = 2 ∧ !d.stopping then
      -- the input fades in again (R353)
      let d' := ({ d with fade := [] } : PortDir).aimAll (Port.chans p) s.clk.frame (Port.rampFrames s p) one30
      Port.setPg s1 p { (Port.pg s1 p) with rx := d' }
    else s1

/-- RECEIVER_LOCK_LOSS. -/
def Port.lockLoss (s : State) (p : Nat) : State :=
  let x := Port.pg s p
  if !x.locked then s
  else
    let s1 := (Port.setPg s p { x with locked := false, group := 0, nextTag := none }).irq p 1
    if Port.kind p = 3 then s1.fault' p 0x80 else s1

/-- off_nominal: more than 1,000 ppm from the class's nominal rate. -/
def offNominal (mhz cls : Nat) : Bool :=
  rateHz cls != 0 && decide (rateHz cls < ((mhz : Int) - (rateHz cls * 1000 : Nat)).natAbs)

/-! ### ASRC (R363 to R368) -/

/-- Rate of a direction in mHz: the measured rate of an input, the configured one of an output. -/
def Port.mhz (s : State) (p : Nat) (tx : Bool) : Nat :=
  if tx then rateHz (Port.rateCode s p true) * 1000 else (s.rd (Port.reg p 0x68)).toNat

/-- G_a in ns (R366). -/
def Asrc.groupDelay (s : State) (e : Nat) : Nat :=
  match Asrc.target s (s.ef (Reg.asrcBind e)) with
  | none => 0
  | some (p, tx, _) =>
    let fr := rateHz s.clk.rate * 1000
    let fin := if tx then fr else Port.mhz s p false
    let fout := if tx then Port.mhz s p true else fr
    if fin = 0 ∨ fout = 0 then 0
    else
      let a := if s.efB (Reg.asrcCfg e) 4 then 8 else 32
      let lo := min fin fout
      (roundDiv (1000000000000 * ((a * fin + 6 * lo : Nat) : Int)) (lo * fin)).toNat

/-- The gang whose leader is engine `e`, or that contains it. -/
def Asrc.gangOf (s : State) (e : Nat) : List Nat :=
  match Asrc.target s (s.ef (Reg.asrcBind e)) with
  | none => []
  | some (p, tx, _) => Asrc.gang s p tx

def Asrc.isLeader (s : State) (e : Nat) : Bool := (Asrc.gangOf s e).head? == some e

/-- ASRC_STATUS. -/
def Asrc.status (s : State) (e : Nat) : Word :=
  let x := Asrc.eng s e
  w32 (b2n (Asrc.isLeader s e) * 4 + b2n (x.locked && decide (s.clk.mono < x.narrowAt)) * 2 + b2n x.locked)

/-- The frame in which a change of lock shows: on the active of a pair the first that is not sealed yet, so that its record names
the change to the standby (R362, R547); else the frame in progress. [DEDUCED, unsafe: log entry 164] -/
def Asrc.lockFrame (s : State) : Nat :=
  if s.hoop.state = 5 ∧ s.hoop.link then (if s.hoop.lastSeal = some s.clk.nextTick then s.clk.nextTick + 1 else s.clk.nextTick)
  else s.clk.frame

/-- An engine unlocks: from frame `n` it fades out over 5 ms at the last ratio (R365). -/
def Asrc.unlockOne (s : State) (e code n : Nat) : State :=
  let x := Asrc.eng s e
  if !x.locked then s
  else
    ((Asrc.setEng s e { x with locked := false, fade := x.fade.aim n (n + s.ms 5) 0 }).irq (Asrc.page e) 1).fault' (Asrc.page e) code

/-- ASRC_UNLOCK: the gang of engine `e` unlocks; `range` says that the ratio left 1/8 to 8 (R364). -/
def Asrc.unlock (s : State) (e : Nat) (range : Bool) : State :=
  if s.isStandby then s else (Asrc.gangOf s e).foldl (fun s k => Asrc.unlockOne s k (if range then 0x82 else 0x81) (Asrc.lockFrame s)) s

/-- The gang led by `e` locks at ratio `r` (Q8.40) and input sample index `pos` (Q.40), and fades in over 20 ms from frame `n`
(R365, R368). -/
def Asrc.lockAt (s : State) (e r pos n : Nat) : State :=
  (Asrc.gangOf s e).foldl (fun s k =>
    if !s.unitOn (Asrc.page k) then s
    else
      let s1 := Asrc.setEng s k { (Asrc.eng s k) with
        locked := true, pos := pos, narrowAt := s.clk.mono + secU, fade := (Asrc.eng s k).fade.aim n (n + s.ms 20) one30 }
      ((s1.wr (Reg.asrcRatioLo k) (w32 r)).wr (Reg.asrcRatioHi k) (w32 (r / 2 ^ 32))).irq (Asrc.page k) 0) s

/-- On a Hoop standby, the leader `e` takes ratio and input sample index of the active at frame `n`, and locks and unlocks with it
(R362, R368). [DEDUCED, unsafe: log entry 164] -/
def Asrc.follow (s : State) (e r pos n : Nat) : State :=
  if r = 0 then (Asrc.gangOf s e).foldl (fun s k => Asrc.unlockOne s k 0x81 n) s
  else if (Asrc.eng s e).locked then
    (Asrc.gangOf s e).foldl (fun s k =>
      (Asrc.setEng s k { (Asrc.eng s k) with pos := pos }).wr64 (Reg.asrcRatioLo k) (Reg.asrcRatioHi k) r) s
  else Asrc.lockAt s e r pos n

/-- ASRC_LOCK: the gang led by `e` declares lock at ratio `r` (Q8.40), and fades in over 20 ms (R364, R365); a ratio outside
1/8 to 8 keeps it unlocked with code 0x82. No rule gives the input sample index at lock: it is a free value. -/
def Asrc.lock (s : State) (e r : Nat) : State :=
  if !Asrc.isLeader s e ∨ !s.unitOn (Asrc.page e) ∨ (Asrc.eng s e).locked ∨ s.isStandby then s
  else if r < 2 ^ 37 ∨ 2 ^ 43 < r then s.fault' (Asrc.page e) 0x82
  else
    let (v, s1) := s.drawFree
    Asrc.lockAt s1 e r v.toNat (Asrc.lockFrame s1)

/-- RATE_MEASURE of input page `p`: `cnt` frame syncs from Stake instant `t0` to `t1` fell in the gate (R360, R361). A leader
frames its own input, so its figure is its port rate. [DEDUCED, safe: log entry 78] -/
def Port.measure (s : State) (p cnt t0 t1 : Nat) : State :=
  if Port.kind p = 0 ∨ !Port.isOn s p false then s
  else
    let own := Port.kind p = 1 ∧ Port.leader (Port.pg s p)
    let mhz := if own then (if (Port.pg s p).tx.state = 0 then 0 else rateHz (Port.rateCode s p false) * 1000)
      else s.measuredMhz cnt t0 t1
    let cls := rateClassOf mhz
    let old := s.rdF (Port.reg p 0x6C) 2 0
    let s1 := (s.wr (Port.reg p 0x68) (w32 (satU 32 mhz))).wr (Port.reg p 0x6C) (w32 (cls + 8 * b2n (offNominal mhz cls)))
    if cls = old then s1
    else (Asrc.gang s1 p false).foldl (fun s e => if s.isStandby then s else Asrc.unlockOne s e 0x81 (Asrc.lockFrame s)) (s1.irq p 0)

/-! ### Input frames (R341, R350 to R357) -/

/-- A frame enters the buffer of four, and takes the next tag of its group (R357, R359). -/
def Port.push (s : State) (p : Nat) (f : InFrame) : State :=
  let x := Port.pg s p
  let f := { f with tag := x.nextTag }
  let b := x.buf ++ [f]
  Port.setPg s p { x with
    buf := b.drop (b.length - 4), lastIn := f.vals, nextTag := x.nextTag.map (· + 1)
    rx := { x.rx with frames := x.rx.frames + 1 } }

/-- PORT_INPUT_FRAME: a serial frame whose slots carried `words` ends now; a leader's frames end where its frames start
(R339, R341, R345). -/
def Port.inputFrame (s : State) (p : Nat) (words : List Nat) : State :=
  let x := Port.pg s p
  if Port.kind p ≠ 1 ∨ !s.pageUp p ∨ x.rx.state = 0 ∨ !(Port.leader x || x.locked) then s
  else
    let db := Port.dataBits x.fmt
    let code := Port.rateCode s p false
    let fin := if Port.leader x ∧ code ≠ 0 then cdiv (s.clk.stake * rateHz code / secU * secU) (rateHz code) else s.clk.stake
    Port.push s p { finish := fin, vals := (List.range (Port.slots x)).map (fun k => signed db (nth 0 words k) * 2 ^ (32 - db)) }

/-- The sample of a subframe on a channel, and whether it is missing (R353). -/
def Port.subSample (word20 vMode : Bool) (last : Int) (f : Subframe) : Int × Bool :=
  let (w, v, _, e) := f
  let w := if word20 then w / 16 * 16 else w
  if e ∨ (vMode ∧ v) then (last, true) else (signed 24 w * 256, false)

/-- AES_INPUT_FRAME. [DEDUCED, unsafe: log entry 79] -/
def Port.aesFrame (s : State) (i : Nat) (a b : Subframe) : State :=
  let p := 0x30 + i
  let x := Port.pg s p
  if 8 ≤ i ∨ !Port.isOn s p false ∨ !x.locked ∨ x.rx.state = 0 then s
  else
    let cfg := s.ef (Reg.aesRxCfg i)
    let one (k : Nat) (f : Subframe) := Port.subSample (bit cfg 2) (bit cfg 1) (nth 0 x.lastIn k) f
    let par := b2n a.2.2.2 + b2n b.2.2.2
    let inv (f : Subframe) := b2n (bit cfg 1 && f.2.1)
    let s1 := Port.push s p { finish := s.clk.stake, vals := [(one 0 a).1, (one 1 b).1],
                              aux := [(a.2.1, a.2.2.1), (b.2.1, b.2.2.1)] }
    let s2 := (s1.count (Reg.aesParityCount i) par).count (Reg.aesValidityCount i) (inv a + inv b)
    if par = 0 then s2 else s2.fault' p 0x81

/-- MADI_INPUT_FRAME: a link frame of 64 subframes; at 88.2 and 96 kHz it carries two samples of each channel (R355, R356).
[DEDUCED, unsafe: log entry 83] -/
def Port.madiFrame (s : State) (i : Nat) (sub : List Subframe) : State :=
  let p := 0x38 + i
  let x := Port.pg s p
  if 4 ≤ i ∨ !Port.isOn s p false ∨ !x.locked ∨ x.rx.state = 0 ∨ Port.madiInactive s p false then s
  else
    let v := s.efB (Reg.madiCfg i) 2
    let code := Port.rateCode s p false
    let chs := Port.carried s p false
    let get (j : Nat) : Subframe := nth (0, false, false, false) sub j
    let frame (last : List Int) (sel : Nat → Nat) := chs.map (fun k => (Port.subSample false v (nth 0 last k) (get (sel k))).1)
    let used := if 3 ≤ code then chs.flatMap (fun k => [2 * k, 2 * k + 1]) else chs
    let par := (used.filter (fun j => (get j).2.2.2)).length
    let s1 := if 3 ≤ code then
        let v0 := frame x.lastIn (fun k => 2 * k)
        let half := cdiv secU (rateHz code)
        Port.push (Port.push s p { finish := s.clk.stake - half, vals := v0 }) p
          { finish := s.clk.stake, vals := frame v0 (fun k => 2 * k + 1) }
      else Port.push s p { finish := s.clk.stake, vals := frame x.lastIn id }
    let s2 := s1.count (Reg.madiParityCount i) par
    if par = 0 then s2 else s2.fault' p 0x81

/-- The CRCC of AES3 over bytes in transmission order, least significant bit first, preset to ones (R351). -/
def crcc (l : List Byte) : Nat :=
  l.foldl (fun c b => (List.range 8).foldl (fun c _ => if c % 2 = 1 then (c / 2) ^^^ 0xB8 else c / 2) (c ^^^ b.toNat)) 0xFF

/-- AES_CS_BLOCK: 24 bytes of channel status of subframe A (`b` false) or B (R351). [DEDUCED, unsafe: log entry 79] -/
def Port.csBlock (s : State) (i : Nat) (b : Bool) (bytes : List Byte) : State :=
  let p := 0x30 + i
  if 8 ≤ i ∨ !Port.isOn s p false ∨ !(Port.pg s p).locked then s
  else
    let byte (k : Nat) : Byte := nth 0 bytes k
    let prof := (byte 0).getLsbD 0
    if prof ∧ crcc ((List.range 23).map byte) ≠ (byte 23).toNat then
      ((s.count (Reg.aesCrccCount i) 1).irq p 5).fault' p 0x80
    else
      let word (k : Nat) : Word := w32 (ofLe ((List.range 4).map (fun j => byte (4 * k + j))))
      let reg (k : Nat) := if b then Reg.aesRxCsb i k else Reg.aesRxCsa i k
      let changed := (List.range 6).any (fun k => s.rd (reg k) != word k)
      let s1 := (List.range 6).foldl (fun s k => s.wr (reg k) (word k)) s
      if changed then s1.irq p 6 else s1

/-! ### The latch at a tick (R35, R357 to R359) -/

/-- The aligned group of an input: the page's group field while the input is synchronous and runs. -/
def Port.groupOf (s : State) (p : Nat) : Nat :=
  let x := Port.pg s p
  if x.rx.state ≠ 2 ∨ x.rx.stopping ∨ Port.converted s p false then 0
  else if Port.kind p = 1 then (if Port.leader x || x.locked then s.efF (Port.reg p 0x58) 3 0 else 0)
  else if !x.locked then 0
  else if Port.kind p = 2 then s.efF (Port.reg p 0x40) 7 4
  else s.efF (Port.reg p 0x40) 11 8

/-- Index of the most recent frame that finished at or before `t`. -/
def newestBefore (b : List InFrame) (t : Nat) : Option Nat :=
  ((List.range b.length).filter (fun i => decide ((b.getD i {}).finish ≤ t))).getLast?

/-- A group's members are tagged afresh when one joins (R359). [DEDUCED, unsafe: log entry 80] -/
def Port.tagFrames (x : PortPg) (t n : Nat) : PortPg :=
  match newestBefore x.buf t with
  | none => { x with buf := x.buf.zipIdx.map (fun e => { e.1 with tag := some (n + 1 + e.2) }), nextTag := some (n + 1 + x.buf.length) }
  | some i =>
    { x with buf := x.buf.zipIdx.map (fun e => { e.1 with tag := if e.2 < i then none else some (n + (e.2 - i)) })
             nextTag := some (n + (x.buf.length - i)) }

/-- Input pages that hold anything. -/
def Port.live (s : State) : List Nat := (Tab.keys s.port.pages).filter (fun p => decide (Port.kind p ≠ 0) && s.pageUp p)

/-- Groups form and members join before the latch of tick `n`, whose frames finish by `t`. [DEDUCED, unsafe: log entry 80] -/
def Port.regroup (s : State) (t n : Nat) : State :=
  let ps := Port.live s
  let joined := (ps.filter (fun p => Port.groupOf s p ≠ (Port.pg s p).group)).map (Port.groupOf s)
  let s1 := ps.foldl (fun s p =>
    let x := Port.pg s p
    let g := Port.groupOf s p
    Port.setPg s p { x with group := g, nextTag := if g = 0 then none else x.nextTag }) s
  ps.foldl (fun s p =>
    let x := Port.pg s p
    if x.group ≠ 0 ∧ x.group ∈ joined then Port.setPg s p (Port.tagFrames x t n) else s) s1

/-- A latch takes frame `f` of the buffer and leaves `rest`. [DESIGN CHOICE, safe: log entry 77] -/
def Port.take (s : State) (p : Nat) (f : InFrame) (rest : List InFrame) : State :=
  Port.setPg s p { (Port.pg s p) with latched := f.vals, latchedAux := f.aux, buf := rest }

/-- A synchronous input latches at tick `n` (R358, R359); on a standby in step the active's decision stands (R362). [DEDUCED, unsafe: log entry 80] -/
def Port.latchSync (s : State) (p t n : Nat) : State :=
  let x := Port.pg s p
  let phase (s : State) (f : InFrame) := s.wr (Port.reg p 0x64) (w32 ((t - f.finish) / nsU))
  match Tab.get (fun _ => none) s.port.forced p with
  | some (kind, phi) =>
    let s1 := s.wr (Port.reg p 0x64) (w32 phi)
    let k := kind - 1
    -- a member of an aligned group repeats without a slip, and realigns (R359)
    if kind = 1 then (if x.group ≠ 0 then s1 else (s1.count (Port.reg p 0x70) 1).irq p 2)
    else
      let s2 := if kind < 2 then s1
        else if x.group ≠ 0 then (s1.count (Port.reg p 0x78) 1).irq p 3 else (s1.count (Port.reg p 0x74) k).irq p 2
      match x.buf[k]? with
      | some f => Port.take s2 p f (x.buf.drop (k + 1))
      | none => s2
  | none =>
    if x.group ≠ 0 then
      match x.buf.findIdx? (fun f => f.tag == some n) with
      | none => s
      | some i =>
        let f := x.buf.getD i {}
        let s1 := phase (Port.take s p f (x.buf.drop (i + 1))) f
        if 0 < i then (s1.count (Port.reg p 0x78) 1).irq p 3 else s1
    else
      match newestBefore x.buf t with
      | none => (s.count (Port.reg p 0x70) 1).irq p 2
      | some i =>
        let f := x.buf.getD i {}
        let s1 := phase (Port.take s p f (x.buf.drop (i + 1))) f
        if 0 < i then (s1.count (Port.reg p 0x74) i).irq p 2 else s1

/-- The fade of a channel in frame `n`. -/
def PortDir.gain (d : PortDir) (k n : Nat) : Int := (Tab.get (fun _ => ({} : Ramp)) d.fade k).at n

/-- An engine gives signal: it is locked or still fading out, and enabled. -/
def Asrc.gives (s : State) (e n : Nat) : Bool :=
  s.unitOn (Asrc.page e) && ((Asrc.eng s e).locked || decide (((Asrc.eng s e).fade).at n ≠ 0))

/-- Samples of a converted direction: the engines' output is free within its fade, and zero without lock (R365). -/
def Port.convert (s : State) (p : Nat) (tx : Bool) (n : Nat) : List Int × State :=
  (List.range (Port.chans p)).foldl (fun (r : List Int × State) k =>
    match Asrc.cover s p tx k with
    | none => (r.1 ++ [0], r.2)
    | some e =>
      if Asrc.gives s e n then
        let (v, s') := r.2.drawSample
        (r.1 ++ [satS 32 (rnd 30 (v * ((Asrc.eng s e).fade).at n))], s')
      else (r.1 ++ [0], r.2)) ([], s)

/-- One output sample of a converted direction: the ratio of the gang's leader adds to the input sample index of its engines that
give signal (R363, R368). -/
def Asrc.step (s : State) (p : Nat) (tx : Bool) (n : Nat) : State :=
  let es := Asrc.gang s p tx
  match es.head? with
  | none => s
  | some l =>
    let r := s.rd64 (Reg.asrcRatioLo l) (Reg.asrcRatioHi l)
    es.foldl (fun s e => if Asrc.gives s e n then Asrc.setEng s e { (Asrc.eng s e) with pos := (Asrc.eng s e).pos + r } else s) s

/-- A direction runs and meets the condition of R338. -/
def Port.mismatched (s : State) (p : Nat) (tx : Bool) : Bool :=
  decide (((Port.pg s p).dir tx).state ≠ 0) && Port.unconverted s p tx

/-- Code 0x82 at the first tick at which the condition of R338 holds, once for the directions that meet it at that tick. -/
def Port.checkConversion (s : State) (p : Nat) : State :=
  let x := Port.pg s p
  let rxBad := Port.mismatched s p false
  let txBad := Port.mismatched s p true
  let s1 := Port.setPg s p { x with rx := { x.rx with unconv := rxBad }, tx := { x.tx with unconv := txBad } }
  if (rxBad && !x.rx.unconv) || (txBad && !x.tx.unconv) then (s1.fault' p 0x82).irq p 4 else s1

/-- Step 1 of R25 for one page at tick `n`; frames that finished by `t` count. [DEDUCED, unsafe: log entry 80] -/
def Port.latchPage (s : State) (p t n : Nat) : State :=
  let s1 := Port.checkConversion s p
  let x := Port.pg s1 p
  let s2 : State :=
    if x.rx.state ≠ 2 then Port.setPg s1 p { x with latched := [], latchedAux := [], buf := x.buf.filter (fun f => decide (t < f.finish)) }
    else if Port.converted s1 p false then
      let (v, s') := Port.convert (Asrc.step s1 p false n) p false n
      Port.setPg (s'.wr (Port.reg p 0x64) 0) p { (Port.pg s' p) with latched := v, buf := [] }
    else Port.latchSync s1 p t n
  s2

/-- Input channel `k` of page `p` in frame `n`, as the Router reads it. -/
def Port.input (s : State) (p k n : Nat) : Int :=
  let x := Port.pg s p
  if x.rx.state ≠ 2 ∨ !s.pageUp p ∨ (!Port.converted s p false && x.rx.unconv) ∨ !((Port.carried s p false).contains k) then 0
  else satS 32 (rnd 30 (nth 0 x.latched k * x.rx.gain k n))

/-- All port inputs latch at tick `n`. [DEDUCED, unsafe: log entry 80] -/
def Port.latch (s : State) (n : Nat) : State :=
  let t := tickAt s.clk.rate (n - 1)
  let s1 := Port.regroup s t n
  let s2 := (Port.live s1).foldl (fun s p => Port.latchPage s p t n) s1
  { s2 with port := { s2.port with forced := [] } }

/-! ### Outputs (R30, R341, R342, R344, R345, R349, R352, R354) -/

/-- A sample rounded to `b` bits, ties toward +∞, saturated, at the top of a Q1.31 word (R341). -/
def roundTo (b : Nat) (x : Int) : Int := if b = 32 then satS 32 x else satS b (rnd (32 - b) x) * 2 ^ (32 - b)

/-- Bits of an output word. -/
def Port.outBits (s : State) (p : Nat) : Nat :=
  if Port.kind p = 1 then Port.dataBits (Port.pg s p).fmt
  else if Port.kind p = 2 ∧ s.efB (Port.reg p 0x44) 2 then 20 else 24

/-- Step 7 of R25: the page's output register takes frame `n`; `z k` is the Router's sample for channel `k`, and `keep k` says that
a faulty unit has not loaded it (R29). [DESIGN CHOICE, safe: log entry 77] -/
def Port.load (s : State) (p n : Nat) (keep : Nat → Bool) (z : Nat → Int) : State :=
  let x := Port.pg s p
  let g := s.port.outGain.at n
  let carried := Port.carried s p true
  let run := x.tx.state = 2 ∧ !(x.tx.unconv && !Port.converted s p true)
  let v := (List.range (Port.chans p)).map (fun k =>
    if keep k then nth 0 x.outReg k
    else if run ∧ carried.contains k then roundTo (Port.outBits s p) (satS 32 (rnd 60 (z k * x.tx.gain k n * g))) else 0)
  let src := if Port.kind p = 2 then s.efF (Port.reg p 0x44) 15 12 else 0
  let aux := if src = 0 then [] else (Port.pg s (0x30 + (src - 1))).latchedAux
  Port.setPg s p { x with outReg := v, auxReg := aux }

/-- The block to send next: byte 23 is the CRCC where crcc_auto and a professional block say so (R352). [DEDUCED, unsafe: log entry 79] -/
def Port.csToSend (s : State) (i : Nat) : List Word :=
  let ws := (List.range 6).map (fun k => s.ef (Reg.aesTxCs i k))
  let bytes := ws.flatMap (fun w => leBytes 4 w.toNat)
  if s.efB (Reg.aesTxCfg i) 3 ∧ bit (nth 0 ws 0) 0 then
    (ws.take 5) ++ [setFld (nth 0 ws 5) 31 24 (crcc (bytes.take 23))]
  else ws

/-- The page starts an output frame that carries `v` (R345, R352). -/
def Port.present (s : State) (p : Nat) (v : List Int) (aux : List (Bool × Bool)) : State :=
  let x := Port.pg s p
  if x.tx.state = 0 ∨ Port.madiInactive s p true then s
  else if Port.kind p = 2 then
    let blk := if x.txIndex = 0 then Port.csToSend s (p - 0x30) else x.txBlock
    Port.setPg s p { x with outPin := v, auxPin := aux, txBlock := blk, txIndex := (x.txIndex + 1) % 192 }
  else Port.setPg s p { x with outPin := v, auxPin := aux }

/-- At tick `n + 1` the Standard outputs that run on the ticks present frame `n` (R30). -/
def Port.presentTick (s : State) : State :=
  (Port.live s).foldl (fun s p =>
    let x := Port.pg s p
    let s1 := Port.setPg s p { x with outStd := x.outReg }
    if Port.ownClock x p true ∧ !Port.converted s p true ∧ !(Port.kind p == 1 && Port.early x) then
      Port.present s1 p x.outReg x.auxReg
    else s1) s

/-- The end of the direct window: Early outputs present frame `n` (R30, R344). -/
def Port.presentEarly (s : State) : State :=
  (Port.live s).foldl (fun s p =>
    let x := Port.pg s p
    if Port.kind p = 1 ∧ Port.leader x ∧ Port.early x ∧ !Port.converted s p true then Port.present s p x.outReg [] else s) s

/-- PORT_OUTPUT_FRAME: an output frame that does not start at a tick: a follower's, or a converted direction's (R345).
[DEDUCED, unsafe: log entry 82] -/
def Port.outputFrame (s : State) (p : Nat) : State :=
  let x := Port.pg s p
  if Port.kind p = 0 ∨ x.tx.state = 0 then s
  else if Port.converted s p true then
    let (v, s') := Port.convert (Asrc.step s p true s.clk.frame) p true s.clk.frame
    let v := if x.tx.state = 2 then v.map (roundTo (Port.outBits s p)) else []
    Port.present s' p v []
  else if Port.ownClock x p true then s
  else Port.present s p x.outStd []

/-- The page's outputs are driven at the pins: it runs, and the claim-gated enables are open (R349). -/
def Port.driven (s : State) (p : Nat) : Bool := s.enablesOpen && decide ((Port.pg s p).tx.state ≠ 0)

/-! #### Serial pins (R339 to R342, R344) -/

/-- BCLK periods of a serial frame; no slots clock as one. -/
def Port.frameBits (w : Word) : Nat := max 1 (fld w 21 17) * Port.slotBits w

/-- The level at DOUT in BCLK period `i` after the frame sync; none while it is undriven. In Early phase the frame starts e periods
later. -/
def Port.dout (s : State) (p i : Nat) : Option Bool :=
  let x := Port.pg s p
  let w := x.fmt
  let delay := if fld w 1 0 = 2 then b2n (bit w 13) else 1 - fld w 1 0
  let j := (((i : Int) - delay - Port.earlyBclk s p) % (Port.frameBits w : Nat)).toNat
  let slot := j / Port.slotBits w
  let b := j % Port.slotBits w
  if !Port.driven s p ∨ Port.kind p ≠ 1 then none
  else if (Port.carried s p true).contains slot then
    some (decide (b < Port.dataBits w) && (unsigned 32 (nth 0 x.outPin slot)).testBit (31 - b))
  else if bit w 16 then none else some false

/-- The level at a leader's FSYNC in BCLK period `i` after the frame sync (R340). -/
def Port.fsync (s : State) (p i : Nat) : Option Bool :=
  let w := (Port.pg s p).fmt
  let n := Port.frameBits w
  let j := i % n
  let level := match fld w 1 0 with
    | 0 => decide (n / 2 ≤ j)
    | 1 => decide (j < n / 2)
    | _ => decide (j < (if bit w 12 then Port.slotBits w else 1))
  if !Port.driven s p ∨ Port.kind p ≠ 1 ∨ !Port.leader (Port.pg s p) then none else some (level != bit w 15)

/-- The step of the edge grid, from its frame sync, at which a leader places BCLK's edge `k` of two per period (R339, R341). -/
def Port.bclkEdge (s : State) (p k : Nat) : Int :=
  roundDiv ((k * Pstg.edgeRate (Port.rateCode s p true) : Nat) : Int) (2 * Port.bclk s p)

/-- BCLK's level in half-period `k` after the frame sync: DOUT launches on falling edges, or on rising ones with bclk_inv (R341). -/
def Port.bclkLevel (s : State) (p k : Nat) : Option Bool :=
  let w := (Port.pg s p).fmt
  if !Port.driven s p ∨ Port.kind p ≠ 1 ∨ !Port.leader (Port.pg s p) then none else some ((k % 2 == 1) != bit w 14)

/-- A TDM port presents output in Early phase (STAKE_FRAME_STATUS early_active). -/
def Port.anyEarly (s : State) : Bool :=
  (Port.live s).any (fun p => Port.kind p == 1 && Port.early (Port.pg s p) && decide ((Port.pg s p).tx.state ≠ 0))

/-- PORT_STATUS: ψ = (T − φ − t_f) mod T of a follower (R345), e, locked and state. -/
def Port.status (s : State) (p : Nat) : Word :=
  let x := Port.pg s p
  let psi : Nat :=
    if Port.leader x ∨ x.tx.state = 0 ∨ !s.rateOn then 0
    else
      let t : Int := 1000000000 * 256 / rateHz s.clk.rate
      let tf : Int := 1000000000 * 256 / max 1 (rateHz (Port.rateCode s p false))
      let phi : Int := 256 * (s.rd (Port.reg p 0x64)).toNat
      ((t - phi - tf) % t / 256).toNat
  w32 (psi * 65536 + min 255 (Port.earlyBclk s p) * 256 + b2n x.locked * 4 + x.tx.state)

/-! ### Commits, resets and rate changes -/

/-- Own-range checks (R52 first stage; R340, R341, R355, R372 to R375). [DEDUCED, unsafe: log entry 83] -/
def Port.check1 (p : Nat) (f : Nat → Word) : Option Nat :=
  let ramp := 1000 < fld (f 0x54) 9 0
  if Port.kind p = 1 then
    let w := f 0x40
    let fs := fld w 21 17
    if fld (f 0x44) 2 0 = 7 ∨ ramp then some 0x01
    else if fld w 1 0 = 3 ∨ fld w 25 24 = 3 ∨ fld w 23 22 = 3 ∨ 16 < fs ∨ fld w 23 22 < fld w 25 24 ∨
        (fld w 1 0 < 2 ∧ fs ≠ 2) then some 0x81
    else none
  else if Port.kind p = 2 then
    if fld (f 0x44) 10 8 = 7 ∨ ramp then some 0x01 else none
  else if fld (f 0x40) 6 4 ≥ 5 ∨ ramp then some 0x01 else none

/-- Checks on device state (R52 second stage; R341, R344, R354). -/
def Port.check2 (s : State) (p : Nat) (new : Nat → Word) : Option Nat :=
  if Port.kind p = 1 then
    let w := new 0x40
    let r := fld (new 0x44) 2 0
    if 24576000 < bclkHz w (if r = 0 then s.clk.rate else r) then some 0x81
    else if bit w 4 ∧ (!bit w 3 ∨ Port.converted s p false ∨ Port.converted s p true) then some 0x80
    else none
  else if Port.kind p = 2 then
    let src := fld (new 0x44) 15 12
    if src = 0 then none
    else
      let q := 0x30 + (src - 1)
      if 8 < src ∨ !pagePresent s.variant q ∨ Port.converted s q false ∨ Port.converted s p true then some 0x83 else none
  else none

/-- The fields whose change on an enabled port stops and restarts it (R343). [DEDUCED, unsafe: log entry 81] -/
def Port.structMask : Nat := 0x03FE0018 + 3

/-- Commit hook: the page's effective set went from `old` to `new` at frame `n` (R343); what needs no restart takes effect at once, and a
direction that the commit disables begins its stop (R348). -/
def Port.commit (s : State) (p : Nat) (old new : Nat → Word) (n : Nat) : State :=
  if Port.kind p = 1 then
    let sm := w32 Port.structMask
    let s1 := if (old 0x40 &&& sm) ≠ (new 0x40 &&& sm) ∨ fld (old 0x44) 2 0 ≠ fld (new 0x44) 2 0 then Port.stop s p true else s
    let x := Port.pg s1 p
    let s1 := Port.setPg s1 p { x with fmt := (x.fmt &&& sm) ||| (new 0x40 &&& ~~~sm) }
    let s2 := if old 0x48 ≠ new 0x48 then Port.maskChange s1 p false (fld (old 0x48) 15 0) (fld (new 0x48) 15 0) n else s1
    if old 0x4C ≠ new 0x4C then Port.maskChange s2 p true (fld (old 0x4C) 15 0) (fld (new 0x4C) 15 0) n else s2
  else if Port.kind p = 2 then
    let s1 := if fld (old 0x44) 10 8 ≠ fld (new 0x44) 10 8 ∨ (bit (old 0x44) 0 && !bit (new 0x44) 0) then Port.stop s p true else s
    if bit (old 0x40) 0 && !bit (new 0x40) 0 then Port.stop s1 p false else s1
  else
    let rate := fld (old 0x40) 6 4 != fld (new 0x40) 6 4
    let s1 := if rate || (bit (old 0x40) 1 && !bit (new 0x40) 1) then Port.stop s p true else s
    if rate || (bit (old 0x40) 0 && !bit (new 0x40) 0) then Port.stop s1 p false else s1

/-- Commit hook of an ASRC page (R363, R365): a changed binding unlocks the engine; an invalid one records code 0x80. -/
def Asrc.commit (s : State) (e : Nat) (old new : Nat → Word) : State :=
  if old 0x40 = new 0x40 then s
  else
    let s1 := Asrc.setEng s e {}
    if fld (new 0x40) 7 6 ≠ 0 ∧ (Asrc.target s (new 0x40)).isNone then s1.fault' (Asrc.page e) 0x80 else s1

def Asrc.check1 (f : Nat → Word) : Option Nat :=
  if fld (f 0x44) 3 0 = 0 then some 0x01 else none

def Asrc.softReset (s : State) (e : Nat) : State := Asrc.setEng s e {}

/-- A change of enable of an ASRC page: a disabled engine is idle. -/
def Asrc.setEnable (s : State) (e : Nat) (b : Bool) : State := if b then s else Asrc.setEng s e {}

/-- A soft reset returns the pins to their reset states at once (R349). -/
def Port.softReset (s : State) (p : Nat) : State := Port.setPg s p {}

/-- Steps 2 of R38 and of R383: every output ramps to zero over 20 ms, from frame `n`. [DEDUCED, unsafe: log entry 34] -/
def Port.rampDown (s : State) (n : Nat) : State :=
  { s with port := { s.port with outGain := s.port.outGain.aim n (n + s.ms 20) 0, sinkGain := s.port.sinkGain.aim n (n + s.ms 20) 0 } }

/-- Ports present their lead-in and then start again, and the other outputs ramp up from the first tick: steps 5 and 6 of R38, step 5
of R383. [DEDUCED, unsafe: log entry 34] -/
def Port.restart (s : State) : State :=
  let s1 := (Tab.keys s.port.pages).foldl (fun s p =>
    [false, true].foldl (fun s t =>
      let d := (Port.pg s p).dir t
      if d.state = 1 ∨ d.state = 2 then
        if d.stopping then
          let x := Port.pg s p
          Port.setPg s p (x.setDir t d.halted)
        else
          let x := Port.pg s p
          Port.setPg s p (x.setDir t { d with state := 1, leadAt := s.clk.stake, frames := 0, rateLead := t, fade := [] })
      else s) s) s
  let n := s1.clk.nextTick
  { s1 with port := { s1.port with outGain := Ramp.const one30, sinkGain := { v0 := 0, v1 := one30, s := n, h := n + s1.ms 20 } } }

/-- A leader at Fr runs its lead-out before the rate goes to code 0; its clocks stop at S (R38). [DEDUCED, unsafe: log entry 34] -/
def Port.leadOut (s : State) : State :=
  (Tab.keys s.port.pages).foldl (fun s p =>
    let x := Port.pg s p
    if Port.kind p = 1 ∧ Port.leader x ∧ x.rate = 0 ∧ x.tx.state ≠ 0 ∧ x.tx.state ≠ 3 then
      Port.mapDirs s p true (fun d => { d with state := 3, rateLead := true, leadAt := s.clk.stake, frames := 0 })
    else s) s

/-- Enabled directions at Fr that no rate, or one that MADI lacks, has kept stopped start at the first tick of a rate: serial leaders,
AES3 and MADI transmitters, and MADI receivers (R38, R347, R355). -/
def Port.startWaiting (s : State) : State :=
  (rangeFrom 0x20 28).foldl (fun s p =>
    if !pagePresent s.variant p ∨ Port.rateField s p true ≠ 0 ∨ (Port.kind p = 1 ∧ ¬ bit (s.ef (Port.reg p 0x40)) 3) then s
    else
      let s1 := Port.start s p true
      if Port.kind p = 3 then Port.start s1 p false else s1) s

/-- Second S of a rate change to `code` (R38, R355, R365): engines unlock; leaders at Fr stop when no rate follows; the others
start over with their lead-in. -/
def Port.rateChange (s : State) (code : Nat) : State :=
  let s0 := (List.range 8).foldl (fun s e =>
    let s1 := Asrc.unlockOne s e 0x81 s.clk.frame
    Asrc.setEng s1 e { (Asrc.eng s1 e) with fade := (Asrc.eng s1 e).fade.finish }) s
  let s1 := (Tab.keys s0.port.pages).foldl (fun s p =>
    let x := Port.pg s p
    let fin (d : PortDir) : PortDir := { d with fade := d.fade.map (fun e => (e.1, e.2.finish)) }
    Port.setPg s p { x with rx := fin x.rx, tx := fin x.tx, buf := [], group := 0, nextTag := none }) s0
  if code = 0 then
    (Tab.keys s1.port.pages).foldl (fun s p =>
      let x := Port.pg s p
      if Port.kind p = 1 ∧ Port.leader x ∧ x.rate = 0 then
        Port.setPg s p { x with rx := x.rx.halted, tx := x.tx.halted, outReg := [], outStd := [], outPin := [] }
      else Port.setPg s p { x with outReg := [], outStd := [], outPin := [] }) s1
  else
    let s2 := Port.restart s1
    (Tab.keys s2.port.pages).foldl (fun s p =>
      if Port.kind p ≠ 3 ∨ code < 5 ∨ Port.rateField s p true ≠ 0 then s
      else
        let x := Port.pg s p
        let was := x.rx.state ≠ 0 ∨ x.tx.state ≠ 0
        let s' := Port.setPg s p { x with rx := x.rx.halted, tx := x.tx.halted, latched := [], outPin := [] }
        if was then s'.fault' p 0x83 else s') s2

/-! ### Host audio (R369 to R371, R376) -/

def HostAud.channels (s : State) (out : Bool) : Nat := s.efF (if out then Reg.hostAudOutCfg else Reg.hostAudInCfg) 8 0
/-- DEDUCED, unsafe: log entry 84. -/
def HostAud.slots (s : State) (out : Bool) : Nat := s.efF (if out then Reg.hostAudOutCfg else Reg.hostAudInCfg) 23 12
def HostAud.inHost (s : State) (out : Bool) : Bool := s.efB (if out then Reg.hostAudOutCfg else Reg.hostAudInCfg) 9
def HostAud.base (s : State) (out : Bool) : Nat :=
  if out then s.ef64 Reg.hostAudOutBaseLo Reg.hostAudOutBaseHi else s.ef64 Reg.hostAudInBaseLo Reg.hostAudInBaseHi

/-- The direction moves data: its page is enabled, and neither count is zero (R369). -/
def HostAud.active (s : State) (out : Bool) : Bool :=
  s.unitOn 1 && HostAud.channels s out != 0 && HostAud.slots s out != 0

/-- Address of the slot of frame `k`. -/
def HostAud.slotAddr (s : State) (out : Bool) (k : Nat) : Nat :=
  HostAud.base s out + (k % HostAud.slots s out) * (16 + 4 * HostAud.channels s out)

/-- HOST_AUDIO_IN_READ: the read of the slot for the next tick completes (R370). `data` holds the slot as the host's memory has
it; a ring at an internal address is read from there. -/
def HostAud.read (s : State) (data : List Byte) : State :=
  if !HostAud.active s false ∨ !s.rateOn then s
  else
    let k := s.clk.nextTick - 1 - s.efF Reg.hostAudInOffset 11 0
    let c := HostAud.channels s false
    let bytes := if HostAud.inHost s false then data else s.ldN (HostAud.slotAddr s false k) (16 + 4 * c)
    let v := (List.range c).map (fun j => signed 32 (ofLe (slice bytes (16 + 4 * j) 4)))
    { s with port := { s.port with hostIn := if ofLe (slice bytes 0 8) = k then some (k, v) else none } }

/-- Host input latches frame m − 1 − o at tick `m` (R370). [DEDUCED, unsafe: log entry 84] -/
def HostAud.latch (s : State) (m : Nat) : State :=
  if !HostAud.active s false then { s with port := { s.port with hostIn := none, hostLatched := [] } }
  else
    let k := m - 1 - s.efF Reg.hostAudInOffset 11 0
    let forced := s.port.hostForced
    let s : State := { s with port := { s.port with hostForced := none } }
    match (if forced = some false then none else s.port.hostIn) with
    | some (k', v) =>
      let s1 : State := { s with port := { s.port with hostIn := none } }
      if k' = k then ({ s1 with port := { s1.port with hostLatched := v } }).wr64 Reg.hostAudInPosLo Reg.hostAudInPosHi k
      else s1.count Reg.hostAudUnderrun 1
    | none => s.count Reg.hostAudUnderrun 1

/-- At tick n + 1, host output frame `n` goes out (R371). [DEDUCED, unsafe: log entry 84] -/
def HostAud.queue (s : State) (n : Nat) : State :=
  if !HostAud.active s true ∨ s.rdB Reg.hostAudStatus 0 then { s with port := { s.port with hostPend := [] } }
  else { s with port := { s.port with hostPend := s.port.hostPend ++ [(n, s.port.hostOut)] } }

/-- HOST_AUDIO_OUT_DONE: the oldest write completes, or ends with a decode error (R371). [DEDUCED, unsafe: log entry 84] -/
def HostAud.done (s : State) (err : Bool) : State :=
  match s.port.hostPend with
  | [] => s
  | (n, v) :: rest =>
    let s1 : State := { s with port := { s.port with hostPend := rest } }
    if err then
      let s2 : State := { s1 with port := { s1.port with hostPend := [] } }
      (s2.wr Reg.hostAudStatus 1).fault' 1 0x80
    else
      let c := HostAud.channels s true
      let a := HostAud.slotAddr s true n
      let bytes := leBytes 8 n ++ List.replicate 8 0 ++ (List.range c).flatMap (fun j => leBytes 4 (unsigned 32 (nth 0 v j)))
      let s2 : State := if HostAud.inHost s true then { s1 with ctl := { s1.ctl with hostWrites := s1.ctl.hostWrites ++ [(a, bytes)] } }
        else s1.stN a bytes
      s2.wr64 Reg.hostAudOutPosLo Reg.hostAudOutPosHi n

/-- Own-range checks of the HOST page (R369, R376). -/
def HostAud.check1 (f : Nat → Word) : Option Nat :=
  let bad (cfg : Word) := decide (256 < fld cfg 8 0) || decide (fld cfg 8 0 % 4 ≠ 0)
  let frames := fld (f 0x208) 23 12
  if bad (f 0x208) ∨ bad (f 0x228) ∨ fld (f 0x200) 3 0 ≠ 0 ∨ fld (f 0x220) 3 0 ≠ 0 ∨
      (frames ≠ 0 ∧ frames < fld (f 0x20C) 11 0 + 2) then some 0x01 else none

def HostAud.softReset (s : State) : State :=
  { s with port := { s.port with hostIn := none, hostLatched := [], hostOut := [], hostPend := [] } }

end Sys2Proof.Machine
end

