-- ==== Sys2Proof/Machine/Corr.lean ====
section
/-!
DEFINITION. Per-output correction and alignment (R157 to R184).
-/
namespace Sys2Proof.Machine

def Corr.page : Nat := 0x53
def Corr.outDefault (_ : Nat) : CorrOut := {}
def Corr.out (s : State) (j : Nat) : CorrOut := Tab.get Corr.outDefault s.corr.outs j
def Corr.setOut (s : State) (j : Nat) (o : CorrOut) : State :=
  { s with corr := { s.corr with outs := Tab.set Corr.outDefault s.corr.outs j o } }

/-! ### Parameters and partitions -/

/-- Maximum FIR length at a rate code (R160); 0 while no rate is in force. -/
def Corr.maxTaps (code : Nat) : Nat := if code = 0 then 0 else if rateClass code = 2 then 16384 else 65536

/-- Delay limit in 1/16 sample (R168). -/
def Corr.maxDelay (code : Nat) : Nat := rateHz code * 16 / 10

def Corr.paramAddr (b j : Nat) : Nat := winBase Corr.page + 0x80000 + b * 0x2000 + 16 * j
def Corr.trimEnc (s : State) (b j : Nat) : Int := signed 16 (s.ldLe (Corr.paramAddr b j) 2)
def Corr.biquads (s : State) (b j : Nat) : Nat := fld (s.ld32 (Corr.paramAddr b j)) 20 16
def Corr.lenEntry (s : State) (b j : Nat) : Nat := fld (s.ld32 (Corr.paramAddr b j + 4)) 16 0
def Corr.delayEntry (s : State) (b j : Nat) : Nat := fld (s.ld32 (Corr.paramAddr b j + 8)) 18 0

/-- Coefficients of biquad `k` (R184). -/
def Corr.coefs (s : State) (b j k : Nat) : List Int :=
  (List.range 5).map (fun i => s.ldS32 (winBase Corr.page + b * 0x40000 + 512 * j + 20 * k + 4 * i))

/-- Size B_p and offset D_p of partition `p` (R161). -/
def Corr.partB (p : Nat) : Nat :=
  nth 0 [128, 128, 128, 256, 256, 512, 512, 1024, 1024, 2048, 2048, 4096, 4096, 8192, 8192, 16384, 16384] p
def Corr.partD (p : Nat) : Nat :=
  nth 0 [128, 256, 384, 512, 768, 1024, 1536, 2048, 3072, 4096, 6144, 8192, 12288, 16384, 24576, 32768, 49152] p

/-- Tier of partition `p` (R161). [DEDUCED, unsafe: log entry 48] -/
def Corr.partTier (p : Nat) : Nat := if p < 15 then 1 else 2

/-- Block phase of output `j` (R162). -/
def Corr.phase (j : Nat) : Nat := j % 128

/-- The first block start of partition `p` of output `j` whose release frame is at or after `n` (R162, R163). -/
def Corr.firstBlock (j p n : Nat) : Nat :=
  let b := Corr.partB p; let d := Corr.partD p; let f := Corr.phase j
  let m := n + d + 1 - b
  m + (f + b - m % b) % b

/-- FIR length of bank `b` as prepared, limited to what the rate allows (R160, R179). -/
def Corr.len (s : State) (o : CorrOut) (b : Nat) : Nat :=
  min (if b = 0 then o.lenA else o.lenB) (Corr.maxTaps s.clk.rate)
def Corr.taps (o : CorrOut) (b : Nat) : List Int := if b = 0 then o.tapsA else o.tapsB

/-- Delay of bank `b`, limited to what the rate allows (R168, R179). -/
def Corr.delay (s : State) (b j : Nat) : Nat := min (Corr.delayEntry s b j) (Corr.maxDelay s.clk.rate)

/-- The bank uses partition `p` (R161). -/
def Corr.uses (s : State) (o : CorrOut) (b p : Nat) : Bool := decide (Corr.partD p < Corr.len s o b)

/-- The bank uses some partition of size `sz`. -/
def Corr.usesSize (s : State) (o : CorrOut) (b sz : Nat) : Bool :=
  (List.range 17).any (fun p => Corr.partB p = sz && Corr.uses s o b p)

/-- Partition `p` is the lowest of its size, and so the one that forms its size's input spectrum where any of that size is used (R161). -/
def Corr.isFirst (p : Nat) : Bool := p == 0 || Corr.partB p != Corr.partB (p - 1)

/-- Partition `p` forms the input spectrum of its size for a bank of the output (R161, R176). -/
def Corr.forms (s : State) (o : CorrOut) (p : Nat) : Bool := Corr.isFirst p && (Corr.uses s o 0 p || Corr.uses s o 1 p)

/-- A bank is ready: prepared, and every FDL it uses holds three spectra (R176). [DEDUCED, unsafe: log entry 48] -/
def Corr.ready (s : State) (o : CorrOut) (b : Nat) : Bool :=
  (if b = 0 then o.prepA else o.prepB) &&
  (List.range 17).all (fun p => !Corr.uses s o b p || decide (3 ≤ Tab.get (fun _ => 0) o.fdl (Corr.partB p)))

/-- A saturation counted for output `j` (R183). [DEDUCED, unsafe: log entry 47] -/
def Corr.clip (s : State) (j n : Nat) : State :=
  if n = 0 then s
  else ((s.wr (Reg.corrClipMap (j / 32)) (setBit (s.rd (Reg.corrClipMap (j / 32))) (j % 32) true)).count
    Reg.corrClipCount n).irq Corr.page 0

/-! ### The chain (R157) -/

/-- Cascade of `count` biquads from bank `b` (R159): output, states, saturations. -/
def Corr.cascade (s : State) (b j count : Nat) (x : Int) (st : List (Int × Int)) : Int × List (Int × Int) × Nat :=
  (List.range count).foldl (fun (a : Int × List (Int × Int) × Nat) k =>
    let (y, st', c) := biquad (Corr.coefs s b j k) a.1 (nth (0, 0) st k)
    (y, a.2.1 ++ [st'], a.2.2 + c)) (x, [], 0)

/-- Head of bank `b` in the accumulator format (R165); a length of zero is a unit impulse (R160). -/
def Corr.head (s : State) (o : CorrOut) (b : Nat) (u : List Int) : Int :=
  let l := Corr.len s o b
  if l = 0 then ago u 0 * 2 ^ 31
  else ((Corr.taps o b).take (min l 128)).zipIdx.foldl (fun a p => a + 8 * (p.1 * ago u p.2)) 0

/-! ### The areas in DRAM and in the common store (R181, R182) -/

/-- Start of CORR's region in DRAM; 0 for none. -/
def Corr.base (s : State) : Nat := (s.ef64 Reg.corrDramBaseLo Reg.corrDramBaseHi) % 2 ^ 40

/-- Start of output `j`'s bytes in the common store. -/
def Corr.csBase (s : State) (j : Nat) : Nat := csAddr (s.efF Reg.corrCsBase 23 0) + 23552 * j

/-- The sizes of partitions `lo` to `p` − 1, added. -/
def Corr.sizeSum (lo p : Nat) : Nat := ((rangeFrom lo (p - lo)).map Corr.partB).sum

/-- The spectrum of partition `p` of bank `b`. -/
def Corr.specAddr (s : State) (b j p : Nat) : Nat :=
  if p < 5 then Corr.csBase s j + 7168 * b + 8 * Corr.sizeSum 0 p
  else Corr.base s + 0x10000000 * (1 + b) + 0x80000 * j + 8 * Corr.sizeSum 5 p

/-- Slot `k` of the FDL of size `sz`. -/
def Corr.fdlAddr (s : State) (j sz k : Nat) : Nat :=
  if sz ≤ 256 then Corr.csBase s j + 14336 + (if sz = 256 then 3072 else 0) + 8 * sz * k
  else Corr.base s + 0x30000000 + 0xC0000 * j + 24 * (sz - 512) + 8 * sz * k

/-- The two blocks of partition `p`, 1 to 16; blocks take the two in turn. [DEDUCED, unsafe: log entry 48] -/
def Corr.contribAddr (s : State) (j p start : Nat) : Nat :=
  Corr.base s + 0x48000000 + 0x80000 * j + 8 * Corr.sizeSum 1 p +
    4 * Corr.partB p * ((start - Corr.phase j) / Corr.partB p % 2)

/-- The sample of frame `n` in output `j`'s delay line: its slot is the frame index modulo the ring's length.
[DEDUCED, unsafe: log entry 155] -/
def Corr.ringAddr (s : State) (j n : Nat) : Nat :=
  let st := if rateClass s.clk.rate = 2 then 0x20000 else 0x10000
  Corr.base s + 0x58000000 + j * st + 4 * (n % (st / 4))

/-- Words written from address `a` upward. -/
def Corr.putWords (s : State) (a : Nat) (ws : List Word) : State :=
  ws.zipIdx.foldl (fun s q => s.st32 (a + 4 * q.2) q.1) s

/-- The words of the spectrum of a block of samples, for partition size `b`. [DESIGN CHOICE, safe: log entry 46] -/
def Corr.spectrum (block : List Int) (b : Nat) : List Word := (List.range (2 * b)).map (Config.fftWord block)

def Corr.wordsAt (s : State) (a n : Nat) : List Word := (List.range n).map (fun k => s.ld32 (a + 4 * k))

/-! ### Partitions -/

/-- The taps of partition `p` of bank `b`. -/
def Corr.partTaps (s : State) (o : CorrOut) (b p : Nat) : List Int :=
  (((Corr.taps o b).take (Corr.len s o b)).drop (Corr.partD p)).take (Corr.partB p)

/-- The last 2B inputs up to frame `r`, newest first. -/
def Corr.window (o : CorrOut) (p r : Nat) : List Int := (o.u.drop (o.uAt - r)).take (2 * Corr.partB p)

/-- Slot of the FDL of partition `p`'s size that the spectrum of the inputs up to frame `r` takes. -/
def Corr.fdlSlot (j p r : Nat) : Nat := (r + 1 - Corr.phase j) / Corr.partB p % 3
def Corr.sizeIdx (p : Nat) : Nat := (Corr.partB p).log2 - 7
def Corr.fdlExp (j p r : Nat) : Nat := 64 + 4 * Corr.sizeIdx p + Corr.fdlSlot j p r

/-- The contribution of partition `p` of bank `b` to the block released at frame `r`, rounded and saturated to Q5.27, with the kernel's
own arithmetic error; the flags tell of saturations (R161, R165). Where the words of a spectrum are no longer those that CORR wrote,
the values are whatever they make (R181). [DESIGN CHOICE, safe: log entry 46] -/
def Corr.partValues (s : State) (j : Nat) (o : CorrOut) (b p r : Nat) : List (Int × Bool) :=
  let bp := Corr.partB p
  if !Corr.uses s o b p then List.replicate bp (0, false)
  else
    let h := Corr.partTaps s o b p
    let u := Corr.window o p r
    let hw := Corr.wordsAt s (Corr.specAddr s b j p) (2 * bp)
    let uw := Corr.wordsAt s (Corr.fdlAddr s j bp (Corr.fdlSlot j p r)) (2 * bp)
    let formed := decide (Tab.get (fun _ => 0) o.fdlAt bp = r)
    let intact := hw == Corr.spectrum h bp && (!formed || uw == Corr.spectrum u bp)
    let e := fun (k : Nat) => Tab.get (fun _ => 0) o.exps k
    (List.range bp).map (fun m =>
      -- frame S + m is the release frame r and D − B + 1 + m further: u(S + m − D − i) = u(r − (B − 1 − m + i))
      let v := if intact then
          rnd 32 (h.zipIdx.foldl (fun a q => a + q.1 * ago u (bp - 1 - m + q.2)) 0) + Config.fftError bp h u m
        else Config.fftFrom hw (e (32 * b + p)) uw (e (Corr.fdlExp j p r)) m
      (satS 32 v, satClips 32 v))

/-- Weight of a transition's blend for an item that starts at frame `st` (R177). -/
def Corr.weight (rx st n : Nat) : Int := ({ v0 := 0, v1 := one30, s := st, h := st + rx } : Ramp).at n

/-- The values of a block, blended where its release's transition overlaps it, and the saturations counted (R163, R165, R177). -/
def Corr.blockValues (s : State) (j : Nat) (o : CorrOut) (blk : PartBlock) : List Int × Nat :=
  let r := blk.start + Corr.partB blk.p - 1 - Corr.partD blk.p
  let new := Corr.partValues s j o blk.bank blk.p r
  let vals : List (Int × Bool) := match blk.trans with
    | none => new
    | some t =>
      let old := Corr.partValues s j o t.old blk.p r
      let sp := Corr.firstBlock j blk.p t.start
      (List.range (Corr.partB blk.p)).map (fun m =>
        let a := if blk.start + m < sp then 0 else Corr.weight t.rx sp (blk.start + m)
        let x := nth (0, false) old m
        let y := nth (0, false) new m
        (blend30 a x.1 y.1, (decide (a < 2 ^ 30) && x.2) || (decide (0 < a) && y.2)))
  (vals.map (·.1), (vals.filter (·.2)).length)

/-- The fade of partition `p` in frame `n` after the tier's sheddings and re-admissions: down from its value at the shedding, and up
from the first block whose inputs fill the FDL (R167). [DEDUCED, unsafe: log entry 48] -/
def Corr.tierFade (s : State) (j p n : Nat) : Int :=
  let es := s.corr.tiers.filter (fun e => e.tier = Corr.partTier p ∧ e.frame ≤ n)
  let rise := fun (r : Ramp) (up : Option (Nat × Nat)) (m : Nat) =>
    match up with
    | some (st, len) => if st ≤ m then r.aim st (st + len) one30 else r
    | none => r
  let (r, up) := es.foldl (fun (a : Ramp × Option (Nat × Nat)) e =>
    if e.up then (a.1, some (Corr.firstBlock j p (e.frame + 3 * Corr.partB p), e.len))
    else ((rise a.1 a.2 e.frame).aim e.frame (e.frame + e.len) 0, none)) (Ramp.const one30, none)
  (rise r up n).at n

/-- The tier is shed, with the frame at which its fade ends (R167). -/
def Corr.shedEnd (s : State) (tier : Nat) : Option Nat :=
  match (s.corr.tiers.filter (fun e => e.tier = tier)).getLast? with
  | some e => if e.up then none else some (e.frame + e.len)
  | none => none

/-- The contribution of partition `p` in frame `n`: zero until its block is complete, and when it was late (R161, R166).
[DEDUCED, unsafe: log entry 47] -/
def Corr.contribution (s : State) (j : Nat) (o : CorrOut) (p n : Nat) : Int :=
  match o.blocks.find? (fun b => b.p = p && b.start ≤ n && n < b.start + Corr.partB p) with
  | some b =>
    if !b.complete || b.late then 0
    else if p = 0 then nth 0 b.vals (n - b.start)
    else s.ldS32 (Corr.contribAddr s j p b.start + 4 * (n - b.start))
  | none => 0

/-! ### The chain, frame by frame -/

/-- The FIR output `k` frames before frame `n`, for a read whose newest tap lies `newest` frames back: of the most recent 64 samples
on chip, else of the ring in DRAM (R169). -/
def Corr.lineAt (s : State) (j n : Nat) (v : List Int) (newest k : Nat) : Int :=
  if newest < 64 then ago v k
  else if n < k ∨ n - k < s.corr.clearedAt ∨ Corr.base s = 0 then 0
  else s.ldS32 (Corr.ringAddr s j (n - k))

/-- A read of the alignment delay `d`, with its saturation (R168). -/
def Corr.delayRead (s : State) (j n : Nat) (v : List Int) (d : Nat) : Int × Bool :=
  let dd := d / 16
  if d % 16 = 0 then (Corr.lineAt s j n v dd dd, false)
  else
    let r := rnd 31 (interpSum (16 * (d % 16)) dd (Corr.lineAt s j n v (dd - 3)))
    (satS 32 r, satClips 32 r)

/-- Stages 1 to 6 for output `j` in frame `n`; `y` is the Warp column, `e` the enable fade, and `inj` what the
measurement service makes of the result of stage 5 (R157, R453, R165, R168, R170). -/
def Corr.chain (s : State) (j n : Nat) (y e : Int) (inj : Int → Int) : State :=
  let o := Corr.out s j
  let b := o.bank
  -- stage 1: trim, ramping across a transition
  let trimNew := gainLin (Corr.trimEnc s b j)
  let trim := match o.trans with
    | some t => ({ v0 := gainLin (Corr.trimEnc s t.old j), v1 := trimNew, s := t.start, h := t.start + t.rx } : Ramp).at n
    | none => trimNew
  let xr := rnd 27 (y * trim)
  let x := satS 40 xr
  -- stages 2 and 3
  let (c1, st1, k1) := Corr.cascade s b j (Corr.biquads s b j) x o.iir
  let (u, stOld, k2) := match o.trans with
    | some t =>
      if n < t.start + t.rx then
        let (c0, st0, k0) := Corr.cascade s t.old j (Corr.biquads s t.old j) x o.iirOld
        (blend30 (Corr.weight t.rx t.start n) (satS 32 c0) (satS 32 c1), st0, k0 + b2n (satClips 32 c0))
      else (satS 32 c1, [], 0)
    | none => (satS 32 c1, [], 0)
  let us := pushHist 81920 u o.u
  -- stage 4, in units of 2^-92 so that blends and fades are exact before the one rounding
  let headNew := Corr.head s o b us
  let head := match o.trans with
    | some t => let a := Corr.weight t.rx t.start n
                (2 ^ 30 - a) * Corr.head s o t.old us + a * headNew
    | none => 2 ^ 30 * headNew
  let acc := (List.range 17).foldl (fun a p => a + 2 ^ 35 * (Corr.contribution s j o p n * Corr.tierFade s j p n)) head
  let vr := rnd 61 acc
  let v := satS 32 vr
  let vs := pushHist 72 v o.v
  let s0 := if Corr.base s = 0 then s else s.st32 (Corr.ringAddr s j n) (w32 (unsigned 32 v))
  -- stage 5
  let r1 := Corr.delayRead s0 j n vs (Corr.delay s b j)
  let (w, k5) := match o.trans with
    | some t =>
      let r0 := Corr.delayRead s0 j n vs (Corr.delay s t.old j)
      (blend30 (Corr.weight t.rx t.start n) r0.1 r1.1, b2n r0.2 + b2n r1.2)
    | none => (r1.1, b2n r1.2)
  -- stage 6
  let zr := rnd 87 (inj w * o.gain.at n * o.mute.at n * e)
  let z := satS 32 zr
  let clips := b2n (satClips 40 xr) + k1 + k2 + b2n (satClips 32 c1) + b2n (satClips 32 vr) + k5 + b2n (satClips 32 zr)
  let keep := o.blocks.filter (fun bl => decide (n < bl.start + Corr.partB bl.p))
  Corr.clip (Corr.setOut s0 j { o with iir := st1, iirOld := stOld, u := us, uAt := n, v := vs, z := z, blocks := keep }) j clips

/-- Step 5 of R25 in frame `n`. Outputs at or above the capacity output zero (R157). [DEDUCED, unsafe: log entry 47] -/
def Corr.run (s : State) (y : Nat → Int) (ycols : List Nat) (inj : Nat → Int → Int) (n : Nat) : State :=
  if !s.pageUp Corr.page then s
  else
    let e := s.corr.fade.at n
    let js := if Corr.base s = 0 then ((Tab.keys s.corr.outs) ++ ycols).dedup else (List.range s.outCap ++ Tab.keys s.corr.outs).dedup
    js.foldl (fun s j =>
      if s.outCap ≤ j then Corr.setOut s j { Corr.out s j with z := 0 }
      else Corr.chain s j n (y j) e (inj j)) s

/-- z_j of the last frame. -/
def Corr.z (s : State) (j : Nat) : Int := (Corr.out s j).z

/-- An empty FDL: its size's tier is shed, and a block that would have formed its spectrum is skipped (R167). -/
def Corr.fdlStop (o : CorrOut) (p : Nat) : CorrOut :=
  if Corr.isFirst p then { o with fdl := Tab.set (fun _ => 0) o.fdl (Corr.partB p) 0 } else o

/-- Blocks released at the end of the direct window of frame `r` (R163); shed tiers skip blocks that start at or after the
end of the fade (R167). A partition that forms its size's spectrum runs for either bank (R176). Answers the descriptors released,
for the Coil. -/
def Corr.release (s : State) (r : Nat) : State × List Nat :=
  (Tab.keys s.corr.outs).foldl (fun (acc : State × List Nat) j =>
    (List.range 17).foldl (fun (acc : State × List Nat) p =>
      let s := acc.1
      let o := Corr.out s j
      let b := Corr.partB p
      let used := Corr.uses s o o.bank p || Corr.forms s o p ||
        (match o.trans with | some t => Corr.uses s o t.old p | none => false)
      let start := r + 1 + Corr.partD p - b
      let skipped := match Corr.shedEnd s (Corr.partTier p) with | some e => decide (e ≤ start) | none => false
      if !used || (start + b - Corr.phase j) % b != 0 || decide (s.outCap ≤ j) then acc
      else if skipped then (Corr.setOut s j (Corr.fdlStop o p), acc.2)
      else (Corr.setOut s j { o with blocks := o.blocks ++ [{ p := p, start := start, bank := o.bank, trans := o.trans }] },
            acc.2 ++ [7680 + 17 * j + p])) acc) (s, [])

/-- Deadline tick of a block (R163). -/
def Corr.deadline (p start : Nat) : Nat := if p = 0 then start else start - 16

/-- The input spectrum of partition `p`'s size, of the inputs up to frame `r`, is written to its slot (R161). -/
def Corr.formSpectrum (s : State) (j p r : Nat) : State :=
  let o := Corr.out s j
  let b := Corr.partB p
  if !Corr.forms s o p then s
  else
    let u := Corr.window o p r
    let c := Tab.get (fun _ => 0) o.fdl b
    let o1 : CorrOut := { o with fdl := Tab.set (fun _ => 0) o.fdl b (min 3 (c + 1)),
                                 fdlAt := Tab.set (fun _ => 0) o.fdlAt b r,
                                 exps := Tab.set (fun _ => 0) o.exps (Corr.fdlExp j p r) (Config.fftExp u) }
    Corr.putWords (Corr.setOut s j o1) (Corr.fdlAddr s j b (Corr.fdlSlot j p r)) (Corr.spectrum u b)

/-- The node of descriptor 7,680 + 17j + p ends its activation of release frame `r`: where the block still stands before its deadline,
the input spectrum is formed, the values are computed and delivered, and their saturations are clips of the output; a later result is
discarded (R161, R164, R165, R166). [DEDUCED, unsafe: log entry 48] -/
def Corr.complete (s : State) (j p r : Nat) : State :=
  let o := Corr.out s j
  let start := r + 1 + Corr.partD p - Corr.partB p
  match o.blocks.find? (fun b => b.p = p && b.start = start && !b.complete && !b.late) with
  | none => s
  | some blk =>
    if Corr.deadline p start ≤ s.clk.frame then s
    else
      let s1 := Corr.formSpectrum s j p r
      let o1 := Corr.out s1 j
      let (vals, clips) := Corr.blockValues s1 j o1 blk
      let done : PartBlock := { blk with complete := true, vals := if p = 0 then vals else [] }
      let s2 := Corr.setOut s1 j { o1 with blocks := o1.blocks.map (fun b => if b = blk then done else b) }
      let s3 := if p = 0 then s2 else Corr.putWords s2 (Corr.contribAddr s2 j p start) (vals.map (fun v => w32 (unsigned 32 v)))
      Corr.clip s3 j clips

/-- A block that is incomplete at its deadline contributes zero and is counted late (R166). -/
def Corr.partitionLate (s : State) (j p start : Nat) : State :=
  let o := Corr.out s j
  match o.blocks.findIdx? (fun b => b.p = p && b.start = start && !b.complete && !b.late) with
  | none => s
  | some i =>
    if s.clk.frame < Corr.deadline p start then s
    else
      let s1 := Corr.setOut s j { o with blocks := o.blocks.modify i (fun b => { b with late := true }) }
      ((s1.count Reg.corrLateCount 1).irq Corr.page 1).faultD Corr.page 0x85 j

/-- A change of the admitted tier at frame `e` starts or ends the partition fades; blocks of a shed tier that start at or after the end
of the fade are skipped (R167). [DEDUCED, unsafe: log entry 48] -/
def Corr.tierChange (s : State) (old new e : Nat) : State :=
  let r := msFrames 20 s.clk.rate
  let down := [1, 2].filter (fun t => decide (new < t ∧ t ≤ old))
  let up := [1, 2].filter (fun t => decide (old < t ∧ t ≤ new) && (Corr.shedEnd s t).isSome)
  -- events long past, whose fade has ended for every partition, are forgotten
  let past := fun (t : Nat) => match (s.corr.tiers.filter (fun x => x.tier = t)).getLast? with
    | some y => y.up && decide (y.frame + 100000 + y.len ≤ e)
    | none => false
  let kept := s.corr.tiers.filter (fun x => !(down.contains x.tier && past x.tier))
  let tiers := kept ++ down.map (fun t => { tier := t, frame := e, len := r }) ++
    up.map (fun t => { tier := t, frame := e, len := r, up := true })
  let skip := fun (b : PartBlock) => down.contains (Corr.partTier b.p) && !b.complete && decide (e + r ≤ b.start)
  let s1 := (Tab.keys s.corr.outs).foldl (fun s j =>
    let o := Corr.out s j
    let o1 := (o.blocks.filter skip).foldl (fun o b => Corr.fdlStop o b.p) o
    Corr.setOut s j { o1 with blocks := o.blocks.filter (fun b => !skip b) }) s
  { s1 with corr := { s1.corr with tiers := tiers } }

/-! ### Posts (R170, R172, R177, R178) -/

/-- A post is discarded, counted and recorded with code 0x80. -/
def Corr.discardPost (s : State) : State := ((s.count Reg.corrDiscards 1).irq Corr.page 2).fault' Corr.page 0x80

/-- End of the transition that starts at `n` (R177). -/
def Corr.transEnd (s : State) (j : Nat) (o : CorrOut) (new n rx : Nat) : Nat :=
  (List.range 17).foldl (fun m p =>
    if Corr.uses s o o.bank p || Corr.uses s o new p then max m (Corr.firstBlock j p n + rx) else m) (n + rx)

/-- Output `j` before a bank post of this same tick `n`: of two, the last stands (R172). [DEDUCED, unsafe: log entry 158] -/
def Corr.unposted (s : State) (o : CorrOut) (n : Nat) : CorrOut :=
  match o.trans with
  | some t => if s.rateOn ∧ t.start = n then { o with bank := t.old, trans := none, iir := o.iirOld, iirOld := [] } else o
  | none => o

/-- A bank post takes effect at frame `n`: a transition, or with no rate in force a switch at once (R177, R178, R601). -/
def Corr.bankEffect (s : State) (j bank n : Nat) : State :=
  let o := Corr.unposted s (Corr.out s j) n
  if s.outCapCfg ≤ j ∨ o.trans.isSome ∨ !Corr.ready s o bank ∨ bank = o.bank then Corr.discardPost (Corr.setOut s j o)
  else if !s.rateOn then Corr.setOut s j { o with bank := bank, iir := [], iirOld := [] }
  else
    let rx := s.ms (s.efF Reg.corrXfadeMs 9 0)
    let t : Transition := { start := n, rx := rx, old := o.bank, endFrame := Corr.transEnd s j o bank n rx }
    Corr.setOut s j { o with bank := bank, trans := some t, iirOld := o.iir, iir := [] }

/-- The gain encodings that R158 accepts. -/
def Corr.gainOk (g : Int) : Bool := decide (g = -32768 ∨ (-16384 ≤ g ∧ g ≤ 3072))

def Corr.rampFor (s : State) (r : Ramp) (t : Int) (len n : Nat) : Ramp :=
  if s.rateOn then r.aim n (n + len) t else Ramp.const t

def Corr.gainEffect (s : State) (j v n : Nat) : State :=
  let g := signed 16 v
  let o := Corr.out s j
  if s.outCapCfg ≤ j ∨ !Corr.gainOk g then Corr.discardPost s
  else Corr.setOut s j { o with gain := Corr.rampFor s o.gain (gainLin g) (s.ms (s.efF Reg.corrGainRampMs 9 0)) n }

def Corr.muteEffect (s : State) (j v n : Nat) : State :=
  let o := Corr.out s j
  if s.outCapCfg ≤ j then Corr.discardPost s
  else Corr.setOut s j { o with mute := Corr.rampFor s o.mute (if v % 2 = 1 then 0 else one30) (s.ms (s.efF Reg.corrMuteRampMs 9 0)) n }

/-- A post of kind 0 bank, 1 gain, 2 mute takes effect. -/
def Corr.applyPost (s : State) (kind j v n : Nat) : State :=
  if kind = 0 then Corr.bankEffect s j (v % 2) n else if kind = 1 then Corr.gainEffect s j v n else Corr.muteEffect s j v n

/-- A direct write to one of the three post registers, for the output in CORR_OUT_SEL (R172). -/
def Corr.post (s : State) (kind : Nat) (w : Word) : State :=
  let j := s.rdF Reg.corrOutSel 8 0
  if !s.pageUp Corr.page then s.discard
  else if s.rateOn then
    { s with corr := { s.corr with posts := s.corr.posts ++ [{ ready := s.postReady, a := kind, b := j, c := w.toNat }] } }
  else Corr.applyPost s kind j w.toNat s.clk.frame

def Corr.tickPosts (s : State) (n : Nat) : State :=
  let due := s.corr.posts.filter (fun p => p.ready ≤ s.clk.mono)
  let s1 := { s with corr := { s.corr with posts := s.corr.posts.filter (fun p => !(p.ready ≤ s.clk.mono)) } }
  due.foldl (fun s p => Corr.applyPost s p.a p.b p.c n) s1

/-- A bank transition ends: xfer_done (R177). -/
def Corr.transitionEnd (s : State) (j : Nat) : State :=
  let o := Corr.out s j
  match o.trans with
  | some t =>
    if t.endFrame ≤ s.clk.frame then (Corr.setOut s j { o with trans := none, iirOld := [] }).irq Corr.page 5 else s
  | none => s

/-- A change of enable starts the fade E (R171). -/
def Corr.setEnable (s : State) (b : Bool) (n : Nat) : State :=
  let r := Corr.rampFor s s.corr.fade (if b then one30 else 0) (s.ms (s.efF Reg.corrMuteRampMs 9 0)) n
  { s with corr := { s.corr with fade := r, fadeBusy := true } }

def Corr.fadeDone (s : State) : State :=
  if s.corr.fadeBusy ∧ s.corr.fade.h ≤ s.clk.frame then
    ({ s with corr := { s.corr with fadeBusy := false } }).irq Corr.page 6
  else s

/-! ### Preparation (R174, R175) -/

/-- The parameter entry passes R158, R160 and R168. With no rate in force the 44.1 to 96 kHz limits judge it, and the
48 kHz delay limit. -/
def Corr.entryOk (s : State) (b j : Nat) : Bool :=
  let code := if s.rateOn then s.clk.rate else 2
  let d := Corr.delayEntry s b j
  Corr.gainOk (Corr.trimEnc s b j) && decide (Corr.biquads s b j ≤ 24) && decide (Corr.lenEntry s b j ≤ Corr.maxTaps code) &&
  decide (d ≤ Corr.maxDelay code) && (decide (d = 0 ∨ 64 ≤ d) || d % 16 = 0)

/-- A CORR_PREP write (R175, R183). -/
def Corr.prepWrite (s : State) (w : Word) : State :=
  let bank := fld w 31 31; let count := fld w 25 16; let first := fld w 8 0
  let range := rangeFrom first count
  if !s.pageUp Corr.page then s.discard
  else if 512 < first + count then s.fault' Corr.page 0x01
  else if s.corr.prep.isSome ∨ Corr.base s = 0 ∨
      range.any (fun j => let o := Corr.out s j
        o.bank = bank || (match o.trans with | some t => decide (t.old = bank) | none => false)) then
    s.fault' Corr.page 0x83
  else if count = 0 then ((s.wr Reg.corrPrepStatus (setFld (s.rd Reg.corrPrepStatus) 15 8 0)).irq Corr.page 3)
  else { s with corr := { s.corr with prep := some (bank, first, count), prepAt := 0 } }.wr Reg.corrPrepStatus
    (setFld (setFld (s.rd Reg.corrPrepStatus) 15 8 0) 0 0 1)

/-- Tap area of bank `b`, output `j` (R181). -/
def Corr.tapAddr (s : State) (b j : Nat) : Nat :=
  Corr.base s + b * 0x8000000 + j * 0x40000

/-- The spectrum of partition `p` of a bank, from the taps, is written to its area, with its exponent (R174, R181). -/
def Corr.prepSpectrum (s : State) (b j : Nat) (taps : List Int) (p : Nat) : State :=
  let o := Corr.out s j
  let h := (taps.drop (Corr.partD p)).take (Corr.partB p)
  Corr.putWords (Corr.setOut s j { o with exps := Tab.set (fun _ => 0) o.exps (32 * b + p) (Config.fftExp h) })
    (Corr.specAddr s b j p) (Corr.spectrum h (Corr.partB p))

/-- Preparation of one output (R174, R175): the taps are taken and the spectra of the partitions used are written, or the output
fails, is named and counted. -/
def Corr.prepOne (s : State) (b j : Nat) : State :=
  let o := Corr.out s j
  if Corr.entryOk s b j then
    let l := Corr.lenEntry s b j
    let taps := (List.range l).map (fun t => s.ldS32 (Corr.tapAddr s b j + 4 * t))
    let s1 := Corr.setOut s j (if b = 0 then { o with prepA := true, tapsA := taps, lenA := l }
                               else { o with prepB := true, tapsB := taps, lenB := l })
    ((List.range 17).filter (fun p => decide (Corr.partD p < l))).foldl (fun s p => Corr.prepSpectrum s b j taps p) s1
  else
    let st := s.rd Reg.corrPrepStatus
    ((Corr.setOut s j (if b = 0 then { o with prepA := false } else { o with prepB := false })).wr Reg.corrPrepStatus
      (setFld (setFld st 24 16 j) 15 8 (satU 8 (fld st 15 8 + 1)))).faultD Corr.page 0x82 j

/-- Preparation goes on for `k` outputs. -/
def Corr.prepOn (s : State) (k : Nat) : State :=
  match s.corr.prep with
  | none => s
  | some (b, first, count) =>
    let m := min k (count - s.corr.prepAt)
    let s1 := (rangeFrom (first + s.corr.prepAt) m).foldl (fun s j => Corr.prepOne s b j) s
    { s1 with corr := { s1.corr with prepAt := s.corr.prepAt + m } }

/-- At a tick with tier 1 admitted, a running preparation has gone on for some outputs more; it pauses while tier 1 is shed (R174).
[DESIGN CHOICE, safe: log entry 159] -/
def Corr.prepTick (s : State) : State :=
  if s.corr.prep.isNone ∨ s.budget.admitted < 1 then s
  else Corr.prepOn s.drawFree.2 (s.drawFree.1.toNat % 513)

/-- Preparation ends (R175): prep_done and, if any output failed, prep_failed. It pauses while tier 1 is shed (R174). -/
def Corr.prepDone (s : State) : State :=
  match s.corr.prep with
  | none => s
  | some (_, _, count) =>
    if s.budget.admitted < 1 ∧ s.rateOn then s
    else
      let s1 := Corr.prepOn s count
      let s2 := ({ s1 with corr := { s1.corr with prep := none, prepAt := 0 } }).wrF Reg.corrPrepStatus 0 0 0
      let s3 := s2.irq Corr.page 3
      if 0 < fld (s3.rd Reg.corrPrepStatus) 15 8 then s3.irq Corr.page 4 else s3

/-! ### Rate changes, reset, checks, window -/

/-- The tiers that are shed, as long past. -/
def Corr.stillShed (s : State) : List TierEvent :=
  ([1, 2].filter (fun t => (Corr.shedEnd s t).isSome)).map (fun t => { tier := t })

/-- What the new rate limits in the bank in force of an output: its length, and its delay (R179). -/
def Corr.limited (s : State) (o : CorrOut) (j newCode : Nat) : Nat :=
  if newCode = 0 then 0
  else b2n (decide (Corr.maxTaps newCode < (if o.bank = 0 then o.lenA else o.lenB))) +
    b2n (decide (Corr.maxDelay newCode < Corr.delayEntry s o.bank j))

/-- Second S (R179): the new rate code is in force, and `n` is the first frame at it. A transition that ends raises xfer_done. A tier
that is shed stays shed, without a fade. [DEDUCED, unsafe: log entry 48] -/
def Corr.rateChange (s : State) (newCode n : Nat) : State :=
  let s1 := (Tab.keys s.corr.outs).foldl (fun s j =>
    let o := Corr.out s j
    let s1 := Corr.setOut s j { o with trans := none, gain := o.gain.finish, mute := o.mute.finish, iir := [], iirOld := [],
                                       u := [], uAt := 0, fdl := [], fdlAt := [], blocks := [], v := [], z := 0 }
    let s2 := if o.trans.isSome then s1.irq Corr.page 5 else s1
    (List.range (Corr.limited s o j newCode)).foldl (fun s _ => s.faultD Corr.page 0x84 j) s2) s
  { s1 with corr := { s1.corr with fade := s1.corr.fade.finish, tiers := Corr.stillShed s, clearedAt := n } }

/-- CORR as a reset leaves it: tiers that are shed stay so. [DEDUCED, unsafe: log entry 48] -/
def Corr.fresh (s : State) : CorrSt := { tiers := Corr.stillShed s, clearedAt := s.clk.frame }

/-- The soft reset's effect; what direct writes have posted since stays. -/
def Corr.resetAll (s : State) : State :=
  ({ s with corr := { Corr.fresh s with posts := s.corr.posts } }).clearMem (winBase Corr.page) (winBase Corr.page + 0x100000)

/-- A soft reset: its posts are dropped, and the rest acts at the next tick (R56, R180). -/
def Corr.softReset (s : State) : State :=
  let s1 := { s with corr := { s.corr with posts := [], resetDue := true } }
  if s.rateOn then s1 else Corr.resetAll s1

/-- A soft reset acts at the tick: registers, banks, states and ramps (R180). An enable written since is still to act. -/
def Corr.tickReset (s : State) : State :=
  if !s.corr.resetDue then s
  else
    let s1 := Corr.resetAll (Page.clearRegs s Corr.page (fun _ => true))
    let s2 : State := { s1 with ctl := { s1.ctl with enabled := Tab.set (fun _ => false) s1.ctl.enabled Corr.page false } }
    match (Tab.get (fun _ => []) s2.ctl.enablePosts Corr.page).getLast? with
    | some (b, _) => s2.wrF (Reg.pageCtrl Corr.page) 0 0 (b2n b)
    | none => s2

/-- Own-range checks (R183). -/
def Corr.check1 (v : Variant) (f : Nat → Word) : Option Nat :=
  let base := (f 0x50).toNat + (f 0x54).toNat % 256 * 2 ^ 32
  if 1000 < fld (f 0x44) 9 0 ∨ 1000 < fld (f 0x48) 9 0 ∨ 1000 < fld (f 0x4C) 9 0 then some 0x01
  else if base ≠ 0 ∧ (base % 0x100000 ≠ 0 ∨ !inDram v base (1440 * 0x100000)) then some 0x01
  else if fld (f 0x58) 23 0 % 0x10000 ≠ 0 ∨ 0x1000000 < fld (f 0x58) 23 0 + 12058624 then some 0x01
  else none

/-- Every output has FIR bypass and no delay in both banks (R183). -/
def Corr.allBypass (s : State) : Bool :=
  (List.range 512).all (fun j => (List.range 2).all (fun b =>
    Corr.lenEntry s b j = 0 && Corr.delayEntry s b j = 0)) &&
  s.corr.outs.all (fun e => e.2.lenA = 0 && e.2.lenB = 0)

/-- The condition on changes of the bases (R183). -/
def Corr.check2 (s : State) (old new : Nat → Word) : Option Nat :=
  if (new 0x50 ≠ old 0x50 ∨ new 0x54 ≠ old 0x54 ∨ new 0x58 ≠ old 0x58) ∧ !Corr.allBypass s then some 0x01 else none

/-- The bank is in force, or is being left, at output `j` (R176). -/
def Corr.bankBusy (s : State) (b j : Nat) : Bool :=
  let o := Corr.out s j
  o.bank = b || (match o.trans with | some t => decide (t.old = b) | none => false)

/-- Bits that a word of a parameter entry holds, by its offset in the entry (R184). -/
def Corr.paramMask (o : Nat) : Word := if o % 16 = 0 then 0x1FFFFF else if o % 16 = 4 then 0x1FFFF else if o % 16 = 8 then 0x7FFFF else 0

/-- A word written to the array window (R176, R184); reserved bytes hold nothing. -/
def Corr.winWrite (s : State) (o : Nat) (w : Word) : State :=
  let go := fun b j v =>
    if Corr.bankBusy s b j then s.faultTick Corr.page
    else
      let c := Corr.out s j
      (Corr.setOut s j (if b = 0 then { c with prepA := false } else { c with prepB := false })).st32 (winBase Corr.page + o) v
  if o < 0x80000 then (if o % 512 < 480 then go (o / 0x40000) (o % 0x40000 / 512) w else s)
  else if o < 0x84000 then go ((o - 0x80000) / 0x2000) ((o - 0x80000) % 0x2000 / 16) (w &&& Corr.paramMask o)
  else if o < 0x86000 then s.discard
  else s

/-- A word read from the window (R184). -/
def Corr.winRead (s : State) (o : Nat) : Word :=
  if o < 0x84000 then s.ld32 (winBase Corr.page + o)
  else if o < 0x86000 then
    let j := (o - 0x84000) / 16
    let c := Corr.out s j
    match o % 16 with
    | 0 => w32 (c.bank + at_ 1 (b2n (Corr.ready s c 0)) + at_ 2 (b2n (Corr.ready s c 1)) + at_ 3 (b2n c.trans.isSome) +
        at_ 4 (b2n (c.mute.at s.clk.frame == 0)))
    | 4 => w32 (unsigned 32 (c.gain.at s.clk.frame))
    | 8 => match c.trans with | some t => w32 ((t.endFrame - s.clk.frame) % 2 ^ 20) | none => 0
    | 12 => w32 (Corr.len s c c.bank)
    | _ => 0
  else 0

end Sys2Proof.Machine
end

