-- ==== Sys2Proof/Machine/Route.lean ====
section
/-!
DEFINITION. The Router: sources and sinks, patching, the mix crosspoint and the test generators (R417 to R428, R435, R436).
-/
namespace Sys2Proof.Machine

def Route.page : Nat := 0x48

/-! ### Sources and sinks (R417, R418) -/

/-- The code names a source that the variant has. [DEDUCED, unsafe: log entry 95] -/
def Route.isSource (v : Variant) (c : Nat) : Bool :=
  decide (c = 0 ∨ (0x100 ≤ c ∧ c < 0x100 + 16 * v.ports) ∨ (0x200 ≤ c ∧ c < 0x200 + 2 * v.aes) ∨
    (0x400 ≤ c ∧ c < 0x400 + 64 * v.madi) ∨ (0x800 ≤ c ∧ c < 0xD00) ∨ (0x1000 ≤ c ∧ c < 0x1200) ∨
    (0x1400 ≤ c ∧ c < 0x1400 + v.psChannels) ∨ (0x1440 ≤ c ∧ c < 0x1440 + v.psChannels) ∨ (0x1480 ≤ c ∧ c < 0x1490) ∨
    (0x1800 ≤ c ∧ c < 0x1810) ∨ (0x1C00 ≤ c ∧ c < 0x1D00))

/-- The index names a sink that the variant has. [DEDUCED, unsafe: log entry 95] -/
def Route.isSink (v : Variant) (k : Nat) : Bool :=
  decide (k < 0x400 ∨ (0x400 ≤ k ∧ k < 0x400 + 16 * v.ports) ∨ (0x500 ≤ k ∧ k < 0x500 + 2 * v.aes) ∨
    (0x600 ≤ k ∧ k < 0x600 + 64 * v.madi) ∨ (0x800 ≤ k ∧ k < 0xD00) ∨ (0xD00 ≤ k ∧ k < 0xD00 + v.psChannels) ∨
    (0xE00 ≤ k ∧ k < 0x1300))

def Route.sink (s : State) (k : Nat) : Sink := Tab.get (fun _ => {}) s.route.sinks k
def Route.setSink (s : State) (k : Nat) (x : Sink) : State :=
  { s with route := { s.route with sinks := Tab.set (fun _ => {}) s.route.sinks k x } }

def Route.gen (s : State) (g : Nat) : Gen := Tab.get (fun _ => {}) s.route.gens g
def Route.setGen (s : State) (g : Nat) (x : Gen) : State :=
  { s with route := { s.route with gens := Tab.set (fun _ => {}) s.route.gens g x } }

/-- The generator's output in the frame in progress, after its delay. -/
def Route.genOut (s : State) (g : Nat) : Int := ago (Route.gen s g).line (s.efF (Reg.routeGenLevel g) 27 16)

/-- The value of source `c` in frame `n` as the Router holds it now: render outputs and mix outputs change during the frame
(R419, R420). -/
def Route.src (s : State) (c n : Nat) : Int :=
  if c < 0x100 then 0
  else if c < 0x200 then Port.input s (0x20 + (c - 0x100) / 16) (c % 16) n
  else if c < 0x400 then Port.input s (0x30 + (c - 0x200) / 2) (c % 2) n
  else if c < 0x800 then Port.input s (0x38 + (c - 0x400) / 64) (c % 64) n
  else if c < 0xC00 then Tab.get (fun _ => 0) s.stream.rx (c - 0x800)
  else if c < 0x1000 then nth 0 s.port.hostLatched (c - 0xC00)
  else if c < 0x1400 then (if c - 0x1000 < s.outCap then Corr.z s (c - 0x1000) else 0)
  else if c < 0x1800 then (Tab.get (fun _ => ({} : Chain)) s.capt.chains (c - 0x1400)).x
  else if c < 0x1C00 then Route.genOut s (c - 0x1800)
  else Tab.get (fun _ => 0) s.route.mix (c - 0x1C00)

/-- What sink `k` receives in frame `n` (R422), with the enable fade (R426). [DEDUCED, unsafe: log entry 94] -/
def Route.value (s : State) (k n : Nat) : Int :=
  let x := Route.sink s k
  let f := s.route.fade.at n
  if f = 0 then 0
  else
    let z := match x.xfade with
      | some (old, r) => blend30 (r.at n) (Route.src s old n) (Route.src s x.src n)
      | none => Route.src s x.src n
    if f = one30 then z else satS 32 (rnd 30 (z * f))

/-! ### Patching (R421 to R423) -/

/-- A held post starts once the cross-fade before it has ended, at frame `n`. -/
def Route.startHeld (s : State) (k n : Nat) : State :=
  let x := Route.sink s k
  match x.xfade with
  | none => s
  | some (_, r) =>
    if n < r.h then s
    else
      match x.held with
      | none => Route.setSink s k { x with xfade := none }
      | some c =>
        let len := s.ms (s.efF Reg.routeXfade 5 0)
        if c = x.src then Route.setSink s k { x with xfade := none, held := none }
        else if len = 0 then Route.setSink s k { src := c }
        else Route.setSink s k { src := c, xfade := some (x.src, { v0 := 0, v1 := one30, s := n, h := n + len }) }

/-- A patch post takes effect at tick `n` (R422, R423); with no rate in force the sink switches at once (R601). [DEDUCED, unsafe: log entry 94] -/
def Route.patch (s : State) (k c n : Nat) : State :=
  if !s.rateOn then Route.setSink s k { src := c }
  else
    let s1 := Route.startHeld s k n
    let x := Route.sink s1 k
    let len := s1.ms (s1.efF Reg.routeXfade 5 0)
    let begin_ (old : Nat) : State :=
      if c = old then Route.setSink s1 k { src := old }
      else if len = 0 then Route.setSink s1 k { src := c }
      else Route.setSink s1 k { src := c, xfade := some (old, { v0 := 0, v1 := one30, s := n, h := n + len }) }
    match x.xfade with
    | some (old, r) => if r.s = n then begin_ old else Route.setSink s1 k { x with held := some c }
    | none => begin_ x.src

/-- A node post takes effect at tick `n` (R425). -/
def Route.node (s : State) (key : Nat) (gain : Int) (n : Nat) : State :=
  let r := Tab.get (fun _ => ({} : Ramp)) s.route.nodes key
  let r' := if !s.rateOn then Ramp.const gain
    else if r.at n = gain then Ramp.const gain
    else r.aim n (n + s.ms (s.efF Reg.routeRampTime 9 0)) gain
  { s with route := { s.route with nodes := Tab.set (fun _ => {}) s.route.nodes key r' } }

/-- A post of kind 0 patch or 1 node takes effect at tick `n`. -/
def Route.applyPost (s : State) (kind b c n : Nat) : State :=
  if kind = 1 then Route.node s b (signed 32 c) n
  else if Route.isSink s.variant b && Route.isSource s.variant c then Route.patch s b c n
  else ((s.count Reg.routeDiscards 1).irq Route.page 1).fault' Route.page 0x80

/-- A direct write to ROUTE_PATCH_SRC (kind 0) or ROUTE_MIX_GAIN (kind 1) (R421, R425). -/
def Route.post (s : State) (kind : Nat) (w : Word) : State :=
  if !s.pageUp Route.page then s.discard
  else
    let b := if kind = 0 then s.rdF Reg.routePatchSink 12 0
      else 256 * s.rdF Reg.routeMixNode 15 8 + s.rdF Reg.routeMixNode 7 0
    let c := if kind = 0 then fld w 12 0 else w.toNat
    if s.rateOn then { s with route := { s.route with posts := s.route.posts ++ [{ ready := s.postReady, a := kind, b := b, c := c }] } }
    else Route.applyPost s kind b c s.clk.frame

def Route.tickPosts (s : State) (n : Nat) : State :=
  let due := s.route.posts.filter (fun p => p.ready ≤ s.clk.mono)
  let s1 := { s with route := { s.route with posts := s.route.posts.filter (fun p => !(p.ready ≤ s.clk.mono)) } }
  due.foldl (fun s p => Route.applyPost s p.a p.b p.c n) s1

/-- CROSSFADE_END of sink `k`. [DEDUCED, unsafe: log entry 94] -/
def Route.crossfadeEnd (s : State) (k : Nat) : State := Route.startHeld s k s.clk.frame

/-! ### Generators (R427, R428) -/

/-- One step of the LFSR of R428. -/
def lfsrStep (x : Nat) : Nat := if x % 2 = 1 then (x / 2) ^^^ 0x80200003 else x / 2

def lfsr32 (x : Nat) : Nat := (List.range 32).foldl (fun x _ => lfsrStep x) x

def Route.rampMs (s : State) : Nat := s.ms (s.efF Reg.routeRampTime 9 0)

/-- Generator `g` starts with type `kind` at frame `n` (R428). -/
def Route.genStart (s : State) (g kind n : Nat) : State :=
  let seed := (s.ef (Reg.routeGenSeed g)).toNat ^^^ (n % 2 ^ 32)
  let seed := if seed = 0 then 1 else seed
  let lvl := signed 16 (s.efF (Reg.routeGenLevel g) 15 0)
  Route.setGen s g { (Route.gen s g) with
    kind := kind, next := none, phase := 0, wrapped := true, lfsr := seed, seeded := seed, count := 0
    level := Ramp.const (65536 * lvl), fade := { v0 := 0, v1 := one30, s := n, h := n + Route.rampMs s } }

/-- The sample of frame `n` before the delay (R427). The level ramps in 1/65,536 of its step; the sample is the exact value rounded
once to Q1.31. [DESIGN CHOICE, unsafe: log entry 96] -/
def Route.genSample (s : State) (g n : Nat) : Int :=
  let x := Route.gen s g
  let a := fxAmp (x.level.at n) (2560 * 65536)
  let v := match x.kind with
    | 1 => fxMul a (fxSinR ((2 * fxPi * x.phase).fdiv (256 * rateHz s.clk.rate)))
    | 2 => fxMul (fxMul a (fxSqrt (3 * fxOne / 2 : Nat))) (fxRat (signed 32 x.lfsr) (2 ^ 31))
    | 3 => fxMul a (fxRat (Config.pink x.seeded x.count s.clk.rate) (2 ^ 31))
    | 4 => if x.wrapped then a else 0
    | _ => 0
  satS 32 (rnd 30 (satS 32 (fxTo 31 v) * x.fade.at n))

/-- A generator's fade-out has ended before frame `n`: it stops, or starts again with its new type (R428). -/
def Route.genTurn (s : State) (g n : Nat) : State :=
  let x := Route.gen s g
  match x.next with
  | none => s
  | some t => if n ≤ x.fade.h then s else if t = 0 then Route.setGen s g { line := x.line } else Route.genStart s g t n

/-- Every generator produces its sample of frame `n` and advances. [DESIGN CHOICE, unsafe: log entry 96] -/
def Route.stepGens (s : State) (n : Nat) : State :=
  (Tab.keys s.route.gens).foldl (fun s' g =>
    let s := Route.genTurn s' g n
    let x := Route.gen s g
    let f := (s.ef (Reg.routeGenFreq g)).toNat
    let m := 256 * rateHz s.clk.rate
    Route.setGen s g { x with
      line := pushHist 4096 (Route.genSample s g n) x.line, phase := (x.phase + f) % m, wrapped := decide (m ≤ x.phase + f)
      lfsr := lfsr32 x.lfsr, count := x.count + 1 }) s

/-- GENERATOR_FADE_END: a fade-out has ended; the generator stops, or starts again with its new type at the next frame. -/
def Route.genFadeEnd (s : State) (g : Nat) : State := Route.genTurn s g (s.clk.frame + 1)

/-- Commit hook: types and levels of the generators change at frame `n` (R428). -/
def Route.commit (s : State) (old new : Nat → Word) (n : Nat) : State :=
  (List.range 16).foldl (fun s g =>
    let o := 0x100 + 16 * g
    let t0 := fld (old o) 2 0; let t1 := fld (new o) 2 0
    let x := Route.gen s g
    let r := Route.rampMs s
    let s1 :=
      if t0 = t1 then s
      else if t0 = 0 ∨ x.kind = 0 then Route.genStart s g t1 n
      else if x.next.isSome then Route.setGen s g { x with next := some t1 }
      else Route.setGen s g { x with next := some t1, fade := x.fade.aim n (n + r) 0 }
    let l1 := signed 16 (fld (new (o + 8)) 15 0)
    let y := Route.gen s1 g
    if fld (old (o + 8)) 15 0 = fld (new (o + 8)) 15 0 ∨ y.kind = 0 ∨ t0 = 0 then s1
    else Route.setGen s1 g { y with level := y.level.aim n (n + r) (65536 * l1) }) s

/-! ### The mix and step 6 (R419, R424) -/

/-- Mix outputs of frame `n`, in ascending order of the inputs; the mix feeds the next frame's sinks. -/
def Route.mixStep (s : State) (n : Nat) : State :=
  let ins := (((Tab.keys s.route.nodes).map (· / 256)).dedup).map (fun m => (m, Route.value s (0x1200 + m) n))
  let outs := ((Tab.keys s.route.nodes).map (· % 256)).dedup
  let raw := outs.map (fun o =>
    (o, rnd 31 (s.route.nodes.foldl (fun a e =>
      if e.1 % 256 = o then a + 2 * (e.2.at n * (((ins.find? (fun p => p.1 = e.1 / 256)).map (·.2)).getD 0)) else a) 0)))
  let mix := raw.foldl (fun t p => Tab.set (fun _ => 0) t p.1 (satS 32 p.2)) []
  let clips := (raw.filter (fun p => satClips 32 p.2)).length
  let s1 : State := { s with route := { s.route with mix := mix } }
  if clips = 0 then s1 else (s1.count Reg.routeClipCount clips).irq Route.page 0

/-- Render input `i` in frame `n` (step 2): before CORR and the mix have run for frame `n`, so that they give frame n − 1.
[DEDUCED, unsafe: log entry 95] -/
def Route.renderInput (s : State) (i n : Nat) : Int := if i < s.objCap then Route.value s i n else 0

/-- Render inputs that a patch feeds. -/
def Route.renderKeys (s : State) : List Nat := (Tab.keys s.route.sinks).filter (· < 0x400)

/-! ### Enable, reset, rate change (R426) -/

/-- DEDUCED, unsafe: log entry 94. -/
def Route.setEnable (s : State) (b : Bool) (n : Nat) : State :=
  let t := if b then one30 else 0
  let r := s.route.fade
  { s with route := { s.route with fade := if s.rateOn then r.aim n (n + s.ms (s.efF Reg.routeXfade 5 0)) t else Ramp.const t
                                   fadeBusy := true } }

/-- ROUTE_FADE_DONE. -/
def Route.fadeDone (s : State) : State :=
  if s.route.fadeBusy ∧ s.route.fade.h ≤ s.clk.frame then
    ({ s with route := { s.route with fadeBusy := false } }).irq Route.page 2
  else s

/-- The soft reset's effect: silence everywhere, and the fade at the zero of a clear enable (R426). -/
def Route.resetAll (s : State) : State :=
  { s with route := { s.route with sinks := [], nodes := [], gens := [], resetDue := false, fade := Ramp.const 0, fadeBusy := false } }

def Route.softReset (s : State) : State :=
  let s1 : State := { s with route := { s.route with posts := [], resetDue := true } }
  if s.rateOn then s1 else Route.resetAll s1

def Route.tickReset (s : State) : State := if s.route.resetDue then Route.resetAll s else s

/-- Second S, with the new rate in force and first frame `n` (R426, R428). -/
def Route.rateChange (s : State) (n : Nat) : State :=
  let s1 : State := { s with route := { s.route with
    nodes := Tab.mapVals (fun _ => {}) (fun _ r => r.finish) s.route.nodes, fade := s.route.fade.finish } }
  let s2 := (Tab.keys s1.route.sinks).foldl (fun s k =>
    let x := Route.sink s k
    let y : Sink := { src := x.src }
    match x.held with
    | none => Route.setSink s k y
    | some c => Route.patch (Route.setSink s k y) k c n) s1
  (Tab.keys s2.route.gens).foldl (fun s g =>
    let x := Route.gen s g
    match x.next with
    | some 0 => Route.setGen s g {}
    | some t => Route.genStart s g t n
    | none => if x.kind = 0 then s else Route.genStart s g x.kind n) s2

/-- Own-range checks (R435). A frequency limit needs a rate; it is judged on device state. -/
def Route.check1 (f : Nat → Word) : Option Nat :=
  if 1000 < fld (f 0x44) 9 0 ∨ 50 < fld (f 0x48) 5 0 then some 0x01
  else if (List.range 16).any (fun g =>
      let t := fld (f (0x100 + 16 * g)) 2 0
      let l := signed 16 (fld (f (0x108 + 16 * g)) 15 0)
      decide (5 ≤ t ∨ l < -16384 ∨ 0 < l ∨ ((t = 2 ∨ t = 3) ∧ -768 < l))) then some 0x01
  else none

def Route.check2 (s : State) (new : Nat → Word) : Option Nat :=
  if s.rateOn ∧ (List.range 16).any (fun g => decide (128 * rateHz s.clk.rate < (new (0x104 + 16 * g)).toNat)) then some 0x01
  else none

/-- A word of the array window (R436). -/
def Route.winRead (s : State) (o : Nat) : Word :=
  if o < 0x4C00 then
    let x := Route.sink s (o / 4)
    let (run, old) := match x.xfade with
      | some (old, r) => if s.clk.frame < r.h then (true, old) else (false, 0)
      | none => (false, 0)
    w32 (x.src + b2n run * 2 ^ 13 + b2n x.held.isSome * 2 ^ 14 + old * 2 ^ 16)
  else if 0x40000 ≤ o ∧ o < 0x80000 then
    w32 (unsigned 32 ((Tab.get (fun _ => ({} : Ramp)) s.route.nodes ((o - 0x40000) / 4)).at s.clk.frame))
  else 0

end Sys2Proof.Machine
end

