-- ==== Sys2Proof/Machine/Stream.lean ====
section
/-!
DEFINITION. Media streams (R404 to R412, R415, R416).
-/
namespace Sys2Proof.Machine

def Stream.page : Nat := 0x13
def Stream.rxAddr (e : Nat) : Nat := winBase Stream.page + 64 * e
def Stream.txAddr (e : Nat) : Nat := winBase Stream.page + 0x2000 + 64 * e

def Stream.rxs (s : State) (e : Nat) : RxStream := Tab.get (fun _ => {}) s.stream.rxs e
def Stream.setRx (s : State) (e : Nat) (x : RxStream) : State :=
  { s with stream := { s.stream with rxs := Tab.set (fun _ => {}) s.stream.rxs e x } }
def Stream.txs (s : State) (e : Nat) : TxStream := Tab.get (fun _ => {}) s.stream.txs e
def Stream.setTx (s : State) (e : Nat) (x : TxStream) : State :=
  { s with stream := { s.stream with txs := Tab.set (fun _ => {}) s.stream.txs e x } }

/-! ### Entries (R404, R416) -/

/-- Fields common to both directions, from the entry at `a`. -/
def Stream.format (s : State) (a : Nat) : Nat := fld (s.ld32 a) 1 0
def Stream.paths (s : State) (a : Nat) : Nat := fld (s.ld32 a) 3 2
def Stream.channels (s : State) (a : Nat) : Nat := fld (s.ld32 a) 14 8
def Stream.firstCh (s : State) (a : Nat) : Nat := fld (s.ld32 a) 25 16
def Stream.dRx (s : State) (a : Nat) : Nat := fld (s.ld32 (a + 4)) 31 16

/-- Frames of a packet at a rate code (R404). -/
def Stream.frames (s : State) (a code : Nat) : Nat := nth 6 [6, 12, 16, 48] (fld (s.ld32 (a + 4)) 1 0) <<< rateClass code

/-- Bytes of a sample. -/
def Stream.bytes (format : Nat) : Nat := if format = 0 then 2 else if format = 1 then 3 else 4

/-- B of R405 and the channel limit of check 2. -/
def Stream.bufLen (code : Nat) : Nat := 512 <<< rateClass code
def Stream.limit (code : Nat) : Nat := 1024 >>> rateClass code

/-- Paths that the variant uses of an entry's paths field (R409). -/
def Stream.usedPaths (s : State) (a : Nat) (tx : Bool) : Nat :=
  let p := Stream.paths s a
  if p = 3 ∧ ((!tx ∧ !s.variant.has2022_7) ∨ (tx ∧ s.variant.nets < 2)) then 1 else p

/-! ### The checks of R405 -/

/-- The rate code that judges the table: that in force, or 48 kHz while none is (R601). [DEDUCED, unsafe: log entry 92] -/
def Stream.code (s : State) : Nat := if s.rateOn then s.clk.rate else 2

def Stream.enabledRx (f : Nat → Word) : List Nat := (List.range 128).filter (fun e => bit (f (0x40 + 4 * (e / 32))) (e % 32))
def Stream.enabledTx (f : Nat → Word) : List Nat := (List.range 128).filter (fun e => bit (f (0x50 + 4 * (e / 32))) (e % 32))

/-- Wire time of a packet on a port, in tenths of a nanosecond. -/
def Stream.wire (s : State) (port a code : Nat) : Nat :=
  let payload := Stream.channels s a * Stream.frames s a code * Stream.bytes (Stream.format s a)
  let bytes := payload + 78 + (if s.efB (Reg.netCfg port) 3 then 4 else 0)
  bytes * (if s.efF (Reg.netCfg port) 1 0 = 2 then 80 else 8)

def Stream.txPhase (s : State) (a : Nat) : Nat := fld (s.ld32 (a + 4)) 15 8

/-- The largest sum of wire times of the packets due at one frame on a port, over the cycle of all packet lengths. -/
def Stream.maxWire (s : State) (tx : List Nat) (port code : Nat) : Nat :=
  let es := tx.filter (fun e => (Stream.usedPaths s (Stream.txAddr e) true).testBit port)
  (List.range (48 <<< rateClass code)).foldl (fun m n =>
    max m (es.foldl (fun t e =>
      let a := Stream.txAddr e
      let len := Stream.frames s a code
      if (n + len - Stream.txPhase s a % len) % len = 0 then t + Stream.wire s port a code else t) 0)) 0

/-- A path of an entry is wrong (check 7); an entry that names no path has none that is. -/
def Stream.badPath (s : State) (a : Nat) (tx : Bool) : Bool :=
  let p := Stream.usedPaths s a tx
  let one (i off : Nat) : Bool :=
    p.testBit i && (decide (s.variant.nets ≤ i) || s.ld32 (a + off) == 0 ||
      fld (s.ld32 (a + off + (if tx then 4 else 8))) 15 0 == 0 || (tx && fld (s.ld32 (a + off + 8)) 7 0 == 0))
  one 0 0x10 || one 1 0x1C

/-- The first check that an entry fails. -/
def Stream.entryCheck (s : State) (a code : Nat) (tx : Bool) : Option Nat :=
  let ch := Stream.channels s a
  let len := Stream.frames s a code
  if Stream.format s a = 3 ∨ ch = 0 ∨ 64 < ch ∨ 1440 < ch * len * Stream.bytes (Stream.format s a) then some 1
  else if Stream.limit code < Stream.firstCh s a + ch then some 3
  else if !tx ∧ (Stream.dRx s a < len ∨ Stream.bufLen code < Stream.dRx s a + len) then some 4
  else if Stream.badPath s a tx then some 7
  else none

/-- Entries of one direction in ascending order: check, entry. -/
def Stream.dirCheck (s : State) (es : List Nat) (code : Nat) (tx : Bool) : Option (Nat × Nat) :=
  let addr (e : Nat) := if tx then Stream.txAddr e else Stream.rxAddr e
  let own := es.findSome? (fun e => (Stream.entryCheck s (addr e) code tx).map (fun c => (c, e)))
  own.orElse fun _ =>
    let tot := es.foldl (fun t e => t + Stream.channels s (addr e)) 0
    let am := (es.filter (fun e => Stream.format s (addr e) = 2)).length
    if Stream.limit code < tot then some (2, es.getLastD 0)
    else if 16 < am then some (6, es.getLastD 0)
    else if tx ∧ ([0, 1] : List Nat).any (fun p => decide (25000 < Stream.maxWire s es p code)) then some (5, es.getLastD 0)
    else none

/-- The check and entry that refuse a table, with the direction. -/
def Stream.tableCheck (s : State) (f : Nat → Word) (code : Nat) : Option (Nat × Bool × Nat) :=
  match Stream.dirCheck s (Stream.enabledRx f) code false with
  | some (c, e) => some (c, false, e)
  | none => (Stream.dirCheck s (Stream.enabledTx f) code true).map (fun x => (x.1, true, x.2))

def Stream.errWord (x : Nat × Bool × Nat) : Word := w32 (x.1 * 256 + b2n x.2.1 * 128 + x.2.2)

/-- A table refused: STREAM_ERR names the entry and check, and the refused bit is set. -/
def Stream.noteRefusal (s : State) (x : Nat × Bool × Nat) : State := (s.wr Reg.streamErr (Stream.errWord x)).irq Stream.page 3

def Stream.check1 (f : Nat → Word) : Option Nat := if 1000 < fld (f 0x60) 9 0 then some 0x01 else none

def Stream.check2 (s : State) (new : Nat → Word) : Option Nat :=
  if (Stream.tableCheck s new (Stream.code s)).isSome then some 0x80 else none

/-! ### Enabling (R406, R409) -/

/-- Commit hook at frame `n`. -/
def Stream.commit (s : State) (old new : Nat → Word) (n : Nat) : State :=
  let r := s.ms (s.efF Reg.streamRampMs 9 0)
  let s1 := (List.range 128).foldl (fun s e =>
    let was := (Stream.enabledRx old).contains e; let is := (Stream.enabledRx new).contains e
    let x := Stream.rxs s e
    if was = is then s
    else if is then
      let s' := Stream.setRx s e { on := true }
      if Stream.paths s (Stream.rxAddr e) = 3 ∧ !s.variant.has2022_7 then s'.fault' Stream.page 0x02 else s'
    else if s.rateOn then Stream.setRx s e { x with on := false, fadeEnd := some (n + r), fade := x.fade.aim n (n + r) 0 }
    else Stream.setRx s e {}) s
  let s2 := (List.range 128).foldl (fun s e =>
    let was := (Stream.enabledTx old).contains e; let is := (Stream.enabledTx new).contains e
    let x := Stream.txs s e
    if was = is then s
    else if is then
      let s' := Stream.setTx s e { x with on := true, fadeEnd := none }
      if Stream.paths s (Stream.txAddr e) = 3 ∧ s.variant.nets < 2 then s'.fault' Stream.page 0x02 else s'
    else if s.rateOn then Stream.setTx s e { x with on := false, fadeEnd := some (n + r) }
    else Stream.setTx s e {}) s1
  ([0, 1] : List Nat).foldl (fun s p => if p < s.variant.nets then Net.rejoin s p else s) s2

/-! ### Receiving (R407 to R410) -/

/-- Receive status word `k` of entry `e` rises by `n`. -/
def Stream.bump (s : State) (e k n : Nat) : State :=
  let a := winBase Stream.page + 0x4000 + 32 * e + 4 * k
  if n = 0 then s else s.st32 a (satAdd (s.ld32 a) n)

/-- A datagram belongs to the path of port `p` of entry `e` (R407). -/
def Stream.matches (s : State) (p e : Nat) (k : RtpPacket) : Bool :=
  let a := Stream.rxAddr e
  let o := a + (if p = 0 then 0x10 else 0x1C)
  let filt := (s.ld32 (o + 4)).toNat
  (Stream.rxs s e).on && (Stream.usedPaths s a false).testBit p && (s.ld32 o).toNat == k.dst &&
  fld (s.ld32 (o + 8)) 15 0 == k.dport && (filt == 0 || filt == k.src) && k.version == 2 &&
  (!bit (s.ld32 (a + 4)) 15 || fld (s.ld32 (a + 4)) 14 8 == k.pt) &&
  (!bit (s.ld32 a) 5 || (s.ld32 (a + 0xC)).toNat == k.ssrc)

/-- Parity of the low 32 bits of a number. -/
def oddParity (n : Nat) : Bool := popcount 32 n % 2 == 1

/-- One sample of the payload: its value, or none where AM824 marks it missing (R410). Media samples stand in network order.
[DEDUCED, unsafe: log entry 92] -/
def Stream.sample (format : Nat) (vMode : Bool) (b : List Byte) : Option Int :=
  let w := ofBe b
  if format = 0 then some (signed 16 w * 65536)
  else if format = 1 then some (signed 24 w * 256)
  else
    -- the bits P C U V stand above the 24 bits of the sample
    if oddParity (w % 2 ^ 28) ∨ (vMode ∧ w.testBit 24) then none else some (signed 24 w * 256)

/-- The frame index k ≡ (timestamp − ts_offset) mod 2^32 nearest the frame in progress (R408). -/
def Stream.frameIndex (n ts off : Nat) : Int :=
  let d := ((ts : Int) - off - n) % (2 ^ 32 : Nat)
  (n : Int) + (if d < 2 ^ 31 then d else d - 2 ^ 32)

/-- The entry to whose path at port `p` a packet belongs. -/
def Stream.entryOf (s : State) (p : Nat) (k : RtpPacket) : Option Nat :=
  if !s.pageUp Stream.page then none else (List.range 128).find? (fun e => Stream.matches s p e k)

/-- A packet of entry `e` is received at port `p`; without a render rate its samples have no frame. [DEDUCED, safe: log entry 93] -/
def Stream.place (s : State) (p e : Nat) (k : RtpPacket) : State :=
    let s0 := Stream.bump s e p 1
    let a := Stream.rxAddr e
    let x := Stream.rxs s0 e
    let prev := if p = 0 then x.seqA else x.seqB
    let gap : Nat := match prev with | some q => (k.seq + 65536 - q - 1) % 65536 | none => 0
    let gap := if 0x8000 ≤ gap then 0 else gap
    let x1 := if p = 0 then { x with seqA := some k.seq } else { x with seqB := some k.seq }
    let s1 := Stream.setRx (Stream.bump s0 e (2 + p) gap) e x1
    let s2 := if gap = 0 then s1 else s1.irq Stream.page 2
    let ch := Stream.channels s a; let len := Stream.frames s a s.clk.rate; let fm := Stream.format s a
    let by_ := Stream.bytes fm
    let bl := Stream.bufLen s.clk.rate
    if k.payload.length ≠ ch * len * by_ then Stream.bump s2 e 7 1
    else if !s.rateOn then s2
    else
      let n := s.clk.frame
      let k0 := Stream.frameIndex n k.ts (s.ld32 (a + 8)).toNat
      let lim : Int := (n : Int) - (Stream.dRx s a : Int)
      if lim + (bl : Int) ≤ k0 + (len : Int) - 1 then (Stream.bump s2 e 5 1).irq Stream.page 1
      else
        let late := decide (k0 ≤ lim)
        let buf := (List.range len).foldl (fun (t : Tab (Nat × List (Option Int))) (i : Nat) =>
          let f : Int := k0 + (i : Int)
          if f ≤ lim ∨ f < 0 then t
          else
            let slot := f.toNat % bl
            if (Tab.get (fun _ => ((0 : Nat), ([] : List (Option Int)))) t slot).1 = f.toNat + 1 then t
            else
              let v := (List.range ch).map (fun c =>
                Stream.sample fm (bit (s.ld32 a) 4) (slice k.payload ((i * ch + c) * by_) by_))
              Tab.set (fun _ => ((0 : Nat), ([] : List (Option Int)))) t slot (f.toNat + 1, v)) x1.buf
        let s3 := Stream.setRx s2 e { x1 with buf := buf }
        if late then (Stream.bump s3 e 4 1).irq Stream.page 1 else s3

/-- At tick `n`, every receive stream latches the sample of frame n − d_rx (R406, R408, R412). [DEDUCED, safe: log entry 93] -/
def Stream.latch (s : State) (n : Nat) : State :=
  let s0 : State := { s with stream := { s.stream with rx := [] } }
  (Tab.keys s.stream.rxs).foldl (fun s e =>
    let x := Stream.rxs s e
    let a := Stream.rxAddr e
    let bl := Stream.bufLen s.clk.rate
    let ch := Stream.channels s a
    let f := n - Stream.dRx s a
    let slot := Tab.get (fun _ => ((0 : Nat), ([] : List (Option Int)))) x.buf (f % bl)
    let has := slot.1 == f + 1 && decide (Stream.dRx s a ≤ n)
    let ended : Bool := match x.fadeEnd with | some h => decide (h ≤ n) | none => false
    if (!x.on ∧ x.fadeEnd.isNone) ∨ ended then Stream.setRx s e { on := x.on }
    else
      let use := has && x.forced != some false
      let v := (List.range ch).map (fun c =>
        if use then (nth none slot.2 c).getD (nth 0 x.last c) else nth 0 x.last c)
      let r := s.ms (s.efF Reg.streamRampMs 9 0)
      let first := use && !x.primed && x.on
      let x1 : RxStream := { x with
        primed := x.primed || use, last := v, forced := none, buf := if has then Tab.erase x.buf (f % bl) else x.buf
        fade := if first then { v0 := 0, v1 := one30, s := n, h := n + r } else x.fade }
      let s1 := Stream.setRx s e x1
      -- without a sample: an underrun, or on a standby whose active had one, a divergence
      let s2 :=
        if x.forced = some true ∧ !has ∧ x.primed then (s1.fault' Stream.page 0x81).irq Stream.page 4
        else if (!use ∨ (List.range ch).any (fun c => (nth none slot.2 c).isNone)) ∧ x.primed then (Stream.bump s1 e 6 1).irq Stream.page 0
        else s1
      let g := x1.fade.at n
      let t := (List.range ch).foldl (fun t c =>
        Tab.set (fun _ => 0) t (Stream.firstCh s a + c) (satS 32 (rnd 30 (nth 0 v c * g)))) s2.stream.rx
      { s2 with stream := { s2.stream with rx := t } }) s0

/-! ### Sending (R406, R410 to R412) -/

/-- The samples of frame `n` that the transmit streams take at the end of step 6. [DEDUCED, safe: log entry 93] -/
def Stream.collect (s : State) (n : Nat) : State :=
  (Tab.keys s.stream.txs).foldl (fun s e =>
    let x := Stream.txs s e
    let a := Stream.txAddr e
    let g := s.port.sinkGain.at n
    let v := (List.range (Stream.channels s a)).map (fun c =>
      if x.on ∧ s.stake.stepStage ≠ 2 ∧ s.stake.stepStage ≠ 3 then
        satS 32 (rnd 30 (Route.value s (0x800 + Stream.firstCh s a + c) n * g)) else 0)
    Stream.setTx s e { x with hist := (v :: x.hist).take (Stream.frames s a s.clk.rate) }) s

/-- The 32-bit word of AM824 for channel `c` of frame `k` (R410): 0 0 B F P C U V above the sample. [DEDUCED, unsafe: log entry 92] -/
def Stream.am824 (s : State) (a k c : Nat) (x : Int) : Nat :=
  let src := fld (s.ld32 (a + 0x28)) 11 8
  let bitNo := k % 192
  let cs := src != 0 && bit (s.ef (Reg.aesTxCs (src - 1) (bitNo / 32))) (bitNo % 32)
  let low := unsigned 24 (satS 24 (rnd 8 x)) + b2n cs * 2 ^ 26
  low + b2n (oddParity low) * 2 ^ 27 + b2n (c % 2 == 0) * 2 ^ 28 + b2n (bitNo == 0) * 2 ^ 29

/-- A sample in a packet, in network order. [DEDUCED, unsafe: log entry 92] -/
def Stream.encode (s : State) (a k c : Nat) (x : Int) : List Byte :=
  let fm := Stream.format s a
  if fm = 0 then (leBytes 2 (unsigned 16 (satS 16 (rnd 16 x)))).reverse
  else if fm = 1 then (leBytes 3 (unsigned 24 (satS 24 (rnd 8 x)))).reverse
  else (leBytes 4 (Stream.am824 s a k c x)).reverse

/-- Packets due at tick `n` leave, in ascending entry order (R411). -/
def Stream.send (s : State) (n : Nat) : State :=
  (Tab.keys s.stream.txs).foldl (fun s e =>
    let x := Stream.txs s e
    let a := Stream.txAddr e
    let len := Stream.frames s a s.clk.rate
    let ph := Stream.txPhase s a
    let live := x.on || x.fadeEnd.isSome
    if !live ∨ n < len + ph ∨ (n - ph) % len ≠ 0 then s
    else
      let k := n - len
      let j := (k - ph) / len
      let ended : Bool := match x.fadeEnd with | some h => decide (h ≤ n) | none => false
      let payload := (List.range len).flatMap (fun i =>
        (List.range (Stream.channels s a)).flatMap (fun c => Stream.encode s a (k + i) c (nth 0 (nth [] x.hist (len - 1 - i)) c)))
      let st := winBase Stream.page + 0x5000 + 16 * e
      let ts := (k + (s.ld32 (a + 8)).toNat) % 2 ^ 32
      let w := s.ld32 (a + 4)
      let one (s : State) (p off : Nat) : State :=
        if !(Stream.usedPaths s a true).testBit p ∨ !Net.live s p then s
        else
          let dst := (s.ld32 (a + off)).toNat
          let ports := s.ld32 (a + off + 4)
          if !s.enablesOpen then s
          else if !Net.resolved s p dst then Net.ask (Net.count (s.st32 (st + 4) (satAdd (s.ld32 (st + 4)) 1)) p 5) p dst
          else
            let x : Sent := {
              port := p, kind := 11, dst := dst, dport := fld ports 15 0, dscp := fld (s.ld32 (a + 0x28)) 5 0, payload := payload
              fields := [e, fld ports 31 16, fld (s.ld32 (a + off + 8)) 7 0, fld w 22 16, (s.ld32 (a + 0xC)).toNat, j % 65536, ts] }
            let s1 := Net.emit s x
            (s1.st32 st (satAdd (s1.ld32 st) 1)).st32 (st + 8) (w32 (j % 65536))
      let s1 := one (one s 0 0x10) 1 0x1C
      if ended then Stream.setTx s1 e {} else s1) s

/-! ### Registers, window, rate changes -/

def Stream.read (s : State) (o : Nat) : Option Word :=
  let f := fun o => s.ef (Stream.page * 0x1000 + o)
  let code := Stream.code s
  if o = 0x64 then
    some (w32 ((Stream.enabledTx f).foldl (fun t e => t + Stream.channels s (Stream.txAddr e)) 0 * 65536 +
      (Stream.enabledRx f).foldl (fun t e => t + Stream.channels s (Stream.rxAddr e)) 0))
  else if o = 0x68 then
    some (w32 (cdiv (Stream.maxWire s (Stream.enabledTx f) 1 code) 10 * 65536 + cdiv (Stream.maxWire s (Stream.enabledTx f) 0 code) 10))
  else none

/-- The bits that the word at offset `r` of a receive or transmit entry has; the others are zero (R416). -/
def Stream.entryMask (tx : Bool) (r : Nat) : Word :=
  if r = 0 then (if tx then 0x03FF7F0F else 0x03FF7F3F)
  else if r = 4 then (if tx then 0x007FFF03 else 0xFFFFFF03)
  else if r = 0x18 ∨ r = 0x24 then (if tx then 0xFF else 0xFFFF)
  else if r < 0x28 then 0xFFFFFFFF
  else if r = 0x28 ∧ tx then 0xF3F
  else 0

def Stream.winWrite (s : State) (o : Nat) (w : Word) : State :=
  let v := w &&& Stream.entryMask (0x2000 ≤ o) (o % 64)
  if o < 0x2000 then
    if (Stream.rxs s (o / 64)).on then s.faultTick Stream.page else s.st32 (winBase Stream.page + o) v
  else if o < 0x4000 then
    if (Stream.txs s ((o - 0x2000) / 64)).on then s.faultTick Stream.page else s.st32 (winBase Stream.page + o) v
  else if 0x4000 ≤ o ∧ o < 0x5800 then s.discard
  else s

def Stream.winRead (s : State) (o : Nat) : Word := s.ld32 (winBase Stream.page + o)

/-- Second S at rate `code` (R405): streams that fail the checks at the new rate are disabled; buffers, whose slots are frames of
the old rate, start over. -/
def Stream.rateChange (s : State) (code : Nat) : State :=
  let f := fun o => s.ef (Stream.page * 0x1000 + o)
  let s0 : State := { s with stream := { s.stream with
    rx := []
    rxs := s.stream.rxs.map (fun e => (e.1, { on := e.2.on }))
    txs := s.stream.txs.map (fun e => (e.1, { on := e.2.on })) } }
  if code = 0 then s0
  else
    let drop (fuel : Nat) : State := (List.range fuel).foldl (fun s _ =>
      match Stream.tableCheck s (fun o => s.ef (Stream.page * 0x1000 + o)) code with
      | none => s
      | some (c, tx, e) =>
        let r := if tx then Reg.streamTxEn (e / 32) else Reg.streamRxEn (e / 32)
        let s1 := s.wrBoth r (setBit (s.ef r) (e % 32) false)
        let s2 := if tx then Stream.setTx s1 e {} else Stream.setRx s1 e {}
        (Stream.noteRefusal s2 (c, tx, e)).fault' Stream.page 0x80) s0
    drop ((Stream.enabledRx f).length + (Stream.enabledTx f).length)

def Stream.softReset (s : State) : State :=
  ({ s with stream := {} }).clearMem (winBase Stream.page) (winBase Stream.page + 0x100000)

end Sys2Proof.Machine
end

