-- ==== Sys2Proof/Machine/Eth.lean ====
section
/-!
DEFINITION. The order in which received frames are handled (R401), and the parts of frames that it reads. The layouts of Ethernet,
IPv4, UDP, RTP, ARP, ICMP, IGMP and PTP messages are those of the standards that the spec names. [PRESUMED, unsafe: log entry 161]
-/
namespace Sys2Proof.Machine

/-- A frame under the VLAN rule of R401: none where it is dropped, else the frame with its tag taken off, and that tag. -/
def Eth.untag (s : State) (p : Nat) (frame : List Byte) : Option (List Byte × Option Nat) :=
  let c := s.ef (Reg.netCfg p)
  if !bit c 3 ∨ be16 frame 12 ≠ 0x8100 then some (frame, none)
  else if be16 frame 14 % 4096 ≠ fld c 15 4 then none
  else some (frame.take 12 ++ frame.drop 16, some (be16 frame 14))

/-- Bytes that the command does not give: `n` free ones. [DESIGN CHOICE, safe: log entry 161] -/
def State.drawBytes (s : State) (n : Nat) : List Byte × State :=
  ((List.range n).map (fun i => (Config.free (s.freeCtr + i)).setWidth 8), { s with freeCtr := s.freeCtr + n })

/-- A datagram with `payload` for the host queue, its 42 bytes of headers and its buffer's address free. -/
def Eth.datagramToHost (s : State) (p : Nat) (payload : List Byte) : State :=
  let h := s.drawBytes 42
  let b := h.2.drawFree
  Net.toHost b.2 p (h.1 ++ payload) none b.1.toNat

/-! ### PTP (row 3) -/

/-- A PTP message in a frame, of an enabled domain: a message that is too short, or not of version 2, is malformed.[PRESUMED, unsafe: log entry 161] -/
def Eth.ptp (s : State) (p src : Nat) (m f : List Byte) (vlan : Option Nat) (buf : Nat) : State :=
  let kind := (nth 0 m 0).toNat % 16
  let dom := (nth 0 m 4).toNat
  let corr : Int := signed 64 (ofBe (slice m 8 8)) * 65536
  let sender := ofBe (slice m 20 10)
  let seq := be16 m 30
  let time := ofBe (slice m 34 6) * secU + ofBe (slice m 40 4) * nsU
  let need := if kind = 11 then 64 else if kind = 9 then 54 else 44
  if kind = 12 ∨ kind = 13 then Net.toHost s p f vlan buf
  else if m.length < need then Net.count s p 7
  else match kind with
    | 0 => Ptp.sync s p dom sender seq ((nth 0 m 6).toNat.testBit 1) time corr
    | 1 => Ptp.delayReq s p dom sender seq
    | 8 => Ptp.followUp s p dom sender seq time corr
    | 9 => if ofBe (slice m 44 10) = Ptp.ident s p then Ptp.delayResp s p dom sender seq time corr else s
    | 11 => Ptp.announce s p {
        domain := dom, priority1 := (nth 0 m 47).toNat, clockClass := (nth 0 m 48).toNat, accuracy := (nth 0 m 49).toNat
        variance := be16 m 50, priority2 := (nth 0 m 52).toNat, gmId := ofBe (slice m 53 8), stepsRemoved := be16 m 61
        sender := sender, addr := src }
    | _ => s

/-- The message is PTP's to consume: too short to tell its domain, not of version 2, or of the enabled domain. -/
def Eth.isPtp (s : State) (p dport : Nat) (m : List Byte) : Bool :=
  (dport == 319 || dport == 320) && Ptp.enabled s p &&
  (decide (m.length < 34) || (nth 0 m 1).toNat % 16 != 2 || (nth 0 m 4).toNat == Ptp.domain s)

/-- Row 3. -/
def Eth.ptpRow (s : State) (p src : Nat) (m f : List Byte) (vlan : Option Nat) (buf : Nat) : State :=
  if m.length < 34 ∨ (nth 0 m 1).toNat % 16 ≠ 2 then Net.count s p 7 else Eth.ptp s p src m f vlan buf

/-! ### Media packets and Felot (rows 4 and 5) -/

/-- A datagram read as RTP: CSRC entries, a header extension and padding are skipped (R407).[PRESUMED, unsafe: log entry 161] -/
def Eth.rtp (src dst dport : Nat) (d : List Byte) : RtpPacket :=
  let b0 := (nth 0 d 0).toNat
  let o := 12 + 4 * (b0 % 16)
  let o := if b0.testBit 4 then o + 4 + 4 * be16 d (o + 2) else o
  let pad := if b0.testBit 5 then (d.getLastD 0).toNat else 0
  { dst := dst, dport := dport, src := src, version := b0 / 64, pt := (nth 0 d 1).toNat % 128, seq := be16 d 2
    ts := ofBe (slice d 4 4), ssrc := ofBe (slice d 8 4), payload := slice d o (d.length - o - pad) }

/-- The bytes of a datagram that a packet stands for, with a header of 12 bytes. -/
def Eth.rtpBytes (k : RtpPacket) : List Byte :=
  [BitVec.ofNat 8 (k.version * 64), BitVec.ofNat 8 k.pt] ++ (leBytes 2 k.seq).reverse ++ (leBytes 4 k.ts).reverse ++
    (leBytes 4 k.ssrc).reverse ++ k.payload

/-- The datagram matches Felot (R127). -/
def Felot.takes (s : State) (p dst dport src : Nat) : Bool := s.pageUp Scene.page && Felot.accepts s p dst dport src

/-- Felot consumes a datagram; a standby ignores its own Felot messages (R132). -/
def Felot.take (s : State) (payload : List Byte) : State := if s.isStandby then s else Felot.message s payload

/-- A UDP datagram in a frame: rows 3, 4, 5 and 8. -/
def Eth.udp (s : State) (p src dst dport : Nat) (d f : List Byte) (vlan : Option Nat) (buf : Nat) : State :=
  if Eth.isPtp s p dport d then Eth.ptpRow s p src d f vlan buf
  else
    let k := Eth.rtp src dst dport d
    match Stream.entryOf s p k with
    | some e => Stream.place s p e k
    | none => if Felot.takes s p dst dport src then Felot.take s d else Net.toHost s p f vlan buf

/-! ### Frames -/

/-- An IPv4 packet in a frame: rows 2 to 8.[PRESUMED, unsafe: log entry 161] -/
def Eth.ipv4 (s : State) (p : Nat) (f : List Byte) (vlan : Option Nat) (buf : Nat) : State :=
  let ihl := 4 * ((nth 0 f 14).toNat % 16)
  let o := 14 + ihl
  let len := be16 f 16 - ihl
  let proto := (nth 0 f 23).toNat
  let src := ofBe (slice f 26 4)
  let dst := ofBe (slice f 30 4)
  if be16 f 20 % 0x4000 % 0x2000 ≠ 0 ∨ (be16 f 20).testBit 13 then Net.toHost s p f vlan buf
  else if proto = 17 then Eth.udp s p src dst (be16 f (o + 2)) (slice f (o + 8) (be16 f (o + 4) - 8)) f vlan buf
  else if proto = 1 ∧ (nth 0 f o).toNat = 8 ∧ dst = Net.ip s p ∧ dst ≠ 0 then
    Net.echoed s p src [be16 f (o + 4), be16 f (o + 6)] (slice f (o + 8) (len - 8))
  else if proto = 2 ∧ (nth 0 f o).toNat = 0x11 then
    let version := if 12 ≤ len then 3 else if (nth 0 f (o + 1)).toNat = 0 then 1 else 2
    Net.toHost (Net.queried s p version) p f vlan buf
  else Net.toHost s p f vlan buf

/-- An ARP message in a frame: row 6, and replies, which the cache takes (R403).[PRESUMED, unsafe: log entry 161] -/
def Eth.arp (s : State) (p : Nat) (f : List Byte) (vlan : Option Nat) (buf : Nat) : State :=
  let op := be16 f 20
  let sender := ofBe (slice f 28 4)
  let mac := ofBe (slice f 22 6)
  if op = 1 ∧ Net.ip s p ≠ 0 ∧ ofBe (slice f 38 4) = Net.ip s p then Net.arpAnswer s p sender mac
  else if op = 2 ∧ Net.ip s p ≠ 0 ∧ (sender = Net.ip s p ∨ ofBe (slice f 38 4) = Net.ip s p) then Net.arpLearn s p sender mac
  else Net.toHost s p f vlan buf

/-- ETH_FRAME_RECEIVE on port `p`: `frame` is without its FCS, and its first bit came `sfd` before the command (R395, R401). [DEDUCED, unsafe: log entry 89] -/
def Eth.receive (s : State) (p : Nat) (frame : List Byte) (fcsOk : Bool) (sfd buf : Nat) : State :=
  if !Net.live s p then s
  else
    let s1 := Net.count s p 0
    let s2 := Net.since s1 sfd
    if !fcsOk ∨ 1522 < frame.length + 4 then Net.count s1 p 3
    else match Eth.untag s1 p frame with
      | none => s1
      | some (f, v) =>
        if be16 f 12 = 0x800 then Net.since (Eth.ipv4 s2 p f v buf) 0
        else if be16 f 12 = 0x806 then Net.since (Eth.arp s2 p f v buf) 0
        else Net.since (Net.toHost s2 p f v buf) 0

/-- PTP_MANAGEMENT_SIGNALING: the frame goes to the host queue (R385, R401). -/
def Eth.host (s : State) (p : Nat) (frame : List Byte) (buf : Nat) : State :=
  if !Net.live s p then s
  else
    let s1 := Net.count s p 0
    match Eth.untag s1 p frame with
    | none => s1
    | some (f, v) => Net.toHost s1 p f v buf

/-- IGMP_QUERY: it is answered, and copied to the host queue (R401, R402). -/
def Eth.query (s : State) (p version : Nat) (frame : List Byte) (buf : Nat) : State :=
  if !Net.live s p then s
  else
    let s1 := Net.count s p 0
    match Eth.untag s1 p frame with
    | none => s1
    | some (f, v) => Net.toHost (Net.queried s1 p version) p f v buf

/-- STREAM_PACKET_RECEIVE: a packet that belongs to no stream goes on down R401 (R407, R408). -/
def Eth.packet (s : State) (p : Nat) (k : RtpPacket) : State :=
  if !Net.live s p then s
  else
    let s1 := Net.count s p 0
    match Stream.entryOf s1 p k with
    | some e => Stream.place s1 p e k
    | none =>
      if Felot.takes s1 p k.dst k.dport k.src then Felot.take s1 (Eth.rtpBytes k) else Eth.datagramToHost s1 p (Eth.rtpBytes k)

/-- FELOT_MESSAGE_RECEIVE: a UDP datagram that may be Felot's; one that fails the tests goes to the host queue (R127, R132). -/
def Felot.datagram (s : State) (net dstIp dstPort srcIp : Nat) (payload : List Byte) : State :=
  if !Net.live s net then s
  else
    let s1 := Net.count s net 0
    if Felot.takes s1 net dstIp dstPort srcIp then Felot.take s1 payload else Eth.datagramToHost s1 net payload

end Sys2Proof.Machine
end

