-- ==== Sys2Proof/Machine/Crypto.lean ====
section
/-!
DEFINITION. The checks that an image carries (R265, R516, R518): CRC-32 of IEEE 802.3, SHA-256, and ECDSA over P-256 with the
standards' own constants; SHA-256's are computed from the primes.
-/
namespace Sys2Proof.Machine

/-- One byte of the reflected CRC-32. -/
def crc32Byte (crc byte : Nat) : Nat :=
  (List.range 8).foldl (fun c _ => if c % 2 = 1 then (c / 2) ^^^ 0xEDB88320 else c / 2) (crc ^^^ byte)

/-- CRC-32 of IEEE 802.3 over bytes (R265, R530, R544, R549). -/
def crc32 (l : List Byte) : Nat := (l.foldl (fun c b => crc32Byte c b.toNat) 0xFFFFFFFF) ^^^ 0xFFFFFFFF

/-! ### SHA-256 -/

/-- Greatest x below 2^`bits` with x^`k` ≤ n. -/
def iroot (k n : Nat) (bits : Nat) : Nat :=
  (List.range bits).foldl (fun x i => let y := x + 2 ^ (bits - 1 - i); if y ^ k ≤ n then y else x) 0

/-- The first 64 primes. -/
def primes64 : List Nat :=
  (List.range 312).filter (fun n => decide (2 ≤ n) && (List.range 18).all (fun d => decide (d < 2) || d == n || n % d != 0))

/-- Fractional bits of the cube roots and of the square roots of the primes. -/
def shaK : List (BitVec 32) := primes64.map (fun p => BitVec.ofNat 32 (iroot 3 (p * 2 ^ 96) 36))
def shaH : List (BitVec 32) := (primes64.take 8).map (fun p => BitVec.ofNat 32 (iroot 2 (p * 2 ^ 64) 40))

def shaSched (block : List (BitVec 32)) : List (BitVec 32) :=
  ((List.range 48).foldl (fun (w : List (BitVec 32)) _ =>
    let a := w.getD 14 0
    let b := w.getD 1 0
    let s0 := a.rotateRight 7 ^^^ a.rotateRight 18 ^^^ (a >>> 3)
    let s1 := b.rotateRight 17 ^^^ b.rotateRight 19 ^^^ (b >>> 10)
    (w.getD 15 0 + s0 + w.getD 6 0 + s1) :: w) block.reverse).reverse

/-- The eight working words after one round with key and word `kw`. -/
def shaRound (v : List (BitVec 32)) (kw : BitVec 32) : List (BitVec 32) :=
  let g := fun i => v.getD i (0 : BitVec 32)
  let s1 := (g 4).rotateRight 6 ^^^ (g 4).rotateRight 11 ^^^ (g 4).rotateRight 25
  let ch := (g 4 &&& g 5) ^^^ (~~~(g 4) &&& g 6)
  let t1 := g 7 + s1 + ch + kw
  let s0 := (g 0).rotateRight 2 ^^^ (g 0).rotateRight 13 ^^^ (g 0).rotateRight 22
  let maj := (g 0 &&& g 1) ^^^ (g 0 &&& g 2) ^^^ (g 1 &&& g 2)
  [t1 + s0 + maj, g 0, g 1, g 2, g 3 + t1, g 4, g 5, g 6]

def shaBlock (h : List (BitVec 32)) (block : List (BitVec 32)) : List (BitVec 32) :=
  let v := (List.zipWith (fun k w => k + w) shaK (shaSched block)).foldl shaRound h
  List.zipWith (fun a b => a + b) h v

/-- Big-endian words of the padded message. -/
def shaWords : Nat → List Byte → List (BitVec 32)
  | 0, _ => []
  | k + 1, l => BitVec.ofNat 32 (ofBe (l.take 4)) :: shaWords k (l.drop 4)

def shaBlocks : Nat → List (BitVec 32) → List (BitVec 32) → List (BitVec 32)
  | 0, h, _ => h
  | k + 1, h, w => shaBlocks k (shaBlock h (w.take 16)) (w.drop 16)

/-- SHA-256 as a number, first byte most significant. -/
def sha256 (l : List Byte) : Nat :=
  let n := l.length
  let blocks := (n + 9 + 63) / 64
  let padded := l ++ [0x80] ++ List.replicate (64 * blocks - n - 9) 0 ++ (leBytes 8 (8 * n)).reverse
  (shaBlocks blocks shaH (shaWords (16 * blocks) padded)).foldl (fun a w => a * 2 ^ 32 + w.toNat) 0

/-! ### ECDSA over P-256 -/

def p256P : Nat := 2 ^ 256 - 2 ^ 224 + 2 ^ 192 + 2 ^ 96 - 1
def p256N : Nat := 0xFFFFFFFF00000000FFFFFFFFFFFFFFFFBCE6FAADA7179E84F3B9CAC2FC632551
def p256B : Nat := 0x5AC635D8AA3A93E7B3EBBD55769886BC651D06B0CC53B0F63BCE3C3E27D2604B
def p256G : Nat × Nat :=
  (0x6B17D1F2E12C4247F8BCE6E563A440F277037D812DEB33A0F4A13945D898C296,
   0x4FE342E2FE1A7F9B8EE7EB4A7C0F9E162BCE33576B315ECECBB6406837BF51F5)

/-- a^e mod m, for e below 2^256. -/
def powMod (a e m : Nat) : Nat :=
  (List.range 256).foldl (fun r i => let r2 := r * r % m; if e.testBit (255 - i) then r2 * a % m else r2) (1 % m)

/-- Inverse modulo a prime. -/
def invMod (a m : Nat) : Nat := powMod (a % m) (m - 2) m

/-- Sum of two points; `none` is the point at infinity. -/
def ecAdd : Option (Nat × Nat) → Option (Nat × Nat) → Option (Nat × Nat)
  | none, q => q
  | p, none => p
  | some (x1, y1), some (x2, y2) =>
    let m := p256P
    if x1 = x2 ∧ (y1 + y2) % m = 0 then none
    else
      let l := if x1 = x2 then (3 * x1 * x1 + m - 3) % m * invMod (2 * y1) m % m
               else (y2 + m - y1) % m * invMod (x2 + m - x1) m % m
      let x := (l * l + 2 * m - x1 - x2) % m
      some (x, (l * (x1 + m - x) + m - y1) % m)

def ecMul (k : Nat) (p : Option (Nat × Nat)) : Option (Nat × Nat) :=
  (List.range 256).foldl (fun r i => let d := ecAdd r r; if k.testBit (255 - i) then ecAdd d p else d) none

/-- The signature (r, s) verifies over the digest with the public key (X, Y). -/
def ecdsaOk (x y r s digest : Nat) : Bool :=
  let onCurve := decide (x < p256P ∧ y < p256P ∧ y * y % p256P = (x * x % p256P * x + (p256P - 3) * x + p256B) % p256P)
  if !onCurve ∨ r = 0 ∨ p256N ≤ r ∨ s = 0 ∨ p256N ≤ s then false
  else
    let w := invMod s p256N
    match ecAdd (ecMul (digest * w % p256N) (some p256G)) (ecMul (r * w % p256N) (some (x, y))) with
    | none => false
    | some (v, _) => v % p256N == r

end Sys2Proof.Machine
end

