-- ==== Sys2Proof/Machine/Obj.lean ====
section
/-!
DEFINITION. The object front end (R112 to R118, R121, R124, R135, R136, R603).
-/
namespace Sys2Proof.Machine

def Obj.page : Nat := 0x51
def Obj.win : Nat := winBase 0x51
def Obj.feDefault (_ : Nat) : FrontEnd := {}
def Obj.fe (s : State) (i : Nat) : FrontEnd := Tab.get Obj.feDefault s.obj.fe i
def Obj.setFe (s : State) (i : Nat) (f : FrontEnd) : State :=
  { s with obj := { s.obj with fe := Tab.set Obj.feDefault s.obj.fe i f } }

/-- A trim entry of a bank (R136). -/
def Obj.trimEnc (s : State) (bank i : Nat) : Int := signed 16 (s.ldLe (Obj.win + bank * 0x1000 + 4 * i) 2)

/-- The linear trim, at most +24 dB (R603). -/
def Obj.trimLin (s : State) (bank i : Nat) : Int := gainLin (min (Obj.trimEnc s bank i) 3072)

/-- Value of a coefficient's trajectory in frame `n`, rounded to Q3.29 (R603). -/
def Ramp.atRounded (r : Ramp) (n : Nat) : Int :=
  if r.h ≤ n then r.v1
  else if n ≤ r.s then r.v0
  else r.v0 + roundDiv (((n - r.s : Nat) : Int) * (r.v1 - r.v0)) (r.h - r.s)

/-- The delay-line region is absent while the effective base is zero (R135). -/
def Obj.noRegion (s : State) : Bool := (s.ef64 Reg.objDlineBaseLo Reg.objDlineBaseHi) % 2 ^ 40 = 0

/-- The configuration enable of object `i` in the bank in force starts the enable fade at frame `n` (R101, R125, R603); with
no render rate in force it takes its end value (R601). [DEDUCED, unsafe: log entry 44] -/
def Obj.applyEnable (s : State) (i n : Nat) : State :=
  let en := ObjCfg.enable s (s.efF Reg.sceneBanks 2 2) i
  let f := Obj.fe s i
  if en = f.enabled then s
  else
    let t := if en then one30 else 0
    let fade := if s.rateOn then f.fade.aim n (n + s.ms (s.efF Reg.objTrimRampMs 9 0)) t else Ramp.const t
    let trim := if en ∧ f.fade.at n = 0 then Ramp.const (Obj.trimLin s (s.efF Reg.objBanks 0 0) i) else f.trim
    -- samples written before a pause stand in DRAM alone
    let line := if en ∧ f.fade.at n = 0 then [] else f.line
    Obj.setFe s i { f with enabled := en, fade := fade, primed := f.primed && !en, trim := trim, line := line }

/-- Every object's enable is compared with the bank in force (a bank swap, R125). -/
def Obj.applyEnables (s : State) (n : Nat) : State := (List.range 1024).foldl (fun s i => Obj.applyEnable s i n) s

/-- A trim bank swap at frame `n`: each changed trim ramps (R135). [DEDUCED, unsafe: log entry 44] -/
def Obj.trimSwap (s : State) (n : Nat) : State :=
  (List.range 1024).foldl (fun s i =>
    let t := Obj.trimLin s (s.efF Reg.objBanks 0 0) i
    let f := Obj.fe s i
    if f.trim.v1 = t then s
    else Obj.setFe s i { f with trim := if s.rateOn then f.trim.aim n (n + s.ms (s.efF Reg.objTrimRampMs 9 0)) t else Ramp.const t }) s

/-- One coefficient list re-aimed. -/
def Obj.aimCoefs (l : List Ramp) (t : List Int) (n h : Nat) : List Ramp :=
  l.zipIdx.map (fun p => { v0 := p.1.atRounded n, v1 := nth 0 t p.2, s := n, h := h })

/-- The applied delay moves from its value at `n` toward `target`, at most half a sample per frame, and ends at `h`; a limited move
raises slew_limited and goes on at later grid points (R116, R121). -/
def Obj.slew (s : State) (i : Nat) (f : FrontEnd) (n h : Nat) : State :=
  let cur := f.delay.at n
  let lim : Int := 128 * (h - n : Nat)
  let d := (f.target : Int) - cur
  let mv := if d > lim then lim else if d < -lim then -lim else d
  let s1 := Obj.setFe s i { f with delay := { v0 := cur, v1 := cur + mv, s := n, h := h } }
  if mv = d then s1 else s1.irq Obj.page 1

/-- The targets of a solve load at `n` and are reached at `h`; `len` is the solve interval (R116, R121). The first load after the
object was enabled takes its delay at once, and every gain and coefficient ramps. A cross-fade, and a delay move where the window
steps, take the solve interval. [DEDUCED, unsafe: log entry 44] -/
def Obj.load (s : State) (i : Nat) (o : SolveOut) (n h len : Nat) : State :=
  let f := Obj.fe s i
  let r := fun (x : Ramp) (t : Int) => if h ≤ n then Ramp.const t else x.aim n h t
  let base : FrontEnd := { f with recGain := r f.recGain o.recGain, distGain := r f.distGain o.distGain,
                                  coef := Obj.aimCoefs f.coef o.coef n h, fc := o.fc, bed := o.bed, target := o.delay, mode := o.mode }
  if !f.primed then Obj.setFe s i { base with delay := Ramp.const o.delay, jump := none, primed := true }
  else if o.jump ∨ o.mode ≠ f.mode then
    Obj.setFe s i { base with delay := Ramp.const o.delay,
                              jump := some ({ v0 := 0, v1 := one30, s := n, h := n + len }, (f.delay.at n).toNat, f.mode) }
  else Obj.slew s i { base with jump := none } n (if h ≤ n then n + len else h)

/-- Delays that have not reached their target go on at grid point `n`, for the objects that load none (R116). -/
def Obj.slewOn (s : State) (loaded : List Nat) (n len : Nat) : State :=
  ((Tab.keys s.obj.fe).filter (fun i => !loaded.contains i)).foldl (fun s i =>
    let f := Obj.fe s i
    if f.delay.h ≤ n ∧ f.delay.v1 ≠ f.target then Obj.slew s i f n (n + len) else s) s

/-- The targets of the last solve load at grid point `n` into the Warp and the front end (R121); a direct row keeps its gains
(R150). -/
def Scene.loadTargets (s : State) (n : Nat) : State :=
  let len := Scene.interval s
  let wend := match s.scene.windowNext with
    | some r => max s.scene.windowEnd (n + r)
    | none => s.scene.windowEnd
  let h := if n < wend then wend else if s.scene.windowNext = some 0 then n else n + len
  let outs := s.scene.solved
  let healed := s.scene.healLoad
  let s0 := { s with scene := { s.scene with solved := [], windowEnd := wend, windowNext := none, healLoad := false } }
  let s1 := outs.foldl (fun s e => match e.2 with
    | some o =>
      let s' := Obj.load s e.1 o n h len
      if Warp.isDirect s' e.1 then s' else Warp.loadAll s' e.1 o.gains n h
    | none => s) s0
  let s2 := Obj.slewOn s1 (Tab.keys outs) n len
  if healed then s2.irq Scene.page 2 else s2

/-- The Panner's work at tick `n`: at a grid point, an overrun of the last solve is recorded, its targets load, and every object is
solved (R119, R121). -/
def Scene.tick (s : State) (n : Nat) (unsolved : List Nat) : State :=
  let len := Scene.interval s
  if len = 0 ∨ n % len ≠ 0 ∨ !s.pageUp Scene.page then s
  else Scene.solve (Scene.loadTargets (if s.scene.overrun then s.fault' Scene.page 0x83 else s) n) n unsolved

/-! ### The sample path (R112, R603) -/

/-- Bytes of one object's delay line (R118). -/
def Obj.stride (rate : Nat) : Nat := if rate ≤ 2 then 0x40000 else if rate ≤ 4 then 0x80000 else 0x100000

/-- Where the sample of frame `n` of object `i` stands in the ring in DRAM: its slot is the frame index modulo the ring's length.
[DEDUCED, unsafe: log entry 155] -/
def Obj.slot (s : State) (i n : Nat) : Nat :=
  let st := Obj.stride s.clk.rate
  (s.ef64 Reg.objDlineBaseLo Reg.objDlineBaseHi) % 2 ^ 40 + i * st + 4 * (n % (st / 4))

/-- The delay line's input `k` frames before frame `n`: from the on-chip history, or from the ring (R118, R124). -/
def Obj.lineAt (s : State) (i n : Nat) (f : FrontEnd) (k : Nat) : Int :=
  if k < f.line.length then ago f.line k
  else if n < k ∨ n - k < f.clearedAt then 0
  else if Obj.noRegion s then 0 else s.ldS32 (Obj.slot s i (n - k))

/-- A read at delay `d` has its newest tap beyond the most recent 32 samples and is prefetched (R118). -/
def Obj.prefetched (mode d : Nat) : Bool := mode != 0 && decide (35 ≤ d / 256)

/-- A read of the delay line at delay `d` in 1/256 sample, or the newest input with delay mode 0 (R115, R117). -/
def Obj.read (line : Nat → Int) (mode d : Nat) : Int :=
  if mode = 0 then line 0 else accQ31 (interpSum (d % 256) (d / 256) line)

/-- One object in frame `n` with input `x`; `missed` marks a prefetch that is absent, which strikes a frame that needs one (R26):
the output, the next front end, the delay-line input, and whether the previous sample was used. [DEDUCED, unsafe: log entry 44] -/
def Obj.frame (s : State) (i n : Nat) (x : Int) (missed : Bool) : Int × FrontEnd × Option Int × Bool :=
  let f := Obj.fe s i
  let dist := if f.bed then one30 else f.distGain.at n
  let q := satS 40 (rnd 84 (x * f.trim.at n * f.recGain.at n * dist))
  let fade := fun v => satS 32 (rnd 30 (v * f.fade.at n))
  if f.bed then
    let y := fade (satS 32 q)
    (y, { f with last := y, line := [] }, none, false)
  else
    let (y, st, _) := biquad (f.coef.map (·.atRounded n)) q (f.s1, f.s2)
    let input := satS 32 y
    let f1 := { f with s1 := st.1, s2 := st.2, line := pushHist 40 input f.line }
    let line := Obj.lineAt s i n f1
    let read := fun m d => Obj.read (fun k => if k = 0 then input else line k) m d
    let mode := fun m => if Obj.noRegion s then 0 else m
    let d := (f.delay.at n).toNat
    let cur := read (mode f.mode) d
    let fading := match f.jump with | some (r, _, _) => r.runs n | none => false
    let w := match f.jump with
      | some (r, d0, m0) => if r.runs n then blend30 (r.at n) (read (mode m0) d0) cur else cur
      | none => cur
    let fetch := Obj.prefetched (mode f.mode) d ||
      (fading && (match f.jump with | some (_, d0, m0) => Obj.prefetched (mode m0) d0 | none => false))
    let used := missed && fetch
    let out := if used then f.last else fade w
    (out, { f1 with last := out }, some input, used)

/-- One object's sample: its output, and its input written to the ring (R118, R603). -/
def Obj.sample (s : State) (i n : Nat) (x : Int) (missed : Bool) : State × Bool :=
  let (y, f, input, used) := Obj.frame s i n x missed
  let s1 := Obj.setFe s i f
  let s2 := { s1 with obj := { s1.obj with x := Tab.set (fun _ => 0) s1.obj.x i y } }
  let s3 := match input with
    | some v => if Obj.noRegion s then s2 else s2.st32 (Obj.slot s i n) (w32 (unsigned 32 v))
    | none => s2
  (s3, used)

/-- Step 3 of R25: every object that is enabled or fading; the others give zero. Bed and point objects alike. A frame in which any
object used its previous sample counts once (R135). [DEDUCED, unsafe: log entry 44] -/
def Obj.run (s : State) (x : Nat → Int) (n : Nat) (missed : List Nat) : State :=
  if !s.pageUp Obj.page then
    { s with obj := { s.obj with x := [], fe := Tab.mapVals Obj.feDefault (fun _ f => { f with line := [] }) s.obj.fe } }
  else
    let live := (Tab.keys s.obj.fe).filter (fun i =>
      let f := Obj.fe s i
      decide (i < s.objCap) && (f.enabled || f.fade.runs n || f.fade.at n != 0))
    let s0 := { s with obj := { s.obj with x := [] } }
    let r := live.foldl (fun (a : State × List Nat) i =>
      let b := Obj.sample a.1 i n (x i) (missed.contains i)
      (b.1, if b.2 then a.2 ++ [i] else a.2)) (s0, [])
    -- OBJ_PREFETCH_MISS counts frames, and the record names the first object
    match r.2 with
    | [] => r.1
    | i :: _ => ((r.1.count Reg.objPrefetchMiss 1).irq Obj.page 0).faultD Obj.page 0x80 i

def Obj.x (s : State) (i : Nat) : Int := Tab.get (fun _ => 0) s.obj.x i

/-! ### Rate change, checks, reset, window -/

/-- Second S (R124): ramps complete, lines and filter states clear, coefficients and delays follow the new rate; `first` is the index
of the first frame at it. A delay slew completes at its target. A change that goes through rate code 0 is taken from the last rate in
force. [DESIGN CHOICE, unsafe: log entry 153] -/
def Obj.rateChange (s : State) (new first : Nat) : State :=
  let fo := rateHz s.scene.lastRate
  let fn := rateHz new
  let upd := fun (_ : Nat) (f : FrontEnd) =>
    let scale := fun (d : Nat) => if new = 0 ∨ fo = 0 ∨ d = 0 then d else min (256 * fn) (max 1024 ((2 * d * fn + fo) / (2 * fo)))
    let d := scale f.target
    { f with
      trim := f.trim.finish, fade := f.fade.finish, recGain := f.recGain.finish, distGain := f.distGain.finish
      coef := if f.fc.isZero ∨ new = 0 then f.coef.map Ramp.finish else (Obj.airCoefs f.fc new).map Ramp.const
      s1 := 0, s2 := 0, delay := Ramp.const d, target := d, jump := none, line := [], clearedAt := first, last := 0 }
  { s with obj := { s.obj with x := [], fe := Tab.mapVals Obj.feDefault upd s.obj.fe } }

/-- No object is enabled or fading (R135). -/
def Obj.allOff (s : State) : Bool := s.obj.fe.all (fun e => !e.2.enabled && !e.2.fade.runs s.clk.frame)

def Obj.check1 (v : Variant) (f : Nat → Word) : Option Nat :=
  let base := (f 0x4C).toNat + (f 0x50).toNat % 256 * 2 ^ 32
  if 1000 < fld (f 0x48) 9 0 then some 0x01
  else if base ≠ 0 ∧ (base % 0x1000 ≠ 0 ∨ !inDram v base 0x10000000) then some 0x01 else none

def Obj.check2 (s : State) (old new : Nat → Word) : Option Nat :=
  if (new 0x4C ≠ old 0x4C ∨ new 0x50 ≠ old 0x50) ∧ !Obj.allOff s then some 0x01 else none

def Obj.softReset (s : State) : State := ({ s with obj := {} }).clearMem Obj.win (Obj.win + 0x100000)

/-- A word written to the window (R136). -/
def Obj.winWrite (s : State) (o : Nat) (w : Word) : State :=
  if o < 0x2000 then
    if o / 0x1000 = s.efF Reg.objBanks 0 0 then s.faultTick Obj.page else s.st32 (Obj.win + o) (w &&& 0xFFFF)
  else if o < 0x6000 ∨ (0x8000 ≤ o ∧ o < 0xA000) then s.discard
  else s

/-- A word read from the window: trims, front-end state, interpolator table (R136). -/
def Obj.winRead (s : State) (o : Nat) : Word :=
  if o < 0x2000 then s.ld32 (Obj.win + o)
  else if o < 0x6000 then
    let f := Obj.fe s ((o - 0x2000) / 16)
    match (o - 0x2000) % 16 with
    | 0 => if f.bed ∨ f.mode = 0 ∨ Obj.noRegion s then 0 else w32 (f.delay.at s.clk.frame).toNat
    | 4 => w32 (unsigned 32 (f.distGain.at s.clk.frame))
    | 8 => w32 (unsigned 32 (f.fc.toFix 8))
    | _ => 0
  else if 0x8000 ≤ o ∧ o < 0xA000 then w32 (unsigned 32 (nth 0 (interpTaps ((o - 0x8000) / 32)) ((o - 0x8000) % 32 / 4)))
  else 0

end Sys2Proof.Machine
end

