-- ==== Sys2Proof/Machine/Coil.lean ====
section
/-!
DEFINITION. The Coil dataflow scheduler (R185 to R221): descriptors, dependence counting, release, dispatch, tiers, lateness,
admission, graph posts, and the channels of Direct nodes.
-/
namespace Sys2Proof.Machine

def Coil.page : Nat := 0x58
def Coil.win : Nat := winBase 0x58
def Coil.nodeDefault (_ : Nat) : NodeSt := {}
def Coil.node (s : State) (i : Nat) : NodeSt := Tab.get Coil.nodeDefault s.coil.nodes i
def Coil.setNode (s : State) (i : Nat) (x : NodeSt) : State :=
  { s with coil := { s.coil with nodes := Tab.set Coil.nodeDefault s.coil.nodes i x } }

/-! ### Descriptors and edges (R186 to R190) -/

def Coil.word (s : State) (i k : Nat) : Word := s.ld32 (Coil.win + 32 * i + 4 * k)
/-- A descriptor of CORR's. [DEDUCED, unsafe: log entry 48] -/
def Coil.isCorr (i : Nat) : Bool := decide (7680 ≤ i ∧ i < 16384)
/-- Output of a CORR node. -/
def Coil.corrOut (i : Nat) : Nat := (i - 7680) / 17
/-- A descriptor that software must leave to the device (R188). -/
def Coil.isDevice (i : Nat) : Bool := decide (7168 ≤ i)
def Coil.corrPart (i : Nat) : Nat := (i - 7680) % 17
/-- The entry bundle; CORR's kernels lie among the device's bundles, where the spec does not say (R164, R226).
[DESIGN CHOICE, safe: log entry 49] -/
def Coil.entry (s : State) (i : Nat) : Nat :=
  if Coil.isCorr i then 0xC00 + Config.deviceEntry i % 0x400 else fld (Coil.word s i 0) 11 0
def Coil.cls (s : State) (i : Nat) : Nat := if Coil.isCorr i then 2 else fld (Coil.word s i 0) 13 12
def Coil.tierField (s : State) (i : Nat) : Nat := if Coil.isCorr i then Corr.partTier (Coil.corrPart i) else fld (Coil.word s i 0) 15 14
def Coil.point (s : State) (i : Nat) : Nat := fld (Coil.word s i 0) 16 16
/-- DEDUCED, unsafe: log entry 54. -/
def Coil.pinned (s : State) (i : Nat) : Bool := !Coil.isCorr i && bit (Coil.word s i 0) 17
def Coil.group (s : State) (i : Nat) : Nat := if Coil.isCorr i then 0 else fld (Coil.word s i 0) 23 18
def Coil.home (s : State) (i : Nat) : Nat :=
  if Coil.isDevice i then Config.deviceHome i % s.variant.cores else fld (Coil.word s i 0) 30 24
def Coil.depCount (s : State) (i : Nat) : Int := (fld (Coil.word s i 2) 15 0 : Nat)
/-- DEDUCED, safe: log entry 53. -/
def Coil.period (s : State) (i : Nat) : Nat := if Coil.isCorr i then Corr.partB (Coil.corrPart i) else fld (Coil.word s i 3) 19 0
/-- The phase; a CORR block is released at the frames before its block phase (R163). -/
def Coil.phase (s : State) (i : Nat) : Nat :=
  if Coil.isCorr i then (Corr.phase (Coil.corrOut i) + Corr.partB (Coil.corrPart i) - 1) % Corr.partB (Coil.corrPart i)
  else fld (Coil.word s i 4) 19 0
def Coil.gateObj (s : State) (i : Nat) : Nat := fld (Coil.word s i 4) 29 20
def Coil.gateEn (s : State) (i : Nat) : Bool := !Coil.isCorr i && bit (Coil.word s i 4) 31
/-- The deadline in frames after the release frame; of a CORR block, what R163 gives. -/
def Coil.deadlineF (s : State) (i : Nat) : Nat :=
  if Coil.isCorr i then
    let p := Coil.corrPart i
    if p = 0 then 1 else Corr.partD p + 1 - Corr.partB p - 16
  else fld (Coil.word s i 5) 19 0
def Coil.ioFirst (s : State) (i : Nat) : Nat := fld (Coil.word s i 5) 25 16
def Coil.ioCount (s : State) (i : Nat) : Nat := fld (Coil.word s i 5) 10 0
def Coil.bindAddr (s : State) (i : Nat) : Nat := fld (Coil.word s i 7) 23 0
def Coil.bindLen (s : State) (i : Nat) : Nat := fld (Coil.word s i 7) 31 24

/-- Cost per block of partition `p` (R209). -/
def Coil.corrCost (p : Nat) : Nat :=
  let first := [0, 3, 5, 7, 9, 11, 13, 15].contains p
  match Corr.partB p with
  | 128 => if first then 1100 else 700
  | 256 => if first then 2200 else 1400
  | 512 => if first then 4600 else 2900
  | 1024 => if first then 9600 else 6000
  | 2048 => if first then 20000 else 12400
  | 4096 => if first then 41600 else 25600
  | 8192 => if first then 86400 else 52800
  | _ => if first then 179200 else 108800

def Coil.cost (s : State) (i : Nat) : Nat := if Coil.isCorr i then Coil.corrCost (Coil.corrPart i) else fld (Coil.word s i 1) 23 0

/-- Word `e` of the edge table, and entry `k` of the unit-event table. -/
def Coil.edge (s : State) (e : Nat) : Nat := fld (s.ld32 (Coil.win + 0x80000 + 4 * e)) 13 0
def Coil.eventWord (s : State) (k : Nat) : Word := s.ld32 (Coil.win + 0xE0000 + 4 * k)

/-- Successors listed from edge `first`, `count` of them; edges past the table name none. -/
def Coil.edgesFrom (s : State) (first count : Nat) : List Nat :=
  ((rangeFrom first count).filter (· < 65536)).map (Coil.edge s)
def Coil.firstEdge (s : State) (i : Nat) : Nat := fld (Coil.word s i 6) 15 0
def Coil.edgeCount (s : State) (i : Nat) : Nat := fld (Coil.word s i 6) 31 16
/-- The bank in force of output `j`, or one being left, uses partition `p`, or the partition forms a spectrum: CORR keeps its node
(R164). -/
def Coil.corrNode (s : State) (i : Nat) : Bool :=
  let o := Corr.out s (Coil.corrOut i)
  let p := Coil.corrPart i
  Corr.uses s o o.bank p || Corr.forms s o p || (match o.trans with | some t => Corr.uses s o t.old p | none => false)

/-- Word `k` of a CORR node's descriptor (R164, R189). -/
def Coil.corrWord (s : State) (i k : Nat) : Word :=
  match k with
  | 0 => w32 (Coil.entry s i + at_ 12 2 + at_ 14 (Corr.partTier (Coil.corrPart i)) + at_ 24 (Config.deviceHome i % s.variant.cores))
  | 1 => w32 (Coil.corrCost (Coil.corrPart i))
  | 3 => w32 (Corr.partB (Coil.corrPart i))
  | 4 => w32 (Coil.phase s i)
  | 5 => w32 (Coil.deadlineF s i)
  | _ => 0

/-- Successors of node `i`; CORR's nodes feed CORR itself. -/
def Coil.succs (s : State) (i : Nat) : List Nat :=
  if Coil.isCorr i then [] else Coil.edgesFrom s (Coil.firstEdge s i) (Coil.edgeCount s i)
def Coil.eventSuccs (s : State) (k : Nat) : List Nat :=
  Coil.edgesFrom s (fld (Coil.eventWord s k) 15 0) (fld (Coil.eventWord s k) 31 16)

/-- The effective tier (R186, R187), under the group override given by word `k` of COIL_GROUP_TIER. -/
def Coil.tier (s : State) (i : Nat) : Nat :=
  if Coil.cls s i = 1 then 0
  else
    let g := Coil.group s i
    let o := if g = 0 then 0 else s.efF (Reg.coilGroupTier (g / 16)) (2 * (g % 16) + 1) (2 * (g % 16))
    if o = 0 then Coil.tierField s i else o

/-- A core that can run work (R199, R273). -/
def Coil.corePresent (s : State) (k : Nat) : Bool := decide (k < s.variant.cores) && s.domainOn (6 + k / 32)

/-- F20 of R205. [DEDUCED, unsafe: log entry 50] -/
def Coil.f20 (s : State) : Nat := s.ms 20

/-- Nodes that are active, in ascending order. -/
def Coil.activeNodes (s : State) : List Nat := (s.coil.nodes.filter (fun e => e.2.active)).map (·.1)

/-- One Coil event begins: releases it causes share an order (R197). -/
def Coil.event (s : State) : State := { s with coil := { s.coil with order := s.coil.order + 1 } }

/-! ### Fades (R205, R206, R195) -/

/-- A fade of F20 frames that starts at `a`. [DEDUCED, unsafe: log entry 50] -/
def Coil.fadeUp (s : State) (a n : Nat) : Int := ({ v0 := 0, v1 := one30, s := a, h := a + Coil.f20 s } : Ramp).at n
/-- DEDUCED, unsafe: log entry 50. -/
def Coil.fadeDown (s : State) (e n : Nat) : Int := ({ v0 := one30, v1 := 0, s := e, h := e + Coil.f20 s } : Ramp).at n

/-- The tier part of the fade factor of an activation of tier `t` released in frame `n` (R205). [DEDUCED, unsafe: log entry 50] -/
def Coil.tierFade (s : State) (t n : Nat) : Int :=
  if t = 0 then one30
  else if s.budget.admitted < t then
    match Tab.get (fun _ => none) s.coil.shedAt t with
    | some e => Coil.fadeDown s e n
    | none => 0
  else match Tab.get (fun _ => none) s.coil.readmitAt t with
    | some a => Coil.fadeUp s a n
    | none => one30

/-- The fade factor passed to a kernel: the least of the fades that run (R205, R206, R195). CORR's nodes and Direct nodes receive 1.0.
[DEDUCED, unsafe: log entry 50] -/
def Coil.fadeFactor (s : State) (i n : Nat) : Int :=
  if Coil.isCorr i ∨ Coil.cls s i = 1 then one30
  else
    let x := Coil.node s i
    let up := match x.fadeIn with | some a => Coil.fadeUp s a n | none => one30
    let down := match x.fadeOut with | some e => Coil.fadeDown s e n | none => one30
    min (Coil.tierFade s (Coil.tier s i) n) (min up down)

/-- The node takes no new releases: its fade-out has ended (R206, R195). -/
def Coil.closed (s : State) (x : NodeSt) (n : Nat) : Bool :=
  (x.stopping || x.gated) && match x.fadeOut with | some e => decide (e + Coil.f20 s ≤ n) | none => true

/-- An activation of node `i` released in frame `n` is skipped: its tier is shed, or its gate closed, and the fade has ended (R205,
R195). CORR's own nodes follow R167. -/
def Coil.skips (s : State) (i n : Nat) : Bool :=
  let t := Coil.tier s i
  !Coil.isCorr i && (Coil.closed s (Coil.node s i) n ||
    (decide (0 < t ∧ s.budget.admitted < t) &&
      match Tab.get (fun _ => none) s.coil.shedAt t with
      | some e => decide (e + Coil.f20 s ≤ n)
      | none => true))

/-! ### Arming and release (R192, R193, R202) -/

/-- Occupancy of a ready list. -/
def Coil.fill (s : State) (cls : Nat) : Nat := (s.coil.acts.filter (fun a => a.state = 1 && a.cls = cls)).length

/-- The counter moves by `d`, saturating at 16 bits with code 0x84 (R192). -/
def Coil.bump (s : State) (i : Nat) (d : Int) : State :=
  let x := Coil.node s i
  let v := x.counter + d
  let s1 := Coil.setNode s i { x with counter := satS 16 v }
  if satClips 16 v then (s1.irq Coil.page 6).faultD Coil.page 0x84 i else s1

/-- Node `i` is armed (R192). -/
def Coil.armNode (s : State) (i : Nat) : State :=
  let x := Coil.node s i
  let s1 := if Coil.cls s i = 1 then Coil.setNode s i { x with counter := Coil.depCount s i } else Coil.bump s i (Coil.depCount s i)
  Coil.setNode s1 i { Coil.node s1 i with armed := true }

/-- The release of an activation of node `i`: a new activation, ready or held for space (R196, R202). -/
def Coil.addAct (s : State) (i cause key : Nat) (deadline : Option Nat) : State :=
  let x := Coil.node s i
  let c := Coil.cls s i
  let full := decide (512 ≤ Coil.fill s c)
  let a : Act := { node := i, cls := c, point := Coil.point s i, release := s.clk.frame, order := s.coil.order, deadline := deadline
                   state := if full then 0 else 1, cause := cause, key := key, lateIn := x.lateIn
                   fade := Coil.fadeFactor s i s.clk.frame }
  let s1 := { s with coil := { s.coil with acts := s.coil.acts ++ [a] } }
  if full then s1.count Reg.coilHoldCount 1 else s1

/-- An activation of triggered node `i` ends: it is armed again (R193). -/
def Coil.rearm (s : State) (i : Nat) : State :=
  let x := Coil.node s i
  if x.active ∧ Coil.period s i = 0 ∧ 2 ≤ Coil.cls s i ∧ !Coil.closed s x s.clk.frame then Coil.armNode s i else s

/-- An activation of node `i` has completed at its release, without dispatch (R189, R205): a Direct node has ended in its frame, and a
triggered node is armed again. One that waits for no edge and no interval would complete again without end at one instant: its next
release comes at the end of the next frame's direct window. [DESIGN CHOICE, safe: log entry 160] -/
def Coil.endAtOnce (s : State) (i : Nat) : State :=
  let s1 : State := if Coil.cls s i = 1 then
      { s with coil := { s.coil with path := { s.coil.path with ended := s.coil.path.ended ++ [i] } } } else s
  let s2 := Coil.rearm s1 i
  let x := Coil.node s2 i
  if x.armed ∧ Coil.depCount s i = 0 ∧ Coil.phase s i = 0 ∧ Coil.period s i = 0 then
    Coil.setNode s2 i { x with armed := false, deferred := some (s.clk.frame + 1) }
  else s2

/-- Node `i`, whose counter has reached zero, is released. The flag answers whether the activation completed at once, and
whether it was skipped: with no cost it needs no dispatch (R189), and a shed tier skips it (R205). -/
def Coil.doRelease (s : State) (i cause key : Nat) : State × Option Bool :=
  let x := Coil.node s i
  let n := s.clk.frame
  let s1 := Coil.setNode s i { x with armed := false, deferred := none, prevRelease := some n, skipped := false }
  let d := Coil.deadlineF s i
  let dl := if Coil.cls s i = 1 ∨ d = 0 then none else some (n + d)
  if Coil.skips s i n then
    (Coil.setNode s1 i { Coil.node s1 i with skipped := true, lateIn := false, lastLate := false }, some true)
  else if Coil.cost s i = 0 then
    (Coil.setNode s1 i { Coil.node s1 i with lateIn := false, lastLate := false }, some false)
  else
    let s2 := Coil.addAct s1 i cause key dl
    (Coil.setNode s2 i { Coil.node s2 i with lateIn := false }, none)

/-- Node `i` is released if it is armed and its counter allows; a triggered node that comes too soon is deferred (R193). -/
def Coil.tryRelease (s : State) (i cause key : Nat) : State × Option Bool :=
  let x := Coil.node s i
  if !x.active ∨ !x.armed ∨ 0 < x.counter then (s, none)
  else
    let gap := Coil.phase s i
    match x.prevRelease with
    | some r =>
      if Coil.period s i = 0 ∧ s.clk.frame < r + gap then
        (Coil.setNode s i { x with armed := false, deferred := some (r + gap) }, none)
      else Coil.doRelease s i cause key
    | none => Coil.doRelease s i cause key

/-- Signals of node `i` to its successors. -/
def Coil.signals (s : State) (i : Nat) (late : Bool) : List (Nat × Option Bool) := (Coil.succs s i).map (fun k => (k, some late))

/-- What remains to be done of one event is worked off: a signal along an edge decrements its successor, with late_in where the source
was late or skipped, and each node named is released if it may be; one that completes at its release signals in its turn, and may be
released again (R192, R193). `fuel` bounds a cycle of nodes without cost. [DEDUCED, safe: log entry 53] -/
def Coil.settle : Nat → State → Nat → Nat → List (Nat × Option Bool) → State
  | 0, s, _, _, _ => s
  | _ + 1, s, _, _, [] => s
  | f + 1, s, cause, key, (j, sig) :: rest =>
    let s1 := if sig.isSome then Coil.bump s j (-1) else s
    let s2 := if sig = some true then Coil.setNode s1 j { Coil.node s1 j with lateIn := true } else s1
    let (s3, done) := Coil.tryRelease s2 j cause key
    match done with
    | none => Coil.settle f s3 cause key rest
    | some l =>
      let s4 := Coil.endAtOnce s3 j
      Coil.settle f s4 cause key (rest ++ Coil.signals s4 j l ++ [(j, none)])

/-- Bound on the signals that one event works off. [DEDUCED, safe: log entry 53] -/
def Coil.fuel : Nat := 131072

/-- Node `i` is released if it may be, with all that follows. -/
def Coil.release (s : State) (i cause key : Nat) : State := Coil.settle Coil.fuel s cause key [(i, none)]

/-- Node `i` is armed and, if its counter allows, released (R185, R193, R203). -/
def Coil.arm (s : State) (i cause key : Nat) : State := Coil.release (Coil.armNode s i) i cause key

/-- Unit event `k` fires (R190). -/
def Coil.fire (s : State) (k : Nat) : State :=
  Coil.settle Coil.fuel s 1 s.clk.frame ((Coil.eventSuccs s k).map (fun j => (j, some false)))

/-- The object that gates node `i` is enabled, or the node has no gate (R195). -/
def Coil.gateOpen (s : State) (i : Nat) : Bool :=
  !Coil.gateEn s i || ObjCfg.enable s (s.efF Reg.sceneBanks 2 2) (Coil.gateObj s i)

/-- Frame `n` is a due frame of periodic node `i` (R193). -/
def Coil.isDue (s : State) (i n : Nat) : Bool :=
  let p := Coil.period s i
  p != 0 && n % p == Coil.phase s i % p

/-! ### Completion (R201, R213, R214) -/

/-- Signals to the successors of node `i` and, for a triggered node, its re-arming. [DEDUCED, unsafe: log entry 55] -/
def Coil.finish (s : State) (i : Nat) (late : Bool) (cause key : Nat) : State :=
  let s1 := Coil.setNode s i { Coil.node s i with lastLate := late }
  let s2 := Coil.settle Coil.fuel s1 cause key (Coil.signals s1 i late)
  Coil.release (Coil.rearm s2 i) i cause key

/-- The first running activation of node `i`. -/
def Coil.running (s : State) (i : Nat) : Option Act := s.coil.acts.find? (fun a => a.node = i && a.state = 2)

def Coil.dropAct (s : State) (a : Act) : State := { s with coil := { s.coil with acts := s.coil.acts.erase a } }
def Coil.setAct (s : State) (a b : Act) : State :=
  { s with coil := { s.coil with acts := s.coil.acts.map (fun x => if x = a then b else x) } }

/-- An IRQ and a count: overrun with code 0x82 where `code` says so (R213). -/
def Coil.overrun (s : State) (i : Nat) (code : Bool) : State :=
  let s1 := (s.count Reg.coilOverrunCount 1).irq Coil.page 2
  if code then s1.faultD Coil.page 0x82 i else s1

/-- A running Block or Service activation on core `k` passes its declared cost: counted and recorded once (R213). -/
def Coil.costPassed (s : State) (k : Nat) : State :=
  match s.coil.acts.find? (fun a => a.state = 2 && a.core = k && a.cls != 1) with
  | some a => if a.overrun then s else Coil.overrun (Coil.setAct s a { a with overrun := true }) a.node true
  | none => s

/-- An activation of a Block or Service node is late (R214): one that is not running completes at once. A CORR block follows
R166 as well. -/
def Coil.lateAct (s : State) (a : Act) : State :=
  let s1 := ((s.count Reg.coilLateCount 1).irq Coil.page 1).faultD Coil.page 0x83 a.node
  let s2 := if a.state = 2 then Coil.setAct s1 a { a with late := true }
    else Coil.finish (Coil.event (Coil.dropAct s1 a)) a.node true 1 s.clk.frame
  if Coil.isCorr a.node then
    let p := Coil.corrPart a.node
    Corr.partitionLate s2 ((a.node - 7680) / 17) p (a.release + 1 + Corr.partD p - Corr.partB p)
  else s2

/-- The activation of node `i` whose deadline frame has come (ACTIVATION_LATE). -/
def Coil.late (s : State) (i : Nat) : State :=
  match s.coil.acts.find? (fun a => a.node = i && a.cls != 1 && !a.late &&
      (match a.deadline with | some d => decide (d ≤ s.clk.frame) | none => false)) with
  | some a => Coil.lateAct s a
  | none => s

/-- The block of partition `p` of output `j` that starts at `start` is late (PARTITION_LATE, R166): the Coil receives the LATE
event for its activation, and CORR counts the block. -/
def Coil.partitionLate (s : State) (j p start : Nat) : State :=
  match s.coil.acts.find? (fun a => a.node = 7680 + 17 * j + p && !a.late &&
      a.release + 1 + Corr.partD p - Corr.partB p = start && (match a.deadline with | some d => decide (d ≤ s.clk.frame) | none => false)) with
  | some a => Coil.lateAct s a
  | none => Corr.partitionLate s j p start

/-! ### Direct nodes: order, misses and channels (R191, R213) -/

/-- Direct nodes of `l` that `i` reaches along one edge. -/
def Coil.directSuccs (s : State) (l : List Nat) (i : Nat) : List Nat := (Coil.succs s i).filter (fun j => l.contains j)

/-- Everything in `l` reachable from the nodes `from_`, themselves included. [DEDUCED, safe: log entry 53] -/
def Coil.reach (s : State) (l : List Nat) : Nat → List Nat → List Nat
  | 0, from_ => from_
  | f + 1, from_ =>
    let next := (from_ ++ from_.flatMap (Coil.directSuccs s l)).dedup
    if next.length = from_.length then from_ else Coil.reach s l f next

/-- Node `a` has a path of edges to node `b` among `l`. -/
def Coil.before (s : State) (l : List Nat) (a b : Nat) : Bool :=
  a != b && (Coil.reach s l l.length (Coil.directSuccs s l a)).contains b

/-- DEDUCED, unsafe: log entry 55. -/
def Coil.due (s : State) (pt : Nat) : List Nat := if pt = 0 then s.coil.path.due0 else s.coil.path.due1
def Coil.pathIn (s : State) (pt ch : Nat) : Int := Tab.get (fun _ => 0) (if pt = 0 then s.coil.path.in0 else s.coil.path.in1) ch
def Coil.pathPrev (s : State) (pt ch : Nat) : Int := Tab.get (fun _ => 0) (if pt = 0 then s.coil.path.prev0 else s.coil.path.prev1) ch
def Coil.written (s : State) (i ch : Nat) : Option Int := Tab.get (fun _ => none) s.coil.path.writes (1024 * i + ch)

/-- Channel `ch` as the writers in `ws` leave it (R191): the sum, in ascending index, of the writes of those that no other
writer follows, saturated once (R32); a cross-fading node's write is blended with its own input (R206). -/
def Coil.channel (s : State) (pt ch : Nat) : Nat → List Nat → Int
  | 0, _ => Coil.pathIn s pt ch
  | f + 1, ws =>
    let w := ws.filter (fun i => (Coil.written s i ch).isSome)
    let last := w.filter (fun i => !(w.any (fun j => Coil.before s ws i j)))
    if last.isEmpty then Coil.pathIn s pt ch
    else
      let v := last.foldl (fun (acc : Int) i =>
        let x := (Coil.written s i ch).getD 0
        let k := (Coil.node s i).xfade.at s.clk.frame
        acc + (if k = one30 then x
               else blend30 k (Coil.channel s pt ch f (ws.filter (fun j => Coil.before s ws j i))) x)) 0
      satS 32 v

/-- What Direct node `i` reads from channel `ch`: as its predecessors left it (R191). -/
def Coil.readChannel (s : State) (i ch : Nat) : Int :=
  let pt := Coil.point s i
  let l := Coil.due s pt
  Coil.channel s pt ch (l.length + 1) (l.filter (fun j => Coil.before s l j i))

/-- Direct node `i` writes channel `ch` (R191). -/
def Coil.writeChannel (s : State) (i ch : Nat) (v : Int) : State :=
  { s with coil := { s.coil with path := { s.coil.path with
    writes := Tab.set (fun _ => none) s.coil.path.writes (1024 * i + ch) (some v) } } }

/-- The channel lies in the io set of node `i`. -/
def Coil.inIo (s : State) (i ch : Nat) : Bool := decide (Coil.ioFirst s i ≤ ch ∧ ch < Coil.ioFirst s i + Coil.ioCount s i)

/-- Channel `ch` after insertion point `pt`: the previous frame's value where a node whose io set holds it missed (R213). -/
def Coil.channelOut (s : State) (pt ch : Nat) : Int :=
  let l := Coil.due s pt
  if s.coil.path.missed.any (fun i => Coil.point s i == pt && Coil.inIo s i ch) then Coil.pathPrev s pt ch
  else Coil.channel s pt ch (l.length + 1) l

/-- Channels that the due nodes of a point can touch, with those that carry a value. -/
def Coil.touched (s : State) (pt : Nat) : List Nat :=
  ((Coil.due s pt ++ s.coil.path.missed.filter (fun i => Coil.point s i == pt)).flatMap (fun i => rangeFrom (Coil.ioFirst s i) (Coil.ioCount s i)) ++
    Tab.keys (if pt = 0 then s.coil.path.in0 else s.coil.path.in1)).dedup

/-- The channels after point `pt` are formed, and kept for the next frame's misses. -/
def Coil.closePoint (s : State) (pt : Nat) : State :=
  let out := (Coil.touched s pt).foldl (fun t ch => Tab.set (fun _ => (0 : Int)) t ch (Coil.channelOut s pt ch)) []
  let p := s.coil.path
  { s with coil := { s.coil with path := if pt = 0 then { p with out0 := out, prev0 := out } else { p with out1 := out, prev1 := out } } }

/-- A step of the admitted tier that follows a Direct miss: by one from the next frame, or, in a pair, at the first frame at
least two frames later; a standby decides none (R213, R215, R547). -/
def State.missStep (s : State) : State :=
  if 2 ≤ s.hoop.state ∧ s.hoop.state ≤ 4 then s
  else
    let d := if s.hoop.role ≠ 0 ∧ s.hoop.link then 2 else 1
    { s with budget := { s.budget with steps := s.budget.steps ++ [(s.clk.frame + d, none, 4)] } }

/-- A Direct activation on core `k` has ended: the Block or Service node that it suspended runs on. -/
def Coil.resumed (s : State) (k : Nat) : State :=
  if s.coil.acts.any (fun a => a.state = 2 && a.core = k && a.cls != 1) then
    { s with coil := { s.coil with coreRuns := Tab.set (fun _ => 0) s.coil.coreRuns k (Tab.get (fun _ => 0) s.coil.coreRuns k + 1) } }
  else s

/-- Active Direct nodes. -/
def Coil.directNodes (s : State) : List Nat := (Coil.activeNodes s).filter (fun i => Coil.cls s i = 1)

/-- Direct node `i` misses the frame, and the Direct nodes downstream of it with it: those due do not run, and the channels of all of
them, due or not, take the values of the frame before (R213). -/
def Coil.miss (s : State) (i : Nat) : State :=
  let p := s.coil.path
  if p.ended.contains i then s
  else
    let all := (p.due0 ++ p.due1 ++ Coil.directNodes s).dedup
    let hit := (Coil.reach s all all.length [i]).filter (fun j => !(p.ended.contains j))
    let down := hit.filter (fun j => (p.due0 ++ p.due1).contains j)
    let s1 := { s with coil := { s.coil with
      path := { p with ended := p.ended ++ down, missed := p.missed ++ hit }
      acts := s.coil.acts.filter (fun a => !(a.cls = 1 && down.contains a.node)) } }
    let cores := (s.coil.acts.filter (fun a => a.cls = 1 && a.state = 2 && down.contains a.node)).map (·.core)
    let s2 := down.foldl (fun s j => Coil.setNode s j { Coil.node s j with armed := false }) (cores.foldl Coil.resumed s1)
    let s3 := ((s2.count Reg.coilMissCount 1).irq Coil.page 0).faultD Coil.page 0x81 i
    let succ := (down.flatMap (fun j => (Coil.succs s j).filter (fun k => Coil.cls s k != 1))).map (fun k => (k, some true))
    Coil.settle Coil.fuel (Coil.event s3.missStep) 1 s.clk.frame succ

/-- Every Direct node still running or not released at the cut-off of point `pt` misses the frame (R212, R213). -/
def Coil.cutoff (s : State) (pt : Nat) : State :=
  (Coil.due s pt).foldl (fun s i => Coil.miss s i) s

/-- Every Direct node due at the point has ended. -/
def Coil.pointDone (s : State) (pt : Nat) : Bool := (Coil.due s pt).all (fun i => s.coil.path.ended.contains i)

/-- Node `i` completes (R201): its activation ends, its core returns, and its successors are signalled. The channel values are
those that a kernel wrote which the model did not run. -/
def Coil.complete (s : State) (i : Nat) (writes : List (Nat × Int)) : State :=
  match Coil.running s i with
  | none => s
  | some a =>
    let s0 := Coil.event (Coil.dropAct s a)
    if a.cls = 1 then
      let s1 := (writes.filter (fun w => !a.posted && Coil.inIo s i w.1)).foldl (fun s w => Coil.writeChannel s i w.1 w.2) (Coil.resumed s0 a.core)
      let s2 := { s1 with coil := { s1.coil with path := { s1.coil.path with ended := s1.coil.path.ended ++ [i] } } }
      Coil.finish s2 i a.late 0 a.core
    else
      let s1 := if Coil.isCorr i then Corr.complete s0 ((i - 7680) / 17) (Coil.corrPart i) a.release else s0
      Coil.finish s1 i a.late 0 a.core

/-- A Direct node that issues its declared cost without DONE is stopped: an overrun and a miss (R212, R213, R259). -/
def Coil.costStop (s : State) (k : Nat) : State :=
  match s.coil.acts.find? (fun a => a.state = 2 && a.core = k && a.cls = 1) with
  | some a => Coil.miss (Coil.overrun s a.node false) a.node
  | none => s

/-! ### Dispatch (R197 to R201) -/

/-- The Direct node, or the Block or Service node, that core `k` runs. -/
def Coil.onCore (s : State) (k : Nat) (direct : Bool) : Option Act :=
  s.coil.acts.find? (fun a => a.state = 2 && a.core = k && ((a.cls = 1) == direct))

/-- Core `k` keeps a completion whose release is held (R202). -/
def Coil.keeping (s : State) (k : Nat) : Bool := s.coil.acts.any (fun a => a.state = 0 && a.cause = 0 && a.key = k)

/-- Core `k` can take a Block or Service node. -/
def Coil.idle (s : State) (k : Nat) : Bool :=
  Coil.corePresent s k && (Coil.onCore s k false).isNone && !Coil.keeping s k

/-- Order within a ready list (R197): 1 Direct, 2 Block, 3 Service. -/
def Coil.leAct (cls : Nat) (a b : Act) : Bool :=
  if cls = 2 then
    match a.deadline, b.deadline with
    | some x, some y => decide (x < y ∨ (x = y ∧ a.node ≤ b.node))
    | some _, none => true
    | none, some _ => false
    | none, none => decide (a.node ≤ b.node)
  else decide (a.order < b.order ∨ (a.order = b.order ∧ a.node ≤ b.node))

/-- A ready list in its order. -/
def Coil.ready (s : State) (cls : Nat) : List Act :=
  (s.coil.acts.filter (fun a => a.state = 1 && a.cls = cls)).mergeSort (Coil.leAct cls)

/-- The core that step 1 of R199 tries; a pinned node goes to its home core only (R189). [DEDUCED, unsafe: log entry 54] -/
def Coil.preferred (s : State) (i : Nat) : Nat :=
  if Coil.pinned s i then Coil.home s i else ((Coil.node s i).lastCore).getD (Coil.home s i)

/-- Cores that nodes in `l` await. [DEDUCED, unsafe: log entry 54] -/
def Coil.awaited (l : List Act) : List Nat := l.filterMap (fun a => if a.expired then none else a.wait.map (·.1))

/-- The core that activation `a` may take now, where the nodes `ahead` of it await theirs (R199). [DEDUCED, unsafe: log entry 54] -/
def Coil.choose (s : State) (ahead : List Act) (a : Act) : Option Nat :=
  let p := Coil.preferred s a.node
  let aw := Coil.awaited ahead
  let free := fun k => Coil.idle s k && !aw.contains k
  if free p then some p
  else if Coil.pinned s a.node then none
  else if a.expired ∨ !Coil.corePresent s p ∨ s.rdF Reg.coilAffinityWait 9 0 = 0 then
    let cores := List.range s.variant.cores
    match cores.find? (fun k => k / 32 = p / 32 && free k) with
    | some k => some k
    | none => cores.find? free
  else none

/-- The first activation of a ready list that may run, with its core. [DEDUCED, unsafe: log entry 54] -/
def Coil.pick (s : State) : List Act → List Act → Option (Act × Nat)
  | _, [] => none
  | ahead, a :: rest =>
    match Coil.choose s ahead a with
    | some k => some (a, k)
    | none => Coil.pick s (ahead ++ [a]) rest

/-- Block and Service activations whose preferred core is busy begin their affinity wait (R199). [DEDUCED, unsafe: log entry 55] -/
def Coil.startWaits (s : State) : State :=
  if s.clk.phase ≠ 1 then s
  else { s with coil := { s.coil with acts := s.coil.acts.map (fun a =>
    if a.state = 1 ∧ a.cls ≠ 1 ∧ a.wait = none ∧ !Coil.idle s (Coil.preferred s a.node) then
      { a with wait := some (Coil.preferred s a.node, s.clk.mono + s.rdF Reg.coilAffinityWait 9 0 * nsU) } else a) } }

/-- The activation starts on core `k` (R200, R201). -/
def Coil.place (s : State) (a : Act) (k : Nat) : State × Option Act :=
  let x := Coil.node s a.node
  -- of a Direct node, no Block or Service node has run on the core since the node's own last run
  let runs := Tab.get (fun _ => 0) s.coil.coreRuns k
  let alone := if a.cls = 1 then x.stamp == runs else Tab.get (fun _ => none) s.coil.coreLast k == some a.node
  let b : Act := { a with state := 2, core := k, warm := x.lastCore == some k && alone, wait := none }
  let s1 := Coil.setNode (Coil.setAct s a b) a.node { x with lastCore := some k, stamp := runs }
  let s2 := if a.cls = 1 then s1
    else { s1 with coil := { s1.coil with coreLast := Tab.set (fun _ => none) s1.coil.coreLast k (some a.node)
                                          coreRuns := Tab.set (fun _ => 0) s1.coil.coreRuns k (runs + 1) } }
  (s2, some b)

/-- A ready Direct activation that may start: its insertion point has been reached and its home core runs no Direct node
(R185, R198). -/
def Coil.directReady (s : State) : Option Act :=
  (Coil.ready s 1).find? (fun a =>
    (Coil.onCore s (Coil.home s a.node) true).isNone && Coil.corePresent s (Coil.home s a.node) &&
    !Coil.keeping s (Coil.home s a.node) &&
    (if a.point = 0 then s.coil.path.steps == 3 else s.coil.path.steps == 5))

/-- The next dispatch: a Direct node at any time, else in the background phase a Block node, else a Service node (R197). The
activation is answered for the core's entry registers. [DEDUCED, safe: log entry 53] -/
def Coil.dispatch (s : State) : State × Option Act :=
  let s := Coil.startWaits s
  match Coil.directReady s with
  | some a => Coil.place s a (Coil.home s a.node)
  | none =>
    if s.clk.phase ≠ 1 then (s, none)
    else
      let bl := Coil.ready s 2
      match Coil.pick s [] bl with
      | some (a, k) => Coil.place s a k
      | none =>
        match Coil.pick s bl (Coil.ready s 3) with
        | some (a, k) => Coil.place s a k
        | none => (s, none)

/-- The affinity wait of node `i` runs out, and the node goes to another idle core; a pinned node waits without limit (R199).
[DESIGN CHOICE, safe: log entry 9; DEDUCED, unsafe: log entry 54] -/
def Coil.waitExpiry (s : State) (i : Nat) : State × Option Act :=
  match s.coil.acts.find? (fun a => a.node = i && a.state = 1 && !a.expired && a.wait.isSome && !Coil.pinned s i) with
  | none => (s, none)
  | some a =>
    let due := (a.wait.map (·.2)).getD 0
    let s1 := s.toMono due
    let b : Act := { a with expired := true }
    let s2 := Coil.setAct s1 a b
    if s2.clk.phase ≠ 1 then (s2, none)
    else
      let ahead := ((Coil.ready s2 2) ++ (Coil.ready s2 3)).takeWhile (fun x => x != b)
      match Coil.choose s2 ahead b with
      | some k => Coil.place s2 b k
      | none => (s2, none)

/-- Space has freed: held releases enter their lists in the order of R202. [DEDUCED, unsafe: log entry 52] -/
def Coil.heldEnter (s : State) : State :=
  let held := (s.coil.acts.filter (fun a => a.state = 0)).mergeSort (fun a b =>
    decide (a.cause < b.cause ∨ (a.cause = b.cause ∧ a.key ≤ b.key)))
  held.foldl (fun s a => if Coil.fill s a.cls < 512 then Coil.setAct s a { a with state := 1 } else s) s

/-! ### Submissions (R203) -/

/-- Free entries of the submission queue. [DEDUCED, unsafe: log entry 52] -/
def Coil.credit (s : State) : Nat := 64 - (s.coil.submits.filter (fun e => decide (s.clk.mono < e.1))).length

/-- A submission enters the queue and arms its node; its entry leaves within 100 ns. [DEDUCED, unsafe: log entry 52] -/
def Coil.submitNow (s : State) (i : Nat) : State :=
  let x := Coil.node s i
  if x.active ∧ Coil.cls s i = 3 ∧ Coil.period s i = 0 ∧ !x.stopping ∧ !Coil.isDevice i then
    let s1 := { s with coil := { s.coil with
      submits := (s.coil.submits.filter (fun e => decide (s.clk.mono < e.1))) ++ [(s.clk.mono + 100 * nsU, i)] } }
    if Coil.gateOpen s i then Coil.arm (Coil.event s1) i 3 s1.coil.order else s1
  else s.faultD Coil.page 0x85 i

/-- COIL_SUBMIT_CREDIT has risen from zero (R220). [DEDUCED, unsafe: log entry 52] -/
def Coil.creditRise (s : State) : State :=
  if s.coil.noCredit ∧ Coil.credit s ≠ 0 then ({ s with coil := { s.coil with noCredit := false } }).irq Coil.page 5
  else if !s.coil.noCredit ∧ Coil.credit s = 0 then { s with coil := { s.coil with noCredit := true } } else s

/-- An entry frees: the oldest held submission is accepted. -/
def Coil.submitRelease (s : State) : State :=
  let s1 := if Coil.credit s = 0 then Coil.creditRise (s.toMono (((s.coil.submits.map (·.1)).min?).getD 0)) else s
  match s1.coil.heldSubmits with
  | [] => s1
  | e :: rest =>
    if Coil.credit s1 = 0 then s1
    else Coil.creditRise (Coil.submitNow { s1 with coil := { s1.coil with heldSubmits := rest } } e.2)

/-- Writes of initiator `ini` wait behind its held submission, which is accepted first (R203). [DEDUCED, unsafe: log entry 52] -/
def Coil.flush (s : State) (ini : Nat) : State :=
  (List.range s.coil.heldSubmits.length).foldl (fun s _ =>
    if s.coil.heldSubmits.any (fun e => e.1 == ini) then Coil.submitRelease s else s) s

/-- A write to COIL_SUBMIT by initiator `ini`: with the queue full the Weave holds it. [DEDUCED, unsafe: log entry 52] -/
def Coil.submit (s0 : State) (ini i : Nat) : State :=
  let s := Coil.flush s0 ini
  if s.coil.heldSubmits ≠ [] ∨ Coil.credit s = 0 then { s with coil := { s.coil with heldSubmits := s.coil.heldSubmits ++ [(ini, i)] } }
  else Coil.creditRise (Coil.submitNow s i)

/-! ### Loads and admission (R207 to R211) -/

/-- Ceiling of c / P in units of 2^-16 bundle. -/
def Coil.term (c p : Nat) : Nat := cdiv (c * 65536) (max 1 p)

/-- Load of CORR at tiers 1 to `t` (R209). -/
def Coil.corrLoad (s : State) (t : Nat) : Nat :=
  (Tab.keys s.corr.outs).foldl (fun acc j =>
    if s.outCapCfg ≤ j then acc
    else
      let o := Corr.out s j
      (List.range 17).foldl (fun acc p =>
        if t < Corr.partTier p then acc
        else match o.trans with
          | some tr =>
            if Corr.uses s o o.bank p ∨ Corr.uses s o tr.old p then
              acc + Coil.term (Coil.corrCost p + Coil.corrCost p / 4) (Corr.partB p) else acc
          | none =>
            -- a posted swap that has not reached its tick counts as its transition will
            if s.corr.posts.any (fun q => q.a == 0 && q.b == j && q.c % 2 != o.bank) then
              (if Corr.uses s o o.bank p ∨ Corr.uses s o (1 - o.bank) p then
                acc + Coil.term (Coil.corrCost p + Coil.corrCost p / 4) (Corr.partB p) else acc)
            else if Corr.uses s o o.bank p then acc + Coil.term (Coil.corrCost p) (Corr.partB p) else acc) acc) 0

/-- L_t in units of 2^-16 bundle per frame (R209). [DESIGN CHOICE, safe: log entry 49] -/
def Coil.load (s : State) (t : Nat) : Nat :=
  (Coil.activeNodes s).foldl (fun acc i =>
    let x := Coil.node s i
    let e := Coil.tier s i
    if Coil.cls s i < 2 ∨ x.stopping ∨ !Coil.gateOpen s i ∨ e = 0 ∨ t < e then acc
    else
      let p := Coil.period s i
      acc + Coil.term (Coil.cost s i) (if p = 0 then Coil.phase s i else p))
    (Coil.corrLoad s t + ((rangeFrom 1 t).map Config.deviceLoad).sum)

/-- t_b in 0.1 ns for the temperature band (R208). [DESIGN CHOICE, unsafe: log entry 62] -/
def Coil.bundleTime (tj : Int) : Nat := if tj ≤ -160 then 25 else if tj ≤ 960 then 22 else if tj ≤ 1440 then 23 else 25

/-- Cores present (R208, R273). -/
def Coil.coresPresent (s : State) : Nat := ((List.range s.variant.cores).filter (Coil.corePresent s)).length

/-- The state with rate code `code` in force, for the costs at that rate (R210). -/
def State.atRate (s : State) (code : Nat) : State := { s with clk := { s.clk with rate := code } }

/-- C at rate code `code` (R208). -/
def Coil.capacity (s : State) (code : Nat) : Nat :=
  let fr := rateHz code
  let w := s.efF Reg.stakeDirectWindowNs 12 0
  if fr = 0 then 0
  else Coil.coresPresent s * (1000000000 - (w + 500) * fr) * 9 / (fr * Coil.bundleTime s.budget.tj)

/-- Half-nanoseconds that Direct node `i` takes in a chain (R27). -/
def Coil.directWeight (s : State) (i : Nat) : Nat := 60 + 5 * Coil.cost s i

/-- The longest chain of Direct nodes of one point that ends with node `i`, edges and same-core order counted (R198, R210). -/
def Coil.chain (s : State) (l : List Nat) : Nat → Nat → Nat
  | 0, _ => 0
  | f + 1, i =>
    let preds := l.filter (fun j => (Coil.directSuccs s l j).contains i ||
      (Coil.home s j == Coil.home s i && decide (j < i) && !Coil.before s l i j))
    Coil.directWeight s i + preds.foldl (fun m j => max m (Coil.chain s l f j)) 0

/-- The direct-window term in ns, rounded up (R27, R210). -/
def Coil.directNs (s : State) : Nat :=
  let d := (Coil.activeNodes s).filter (fun i => Coil.cls s i = 1 && !(Coil.node s i).stopping)
  let pt := fun k => let l := d.filter (fun i => Coil.point s i = k)
    l.foldl (fun m i => max m (Coil.chain s l l.length i)) 0
  800 + cdiv (pt 0 + pt 1) 2

/-- The highest tier whose load fits, at rate code `code` (R211). [DEDUCED, unsafe: log entry 56] -/
def Coil.fitTier (s : State) (code : Nat) : Nat :=
  let c := Coil.capacity s code * 65536
  let g := s.atRate code
  if Coil.load g 3 ≤ c then 3 else if Coil.load g 2 ≤ c then 2 else if Coil.load g 1 ≤ c then 1 else 0

/-- The cap tier (R211). -/
def Coil.capTier (s : State) : Nat :=
  if s.efF Reg.stakeDirectWindowNs 12 0 < Coil.directNs s then 0 else Coil.fitTier s s.clk.rate

/-- The figures of COIL_CAPACITY, COIL_LOAD1–3 and COIL_DIRECT_NS, as of this epoch or check. -/
def Coil.publish (s f : State) (code : Nat) : State :=
  let g := f.atRate code
  ((((s.wr Reg.coilCapacity (w32 (Coil.capacity f code))).wr (Reg.coilLoad 0) (w32 (cdiv (Coil.load g 1) 65536))).wr
    (Reg.coilLoad 1) (w32 (cdiv (Coil.load g 2) 65536))).wr (Reg.coilLoad 2) (w32 (cdiv (Coil.load g 3) 65536))).wr
    Reg.coilDirectNs (w32 (Coil.directNs f))

/-- The check of R210 on state `f`, which holds what the plait would leave: `none` fails, `some t` admits at tier `t`.
[DEDUCED, unsafe: log entry 56] -/
def Coil.admitTier (f : State) (code tier : Nat) (allow : Bool) : Option Nat :=
  if f.efF Reg.stakeDirectWindowNs 12 0 < Coil.directNs f then none
  else if Coil.load (f.atRate code) tier ≤ Coil.capacity f code * 65536 then some tier
  else if allow then some (min tier (Coil.fitTier f code)) else none

/-! ### Graph posts (R206, R216 to R219) -/

/-- Checks of R217 on the nodes of the range (1 to 4, 11, 12). [DEDUCED, unsafe: log entry 51] -/
def Coil.checkNode (s : State) (i : Nat) : Option Nat :=
  let c := Coil.cls s i
  let cap := if Coil.point s i = 0 then s.objCapCfg else s.outCapCfg
  if Coil.isDevice i then some 11
  else if c = 0 ∨ (c = 1 ∧ Coil.tierField s i ≠ 0) ∨ (2 ≤ c ∧ Coil.tierField s i = 0) then some 1
  else if !Coil.corePresent s (Coil.home s i) then some 2
  else if (c = 1 ∧ Coil.period s i = 0) ∨ (Coil.period s i ≠ 0 ∧ Coil.period s i ≤ Coil.phase s i) then some 3
  else if c = 1 ∧ cap < Coil.ioFirst s i + Coil.ioCount s i then some 4
  else none

/-- Edges into node `i` from the nodes `act` and the unit events. -/
def Coil.edgesInto (s : State) (act : List Nat) (i : Nat) : Nat :=
  (act.map (fun j => (Coil.succs s j).count i)).sum + ((List.range 32).map (fun k => (Coil.eventSuccs s k).count i)).sum

/-- Checks of R217 on a node of the resulting active set (5 to 8). [DEDUCED, unsafe: log entry 51] -/
def Coil.checkGraphNode (s : State) (act direct : List Nat) (i : Nat) : Option Nat :=
  let c := Coil.cls s i
  let su := Coil.succs s i
  if 65536 < Coil.firstEdge s i + Coil.edgeCount s i ∨ su.any (fun j => Coil.isDevice j || !act.contains j) then some 5
  else if Coil.depCount s i ≠ (Coil.edgesInto s act i : Nat) then some 6
  else if (2 ≤ c ∧ su.any (fun j => Coil.cls s j = 1)) ∨
      (c = 1 ∧ Coil.point s i = 1 ∧ su.any (fun j => Coil.cls s j = 1 && Coil.point s j = 0)) ∨
      (c = 1 ∧ (Coil.reach s direct direct.length (Coil.directSuccs s direct i)).contains i) ∨
      (c = 1 ∧ (List.range 32).any (fun k => (Coil.eventSuccs s k).contains i &&
        (k == 3 || (k == 2 && Coil.point s i == 0)))) then some 7
  else if su.any (fun j => Coil.tier s j < Coil.tier s i) then some 8
  else none

/-- An edge of the unit-event table lies past the table, or names a device descriptor (check 5). Such an edge may name an
inactive node: its entry cannot be rewritten while the node is active (R216), so that the node could otherwise never be
deactivated. [DEDUCED, unsafe: log entry 51] -/
def Coil.checkEvents (s : State) : Option Nat :=
  (List.range 32).findSome? (fun k =>
    let w := Coil.eventWord s k
    let bad := (Coil.eventSuccs s k).find? Coil.isDevice
    if 65536 < fld w 15 0 + fld w 31 16 then some 0 else bad)

/-- The checks of R217 for a post of `op` on the range, over the active set that pending posts leave: node and check.
[DEDUCED, unsafe: log entry 51] -/
def Coil.checkPost (s : State) (op first count : Nat) : Option (Nat × Nat) :=
  let range := (rangeFrom first count).filter (· < 16384)
  let base := s.coil.posts.foldl (fun l p =>
    let r := rangeFrom p.b p.c
    if p.a = 1 then (l ++ r).dedup else l.filter (fun i => !(r.contains i)))
    ((Coil.activeNodes s).filter (fun i => !(Coil.node s i).stopping))
  let act := if op = 1 then (base ++ range).dedup else base.filter (fun i => !(range.contains i))
  let direct := act.filter (fun i => Coil.cls s i = 1)
  let delays := act.filter (fun i => Coil.period s i ≠ 0 || Coil.phase s i ≠ 0)
  let perNode := range.findSome? (fun i => (Coil.checkNode s i).map (fun c => (i, c)))
  match perNode with
  | some r => some r
  | none =>
    match Coil.checkEvents s with
    | some i => some (i, 5)
    | none =>
      match act.findSome? (fun i => (Coil.checkGraphNode s act direct i).map (fun c => (i, c))) with
      | some r => some r
      | none =>
        if 512 < direct.length then some (first, 9)
        else if 4096 < delays.length then some (first, 10) else none

/-- A post is refused (R217). [DEDUCED, unsafe: log entry 51] -/
def Coil.refuse (s : State) (node check : Nat) : State :=
  ((s.wr Reg.coilErr (w32 (at_ 16 check + node % 16384))).irq Coil.page 3).faultD Coil.page 0x80 node

/-- A node at rest: it keeps its last core (R189). -/
def Coil.keepCore (x : NodeSt) : NodeSt := { lastCore := x.lastCore, stamp := x.stamp }

/-- Node `i` becomes active at `n` (R206, R218). With no render rate in force there is no fade (R601). -/
def Coil.activate (s : State) (i n : Nat) : State :=
  let x := Coil.node s i
  if x.active ∧ !x.stopping then s
  else
    let c := Coil.cls s i
    let x0 : NodeSt := { Coil.keepCore x with active := true, gated := Coil.gateEn s i && !Coil.gateOpen s i,
                                              fadeIn := if c = 1 ∨ !s.rateOn then none else some n }
    let x1 : NodeSt := if c = 1 ∧ s.rateOn then
        { x0 with xfade := ({ v0 := 0, v1 := 0 } : Ramp).aim n (n + s.ms (s.efF Reg.coilDirectXfadeMs 9 0)) one30 } else x0
    let s1 := Coil.setNode s i x1
    if 2 ≤ c ∧ Coil.period s i = 0 ∧ !x1.gated then Coil.arm s1 i 1 n else s1

/-- Node `i` is to stop from `n` (R206). -/
def Coil.deactivate (s : State) (i n : Nat) : State :=
  let x := Coil.node s i
  if !x.active then s
  else if !s.rateOn then Coil.setNode s i (Coil.keepCore x)
  else if Coil.cls s i = 1 then
    Coil.setNode s i { x with stopping := true, xfade := x.xfade.aim n (n + s.ms (s.efF Reg.coilDirectXfadeMs 9 0)) 0 }
  else Coil.setNode s i { x with stopping := true, fadeOut := some n }

/-- A post takes effect at frame `n`: op 1 activates, op 2 deactivates. -/
def Coil.applyPost (s : State) (op first count n : Nat) : State :=
  ((rangeFrom first count).filter (· < 16384)).foldl (fun s i =>
    if op = 1 then Coil.activate s i n else Coil.deactivate s i n) (Coil.event s)

/-- A direct write to COIL_NODE_CTRL (R217, R220). -/
def Coil.post (s : State) (op : Nat) : State :=
  let first := s.rdF Reg.coilNodeSel 13 0
  let count := s.rdF Reg.coilNodeSel 30 16
  if op = 0 then s
  else if op = 3 then s.fault' Coil.page 0x01
  else if count = 0 then s
  else match Coil.checkPost s op first count with
    | some (i, c) => Coil.refuse s i c
    | none =>
      if s.rateOn then
        { s with coil := { s.coil with posts := s.coil.posts ++ [{ ready := s.postReady, a := op, b := first, c := count }] } }
      else Coil.applyPost s op first count s.clk.frame

def Coil.tickPosts (s : State) (n : Nat) : State :=
  let due := s.coil.posts.filter (fun p => p.ready ≤ s.clk.mono)
  let s1 := { s with coil := { s.coil with posts := s.coil.posts.filter (fun p => !(p.ready ≤ s.clk.mono)) } }
  due.foldl (fun s p => Coil.applyPost s p.a p.b p.c n) s1

/-! ### The tick and the window end (R20, R185, R194) -/

/-- Gates follow the object configuration in force (R195): an activation fades as for a shed or re-admitted tier. A Direct node's
factor is 1.0 (R254): its channels cross-fade over the same frames.
[DEDUCED, unsafe: log entry 50; DEDUCED, unsafe: log entry 55] -/
def Coil.gates (s : State) (n : Nat) : State :=
  (Coil.activeNodes s).foldl (fun s i =>
    let x := Coil.node s i
    let op := Coil.gateOpen s i
    if !Coil.gateEn s i ∨ x.gated = !op then s
    else if Coil.cls s i = 1 then
      let from_ := if op && Coil.closed s x n then Ramp.const 0 else x.xfade
      Coil.setNode s i { x with gated := !op, fadeOut := if op then none else some n
                                xfade := from_.aim n (n + Coil.f20 s) (if op then one30 else 0) }
    else if op then
      let s1 := Coil.setNode s i { x with gated := false, fadeOut := none, fadeIn := some n }
      if Coil.period s i = 0 ∧ !x.armed ∧ x.deferred = none ∧ !(s.coil.acts.any (·.node = i)) then Coil.arm s1 i 1 n else s1
    else Coil.setNode s i { x with gated := true, fadeOut := some n }) s

/-- Nodes whose fade-out or cross-fade has ended become inactive (R206). -/
def Coil.retire (s : State) (n : Nat) : State :=
  (Coil.activeNodes s).foldl (fun s i =>
    let x := Coil.node s i
    let ended := if Coil.cls s i = 1 then decide (x.xfade.h ≤ n) else Coil.closed s x n
    if x.stopping ∧ ended then Coil.setNode s i { Coil.keepCore x with lastLate := x.lastLate } else s) s

/-- Action 3 of R20 and the TICK, GRID and EPOCH events: Direct nodes due in frame `n` are armed. -/
def Coil.tick (s : State) (n : Nat) (grid epoch : Bool) : State :=
  let s1 := Coil.event (Coil.gates (Coil.retire s n) n)
  let due := (Coil.activeNodes s1).filter (fun i =>
    Coil.cls s1 i = 1 && Coil.isDue s1 i n && !(Coil.closed s1 (Coil.node s1 i) n && (Coil.node s1 i).gated))
  let p := s1.coil.path
  let s2 := { s1 with coil := { s1.coil with path := { p with
    steps := 0, due0 := due.filter (fun i => Coil.point s1 i = 0), due1 := due.filter (fun i => Coil.point s1 i = 1)
    ended := [], missed := [], writes := [], in0 := [], in1 := [], out0 := [], out1 := [] } } }
  let s3 := due.foldl (fun s i => Coil.arm s i 1 n) s2
  let s4 := Coil.fire s3 0
  let s5 := if grid then Coil.fire s4 4 else s4
  if epoch then Coil.fire s5 5 else s5

/-- The end of the direct window of frame `n`: the WINDOW_END event, and Block and Service nodes due in the frame are armed
(R185, R190, R194). -/
def Coil.windowEnd (s : State) (n : Nat) : State :=
  let s1 := Coil.fire (Coil.event s) 3
  (Coil.activeNodes s1).foldl (fun s i =>
    if 2 ≤ Coil.cls s i ∧ Coil.isDue s i n ∧ !Coil.closed s (Coil.node s i) n then Coil.arm s i 1 n else s) s1

/-- CORR's blocks released at the end of the direct window enter the Block list (R163, R194). [DEDUCED, unsafe: log entry 48] -/
def Coil.corrRelease (s : State) (nodes : List Nat) : State :=
  nodes.foldl (fun s i =>
    let p := Coil.corrPart i
    let start := s.clk.frame + 1 + Corr.partD p - Corr.partB p
    Coil.addAct s i 2 i (some (Corr.deadline p start))) s

/-- The deferred release of triggered node `i` (R193). [DEDUCED, unsafe: log entry 55] -/
def Coil.deferredRelease (s : State) (i : Nat) : State :=
  let x := Coil.node s i
  match x.deferred with
  | some f =>
    if s.clk.frame < f ∨ s.clk.phase = 0 ∨ !x.active then s
    else
      Coil.release (Coil.setNode (Coil.event s) i { x with armed := true, deferred := none }) i 1 f
  | none => s

/-- A change of the admitted tier at frame `e` (R204, R205). -/
def Coil.tierChange (s : State) (old new e : Nat) : State :=
  [1, 2, 3].foldl (fun s t =>
    if new < t ∧ t ≤ old then
      { s with coil := { s.coil with shedAt := Tab.set (fun _ => none) s.coil.shedAt t (some e)
                                     readmitAt := Tab.set (fun _ => none) s.coil.readmitAt t none } }
    else if old < t ∧ t ≤ new then
      { s with coil := { s.coil with readmitAt := Tab.set (fun _ => none) s.coil.readmitAt t (some e) } }
    else s) s

/-- Second S of a rate change, and the join of a rejoin: every activation ends, counters clear, and nodes are armed as at
activation (R219). -/
def Coil.restart (s : State) : State :=
  let s1 := { s with coil := { s.coil with acts := [], shedAt := [], readmitAt := [], submits := [] } }
  let f := fun (s : State) i =>
    let x := Coil.node s i
    if x.stopping then Coil.setNode s i (Coil.keepCore x)
    else
      let s' := Coil.setNode s i { Coil.keepCore x with active := true, gated := x.gated }
      if 2 ≤ Coil.cls s' i ∧ Coil.period s' i = 0 ∧ !x.gated then Coil.armNode s' i else s'
  let s2 := (Coil.activeNodes s1).foldl f s1
  (Coil.activeNodes s2).foldl (fun s i => Coil.release s i 1 s.clk.frame) (Coil.event s2)

/-- A soft reset of the page: activations end, and every software node is deactivated without cross-fade (R219). -/
def Coil.softReset (s : State) : State :=
  { s with coil := { order := s.coil.order, heldSubmits := s.coil.heldSubmits, path := { s.coil.path with due0 := [], due1 := [] } } }

/-! ### Checks and window (R216, R220, R221) -/

def Coil.check1 (f : Nat → Word) : Option Nat :=
  if 1000 < fld (f 0x48) 9 0 ∨ fld (f 0x50) 1 0 ≠ 0 then some 0x01 else none

/-- Nodes that are active or still have an activation. -/
def Coil.live (s : State) (i : Nat) : Bool := (Coil.node s i).active || s.coil.acts.any (fun a => a.node = i)

/-- Edge `e` belongs to a node that must not be rewritten. -/
def Coil.edgeBusy (s : State) (e : Nat) : Bool :=
  ((Coil.activeNodes s ++ s.coil.acts.map (·.node)).dedup).any (fun i =>
    decide (Coil.firstEdge s i ≤ e ∧ e < Coil.firstEdge s i + Coil.edgeCount s i) && !Coil.isCorr i)

/-- A word written to the window. -/
def Coil.winWrite (s : State) (o : Nat) (w : Word) : State :=
  if o < 0x80000 then
    let i := o / 32
    if Coil.isDevice i || Coil.live s i then s.faultTick Coil.page else s.st32 (Coil.win + o) w
  else if o < 0xC0000 then
    if Coil.edgeBusy s ((o - 0x80000) / 4) then s.faultTick Coil.page else s.st32 (Coil.win + o) w
  else if 0xE0000 ≤ o ∧ o < 0xE0080 then
    if (Coil.eventSuccs s ((o - 0xE0000) / 4)).any (fun i => (Coil.node s i).active) then s.faultTick Coil.page
    else s.st32 (Coil.win + o) w
  else if o < 0xE0000 then s.discard
  else s

/-- The next due or deferred frame of a node (R221). -/
def Coil.nextDue (s : State) (i : Nat) : Nat :=
  let x := Coil.node s i
  match x.deferred with
  | some f => f
  | none =>
    let p := Coil.period s i
    if !(x.active || (Coil.isCorr i && Coil.corrNode s i)) ∨ p = 0 then 0
    else let n := s.clk.frame + 1; n + (Coil.phase s i % p + p - n % p) % p

/-- The status field of the node-state area (R221). -/
def Coil.status (s : State) (i : Nat) : Nat :=
  let x := Coil.node s i
  if s.coil.acts.any (fun a => a.node = i && a.state = 2) then (if Coil.fadeFactor s i s.clk.frame = one30 then 4 else 5)
  else if s.coil.acts.any (fun a => a.node = i) then 3
  else if Coil.isCorr i then b2n (Coil.corrNode s i)
  else if !x.active then 0
  else if x.deferred.isSome then 2
  else if x.skipped then 6
  else if x.armed then 1
  else if Coil.period s i = 0 then 1 else 2

def Coil.winRead (s : State) (o : Nat) : Word :=
  if 0x3C000 ≤ o ∧ o < 0x80000 then
    if Coil.corrNode s (o / 32) then Coil.corrWord s (o / 32) (o % 32 / 4) else 0
  else if o < 0xC0000 ∨ (0xE0000 ≤ o ∧ o < 0xE0080) then s.ld32 (Coil.win + o)
  else if o < 0xE0000 then
    let i := (o - 0xC0000) / 8
    let x := Coil.node s i
    if o % 8 = 0 then
      w32 (unsigned 16 x.counter + at_ 16 (x.lastCore.getD 0) + at_ 23 (b2n x.lastCore.isSome) + at_ 24 (Coil.status s i) +
        at_ 27 (b2n x.lastLate))
    else w32 (Coil.nextDue s i)
  else 0

/-- Nodes with a delay-list entry (R194). -/
def Coil.delayFill (s : State) : Nat :=
  ((Coil.activeNodes s).filter (fun i => (Coil.period s i != 0 && !(Coil.node s i).gated) || (Coil.node s i).deferred.isSome)).length

end Sys2Proof.Machine
end

