-- ==== Sys2Proof/Machine/Budget.lean ====
section
/-!
DEFINITION. BUDGET (R269 to R287): epochs, the core-voltage loop, temperature, and the admitted tier.
-/
namespace Sys2Proof.Machine

def Budget.page : Nat := 6


/-- The frames of an epoch at the rate in force (R269). [DEDUCED, unsafe: log entry 66] -/
def Budget.fb (s : State) : Nat := frameBase s.clk.rate

/-- The set point moves to `v`, clamped to the limits in force (R275); a regulator fault stops it (R276). [DEDUCED, unsafe: log entry 67] -/
def Budget.setV (s : State) (v : Int) : State :=
  let hi := s.efF Reg.budgetVcoreLimits 25 16
  let lo := s.efF Reg.budgetVcoreLimits 9 0
  if s.budget.regFault then s
  else { s with budget := { s.budget with v := max lo (min hi v.toNat) } }

/-- One frame's slack in ns is known at its window end: the epoch's minimum, and the rise of 25 mV below 100 ns (R275).
[DEDUCED, unsafe: log entry 66] -/
def Budget.frameSlack (s : State) (slack : Nat) : State :=
  let m := match s.budget.slackMin with | some x => min x slack | none => slack
  let s1 := { s with budget := { s.budget with slackMin := some m } }
  if slack < 100 ∧ s.rdB Reg.budgetCtrl 0 then Budget.setV s1 (s1.budget.v + 25) else s1

/-- The admitted tier changes to `new` at frame `e` (R204, R205, R167, R280): every change starts the hold-off of 100 epochs
but where R281 says otherwise. The epoch in progress closes before a whole epoch has passed, so it counts as one more (R279).
[DEDUCED, unsafe: log entry 66] -/
def Budget.change (s : State) (new e reason : Nat) (hold : Bool) : State :=
  let old := s.budget.admitted
  if new = old then s
  else
    let s1 := { s with budget := { s.budget with
      admitted := new, holdoff := if hold then 101 else s.budget.holdoff
      reason := if new < old ∧ reason ≠ 0 then reason else s.budget.reason } }
    let s2 := s1.irq Budget.page (if new < old then 0 else 1)
    Coil.tierChange (Corr.tierChange s2 old new e) old new e

/-- Tier changes whose frame has come: the decision of an epoch, and the step-downs of R280, of which the lowest wins.
[DEDUCED, unsafe: log entry 66] -/
def Budget.tickTier (s : State) (n : Nat) : State :=
  let b := s.budget
  let due := b.steps.filter (fun x => x.1 ≤ n)
  let s1 := { s with budget := { b with steps := b.steps.filter (fun x => n < x.1) } }
  let goal := fun (x : Nat × Option Nat × Nat) => match x.2.1 with | some t => min t b.admitted | none => b.admitted - 1
  let low := due.foldl (fun (m : Nat × Nat) x => if goal x < m.1 then (goal x, x.2.2) else m) (b.admitted, 0)
  let decided := match b.nextTier with | some (f, t) => if f ≤ n then some t else none | none => none
  let s2 := if decided.isSome then { s1 with budget := { s1.budget with nextTier := none } } else s1
  if low.1 < b.admitted then
    -- a step-down also overtakes a decision that is still to come
    let low2 := match decided with | some t => min t low.1 | none => low.1
    let s3 := { s2 with budget := { s2.budget with nextTier := s2.budget.nextTier.map (fun p => (p.1, min p.2 low2)) } }
    Budget.change s3 low2 n low.2 true
  else match decided with
    | some t => Budget.change s2 t n b.nextWhy true
    | none => s2

/-- The first tick at a render rate: min(cap, BUDGET_TIER_MAX) without hold-off, and the power mean restarts (R281).
[DEDUCED, unsafe: log entry 66] -/
def Budget.firstTick (s : State) (n : Nat) : State :=
  let cap := Coil.capTier s
  let s1 := { s with budget := { s.budget with cap := cap, powers := [], slackMin := none, nextTier := none, steps := [] } }
  let own := min cap (s.efF Reg.budgetTierMax 1 0)
  let s2 : State := { s1 with budget := { s1.budget with ownTier := own } }
  if s2.isStandby then s2 else Budget.change s2 (match s.budget.peerTier with | some x => min own x | none => own) n 6 false

/-- After a freeze, or a soft reset: the power mean and the hold-off restart, and the tier stays (R281, R287). [DEDUCED, unsafe: log entry 67] -/
def Budget.restart (s : State) : State :=
  { s with budget := { s.budget with powers := [], slackMin := none, nextTier := none, holdoff := 101 } }

/-- Sum and count of the epoch powers held. [DEDUCED, unsafe: log entry 65] -/
def Budget.sum (s : State) : Nat := s.budget.powers.sum
def Budget.cnt (s : State) : Nat := s.budget.powers.length

/-- Sensor readings in 1/16 °C: valid ones lie from −55 °C to 150 °C (R277). -/
def Budget.validTemp (t : Int) : Bool := decide (-880 ≤ t ∧ t ≤ 2400)

/-- The sensors are read at the end of an epoch (R277, R278). -/
def Budget.sensors (s : State) (temps : List Int) : State :=
  let s1 := (List.range 16).foldl (fun s k =>
    let t := nth 0 temps k
    let ok := Budget.validTemp t
    let s' := s.wr (Reg.budgetTemp k) (w32 (at_ 31 (b2n ok) + unsigned 16 t))
    if ok then s' else s'.faultD Budget.page 0x83 k) s
  let good := (List.range 16).filter (fun k => Budget.validTemp (nth 0 temps k))
  let top := good.foldl (fun (m : Option Nat) k => match m with
    | some j => if nth 0 temps j < nth 0 temps k then some k else some j
    | none => some k) none
  let limit : Int := (s.efF Reg.budgetTjLimit 15 0 : Nat)
  let tj := if good.length < 12 then limit + 16 else (top.map (fun k => nth 0 temps k)).getD (limit + 16)
  let s2 := { s1 with budget := { s1.budget with tj := tj } }
  let s3 := s2.wr Reg.budgetTj (w32 (at_ 16 (top.getD 0) + unsigned 16 tj))
  let s4 := if limit < tj then s3.irq Budget.page 2 else s3
  if 1760 ≤ tj then
    -- reaching the temperature is recorded once; the tier is asked for at every epoch that finds it there
    let s5 := if s.budget.tj < 1760 then (s4.fault' Budget.page 0x84).irq Budget.page 2 else s4.irq Budget.page 2
    -- a standby takes its tiers from the active (R215)
    if s5.isStandby then s5
    else { s5 with budget := { s5.budget with steps := s5.budget.steps ++ [(s5.clk.frame + 1, some 0, 7)] } }
  else s4

/-- The voltage loop at the close of an epoch (R275, R276). [DEDUCED, unsafe: log entry 67] -/
def Budget.voltage (s : State) (readMv : Nat) : State :=
  let v := s.budget.v
  let off := decide (3 * v < 100 * (max v readMv - min v readMv))
  let mm := if off then s.budget.mismatch + 1 else 0
  let s1 := { s with budget := { s.budget with regFault := false, mismatch := mm } }
  let s2 := s1.wr Reg.budgetVcore (w32 (at_ 16 (readMv % 1024)))
  let s3 := if off ∧ 2 ≤ mm then (s2.fault' Budget.page 0x82).irq Budget.page 3 else s2
  let target := s.efF Reg.budgetSlackTargetNs 10 0
  if !s.rdB Reg.budgetCtrl 0 then s3
  else match s.budget.slackMin with
    | some x => if x < target then Budget.setV s3 (v + 10) else if target + 100 < x then Budget.setV s3 ((v : Int) - 5) else Budget.setV s3 v
    | none => s3

/-- The tier for tick E_{k+2} (R279), with the reason of a step-down. [DEDUCED, unsafe: log entry 56] -/
def Budget.tierFor (s : State) (a cap : Nat) (slack : Option Nat) : Nat × Nat :=
  let b := s.budget
  let limit := s.efF Reg.budgetPowerLimit 15 0
  let tjLim : Int := (s.efF Reg.budgetTjLimit 15 0 : Nat)
  let hyst : Int := (s.efF Reg.budgetTjLimit 31 16 : Nat)
  let target := s.efF Reg.budgetSlackTargetNs 10 0
  let m := min cap (s.efF Reg.budgetTierMax 1 0)
  let overP := decide (limit * Budget.cnt s < Budget.sum s)
  let overT := decide (tjLim < b.tj)
  let overS : Bool := match slack with | some x => decide (2 * x < target) && b.v == s.efF Reg.budgetVcoreLimits 25 16 | none => false
  let okP := decide (100 * Budget.sum s ≤ 95 * limit * Budget.cnt s)
  let okT := decide (b.tj ≤ tjLim - hyst)
  let okS : Bool := match slack with | some x => decide (target ≤ x) | none => true
  if overP ∨ overT ∨ overS then (min a m - 1, if overP then 1 else if overT then 2 else 3)
  else if m < a then (m, if cap < a then 6 else 0)
  else if okP ∧ okT ∧ okS ∧ a < m ∧ b.holdoff = 0 then (a + 1, 0)
  else (a, 0)

/-- The epoch's power in 0.1 W (R279): the set point times ReadCurrent and the allowance; a current that the regulator has not
given is free. [DESIGN CHOICE, safe: log entry 64] -/
def Budget.epochPower (s : State) (v : Nat) (ma : Option Nat) : Nat × State :=
  let allow := s.efF Reg.budgetRailAllow 15 0
  match ma with
  | some i => ((roundDiv ((v * i : Nat) : Int) 100000).toNat + allow, s)
  | none => ((s.drawFree.1.setWidth 16).toNat + allow, s.drawFree.2)

/-- Tick E_{k+1}: BUDGET closes the epoch (R269, R275 to R282). `temps` are the 16 sensors in 1/16 °C, `reg` the regulator's
ReadVoltage and ReadCurrent values in mV and mA, absent while it does not respond.
[DEDUCED, unsafe: log entry 56; DESIGN CHOICE, safe: log entry 64; DEDUCED, unsafe: log entry 65] -/
def Budget.epochClose (s : State) (temps : List Int) (reg : Option (Nat × Nat)) : State :=
  let fb := Budget.fb s
  if !s.clk.ticking ∨ s.clk.frame % fb ≠ 0 ∨ s.clk.frame = s.clk.firstTick then s
  else
    let slack := s.budget.slackMin
    let v := s.budget.v
    let s0 := Budget.sensors s temps
    let s0 : State := match reg with
      | some (mv, _) => Budget.voltage s0 mv
      | none => { s0 with budget := { s0.budget with mismatch := 0 } }
    let (p, s1) := Budget.epochPower s0 v (reg.map (·.2))
    let s2 := { s1 with budget := { s1.budget with
      powers := (p :: s1.budget.powers).take 100, slackMin := none, holdoff := s1.budget.holdoff - 1 } }
    let mean := (roundDiv ((Budget.sum s2 : Nat) : Int) (Budget.cnt s2)).toNat
    let s3 := (s2.wr Reg.budgetPower (w32 (at_ 16 (satU 16 p) + satU 16 mean))).wr Reg.budgetSlack
      (w32 (satU 16 (slack.getD 0)))
    let s4 := Coil.publish s3 s3 s3.clk.rate
    let cap := Coil.capTier s4
    let s5 := { s4 with budget := { s4.budget with cap := cap } }
    let s6 := if cap < s5.budget.admitted then s5.irq Coil.page 4 else s5
    let a := s6.budget.admitted
    let (t, why) := Budget.tierFor s6 a cap slack
    let beyond := a = 0 ∧ (s6.efF Reg.budgetPowerLimit 15 0 * Budget.cnt s6 < Budget.sum s6 ∨
      ((s6.efF Reg.budgetTjLimit 15 0 : Nat) : Int) < s6.budget.tj)
    let s7 := if beyond then s6.fault' Budget.page 0x85 else s6
    if s7.isStandby then { s7 with budget := { s7.budget with ownTier := if 1760 ≤ s7.budget.tj then 0 else t } }
    else
      let t' := match s7.budget.peerTier with | some x => min t x | none => t
      let s8 := { s7 with budget := { s7.budget with
        ownTier := t, nextTier := some (s7.clk.frame + fb, t'), nextWhy := why } }
      -- this close is past, so it does not count
      if cap < a then
        let s9 := Budget.change s8 cap s8.clk.frame 6 true
        { s9 with budget := { s9.budget with holdoff := 100 } }
      else s8

/-- The regulator does not respond, after one retry (R276). [DESIGN CHOICE, safe: log entry 64] -/
def Budget.regulatorTimeout (s : State) : State :=
  (({ s with budget := { s.budget with regFault := true } }).fault' Budget.page 0x80).irq Budget.page 3

/-! ### Registers -/

def Budget.check1 (v : Variant) (f : Nat → Word) : Option Nat :=
  let vmax := fld (f 0x48) 25 16; let vmin := fld (f 0x48) 9 0
  let lim := fld (f 0x58) 15 0; let hyst := fld (f 0x58) 31 16
  if fld (f 0x44) 10 0 < 100 ∨ 2000 < fld (f 0x44) 10 0 then some 0x01
  else if vmin < 550 ∨ 850 < vmax ∨ vmax < vmin then some 0x01
  else if fld (f 0x50) 15 0 < 50 ∨ 420 < fld (f 0x50) 15 0 ∨ 200 < fld (f 0x54) 15 0 then some 0x01
  else if hyst < 16 ∨ 160 < hyst ∨ lim < 1280 ∨ 1680 < lim then some 0x01
  else if (fld (f 0xC0) 11 0) &&& (4095 - presentDomains v) ≠ 0 then some 0x02
  else none

/-- The domain on which domain `d` depends (R270). -/
def Budget.depends (d : Nat) : Nat := nth 0 [0, 0, 1, 1, 5, 10, 5, 5, 5, 5, 1, 1] d

/-- The conditions of R272 on a change of the domains from `cur` to `new`. -/
def Budget.domainsRefused (s : State) (cur new : Nat) : Bool :=
  let off := fun d => cur.testBit d && !new.testBit d
  !new.testBit 0 || !new.testBit 1 || !new.testBit 6 ||
  (List.range 12).any (fun d => new.testBit d && !new.testBit (Budget.depends d)) ||
  (List.range 256).any (fun p => pagePresent s.variant p && off (pageDomain p) && unitOf p != some 0x60 && unitOf p != some 0xF0 &&
    s.enableBit p) ||
  ((off 5 || off 10) && fld (s.ef Reg.stakeRenderRate) 2 0 != 0) ||
  (List.range 4).any (fun q => off (6 + q) && ((Coil.activeNodes s).any (fun i => Coil.home s i / 32 = q) ||
    (List.range 7680).any (fun i => Coil.pinned s i && Coil.home s i / 32 = q))) ||
  (s.rateOn && (List.range 4).any (fun q => off (6 + q)) &&
    let s' := { s with budget := { s.budget with domains := new, transition := none } }
    decide (Coil.capacity s' s.clk.rate * 65536 < Coil.load s' s.budget.admitted))

def Budget.check2 (s : State) (old new : Nat → Word) : Option Nat :=
  let o := fld (old 0xC0) 11 0; let n := fld (new 0xC0) 11 0
  if n ≠ o ∧ Budget.domainsRefused s o n then some 0x81 else none

/-- A soft reset of the page (R287). -/
def Budget.softReset (s : State) : State :=
  let s1 := Budget.restart { s with budget := { s.budget with v := 850, mismatch := 0, reason := 0 } }
  let want := presentDomains s.variant
  { s1 with budget := { s1.budget with transition := if s.budget.domains = want then none else some want } }

end Sys2Proof.Machine
end

