-- ==== Sys2Proof/Machine/OsierOps.lean ====
section
/-!
DEFINITION. The registers of an Osier bank and the compute operations (R222, R223, R229 to R231, R236 to R243). Each operation
reads the values visible at its bundle and answers its writes: destination, value and latency.
-/
namespace Sys2Proof.Machine

/-! ### Reading a bank -/

def Bank.vw (b : Bank) (r l : Nat) : Word := Tab.get (fun _ => 0) b.v (4 * r + l)
def Bank.sw (b : Bank) (r : Nat) : Word := Tab.get (fun _ => 0) b.s r
/-- Lane `l` of V`r`, and S`r`, as signed numbers. -/
def Bank.vi (b : Bank) (r l : Nat) : Int := signed 32 (b.vw r l).toNat
/-- DEDUCED, unsafe: log entry 58. -/
def Bank.si (b : Bank) (r : Nat) : Int := signed 32 (b.sw r).toNat
def Bank.acc (b : Bank) (r l : Nat) : Int := Tab.get (fun _ => 0) b.ac (4 * r + l)
/-- Field `f` of A`n`: 0 ptr, 1 start, 2 size, 3 step. -/
def Bank.af (b : Bank) (n f : Nat) : Nat := Tab.get (fun _ => 0) b.a (4 * n + f)
def Bank.flag (b : Bank) (i : Nat) : Bool := b.flags.testBit i

/-! ### Write-backs (R230, R231) -/

/-- A number that names the register of a destination. -/
def Dest.key : Dest → Nat
  | .v r _ => r
  | .s r => 100 + r
  | .ac r _ => 200 + r
  | .acPart r _ _ => 200 + r
  | .a n f => 300 + 4 * n + f
  | .lc i => 400 + i
  | .flag i => 410 + i
  | .bexp => 420
  | .bexpMin => 421

def Bank.setFlag (b : Bank) (i : Nat) (x : Bool) : Bank :=
  { b with flags := if x then b.flags ||| 2 ^ i else b.flags &&& (63 - 2 ^ i) }

/-- Part `p` of an 80-bit accumulator lane replaced by `w` (ACPUT). -/
def accPut (x : Int) (p : Nat) (w : Nat) : Int :=
  let u := unsigned 80 x
  let lo := u % 2 ^ 32; let mid := u / 2 ^ 32 % 2 ^ 32; let hi := u / 2 ^ 64
  signed 80 (if p = 0 then w % 2 ^ 32 + mid * 2 ^ 32 + hi * 2 ^ 64
    else if p = 1 then lo + w % 2 ^ 32 * 2 ^ 32 + hi * 2 ^ 64
    else lo + mid * 2 ^ 32 + w % 2 ^ 16 * 2 ^ 64)

/-- A value reaches its destination. -/
def Bank.put (b : Bank) (d : Dest) (x : Int) : Bank :=
  match d with
  | .v r l => { b with v := Tab.set (fun _ => 0) b.v (4 * r + l) (w32 (unsigned 32 x)) }
  | .s r => { b with s := Tab.set (fun _ => 0) b.s r (w32 (unsigned 32 x)) }
  | .ac r l => { b with ac := Tab.set (fun _ => 0) b.ac (4 * r + l) x }
  | .acPart r l p => { b with ac := Tab.set (fun _ => 0) b.ac (4 * r + l) (accPut (b.acc r l) p (unsigned 32 x)) }
  | .a n f =>
    let v := unsigned 32 x
    let k := if f = 2 then min 16384 (v % 2 ^ 15) else if f = 3 then v % 2 ^ 16 else v % 2 ^ 14
    { b with a := Tab.set (fun _ => 0) b.a (4 * n + f) k }
  | .lc i => if i = 0 then { b with lc0 := w32 (unsigned 32 x) } else { b with lc1 := w32 (unsigned 32 x) }
  | .flag i => b.setFlag i (x != 0)
  | .bexp => { b with bexp := unsigned 5 x }
  | .bexpMin => { b with bexp := min b.bexp (unsigned 5 x) }

/-- A write-back becomes visible: a write of an earlier bundle than the one in force is discarded (R231). An update of BEXP by minimum
applies to whatever BEXP holds (R241). -/
def Bank.take (b : Bank) (w : WriteBack) : Bank :=
  let k := w.dest.key
  if w.dest = .bexpMin then b.put w.dest w.val
  else if w.issue + 1 < Tab.get (fun _ => 0) b.lastW k then b
  else
    let b1 := b.put w.dest w.val
    { b1 with lastW := Tab.set (fun _ => 0) b1.lastW k (w.issue + 1) }

/-- Everything due at the bundle about to issue becomes visible, in issue order (R229). -/
def Bank.settle (b : Bank) : Bank :=
  let due := b.wbs.filter (fun w => decide (w.due ≤ b.issued))
  due.foldl Bank.take { b with wbs := b.wbs.filter (fun w => decide (b.issued < w.due)) }

/-- A write: destination, value, latency. -/
abbrev OW := Dest × Int × Nat

/-- A write that becomes visible `lat` bundles after the present one. -/
def Bank.queue (b : Bank) (l : List OW) : Bank :=
  { b with wbs := b.wbs ++ l.map (fun w => { due := b.issued + w.2.2, issue := b.issued, dest := w.1, val := w.2.1 }) }

/-! ### Arithmetic -/

/-- Headroom of a 32-bit value (R237). -/
def headroom (x : Int) : Nat :=
  let y := if x < 0 then (-x - 1).toNat else x.toNat
  31 - y.log2 - (if y = 0 then 0 else 1)

/-- Redundant sign bits of an 80-bit value (R242, ACEXP). -/
def redundant80 (x : Int) : Nat :=
  let y := if x < 0 then (-x - 1).toNat else x.toNat
  79 - y.log2 - (if y = 0 then 0 else 1)

/-- The 32-bit wrap of an integer, read as signed. -/
def wrap32 (x : Int) : Int := signed 32 (unsigned 32 x)

/-- Shift of a lane by a signed count (R239): value before saturation. -/
def shiftLane (x n : Int) : Int :=
  if 0 ≤ n then (if 32 ≤ n then (if x = 0 then 0 else if 0 < x then 2 ^ 40 else -2 ^ 40) else x * 2 ^ n.toNat)
  else if n ≤ -32 then 0 else fdiv (x + 2 ^ ((-n).toNat - 1)) (2 ^ (-n).toNat)

/-- Extraction shift (R238). -/
def extractShift (w : Word) : Nat := min 48 (fld w 5 0)

def lanes : List Nat := [0, 1, 2, 3]

/-- Writes of Z and N from a 32-bit result. -/
def flagsZN (r : Int) : List OW := [(.flag 0, if r = 0 then 1 else 0, 1), (.flag 1, if r < 0 then 1 else 0, 1)]

/-- Writes of Z, N, C and V for the sum a + b. -/
def flagsAdd (a b : Word) : List OW :=
  let r := wrap32 ((a.toNat + b.toNat : Nat) : Int)
  flagsZN r ++ [(.flag 2, if 2 ^ 32 ≤ a.toNat + b.toNat then 1 else 0, 1),
    (.flag 3, if signed 32 a.toNat + signed 32 b.toNat = r then 0 else 1, 1)]

/-- Writes of Z, N, C and V for the difference a − b; C is the absence of a borrow (R243). -/
def flagsSub (a b : Word) : List OW :=
  let r := wrap32 ((a.toNat : Int) - b.toNat)
  flagsZN r ++ [(.flag 2, if b.toNat ≤ a.toNat then 1 else 0, 1),
    (.flag 3, if signed 32 a.toNat - signed 32 b.toNat = r then 0 else 1, 1)]

/-- The sticky SAT write. -/
def satWrite (b : Bool) : List OW := if b then [(.flag 4, 1, 1)] else []

/-- A vector result, lane by lane. -/
def vecW (d lat : Nat) (f : Nat → Int) : List OW := lanes.map (fun l => (.v d l, f l, lat))
/-- A saturating vector result with SAT. -/
def vecSat (d lat : Nat) (f : Nat → Int) : List OW :=
  vecW d lat (fun l => satS 32 (f l)) ++ satWrite (lanes.any (fun l => satClips 32 (f l)))
/-- A saturating accumulator result with SAT. -/
def accSat (d : Nat) (f : Nat → Int) : List OW :=
  lanes.map (fun l => (Dest.ac d l, satS 80 (f l), 3)) ++ satWrite (lanes.any (fun l => satClips 80 (f l)))
/-- A scalar result with Z and N. -/
def scalZN (d lat : Nat) (r : Int) : List OW := (.s d, r, lat) :: flagsZN r

/-- Rounding of a 62-bit-fraction product to Q1.31. -/
def round31 (p : Int) : Int := fdiv (p + 2 ^ 30) (2 ^ 31)

/-- imm8 and imm12 of the operand fields (R227). -/
def imm8 (x c : Nat) : Nat := 16 * x + c
def simm8 (x c : Nat) : Int := signed 8 (16 * x + c)
def imm12 (a x c : Nat) : Nat := 256 * a + 16 * x + c

/-! ### The operations of R242, one by one: bank, d, a, b, c -/

/-- Special registers that R223 lists, and those that can be written. -/
def srListed (n : Nat) : Bool := decide (n ≤ 0x24)
def srWritable (n : Nat) : Bool := decide (n ≤ 0x23)

/-- A special register's value; `xpend` is the number of transfers outstanding. -/
def Bank.special (b : Bank) (xpend n : Nat) : Int :=
  if n < 0x20 then (if n % 4 = 3 then signed 16 (b.af (n / 4) 3) else (b.af (n / 4) (n % 4) : Nat))
  else if n = 0x20 then b.lc0.toNat else if n = 0x21 then b.lc1.toNat
  else if n = 0x22 then b.flags else if n = 0x23 then b.bexp else xpend

def opMovsr (xpend : Nat) (b : Bank) (d _a x c : Nat) : List OW := [(.s d, b.special xpend (imm8 x c), 1)]
def opMovrs (b : Bank) (_d a x c : Nat) : List OW :=
  let n := imm8 x c
  let w := (b.sw a).toNat
  if n < 0x20 then [(.a (n / 4) (n % 4), (if n % 4 = 2 ∧ 16384 < w then 16384 else w : Nat), 2)]
  else if n = 0x20 then [(.lc 0, w, 2)] else if n = 0x21 then [(.lc 1, w, 2)]
  else if n = 0x22 then (List.range 6).map (fun i => (.flag i, b2n (w.testBit i), 2))
  else [(.bexp, (w % 32 : Nat), 2)]
def opBexpr (b : Bank) (d _a _x _c : Nat) : List OW := [(.s d, (b.bexp : Nat), 1), (.bexp, 31, 1)]

def opAdd (b : Bank) (d a x _c : Nat) : List OW :=
  (.s d, wrap32 (b.si a + b.si x), 1) :: flagsAdd (b.sw a) (b.sw x)
def opSub (b : Bank) (d a x _c : Nat) : List OW :=
  (.s d, wrap32 (b.si a - b.si x), 1) :: flagsSub (b.sw a) (b.sw x)
def opAnd (b : Bank) (d a x _c : Nat) : List OW := scalZN d 1 (signed 32 (b.sw a &&& b.sw x).toNat)
def opOr (b : Bank) (d a x _c : Nat) : List OW := scalZN d 1 (signed 32 (b.sw a ||| b.sw x).toNat)
def opXor (b : Bank) (d a x _c : Nat) : List OW := scalZN d 1 (signed 32 (b.sw a ^^^ b.sw x).toNat)
def opShl (b : Bank) (d a x _c : Nat) : List OW := scalZN d 1 (signed 32 (b.sw a <<< fld (b.sw x) 5 0).toNat)
def opShr (b : Bank) (d a x _c : Nat) : List OW := scalZN d 1 (signed 32 (b.sw a >>> fld (b.sw x) 5 0).toNat)
def opSar (b : Bank) (d a x _c : Nat) : List OW := scalZN d 1 (fdiv (b.si a) (2 ^ fld (b.sw x) 5 0))
def opMin (b : Bank) (d a x _c : Nat) : List OW := scalZN d 1 (min (b.si a) (b.si x))
def opMax (b : Bank) (d a x _c : Nat) : List OW := scalZN d 1 (max (b.si a) (b.si x))
/-- DEDUCED, unsafe: log entry 57. -/
def opMul (b : Bank) (d a x _c : Nat) : List OW := scalZN d 2 (wrap32 (b.si a * b.si x))
def opAddi (b : Bank) (d a x c : Nat) : List OW :=
  (.s d, wrap32 (b.si a + simm8 x c), 1) :: flagsAdd (b.sw a) (w32 (unsigned 32 (simm8 x c)))
def opCmp (b : Bank) (_d a x _c : Nat) : List OW := flagsSub (b.sw a) (b.sw x)
def opCmpi (b : Bank) (_d a x c : Nat) : List OW := flagsSub (b.sw a) (w32 (unsigned 32 (simm8 x c)))
def opMovi (_b : Bank) (d a x c : Nat) : List OW := [(.s d, signed 12 (imm12 a x c), 1)]
def opMovu (b : Bank) (d a x c : Nat) : List OW :=
  [(.s d, wrap32 (((b.sw d).toNat * 4096 + imm12 a x c : Nat) : Int), 1)]

def opVadd (b : Bank) (d a x _c : Nat) : List OW := vecSat d 1 (fun l => b.vi a l + b.vi x l)
def opVsub (b : Bank) (d a x _c : Nat) : List OW := vecSat d 1 (fun l => b.vi a l - b.vi x l)
def opVaddw (b : Bank) (d a x _c : Nat) : List OW := vecW d 1 (fun l => wrap32 (b.vi a l + b.vi x l))
def opVsubw (b : Bank) (d a x _c : Nat) : List OW := vecW d 1 (fun l => wrap32 (b.vi a l - b.vi x l))
def opVneg (b : Bank) (d a _x _c : Nat) : List OW := vecSat d 1 (fun l => -b.vi a l)
def opVabs (b : Bank) (d a _x _c : Nat) : List OW := vecSat d 1 (fun l => if b.vi a l < 0 then -b.vi a l else b.vi a l)
def opVand (b : Bank) (d a x _c : Nat) : List OW := vecW d 1 (fun l => signed 32 (b.vw a l &&& b.vw x l).toNat)
def opVor (b : Bank) (d a x _c : Nat) : List OW := vecW d 1 (fun l => signed 32 (b.vw a l ||| b.vw x l).toNat)
def opVxor (b : Bank) (d a x _c : Nat) : List OW := vecW d 1 (fun l => signed 32 (b.vw a l ^^^ b.vw x l).toNat)
def opVmin (b : Bank) (d a x _c : Nat) : List OW := vecW d 1 (fun l => min (b.vi a l) (b.vi x l))
def opVmax (b : Bank) (d a x _c : Nat) : List OW := vecW d 1 (fun l => max (b.vi a l) (b.vi x l))
def opVscale (b : Bank) (d a x _c : Nat) : List OW := vecSat d 1 (fun l => shiftLane (b.vi a l) (b.si x))
def opVshli (b : Bank) (d a x c : Nat) : List OW := vecSat d 1 (fun l => shiftLane (b.vi a l) (simm8 x c))
def opVperm (b : Bank) (d a x c : Nat) : List OW := vecW d 1 (fun l => b.vi a (imm8 x c / 4 ^ l % 4))
def opVbcast (b : Bank) (d a _x _c : Nat) : List OW := vecW d 1 (fun _ => b.si a)
def opVins (b : Bank) (d a x c : Nat) : List OW := vecW d 1 (fun l => if l = imm8 x c % 4 then b.si a else b.vi d l)
def opVext (b : Bank) (d a x c : Nat) : List OW := scalZN d 1 (b.vi a (imm8 x c % 4))
def opVmulr (b : Bank) (d a x _c : Nat) : List OW := vecSat d 3 (fun l => round31 (b.vi a l * b.vi x l))
def opVmulrs (b : Bank) (d a x _c : Nat) : List OW := vecSat d 3 (fun l => round31 (b.vi a l * b.si x))
/-- Complex products over lane pairs (R240). -/
def opVcmul (b : Bank) (d a x _c : Nat) : List OW :=
  vecSat d 3 (fun l =>
    let p := l / 2 * 2
    let ar := b.vi a p; let ai := b.vi a (p + 1); let br := b.vi x p; let bi := b.vi x (p + 1)
    round31 (if l % 2 = 0 then ar * br - ai * bi else ar * bi + ai * br))
def opVcmulj (b : Bank) (d a x _c : Nat) : List OW :=
  vecSat d 3 (fun l =>
    let p := l / 2 * 2
    let ar := b.vi a p; let ai := b.vi a (p + 1); let br := b.vi x p; let bi := b.vi x (p + 1)
    round31 (if l % 2 = 0 then ar * br + ai * bi else ai * br - ar * bi))

def opMpy (b : Bank) (d a x _c : Nat) : List OW := accSat d (fun l => b.vi a l * b.vi x l)
def opMac (b : Bank) (d a x _c : Nat) : List OW := accSat d (fun l => b.acc d l + b.vi a l * b.vi x l)
def opMsu (b : Bank) (d a x _c : Nat) : List OW := accSat d (fun l => b.acc d l - b.vi a l * b.vi x l)
def opMpys (b : Bank) (d a x _c : Nat) : List OW := accSat d (fun l => b.vi a l * b.si x)
def opMacs (b : Bank) (d a x _c : Nat) : List OW := accSat d (fun l => b.acc d l + b.vi a l * b.si x)
def opMsus (b : Bank) (d a x _c : Nat) : List OW := accSat d (fun l => b.acc d l - b.vi a l * b.si x)
def opAcclr (_b : Bank) (d _a _x _c : Nat) : List OW := lanes.map (fun l => (.ac d l, 0, 3))
def opAcld (b : Bank) (d a _x _c : Nat) : List OW := lanes.map (fun l => (.ac d l, b.vi a l * 2 ^ 31, 3))
def opAcadd (b : Bank) (d a x _c : Nat) : List OW := accSat d (fun l => b.acc a l + b.acc x l)
def opAcaddv (b : Bank) (d a x _c : Nat) : List OW := accSat d (fun l => b.acc a l + b.vi x l * 2 ^ 31)
def opAcsubv (b : Bank) (d a x _c : Nat) : List OW := accSat d (fun l => b.acc a l - b.vi x l * 2 ^ 31)
def opVbf (b : Bank) (d a x _c : Nat) : List OW :=
  lanes.map (fun l => (Dest.ac d l, (b.vi a l + b.vi x l) * 2 ^ 31, 3)) ++
  lanes.map (fun l => (Dest.ac (d + 1) l, (b.vi a l - b.vi x l) * 2 ^ 31, 3))
def opAcsum (b : Bank) (d a _x _c : Nat) : List OW :=
  accSat d (fun l => if l = 0 then b.acc a 0 + b.acc a 1 + b.acc a 2 + b.acc a 3 else 0)
def opAcsh (b : Bank) (d a x c : Nat) : List OW :=
  let n := simm8 x c
  accSat d (fun l => if 0 ≤ n then b.acc a l * 2 ^ n.toNat else fdiv (b.acc a l) (2 ^ (-n).toNat))
def opAcget (b : Bank) (d a x c : Nat) : List OW :=
  let p := imm8 x c % 4
  vecW d 3 (fun l =>
    let u := unsigned 80 (b.acc a l)
    if p = 0 then signed 32 u else if p = 1 then signed 32 (u / 2 ^ 32) else signed 16 (u / 2 ^ 64))
def opAcput (b : Bank) (d a x c : Nat) : List OW := lanes.map (fun l => (.acPart d l (imm8 x c % 4), b.vi a l, 3))
/-- Rounded extraction before saturation (R238). -/
def extractR (b : Bank) (a x l : Nat) : Int :=
  let s := extractShift (b.sw x)
  fdiv (b.acc a l + 2 ^ (30 + s)) (2 ^ (31 + s))
def opAcrnd (b : Bank) (d a x _c : Nat) : List OW := vecSat d 3 (extractR b a x)
def opAcrndb (b : Bank) (d a x _c : Nat) : List OW :=
  vecSat d 3 (extractR b a x) ++
  ([(.bexpMin, (lanes.foldl (fun m l => min m (headroom (satS 32 (extractR b a x l)))) 31 : Nat), 3)] : List OW)
def opActrn (b : Bank) (d a x _c : Nat) : List OW :=
  vecSat d 3 (fun l => fdiv (b.acc a l) (2 ^ (31 + extractShift (b.sw x))))
def opExp (b : Bank) (d a _x _c : Nat) : List OW :=
  [(.s d, (lanes.foldl (fun m l => min m (headroom (b.vi a l))) 31 : Nat), 1)]
def opAcexp (b : Bank) (d a _x _c : Nat) : List OW :=
  [(.s d, ((lanes.foldl (fun m l => min m (redundant80 (b.acc a l))) 79 : Nat) : Int) - 17, 3)]
def opNorm (b : Bank) (d a _x c : Nat) : List OW :=
  vecW d 1 (fun l => wrap32 (b.vi a l * 2 ^ headroom (b.vi a l))) ++ vecW c 1 (fun l => (headroom (b.vi a l) : Nat))
def opBexp (b : Bank) (_d a _x _c : Nat) : List OW :=
  [(.bexpMin, (lanes.foldl (fun m l => min m (headroom (b.vi a l))) 31 : Nat), 1)]

/-! ### Post-modify (R234) -/

/-- The low `k` bits of `n` reversed. -/
def revBits : Nat → Nat → Nat
  | 0, _ => 0
  | k + 1, n => (n % 2) * 2 ^ k + revBits k (n / 2)

/-- A power of two. -/
def isPow2 (l : Nat) : Bool := decide (l ≠ 0) && l &&& (l - 1) == 0

/-- The new ptr, and whether BRV is set. -/
def postModify (bitrev : Bool) (p b l : Nat) (m : Int) : Nat × Bool :=
  if bitrev && isPow2 l then
    let k := l.log2
    let o := unsigned 32 ((p : Int) - b) % l
    let q := revBits k ((revBits k o + revBits k (unsigned 32 m % l)) % l)
    ((b + q) % 0x4000, false)
  else
    let q : Int := (p : Int) + m
    let q1 := if l = 0 then q
      else
        let q' := if (b : Int) + l ≤ q then q - l else q
        if q' < (b : Int) then q' + l else q'
    (unsigned 14 q1, bitrev)

end Sys2Proof.Machine
end

