-- ==== Sys2Proof/Machine/Osier.lean ====
section
/-!
DEFINITION. Osier cores (R222 to R268): bundles and their legality, issue, control flow, moves, the frame fabric, transfers,
node entry and end, core faults, and the window.
-/
namespace Sys2Proof.Machine

/-! ### Cores -/

def Osier.pageOf (k : Nat) : Nat := 0x60 + k
/-- DEDUCED, unsafe: log entry 60. -/
def Osier.win (k : Nat) : Nat := winBase (0x60 + k)
def Osier.coreDefault (_ : Nat) : CoreSt := {}
def Osier.core (s : State) (k : Nat) : CoreSt := Tab.get Osier.coreDefault s.osier.cores k
def Osier.setCore (s : State) (k : Nat) (c : CoreSt) : State :=
  { s with osier := { s.osier with cores := Tab.set Osier.coreDefault s.osier.cores k c } }

/-- The core runs a Direct node in bank 1: the switch waits for delay slots of a bank-0 node that is not stalled (R258). -/
def CoreSt.inBank1 (c : CoreSt) : Bool :=
  c.b1.node.isSome && (c.b0.node.isNone || c.b0.delay == 0 || c.b0.stall.isSome)
/-- The bank whose bundles issue. -/
def CoreSt.active (c : CoreSt) : Bank := if c.inBank1 then c.b1 else c.b0
def CoreSt.setActive (c : CoreSt) (b : Bank) : CoreSt := if c.inBank1 then { c with b1 := b } else { c with b0 := b }

/-! ### The bundle (R227, R233, R249) -/

/-- A bundle's fields. -/
structure Bundle where
  op : Nat
  d : Nat
  a : Nat
  b : Nat
  c : Nat
  x : Nat
  y : Nat
  ctl : Nat
  deriving DecidableEq, Repr

/-- The fields of a 64-bit bundle (R227). -/
def Bundle.ofNat (w : Nat) : Bundle :=
  { op := w / 2 ^ 56 % 256, d := w / 2 ^ 52 % 16, a := w / 2 ^ 48 % 16, b := w / 2 ^ 44 % 16, c := w / 2 ^ 40 % 16
    x := w / 2 ^ 26 % 2 ^ 14, y := w / 2 ^ 12 % 2 ^ 14, ctl := w % 2 ^ 12 }

/-- A move slot. -/
structure Move where
  op : Nat
  r : Nat
  areg : Nat
  mod : Nat
  res : Nat
  deriving DecidableEq, Repr

def Move.ofNat (w : Nat) : Move :=
  { op := w / 2 ^ 11 % 8, r := w / 2 ^ 7 % 16, areg := w / 2 ^ 5 % 4, mod := w / 2 ^ 3 % 4, res := w % 8 }

/-- Words that a move transfers: four for LDV and STV. -/
def Move.width (m : Move) : Nat := if m.op = 1 ∨ m.op = 2 then 4 else 1
def Move.isLoad (m : Move) : Bool := m.op == 1 || m.op == 3 || m.op == 5
def Move.isStore (m : Move) : Bool := m.op == 2 || m.op == 4

def Move.legal (m : Move) : Bool :=
  decide (m.op ≤ 5 ∧ m.res = 0) && (decide (m.op ≠ 0) || decide (m.r = 0 ∧ m.areg = 0 ∧ m.mod = 0))

/-- The control slot's encoding is legal (R249). -/
def ctlLegal (c : Nat) : Bool :=
  let op := c / 256
  let v := c % 256
  if op = 0 ∨ op = 5 then v == 0 else if op = 1 ∨ op = 2 then true else if op = 3 then decide (v < 8)
  else if op = 4 then decide (v < 2) else false

/-- The compute slot's encoding is legal: a listed opcode, unused fields zero, accumulators at most 7 (R228, R242). -/
def computeLegal (i : Bundle) : Bool :=
  let d := i.d; let a := i.a; let b := i.b; let c := i.c
  let m8 := imm8 b c
  match i.op with
  | 0x00 => d == 0 && a == 0 && b == 0 && c == 0
  | 0x01 => decide (d ≤ 12)
  | 0x02 => d == 0
  | 0x03 => decide (d ≤ 12) && b == 0 && c == 0
  | 0x04 => d == 0 && m8 != 0
  | 0x05 => 16 * d + a != 0 && m8 != 0
  | 0x06 => d == 0 && a == 0 && b == 0 && c == 0
  | 0x07 => a == 0 && srListed m8
  | 0x08 => d == 0 && srWritable m8
  | 0x09 => a == 0 && b == 0 && c == 0
  | 0x10 | 0x11 | 0x12 | 0x13 | 0x14 | 0x15 | 0x16 | 0x17 | 0x18 | 0x19 | 0x1A => c == 0
  | 0x1B => true
  | 0x1C => d == 0 && c == 0
  | 0x1D => d == 0
  | 0x1E | 0x1F => true
  | 0x20 | 0x21 | 0x22 | 0x23 => c == 0
  | 0x24 | 0x25 => b == 0 && c == 0
  | 0x26 | 0x27 | 0x28 | 0x29 | 0x2A | 0x2B => c == 0
  | 0x2C | 0x2D => true
  | 0x2E => b == 0 && c == 0
  | 0x2F | 0x30 => decide (m8 < 4)
  | 0x38 | 0x39 | 0x3A | 0x3B => c == 0
  | 0x40 | 0x41 | 0x42 | 0x43 | 0x44 | 0x45 => c == 0 && decide (d < 8)
  | 0x46 => a == 0 && b == 0 && c == 0 && decide (d < 8)
  | 0x47 => b == 0 && c == 0 && decide (d < 8)
  | 0x48 => c == 0 && decide (d < 8 ∧ a < 8 ∧ b < 8)
  | 0x49 | 0x4A => c == 0 && decide (d < 8 ∧ a < 8)
  | 0x4B => c == 0 && decide (d < 8 ∧ d % 2 = 0)
  | 0x4C => b == 0 && c == 0 && decide (d < 8 ∧ a < 8)
  | 0x4D => decide (d < 8 ∧ a < 8)
  | 0x4E => decide (a < 8 ∧ m8 < 3)
  | 0x4F => decide (d < 8 ∧ m8 < 3)
  | 0x50 | 0x51 | 0x52 => c == 0 && decide (a < 8)
  | 0x58 => b == 0 && c == 0
  | 0x59 => b == 0 && c == 0 && decide (a < 8)
  | 0x5A => b == 0 && d != c
  | 0x5B => d == 0 && b == 0 && c == 0
  | 0x60 => b == 0 && c == 0
  | 0x61 => d == 0 && c == 0
  | 0x62 | 0x63 => d == 0 && decide (a ≤ 12 ∧ m8 < 4)
  | _ => false

def Bundle.isBranch (i : Bundle) : Bool := i.op == 1 || i.op == 2 || i.op == 3
def Bundle.isLoop (i : Bundle) : Bool := i.op == 4 || i.op == 5
def Bundle.isDone (i : Bundle) : Bool := i.ctl / 256 == 4
/-- Operations that may stand neither in a delay slot nor at the end of a body (R245, R247). -/
def Bundle.isFlow (i : Bundle) : Bool := i.isBranch || i.isLoop || i.op == 6 || i.isDone

/-- Where the bundle may stand in the bank's control flow (R245, R247). [DEDUCED, unsafe: log entry 57] -/
def Bundle.placeLegal (i : Bundle) (b : Bank) : Bool :=
  !(i.isFlow && b.delay != 0) &&
  !(i.isLoop && decide (2 ≤ b.loops.length)) &&
  !(i.isFlow && b.loops.any (fun l => l.2 == b.pc)) &&
  !(i.isBranch && b.loops.any (fun l => l.2 == b.pc + 1 || l.2 == b.pc + 2))

/-- DEDUCED, unsafe: log entry 57. -/
def Bundle.legal (i : Bundle) (b : Bank) : Bool :=
  computeLegal i && (Move.ofNat i.x).legal && (Move.ofNat i.y).legal && ctlLegal i.ctl && i.placeLegal b

/-- The condition codes of R244. -/
def condHolds (b : Bank) (c : Nat) : Bool :=
  let z := b.flag 0; let n := b.flag 1; let cy := b.flag 2; let v := b.flag 3; let sat := b.flag 4
  match c with
  | 0 => true | 1 => z | 2 => !z | 3 => n != v | 4 => n == v | 5 => !z && n == v | 6 => z || n != v
  | 7 => cy | 8 => !cy | 9 => n | 10 => !n | 11 => sat | 12 => !sat | _ => false

/-- The writes of the compute slot (R242). -/
def Bundle.compute (i : Bundle) (b : Bank) (xpend : Nat) : List OW :=
  let d := i.d; let a := i.a; let x := i.b; let c := i.c
  match i.op with
  | 0x02 => [(.s 15, (b.pc + 3 : Nat), 1)]
  | 0x07 => opMovsr xpend b d a x c | 0x08 => opMovrs b d a x c | 0x09 => opBexpr b d a x c
  | 0x10 => opAdd b d a x c | 0x11 => opSub b d a x c | 0x12 => opAnd b d a x c | 0x13 => opOr b d a x c
  | 0x14 => opXor b d a x c | 0x15 => opShl b d a x c | 0x16 => opShr b d a x c | 0x17 => opSar b d a x c
  | 0x18 => opMin b d a x c | 0x19 => opMax b d a x c | 0x1A => opMul b d a x c | 0x1B => opAddi b d a x c
  | 0x1C => opCmp b d a x c | 0x1D => opCmpi b d a x c | 0x1E => opMovi b d a x c | 0x1F => opMovu b d a x c
  | 0x20 => opVadd b d a x c | 0x21 => opVsub b d a x c | 0x22 => opVaddw b d a x c | 0x23 => opVsubw b d a x c
  | 0x24 => opVneg b d a x c | 0x25 => opVabs b d a x c | 0x26 => opVand b d a x c | 0x27 => opVor b d a x c
  | 0x28 => opVxor b d a x c | 0x29 => opVmin b d a x c | 0x2A => opVmax b d a x c | 0x2B => opVscale b d a x c
  | 0x2C => opVshli b d a x c | 0x2D => opVperm b d a x c | 0x2E => opVbcast b d a x c | 0x2F => opVins b d a x c
  | 0x30 => opVext b d a x c | 0x38 => opVmulr b d a x c | 0x39 => opVmulrs b d a x c | 0x3A => opVcmul b d a x c
  | 0x3B => opVcmulj b d a x c | 0x40 => opMpy b d a x c | 0x41 => opMac b d a x c | 0x42 => opMsu b d a x c
  | 0x43 => opMpys b d a x c | 0x44 => opMacs b d a x c | 0x45 => opMsus b d a x c | 0x46 => opAcclr b d a x c
  | 0x47 => opAcld b d a x c | 0x48 => opAcadd b d a x c | 0x49 => opAcaddv b d a x c | 0x4A => opAcsubv b d a x c
  | 0x4B => opVbf b d a x c | 0x4C => opAcsum b d a x c | 0x4D => opAcsh b d a x c | 0x4E => opAcget b d a x c
  | 0x4F => opAcput b d a x c | 0x50 => opAcrnd b d a x c | 0x51 => opAcrndb b d a x c | 0x52 => opActrn b d a x c
  | 0x58 => opExp b d a x c | 0x59 => opAcexp b d a x c | 0x5A => opNorm b d a x c | 0x5B => opBexp b d a x c
  | _ => []

/-- Operations that multiply in the lanes, which INJECT_RESIDUE strikes (R261, R267). -/
def Bundle.multiplies (i : Bundle) : Bool := decide ((0x38 ≤ i.op ∧ i.op ≤ 0x3B) ∨ (0x40 ≤ i.op ∧ i.op ≤ 0x45))

/-! ### Local memory (R224, R225, R256) -/

/-- Address of word `w` of X, or of Y. -/
def Osier.wordAddr (k : Nat) (y : Bool) (w : Nat) : Nat := Osier.win k + (if y then 0x10000 else 0) + 4 * w

/-- What a word of X or Y holds: one left undefined by a cold dispatch holds a free value. [DESIGN CHOICE, safe: log entry 59] -/
def Osier.wordAt (s : State) (k : Nat) (y : Bool) (w : Nat) : Word :=
  let c := Osier.core s k
  let key := (if y then 0x4000 else 0) + w
  if c.undef && decide (w < 0x3C00) && !Tab.get (fun _ => false) c.defd key then Config.coldWord c.cold k key
  else s.ld32 (Osier.wordAddr k y w)

/-- A word written by a kernel, a transfer or the window. -/
def Osier.writeWord (s : State) (k : Nat) (y : Bool) (w : Nat) (v : Word) : State :=
  let c := Osier.core s k
  let s1 := if c.undef then
      Osier.setCore s k { c with defd := Tab.set (fun _ => false) c.defd ((if y then 0x4000 else 0) + w) true } else s
  s1.st32 (Osier.wordAddr k y w) v

/-- The words of a move: LDV and STV ignore bits 1:0 of the pointer (R233). -/
def Move.words (m : Move) (p : Nat) : List Nat := if m.width = 4 then rangeFrom (p / 4 * 4) 4 else [p]

/-- A move stays in the bank's range (R225). -/
def Move.inRegion (m : Move) (bank1 : Bool) (p : Nat) : Bool :=
  m.op == 0 || (m.words p).all (fun w => if bank1 then decide (0x3C00 ≤ w) else decide (w < 0x3C00))

/-- Loads of a move: its writes, with latency 2. [DESIGN CHOICE, safe: log entry 59] -/
def Osier.load (s : State) (k : Nat) (y : Bool) (m : Move) (p : Nat) : List OW :=
  let val := fun i => signed 32 (nth 0 ((m.words p).map (Osier.wordAt s k y)) i).toNat
  if !m.isLoad then []
  else if m.op = 1 then vecW m.r 2 val
  else if m.op = 5 then vecW m.r 2 (fun _ => val 0)
  else [(.s m.r, val 0, 2)]

/-- Stores of a move, with the values visible at the bundle. -/
def Osier.store (s : State) (k : Nat) (y : Bool) (b : Bank) (m : Move) (p : Nat) : State :=
  if m.op = 2 then (m.words p).zipIdx.foldl (fun s q => Osier.writeWord s k y q.1 (b.vw m.r q.2)) s
  else if m.op = 4 then Osier.writeWord s k y p (b.sw m.r)
  else s

/-- One post-modify of a register: its running ptr, and BRV. -/
def Osier.modify (b : Bank) (n : Nat) (bitrev : Bool) (m : Int) (st : Tab Nat × Bool) : Tab Nat × Bool :=
  let p := Tab.get (fun i => b.af i 0) st.1 n
  let (q, v) := postModify bitrev p (b.af n 1) (b.af n 2) m
  (Tab.put (Tab.erase st.1 n) n q, st.2 || v)

/-- The pointer writes of a bundle: the moves' post-modifies, then the control slot's updates on their results (R234, R235,
R249). -/
def Bundle.pointers (i : Bundle) (b : Bank) : List OW :=
  let mx := Move.ofNat i.x; let my := Move.ofNat i.y
  let step := fun n => signed 16 (b.af n 3)
  let mv := fun (m : Move) (n : Nat) (st : Tab Nat × Bool) =>
    if m.op = 0 ∨ m.mod = 0 then st
    else if m.mod = 1 then Osier.modify b n false (m.width : Nat) st
    else Osier.modify b n (m.mod == 3) (step n) st
  let st1 := mv my (4 + my.areg) (mv mx mx.areg ([], false))
  let op := i.ctl / 256
  let upd := fun (en n : Nat) (st : Tab Nat × Bool) => if en = 0 then st else Osier.modify b n (op == 2) (step n) st
  let st2 := if op = 1 ∨ op = 2 then upd (i.ctl / 8 % 2) (i.ctl % 8) (upd (i.ctl / 128 % 2) (i.ctl / 16 % 8) st1) else st1
  st2.1.map (fun e => (Dest.a e.1 0, (e.2 : Int), 1)) ++ (if st2.2 then [(Dest.flag 5, 1, 1)] else [])

/-! ### Ends of a node (R257, R259, R263) -/

/-- Bank 0 or bank 1 of a core is emptied. -/
def Osier.clearBank (s : State) (k : Nat) (bank1 : Bool) : State :=
  let c := Osier.core s k
  Osier.setCore s k (if bank1 then { c with b1 := {} } else { c with b0 := {} })

/-- The Coil no longer runs the node that bank `b` of core `k` holds. -/
def Osier.gone (s : State) (k : Nat) (b : Bank) (direct : Bool) : Bool :=
  match b.node with
  | some i => !(s.coil.acts.any (fun a => a.node = i && a.state = 2 && a.core = k && ((a.cls = 1) == direct)))
  | none => false

/-- Banks whose node the Coil no longer runs are emptied: nodes stopped at a cut-off, by a rate change or by a reset.
[DEDUCED, unsafe: log entry 60] -/
def Osier.sync (s : State) : State :=
  (Tab.keys s.osier.cores).foldl (fun s k =>
    let c := Osier.core s k
    let s1 := if Osier.gone s k c.b1 true then Osier.clearBank s k true else s
    if Osier.gone s k c.b0 false then Osier.clearBank s1 k false else s1) s

/-- A core fault of bank 1 or bank 0 at bundle `pc`: the node is abandoned; a Block or Service node completes with the late flag (a block of
CORR that it leaves is not complete, R166), and a
Direct node misses the frame (R263). [DEDUCED, unsafe: log entry 61] -/
def Osier.bankFault (s : State) (k : Nat) (one : Bool) (pc code : Nat) : State :=
  let c := Osier.core s k
  let b := if one then c.b1 else c.b0
  match b.node with
  | none => s
  | some i =>
    let s1 := s.wr (0x60000 + 0x1000 * k + 0x4C) (w32 (at_ 16 i + at_ 12 (b2n one) + pc % 4096))
    let s2 := (s1.irq (Osier.pageOf k) 0).faultD (Osier.pageOf k) code i
    let s3 := Osier.clearBank s2 k one
    if one then Coil.miss s3 i
    else match Coil.running s3 i with
      | some a => Coil.finish (Coil.event (Coil.dropAct s3 a)) i true 0 a.core
      | none => s3

/-- A core fault of the bank whose bundles issue. [DEDUCED, unsafe: log entry 61] -/
def Osier.coreFault (s : State) (k code : Nat) : State :=
  Osier.bankFault s k (Osier.core s k).inBank1 (Osier.core s k).active.pc code

/-- DONE's completion is posted to the Coil, and the bank is free (R257). -/
def Osier.post (s : State) (k : Nat) (one bad : Bool) : State :=
  let c := Osier.core s k
  match (if one then c.b1 else c.b0).node with
  | none => s
  | some i =>
    let s1 := { s with coil := { s.coil with acts := s.coil.acts.map (fun a =>
      if a.node = i ∧ a.state = 2 ∧ a.core = k then { a with posted := true, late := a.late || bad } else a) } }
    Osier.clearBank s1 k one

/-! ### Issue (R228, R229, R244 to R252, R257 to R262) -/

/-- Passes of a loop that the bundle opens (R246). -/
def Bundle.loopCount (i : Bundle) (b : Bank) : Nat := if i.op = 4 then (b.sw i.a).toNat else 16 * i.d + i.a

/-- Target of a branch, and whether it is taken (R244, R248). -/
def Bundle.target (i : Bundle) (b : Bank) : Nat := if i.op = 1 ∨ i.op = 2 then imm12 i.a i.b i.c else fld (b.sw i.a) 11 0
def Bundle.takes (i : Bundle) (b : Bank) : Bool := i.op == 2 || ((i.op == 1 || i.op == 3) && condHolds b i.d)

/-- A loop level writes its counter: an earlier write to it that is still to come is discarded (R231, R246). -/
def Bank.setLc (b : Bank) (i n : Nat) : Bank :=
  let b1 := if i = 0 then { b with lc0 := w32 n } else { b with lc1 := w32 n }
  { b1 with lastW := Tab.set (fun _ => 0) b.lastW (400 + i) (b.issued + 1) }

/-- The innermost level where bundle `pc` ends its body: another pass, or the level ends and its surrounding level is asked. Where a taken
branch has left the inner level active, the outer body still ends at its last bundle; an outer level that ends so leaves the inner one
as the only level (R246, R247). [DEDUCED, unsafe: log entry 57] -/
def Bank.endLevel (b : Bank) (pc : Nat) : Bank × Bool :=
  match b.loops with
  | [] => (b, true)
  | (first, last) :: rest =>
    if last = pc then
      let left := (if rest = [] then b.lc0 else b.lc1).toNat - 1
      let b1 := b.setLc (if rest = [] then 0 else 1) left
      if 0 < left then ({ b1 with pc := first }, true) else ({ b1 with loops := rest }, false)
    else match rest with
      | [] => (b, true)
      | (first', last') :: _ =>
        if last' ≠ pc then (b, true)
        else if 1 < b.lc0.toNat then ({ b.setLc 0 (b.lc0.toNat - 1) with pc := first' }, true)
        else ({ b.setLc 0 b.lc1.toNat with loops := [(first, last)] }, true)

/-- A level opens with `n` passes over the `off` bundles that follow (R246). -/
def Bank.openLevel (b : Bank) (n off : Nat) : Bank :=
  let b1 := { b with loops := (b.pc + 1, b.pc + off) :: b.loops, pc := b.pc + 1 }
  b1.setLc (if b.loops = [] then 0 else 1) n

/-- A bundle that is no branch, loop or end of a level: the next bundle, and the ends of bodies, innermost first (R244, R246). -/
def Bank.advance (b : Bank) : Bank :=
  let r := ({ b with delay := b.delay - 1, pc := b.pc + 1 } : Bank).endLevel b.pc
  if r.2 then r.1 else (r.1.endLevel b.pc).1

/-- The next bundle and the control flow after bundle `i` of bank `b`: branch, delay slots, loops. [DEDUCED, unsafe: log entry 57] -/
def Osier.flow (i : Bundle) (b : Bank) : Bank :=
  if i.isLoop ∧ i.loopCount b = 0 then { b with pc := b.pc + 1 + imm8 i.b i.c }
  else if i.isLoop then b.openLevel (i.loopCount b) (imm8 i.b i.c)
  else if i.op = 6 then { b with loops := b.loops.drop 1, pc := b.pc + 1 }
  else if i.isBranch then { b with delay := 2, target := if i.takes b then some (i.target b) else none, pc := b.pc + 1 }
  else if b.delay = 1 ∧ b.target.isSome then { b with delay := 0, target := none, pc := b.target.getD 0 }
  else b.advance

/-- Issue is stalled at this bundle, from now on if it was not already (R249, R252). -/
def Osier.stallNow (s : State) (k : Nat) : State :=
  let c := Osier.core s k
  let b := c.active
  if b.stall.isSome then s else Osier.setCore s k (c.setActive { b with stall := some s.clk.mono })

/-- The transfer that XRD or XWR starts (R251). [DEDUCED, unsafe: log entry 58] -/
def Osier.xferOf (i : Bundle) (b : Bank) (s : State) : Xfer :=
  let n := i.a
  let m := imm8 i.b i.c
  { write := i.op == 0x63, y := m % 2 == 1, common := m / 2 % 2 == 1, loc := fld (b.sw n) 13 2 * 4
    ext := (b.sw (n + 1)).toNat / 16 * 16 + fld (b.sw (n + 2)) 7 0 * 2 ^ 32
    bytes := (b.sw (n + 3)).toNat / 16 * 16, node := b.node.getD 0
    deadline := match s.coil.acts.find? (fun a => a.state = 2 && some a.node == b.node && a.cls != 1) with
      | some a => a.deadline | none => none
    release := match s.coil.acts.find? (fun a => a.state = 2 && some a.node == b.node) with
      | some a => a.release | none => s.clk.frame }

/-- The counts kept per bundle: OSIER_BUNDLES and, for bank 0, the declared cost (R213, R259, R267). -/
def Osier.tally (s : State) (k : Nat) (one : Bool) : State :=
  let lo := 0x60000 + 0x1000 * k + 0x50
  let s1 := s.wr64 lo (lo + 4) (s.rd64 lo (lo + 4) + 1)
  let b := (Osier.core s1 k).b0
  if one then s1
  else if b.cost < b.issued + b.stalled * 2 / (5 * nsU) then Coil.costPassed s1 k else s1

/-- What FRD loads: four channels from Sa, zero past the node's channels (R250). [DEDUCED, unsafe: log entry 58] -/
def Osier.fabricRead (s : State) (i : Bundle) (b : Bank) : List OW :=
  if i.op = 0x60 then
    vecW i.d 2 (fun l =>
      let ch := (b.sw i.a).toNat + l
      let node := b.node.getD 0
      if ch < Coil.ioCount s node then Coil.readChannel s node (Coil.ioFirst s node + ch) else 0)
  else []

/-- What FWR stores: Va into the four channels from Sb that are the node's (R250). [DEDUCED, unsafe: log entry 58] -/
def Osier.fabricWrite (s : State) (i : Bundle) (b : Bank) : State :=
  if i.op = 0x61 then
    lanes.foldl (fun s l =>
      let ch := (b.sw i.b).toNat + l
      let node := b.node.getD 0
      if ch < Coil.ioCount s node then Coil.writeChannel s node (Coil.ioFirst s node + ch) (b.vi i.a l) else s) s
  else s

/-- The transfers outstanding after the bundle: XRD and XWR of some bytes add one (R251). [DEDUCED, unsafe: log entry 58] -/
def Osier.xfersAfter (s : State) (k : Nat) (i : Bundle) (b : Bank) : List Xfer :=
  let l := (Osier.core s k).xfers
  if i.op = 0x62 ∨ i.op = 0x63 then (let x := Osier.xferOf i b s; if x.bytes = 0 then l else l ++ [x]) else l

/-- Bank `b`, whose bundle `i` has issued at `mono`: the write-backs `ws` join, control moves on, and a stall ends. -/
def Osier.bankAfter (i : Bundle) (b : Bank) (ws : List OW) (mono : Nat) : Bank :=
  { Osier.flow i (b.queue ws) with
    issued := b.issued + 1, stall := none
    stalled := b.stalled + match b.stall with | some t => mono - t | none => 0 }

/-- Bank 1 or bank 0 of a core replaced. -/
def CoreSt.setBank (c : CoreSt) (one : Bool) (b : Bank) : CoreSt := if one then { c with b1 := b } else { c with b0 := b }

/-- The end of the bundle at `pc`: DONE posts its completion, at once or when the node's transfers have ended (R257); control that leaves the
instruction memory is a core fault (R263). -/
def Osier.conclude (s : State) (k : Nat) (i : Bundle) (one : Bool) (pc : Nat) : State :=
  let c := Osier.core s k
  if i.isDone then
    let bad := i.ctl % 2 == 1
    if c.xfers.isEmpty || one then Osier.post s k one bad
    else Osier.setCore s k { c with b0 := { c.b0 with done := some bad } }
  else if 4096 ≤ (if one then c.b1 else c.b0).pc then Osier.bankFault s k one pc 0x82
  else s

/-- The bundle issues: loads, computes, stores, writes back and moves on. Operands are read before anything is written. -/
def Osier.execute (s : State) (k : Nat) (i : Bundle) : State :=
  let c := Osier.core s k
  let b := c.active
  let mx := Move.ofNat i.x; let my := Move.ofNat i.y
  let px := b.af mx.areg 0; let py := b.af (4 + my.areg) 0
  let ws := i.compute b c.xfers.length ++ Osier.fabricRead s i b ++
    (Osier.load s k false mx px ++ Osier.load s k true my py ++ i.pointers b ++
      (if i.ctl / 256 = 5 then [(Dest.flag 4, 0, 1)] else []))
  let s1 := Osier.store (Osier.store (Osier.fabricWrite s i b) k false b mx px) k true b my py
  let s2 := Osier.setCore s1 k { (Osier.core s1 k).setBank c.inBank1 (Osier.bankAfter i b ws s.clk.mono) with
    xfers := Osier.xfersAfter s1 k i b }
  Osier.conclude (Osier.tally s2 k c.inBank1) k i c.inBank1 b.pc

/-- A local range of a transfer leaves the memory or enters the Direct region (R252). -/
def Xfer.badRange (x : Xfer) : Bool := x.bytes != 0 && decide (0x3C00 < x.loc + x.bytes / 4)

/-- Core `k` issues the bundle `i`, or stalls at it, or takes a core fault (R228, R229). The transfers are bank 0's: a Direct node never
stalls, and their errors are not its own (R251, R252, R259). A core with no node, one whose node has
executed DONE, and a Direct node at its declared cost issue nothing. [DEDUCED, unsafe: log entry 57; DEDUCED, safe: log entry 63] -/
def Osier.issue (s : State) (k : Nat) (i : Bundle) : State :=
  let c0 := Osier.core s k
  if !s.pageUp (Osier.pageOf k) ∨ c0.active.node = none ∨ c0.active.done.isSome ∨
      (c0.inBank1 ∧ c0.b1.cost ≤ c0.b1.issued) then s
  else
    let s := Osier.setCore s k (c0.setActive c0.active.settle)
    let c := Osier.core s k
    let one := c.inBank1
    let b := c.active
    let mx := Move.ofNat i.x; let my := Move.ofNat i.y
    let ctl := i.ctl / 256
    if b.issued = 0 ∧ 0xC00 ≤ b.pc ∧ (b.node.getD 0) < 7168 then Osier.coreFault s k 0x82
    else if !i.legal b then Osier.coreFault s k 0x81
    else if ((i.op = 0x60 ∨ i.op = 0x61) ∧ !one) ∨ ((i.op = 0x62 ∨ i.op = 0x63) ∧ one) then Osier.coreFault s k 0x84
    else if !one ∧ ((ctl = 3 ∧ i.ctl % 8 < c.xfers.length) ∨ ((i.op = 0x62 ∨ i.op = 0x63) ∧ 8 ≤ c.xfers.length)) then Osier.stallNow s k
    else if !one ∧ (ctl = 3 ∨ ctl = 4) ∧ c.xferErr then
      Osier.coreFault (Osier.setCore s k { c with xferErr := false }) k 0x85
    else if !mx.inRegion one (b.af mx.areg 0) ∨ !my.inRegion one (b.af (4 + my.areg) 0) then Osier.coreFault s k 0x82
    else if (i.op = 0x62 ∨ i.op = 0x63) ∧ (Osier.xferOf i b s).badRange then Osier.coreFault s k 0x82
    else if mx.isLoad ∧ c.injParity then
      let s1 := (((Osier.setCore s k { c with injParity := false }).count (0x60000 + 0x1000 * k + 0x5C) 1).irq (Osier.pageOf k) 2)
      Osier.coreFault s1 k 0x86
    else if i.multiplies ∧ c.injResidue then
      let s1 := (((Osier.setCore s k { c with injResidue := false }).count (0x60000 + 0x1000 * k + 0x58) 1).irq (Osier.pageOf k) 1)
      Osier.coreFault s1 k 0x80
    else Osier.execute s k i

/-- Bundles that belong to the device (R226). -/
def Osier.deviceBundle (n : Nat) : Bool := decide (0xC00 ≤ n)

/-- Bundle `n` of core `k`'s instruction memory; the device's own are as the boot loader has written them (R224, R226). -/
def Osier.bundleAt (s : State) (k n : Nat) : Nat :=
  if Osier.deviceBundle n then (if s.osier.devLoaded then (Config.deviceBundle n).toNat else 0)
  else s.ldLe (Osier.win k + 0x20000 + 8 * n) 8

/-- The bundle at the active bank's PC (R224, R264). -/
def Osier.fetch (s : State) (k : Nat) : Bundle := Bundle.ofNat (Osier.bundleAt s k ((Osier.core s k).active.pc % 4096))

/-- Every core that holds a node issues the bundle that its instruction memory holds, in ascending core number: the model's
idle step, in which the engines go on by themselves. [DESIGN CHOICE, unsafe: log entry 1; DESIGN CHOICE, unsafe: log entry 62] -/
def Osier.runAll (s : State) : State :=
  (Tab.keys s.osier.cores).foldl (fun s k => Osier.issue s k (Osier.fetch s k)) s

/-! ### Entry (R254, R256) -/

/-- The entry registers of an activation in bank 0 or 1 of its core. -/
def Osier.entryBank (s : State) (a : Act) : Bank :=
  let i := a.node
  let one := decide (a.cls = 1)
  let s6 : Nat := if one then Coil.ioFirst s i + at_ 16 (Coil.ioCount s i) else (a.deadline.getD 0) % 2 ^ 32
  let regs : List (Nat × Nat) := [(0, i + at_ 16 (b2n a.warm) + at_ 17 (b2n a.lateIn) + at_ 18 a.cls), (1, Coil.bindAddr s i),
    (2, 16 * Coil.bindLen s i), (3, a.release % 2 ^ 32), (4, a.release / 2 ^ 32), (5, a.fade.toNat), (6, s6),
    (7, a.core + at_ 8 (b2n one))]
  { node := some i, pc := Coil.entry s i, cost := Coil.cost s i
    s := regs.foldl (fun t e => Tab.set (fun _ => 0) t e.1 (w32 e.2)) [] }

/-- The Coil dispatches an activation to its core. -/
def Osier.enter (s : State) (a : Act) : State :=
  let c := Osier.core s a.core
  let b := Osier.entryBank s a
  if a.cls = 1 then Osier.setCore s a.core { c with b1 := b }
  else if a.warm then Osier.setCore s a.core { c with b0 := b, xferErr := false }
  else
    Osier.setCore { s with freeCtr := s.freeCtr + 1 } a.core
      { c with b0 := b, undef := true, cold := s.freeCtr, defd := [], xferErr := false }

/-- NODE_DISPATCH and AFFINITY_WAIT_EXPIRY: the core takes its entry registers. -/
def Osier.dispatch (r : State × Option Act) : State :=
  match r.2 with
  | some a => Osier.enter r.1 a
  | none => r.1

/-! ### Cost stop, injection, resets (R259, R267) -/

/-- DIRECT_COST_STOP on core `k`: its Direct node has issued its declared cost without DONE. -/
def Osier.costStop (s : State) (k : Nat) : State :=
  let b := (Osier.core s k).b1
  if b.node.isSome ∧ b.cost ≤ b.issued then Osier.sync (Coil.costStop s k) else s

def Osier.inject (s : State) (k : Nat) (residue : Bool) : State :=
  if !s.pageUp (Osier.pageOf k) then s.discard
  else if !s.directControls then s
  else
    let c := Osier.core s k
    Osier.setCore s k (if residue then { c with injResidue := true } else { c with injParity := true })

/-- A soft reset of a core's page: its nodes end as at a core fault, which lets outstanding transfers complete, and banks, X and Y
clear (R263, R267). -/
def Osier.softReset (s : State) (k : Nat) : State :=
  let c := Osier.core s k
  let s1 := match c.b1.node with | some i => Coil.miss s i | none => s
  let s2 := match c.b0.node with
    | some i => match Coil.running s1 i with
      | some a => Coil.complete (Coil.setAct s1 a { a with late := true }) i []
      | none => s1
    | none => s1
  (Osier.setCore s2 k { xfers := c.xfers, held := c.held }).clearMem (Osier.win k) (Osier.win k + 0x20000)

/-! ### Instruction memory and the window (R226, R253, R264, R268) -/

/-- The high word of bundle `n` arrives: the bundle is written with the low word held. -/
def Osier.writeHigh (s : State) (k n : Nat) (w : Word) : State :=
  if Osier.deviceBundle n then s.faultTick (Osier.pageOf k)
  else s.st64 (Osier.win k + 0x20000 + 8 * n) ((Osier.core s k).low.toNat + w.toNat * 2 ^ 32)

/-- A word to the instruction area at byte offset `o`. -/
def Osier.writeImem (s : State) (k o : Nat) (w : Word) : State :=
  if o % 8 < 4 then
    if Osier.deviceBundle (o / 8) then s.faultTick (Osier.pageOf k)
    else Osier.setCore s k { Osier.core s k with low := w }
  else Osier.writeHigh s k (o / 8) w

/-- The cores present. -/
def Osier.present (s : State) : List Nat := (List.range s.variant.cores).filter (Coil.corePresent s)

/-- A word written to the window and served now. [DEDUCED, unsafe: log entry 60] -/
def Osier.winWriteNow (s : State) (k o : Nat) (w : Word) : State :=
  if o < 0x10000 then Osier.writeWord s k false (o / 4) w
  else if o < 0x20000 then Osier.writeWord s k true ((o - 0x10000) / 4) w
  else if o < 0x28000 then Osier.writeImem s k (o - 0x20000) w
  else if k = 0 ∧ 0x80000 ≤ o ∧ o < 0x88000 then
    (Osier.present s).foldl (fun s j => Osier.writeImem s j (o - 0x80000) w) s
  else s

/-- A word written to the window: held while bank 1 runs (R268). [DEDUCED, unsafe: log entry 60] -/
def Osier.winWrite (s : State) (k o : Nat) (w : Word) : State :=
  let c := Osier.core s k
  if c.b1.node.isSome then Osier.setCore s k { c with held := c.held ++ [(o, some w)] }
  else Osier.winWriteNow s k o w

/-- A word read from the window. [DESIGN CHOICE, safe: log entry 59] -/
def Osier.winRead (s : State) (k o : Nat) : Word :=
  if o < 0x10000 then Osier.wordAt s k false (o / 4)
  else if o < 0x20000 then Osier.wordAt s k true ((o - 0x10000) / 4)
  else if o < 0x28000 then w32 (Osier.bundleAt s k ((o - 0x20000) / 8) / 2 ^ (8 * (o % 8)))
  else 0

/-- A read of X by the window or by a transfer meets an injected parity error: it is counted, and the bank-0 node takes the core fault
(R262, R267). [DEDUCED, unsafe: log entry 61] -/
def Osier.xRead (s : State) (k : Nat) : State :=
  let c := Osier.core s k
  if !c.injParity then s
  else
    let s1 := ((Osier.setCore s k { c with injParity := false }).count (0x60000 + 0x1000 * k + 0x5C) 1).irq (Osier.pageOf k) 2
    if c.b0.node.isSome then Osier.bankFault s1 k false c.b0.pc 0x86
    else (s1.irq (Osier.pageOf k) 0).fault' (Osier.pageOf k) 0x86

/-- What a window read of core `k` at offset `o` does beside answering. -/
def Osier.winTouch (s : State) (k o : Nat) : State := if o < 0x10000 then Osier.xRead s k else s

/-- Accesses held are served once the Direct node has ended, in their order (R268). -/
def Osier.release (s : State) (k : Nat) : State :=
  let c := Osier.core s k
  if c.b1.node.isSome then s
  else
    c.held.foldl (fun s h => match h.2 with
      | some w => Osier.winWriteNow s k h.1 w
      | none => { s with ctl := { s.ctl with busData := leBytes 4 (Osier.winRead s k h.1).toNat } })
      (Osier.setCore s k { c with held := [] })

/-- A delivery into the Direct region of core `k` by an activation with deadline frame `d` is discarded from tick `d` on
(R253). -/
def Osier.lateDelivery (s : State) (k : Nat) (d : Option Nat) : Option State :=
  match d with
  | some f => if f ≤ s.clk.frame then
      some ((s.count (0x60000 + 0x1000 * k + 0x68) 1).irq (Osier.pageOf k) 4) else none
  | none => none

/-- The transfer at the head of core `k`'s queue ends: the queue advances, an error is kept, a stall ends with it, and a DONE
that waited posts its completion (R252, R257). The data have been moved. [DEDUCED, unsafe: log entry 58] -/
def Osier.xferEnd (s : State) (k : Nat) (err : Bool) : State :=
  let c := Osier.core s k
  let xs := c.xfers.drop 1
  -- the error is that of the node that started the transfer
  let e := err && (c.xfers.head?.map (·.node) == c.b0.node)
  let s1 := Osier.setCore s k { c with xfers := xs, xferErr := c.xferErr || e }
  match c.b0.done with
  | some bad =>
    if xs.isEmpty then
      if c.xferErr || e then
        -- the error surfaces at DONE, the bundle before the one that would issue next
        Osier.bankFault (Osier.setCore s1 k { Osier.core s1 k with xferErr := false }) k false (c.b0.pc - 1) 0x85
      else Osier.post s1 k false bad
    else s1
  | none => s1

/-! ### ECC events (R262) -/

/-- A single-bit error in the bundle fetched is corrected. -/
def Osier.eccCorrected (s : State) (k : Nat) : State :=
  ((s.count (0x60000 + 0x1000 * k + 0x60) 1).irq (Osier.pageOf k) 3).faultD (Osier.pageOf k) 0x88 k

/-- A double-bit error in the bundle fetched. [DEDUCED, unsafe: log entry 61] -/
def Osier.eccDouble (s : State) (k : Nat) : State :=
  Osier.coreFault ((s.count (0x60000 + 0x1000 * k + 0x5C) 1).irq (Osier.pageOf k) 2) k 0x87

/-! ### Registers (R267) -/

def Osier.status (s : State) (k : Nat) : Word :=
  let c := Osier.core s k
  let st := if c.inBank1 then (if c.b0.node.isSome then 3 else 2) else if c.b0.node.isSome then 1 else 0
  w32 (st + at_ 2 (b2n c.active.stall.isSome) + at_ 4 c.xfers.length)
def Osier.nodeReg (s : State) (k : Nat) : Word :=
  let c := Osier.core s k
  w32 (c.b0.node.getD 0 + at_ 15 (b2n c.b0.node.isSome) + at_ 16 (c.b1.node.getD 0) + at_ 31 (b2n c.b1.node.isSome))
def Osier.pcReg (s : State) (k : Nat) : Word :=
  let c := Osier.core s k
  w32 (c.b0.pc % 4096 + at_ 16 (c.b1.pc % 4096))

end Sys2Proof.Machine
end

