-- ==== Sys2Proof/Machine/Pstg.lean ====
section
/-!
DEFINITION. The power-stage controller (R288 to R311): channel states, protections, rechecks, starts and stops, gains, and the
frequency planner, and the samples and output frames that the modulators take.
-/
namespace Sys2Proof.Machine

def Pstg.pageOf (g : Nat) : Nat := 0xE0 + g
def Pstg.chDefault (_ : Nat) : PsCh := {}
/-- DEDUCED, unsafe: log entry 72. -/
def Pstg.ch (s : State) (c : Nat) : PsCh := Tab.get Pstg.chDefault s.pstg.ch c
def Pstg.setCh (s : State) (c : Nat) (x : PsCh) : State :=
  { s with pstg := { s.pstg with ch := Tab.set Pstg.chDefault s.pstg.ch c x } }
/-- Groups and channels of the variant. -/
def Pstg.groups (s : State) : Nat := s.variant.psChannels / 8
def Pstg.chans (s : State) : List Nat := List.range s.variant.psChannels

def Pstg.cfgMode (s : State) (c : Nat) : Nat := s.efF (Reg.pstgChCfg (c / 8) (c % 8)) 1 0
def Pstg.cfgEarly (s : State) (c : Nat) : Bool := s.efB (Reg.pstgChCfg (c / 8) (c % 8)) 2
def Pstg.cfgLowLat (s : State) (c : Nat) : Bool := s.efB (Reg.pstgChCfg (c / 8) (c % 8)) 3
def Pstg.cfgDead (s : State) (c : Nat) : Nat := s.efF (Reg.pstgChCfg (c / 8) (c % 8)) 13 8
def Pstg.cfgVfs (s : State) (c : Nat) : Nat := s.efF (Reg.pstgChVfs (c / 8) (c % 8)) 15 0
def Pstg.rampMs (s : State) (c : Nat) : Nat := s.efF (Reg.pstgRampMs (c / 8)) 9 0
def Pstg.recheckMs (s : State) (c : Nat) : Nat := s.efF (Reg.pstgRecheckMs (c / 8)) 15 0

/-- Self-oscillating mode is performed (R299). -/
def Pstg.modeOk (s : State) (c : Nat) : Bool := Pstg.cfgMode s c != 2 || s.variant.hasSelfOsc

/-- PSGg_EN is high: bridge_en, no driver fault (R304). -/
def Pstg.bridge (s : State) (g : Nat) : Bool := s.efB (Reg.pstgGrpCtrl g) 0 && !s.pstg.drvFault.contains g

/-! ### The frequency planner (R300 to R303) -/

/-- N_k (R300). -/
def Pstg.period (code k : Nat) : Nat :=
  2 * (roundDiv ((Pstg.edgeRate code * 31 : Nat) : Int) (600000 * (31 + k))).toNat

/-- Listed stations in 1/256 Hz. -/
def Pstg.stations (s : State) : List Nat :=
  ((List.range 32).map (fun k => (s.ef (Reg.pstgStation 0 k)).toNat)).filter (· != 0)

/-- |n f − s| − n δ f, times 51,200 N_k (R301). [DEDUCED, unsafe: log entry 70] -/
def Pstg.marginAt (code k : Nat) (selfOsc : Bool) (st n : Nat) : Int :=
  let e : Int := (Pstg.edgeRate code : Nat)
  let nk : Int := (Pstg.period code k : Nat)
  let d := 256 * (n : Int) * e - (st : Int) * nk
  200 * (if d < 0 then -d else d) - (if selfOsc then 256 * n * e else 0)

/-- The margin of candidate k times 51,200 N_k, not below 0; `none` with no stations. Harmonics from the ninth on lie above
every station's. [DESIGN CHOICE, safe: log entry 69; DEDUCED, unsafe: log entry 70] -/
def Pstg.margin (s : State) (code k : Nat) (selfOsc : Bool) : Option Int :=
  let l := (Pstg.stations s).flatMap (fun st => (rangeFrom 1 8).map (fun n => Pstg.marginAt code k selfOsc st n))
  match l with
  | [] => none
  | x :: xs => some (max 0 (xs.foldl min x))

/-- The candidate's margin reaches the guard. -/
def Pstg.eligible (s : State) (code k : Nat) (selfOsc : Bool) : Bool :=
  match Pstg.margin s code k selfOsc with
  | none => true
  | some m => decide (((s.efF (Reg.pstgAmGuard 0) 22 0 * Pstg.period code k * 200 : Nat) : Int) ≤ m)

/-- Candidate a has a larger margin than candidate b. [DEDUCED, unsafe: log entry 70] -/
def Pstg.marginGt (s : State) (code a b : Nat) (selfOsc : Bool) : Bool :=
  match Pstg.margin s code a selfOsc, Pstg.margin s code b selfOsc with
  | none, _ => false
  | some _, none => false
  | some x, some y => decide (y * Pstg.period code a < x * Pstg.period code b)

def Pstg.selfOscGroup (s : State) (g : Nat) : Bool := (List.range 8).any (fun c => Pstg.cfgMode s (8 * g + c) == 2)

/-- Distance of two candidate numbers. -/
def Pstg.dist (a b : Nat) : Nat := max a b - min a b

/-- A candidate for a group without force, with the taken ones: the candidate, and whether code 0x84 is recorded. [DEDUCED, unsafe: log entry 70] -/
def Pstg.choose (s : State) (code g : Nat) (taken : List Nat) : Nat × Bool :=
  let so := Pstg.selfOscGroup s g
  let lo := s.efF (Reg.pstgGrpFreq g) 12 8
  let hi := s.efF (Reg.pstgGrpFreq g) 20 16
  let pref := s.efF (Reg.pstgGrpFreq g) 4 0
  let free := (rangeFrom lo (hi + 1 - lo)).filter (fun k => !taken.contains k)
  let el := free.filter (fun k => Pstg.eligible s code k so)
  match el with
  | x :: xs => (xs.foldl (fun m k => if Pstg.dist k pref < Pstg.dist m pref then k else m) x, false)
  | [] => match free with
    | x :: xs => (xs.foldl (fun m k => if Pstg.marginGt s code k m so then k else m) x, true)
    | [] => (lo, true)

/-- The planner's two passes (R302): candidates by group, and the groups without a clear candidate. [DEDUCED, unsafe: log entry 70] -/
def Pstg.makePlan (s : State) (code : Nat) : List Nat × List Nat :=
  let gs := List.range (Pstg.groups s)
  let forced := gs.filter (fun g => s.efB (Reg.pstgGrpFreq g) 24)
  let t0 := forced.map (fun g => (g, s.efF (Reg.pstgGrpFreq g) 4 0))
  let r := gs.foldl (fun (a : List (Nat × Nat) × List Nat) g =>
    if forced.contains g then a
    else
      let c := Pstg.choose s code g (a.1.map (·.2))
      (a.1 ++ [(g, c.1)], if c.2 then a.2 ++ [g] else a.2)) (t0, [])
  (gs.map (fun g => ((r.1.find? (fun p => p.1 = g)).map (·.2)).getD 0), r.2)

/-- Actual frequency in 1/256 Hz. -/
def Pstg.fsw (code k : Nat) : Nat := (roundDiv ((Pstg.edgeRate code * 256 : Nat) : Int) (Pstg.period code k)).toNat

/-- The planner runs, while a rate is in force (R303). -/
def Pstg.runPlanner (s : State) : State :=
  if s.clk.rate = 0 then s
  else
    let code := s.clk.rate
    let (plan, bad) := Pstg.makePlan s code
    let clear := (plan.zipIdx.filter (fun p => Pstg.eligible s code p.1 (Pstg.selfOscGroup s p.2))).map (·.2)
    let bitsOf := fun (l : List Nat) => l.foldl (fun n g => n + 2 ^ g) 0
    let s1 := { s with pstg := { s.pstg with plan := plan, planValid := true, nohit := bitsOf bad, clear := bitsOf clear } }
    let s2 := bad.foldl (fun s g => s.faultD 0xE0 0x84 g) s1
    s2.irq 0xE0 7

/-! ### LSUP's link (R304, R321) -/

/-- PSTG reports SHORT on the channel to LSUP, which confirms it from the next tick (R321, R322). -/
def Pstg.reportShort (s : State) (c : Nat) : State :=
  let x := Tab.get (fun _ => ({} : LsCh)) s.lsup.ch c
  { s with lsup := { s.lsup with ch := Tab.set (fun _ => {}) s.lsup.ch c { x with change := some (4, s.clk.mono), run := [] } } }

/-! ### Channel states (R290, R304 to R310) -/

/-- The channel is switching. -/
def PsCh.switching (x : PsCh) : Bool := x.state == 2 || x.state == 3

/-- Off at once; a latch with its cause where one is given. -/
def Pstg.off (s : State) (c cause : Nat) : State :=
  let x := Pstg.ch s c
  let y : PsCh := { x with state := 0, startDue := none, stopTo := 0, ramp := {}, locked := false, lockRun := 0, outRun := 0, farRun := 0 }
  Pstg.setCh s c (if cause = 0 then y
    else { y with latched := true, cause := cause, latchAt := s.clk.mono, rechecks := 0, tries := 0 })

/-- The channel goes Quiet; with `start` it starts after 1 ms (R308). -/
def Pstg.quiet (s : State) (c : Nat) (start : Bool) : State :=
  let x := Pstg.ch s c
  Pstg.setCh s c { x with state := 1, stopTo := 0, ramp := {}, locked := false, lockRun := 0,
                          startDue := if start then some (s.clk.mono + msU) else none }

/-- A start is called for: mode, bridge, page, rate and mute allow it (R308). -/
def Pstg.wants (s : State) (c : Nat) : Bool :=
  Pstg.cfgMode s c != 0 && Pstg.modeOk s c && Pstg.bridge s (c / 8) && s.unitOn (Pstg.pageOf (c / 8)) && s.rateOn &&
  !s.pstg.muted && !(Pstg.ch s c).latched

/-- An Off channel begins its start where one is called for; a three-level channel with V_nom zero refuses (R308, R311). -/
def Pstg.tryStart (s : State) (c : Nat) : State :=
  let x := Pstg.ch s c
  if x.state ≠ 0 ∨ !Pstg.wants s c then s
  else if Pstg.cfgMode s c = 1 ∧ s.efF (Reg.pstgGrpRail (c / 8)) 15 0 = 0 then s.fault' (Pstg.pageOf (c / 8)) 0x01
  else Pstg.quiet s c true

/-- A channel that may go on starts again through Quiet; one for which no start is called for goes Off (R308, R309, R311). -/
def Pstg.again (s : State) (c : Nat) : State :=
  if Pstg.wants s c ∧ ¬(Pstg.cfgMode s c = 1 ∧ s.efF (Reg.pstgGrpRail (c / 8)) 15 0 = 0) then Pstg.quiet s c true
  else Pstg.tryStart (Pstg.off s c 0) c

/-- The channel ramps to zero, and then goes to `goal`: 1 restart, 2 Off (R309). -/
def Pstg.rampDown (s : State) (c goal n : Nat) : State :=
  let x := Pstg.ch s c
  if x.state = 2 then
    Pstg.setCh s c { x with stopTo := goal, ramp := if s.rateOn then x.ramp.aim n (n + s.ms (Pstg.rampMs s c)) 0 else {} }
  else if x.state = 0 then s
  else if goal = 2 then Pstg.off s c 0 else Pstg.quiet s c true

/-- CHANNEL_START: the channel begins switching, locks, and ramps from the next tick (R308). `h` and `tLoop` are the hysteresis
and the closed-loop delay that a self-oscillating channel reaches at lock. -/
def Pstg.channelStart (s : State) (c h tLoop : Nat) : State :=
  let x := Pstg.ch s c
  match x.startDue with
  | none => s
  | some d =>
    if x.state ≠ 1 ∨ s.pstg.muted ∨ !Pstg.modeOk s c then s
    else
      let s1 := s.toMono d
      let so := decide (Pstg.cfgMode s c = 2)
      let n := s1.clk.nextTick
      let k := nth 0 s1.pstg.plan (c / 8)
      Pstg.setCh s1 c { x with
        state := 2, startDue := none, mode := Pstg.cfgMode s c, early := Pstg.cfgEarly s c, lowLat := Pstg.cfgLowLat s c
        dead := Pstg.cfgDead s c, vfs := Ramp.const (Pstg.cfgVfs s c : Nat), h := if so then h % 2 ^ 31 else 0
        tLoop := if so then tLoop % 65536 else 0, target := Pstg.fsw s1.clk.rate k, locked := so, lockRun := 0, outRun := 0
        farRun := 0, started := true, ramp := ({} : Ramp).aim n (n + s1.ms (Pstg.rampMs s c)) one30, mod := x.mod.started so }

/-- At a switchover each self-oscillating channel starts from the hysteresis that the active last reported (R307).
[DEDUCED, unsafe: log entry 72] -/
def Pstg.takeOver (s : State) : State :=
  (Tab.keys s.pstg.ch).foldl (fun s c =>
    let x := Pstg.ch s c
    match x.peerH with
    | some h => Pstg.setCh s c { x with h := if x.mode = 2 ∧ x.switching then h else x.h, peerH := none }
    | none => s) s

/-- CHANNEL_RAMP_DOWN_DONE: a restart, or Off; one that has become called for meanwhile starts from there (R308, R309). -/
def Pstg.rampDownDone (s : State) (c : Nat) : State :=
  let x := Pstg.ch s c
  if x.state ≠ 2 ∨ x.stopTo = 0 ∨ s.clk.frame < x.ramp.h then s
  else if x.stopTo = 1 then Pstg.again s c else Pstg.tryStart (Pstg.off s c 0) c

/-- A recheck ends under the SHORT action, with code 0x85; the latch stands as it was (R304, R305). [DEDUCED, unsafe: log entry 72] -/
def Pstg.recheckShort (s : State) (c : Nat) : State :=
  let p := Pstg.pageOf (c / 8)
  let s1 := Pstg.setCh s c { (Pstg.ch s c) with state := 0, ramp := {}, locked := false }
  Pstg.reportShort (((s1.irq p 0).faultD p 0x80 c).faultD p 0x85 c) c

/-- A SHORT: both legs mid, the channel latched Off, LSUP told (R304). It is found only where the device drives (R307). -/
def Pstg.short (s : State) (c : Nat) : State :=
  if (Pstg.ch s c).state = 0 ∨ s.variant.psChannels ≤ c ∨ !s.enablesOpen then s
  else if (Pstg.ch s c).state = 3 then Pstg.recheckShort s c
  else
    let p := Pstg.pageOf (c / 8)
    Pstg.reportShort (((Pstg.off s c 1).irq p 0).faultD p 0x80 c) c

/-- An over-current: the channel is limited, and the cycle counted once; in the fourth successive cycle it is a SHORT, and during a
recheck it ends the recheck (R304, R305). It is found only where the device drives (R307). -/
def Pstg.overCurrent (s : State) (c : Nat) : State :=
  let x := Pstg.ch s c
  if !x.switching ∨ !s.enablesOpen then s
  else
    let code := s.clk.rate
    let dt := Pstg.nsSteps code x.dead
    let t := ((s.clk.mono - x.mod.since) * Pstg.edgeRate code) / (1000000000 * nsU)
    let g := Tab.get (fun _ => ({} : Carrier)) s.pstg.carr (c / 8)
    let left := (g.look (c % 8) (x.mod.base + t)).2.2
    let k := x.cycle g (c % 8) code t
    let seen := decide (0 < x.ocRun ∧ k = x.ocCycle)
    let run := if seen then x.ocRun else if 0 < x.ocRun ∧ k = x.ocCycle + 1 then x.ocRun + 1 else 1
    let s1 := Pstg.setCh s c { x with oc := satU 16 (x.oc + (if seen then 0 else 1)), ocCycle := k, ocRun := run
                                      mod := x.limitCurrent t left dt (Pstg.nsSteps code 40) }
    if x.state = 3 then Pstg.recheckShort s1 c
    else if 4 ≤ run then Pstg.short (Pstg.setCh s1 c { Pstg.ch s1 c with ocRun := 0 }) c
    else s1

/-- PSGg_FLT_N low for 100 ns: every channel of the group Off and reported, PSGg_EN low (R304), where the device drives (R307). -/
def Pstg.driverFault (s : State) (g : Nat) : State :=
  if Pstg.groups s ≤ g ∨ s.pstg.drvFault.contains g ∨ !s.pageUp (Pstg.pageOf g) ∨ !s.enablesOpen then s
  else
    let p := Pstg.pageOf g
    let s1 := ({ s with pstg := { s.pstg with drvFault := s.pstg.drvFault ++ [g] } }.irq p 1).faultD p 0x81 g
    (rangeFrom (8 * g) 8).foldl (fun s c =>
      let x := Pstg.ch s c
      if x.state = 0 then Pstg.reportShort s c
      else
        let s2 := Pstg.reportShort (Pstg.off s c 2) c
        if x.state = 3 then s2.faultD p 0x85 c else s2) s1

/-- A recheck begins: switching with audio gain zero for 300 ms (R305). -/
def Pstg.beginRecheck (s : State) (c : Nat) : State :=
  let x := Pstg.ch s c
  let l := Tab.get (fun _ => ({} : LsCh)) s.lsup.ch c
  let s1 := { s with lsup := { s.lsup with ch := Tab.set (fun _ => {}) s.lsup.ch c { l with recheck := [], run := [] } } }
  let so := decide (Pstg.cfgMode s c = 2)
  Pstg.setCh s1 c { x with
    state := 3, recheckEnd := s.clk.mono + 300 * msU, mode := Pstg.cfgMode s c, early := Pstg.cfgEarly s c, dead := Pstg.cfgDead s c
    lowLat := Pstg.cfgLowLat s c, vfs := Ramp.const (Pstg.cfgVfs s c : Nat), ramp := {}, redo := false, tries := if x.redo then x.tries else x.tries + 1
    ocRun := 0, mod := x.mod.started so }

/-- A recheck can run on the channel. -/
def Pstg.canRecheck (s : State) (c : Nat) : Bool :=
  let x := Pstg.ch s c
  x.latched && x.state == 0 && Pstg.cfgMode s c != 0 && Pstg.modeOk s c && Pstg.bridge s (c / 8) && s.unitOn (Pstg.pageOf (c / 8)) &&
  !s.pstg.muted && s.rateOn

/-- PSGg_FLT_N has been high for 100 ms: PSGg_EN high, and a recheck on each latched channel; another whose start is called for
begins it (R304, R308). -/
def Pstg.driverRecovery (s : State) (g : Nat) : State :=
  if !s.pstg.drvFault.contains g then s
  else
    let s1 := { s with pstg := { s.pstg with drvFault := s.pstg.drvFault.filter (· != g) } }
    (rangeFrom (8 * g) 8).foldl (fun s c => if Pstg.canRecheck s c then Pstg.beginRecheck s c else Pstg.tryStart s c) s1

/-- The clock error: every channel of every group Quiet, rechecks abandoned (R304, R305, R307). -/
def Pstg.muteAll (s : State) (kind : Nat) : State :=
  let s1 := (Pstg.chans s).foldl (fun s c =>
    let x := Pstg.ch s c
    if x.state = 0 then s
    else if x.state = 3 then Pstg.setCh s c { x with state := 0, ramp := {}, redo := true }
    else Pstg.quiet s c false) s
  { s1 with pstg := { s1.pstg with muted := true, muteKind := s1.pstg.muteKind ||| kind } }

def Pstg.clockError (s : State) : State :=
  (List.range (Pstg.groups s)).foldl (fun s g => (s.irq (Pstg.pageOf g) 3).fault' (Pstg.pageOf g) 0x83) (Pstg.muteAll s 1)

/-- The mute ends: each Quiet channel starts, and a recheck that the mute abandoned runs again (R304, R305, R307, R308). -/
def Pstg.unmute (s : State) : State :=
  let s1 := { s with pstg := { s.pstg with muted := false, muteKind := 0 } }
  (Pstg.chans s).foldl (fun s c =>
    let x := Pstg.ch s c
    if x.state = 1 ∧ x.startDue = none then Pstg.again s c
    else if x.redo ∧ Pstg.canRecheck s c then Pstg.beginRecheck s c
    else Pstg.tryStart s c) s1

/-- One of the grounds of a mute is over: the mute ends with its last (R304, R310, R383). -/
def Pstg.endMute (s : State) (kind : Nat) : State :=
  let k := s.pstg.muteKind &&& (7 - kind)
  if k = s.pstg.muteKind then s
  else if k = 0 then Pstg.unmute s
  else { s with pstg := { s.pstg with muteKind := k } }

/-- CLOCK_RECOVERY, 100 ms after the clock is good. -/
def Pstg.clockRecovery (s : State) : State := Pstg.endMute s 1

/-- A loop fault: as a SHORT, with code 0x82 (R298). [DEDUCED, unsafe: log entry 72] -/
def Pstg.loopFault (s : State) (c : Nat) : State :=
  let x := Pstg.ch s c
  if x.state ≠ 2 ∨ x.mode ≠ 2 then s
  else
    let p := Pstg.pageOf (c / 8)
    Pstg.reportShort (((Pstg.off s c 3).irq p 2).faultD p 0x82 c) c

/-- RECHECK_START: the next multiple of PSTG_RECHECK_MS after the latch has come (R305). -/
def Pstg.recheckStart (s : State) (c : Nat) : State :=
  let ms := Pstg.recheckMs s c
  let x := Pstg.ch s c
  if ms = 0 ∨ !Pstg.canRecheck s c then s
  else
    let k := max (x.rechecks + 1) (cdiv (s.clk.mono - x.latchAt) (ms * msU))
    let s1 := Pstg.setCh s c { x with rechecks := k }
    Pstg.beginRecheck (s1.toMono (x.latchAt + k * ms * msU)) c

/-- PSTG_CH_CMD recheck (R305). -/
def Pstg.recheckCommand (s : State) (c : Nat) : State :=
  if !s.pageUp (Pstg.pageOf (c / 8)) then s.discard
  else if Pstg.canRecheck s c then Pstg.beginRecheck s c else s

/-- RECHECK_END after 300 ms: passed when LSUP's three readings are OK or DRIFT; the first recheck after a loop fault takes no reading
(R298, R305). -/
def Pstg.recheckEnd (s : State) (c : Nat) : State :=
  let x := Pstg.ch s c
  if x.state ≠ 3 then s
  else
    let s1 := s.toMono x.recheckEnd
    let v := (Tab.get (fun _ => ({} : LsCh)) s.lsup.ch c).recheck
    let pass := (x.cause == 3 && x.tries == 1) || (v.length == 3 && v.all (fun r => r == 1 || r == 2))
    if pass ∧ Pstg.modeOk s c then
      Pstg.again ((Pstg.setCh s1 c { x with latched := false, cause := 0 }).irq (Pstg.pageOf (c / 8)) 4) c
    else
      Pstg.setCh (s1.faultD (Pstg.pageOf (c / 8)) 0x85 c) c { x with state := 0, ramp := {} }

/-! ### Commits and enables (R303, R309) -/

/-- A commit has changed the group's registers at frame `n`; `old` and `new` are the page's views. -/
def Pstg.commit (s : State) (g n : Nat) (old new : Nat → Word) : State :=
  let s0 := (List.range 8).foldl (fun s i =>
    let c := 8 * g + i
    let a := 0x200 + 0x40 * i
    let x := Pstg.ch s c
    let diff := (old a ^^^ new a) &&& 0x3F0F
    let s1 := if diff = 0 then s
      else if fld (new a) 1 0 = 0 then (if x.state = 2 then Pstg.rampDown s c 2 n else Pstg.off s c 0)
      else if fld (new a) 1 0 = 2 ∧ !s.variant.hasSelfOsc then
        (if x.state = 2 then Pstg.rampDown s c 2 n else Pstg.off s c 0).fault' (Pstg.pageOf g) 0x02
      else if x.state = 2 then Pstg.rampDown s c 1 n else s
    let y := Pstg.ch s1 c
    if old (a + 4) ≠ new (a + 4) then
      Pstg.setCh s1 c { y with vfs := if s.rateOn ∧ y.state = 2 then y.vfs.aim n (n + s.ms (Pstg.rampMs s c)) (fld (new (a + 4)) 15 0 : Nat)
                                      else Ramp.const (fld (new (a + 4)) 15 0 : Nat) }
    else s1) s
  -- bridge_en cleared: every channel of the group ramps down and goes Off
  let s1 := if bit (old 0x40) 0 ∧ !bit (new 0x40) 0 then
      (List.range 8).foldl (fun s i => Pstg.rampDown s (8 * g + i) 2 n) s0 else s0
  let modes := (List.range 8).any (fun i => fld (old (0x200 + 0x40 * i)) 1 0 != fld (new (0x200 + 0x40 * i)) 1 0)
  let plan := old 0x4C != new 0x4C || modes ||
    (g == 0 && (old 0x70 != new 0x70 || (List.range 32).any (fun k => old (0x100 + 4 * k) != new (0x100 + 4 * k))))
  let s2 := if plan then Pstg.runPlanner s1 else s1
  (List.range 8).foldl (fun s i => Pstg.tryStart s (8 * g + i)) s2

/-- PAGE_CTRL enable of a group changes at frame `n` (R309). -/
def Pstg.setEnable (s : State) (g : Nat) (b : Bool) (n : Nat) : State :=
  (List.range 8).foldl (fun s i => if b then Pstg.tryStart s (8 * g + i) else Pstg.rampDown s (8 * g + i) 2 n) s

/-- A soft reset sets the group's channels Off at once (R310). -/
def Pstg.softReset (s : State) (g : Nat) : State :=
  let s1 := (List.range 8).foldl (fun s i => Pstg.setCh s (8 * g + i) { started := (Pstg.ch s (8 * g + i)).started }) s
  { s1 with pstg := { s1.pstg with drvFault := s1.pstg.drvFault.filter (· != g), gSag := Tab.set (fun _ => one30) s1.pstg.gSag g one30 } }

/-- Own-range checks (R304, R311). -/
def Pstg.check1 (f : Nat → Word) : Option Nat :=
  let lo := fld (f 0x4C) 12 8; let hi := fld (f 0x4C) 20 16; let pref := fld (f 0x4C) 4 0
  let rc := fld (f 0x54) 15 0
  let thr := fld (f 0x44) 31 16
  let badCh := (List.range 8).any (fun i =>
    let a := 0x200 + 0x40 * i
    let m := fld (f a) 1 0
    m == 3 || decide (50 < fld (f a) 13 8) || decide (fld (f (a + 0x0C)) 31 16 < 1 ∨ 100 < fld (f (a + 0x0C)) 31 16) ||
    ((m == 1 || m == 2) && (fld (f (a + 4)) 15 0 == 0 || fld (f (a + 8)) 31 16 == 0 || fld (f (a + 8)) 15 0 == 0 || fld (f (a + 0x14)) 15 0 == 0)))
  let badSt := (List.range 32).any (fun k =>
    let w := (f (0x100 + 4 * k)).toNat
    w != 0 && decide (w < 520000 * 256 ∨ 1710000 * 256 < w))
  if 1000 < fld (f 0x50) 9 0 ∨ (rc ≠ 0 ∧ (rc < 100 ∨ 60000 < rc)) ∨ hi < lo ∨ pref < lo ∨ hi < pref ∨ thr < 32768 ∨
      5120000 < fld (f 0x70) 22 0 ∨ badCh ∨ badSt then some 0x01 else none

/-! ### The frame (R291, R304, R306) -/

/-- prev + (target − prev)(1 − e^(−1/(τ Fr))) for a time constant in µs, the real value rounded (R304, R306).
[DEDUCED, unsafe: log entry 71] -/
def ewma (prev target : Int) (tauUs code : Nat) : Int :=
  if tauUs = 0 ∨ rateHz code = 0 then target
  else prev + fxTo 0 ((target - prev) * ((fxOne : Int) - fxExp (-(fxRat 1000000 (tauUs * rateHz code)))))

/-- A limiter's move toward its target in one frame; a time constant of zero takes it at once (R306). -/
def Pstg.limit (g target : Int) (attackUs releaseUs code : Nat) : Int :=
  let tau := if target < g then attackUs else releaseUs
  if tau = 0 then target else ewma g target tau code

/-- min(1, g × √(P_LIMIT / P_avg)) in Q2.30 (R304); P_avg in 2^-32 of 0.1 W. -/
def Pstg.powerTarget (g : Int) (lim avg : Nat) : Int :=
  if avg = 0 then one30 else min one30 (fxTo 0 (g * fxSqrt (fxRat (lim * 2 ^ 32) avg)))

/-- The rail and the rail-sag gain of group `g` in a frame (R306). -/
def Pstg.sagFrame (s : State) (g v : Nat) : State :=
  let vnom := s.efF (Reg.pstgGrpRail g) 15 0
  let thr := s.efF (Reg.pstgGrpRail g) 31 16
  let g0 := Tab.get (fun _ => one30) s.pstg.gSag g
  let tgt : Int := if vnom = 0 ∨ thr = 0 then one30 else min one30 (fdiv ((v * 2 ^ 46 : Nat) : Int) (vnom * thr))
  let g1 := if vnom = 0 then one30 else if s.isStandby then g0
    else Pstg.limit g0 tgt (s.efF (Reg.pstgGrpSagTime g) 15 0) (1000 * s.efF (Reg.pstgGrpSagTime g) 31 16) s.clk.rate
  let s' := { s with pstg := { s.pstg with gSag := Tab.set (fun _ => one30) s.pstg.gSag g g1
                                           rail := Tab.set (fun _ => 0) s.pstg.rail g (v % 65536) } }
  if g1 < one30 ∧ g0 = one30 then s'.irq (Pstg.pageOf g) 5 else s'

/-- Step 7: each channel's output register takes its sink's sample `x c` (none where a faulty unit has not loaded it, R29), and
averages and limiter gains of the frame follow from the sense inputs: `power c` the frame's mean of V·I in 0.1 W, `rail g` V_rail in
1/256 V (R291, R304, R306). [DESIGN CHOICE, safe: log entry 69; DEDUCED, unsafe: log entry 71] -/
def Pstg.frame (s : State) (x : Nat → Option Int) (power rail : Nat → Option Nat) : State :=
  let s1 := (List.range (Pstg.groups s)).foldl (fun s g => match rail g with | none => s | some v => Pstg.sagFrame s g v) s
  (Tab.keys s1.pstg.ch).foldl (fun s c =>
    let y := Pstg.ch s c
    let g := c / 8; let i := c % 8
    let p := match power c with
      | some w => (ewma y.pAvg (w * 2 ^ 32 : Nat) (100000 * s.efF (Reg.pstgChPlimit g i) 31 16) s.clk.rate).toNat
      | none => y.pAvg
    let lim := s.efF (Reg.pstgChPlimit g i) 15 0
    let g1 := if lim = 0 then one30 else if s.isStandby then y.gPl
      else Pstg.limit y.gPl (Pstg.powerTarget y.gPl lim p) (1000 * s.efF (Reg.pstgChPlTime g i) 15 0)
        (1000 * s.efF (Reg.pstgChPlTime g i) 31 16) s.clk.rate
    let xi := (x c).getD y.x
    let quietIn := decide (-679093 < xi ∧ xi < 679093)
    let s2 := Pstg.setCh s c { y with x := xi, pAvg := p, gPl := g1, mod := { y.mod with reg := xi }
                                      silentSince := if quietIn then (match y.silentSince with | some t => some t | none => some s.clk.mono) else none }
    if g1 < one30 ∧ y.gPl = one30 then s2.irq (Pstg.pageOf g) 5 else s2) s1

/-! ### Output frames (R30, R291 to R296) -/

/-- W in steps of 1/64 of an audio master period, to nearest (R22). -/
def Frame.windowSteps (s : State) : Nat := Pstg.nsSteps s.clk.rate (s.efF Reg.stakeDirectWindowNs 12 0)

/-- One sample at Fm, index `j` of output frame `n`: the channel after it, and whether the modulation index was clamped. -/
def Pstg.fmSample (s : State) (c n : Nat) (sense : List (Int × Int)) (j : Nat) (x : PsCh) : PsCh × Bool :=
  let code := s.clk.rate
  let g := c / 8; let i := c % 8
  let fm := Pstg.fm code
  let l := Tab.get (fun _ => ({} : LsCh)) s.lsup.ch c
  let cfg := s.ef (Reg.lsupChCfg c)
  let pilotOn := s.unitOn 0xE8 && bit cfg 31 && x.switching
  let (pv, pilot) := Pstg.pilotStep (Pstg.pilotHz s c) fm (Pstg.sinePeak (fld cfg 7 0)) pilotOn x.mod.pilot
  let (av, stim) := Pstg.stimStep fm (l.ac != 0) x.mod.stim
  let m := { x.mod with pilot := pilot, stim := stim }
  if !x.switching then ({ x with mod := { m with d1 := 0, d2 := 0 } }, false)
  else
    let dt := Pstg.nsSteps code x.dead
    let vd := x.demand (Tab.get (fun _ => one30) s.pstg.gSag g) code n j (pv + av)
    if x.mode = 2 then
      let vs := s.efF (Reg.pstgChSense g i) 15 0
      let r := if vs = 0 then 0 else roundDiv vd vs
      let k := Pstg.fmSteps / Pstg.loopSteps
      let co := fun (a : Nat) => signed 32 (s.ef a).toNat
      let m1 := (List.range k).foldl (fun (m : PsMod) (q : Nat) =>
        let rq := m.d1 + roundDiv ((r - m.d1) * ((q + 1 : Nat) : Int)) k
        m.loopStep rq (nth (0, 0) sense (j * k + q)).1 (co (Reg.pstgChLoopA1 g i)) (co (Reg.pstgChLoopA2 g i)) (co (Reg.pstgChLoopB0 g i))
          (co (Reg.pstgChLoopB1 g i)) x.h (j * Pstg.fmSteps + q * Pstg.loopSteps) dt (Pstg.nsSteps code 40)) m
      ({ x with mod := { m1 with d2 := m.d1, d1 := r } }, false)
    else
      let raw := Pstg.index vd (Tab.get (fun _ => 0) s.pstg.rail g)
      let lim := Pstg.mMax x.dead (Pstg.fsw code (nth 0 s.pstg.plan g))
      let v := max (-lim) (min lim raw)
      let e : ModEnv := { carr := Tab.get (fun _ => {}) s.pstg.carr g, chan := i, base := x.mod.base, dt := dt, sense := sense
                          comp := s.efB (Reg.pstgChCfg g i) 4 }
      let m1 := PsMod.threeLevel e (j * Pstg.fmSteps) 8 0 m
      ({ x with mod := { m1 with d2 := m.d1, d1 := v } }, v != raw)

/-- Channel `c` presents frame `n` from edge step `base` (R30): its samples at Fm, their edges, and the clip count. -/
def Pstg.outFrame (s : State) (c n base : Nat) (sense : List (Int × Int)) : State :=
  let x0 := Pstg.ch s c
  let ratio := Pstg.ratio s.clk.rate
  let m0 := x0.mod.startFrame (Pstg.frameSteps s.clk.rate) s.clk.mono base
  let x1 : PsCh := { x0 with mod := { m0 with hist := (m0.reg :: m0.hist).take 64 } }
  let r := (List.range ratio).foldl (fun (a : PsCh × Nat) j =>
    let b := Pstg.fmSample s c n sense j a.1
    (b.1, a.2 + b2n b.2)) (x1, 0)
  let m := ({ r.1.mod with edges := [] } : PsMod).withEdges r.1.mod.edges
  let s1 := Pstg.setCh s c { r.1 with clip := satU 16 (r.1.clip + r.2)
                                      mod := { m with gPl := r.1.gPl, gSag := Tab.get (fun _ => one30) s.pstg.gSag (c / 8) } }
  if 0 < r.2 then s1.irq (Pstg.pageOf (c / 8)) 6 else s1

/-- Sense samples of a channel that the surroundings show. -/
def Pstg.senseOf (env : TickEnv) (c : Nat) : List (Int × Int) := ((env.sense.find? (fun e => e.1 == c)).map (·.2)).getD []

/-- The channels of one phase present frame `n`: Early ones at the end of its window, Standard ones at tick n + 1 (R30). -/
def Pstg.present (s : State) (early : Bool) (n : Nat) (env : TickEnv) : State :=
  let steps := Pstg.frameSteps s.clk.rate
  let base := if early then n * steps + Frame.windowSteps s else (n + 1) * steps
  ((Tab.keys s.pstg.ch).filter (fun c => (Pstg.ch s c).early == early)).foldl (fun s c => Pstg.outFrame s c n base (Pstg.senseOf env c)) s

/-- The carriers at tick `n` (R293, R303). -/
def Pstg.carriers (s : State) (n : Nat) : State :=
  if !s.pstg.planValid then s
  else
    let code := s.clk.rate
    { s with pstg := { s.pstg with carr := (List.range (Pstg.groups s)).foldl (fun t g =>
        Tab.set (fun _ => {}) t g ((Tab.get (fun _ => ({} : Carrier)) t g).tick (Pstg.period code (nth 0 s.pstg.plan g))
          (n * Pstg.frameSteps code))) s.pstg.carr } }

/-- The level at a PWM pin now; none while the device leaves its pins undriven (R289, R290). -/
def Pstg.pin (s : State) (c : Nat) (legB : Bool) : Option PinLevel :=
  if !s.enablesOpen ∨ s.variant.psChannels ≤ c then none
  else
    let x := Pstg.ch s c
    some (x.level legB (((s.clk.mono - x.mod.since) * Pstg.edgeRate s.clk.rate / (1000000000 * nsU) : Nat) : Int))

/-- The level at PSGg_EN; none while undriven. It follows bridge_en, stays high while channels that it stops still ramp down, and is low
during a driver fault (R288, R290, R304, R309). -/
def Pstg.enPin (s : State) (g : Nat) : Option Bool :=
  if !s.enablesOpen ∨ Pstg.groups s ≤ g then none
  else some (!s.pstg.drvFault.contains g &&
    (s.efB (Reg.pstgGrpCtrl g) 0 || (rangeFrom (8 * g) 8).any (fun c => (Pstg.ch s c).state != 0)))

/-- The end of an epoch for a self-oscillating channel whose mean frequency was `f` in 1/256 Hz (R297, R298, R303). -/
def Pstg.epoch (s : State) (c f : Nat) : State :=
  let x := Pstg.ch s c
  if x.state ≠ 2 ∨ x.mode ≠ 2 ∨ x.target = 0 then s
  else
    let num := max (98 * x.target) (min (102 * x.target) (100 * f))
    let h := x.h * num / (100 * x.target)
    let near := decide (1000 * Pstg.dist f x.target ≤ 5 * x.target)
    let far := decide (100 * Pstg.dist f x.target > 25 * x.target)
    let lockRun := if near then x.lockRun + 1 else 0
    let outRun := if near then 0 else x.outRun + 1
    let plan := Pstg.fsw s.clk.rate (nth 0 s.pstg.plan (c / 8))
    let tgt := max (98 * x.target / 100) (min (102 * x.target / 100) plan)
    let locked := if x.locked then decide (outRun < 3) else decide (3 ≤ lockRun)
    let s1 := Pstg.setCh s c { x with h := h, lockRun := min 3 lockRun, outRun := outRun, farRun := if far then x.farRun + 1 else 0,
                                      locked := locked, target := tgt }
    if x.locked ∧ !locked then s1.irq (Pstg.pageOf (c / 8)) 8 else s1

/-! ### Rate changes and registers -/

/-- The first tick at a render rate: the planner runs (R303). -/
def Pstg.firstTick (s : State) : State := Pstg.runPlanner s

def Pstg.groupStatus (s : State) (g : Nat) : Word :=
  let sag := Tab.get (fun _ => one30) s.pstg.gSag g
  w32 (at_ 16 (min 65535 (sag.toNat / 2 ^ 14)) + at_ 10 (b2n s.pstg.muted) + at_ 9 (b2n (s.pstg.drvFault.contains g)) +
    at_ 8 (b2n s.pstg.planValid) + nth 0 s.pstg.plan g)

/-- Registers of group `g` that read live state, by offset. -/
def Pstg.read (s : State) (g o : Nat) : Option Word :=
  if o = 0x58 then some (Pstg.groupStatus s g)
  else if o = 0x5C then some (if s.pstg.planValid then w32 (Pstg.fsw s.clk.rate (nth 0 s.pstg.plan g)) else 0)
  else if o = 0x60 then some (w32 (Tab.get (fun _ => 0) s.pstg.rail g))
  else if o = 0x74 then some (if g = 0 then w32 (at_ 16 s.pstg.nohit + s.pstg.clear) else 0)
  else if g ≠ 0 ∧ (o = 0x70 ∨ (0x100 ≤ o ∧ o < 0x180)) then some 0
  else if 0x200 ≤ o ∧ o < 0x400 then
    let x := Pstg.ch s (8 * g + (o - 0x200) / 0x40)
    match (o - 0x200) % 0x40 with
    | 0x28 => some (w32 (x.state + at_ 3 (b2n x.latched) + at_ 4 x.cause + at_ 6 (b2n x.locked)))
    | 0x30 => some (w32 (at_ 16 (min 65535 (x.gPl.toNat / 2 ^ 14)) + min 65535 ((x.ramp.at s.clk.frame).toNat / 2 ^ 14)))
    | 0x34 => some (w32 (min 65535 ((x.pAvg + 2 ^ 31) / 2 ^ 32)))
    | 0x38 => some (w32 (at_ 16 x.clip + x.oc))
    | 0x3C => some (w32 (at_ 16 (x.h / 2 ^ 16) + x.tLoop))
    | _ => none
  else none

end Sys2Proof.Machine
end

