-- ==== Sys2Proof/Machine/Lsup.lean ====
section
/-!
DEFINITION. Load supervision (R312 to R336): readings, verdicts and their confirmation, baselines, the AC crossover test, and
the unavailability report.
-/
namespace Sys2Proof.Machine

def Lsup.page : Nat := 0xE8
def Lsup.win : Nat := winBase 0xE8
def Lsup.chDefault (_ : Nat) : LsCh := {}
def Lsup.ch (s : State) (c : Nat) : LsCh := Tab.get Lsup.chDefault s.lsup.ch c
def Lsup.setCh (s : State) (c : Nat) (x : LsCh) : State :=
  { s with lsup := { s.lsup with ch := Tab.set Lsup.chDefault s.lsup.ch c x } }

def Lsup.supEn (s : State) (c : Nat) : Bool := s.efB (Reg.lsupChCfg c) 31
def Lsup.healEn (s : State) (c : Nat) : Bool := s.efB (Reg.lsupChCfg c) 30
def Lsup.acEn (s : State) (c : Nat) : Bool := s.efB (Reg.lsupChCfg c) 29
def Lsup.mapValid (s : State) (c : Nat) : Bool := s.efB (Reg.lsupChCfg c) 24
def Lsup.speaker (s : State) (c : Nat) : Nat := s.efF (Reg.lsupChCfg c) 23 15
def Lsup.znom (s : State) (c : Nat) : Nat := s.efF (Reg.lsupChZnom c) 15 0
def Lsup.tolPh (s : State) (c : Nat) : Nat := s.efF (Reg.lsupChTol c) 15 8
def Lsup.tolMag (s : State) (c : Nat) : Nat := s.efF (Reg.lsupChTol c) 7 0
/-- Sense scales in 1/256 V and 1/256 A (PSTG_CH_SENSE). -/
def Lsup.vScale (s : State) (c : Nat) : Nat := s.efF (Reg.pstgChSense (c / 8) (c % 8)) 15 0
def Lsup.iScale (s : State) (c : Nat) : Nat := s.efF (Reg.pstgChSense (c / 8) (c % 8)) 31 16

/-- Samples of a window of 0.1 s, and of the last 20 ms of a test point (R316, R325). -/
def Lsup.winM (code : Nat) : Nat := if code % 2 = 1 then 70560 else 76800
def Lsup.pointM (code : Nat) : Nat := if code % 2 = 1 then 14112 else 15360

/-! ### Readings (R316, R317) -/

/-- Squared magnitudes of the two phasor sums. -/
def Sums.v2 (z : Sums) : Nat := (z.1 * z.1 + z.2.1 * z.2.1).toNat
def Sums.i2 (z : Sums) : Nat := (z.2.2.1 * z.2.2.1 + z.2.2.2 * z.2.2.2).toNat

/-- A phasor 2·sum/M is at least 2^-14 of full scale. -/
def Lsup.above (sq m : Nat) : Bool := decide ((m * 2 ^ 48) ^ 2 ≤ 4 * sq)

/-- |phasor| in Q0.32 of full scale, saturated. -/
def Lsup.mag32 (sq m : Nat) : Nat := min (2 ^ 32 - 1) ((Nat.sqrt (16 * sq / m ^ 2)) / 2 ^ 30 / 2)

/-- The nearest integer to √(a/b). -/
def roundSqrt (a b : Nat) : Nat := if b = 0 then 0 else (Nat.sqrt (4 * a / b) + 1) / 2

/-- Kinds of a reading: 0 none, 1 a value, 2 open, 3 zero. [DEDUCED, unsafe: log entry 73] -/
def Lsup.kind (z : Sums) (m : Nat) : Nat :=
  let v := Lsup.above z.v2 m; let i := Lsup.above z.i2 m
  if v && i then 1 else if v then 2 else if i then 3 else 0

/-- |Z| in 1/65,536 Ω. [DESIGN CHOICE, unsafe: log entry 74] -/
def Lsup.zmag (s : State) (c : Nat) (z : Sums) : Nat :=
  min (2 ^ 32 - 2) (roundSqrt (z.v2 * (Lsup.vScale s c * 65536) ^ 2) (z.i2 * (Lsup.iScale s c) ^ 2))

/-- V · conj(I): its angle is that of Z (R316). -/
def Sums.cross (z : Sums) : Int × Int := (z.1 * z.2.2.1 + z.2.1 * z.2.2.2, z.2.1 * z.2.2.1 - z.1 * z.2.2.2)

/-- An angle in 1/128 degree, to nearest (R336). [DESIGN CHOICE, unsafe: log entry 74] -/
def Lsup.degrees (im re : Int) : Int := fxTo 0 (fxDiv (fxAtan2 im re * 23040) fxPi)

/-- The phase of Z. -/
def Lsup.phase (z : Sums) : Int := Lsup.degrees z.cross.2 z.cross.1

/-- Magnitude and phase of a reading as the array window holds them; open reads all ones. [DEDUCED, unsafe: log entry 73] -/
def Lsup.value (s : State) (c m : Nat) (z : Sums) : Option (Nat × Int) :=
  match Lsup.kind z m with
  | 0 => none
  | 1 => some (Lsup.zmag s c z, Lsup.phase z)
  | 2 => some (2 ^ 32 - 1, 0)
  | _ => some (0, 0)

/-! ### Baselines (R323, R336) -/

def Lsup.chWin (c : Nat) : Nat := Lsup.win + 0x400 * c
def Lsup.baseMag (s : State) (c : Nat) : Nat := (s.ld32 (Lsup.chWin c)).toNat
def Lsup.basePhase (s : State) (c : Nat) : Int := signed 16 (s.ldLe (Lsup.chWin c + 4) 2)
def Lsup.baseValid (s : State) (c : Nat) : Bool := bit (s.ld32 (Lsup.chWin c + 4)) 16
def Lsup.acBaseValid (s : State) (c : Nat) : Bool := bit (s.ld32 (Lsup.chWin c + 8)) 0
def Lsup.acBase (s : State) (c k : Nat) : Nat × Int :=
  ((s.ld32 (Lsup.chWin c + 0x10 + 8 * k)).toNat, signed 16 (s.ldLe (Lsup.chWin c + 0x14 + 8 * k) 2))

/-- The difference of two phases in 1/128 degree, wrapped to a half turn, exceeds `tol` degrees. -/
def Lsup.phaseOff (a b : Int) (tol : Nat) : Bool :=
  let d := (a - b + 23040) % 46080 - 23040
  decide ((128 * tol : Nat) < (if d < 0 then -d else d))

/-! ### Verdicts (R319, R320) -/

/-- |Z| against limits, on exact ratios: `4 znom < |Z|` and `|Z| < znom / 4`. -/
def Lsup.overNom (s : State) (c : Nat) (z : Sums) : Bool :=
  decide (16 * (Lsup.znom s c) ^ 2 * z.i2 * (Lsup.iScale s c) ^ 2 < z.v2 * (256 * Lsup.vScale s c) ^ 2)
def Lsup.underNom (s : State) (c : Nat) (z : Sums) : Bool :=
  decide (16 * z.v2 * (256 * Lsup.vScale s c) ^ 2 < (Lsup.znom s c) ^ 2 * z.i2 * (Lsup.iScale s c) ^ 2)

/-- The verdict of one window: 0 none, 1 OK, 2 DRIFT, 3 OPEN, 4 SHORT. [DEDUCED, unsafe: log entry 73] -/
def Lsup.verdict (s : State) (c m : Nat) (z : Sums) : Nat :=
  match Lsup.value s c m z with
  | none => 0
  | some (mag, ph) =>
    let k := Lsup.kind z m
    let zn := Lsup.znom s c
    if zn ≠ 0 ∧ (k = 2 ∨ (k = 1 ∧ Lsup.overNom s c z)) then 3
    else if zn ≠ 0 ∧ (k = 3 ∨ (k = 1 ∧ Lsup.underNom s c z)) then 4
    else
      let b := Lsup.baseMag s c
      let t := Lsup.tolMag s c
      let off := k == 2 || decide (b * (100 + t) < 100 * mag ∨ 100 * mag < b * (100 - t))
      if Lsup.baseValid s c ∧ (off ∨ Lsup.phaseOff ph (Lsup.basePhase s c) (Lsup.tolPh s c)) then 2 else 1

/-- The verdict that a run of readings (newest first) confirms, where it differs from `cur` (R320). -/
def Lsup.confirms (cur : Nat) (run : List Nat) : Option Nat :=
  match run with
  | a :: b :: c :: _ =>
    if (a = 3 ∨ a = 4) ∧ b = a ∧ c = a then (if a = cur then none else some a)
    else if cur = 3 ∨ cur = 4 then
      (if (a = 1 ∨ a = 2) ∧ (b = 1 ∨ b = 2) ∧ (c = 1 ∨ c = 2) then some a else none)
    else if (a = 1 ∨ a = 2) ∧ b = a ∧ c = a then (if a = cur then none else some a)
    else none
  | _ => none

/-- The length of the current run: the newest readings that go toward one confirmation, from the verdict that stands or is about to
take effect (R320, R335). [DEDUCED, unsafe: log entry 73] -/
def Lsup.runLen (x : LsCh) : Nat :=
  let cur := match x.change with | some (w, _) => w | none => x.confirmed
  match x.run with
  | [] => 0
  | a :: _ =>
    let same := fun (b : Nat) => if (cur == 3 || cur == 4) && (a == 1 || a == 2) then b == 1 || b == 2 else b == a
    (x.run.takeWhile same).length

/-! ### Operations (R323 to R328, R335) -/

/-- An operation ends. -/
def Lsup.opEnd (s : State) (fail : Bool) : State :=
  let s1 := ({ s with lsup := { s.lsup with busy := none, failed := fail } }).irq Lsup.page 5
  if fail then s1.irq Lsup.page 6 else s1

/-- The mean of the ratios V/I of readings, as magnitude in 1/65,536 Ω and phase; an open reading makes the mean open (R323).
[DESIGN CHOICE, unsafe: log entry 74] -/
def Lsup.mean (l : List Sums) (m vs is : Nat) : Nat × Int :=
  if l.any (fun z => Lsup.kind z m == 2) then (2 ^ 32 - 1, 0)
  else
    let sum := fun (f : Sums → Int) => l.foldl (fun a z => a + fxRat (f z) z.i2) 0
    let re := sum (fun z => z.cross.1); let im := sum (fun z => z.cross.2)
    let mag := fxSqrt (fxMul re re + fxMul im im)
    (min (2 ^ 32 - 2) (fxTo 0 ((mag * 65536 * vs).fdiv (l.length * is))).toNat, Lsup.degrees im re)

/-- A reading joins a baseline capture (R323). [DEDUCED, unsafe: log entry 75] -/
def Lsup.captureStep (s : State) (c verdict : Nat) (z : Sums) : State :=
  let x := Lsup.ch s c
  match x.capture with
  | none => s
  | some l =>
    if verdict = 0 ∨ 3 ≤ verdict then
      Lsup.opEnd ((Lsup.setCh s c { x with capture := none }).faultD Lsup.page 0x80 c) true
    else if l.length < 9 then Lsup.setCh s c { x with capture := some (l ++ [z]) }
    else
      let (m, p) := Lsup.mean (l ++ [z]) (Lsup.winM s.clk.rate) (Lsup.vScale s c) (Lsup.iScale s c)
      let s1 := Lsup.setCh s c { x with capture := none }
      Lsup.opEnd ((s1.st32 (Lsup.chWin c) (w32 m)).st32 (Lsup.chWin c + 4) (w32 (unsigned 16 p + 2 ^ 16))) false

/-- The channel makes readings (R313, R332, R333, R334). -/
def Lsup.reads (s : State) (c : Nat) : Bool :=
  s.unitOn Lsup.page && Lsup.supEn s c && decide (c < s.variant.psChannels) && (Pstg.ch s c).switching && !s.isStandby

/-- LSUP_WINDOW_END: the window's sums, and whether the tap reported an overload (R316 to R320). -/
def Lsup.windowEnd (s : State) (c : Nat) (z : Sums) (ovl : Bool) : State :=
  if !Lsup.reads s c then s
  else
    let m := Lsup.winM s.clk.rate
    let v := if ovl then 0 else Lsup.verdict s c m z
    let x := Lsup.ch s c
    let val := if ovl then none else Lsup.value s c m z
    let run := if v = 0 then [] else (v :: x.run).take 3
    let base := match x.change with | some (w, _) => w | none => x.confirmed
    let chg := match Lsup.confirms base run with
      | some w => some (w, s.clk.mono + 100 * usU)
      | none => x.change
    let y : LsCh := { x with
      reading := v, run := run, change := chg, mag := (val.map (·.1)).getD x.mag, phase := (val.map (·.2)).getD x.phase
      absV := if ovl then 0 else Lsup.mag32 z.v2 m, absI := if ovl then 0 else Lsup.mag32 z.i2 m
      recheck := if (Pstg.ch s c).state = 3 then x.recheck ++ [v] else x.recheck }
    Lsup.captureStep (Lsup.setCh s c y) c v z

/-- The channel contributes to the report (R329, R331). -/
def Lsup.asserts (s : State) (c : Nat) : Bool :=
  let x := Lsup.ch s c
  Lsup.mapValid s c && Lsup.healEn s c && Lsup.supEn s c && decide (Pstg.cfgMode s c ≠ 0) && (x.confirmed == 3 || x.confirmed == 4) &&
  decide (c < s.variant.psChannels)

/-- The report of R329: speakers with at least one channel that asserts them. -/
def Lsup.report (s : State) : List Nat :=
  let on := (Tab.keys s.lsup.ch).filter (Lsup.asserts s)
  ((List.range 512).filter (fun j => on.any (fun c => Lsup.speaker s c = j)))

/-- The report is evaluated, and SCENE told of a change (R329 to R331). -/
def Lsup.evaluate (s : State) : State :=
  let old := s.scene.lsupUnavail
  let new := Lsup.report s
  if new = old then s
  else
    let added := (new.filter (fun j => !old.contains j)).length
    let s1 := { s with scene := { s.scene with lsupUnavail := new } }
    Scene.healIfChanged s ((s1.count Reg.lsupHealCount added).irq Lsup.page 1)

/-- VERDICT_CHANGE on channel `c`: the change waits for the first tick at or after its instant (R322). -/
def Lsup.verdictChange (s : State) (c : Nat) : State :=
  let x := Lsup.ch s c
  match x.change with
  | none => s
  | some (v, t) =>
    if s.clk.tickMono < t then s
    else
      let s0 := Lsup.setCh s c { x with confirmed := v, change := none }
      let s1 := if v = x.confirmed then s0 else s0.irq Lsup.page 0
      let s2 := if v = 2 ∧ x.confirmed ≠ 2 then s1.irq Lsup.page 2 else s1
      let s3 := if 3 ≤ v ∧ v ≠ x.confirmed then s2.faultD Lsup.page 0x83 c else s2
      Lsup.evaluate s3

/-- A channel that makes no readings at a tick has no run (R333); one that has stopped since the tick before leaves its window without a
reading, which ends a baseline capture (R317, R323). -/
def Lsup.follow (s : State) (c : Nat) : State :=
  let x := Lsup.ch s c
  let on := Lsup.reads s c
  let cut := x.live && !on
  let s1 := Lsup.setCh s c { x with live := on, run := if on then x.run else [], reading := if cut then 0 else x.reading }
  if cut then Lsup.captureStep s1 c 0 (0, 0, 0, 0) else s1

/-- At each tick, after the commits and plaits: settings that no longer supervise a channel clear its verdict, and the report
is evaluated (R331). -/
def Lsup.tick (s : State) : State :=
  let s1 := (Tab.keys s.lsup.ch).foldl (fun s c =>
    let x := Lsup.ch s c
    let s' := if !Lsup.supEn s c ∨ Pstg.cfgMode s c = 0 then
        let s0 := Lsup.setCh s c { x with confirmed := 0, run := [], change := none }
        if x.confirmed = 0 then s0 else s0.irq Lsup.page 0
      else s
    Lsup.follow s' c) s
  Lsup.evaluate s1

/-- At a switchover the new active keeps the verdicts and the report, and its readings start with empty runs (R334). -/
def Lsup.takeOver (s : State) : State :=
  (Tab.keys s.lsup.ch).foldl (fun s c => Lsup.setCh s c { Lsup.ch s c with run := [], reading := 0, recheck := [] }) s

/-- The AC test can run on the channel (R324). -/
def Lsup.acOk (s : State) (c : Nat) : Bool :=
  s.variant.hasAcTest && Lsup.acEn s c && decide (c < s.variant.psChannels) && (Pstg.ch s c).mode == 2 && (Pstg.ch s c).locked &&
  (Pstg.ch s c).state == 2

/-- A test begins, and its stimulus at phase zero (R325). -/
def Lsup.acBegin (s : State) (c kind : Nat) : State :=
  let p := Pstg.ch s c
  Lsup.setCh (Pstg.setCh s c { p with mod := { p.mod with stim := some (0, 0) } }) c { Lsup.ch s c with ac := kind, points := [] }

/-- A command is refused with code 0x82. -/
def Lsup.refuse (s : State) : State := s.fault' Lsup.page 0x82

/-- LSUP_CMD op 1 on channel `c` (R323). [DEDUCED, unsafe: log entry 75] -/
def Lsup.baselineCapture (s : State) (c : Nat) : State :=
  if !s.pageUp Lsup.page then s.discard
  else if s.variant.psChannels ≤ c then s
  else if s.lsup.busy.isSome then Lsup.refuse s
  else
    let s1 := { s with lsup := { s.lsup with busy := some c } }
    Lsup.setCh s1 c { Lsup.ch s c with capture := some [], live := Lsup.reads s c }

/-- LSUP_CMD op 2 (kind 3) and op 3 (kind 2) (R326). -/
def Lsup.acCommand (s : State) (c kind : Nat) : State :=
  if !s.pageUp Lsup.page then s.discard
  else if s.variant.psChannels ≤ c then s
  else if s.lsup.busy.isSome ∨ !Lsup.acOk s c ∨ (Lsup.ch s c).ac ≠ 0 ∨ s.isStandby then Lsup.refuse s
  else Lsup.acBegin { s with lsup := { s.lsup with busy := some c } } c kind

/-- LSUP_CMD op 4. -/
def Lsup.clearBaselines (s : State) (c : Nat) : State :=
  if !s.pageUp Lsup.page then s.discard
  else if s.variant.psChannels ≤ c then s
  else if s.lsup.busy.isSome then Lsup.refuse s
  else Lsup.opEnd ((s.stN (Lsup.chWin c) (List.replicate 0x110 0))) false

/-- The channel's input is silent now (R326). -/
def Lsup.silentFor (s : State) (c d : Nat) : Bool :=
  match (Pstg.ch s c).silentSince with | some t => decide (t + d ≤ s.clk.mono) | none => false

/-- AC_TEST_SILENCE_START. -/
def Lsup.silenceStart (s : State) (c : Nat) : State :=
  let gap := s.efF Reg.lsupAcCtrl 31 16
  let due : Bool := match (Lsup.ch s c).lastTest with | some t => decide (t + gap * secU ≤ s.clk.mono) | none => true
  if s.unitOn Lsup.page ∧ s.efB Reg.lsupAcCtrl 1 ∧ Lsup.acOk s c ∧ (Lsup.ch s c).ac = 0 ∧ due ∧ Lsup.silentFor s c (2 * secU) ∧ !s.isStandby then
    Lsup.acBegin s c 1
  else s

/-- AC_TEST_FIRST_START. -/
def Lsup.firstStart (s : State) (c : Nat) : State :=
  let x := Lsup.ch s c
  if s.unitOn Lsup.page ∧ s.efB Reg.lsupAcCtrl 0 ∧ Lsup.acOk s c ∧ x.ac = 0 ∧ !x.startTest ∧ (Pstg.ch s c).started ∧
      (Pstg.ch s c).ramp.at s.clk.frame = one30 ∧
      Lsup.silentFor s c 0 ∧ !s.isStandby then
    Lsup.acBegin (Lsup.setCh s c { x with startTest := true }) c 1
  else s

/-- AC_POINT_END: the sums of the point's last 20 ms (R325). -/
def Lsup.acPoint (s : State) (c : Nat) (z : Sums) : State :=
  let x := Lsup.ch s c
  if x.ac = 0 ∨ 32 ≤ x.points.length ∨ (Pstg.ch s c).state ≠ 2 then s
  else Lsup.setCh s c { x with points := x.points ++ [Lsup.value s c (Lsup.pointM s.clk.rate) z] }

/-- The verdict of a complete test from its points (R328): 1 HF_PRESENT, 2 HF_ABSENT, 3 HF_CHANGED, 4 no baseline. A point
without a reading takes no part. [DEDUCED, unsafe: log entry 73] -/
def Lsup.acResult (s : State) (c : Nat) (pts : List (Option (Nat × Int))) : Nat :=
  if !Lsup.acBaseValid s c then 4
  else
    let kx := s.efF (Reg.lsupChAc c) 4 0
    let ta := s.efF (Reg.lsupChAc c) 31 24
    let tc := s.efF (Reg.lsupChAc c) 23 16
    let band := ((rangeFrom kx (32 - kx)).filterMap (fun k => (nth none pts k).map (fun p => (k, p)))).filter
      (fun q => (Lsup.acBase s c q.1).1 != 0)
    -- Σ r_k as a fraction
    let sum := band.foldl (fun (a : Nat × Nat) q =>
      let b := (Lsup.acBase s c q.1).1
      (a.1 * b + q.2.1 * a.2, a.2 * b)) (0, 1)
    if band.length * (100 + ta) * sum.2 ≤ 100 * sum.1 ∧ band ≠ [] then 2
    else if band.any (fun q =>
        let b := Lsup.acBase s c q.1
        decide (b.1 * (100 + tc) < 100 * q.2.1 ∨ 100 * q.2.1 < b.1 * (100 - tc)) || Lsup.phaseOff q.2.2 b.2 (Lsup.tolPh s c)) then 3
    else 1

/-- AC_TEST_END, after 32 points (R325, R328). -/
def Lsup.acEnd (s : State) (c : Nat) : State :=
  let x := Lsup.ch s c
  if x.ac = 0 ∨ x.points.length < 32 then s
  else
    let v := Lsup.acResult s c x.points
    let curve := x.points.map (fun p => p.getD (0, 0))
    let s1 := Lsup.setCh s c { x with ac := 0, points := [], acVerdict := v, curve := curve, lastTest := some s.clk.mono }
    let s2 := if x.ac = 3 then
        (curve.zipIdx.foldl (fun s q =>
          (s.st32 (Lsup.chWin c + 0x10 + 8 * q.2) (w32 q.1.1)).st32 (Lsup.chWin c + 0x14 + 8 * q.2) (w32 (unsigned 16 q.1.2))) s1).st32
          (Lsup.chWin c + 8) 1
      else s1
    let s3 := s2.irq Lsup.page 3
    let s4 := if v = 2 ∨ v = 3 then s3.irq Lsup.page 4 else s3
    if 2 ≤ x.ac then Lsup.opEnd s4 false else s4

/-- AC_TEST_ABORT: a test that did not start from a command ends on input, a state change or loss of lock; every test ends when
a protection stops the channel, and none runs on a channel that has left Running (R327, R333). -/
def Lsup.acAbort (s : State) (c : Nat) : State :=
  let x := Lsup.ch s c
  let p := Pstg.ch s c
  let cond := decide (p.state ≠ 2) || (x.ac == 1 && (!p.locked || p.silentSince.isNone))
  if x.ac = 0 ∨ !cond then s
  else
    let s1 := Lsup.setCh s c { x with ac := 0, points := [], acVerdict := 5 }
    let s2 := ((s1.count Reg.lsupAbortCount 1).irq Lsup.page 3).faultD Lsup.page 0x81 c
    if 2 ≤ x.ac then Lsup.opEnd s2 true else s2

/-! ### Checks, reset, window, registers -/

def Lsup.check1 (v : Variant) (f : Nat → Word) : Option Nat :=
  let badG := (List.range 8).any (fun g =>
    let b := fld (f (0x60 + 4 * g)) 23 0
    decide (b % 64000 ≠ 0 ∨ b < 24000 * 256 ∨ 38250 * 256 < b))
  let badC := (List.range v.psChannels).any (fun c =>
    let a := fld (f (0x100 + 4 * c)) 7 0
    let t := f (0x300 + 4 * c)
    let k := f (0x600 + 4 * c)
    decide (a < 30 ∨ 60 < a ∨ fld t 15 8 < 1 ∨ 90 < fld t 15 8 ∨ fld t 7 0 < 1 ∨ 100 < fld t 7 0 ∨ fld k 31 24 = 0 ∨ fld k 23 16 = 0))
  if badG ∨ badC then some 0x01 else none

/-- A commit that sets ac_en where the test is absent is accepted, with code 0x02 (R324, R7). -/
def Lsup.commit (s : State) (old new : Nat → Word) : State :=
  if !s.variant.hasAcTest ∧ (List.range s.variant.psChannels).any (fun c =>
      bit (new (0x100 + 4 * c)) 29 && !bit (old (0x100 + 4 * c)) 29) then s.fault' Lsup.page 0x02 else s

def Lsup.softReset (s : State) : State :=
  ({ s with lsup := {} }).clearMem Lsup.win (Lsup.win + 0x10000)

/-- A word written to the window (R336). -/
def Lsup.winWrite (s : State) (o : Nat) (w : Word) : State :=
  let c := o / 0x400
  let r := o % 0x400
  if 64 ≤ c ∨ s.variant.psChannels ≤ c then s
  else if 0x110 ≤ r ∨ s.lsup.busy = some c then s.discard
  else
    let w' := if r = 4 then w &&& 0x1FFFF else if r = 8 then w &&& 1 else if r = 12 then 0
      else if 0x10 ≤ r ∧ r % 8 = 4 then w &&& 0xFFFF else w
    s.st32 (Lsup.win + o) w'

def Lsup.winRead (s : State) (o : Nat) : Word :=
  let c := o / 0x400
  let r := o % 0x400
  let x := Lsup.ch s c
  if s.variant.psChannels ≤ c then 0
  else if r < 0x110 then s.ld32 (Lsup.win + o)
  else if r < 0x210 then
    let p := nth (0, 0) x.curve ((r - 0x110) / 8)
    if r % 8 = 0 then w32 p.1 else w32 (unsigned 16 p.2)
  else match r with
    | 0x210 => w32 x.mag
    | 0x214 => w32 (unsigned 16 x.phase + at_ 16 x.reading)
    | 0x218 => w32 x.absV
    | 0x21C => w32 x.absI
    | _ => 0

/-- Registers that read live state. -/
def Lsup.read (s : State) (o : Nat) : Option Word :=
  if o = 0x4C then some (w32 (b2n s.lsup.busy.isSome + at_ 1 (b2n s.lsup.failed)))
  else if 0x80 ≤ o ∧ o < 0xC0 then
    some (w32 ((List.range 32).foldl (fun n i => n + at_ i (b2n (s.scene.lsupUnavail.contains (32 * ((o - 0x80) / 4) + i)))) 0))
  else if 0x400 ≤ o ∧ o < 0x500 then
    let c := (o - 0x400) / 4
    let x := Lsup.ch s c
    some (if s.variant.psChannels ≤ c then 0 else
      w32 (x.reading + at_ 4 x.confirmed + at_ 8 (Lsup.runLen x) + at_ 12 (b2n (Lsup.asserts s c)) + at_ 13 (b2n (Lsup.baseValid s c)) +
        at_ 14 (b2n (Lsup.acBaseValid s c)) + at_ 16 x.acVerdict + at_ 19 (b2n (x.ac != 0)) + at_ 20 (b2n (s.lsup.busy == some c))))
  else if 0x500 ≤ o ∧ o < 0x600 then
    let x := Lsup.ch s ((o - 0x500) / 4)
    some (w32 (at_ 16 (min 65535 ((x.mag + 128) / 256)) + unsigned 16 x.phase))
  else none

end Sys2Proof.Machine
end

