-- ==== Sys2Proof/Machine/Meter.lean ====
section
/-!
DEFINITION. METER: meter points and loudness meters (R429 to R434, R437, R438).
-/
namespace Sys2Proof.Machine

def Meter.page : Nat := 0x49

def Meter.pt (s : State) (q : Nat) : Meter := Tab.get (fun _ => {}) s.meter.points q
def Meter.setPt (s : State) (q : Nat) (x : Meter) : State :=
  { s with meter := { s.meter with points := Tab.set (fun _ => {}) s.meter.points q x } }
def Meter.loud (s : State) (k : Nat) : Loud := Tab.get (fun _ => {}) s.meter.loud k
def Meter.setLoud (s : State) (k : Nat) (x : Loud) : State :=
  { s with meter := { s.meter with loud := Tab.set (fun _ => {}) s.meter.loud k x } }

/-- Tier 3 is admitted (R432). -/
def State.tier3 (s : State) : Bool := decide (3 ≤ s.budget.admitted)

/-- The 4× interpolator of BS.1770-4 Annex 2: twelve taps by phase, in units of 2^-13. [PRESUMED, unsafe: log entry 98] -/
def tpTaps : List (List Int) :=
  [[14, 90, -161, 272, -487, 1125, 7964, -838, 390, -218, 122, -68],
   [-239, 240, -424, 730, -1364, 3810, 6388, -1641, 832, -477, 271, -155],
   [-155, 271, -477, 832, -1641, 6388, 3810, -1364, 730, -424, 240, -239],
   [-68, 122, -218, 390, -838, 7964, 1125, -487, 272, -161, 90, 14]]

/-- Largest magnitude of the four interpolated points, in Q2.30; `h` holds the samples, newest first. [PRESUMED, unsafe: log entry 98] -/
def truePeak (h : List Int) : Nat :=
  tpTaps.foldl (fun m taps =>
    max m (rnd 14 (taps.zipIdx.foldl (fun a e => a + e.1 * ago h e.2) 0)).natAbs) 0

/-- win_ms, hold_ms, decay and hold_tp of a configuration entry (R438). [DESIGN CHOICE, unsafe: log entry 97] -/
def Meter.winMs (x : Meter) : Nat := fld x.cfg0 13 0
def Meter.holdMs (x : Meter) : Nat := fld x.cfg0 29 16
def Meter.decay (x : Meter) : Nat := fld x.cfg1 9 0
def Meter.holdTp (x : Meter) : Bool := bit x.cfg1 16

/-- The held value's update (R430); the held value keeps 32 bits below its format. [DESIGN CHOICE, unsafe: log entry 97] -/
def Meter.holdStep (x : Meter) (p' code : Nat) : Meter :=
  let p := p' * 2 ^ 32
  if x.held ≤ p then { x with held := p, hold := x.holdMs * rateHz code / 1000 }
  else if 0 < x.hold then { x with hold := x.hold - 1 }
  else { x with held := max p (if x.decay = 0 then x.held else (fxMul x.held (fxPow10 (-(x.decay : Int)) (200 * rateHz code))).toNat) }

/-- One meter point takes sample `v` (R429, R430, R432); true where its clip count rises.
[DESIGN CHOICE, unsafe: log entry 97; PRESUMED, unsafe: log entry 98] -/
def Meter.take (s : State) (x : Meter) (v : Int) : Meter × Bool :=
  let a := v.natAbs
  let clip := v == 0x7FFFFFFF || v == -0x80000000
  let hist := if s.tier3 then pushHist 12 v x.hist else []
  let tp := if s.tier3 then truePeak hist else 0
  let y : Meter := { x with
    peak := max x.peak a, tp := max x.tp tp, clips := satU 32 (x.clips + b2n clip), hist := hist
    win := if x.win = [] ∧ fld x.cfg0 13 0 = 0 then [] else (v :: x.win).take (s.ms (fld x.cfg0 13 0)) }
  (if y.holdTp then (if s.tier3 then y.holdStep tp s.clk.rate else y) else y.holdStep a s.clk.rate, clip)

/-! ### Loudness (R433, R434) -/

/-- K-weighting by rate code (R433): b0, b1, b2, a1, a2 of the shelf and a1, a2 of the high-pass, whose b are 1, −2, 1, with 60
fractional bits. At 48 kHz they are those of BS.1770-4; else the bilinear transform of the same prototypes.
[PRESUMED, unsafe: log entry 99] -/
def kWeights (code : Nat) : List Int :=
  nth [] [[],
    [1764939774263843424, -3056371844696442894, 1347856411827584327, -1918063756322005363, 821566593110143244,
     -2293356493039574722, 1140468840695235456],
    [1769878462874384150, -3103314420634920190, 1381652842598496398, -1949197456073412563, 844492836304525945,
     -2294368505866218572, 1141475588561697735],
    [1795692970261592865, -3349959944815081142, 1569511217579686345, -2110907027336281984, 973229765755633076,
     -2299591310167997186, 1146678291556540965],
    [1798228075627483830, -3374303303992656444, 1589026979115195638, -2126689925437742682, 986720171580918729,
     -2300098629381076624, 1147184289393022062],
    [1811372636041793741, -3500897456518021395, 1693493668969521297, -2208224357780766120, 1059271701667212788,
     -2302715043732442517, 1149795663501358783],
    [1812654566406870402, -3513278160769287468, 1703984942208010405, -2216148287870623174, 1066588131109369537,
     -2302969032820544421, 1150049321600172029]] code

/-- One sample (Q1.31) through both stages: the output with 47 fractional bits, and the four states.
[DESIGN CHOICE, unsafe: log entry 99] -/
def kStep (code : Nat) (st : List Int) (v : Int) : Int × List Int :=
  let c := fun (i : Nat) => nth 0 (kWeights code) i
  let x := v * 65536
  let y := rnd 60 (c 0 * x + nth 0 st 0)
  let z := rnd 60 (2 ^ 60 * y + nth 0 st 2)
  (z, [c 1 * x - c 3 * y + nth 0 st 1, c 2 * x - c 4 * y, -(2 ^ 61) * y - c 5 * z + nth 0 st 3, 2 ^ 60 * y - c 6 * z])

/-- The channel map of meter `k`: points with weights in 1/100; a code of 3 is read as excluded (R438). -/
def Meter.readMap (s : State) (k : Nat) : List (Nat × Nat) :=
  (List.range 24).filterMap (fun e =>
    let w := s.ld32 (winBase Meter.page + 0xC0000 + 96 * k + 4 * e)
    match fld w 17 16 with
    | 1 => some (fld w 9 0, 100)
    | 2 => some (fld w 9 0, 141)
    | _ => none)

/-- Loudness meter `k` takes frame `n`: a map acts from the start of a block, blocks start every Fr/10 frames, and none is updated
while tier 3 is not admitted (R432 to R434, R438). [DESIGN CHOICE, unsafe: log entry 99] -/
def Meter.loudFrame (s : State) (k : Nat) (x : Loud) (n : Nat) : Loud :=
  let h := rateHz s.clk.rate / 10
  let x1 := if (n - x.start) % h = 0 then { x with map := Meter.readMap s k } else x
  let out := fun (q : Nat) => kStep s.clk.rate (Tab.get (fun _ => []) x1.filt q) (Route.value s (0xE00 + q) n)
  let ys := if s.tier3 then (x1.map.map (·.1)).dedup.map (fun q => (q, out q)) else []
  let e := x1.map.foldl (fun a p => match ys.find? (fun y => y.1 == p.1) with | some y => a + p.2 * (y.2.1 * y.2.1) | none => a) 0
  let x2 := { x1 with
    acc := x1.acc + e, filt := ys.foldl (fun t y => Tab.set (fun _ => []) t y.1 y.2.2) x1.filt, gap := if s.tier3 then x1.gap else some n }
  if (n + 1 - x.start) % h ≠ 0 then x2
  else
    let segs := (x2.acc :: x2.segs).take 30
    let b := (n + 1 - x.start) / h
    let good : Bool := match x2.gap with | some g => decide (g + 4 * h ≤ n) | none => true
    { x2 with
      acc := 0, segs := segs
      ready := if 4 ≤ b then x2.ready ++ [((segs.take 4).foldl (· + ·) 0, segs.foldl (· + ·) 0, good)] else x2.ready }

/-- The loudness of a weighted sum of squares over `n` frames in 1/128 dB, or −32,768 for zero (R433, R434). -/
def loudness (e : Int) (n : Nat) : Int :=
  if e ≤ 0 ∨ n = 0 then -32768
  else max (-32767) (min 32767 (fxTo 0 (fxLevel e.toNat (100 * 2 ^ 94 * n) - fxRat 88448 1000)))

/-- The integrated loudness of blocks of `n` frames: the blocks above −70 LKFS, and of these the ones above their mean less 10 LU
(R434). -/
def integrated (blocks : List Int) (n : Nat) : Int :=
  let floor_ := fxMul (100 * 2 ^ 94 * n : Nat) (fxPow10 (-69309) 10000)
  let a := blocks.filter (fun e => decide (floor_ < e))
  let sum : Int := a.foldl (· + ·) (0 : Int)
  let b := a.filter (fun e => decide (sum < 10 * e * (a.length : Int)))
  loudness (b.foldl (· + ·) (0 : Int)) (n * b.length)

/-- The end of step 6 in frame `n` (R30, R429). [DESIGN CHOICE, unsafe: log entry 97] -/
def Meter.run (s : State) (n : Nat) : State :=
  if !s.unitOn Meter.page then s
  else
    let s0 : State :=
      if !s.tier3 ∧ !s.meter.stale then ({ s with meter := { s.meter with stale := true } }).irq Meter.page 1
      else if s.tier3 ∧ s.meter.stale then { s with meter := { s.meter with stale := false } }
      else s
    let qs := ((Tab.keys s0.meter.points) ++ ((Tab.keys s0.route.sinks).filter (fun k => 0xE00 ≤ k ∧ k < 0x1200)).map (· - 0xE00)).dedup
    let s1 := qs.foldl (fun s q =>
      let (x, clip) := Meter.take s (Meter.pt s q) (Route.value s (0xE00 + q) n)
      let s' := Meter.setPt s q x
      if clip then s'.irq Meter.page 0 else s') s0
    (Tab.keys s1.meter.loud).foldl (fun s k =>
      let x := Meter.loud s k
      if !x.running then s
      else
        Meter.setLoud s k (Meter.loudFrame s k x n)) s1

/-! ### Posts (R431, R434) -/

/-- A post takes effect at tick `n`: 0 clear `c` meters from `b`, 1 configuration word `c` at offset `b`, 2 loudness command `c`
of meter `b`. -/
def Meter.applyPost (s : State) (kind b c n : Nat) : State :=
  if kind = 0 then
    ((List.range c).map (b + ·)).foldl (fun s q =>
      if q < 1024 then Meter.setPt s q { (Meter.pt s q) with peak := 0, tp := 0, held := 0, hold := 0, clips := 0 } else s) s
  else if kind = 1 then
    let q := b / 16
    let x := Meter.pt s q
    if b % 16 = 0 then
      Meter.setPt s q { x with cfg0 := w32 c, win := if fld (w32 c) 13 0 = fld x.cfg0 13 0 then x.win else [] }
    else if b % 16 = 4 then Meter.setPt s q { x with cfg1 := w32 c } else s
  else
    let mute := w32 0x80008000
    let clear (s : State) := ((s.wr (Reg.meterLoudMs b) mute).wr (Reg.meterLoudI b) (w32 0x8000)).wr (Reg.meterLoudStatus b) 0
    match c with
    | 1 => Meter.setLoud (clear s) b { running := true, start := n }
    | 2 => Meter.setLoud s b { (Meter.loud s b) with running := false }
    | 3 => Meter.setLoud (clear s) b { running := (Meter.loud s b).running, start := n }
    | _ => s

def Meter.enqueue (s : State) (kind b c : Nat) : State :=
  if s.rateOn then { s with meter := { s.meter with posts := s.meter.posts ++ [{ ready := s.postReady, a := kind, b := b, c := c }] } }
  else Meter.applyPost s kind b c s.clk.frame

/-- A write to METER_CLEAR. -/
def Meter.clearPost (s : State) (w : Word) : State :=
  if !s.pageUp Meter.page then s.discard else Meter.enqueue s 0 (fld w 9 0) (fld w 20 10)

/-- A write to METER_LOUDk CTRL. -/
def Meter.loudPost (s : State) (k : Nat) (w : Word) : State :=
  if !s.pageUp Meter.page then s.discard else if fld w 1 0 = 0 then s else Meter.enqueue s 2 k (fld w 1 0)

def Meter.tickPosts (s : State) (n : Nat) : State :=
  let due := s.meter.posts.filter (fun p => p.ready ≤ s.clk.mono)
  let s1 := { s with meter := { s.meter with posts := s.meter.posts.filter (fun p => !(p.ready ≤ s.clk.mono)) } }
  due.foldl (fun s p => Meter.applyPost s p.a p.b p.c n) s1

/-- LOUDNESS_BLOCK of meter `k`: a block of 400 ms has ended, and the values are reported, unless tier 3 is not admitted
(R432, R434). [DESIGN CHOICE, unsafe: log entry 99] -/
def Meter.block (s : State) (k : Nat) : State :=
  let x := Meter.loud s k
  let h := rateHz s.clk.rate / 10
  match x.ready with
  | [] => s
  | (e4, e30, good) :: rest =>
    let y := { x with ready := rest, ends := x.ends + 1, blocks := if good then x.blocks ++ [e4] else x.blocks }
    let s1 := Meter.setLoud s k y
    if !s.tier3 then s1
    else
      let cnt := satU 24 (s.rdF (Reg.meterLoudStatus k) 31 8 + 1)
      let ms := unsigned 16 (loudness e30 (30 * h)) * 65536 + unsigned 16 (loudness e4 (4 * h))
      ((s1.wr (Reg.meterLoudStatus k) (w32 (cnt * 256))).wr (Reg.meterLoudMs k) (w32 ms)).wr (Reg.meterLoudI k)
        (w32 (unsigned 16 (integrated y.blocks (4 * h))))

/-- METER_LOUDk STATUS. -/
def Meter.loudStatus (s : State) (k : Nat) : Word :=
  w32 (s.rdF (Reg.meterLoudStatus k) 31 8 * 256 + b2n (s.meter.stale && (Meter.loud s k).running) * 2 + b2n (Meter.loud s k).running)

/-! ### Window, resets and rate changes -/

/-- RMS of a window in 1/128 dB, or −32,768 (R429, R447). -/
def rmsOf (win : List Int) : Nat :=
  let q := win.foldl (fun a x => a + x.natAbs * x.natAbs) 0
  if q = 0 then 0x8000 else unsigned 16 (rmsLevel q win.length)

def Meter.winWrite (s : State) (o : Nat) (w : Word) : State :=
  if o < 0x4000 then
    let m : Word := if o % 16 = 0 then w &&& 0x3FFF3FFF else if o % 16 = 4 then w &&& 0x000103FF else 0
    Meter.enqueue (s.st32 (winBase Meter.page + o) m) 1 o m.toNat
  else if 0xC0000 ≤ o ∧ o < 0xC0600 then s.st32 (winBase Meter.page + o) (w &&& 0x000303FF)
  else if 0x40000 ≤ o ∧ o < 0x48000 then s.discard
  else s

def Meter.winRead (s : State) (o : Nat) : Word :=
  if 0x40000 ≤ o ∧ o < 0x48000 then
    let x := Meter.pt s ((o - 0x40000) / 32)
    match (o % 32) / 4 with
    | 0 => w32 x.peak
    | 1 => w32 x.tp
    | 2 => w32 (satU 32 ((x.held + 2 ^ 31) / 2 ^ 32))
    | 3 => w32 (if fld x.cfg0 13 0 = 0 then 0x8000 else rmsOf x.win)
    | 4 => w32 x.clips
    | 5 => w32 (b2n s.meter.stale)
    | _ => 0
  else s.ld32 (winBase Meter.page + o)

def Meter.softReset (s : State) : State :=
  { s with meter := {} }.clearMem (winBase Meter.page) (winBase Meter.page + 0x100000)

/-- Second S: windows measured in frames of the old rate start over, and running loudness meters start again. -/
def Meter.rateChange (s : State) (n : Nat) : State :=
  let s1 := (Tab.keys s.meter.points).foldl (fun s q => Meter.setPt s q { (Meter.pt s q) with win := [], hist := [] }) s
  (Tab.keys s1.meter.loud).foldl (fun s k =>
    let x := Meter.loud s k
    Meter.setLoud s k { running := x.running, start := n }) s1

end Sys2Proof.Machine
end

