-- ==== Sys2Proof/Machine/Capt.lean ====
section
/-!
DEFINITION. Capture chains: Audio taps, correction FIR, detectors (R439 to R449, R461, R462).
-/
namespace Sys2Proof.Machine

def Capt.page : Nat := 0x55

def Capt.ch (s : State) (c : Nat) : Chain := Tab.get (fun _ => {}) s.capt.chains c
def Capt.setCh (s : State) (c : Nat) (x : Chain) : State :=
  { s with capt := { s.capt with chains := Tab.set (fun _ => {}) s.capt.chains c x } }

/-- PDM line of a microphone chain, and the line's mode in force (R442). -/
def Capt.line (c : Nat) : Nat := (c - 128) / 2
def Capt.mode (s : State) (l : Nat) : Nat := Tab.get (fun _ => 0) s.capt.mode l

/-- The chain exists, and its input is converted: its channel is present and PSTG is powered, or its line's clock runs. -/
def Capt.alive (s : State) (c : Nat) : Bool :=
  if c < 128 then decide (c % 64 < s.variant.psChannels) && s.domainOn 4
  else decide (c < 144) && Capt.mode s (Capt.line c) != 0

/-- G_c in ns (R443): rows by rate code, columns sense, 64× and 128×, each linear then minimum-phase. -/
def captDelayTable : List (List Nat) :=
  [[455692, 70204, 457869, 72381, 456236, 70748],
   [418667, 64500, 420667, 66500, 419167, 65000],
   [206259, 36191, 208436, 38368, 206803, 36735],
   [189500, 33250, 191500, 35250, 190000, 33750],
   [92880, 19184, 95057, 21361, 93424, 19728],
   [85333, 17625, 87333, 19625, 85833, 18125]]

/-- G_c of a chain at the settings in force; zero while no render rate is. [DEDUCED, unsafe: log entry 104] -/
def Capt.groupDelay (s : State) (c : Nat) : Nat :=
  if !s.rateOn ∨ 144 ≤ c then 0
  else
    let col := if c < 128 then 0 else if Capt.mode s (Capt.line c) = 2 then 4 else if Capt.mode s (Capt.line c) = 1 then 2 else 6
    nth 0 (nth [] captDelayTable (s.clk.rate - 1)) (col + b2n (Capt.ch s c).minPhase)

/-- 2 × G_c in frames, rounded up (R444). [DESIGN CHOICE, unsafe: log entry 103] -/
def Capt.silentFrames (s : State) (c : Nat) : Nat := cdiv (2 * Capt.groupDelay s c * rateHz s.clk.rate) 1000000000

def Capt.xfade (s : State) : Nat := s.ms (s.efF Reg.captXfadeMs 9 0)
def Capt.blending (s : State) (c n : Nat) : Bool :=
  match (Capt.ch s c).blend with | some (_, r) => decide (n < r.h) | none => false

/-- A new response and PDM mode of chain `c` act: the line's clock follows its mode, and the history is cleared (step 2 of R444). -/
def Capt.renew (s : State) (c : Nat) : State :=
  let l := Capt.line c
  let s0 : State := if c < 128 then s else
    { s with capt := { s.capt with mode := Tab.set (fun _ => 0) s.capt.mode l (s.efF Reg.captMicCfg (2 * l + 1) (2 * l)) } }
  Capt.setCh s0 c { (Capt.ch s c) with hist := [], minPhase := s.efB (Reg.captResp (c / 32)) (c % 32) }

/-- Commit hook at frame `n`: chains whose response, PDM mode or bank changes (R444, R446); without a render rate at once (R601). -/
def Capt.commit (s : State) (old new : Nat → Word) (n : Nat) : State :=
  let r := Capt.xfade s
  (List.range 144).foldl (fun s c =>
    let g (f : Nat → Word) (base : Nat) := bit (f (base + 4 * (c / 32))) (c % 32)
    let m (f : Nat → Word) := if c < 128 then 0 else fld (f 0x40) (2 * Capt.line c + 1) (2 * Capt.line c)
    let x := Capt.ch s c
    let change : Bool := g old 0x44 != g new 0x44 || m old != m new
    let x1 := if change ∧ s.rateOn then { x with step := 1, fade := x.fade.aim n (n + r) 0 } else x
    let x2 := if g old 0x58 ≠ g new 0x58 then
        { x1 with bank := b2n (g new 0x58)
                  blend := if r = 0 ∨ !s.rateOn then none else some (x.bank, { v0 := 0, v1 := one30, s := n, h := n + r }) }
      else x1
    let s1 := Capt.setCh s c x2
    if change ∧ !s.rateOn then Capt.renew s1 c else s1) s

/-- The steps of R444 that fall due at tick `n`. -/
def Capt.advance (s : State) (c n : Nat) : State :=
  let x := Capt.ch s c
  let s1 :=
    if x.step = 1 ∧ x.fade.h ≤ n then
      let s' := Capt.renew s c
      Capt.setCh s' c { (Capt.ch s' c) with step := 2, silentTo := n + Capt.silentFrames s' c }
    else s
  let y := Capt.ch s1 c
  let s2 := if y.step = 2 ∧ y.silentTo ≤ n then
      Capt.setCh s1 c { y with step := 3, fade := { v0 := 0, v1 := one30, s := n, h := n + Capt.xfade s } } else s1
  let z := Capt.ch s2 c
  if z.step = 3 ∧ z.fade.h ≤ n then Capt.setCh s2 c { z with step := 0, fade := Ramp.const one30 } else s2

/-- Length and taps of a bank (R445, R462). -/
def Capt.firLen (s : State) (b c : Nat) : Nat := min 256 (fld (s.ld32 (winBase Capt.page + 0x80000 + 0x400 * b + 4 * c)) 8 0)
def Capt.firTap (s : State) (b c t : Nat) : Int := s.ldS32 (winBase Capt.page + 0x40000 * b + 1024 * c + 4 * t)

/-- The correction FIR's exact sum rounded to Q1.31, and whether it saturates (R445). [DEDUCED, unsafe: log entry 104] -/
def Capt.fir (s : State) (b c : Nat) (h : List Int) : Int × Bool :=
  let l := Capt.firLen s b c
  if l = 0 then (ago h 0, false)
  else
    let r := rnd 28 ((List.range l).foldl (fun a t => a + Capt.firTap s b c t * ago h t) 0)
    (satS 32 r, satClips 32 r)

/-- How an envelope (63 fractional bits) compares with the linear value of an encoded gain, 10^(enc/2560): by their 2560th
powers. -/
def levelCmp (enc : Int) (e : Nat) : Ordering :=
  compare (e ^ 2560 * 10 ^ (-enc).toNat) (2 ^ (63 * 2560) * 10 ^ enc.toNat)

/-- The detectors take |x| of the chain (R447); the flag tells of a change of the above bit. A threshold that encodes mute is zero.
[DESIGN CHOICE, unsafe: log entry 103] -/
def Capt.detect (x : Chain) (v : Int) (code : Nat) : Chain × Bool :=
  let a : Int := (v.natAbs : Int) * 2 ^ 32
  let tau := if x.env < a then fld x.cfg1 15 0 else fld x.cfg1 31 16 * 10
  let e := if tau = 0 then a else x.env + fxMul (a - x.env) ((fxOne : Int) - fxExp (fxRat (-10000) (tau * rateHz code)))
  let thr := signed 16 (fld x.cfg2 15 0)
  let hyst : Int := 16 * fld x.cfg2 23 16
  let ab := if x.above then !(decide (thr ≠ -32768) && levelCmp (thr - hyst) e.toNat == .lt)
    else if thr = -32768 then decide (0 < e) else levelCmp thr e.toNat == .gt
  let n := msFrames (fld x.cfg0 13 0) code
  ({ x with peak := max x.peak v.natAbs, env := e, above := ab, win := if n = 0 then [] else (v :: x.win).take n }, ab != x.above)

/-- Chains that CAPT_HOOP_SEL names (R448). -/
def Capt.named (s : State) : List Nat :=
  ((List.range 16).map (fun k => s.efF (Reg.captHoopSel (k / 4)) (8 * (k % 4) + 7) (8 * (k % 4)))).filter (· < 144)

/-- Every Audio tap produces its sample at tick `n`: `raw` gives the half-band stages' outputs by chain (R440, R445 to R448).
[DEDUCED, unsafe: log entry 104] -/
def Capt.latch (s : State) (raw : List (Nat × Int)) (n : Nat) : State :=
  let cs := (Tab.keys s.capt.chains ++ raw.map (·.1)).dedup.filter (· < 144)
  cs.foldl (fun s c =>
    let s := Capt.advance s c n
    let x := Capt.ch s c
    let on := s.unitOn Capt.page && Capt.alive s c
    let r := if on then satS 32 (((raw.find? (fun p => p.1 = c)).map (·.2)).getD 0) else 0
    let h := pushHist 256 r x.hist
    let b := Capt.fir s x.bank c h
    let (y, k) := match x.blend with
      | some (old, w) =>
        let a := Capt.fir s old c h
        if w.h ≤ n then (b.1, b2n b.2) else (blend30 (w.at n) a.1 b.1, b2n a.2 + b2n b.2)
      | none => (b.1, b2n b.2)
    let own := if x.step = 2 ∨ !on then 0 else satS 32 (rnd 30 (y * x.fade.at n))
    let v := if s.isStandby then (if (Capt.named s).contains c then x.active.getD 0 else 0)
      else x.active.getD own
    let (z, cross) := Capt.detect { x with hist := h } (if s.isStandby ∧ !(Capt.named s).contains c then own else v) s.clk.rate
    let s1 := Capt.setCh s c { z with x := v, own := own, active := none }
    let s2 := if k = 0 then s1 else (s1.count Reg.captClipCount k).irq Capt.page 0
    if cross then s2.irq Capt.page 2 else s2) s

/-- CAPTURE_BLEND_END. [DEDUCED, unsafe: log entry 104] -/
def Capt.blendEnd (s : State) (c : Nat) : State :=
  let x := Capt.ch s c
  match x.blend with
  | some (_, r) => if r.h ≤ s.clk.frame then (Capt.setCh s c { x with blend := none }).irq Capt.page 3 else s
  | none => s

/-- SENSE_OVERLOAD of sense chain `c` (R441). [DESIGN CHOICE, unsafe: log entry 103] -/
def Capt.overload (s : State) (c : Nat) : State :=
  if 128 ≤ c ∨ !Capt.alive s c then s
  else (s.wr (Reg.captOvl (c / 32)) (setBit (s.rd (Reg.captOvl (c / 32))) (c % 32) true)).irq Capt.page 1

/-- The frequency in Hz of the clock at PDMl_CLK, or 0: driven while the line's mode is not 0 and the device holds its claim (R442). -/
def Capt.pdmClock (s : State) (l : Nat) : Nat :=
  let m := Capt.mode s l
  if m = 0 ∨ !s.hoop.claim then 0 else masterHz s.clk.rate / (if m = 2 then 16 else 32)

/-! ### Posts, window, resets -/

def Capt.applyPost (s : State) (kind b c : Nat) : State :=
  if kind = 0 then
    ((List.range c).map (b + ·)).foldl (fun s k => if k < 144 then Capt.setCh s k { (Capt.ch s k) with peak := 0 } else s) s
  else
    let k := b / 16
    let x := Capt.ch s k
    match b % 16 / 4 with
    | 0 => Capt.setCh s k { x with cfg0 := w32 c, win := if fld (w32 c) 13 0 = fld x.cfg0 13 0 then x.win else [] }
    | 1 => Capt.setCh s k { x with cfg1 := w32 c }
    | 2 => Capt.setCh s k { x with cfg2 := w32 c }
    | _ => s

def Capt.enqueue (s : State) (kind b c : Nat) : State :=
  if s.rateOn then { s with capt := { s.capt with posts := s.capt.posts ++ [{ ready := s.postReady, a := kind, b := b, c := c }] } }
  else Capt.applyPost s kind b c

/-- A write to CAPT_DET_CLEAR. -/
def Capt.clearPost (s : State) (w : Word) : State :=
  if !s.pageUp Capt.page then s.discard else Capt.enqueue s 0 (fld w 7 0) (fld w 23 16)

def Capt.tickPosts (s : State) : State :=
  let due := s.capt.posts.filter (fun p => p.ready ≤ s.clk.mono)
  let s1 := { s with capt := { s.capt with posts := s.capt.posts.filter (fun p => !(p.ready ≤ s.clk.mono)) } }
  due.foldl (fun s p => Capt.applyPost s p.a p.b p.c) s1

/-- A write to a bank's area of chain `c` is discarded while the bank is in force or blends (R446). -/
def Capt.bankBusy (s : State) (b c : Nat) : Bool := (Capt.ch s c).bank == b || Capt.blending s c s.clk.frame

def Capt.winWrite (s : State) (o : Nat) (w : Word) : State :=
  let a := winBase Capt.page + o
  if o % 0x40000 < 0x24000 ∧ o < 0x80000 then
    if Capt.bankBusy s (o / 0x40000) (o % 0x40000 / 1024) then s.fault' Capt.page 0x80 else s.st32 a w
  else if 0x80000 ≤ o ∧ o < 0x80800 ∧ o % 0x400 < 0x240 then
    if Capt.bankBusy s ((o - 0x80000) / 0x400) (o % 0x400 / 4) then s.fault' Capt.page 0x80
    else if 256 < fld w 8 0 then (s.st32 a 256).fault' Capt.page 0x80
    else s.st32 a (w &&& 0x1FF)
  else if 0x90000 ≤ o ∧ o < 0x90900 then
    let m : Word := if o % 16 = 0 then w &&& 0x3FFF else if o % 16 = 4 then w else if o % 16 = 8 then w &&& 0xFFFFFF else 0
    Capt.enqueue (s.st32 a m) 1 (o - 0x90000) m.toNat
  else if 0xA0000 ≤ o ∧ o < 0xA0900 then s.discard
  else s

def Capt.winRead (s : State) (o : Nat) : Word :=
  if 0xA0000 ≤ o ∧ o < 0xA0900 then
    let x := Capt.ch s ((o - 0xA0000) / 16)
    match o % 16 / 4 with
    | 0 => w32 x.peak
    | 1 => w32 (if fld x.cfg0 13 0 = 0 then 0x8000 else rmsOf x.win)
    | 2 => w32 (satU 32 ((x.env.toNat + 2 ^ 31) / 2 ^ 32))
    | _ => w32 (b2n x.above)
  else s.ld32 (winBase Capt.page + o)

def Capt.check1 (f : Nat → Word) : Option Nat :=
  if 1000 < fld (f 0x6C) 9 0 ∨ (List.range 8).any (fun l => fld (f 0x40) (2 * l + 1) (2 * l) == 3) ∨
     (List.range 16).any (fun k =>
      let b := fld (f (0x70 + 4 * (k / 4))) (8 * (k % 4) + 7) (8 * (k % 4))
      decide (144 ≤ b ∧ b ≤ 254)) then some 0x01 else none

def Capt.check2 (s : State) (old new : Nat → Word) : Option Nat :=
  if (List.range 144).any (fun c =>
      (bit (old (0x58 + 4 * (c / 32))) (c % 32) != bit (new (0x58 + 4 * (c / 32))) (c % 32)) && Capt.blending s c s.clk.frame)
  then some 0x81 else none

/-- The soft reset's effect on the taps at its tick (R449); the arrays clear at once. -/
def Capt.resetAll (s : State) : State := { s with capt := { posts := s.capt.posts } }

def Capt.softReset (s : State) : State :=
  let s1 := ({ s with capt := { s.capt with posts := [], resetDue := true } }).clearMem (winBase Capt.page) (winBase Capt.page + 0x100000)
  if s.rateOn then s1 else Capt.resetAll s1

def Capt.tickReset (s : State) : State := if s.capt.resetDue then Capt.resetAll s else s

/-- Second S (R449): zero history, and blends complete. -/
def Capt.rateChange (s : State) : State :=
  (Tab.keys s.capt.chains).foldl (fun s c =>
    let x := Capt.ch s c
    let s1 := Capt.setCh s c { x with hist := [], blend := none, win := [], x := 0, own := 0, fade := x.fade.finish, silentTo := 0 }
    if x.blend.isSome then s1.irq Capt.page 3 else s1) s

end Sys2Proof.Machine
end

