-- ==== Sys2Proof/Machine/Deconv.lean ====
section
/-!
DEFINITION. Mathematics of the measurement service: stimuli (R452), deconvolution (R456) and the results derived from a response
(R457), in fixed point with 120 fractional bits.
-/
namespace Sys2Proof.Machine

/-! ### Stimuli (R452) -/

/-- What a stimulus depends on: type, rate in Hz, level in 1/128 dB, duration of a sweep in ms, order, feedback taps, and the tones
as frequency in 1/256 Hz and relative gain in 1/128 dB. -/
structure StimArgs where
  kind : Nat
  hz : Nat
  level : Int
  sweepMs : Nat
  order : Nat
  poly : Nat
  tones : List (Nat × Int)
  deriving DecidableEq, Repr

/-- D × Fr frames of a sweep. -/
def StimArgs.sweepLen (a : StimArgs) : Nat := a.sweepMs * a.hz / 1000

/-- A: the peak of a sine that has the level (R14). -/
def StimArgs.amp (a : StimArgs) : Int := fxAmp a.level 2560

/-- The half-Hann weight at `i` of `n` frames: sin²(π i / 2n). -/
def hannRise (i n : Nat) : Int :=
  if n ≤ i then fxOne else let x := fxSinR ((fxPi * i).fdiv (2 * n)); fxMul x x

/-- Frame `k` of an exponential sweep from 10 Hz to Fr/2, its first and last 10 ms shaped. [DESIGN CHOICE, unsafe: log entry 101] -/
def StimArgs.ess (a : StimArgs) (k : Nat) : Int :=
  let len := a.sweepLen
  if len ≤ k then 0
  else
    let ln := fxLnRat a.hz 20
    let lam := fxDiv (fxRat a.sweepMs 1000) ln
    let arg := fxMul (fxMul (20 * fxPi) lam) (fxExp (fxDiv (fxRat k a.hz) lam) - fxOne)
    let n := a.hz / 100
    fxMul (fxMul (fxMul a.amp (hannRise k n)) (hannRise (len - 1 - k) n)) (fxSinR arg)

/-- The Fibonacci register of an order after `k` steps from all ones: the sum of the tapped bits enters at bit 0.
[DESIGN CHOICE, unsafe: log entry 101] -/
def mlsState (poly order : Nat) : Nat → Nat
  | 0 => 2 ^ order - 1
  | k + 1 =>
    let x := mlsState poly order k
    (2 * x + popcount 32 (x &&& poly) % 2) % 2 ^ order

/-- Frame `k` of a maximal-length sequence: ±A/√2 by the bit that leaves the register. [DESIGN CHOICE, unsafe: log entry 101] -/
def StimArgs.mls (a : StimArgs) (k : Nat) : Int :=
  let v := fxDiv a.amp (fxSqrt (2 * fxOne : Nat))
  if (mlsState a.poly a.order (k % (2 ^ a.order - 1))).testBit (a.order - 1) then v else -v

/-- Bin of a tone: round(f × 2^order / Fr). -/
def StimArgs.bin (a : StimArgs) (f : Nat) : Nat := (roundDiv (f * 2 ^ a.order : Nat) (256 * a.hz)).toNat

/-- Bin, relative gain and phase 2π t²/(2 × tones) of each tone; a gain that encodes mute is zero (R13). -/
def StimArgs.phasors (a : StimArgs) : List (Nat × Int × Int) :=
  a.tones.zipIdx.map (fun e =>
    (a.bin e.1.1, (if e.1.2 = -32768 then 0 else fxPow10 e.1.2 2560), (fxPi * (e.2 * e.2)).fdiv a.tones.length))

/-- Mean square of the sum of the tones, those of one bin added as phasors. -/
def StimArgs.power (a : StimArgs) : Int :=
  let n := 2 ^ a.order
  let ps := a.phasors
  (ps.map (·.1 % n)).dedup.foldl (fun t b =>
    let same := ps.filter (fun p => p.1 % n == b)
    let re := same.foldl (fun t p => t + fxMul p.2.1 (fxCosR p.2.2)) 0
    let im := same.foldl (fun t p => t + fxMul p.2.1 (fxSinR p.2.2)) 0
    t + (if b = 0 ∨ 2 * b = n then fxMul re re else (fxMul re re + fxMul im im) / 2)) 0

/-- Frame `k` of a multitone: the sum of the tones scaled to the level's RMS. [DESIGN CHOICE, unsafe: log entry 101] -/
def StimArgs.multi (a : StimArgs) (k : Nat) : Int :=
  let n := 2 ^ a.order
  let sum := a.phasors.foldl (fun t p => t + fxMul p.2.1 (fxCosR ((2 * fxPi * ((p.1 * k % n : Nat) : Int)).fdiv n + p.2.2))) 0
  fxDiv (fxMul sum (fxDiv a.amp (fxSqrt (2 * fxOne : Nat)))) (fxSqrt a.power)

/-- Frame `k` from the first stimulus frame of a run of period `p`, rounded once to Q1.31 (R452). -/
def StimArgs.sample (a : StimArgs) (p k : Nat) : Int :=
  satS 32 (fxTo 31 (match a.kind with
    | 1 => a.ess (k % p)
    | 2 => a.mls k
    | 3 => a.multi k
    | _ => 0))

/-! ### Deconvolution (R456) -/

/-- A complex number in fixed point. -/
abbrev Cx := Int × Int
def Cx.mulConj (a b : Cx) : Cx := (fxMul a.1 b.1 + fxMul a.2 b.2, fxMul a.2 b.1 - fxMul a.1 b.2)
def Cx.mag2 (a : Cx) : Int := fxMul a.1 a.1 + fxMul a.2 a.2

/-- Bin `b` of the `n`-point transform of Q1.31 samples. -/
def dft (l : List Int) (n b : Nat) : Cx :=
  l.zipIdx.foldl (fun (t : Cx) e =>
    let w := (2 * fxPi * ((b * e.2 % n : Nat) : Int)).fdiv n
    let v := fxRat e.1 (2 ^ 31)
    (t.1 + fxMul v (fxCosR w), t.2 - fxMul v (fxSinR w))) (0, 0)

/-- The response of a sweep: IFFT(FFT(a)·conj X/(|X|² + ε)) over `n` points, its first `len` samples. -/
def essResponse (a x : List Int) (n len : Nat) : List Int :=
  let xs := (List.range n).map (dft x n)
  let eps := xs.foldl (fun m c => max m c.mag2) 0 / 1000000
  let hs := xs.zipIdx.map (fun e =>
    let q := (dft a n e.2).mulConj e.1
    let d := e.1.mag2 + eps
    ((fxDiv q.1 d, fxDiv q.2 d) : Cx))
  (List.range len).map (fun j =>
    (hs.zipIdx.foldl (fun t e =>
      let w := (2 * fxPi * ((e.2 * j % n : Nat) : Int)).fdiv n
      t + fxMul e.1.1 (fxCosR w) - fxMul e.1.2 (fxSinR w)) 0) / (n : Int))

/-- The response of a sequence of period `p`: its circular cross-correlation with the average, scaled by 2/(A²·2^order). -/
def mlsResponse (s : StimArgs) (a x : List Int) (p len : Nat) : List Int :=
  (List.range len).map (fun j =>
    let c := x.zipIdx.foldl (fun t e => t + e.1 * nth 0 a ((e.2 + j) % p)) 0
    fxDiv (fxRat (2 * c) (2 ^ 62)) (fxMul s.amp s.amp * 2 ^ s.order))

/-- H_t of each tone: the quotient of the two transforms at its bin, real part and then imaginary part. -/
def toneResponse (s : StimArgs) (a x : List Int) : List Int :=
  let n := 2 ^ s.order
  s.tones.flatMap (fun t =>
    let xb := dft x n (s.bin t.1)
    let q := (dft a n (s.bin t.1)).mulConj xb
    [fxDiv q.1 xb.mag2, fxDiv q.2 xb.mag2])

/-- The response's values in fixed point. -/
def deconvolve (s : StimArgs) (a : List Int) (p len : Nat) : List Int :=
  let x := (List.range p).map (s.sample p)
  match s.kind with
  | 1 => essResponse a x (2 ^ (if p ≤ 1 then 0 else Nat.log2 (p - 1) + 1)) len
  | 2 => mlsResponse s a x p len
  | _ => toneResponse s a x

/-- The least exponent e of 0 to 31 for which every value lies below 2^e. [DESIGN CHOICE, unsafe: log entry 101] -/
def blockExp (h : List Int) : Nat :=
  let m := h.foldl (fun m v => max m v.natAbs) 0 / fxOne
  if m = 0 then 0 else min 31 (Nat.log2 m + 1)

/-- The mantissas stored: each value over 2^e in Q1.31, with the error of the service's arithmetic. [DESIGN CHOICE, safe: log entry 101] -/
def mantissas (kind : Nat) (a h : List Int) : List Int :=
  let e := blockExp h
  h.zipIdx.map (fun v => satS 32 (fxTo (31 - e) v.1 + Config.deconvError kind a v.2))

/-! ### Results (R457) -/

/-- Point `u` of the response upsampled by 8: position u/8, by phases 0, 32 … 224 of the interpolator of R117. -/
def upsampled (h : List Int) (u : Nat) : Int :=
  let t := (u + 7) / 8
  rnd 30 ((interpTaps (32 * (8 * t - u))).zipIdx.foldl (fun a e =>
    let i : Int := (t : Int) - ((e.2 : Int) - 3)
    if i < 0 then a else a + e.1 * nth 0 h i.toNat) 0)

/-- The crossing in frames: the first upsampled point at or before the largest |h| that reaches a quarter of it, interpolated linearly
from the point before. -/
def crossing (h : List Int) : Int :=
  let m := argMaxAbs h
  let q : Int := (nth 0 h m).natAbs / 4
  let v := fun (u : Nat) => ((upsampled h u).natAbs : Int)
  match (List.range (8 * m + 1)).find? (fun u => decide (q ≤ v u)) with
  | none | some 0 => 0
  | some u => (((u - 1 : Nat) : Int) * fxOne + fxDiv (q - v (u - 1)) (v u - v (u - 1))) / 8

/-- The samples from `i`, `n` of them. -/
def energy (h : List Int) (i n : Nat) : Nat := ((h.drop i).take n).foldl (fun a v => a + v.natAbs * v.natAbs) 0

/-- The sample of largest magnitude within 1 ms after the crossing is negative. -/
def negative (h : List Int) (ia : Int) (hz : Nat) : Bool :=
  let i := cdiv ia.toNat fxOne
  let j := (ia.toNat + hz * fxOne / 1000) / fxOne
  let w := (h.drop i).take (j + 1 - i)
  decide (nth 0 w (argMaxAbs w) < 0)

/-- The SNR in 1/128 dB: the 5 ms from the crossing against the last tenth; none where the latter is silent or empty. -/
def snrLevel (h : List Int) (ia : Int) (hz : Nat) : Option Int :=
  let i := cdiv ia.toNat fxOne
  let n := hz / 200
  let k := h.length / 10
  let noise := energy h (h.length - k) k
  let sig := energy h i n
  if noise = 0 ∨ n = 0 then none
  else if sig = 0 then some (-32768)
  else some (max (-32767) (min 32767 (fxTo 0 (fxLevel (sig * k) (noise * n)))))

end Sys2Proof.Machine
end

