-- ==== Sys2Proof/Machine/Meas.lean ====
section
/-!
DEFINITION. The measurement service (R450 to R460, R463, R464).
-/
namespace Sys2Proof.Machine

def Meas.page : Nat := 0x54
def Meas.jobAddr (j : Nat) : Nat := winBase Meas.page + 128 * j

/-- Bits of the job entry in force: `w` bits from bit `lo` of byte offset `o`. -/
def jobBits (e o lo w : Nat) : Nat := (e >>> (8 * o + lo)) % 2 ^ w

def Meas.kind (e : Nat) : Nat := jobBits e 0 0 2
def Meas.bypass (e : Nat) : Bool := jobBits e 0 2 1 == 1
def Meas.each (e : Nat) : Bool := jobBits e 0 3 1 == 1
def Meas.reps (e : Nat) : Nat := jobBits e 0 8 4
def Meas.order (e : Nat) : Nat := jobBits e 0 16 5
def Meas.mics (e : Nat) : List Nat := (List.range 16).filter (fun k => jobBits e 0xC k 1 == 1)
def Meas.outputs (e : Nat) : List Nat := (List.range 512).filter (fun j => jobBits e 0x10 j 1 == 1)
def Meas.toneCount (e : Nat) : Nat := jobBits e 0x50 0 9

/-- P of R454 at a rate code, and the frames of a run. -/
def Meas.period (e code : Nat) : Nat :=
  if Meas.kind e = 1 then (jobBits e 8 0 16 + jobBits e 8 16 16) * rateHz code / 1000
  else if Meas.kind e = 2 then 2 ^ Meas.order e - 1 else 2 ^ Meas.order e

def Meas.runLen (e code : Nat) : Nat := (Meas.reps e + (if Meas.kind e = 1 then 0 else 1)) * Meas.period e code

/-- R of R454. -/
def Meas.fadeLen (e code : Nat) : Nat := msFrames (jobBits e 4 16 16) code

/-- Samples of a response, and bytes it takes in storage (R456, R458). -/
def Meas.respLen (e code : Nat) : Nat := jobBits e 8 16 16 * rateHz code / 1000
def Meas.respBytes (e code : Nat) : Nat := if Meas.kind e = 3 then 8 * Meas.toneCount e else 4 * Meas.respLen e code

/-- Fields within their ranges and reserved bits zero (R450, R451). -/
def Meas.fieldsOk (e : Nat) : Bool :=
  let lvl := signed 16 (jobBits e 4 0 16)
  let fade := jobBits e 4 16 16; let sweep := jobBits e 8 0 16; let ir := jobBits e 8 16 16; let k := Meas.kind e
  decide (k ≠ 0 ∧ jobBits e 0 4 4 = 0 ∧ jobBits e 0 12 4 = 0 ∧ jobBits e 0 21 11 = 0 ∧ jobBits e 0xC 16 16 = 0 ∧
    jobBits e 0x50 9 23 = 0 ∧ jobBits e 0x54 0 352 = 0 ∧ (k = 1 ∨ (12 ≤ Meas.order e ∧ Meas.order e ≤ 20)) ∧
    -16384 ≤ lvl ∧ lvl ≤ -768 ∧ 1 ≤ fade ∧ fade ≤ 1000 ∧ (k ≠ 1 ∨ (500 ≤ sweep ∧ sweep ≤ 20000)) ∧ 50 ≤ ir ∧ ir ≤ 1000 ∧
    (k ≠ 3 ∨ (1 ≤ Meas.toneCount e ∧ Meas.toneCount e ≤ 256)))

def Meas.base (s : State) : Nat := s.ef64 Reg.measDramBaseLo Reg.measDramBaseHi
def Meas.workBytes (s : State) : Nat := s.efF Reg.measDramSize 31 16 * 0x100000
def Meas.totalBytes (s : State) : Nat := s.efF Reg.measDramSize 15 0 * 0x100000
def Meas.freeBytes (s : State) : Nat := Meas.totalBytes s - Meas.workBytes s - s.meas.used

/-- Runs of a job: one per output, or one on all together. -/
def Meas.runList (e : Nat) : List (List Nat) :=
  if Meas.each e then (Meas.outputs e).map (fun j => [j]) else [Meas.outputs e]

/-- The checks of R451 on job `j` for a start in frame `f`: the code of a refusal. `late` says that the frame lies too near.
[DEDUCED, unsafe: log entry 102] -/
def Meas.refusal (s : State) (e : Nat) (late : Bool) : Option Nat :=
  let code := s.clk.rate
  let p := Meas.period e code
  let need := (Meas.runList e).length * (Meas.mics e).length
  if s.meas.state ≠ 0 ∨ !Meas.fieldsOk e ∨ (Meas.outputs e).isEmpty ∨ (Meas.mics e).isEmpty ∨
     (Meas.outputs e).any (fun j => decide (s.outCap ≤ j)) ∨ (Meas.mics e).any (fun k => Capt.mode s (k / 2) == 0) ∨
     (Meas.kind e ≠ 1 ∧ 2 ^ Meas.order e - 1 < Meas.respLen e code) then some 0x80
  else if late then some 0x81
  else if Meas.freeBytes s < need * Meas.respBytes e code ∨ 2048 - s.meas.entries < need ∨
     Meas.workBytes s < ((Meas.mics e).length + 1) * p * 8 then some 0x82
  else none

def Meas.fail (s : State) (code : Nat) : State := (s.fault' Meas.page code).irq Meas.page 1

/-- MEAS_CMD op 1 on job `j` for frame `f` (R451). [DEDUCED, unsafe: log entry 102] -/
def Meas.start (s : State) (j f : Nat) (late : Bool) : State :=
  let e := s.ldLe (Meas.jobAddr j) 128
  match Meas.refusal s e late with
  | some c => Meas.fail s c
  | none => { s with meas := { s.meas with
      state := 1, job := j, entry := e, tones := s.ldLe (winBase Meas.page + 0x1000) 2048, start := f
      runs := Meas.runList e, paths := [], abortAt := none, run := 0, todo := [], caps := [] } }

/-- The frame after the last run, and the frame at which playing ends (R454). -/
def Meas.lastEnd (s : State) : Nat :=
  let m := s.meas
  m.start + Meas.fadeLen m.entry s.clk.rate + m.runs.length * Meas.runLen m.entry s.clk.rate
def Meas.playEnd (s : State) : Nat := Meas.lastEnd s + Meas.fadeLen s.meas.entry s.clk.rate

/-- A job ends: job_done once every result is stored (R454). [DEDUCED, unsafe: log entry 102] -/
def Meas.finish (s : State) : State :=
  if s.meas.state = 3 ∧ s.meas.todo.isEmpty then
    let done := s.meas.abortAt.isNone
    let s1 : State := { s with meas := { s.meas with state := 0, abortAt := none } }
    if done then s1.irq Meas.page 0 else s1
  else s

/-! ### Path delays (R36, R457) -/

/-- P of the transmit stream that takes network channel `c`, in frames. -/
def Meas.packetFrames (s : State) (c : Nat) : Option Nat :=
  ((List.range 128).find? (fun e =>
    let a := Stream.txAddr e
    s.efB (Reg.streamTxEn (e / 32)) (e % 32) && decide (Stream.firstCh s a ≤ c ∧ c < Stream.firstCh s a + Stream.channels s a))).map
    (fun e => Stream.frames s (Stream.txAddr e) s.clk.rate)

/-- The output term of R36 of a sink: frames, and ns; a sink of the Router itself has none. [DEDUCED, unsafe: log entry 101] -/
def Meas.outTerm (s : State) (k : Nat) : Option (Nat × Nat) :=
  let w := s.efF Reg.stakeDirectWindowNs 12 0
  if k < 0x400 ∨ 0x1200 ≤ k then none
  else if 0xE00 ≤ k then some (0, w)
  else if 0xD00 ≤ k then
    let c := k - 0xD00
    let u := Pstg.delayU (Pstg.cfgLowLat s c) s.clk.rate (Pstg.ch s c).tLoop
    some (if Pstg.cfgEarly s c then (0, w + u) else (1, u))
  else if 0xC00 ≤ k then some (1, 4000)
  else if 0x800 ≤ k then (Meas.packetFrames s (k - 0x800)).map (fun p => (p, 3000))
  else if k < 0x500 ∧ Port.early (Port.pg s (0x20 + (k - 0x400) / 16)) then some (0, w)
  else some (1, 0)

/-- `f` frames and `ns` ns, in ns. -/
def Meas.nsOf (s : State) (f ns : Nat) : Int := fxRat (f * 1000000000) (rateHz s.clk.rate) + (ns * fxOne : Nat)

/-- Q of each output of the job: that of the lowest-indexed sink that takes it. -/
def Meas.pathsOf (s : State) (e : Nat) : List (Nat × Int) :=
  (Meas.outputs e).filterMap (fun j =>
    (s.route.sinks.findSome? (fun p => if p.2.src = 0x1000 + j then Meas.outTerm s p.1 else none)).map (fun q => (j, Meas.nsOf s q.1 q.2)))

/-! ### Runs (R454, R455) -/

/-- What the stimulus of the job depends on. -/
def Meas.stim (s : State) : StimArgs :=
  let m := s.meas
  { kind := Meas.kind m.entry, hz := rateHz s.clk.rate, level := signed 16 (jobBits m.entry 4 0 16), sweepMs := jobBits m.entry 8 0 16
    order := Meas.order m.entry, poly := (s.rd (Reg.measMlsPoly (Meas.order m.entry - 12))).toNat
    tones := (List.range (Meas.toneCount m.entry)).map (fun t =>
      ((m.tones >>> (64 * t)) % 2 ^ 32, signed 16 ((m.tones >>> (64 * t + 32)) % 65536))) }

/-- The first frame of run `r`, and its first averaged frame. -/
def Meas.runStart (s : State) (r : Nat) : Nat :=
  s.meas.start + Meas.fadeLen s.meas.entry s.clk.rate + r * Meas.runLen s.meas.entry s.clk.rate
def Meas.firstAveraged (s : State) (r : Nat) : Nat :=
  Meas.runStart s r + (if Meas.kind s.meas.entry = 1 then 0 else Meas.period s.meas.entry s.clk.rate)

/-- Tick `n`: every microphone of the job latches its own sample, in the frames that a run averages (R455). -/
def Meas.capture (s : State) (n : Nat) : State :=
  let m := s.meas
  let len := Meas.runLen m.entry s.clk.rate
  if m.state ≠ 2 ∨ m.abortAt.isSome ∨ len = 0 ∨ n < Meas.runStart s 0 then s
  else
    let r := (n - Meas.runStart s 0) / len
    if m.runs.length ≤ r ∨ n < Meas.firstAveraged s r then s
    else (Meas.mics m.entry).foldl (fun s k =>
      let key := 16 * r + k
      { s with meas := { s.meas with
        caps := Tab.set (fun _ => []) s.meas.caps key ((Capt.ch s (128 + k)).own :: Tab.get (fun _ => []) s.meas.caps key) } }) s

/-- a[i] = (1/N) Σ c[r0 + qP + i] from the samples of a run, newest first; the division is rounded (R455). -/
def Meas.average (l : List Int) (reps p : Nat) : List Int :=
  let c := l.reverse
  (List.range p).map (fun i => roundDiv ((List.range reps).foldl (fun a q => a + nth 0 c (q * p + i)) 0) reps)

/-- MEAS_RUN_END: the run in progress has ended; its responses await processing (R454 to R456, R458). [DEDUCED, unsafe: log entry 102] -/
def Meas.runEnd (s : State) : State :=
  let m := s.meas
  if m.state ≠ 2 ∨ m.abortAt.isSome ∨ m.runs.length ≤ m.run ∨ s.clk.frame < Meas.runStart s (m.run + 1) then s
  else
    let p := Meas.period m.entry s.clk.rate
    let avg := fun (k : Nat) => Meas.average (Tab.get (fun _ => []) m.caps (16 * m.run + k)) (Meas.reps m.entry) p
    { s with meas := { m with
      run := m.run + 1, caps := Tab.drop (fun k => k / 16 == m.run) m.caps
      todo := m.todo ++ (Meas.mics m.entry).map (fun k => (m.run, Meas.firstAveraged s m.run, k, avg k)) } }

/-- Tick `n`: a waiting job starts; runs end, and playing ends. -/
def Meas.tick (s : State) (n : Nat) : State :=
  let m := s.meas
  let s1 : State :=
    if m.state = 1 ∧ m.start ≤ n then
      if Meas.reps m.entry = 0 then Meas.finish { s with meas := { m with state := 3 } }
      else { s with meas := { m with state := 2, start := n, paths := Meas.pathsOf s m.entry } }
    else s
  let m := s1.meas
  if m.state = 2 then
    let done : Bool := match m.abortAt with
      | some a => if Meas.lastEnd s1 ≤ a then decide (Meas.playEnd s1 ≤ n) else decide (a + 2 * Meas.fadeLen m.entry s.clk.rate ≤ n)
      | none => decide (Meas.playEnd s1 ≤ n)
    if done then
      let s2 := (List.range (m.runs.length - m.run)).foldl (fun s _ => Meas.runEnd s) s1
      Meas.finish { s2 with meas := { s2.meas with state := 3, caps := [] } }
    else s1
  else s1

/-! ### Results (R456 to R458) -/

/-- S and mic_delay of a microphone (R464). -/
def Meas.micSens (s : State) (k : Nat) : Int := signed 16 (s.ld32 (winBase Meas.page + 0x800 + 16 * k)).toNat
def Meas.micDelay (s : State) (k : Nat) : Nat := (s.ld32 (winBase Meas.page + 0x804 + 16 * k)).toNat

/-- The arrival in ns, a multiple of 10: i_a × T − Q − G_c − T − mic_delay. -/
def Meas.arrival (s : State) (k : Nat) (q ia : Int) : Int :=
  let t := fxDiv (1000000000 * ia) (rateHz s.clk.rate * fxOne : Nat)
  10 * fxTo 0 ((t - q - Meas.nsOf s 1 (Capt.groupDelay s (128 + k) + Meas.micDelay s k)) / 10)

/-- The level in 1/128 dB SPL: the RMS level of the average over the stimulus frames from the arrival, less S, plus 94 dB. A periodic
stimulus covers the whole average. [DESIGN CHOICE, unsafe: log entry 101] -/
def Meas.spl (s : State) (k : Nat) (a : List Int) (ia : Int) : Int :=
  let st := Meas.stim s
  let w := if st.kind = 1 then (a.drop (ia.toNat / fxOne)).take st.sweepLen else a
  let e := w.foldl (fun t v => t + v.natAbs * v.natAbs) 0
  if e = 0 then -32768 else max (-32767) (min 32767 (rmsLevel e w.length - Meas.micSens s k + 94 * 128))

/-- RESPONSE_STORED: the next response in order is appended to the storage and the index (R456 to R458); the Service nodes wait while
tier 3 is not admitted (R450). Where the noise that the SNR divides by is zero, the spec states no figure and it is free.
[DESIGN CHOICE, safe: log entry 101] -/
def Meas.respStored (s : State) : State :=
  let m := s.meas
  match m.todo with
  | [] => s
  | (run, r0, k, a) :: rest =>
    if !s.tier3 then s
    else
      let code := s.clk.rate
      let st := Meas.stim s
      let multi := decide (st.kind = 3)
      let h := deconvolve st a (Meas.period m.entry code) (Meas.respLen m.entry code)
      let xs := mantissas st.kind a h
      let outs := nth [] m.runs run
      let out := if Meas.each m.entry then nth 0xFFFF outs 0 else 0xFFFF
      let path := (m.paths.find? (fun p => outs.contains p.1)).map (·.2)
      let ia := if multi then 0 else crossing h
      let snr := if multi then some 0 else snrLevel h ia st.hz
      let (f, s0) := s.drawFree
      let s1 := if snr.isSome then s else s0
      let w0 := out + k * 2 ^ 16 + m.job * 2 ^ 20 + 2 ^ 24 + b2n (!multi && negative h ia st.hz) * 2 ^ 25 + b2n path.isNone * 2 ^ 26 +
        b2n multi * 2 ^ 27
      let cnt := if multi then Meas.toneCount m.entry else Meas.respLen m.entry code
      let arr := if multi then 0 else Meas.arrival s k (path.getD 0) ia
      let ws := [w0, r0 % 2 ^ 32, r0 / 2 ^ 32, m.used, cnt % 2 ^ 20 + blockExp h * 2 ^ 24, unsigned 32 (satS 32 arr),
        unsigned 16 (Meas.spl s k a ia) + (match snr with | some v => unsigned 16 v | none => f.toNat % 65536) * 65536, code]
      let s4 := s1.stN (Meas.base s + Meas.workBytes s + m.used) (xs.flatMap (fun x => leBytes 4 (unsigned 32 x)))
      let s5 := s4.stN (winBase Meas.page + 0x2000 + 32 * m.entries) (ws.flatMap (leBytes 4))
      Meas.finish (({ s5 with meas := { s5.meas with todo := rest, entries := m.entries + 1, used := m.used + Meas.respBytes m.entry code } }).irq Meas.page 2)

/-- An abort (R459): a run cut short stores nothing, and the responses of runs that have ended are stored. [DEDUCED, unsafe: log entry 102] -/
def Meas.abort (s : State) : State :=
  let m := s.meas
  if m.state = 0 ∨ m.abortAt.isSome then s
  else if m.state = 1 then Meas.fail { s with meas := { m with state := 0 } } 0x83
  else Meas.fail { s with meas := { m with abortAt := some s.clk.frame } } 0x83

/-- Second S: a job that still fades after its abort ends, its outputs at zero (R38, R459). -/
def Meas.rateChange (s : State) : State :=
  if s.meas.state = 2 then Meas.finish { s with meas := { s.meas with state := 3, caps := [] } } else s

/-- MEAS_CMD op 2: a job must run. -/
def Meas.abortCmd (s : State) : State := if !s.pageUp Meas.page then s.discard else Meas.abort s

/-- MEAS_CMD op 3 (R458). -/
def Meas.clear (s : State) : State :=
  if !s.pageUp Meas.page then s.discard
  else if s.meas.state ≠ 0 then s.fault' Meas.page 0x80
  else ({ s with meas := { s.meas with entries := 0, used := 0, todo := [] } }).clearMem (winBase Meas.page + 0x2000) (winBase Meas.page + 0x12000)

/-- A write to MEAS_CMD outside a plait. -/
def Meas.cmd (s : State) (w : Word) : State :=
  if !s.pageUp Meas.page then s.discard
  else match fld w 1 0 with
    | 1 =>
      let f := s.rd64 Reg.measStartLo Reg.measStartHi
      let late := !s.rateOn || decide (f < s.firstTickAfter (2 * usU))
      Meas.start s (fld w 7 4) f late
    | 2 => Meas.abort s
    | 3 => Meas.clear s
    | _ => s

/-- A write to MEAS_CMD that a plait carries, at tick `n`. -/
def Meas.cmdAt (s : State) (w : Word) (n : Nat) : State :=
  if fld w 1 0 = 1 then Meas.start s (fld w 7 4) n false else Meas.cmd s w

/-! ### Injection (R453, R454) -/

/-- Weight of the stimulus slot in frame `n`. -/
def Meas.weight (s : State) (n : Nat) : Int :=
  let m := s.meas
  let r := Meas.fadeLen m.entry s.clk.rate
  let up : Ramp := { v0 := 0, v1 := one30, s := m.start, h := m.start + r }
  let plain := if n < Meas.lastEnd s then up.at n else ({ v0 := one30, v1 := 0, s := Meas.lastEnd s, h := Meas.playEnd s } : Ramp).at n
  match m.abortAt with
  | some a =>
    if Meas.lastEnd s ≤ a then plain
    else if n < a + r then up.at n else ({ v0 := up.at (a + r), v1 := 0, s := a + r, h := a + 2 * r } : Ramp).at n
  | none => plain

/-- The stimulus slot of output `j` in frame `n` (R452, R454). -/
def Meas.slot (s : State) (j n : Nat) : Int :=
  let m := s.meas
  let r := Meas.fadeLen m.entry s.clk.rate
  let len := Meas.runLen m.entry s.clk.rate
  if n < m.start + r ∨ len = 0 then 0
  else
    let k := n - (m.start + r)
    if (nth [] m.runs (k / len)).contains j then
      let v := (Meas.stim s).sample (Meas.period m.entry s.clk.rate) (k % len)
      match m.abortAt with
      | some a => satS 32 (rnd 30 (v * ({ v0 := one30, v1 := 0, s := a, h := a + r } : Ramp).at n))
      | none => v
    else 0

/-- The signal of output `j` in frame `n` where the job injects; `point` is true for the point after CORR's delay stage. -/
def Meas.inject (s : State) (point : Bool) (j n : Nat) (x : Int) : Int :=
  if s.meas.state = 2 ∧ Meas.bypass s.meas.entry = point ∧ (Meas.outputs s.meas.entry).contains j ∧ s.pageUp Meas.page then
    blend30 (Meas.weight s n) x (Meas.slot s j n)
  else x

/-- Outputs of the job being played. -/
def Meas.active (s : State) : List Nat := if s.meas.state = 2 then Meas.outputs s.meas.entry else []

/-! ### Registers, window, resets -/

/-- MEAS_STATUS and MEAS_FREE. -/
def Meas.status (s : State) : Word :=
  let m := s.meas
  let len := Meas.runLen m.entry s.clk.rate
  let k := s.clk.frame - (m.start + Meas.fadeLen m.entry s.clk.rate)
  let run := if m.state = 2 ∧ len ≠ 0 then min (k / len) (m.runs.length - 1) else 0
  let rep := if m.state = 2 ∧ len ≠ 0 then k % len / max 1 (Meas.period m.entry s.clk.rate) else 0
  w32 (run % 2 ^ 15 * 2 ^ 16 + m.job * 2 ^ 12 + rep % 16 * 256 + m.state)

def Meas.freeReg (s : State) : Word := w32 ((2048 - s.meas.entries) * 2 ^ 20 + min (Meas.freeBytes s / 65536) (2 ^ 20 - 1))

def Meas.winWrite (s : State) (o : Nat) (w : Word) : State :=
  if o < 0x900 ∨ (0x1000 ≤ o ∧ o < 0x1800) then
    if s.meas.state ≠ 0 then s.discard
    else if 0x800 ≤ o ∧ o < 0x900 then
      s.st32 (winBase Meas.page + o) (if o % 16 = 0 then w &&& 0xFFFF else if o % 16 = 4 then w else 0)
    else s.st32 (winBase Meas.page + o) (if 0x1000 ≤ o ∧ o % 8 = 4 then w &&& 0xFFFF else w)
  else if 0x2000 ≤ o ∧ o < 0x12000 then s.discard
  else s

def Meas.winRead (s : State) (o : Nat) : Word := s.ld32 (winBase Meas.page + o)

def Meas.check1 (v : Variant) (f : Nat → Word) : Option Nat :=
  let base := (f 0x40).toNat + (f 0x44).toNat * 2 ^ 32
  let work := fld (f 0x48) 31 16; let total := fld (f 0x48) 15 0
  if total < work ∨ base % 0x100000 ≠ 0 ∨ (total ≠ 0 ∧ !inDram v base (total * 0x100000)) then some 0x01 else none

def Meas.check2 (s : State) : Option Nat := if s.meas.state ≠ 0 ∨ s.meas.entries ≠ 0 then some 0x01 else none

/-- A soft reset aborts a job (R459), and clears the window. -/
def Meas.softReset (s : State) : State :=
  let s1 := Meas.abort s
  ({ s1 with meas := { s1.meas with entries := 0, used := 0, todo := [], caps := [] } }).clearMem (winBase Meas.page) (winBase Meas.page + 0x100000)

end Sys2Proof.Machine
end

