-- ==== Sys2Proof/Machine/Memc.lean ====
section
/-!
DEFINITION. MEMC (R465 to R486): ports and urgency, the scheduler, refresh and row-disturbance defence, ECC, set points and
training, self-refresh.
-/
namespace Sys2Proof.Machine

def Memc.page : Nat := 0xF0

/-! ### Organisation (R465 to R467) -/

/-- The first byte of the device area (R467). -/
def Memc.deviceArea (v : Variant) : Nat := dramBase + v.dramBytes - 0x8000000

/-- `n` bytes from `a` lie in DRAM outside the device area, which rules that require a region in DRAM ask for (R467). -/
def Memc.regionOk (v : Variant) (a n : Nat) : Bool := decide (dramBase ≤ a ∧ a + n ≤ Memc.deviceArea v)

/-- An initiator (R490) that owns the part of the device area that holds `a` (R467). -/
def Memc.owns (v : Variant) (ini a : Nat) : Bool :=
  let o := a - Memc.deviceArea v
  if o < 0x4000000 then ini == 11 else if o < 0x6000000 then ini == 21 else ini == 20

/-- The MEMC port of an initiator (R490); CORR uses port 1 or 2. -/
def Memc.portOf (ini : Nat) : Option Nat :=
  if ini ≤ 1 ∨ (2 ≤ ini ∧ ini ≤ 9) then some 9
  else if ini = 10 ∨ ini = 20 then some 11
  else if ini = 11 ∨ ini = 21 then some 10
  else if 13 ≤ ini ∧ ini ≤ 16 then some (ini - 10)
  else if ini = 18 then some 7
  else if ini = 19 then some 8
  else if ini = 22 then some 0
  else if ini = 23 then some 1
  else none

/-- A port may carry the initiator's requests. -/
def Memc.portOk (ini port : Nat) : Bool := Memc.portOf ini == some port || (ini == 23 && port == 2)

/-- Channel, bank and row of an internal DRAM address (R466): fragments of 1,984 bytes rotate over channels, then banks; the
bank is XORed with the low row bits. [DEDUCED, unsafe: log entry 105] -/
def Memc.place (a : Nat) : Nat × Nat × Nat :=
  let f := (a - dramBase) / 1984
  let row := f / 128
  (f % 8, (f / 8 % 16) ^^^ (row % 16), row)

/-- Rows of a bank. [DEDUCED, unsafe: log entry 105] -/
def Memc.rows (v : Variant) : Nat := v.dramBytes / 1984 / 128

/-- DEDUCED, unsafe: log entry 105. -/
def Memc.channel (a : Nat) : Nat := (Memc.place a).1
/-- DEDUCED, unsafe: log entry 105. -/
def Memc.bankKey (a : Nat) : Nat := 16 * (Memc.place a).1 + (Memc.place a).2.1
/-- DEDUCED, unsafe: log entry 105. -/
def Memc.row (a : Nat) : Nat := (Memc.place a).2.2

/-- PASR segment of an address (R466). -/
def Memc.segment (a : Nat) : Nat := (a - dramBase) / (992 * 0x100000)

/-! ### Set points (R479) -/

/-- Data rate in MT/s. -/
def Memc.rate (c : Nat) : Nat := nth 8533 [8533, 6400, 4266, 1600] c

/-- Peak in 0.1 GB/s as MEMC_LOAD reports it. -/
def Memc.peak (c : Nat) : Nat := nth 1365 [1365, 1024, 683, 256] c

/-- The demand of the last complete epoch exceeds half of the peak of set point `c`. -/
def Memc.overHalf (s : State) (c : Nat) : Bool :=
  decide (8 * Memc.rate c * 1000000 * s.memc.lastLen < s.memc.lastBytes * secU)

/-- The renderer's rate code in force or committed is not zero. -/
def Memc.rateSet (s : State) : Bool := fld (s.ef Reg.stakeRenderRate) 2 0 != 0

/-- A change of set point would be refused (R479). -/
def Memc.refused (s : State) (c : Nat) : Bool :=
  Memc.rateSet s && (!(s.boot.trainValid.testBit c) || Memc.overHalf s c)

/-- A channel does not issue commands: a set-point change, or self-refresh of every segment for a freeze or standby. -/
def Memc.closed (s : State) : Bool := s.memc.switching.isSome || s.memc.srWhy != 0 || s.memc.training.isSome

/-! ### Latency figures -/

/-- An unavailability window of `ns` has been met. -/
def Memc.window (s : State) (ns : Nat) : State :=
  if (s.rd Reg.memcWindowMaxNs).toNat < ns then s.wr Reg.memcWindowMaxNs (w32 ns) else s

/-- A request on `port` completes after `ns` (R485, MEMC_PORT_MAX). -/
def Memc.latency (s : State) (port ns : Nat) : State :=
  let w := s.rd (Reg.memcPortMax port)
  if fld w 23 0 < satU 24 ns then s.wr (Reg.memcPortMax port) (setFld w 23 0 (satU 24 ns)) else s

/-- Urgency after `e` units of waiting at a port (R470). -/
def Memc.urgencyAt (s : State) (port e : Nat) : Nat :=
  let t := s.efF (Reg.memcPortTarget port) 19 0 * nsU
  if t ≤ e then 4 else if 9 * t ≤ 10 * e then 3 else if 3 * t ≤ 4 * e then 2 else if t ≤ 2 * e then 1 else 0

/-- Waiting requests take the urgency that the present time gives; one that reaches 4 is counted. -/
def Memc.refreshUrgency (s : State) : State :=
  s.memc.queue.foldl (fun (r : State) q =>
    let u := max q.urgency (Memc.urgencyAt r q.port (r.clk.mono - q.arrival))
    let r1 : State := { r with memc := { r.memc with queue := r.memc.queue ++ [{ q with urgency := u }] } }
    if u = 4 ∧ q.urgency < 4 then
      let w := r1.rd (Reg.memcPortMax q.port)
      r1.wr (Reg.memcPortMax q.port) (setFld w 31 24 (satU 8 (fld w 31 24 + 1)))
    else r1) { s with memc := { s.memc with queue := [] } }

/-- The next instant at which a waiting request's urgency rises (R470). -/
def Memc.nextRaise (s : State) : Option Nat :=
  s.memc.queue.foldl (fun (m : Option Nat) q =>
    let t := s.efF (Reg.memcPortTarget q.port) 19 0 * nsU
    let d := if q.urgency = 0 then cdiv t 2 else if q.urgency = 1 then cdiv (3 * t) 4 else if q.urgency = 2 then cdiv (9 * t) 10 else t
    if 4 ≤ q.urgency then m
    else match m with
      | some x => some (min x (q.arrival + d))
      | none => some (q.arrival + d)) none

/-- URGENCY_RAISE: time reaches the next threshold of a waiting request. [DESIGN CHOICE, safe: log entry 9] -/
def Memc.raise (s : State) : State :=
  match Memc.nextRaise s with
  | none => s
  | some t => Memc.refreshUrgency (s.toMono t)

/-- A request of urgency 4 waits on channel `c`. -/
def Memc.urgent (s : State) (c : Nat) : Bool :=
  s.memc.queue.any (fun q => q.urgency == 4 && Memc.channel q.addr == c)

/-! ### ECC (R477) -/

/-- The block at `a` shows an error: 1 corrected, 2 uncorrectable. -/
def Memc.eccEvent (s : State) (a ecc : Nat) : State :=
  let blk := a / 64 * 64
  let log (s : State) (ue : Bool) : State :=
    (s.wr Reg.memcEccAddrLo (w32 blk)).wr Reg.memcEccAddrHi (w32 (at_ 31 (b2n ue) + blk / 2 ^ 32 % 256))
  if ecc = 1 then (((log s false).count Reg.memcEccCe 1).irq Memc.page 0).fault' Memc.page 0x85
  else if ecc = 2 then (((log s true).count Reg.memcEccUe 1).irq Memc.page 1).fault' Memc.page 0x80
  else s

/-! ### The scheduler (R470, R471, R476) -/

/-- Two requests touch a common 64-byte block. -/
def Memc.sameBlock (p q : DramReq) : Bool :=
  decide (p.addr / 64 ≤ (q.addr + q.len - 1) / 64 ∧ q.addr / 64 ≤ (p.addr + p.len - 1) / 64)

/-- The oldest request of its port to its blocks (R471). -/
def Memc.first (q : DramReq) (older : List DramReq) : Bool := !(older.any (fun p => p.port == q.port && Memc.sameBlock p q))

/-- The better of two requests: higher urgency, an open row, then the older (the one found first). [DESIGN CHOICE, unsafe: log entry 107] -/
def Memc.better (s : State) (a b : DramReq) : Bool :=
  let hit := fun (q : DramReq) => Tab.get (fun _ => (none : Option Nat)) s.memc.open_ (Memc.bankKey q.addr) == some (Memc.row q.addr)
  decide (a.urgency < b.urgency) || (a.urgency == b.urgency && !hit a && hit b)

/-- Index of the request that channel `c` serves next. [DESIGN CHOICE, unsafe: log entry 107] -/
def Memc.pick (s : State) (c : Nat) : Option Nat :=
  (List.range s.memc.queue.length).foldl (fun (m : Option Nat) i =>
    let q := s.memc.queue.getD i {}
    if Memc.channel q.addr = c ∧ Memc.first q (s.memc.queue.take i) then
      match m with
      | none => some i
      | some j => if Memc.better s (s.memc.queue.getD j {}) q then some i else m
    else m) none

/-- A neighbour refresh is performed. -/
def Memc.neighbourDone (s : State) (i : Nat) : State :=
  ({ s with memc := { s.memc with neighbours := s.memc.neighbours.eraseIdx i } }).count Reg.memcRhCount 1

/-- An activate of `row` in bank `bk` (16 × channel + bank): the draw of R476 with the LFSR's value free, entries of the bank
come closer to their limit of 64 activates, and a full queue performs its oldest entry first. [DESIGN CHOICE, safe: log entry 106] -/
def Memc.activate (s : State) (bk row : Nat) : State :=
  let c := bk / 16
  let (v, s1) := s.drawFree
  let hit := v.toNat % 2 ^ (s.efF Reg.memcRh 4 0) == 0
  let aged := s1.memc.neighbours.map (fun n => if 16 * n.1 + n.2.1 = bk then (n.1, n.2.1, n.2.2.1, n.2.2.2 - 1) else n)
  let s2 : State := { s1 with memc := { s1.memc with neighbours := aged, open_ := Tab.set (fun _ => none) s1.memc.open_ bk (some row) } }
  if !hit then s2
  else
    -- a neighbour beyond either edge of the bank is skipped
    let rows := (if row = 0 then [] else [row - 1]) ++ (if row + 1 < Memc.rows s.variant then [row + 1] else [])
    rows.foldl (fun s r =>
      let mine := s.memc.neighbours.filter (fun n => n.1 == c)
      let s' := if 16 ≤ mine.length then
          match s.memc.neighbours.findIdx? (fun n => n.1 == c) with
          | some i => Memc.neighbourDone s i
          | none => s
        else s
      { s' with memc := { s'.memc with neighbours := s'.memc.neighbours ++ [(c, bk % 16, r, 64)] } }) s2

/-- Neighbour refreshes that a channel performs now: all while no request of urgency 4 waits, else those at their limit. -/
def Memc.neighbours (s : State) (c : Nat) : State :=
  let u := Memc.urgent s c
  (List.range s.memc.neighbours.length).foldl (fun s _ =>
    match s.memc.neighbours.findIdx? (fun n => n.1 == c && (!u || n.2.2.2 == 0)) with
    | some i => Memc.neighbourDone s i
    | none => s) s

/-- The bytes and response of an access: the device area reads zero for others and discards their writes (R467). -/
def Memc.perform (s : State) (q : DramReq) : State :=
  let foreign := decide (Memc.deviceArea s.variant ≤ q.addr) && !Memc.owns s.variant q.initiator q.addr
  let s1 : State := { s with memc := { s.memc with bytes := s.memc.bytes + q.len } }
  if foreign then
    if q.write then s1.discard
    else { s1 with ctl := { s1.ctl with busData := List.replicate q.len 0, busResp := 0 } }
  else
    -- a write of whole blocks reads none, so that it meets no error
    let ecc := if q.write ∧ q.addr % 64 = 0 ∧ q.len % 64 = 0 then 0 else q.ecc
    let s2e := Memc.eccEvent s1 q.addr ecc
    let s2 := if ecc = 2 then s2e.weaveEvent 4 q.initiator (6 + q.port) 0 q.write q.addr else s2e
    let resp := if ecc = 2 then 2 else 0
    if q.write then { s2.stN q.addr q.data with ctl := { s2.ctl with busResp := resp } }
    else { s2 with ctl := { s2.ctl with busData := s2.ldN q.addr q.len, busResp := resp } }

/-- Channel `c` serves one request (R470). [DESIGN CHOICE, unsafe: log entry 107] -/
def Memc.serve (s : State) (c : Nat) : State :=
  if Memc.closed s then s
  else
    let s0 := Memc.neighbours s c
    match Memc.pick s0 c with
    | none => s0
    | some i =>
      let q := s0.memc.queue.getD i {}
      let bk := Memc.bankKey q.addr
      let hit := Tab.get (fun _ => (none : Option Nat)) s0.memc.open_ bk == some (Memc.row q.addr)
      let s1 : State := { s0 with memc := { s0.memc with queue := s0.memc.queue.eraseIdx i } }
      let s2 := if hit then s1 else Memc.activate s1 bk (Memc.row q.addr)
      Memc.latency (Memc.perform s2 q) q.port ((s2.clk.mono - q.arrival) / nsU)

/-- Every channel serves its waiting requests. [DESIGN CHOICE, unsafe: log entry 1; DESIGN CHOICE, unsafe: log entry 107] -/
def Memc.drain (s : State) : State :=
  (List.range s.memc.queue.length).foldl (fun s _ => (List.range 8).foldl Memc.serve s) (Memc.refreshUrgency s)

/-- DRAM_REQUEST: a request arrives. `wait` says that the channel stays busy, so that the request is served later;
`exitNs` is the exit from idle self-refresh that it causes, if the channel was in it (R483). [DESIGN CHOICE, unsafe: log entry 107] -/
def Memc.request (s : State) (port ini : Nat) (write : Bool) (addr len : Nat) (data : List Byte) (ecc : Nat) (wait : Bool)
    (exitNs : Nat) : State :=
  let n := if write then data.length else len
  if !s.pageUp Memc.page ∨ !Memc.portOk ini port ∨ !inDram s.variant addr n ∨ n = 0 then s
  else
    let c := Memc.channel addr
    let asleep := s.memc.sr.testBit c && s.memc.srWhy == 0
    let s0 := if asleep then Memc.window { s with memc := { s.memc with sr := s.memc.sr - 2 ^ c } } (min exitNs 400) else s
    let q : DramReq := { port := port, initiator := ini, write := write, addr := addr, len := n, data := data,
                         arrival := s0.clk.mono, ecc := ecc }
    let s1 : State := { s0 with memc := { s0.memc with
      queue := s0.memc.queue ++ [q], lastReq := Tab.set (fun _ => 0) s0.memc.lastReq c s0.clk.mono } }
    if wait then Memc.refreshUrgency s1 else Memc.drain s1

/-! ### Refresh (R475) -/

/-- BANK_REFRESH on `bank` of channel `c`: postponed while requests of urgency 4 wait, up to 8; else performed, and one
postponed command with it. -/
def Memc.bankRefresh (s : State) (c bank : Nat) : State :=
  if !s.pageUp Memc.page ∨ 8 ≤ c ∨ 16 ≤ bank ∨ s.memc.sr.testBit c ∨ Memc.closed s then s
  else
    let k := 16 * c + bank
    let p := Tab.get (fun _ => 0) s.memc.postponed k
    let n := if Memc.urgent s c ∧ p < 8 then p + 1 else if Memc.urgent s c then p else p - 1
    { s with memc := { s.memc with postponed := Tab.set (fun _ => 0) s.memc.postponed k n
                                   open_ := if n = p + 1 then s.memc.open_ else Tab.set (fun _ => none) s.memc.open_ k none } }

/-- MR4_POLL of a die: its refresh-rate field, whether it reports above 85 °C and beyond the operating limit, and the length of
the window. [DEDUCED, unsafe: log entry 109] -/
def Memc.mr4 (s : State) (die field : Nat) (above beyond : Bool) (ns : Nat) : State :=
  -- no window starts while a set-point switch is open (R472)
  if !s.pageUp Memc.page ∨ 2 ≤ die ∨ s.memc.switching.isSome then s
  else
    let s0 := Memc.window s (min ns 500)
    let s1 := s0.wrF Reg.memcTemp (if die = 0 then 2 else 10) (if die = 0 then 0 else 8) field
    let was := s.memc.hot.testBit die
    let cool := if above then 0 else Tab.get (fun _ => 0) s.memc.cool die + 1
    let now := above || (was && decide (cool < 2))
    let s2 : State := { s1 with memc := { s1.memc with
      cool := Tab.set (fun _ => 0) s1.memc.cool die (min cool 2)
      hot := if now = was then s1.memc.hot else s1.memc.hot ^^^ 2 ^ die } }
    let s3 := if now = was then s2 else s2.irq Memc.page 5
    if beyond then (s3.faultD Memc.page 0x84 die).irq Memc.page 5 else s3

/-- SCRUB_READ: the next block in ascending order of addresses is read, and corrected under R477 (R478 gives no order of the
blocks). [DESIGN CHOICE, unsafe: log entry 107] -/
def Memc.scrub (s : State) (ecc : Nat) : State :=
  if !s.pageUp Memc.page ∨ s.efF Reg.memcScrub 7 0 = 0 ∨ Memc.closed s then s
  else
    let a := dramBase + s.memc.scrubAt * 64
    let next := if (s.memc.scrubAt + 1) * 64 < s.variant.dramBytes then s.memc.scrubAt + 1 else 0
    Memc.eccEvent { s with memc := { s.memc with scrubAt := next } } a ecc

/-! ### Set-point changes (R479 to R481) -/

/-- The instant before which the previous change holds a new one. [DEDUCED, unsafe: log entry 111] -/
def Memc.holdEnd (s : State) : Nat :=
  match s.memc.lastEnd with
  | some t => t + msU
  | none => 0

/-- The conditions of R481 hold a change back at present. [DEDUCED, unsafe: log entry 111] -/
def Memc.holds (s : State) : Bool :=
  s.memc.training.isSome || s.memc.switching.isSome || s.memc.srWhy != 0 || decide (s.clk.mono < Memc.holdEnd s)

/-- Step 1 of R480 for target `c`; `held` tells that training held it, so that an invalid target is retrained. [DEDUCED, safe: log entry 108] -/
def Memc.startSwitch (s : State) (c : Nat) (byTraining : Bool) : State :=
  { s with memc := { s.memc with held := none
                                 switching := some (c, s.clk.mono, byTraining && !(s.boot.trainValid.testBit c)) } }

/-- A commit of MEMC_FSP takes effect: a different set point starts a change, or is held (R480, R481). [DEDUCED, unsafe: log entry 111] -/
def Memc.nameFsp (s : State) (c : Nat) : State :=
  if Memc.holds s then
    if s.memc.held.isNone ∧ c = (match s.memc.switching with | some (t, _, _) => t | none => s.memc.fsp) then s
    else { s with memc := { s.memc with held := some (c, s.memc.training.isSome) } }
  else if c = s.memc.fsp then { s with memc := { s.memc with held := none } }
  else Memc.startSwitch s c false

/-- SET_POINT_HELD_START: the first tick after the hold ends; at once while no rate is in force (R601).
[DESIGN CHOICE, unsafe: log entry 10; DEDUCED, unsafe: log entry 111] -/
def Memc.heldStart (s : State) : State :=
  match s.memc.held with
  | none => s
  | some (c, byTraining) =>
    let t := Memc.holdEnd s
    let s1 := if s.memc.training.isSome ∨ s.memc.switching.isSome ∨ s.memc.srWhy ≠ 0 then s else s.toMono t
    if Memc.holds s1 then s
    else
      let s2 := if s1.clk.ticking then s1.toStake (tickAt s1.clk.rate (frameCeil s1.clk.rate s1.clk.stake)) else s1
      if c = s2.memc.fsp then { s2 with memc := { s2.memc with held := none } } else Memc.startSwitch s2 c byTraining

/-- At a tick, a held change whose hold has ended starts. -/
def Memc.tick (s : State) : State :=
  match s.memc.held with
  | none => s
  | some (c, byTraining) =>
    if Memc.holds s then s
    else if c = s.memc.fsp then { s with memc := { s.memc with held := none } }
    else Memc.startSwitch s c byTraining

/-- SET_POINT_SWITCH_DONE: step 5 of R480, `ns` after the start (at most 15 µs, and 40 ms more where the target retrains). -/
def Memc.switchDone (s : State) (ns : Nat) : State :=
  match s.memc.switching with
  | none => s
  | some (c, t0, retrain) =>
    let d := min ns (if retrain then 40015000 else 15000)
    let s1 := s.toMono (t0 + d * nsU)
    let (v, s2) := s1.drawFree
    let s3 : State := if retrain then
        { s2 with boot := { s2.boot with train := Tab.set (fun _ => (0, [])) s2.boot.train c (v.toNat + 1, [])
                                         trainValid := s2.boot.trainValid ||| 2 ^ c } }
      else s1
    let s4 : State := { s3 with memc := { s3.memc with fsp := c, switching := none, lastEnd := some s3.clk.mono, open_ := [] } }
    Memc.drain ((Memc.window s4 d).irq Memc.page 3)

/-! ### Training (R482) -/

/-- TRAINING: a write to MEMC_TRAIN. [DEDUCED, safe: log entry 108] -/
def Memc.train (s : State) (mask : Nat) : State :=
  let m := mask % 16
  if !s.pageUp Memc.page then s
  else if Memc.rateSet s ∨ s.memc.switching.isSome ∨ s.memc.training.isSome then
    (s.fault' Memc.page 0x83).irq Memc.page 2
  else if m = 0 then s
  else { s with memc := { s.memc with training := some m } }

/-- The set points in `mask` end their training; those in `failed` have failed. [DEDUCED, safe: log entry 108] -/
def Memc.trained (s : State) (mask failed : Nat) : State :=
  (List.range 4).foldl (fun s c =>
    if !mask.testBit c then s
    else if failed.testBit c then
      let s1 := ({ s with boot := { s.boot with trainValid := s.boot.trainValid &&& (15 - 2 ^ c) } } : State)
      (s1.faultD Memc.page 0x82 c).irq Memc.page 4
    else
      let (v, s1) := s.drawFree
      { s1 with boot := { s1.boot with train := Tab.set (fun _ => (0, [])) s1.boot.train c (v.toNat + 1, [])
                                       trainValid := s1.boot.trainValid ||| 2 ^ c } }) s

/-- TRAINING_DONE: the sequence ends. [DEDUCED, safe: log entry 108] -/
def Memc.trainingDone (s : State) (failed : Nat) : State :=
  match s.memc.training with
  | none => s
  | some m =>
    let s1 := (Memc.trained { s with memc := { s.memc with training := none } } m failed).irq Memc.page 4
    -- while no rate is in force a held change starts when its hold ends (R601)
    Memc.drain (if s1.clk.ticking then s1 else Memc.tick s1)

/-! ### Self-refresh (R483, R484) -/

/-- IDLE_SELF_REFRESH_ENTRY of channel `c`. -/
def Memc.idleEntry (s : State) (c : Nat) : State :=
  let us := s.efF Reg.memcSrIdleUs 15 0
  if !s.pageUp Memc.page ∨ us = 0 ∨ 8 ≤ c ∨ Memc.closed s ∨ s.memc.sr.testBit c ∨
      s.memc.queue.any (fun q => Memc.channel q.addr == c) then s
  else
    let s1 := s.toMono (Tab.get (fun _ => 0) s.memc.lastReq c + us * usU)
    { s1 with memc := { s1.memc with sr := s1.memc.sr + 2 ^ c } }

/-- Every channel enters self-refresh for a freeze (1) or standby and domain-off (2); a running change or training first
ends. -/
def Memc.enterSr (s : State) (why : Nat) : State :=
  let s1 := match s.memc.switching with
    | some _ => Memc.switchDone s 15000
    | none => s
  let s2 := match s1.memc.training with
    | some _ => Memc.trainingDone s1 0
    | none => s1
  { s2 with memc := { s2.memc with sr := 255, srWhy := why, open_ := [] } }

/-- The channels leave self-refresh. [DEDUCED, unsafe: log entry 110] -/
def Memc.leaveSr (s : State) : State :=
  Memc.drain { s with memc := { s.memc with sr := 0, srWhy := 0 } }

/-- Segments outside `kept` lose their contents at standby (R484); what they read afterwards is free in hardware and is the
unlisted value here. [DEDUCED, unsafe: log entry 110] -/
def Memc.loseSegments (s : State) (kept : Nat) : State :=
  (List.range 8).foldl (fun s g =>
    if kept.testBit g then s
    else s.clearMem (dramBase + g * 992 * 0x100000) (min (dramBase + (g + 1) * 992 * 0x100000) (dramBase + s.variant.dramBytes))) s

/-- MEM turns on again: the channels leave self-refresh at set point 0, which is trained first when its training is not valid
(R273). -/
def Memc.powerOn (s : State) : State :=
  let s1 := Memc.leaveSr { s with memc := { s.memc with fsp := 0, held := none, switching := none, training := none } }
  if s1.boot.trainValid.testBit 0 then s1 else Memc.trained s1 1 0

/-! ### Epochs and registers -/

/-- At a budget epoch's close the demand is reported (R472). -/
def Memc.epoch (s : State) : State :=
  let len := s.clk.mono - s.memc.since
  let s1 : State := { s with memc := { s.memc with bytes := 0, since := s.clk.mono, lastBytes := s.memc.bytes, lastLen := len } }
  let demand := if len = 0 then 0 else s.memc.bytes * secU / len / 100000000
  s1.wr Reg.memcLoad (w32 (at_ 16 (Memc.peak s.memc.fsp) + satU 16 demand))

def Memc.status (s : State) : Word :=
  let m := s.memc
  w32 (at_ 24 m.sr + at_ 16 m.hot + at_ 12 s.boot.trainValid + at_ 5 (b2n m.training.isSome) + at_ 4 (b2n m.held.isSome) +
    at_ 3 (b2n m.switching.isSome) + m.fsp)

/-- MEMC_LOAD reports the peak of the set point in force. -/
def Memc.load (s : State) : Word := setFld (s.rd Reg.memcLoad) 31 16 (Memc.peak s.memc.fsp)

def Memc.check1 (f : Nat → Word) : Option Nat :=
  let k := fld (f 0x50) 4 0
  if k < 8 ∨ 16 < k then some 0x01
  else if (List.range 12).any (fun i => let t := fld (f (0x80 + 4 * i)) 19 0; decide (t < 500 ∨ 1000000 < t)) then some 0x01
  else none

/-- The conditions of R479 on a commit that names another set point. -/
def Memc.check2 (s : State) (new : Nat → Word) : Option Nat :=
  let c := fld (new 0x40) 1 0
  if c ≠ s.memc.fsp ∧ Memc.refused s c then some 0x81 else none

/-- A commit has taken effect. -/
def Memc.commit (s : State) (old new : Nat → Word) : State :=
  if fld (old 0x40) 1 0 ≠ fld (new 0x40) 1 0 ∨ fld (new 0x40) 1 0 ≠ s.memc.fsp then Memc.nameFsp s (fld (new 0x40) 1 0) else s

/-- FAULT_CAUSE clear also clears the maxima (R485). -/
def Memc.causeClear (s : State) : State :=
  (List.range 12).foldl (fun s k => s.wr (Reg.memcPortMax k) 0) (s.wr Reg.memcWindowMaxNs 0)

/-- A byte of the training store (R486): 4 KiB per set point, then the validity word. -/
def Memc.storeByte (s : State) (o : Nat) : Byte :=
  if o < 0x4000 then
    let e := Tab.get (fun _ => ((0 : Nat), ([] : List Byte))) s.boot.train (o / 0x1000)
    if e.1 = 0 then nth 0 e.2 (o % 0x1000)
    else (Config.free (e.1 + o * 2 ^ 64)).setWidth 8
  else if o = 0x4000 then BitVec.ofNat 8 s.boot.trainValid
  else 0

/-- A word of the array window; writes by all but the boot loader are discarded (R486). -/
def Memc.winRead (s : State) (o : Nat) : Word := w32 (ofLe ((List.range 4).map (fun i => Memc.storeByte s (o + i))))

def Memc.winWrite (s : State) (ini o : Nat) (w : Word) : State :=
  if ini ≠ 10 then s.discard
  else if o = 0x4000 then { s with boot := { s.boot with trainValid := w.toNat % 16 } }
  else if 0x4000 < o then s.discard
  else
    let c := o / 0x1000
    let img := (List.range 0x1000).map (fun i =>
      let a := c * 0x1000 + i
      if o ≤ a ∧ a < o + 4 then BitVec.ofNat 8 (w.toNat >>> (8 * (a - o))) else Memc.storeByte s a)
    { s with boot := { s.boot with train := Tab.set (fun _ => (0, [])) s.boot.train c (0, img) } }

/-- A soft reset changes neither the set point in force nor the training store (R485). -/
def Memc.softReset (s : State) : State := s

end Sys2Proof.Machine
end

