-- ==== Sys2Proof/Machine/Pages.lean ====
section
/-!
DEFINITION. Reading a register page: the page header, IDENT, the interrupt summary, and every register that reads live state
(R12, R42, R46, R48, R50, R57, R59, R71 and the register tables of the units).
-/
namespace Sys2Proof.Machine

/-! ### Interrupts (R57 to R60) -/

/-- The summary bit of page `p`. -/
def State.summary (s : State) (p : Nat) : Bool :=
  s.pageUp p && (s.rd (Reg.irqStatus p) &&& s.rd (Reg.irqEnable p)) != 0

/-- The steering entry of page `p` (R58). -/
def State.steer (s : State) (p : Nat) : Word := s.ld32 (winBase 2 + 4 * p)

/-- Vector `v` is pending: some summary bit steered to it is 1. -/
def State.vecPending (s : State) (v : Nat) : Bool :=
  (List.range 256).any (fun p => s.summary p && bit (s.steer p) 6 && fld (s.steer p) 5 0 == v)

/-- Pages whose IRQ_ENABLE holds a bit: only they can give a summary bit of 1. -/
def State.irqPages (s : State) : List Nat := ((Tab.keys s.regs).filter (fun a => a % 0x1000 == 0x14)).map (· / 0x1000)

/-- All pending vectors, one bit each. [DEDUCED, unsafe: log entry 22] -/
def State.vectors (s : State) : Nat :=
  s.irqPages.foldl (fun n p =>
    if s.summary p && bit (s.steer p) 6 then n ||| 2 ^ fld (s.steer p) 5 0 else n) 0

/-- IRQn_N is driven low. -/
def State.irqPin (s : State) (n : Nat) : Bool :=
  (List.range 256).any (fun p => s.summary p && bit (s.steer p) (8 + n))

/-- The per-vector mask bit of the MSI-X table (R59, R60). -/
def State.vecMasked (s : State) (v : Nat) : Bool := s.rdB (Reg.hostMsixTable (4 * v + 3)) 0

/-! ### Plait slots -/

def Plait.slotDefault (_ : Nat) : Slot := {}
def Plait.slot (s : State) (k : Nat) : Slot := Tab.get Plait.slotDefault s.plait.slots k
def Plait.setSlot (s : State) (k : Nat) (x : Slot) : State :=
  { s with plait := { s.plait with slots := Tab.set Plait.slotDefault s.plait.slots k x } }

/-- Slots are numbered 1 to 15. -/
def Plait.slots : List Nat := rangeFrom 1 15

/-- The open plait of an owner (R70: at most one): one that awaits its commit decision is still open.
[DEDUCED, unsafe: log entry 15] -/
def Plait.openOf (s : State) (owner : Nat) : Option Nat :=
  Plait.slots.find? (fun k => (Plait.slot s k).state == .open && (Plait.slot s k).owner == owner)

/-- Free entries of the shared pool (R70). -/
def Plait.poolFree (s : State) : Nat := 32768 - (Plait.slots.map (fun k => (Plait.slot s k).writes.length)).sum

def SlotState.code : SlotState → Nat
  | .free => 0 | .open => 1 | .pending => 2 | .done => 3

def Outcome.code : Outcome → Nat
  | .none => 0 | .committed => 1 | .abortFull => 2 | .abortLate => 3 | .abortConflict => 4 | .abortBudget => 5
  | .abortHost => 6 | .abortReset => 7

/-- Registers of the PLAIT page as initiator `ini` reads them (R71). -/
def Plait.read (s : State) (ini o : Nat) : Option Word :=
  let mine := (Plait.openOf s ini).map (fun k => (k, Plait.slot s k))
  if o = 0x44 then some (match mine with | some (k, x) => w32 (at_ 16 x.ticket + k) | none => 0)
  else if o = 0x48 then some (match mine with | some (_, x) => x.targetLo | none => 0)
  else if o = 0x4C then some (match mine with | some (_, x) => x.targetHi | none => 0)
  else if o = 0x50 then some (match mine with | some (_, x) => x.targetNs | none => 0)
  else if o = 0x5C then some (w32 (Plait.poolFree s))
  else if 0x108 ≤ o ∧ o < 0x180 then
    let x := Plait.slot s ((o - 0x100) / 8)
    some (if o % 8 = 0 then w32 (x.state.code + at_ 4 x.outcome.code + at_ 7 (b2n x.tierStepped) + at_ 8 x.owner)
          else w32 (at_ 16 x.ticket + x.captured % 8192))
  else if 0x208 ≤ o ∧ o < 0x280 then
    let x := Plait.slot s ((o - 0x200) / 8)
    some (w32 (if o % 8 = 0 then x.frame else x.frame / 2 ^ 32))
  else if 0x304 ≤ o ∧ o < 0x340 then some (Plait.slot s ((o - 0x300) / 4)).errAddr
  else none

/-! ### Live registers of the control units -/

/-- IDENT (R48). -/
def Ident.read (s : State) (o : Nat) : Option Word :=
  let v := s.variant
  if o = 0x40 then some (w32 (at_ 16 (v.pick 0x5480 0x5340 0x5220) + at_ 8 1))
  else if o = 0x44 then some (w32 (Otp.deviceId s))
  else if o = 0x48 then some (w32 (Otp.deviceId s / 2 ^ 32))
  else if o = 0x4C then some (w32 (at_ 16 (Machine.objCap v 4) + Machine.objCap v 2))
  else if o = 0x50 then some (w32 (Machine.objCap v 6))
  else if o = 0x54 then some (w32 (at_ 16 (Machine.outCap v 6) + Machine.outCap v 2))
  else if o = 0x58 then
    some (w32 (at_ 28 (v.pick 8 8 8) + at_ 25 v.madi + at_ 21 v.aes + at_ 16 v.ports + at_ 8 v.psChannels + v.cores))
  else if o = 0x5C then
    some (w32 (at_ 16 v.dram32 + at_ 5 (b2n (v.nets == 2)) + at_ 4 (b2n v.hasMeas) + at_ 3 (b2n v.hasHoop) +
      at_ 2 (b2n v.has2022_7) + at_ 1 (b2n v.hasAcTest) + b2n v.hasSelfOsc))
  else if 0x100 ≤ o ∧ o < 0x200 then
    let r := (o - 0x100) / 4
    some (w32 ((List.range 32).foldl (fun n i => n + at_ i (b2n (pagePresent v (32 * r + i)))) 0))
  else none

/-- BOOT (R533). [DESIGN CHOICE, safe: log entry 138] -/
def Boot.read (s : State) (o : Nat) : Option Word :=
  let b := s.boot
  if o = 0x40 then
    some (w32 (at_ 28 b.lc + at_ 12 (b2n b.erasing) + at_ 10 b.kind + at_ 9 b.slot + at_ 8 b.source + b.phase))
  else if o = 0x4C then some (w32 (at_ 6 (b2n b.override) + at_ 4 b.bootCode + at_ 2 b.rolePin + b.bootsel))
  else if o = 0x6C then some (w32 (at_ 1 (b2n b.otpFailed) + b2n b.otpBusy))
  else none

/-- BIST (R535). [DESIGN CHOICE, safe: log entry 138] -/
def Bist.read (s : State) (o : Nat) : Option Word :=
  if o = 0x40 then some (setBit (s.rd Reg.bistStatus) 4 s.bist.lapse)
  else if o = 0x48 then some (w32 s.bist.window)
  else none

/-- BUDGET (R287). -/
def Budget.read (s : State) (o : Nat) : Option Word :=
  let b := s.budget
  if o = 0x4C then some (setFld (s.rd Reg.budgetVcore) 9 0 b.v)
  else if o = 0x60 then some (w32 (at_ 16 (min b.holdoff 100) + at_ 8 b.reason + at_ 4 b.cap + b.admitted))
  else if o = 0xC4 then some (w32 (b.domains &&& (b.transition.getD b.domains)))
  else none

/-- FAULT (R578). [DESIGN CHOICE, safe: log entry 138] -/
def FaultUnit.read (s : State) (o : Nat) : Option Word :=
  let f := s.fault
  if o = 0x48 then
    some (w32 (at_ 8 (min f.pendingCount 255) + at_ 4 (b2n f.collectorFail) + at_ 3 (b2n s.faultN) + at_ 2 (b2n f.latch) + b2n f.frozen))
  else if o = 0x4C then some (w32 f.head)
  else if o = 0x50 then some (w32 f.tail)
  else if o = 0x60 then some (w32 (secsOf f.freezeStake))
  else if o = 0x64 then some (w32 (secsOf f.freezeStake / 2 ^ 32))
  else if o = 0x68 then some (w32 (nanosOf f.freezeStake))
  else if o = 0x6C then some (w32 f.freezeFrame)
  else if o = 0x70 then some (w32 (f.freezeFrame / 2 ^ 32))
  else none

/-- Seconds left in the revert hold (R558, R559), rounded up. -/
def Hoop.holdLeft (s : State) : Nat :=
  match s.hoop.holdFrom with
  | none => 0
  | some f =>
    let hz := rateHz s.clk.rate
    s.efF Reg.hoopRevertHold 9 0 - (if hz = 0 then 0 else (s.clk.frame - f) / hz)

/-- HOOP (R559). -/
def Hoop.read (s : State) (o : Nat) : Option Word :=
  let h := s.hoop
  if o = 0x4C then
    some (w32 (at_ 17 h.step + at_ 12 h.peer.state + at_ 11 (b2n h.enables) + at_ 10 (b2n h.peerClaim) + at_ 9 (b2n h.claim) +
      at_ 8 (b2n h.link) + at_ 4 h.state + h.role))
  else if o = 0x54 then some (w32 (Hoop.holdLeft s))
  else if o = 0x80 then some (w32 h.peer.id)
  else if o = 0x84 then some (w32 (h.peer.id / 2 ^ 32))
  else none

/-- Early outputs are presented (STAKE_FRAME_STATUS early_active). -/
def State.earlyActive (s : State) : Bool :=
  Port.anyEarly s || (Pstg.chans s).any (fun c => (Pstg.ch s c).switching && (Pstg.ch s c).early)

/-- STAKE: FRAME_STATUS and the PTP registers, and then the registers of `Stake.read`. -/
def Stake.readAll (s : State) (o : Nat) : Option Word :=
  if o = 0x110 then
    some (w32 (at_ 2 (b2n s.earlyActive) + at_ 1 (b2n (s.clk.locked && s.clk.ticking)) + b2n s.clk.ticking))
  else if o = 0xB4 then some (Ptp.status s)
  else Stake.read s o

/-- SCENE (R133). -/
def Scene.read (s : State) (o : Nat) : Option Word :=
  if o = 0x58 then
    some (setFld (s.rd Reg.sceneLayoutStatus) 2 0
      (4 * b2n (s.scene.build.isSome || s.scene.rebuild) + 2 * b2n s.scene.validB + b2n s.scene.validA))
  else if o = 0xC4 then some (w32 (2048 - Felot.queued s))
  else if 0x140 ≤ o ∧ o < 0x180 then
    let r := (o - 0x140) / 4
    some (w32 ((List.range 32).foldl (fun n i =>
      let j := 32 * r + i
      n + at_ i (b2n (Layout.present s (Scene.layoutBank s) j && !Scene.unavailable s j))) 0))
  else none

/-- COIL (R220). -/
def Coil.read (s : State) (o : Nat) : Option Word :=
  if o = 0x6C then some (w32 (Coil.credit s))
  else if o = 0x70 then some (w32 (at_ 4 s.budget.cap + s.budget.admitted))
  else if o = 0x88 then some (w32 (at_ 20 (Coil.fill s 3) + at_ 10 (Coil.fill s 2) + Coil.fill s 1))
  else if o = 0x8C then some (w32 (Coil.delayFill s))
  else none

/-- WARP: the row views are windows; no register reads live state but its stored values. OSIER (R267). -/
def Osier.read (s : State) (k o : Nat) : Option Word :=
  if o = 0x40 then some (Osier.status s k)
  else if o = 0x44 then some (Osier.nodeReg s k)
  else if o = 0x48 then some (Osier.pcReg s k)
  else none

/-- HOST: run bits and the MSI-X pending-bit array (R60, R68). -/
def HostPage.read (s : State) (o : Nat) : Option Word :=
  if 0x40 ≤ o ∧ o < 0x140 ∧ o % 0x20 = 0 then
    some (w32 (b2n (Tab.get (fun _ => ({} : DmaCh)) s.ctl.dma ((o - 0x40) / 0x20)).running))
  else if o = 0x180 ∨ o = 0x184 then
    let base := (o - 0x180) * 8
    some (w32 ((List.range 32).foldl (fun n i => n + at_ i (b2n (s.vecPending (base + i) && s.vecMasked (base + i)))) 0))
  else none

/-- IRQ (R57, R59). -/
def Irq.read (s : State) (o : Nat) : Option Word :=
  if 0x100 ≤ o ∧ o < 0x200 then
    let r := (o - 0x100) / 4
    some (w32 ((List.range 32).foldl (fun n i => n + at_ i (b2n (s.summary (32 * r + i)))) 0))
  else if o = 0x200 then some (w32 s.vectors)
  else if o = 0x204 then some (w32 (s.vectors / 2 ^ 32))
  else none

/-! ### The page header (R46) -/

/-- PAGE_CAPS of page `p`, for the units whose chapters give one. [DEDUCED, unsafe: log entry 18] -/
def Page.caps (s : State) (p : Nat) : Word :=
  let v := s.variant
  match unitOf p with
  | some 0x52 => w32 (at_ 16 s.outCap + s.objCap)
  | some 0x53 => w32 (if s.rateOn then Corr.maxTaps s.clk.rate else 0)
  | some 0x58 => w32 (at_ 8 (v.pick 15 3 1) + v.cores)
  | some 0x60 => w32 (at_ 16 4096 + at_ 8 ((p - 0x60) / 32) + (p - 0x60))
  | some 0xE0 => w32 (at_ 9 (b2n (p == 0xE0)) + at_ 8 (b2n v.hasSelfOsc) + 8)
  | some 0xF0 => w32 (at_ 16 v.dram32 + at_ 8 (v.pick 8 4 4) + 8)
  | some 0xF8 => w32 (at_ 8 19 + 24)
  | _ => 0

/-- The unit carries out an operation of its own. -/
def Page.busy (s : State) (p : Nat) : Bool :=
  match unitOf p with
  | some 0x01 => (List.range 8).any (fun n => (Tab.get (fun _ => ({} : DmaCh)) s.ctl.dma n).running)
  | some 0x04 => s.boot.otpBusy || s.boot.erasing
  | some 0x05 => s.bist.running != 0
  | some 0x06 => s.budget.transition.isSome
  | some 0x08 => s.hoop.step != 0
  | some 0x50 => s.scene.build.isSome || s.scene.rebuild
  | some 0x53 => s.corr.prep.isSome
  | some 0x54 => s.meas.state != 0
  | some 0xE8 => s.lsup.busy.isSome
  | some 0xF0 => s.memc.switching.isSome || s.memc.training.isSome
  | _ => false

def Ctl.commit (c : Ctl) (p : Nat) : Option PendCommit := Tab.get (fun _ => (none : Option PendCommit)) c.commits p

/-- A header register; `none` past the header. [DEDUCED, unsafe: log entry 18] -/
def Page.header (s : State) (p o : Nat) : Option Word :=
  let u := (unitOf p).getD 0
  if o = 0x00 then some (w32 (at_ 16 u + at_ 8 (p - u) + 1))
  else if o = 0x04 then some (Page.caps s p)
  else if o = 0x08 then some (w32 (b2n (s.enableBit p)))
  else if o = 0x0C then
    some (w32 (at_ 2 (b2n (fld (s.rd (Reg.faultCause p)) 7 0 != 0)) + at_ 1 (b2n (Page.busy s p)) + 1))
  else if o = 0x18 then some 0
  else if o = 0x1C then some (setFld (s.rd (Reg.commit p)) 1 0 (b2n (s.ctl.commit p).isSome))
  else none

/-- Registers of a unit that read live state. -/
def Page.live (s : State) (ini p o : Nat) : Option Word :=
  match unitOf p with
  | some 0x00 => Ident.read s o
  | some 0x01 => HostPage.read s o
  | some 0x02 => Irq.read s o
  | some 0x03 => Plait.read s ini o
  | some 0x04 => Boot.read s o
  | some 0x05 => Bist.read s o
  | some 0x06 => Budget.read s o
  | some 0x07 => FaultUnit.read s o
  | some 0x08 => Hoop.read s o
  | some 0x10 => Stake.readAll s o
  | some 0x11 => Net.read s (p - 0x11) o
  | some 0x13 => Stream.read s o
  | some 0x20 => if o = 0x60 then some (Port.status s p) else none
  | some 0x3C => if o = 0x48 then some (Asrc.status s (p - 0x3C)) else if o = 0x54 then some (w32 (Asrc.groupDelay s (p - 0x3C))) else none
  | some 0x49 => if 0x100 ≤ o ∧ o < 0x300 ∧ o % 0x20 = 0xC then some (Meter.loudStatus s ((o - 0x100) / 0x20)) else none
  | some 0x50 => Scene.read s o
  | some 0x54 => if o = 0x58 then some (Meas.status s) else if o = 0x5C then some (Meas.freeReg s) else none
  | some 0x55 => if 0x100 ≤ o ∧ o < 0x340 then some (w32 (Capt.groupDelay s ((o - 0x100) / 4))) else none
  | some 0x58 => Coil.read s o
  | some 0x60 => Osier.read s (p - 0x60) o
  | some 0xE0 => Pstg.read s (p - 0xE0) o
  | some 0xE8 => Lsup.read s o
  | some 0xF0 => if o = 0x44 then some (Memc.status s) else if o = 0x60 then some (Memc.load s) else none
  | _ => none

/-- A write-only register, which reads zero: no bit of it is stored, and it reads no live state. -/
def Page.stored (p o : Nat) : Bool :=
  match regAt p o with
  | none => false
  | some _ => true

/-- The value of offset `o` of page `p`, without the side effects of a read. -/
def Page.read (s : State) (ini p o : Nat) : Word :=
  if !s.pageUp p ∨ o % 4 ≠ 0 then 0
  else if 0x840 ≤ o then
    match regAt p (o - 0x800) with
    | some (r, _) => if r.staged then s.ef (p * 0x1000 + (o - 0x800)) else 0
    | none => 0
  else match Page.header s p o with
    | some w => w
    | none =>
      match Page.live s ini p o with
      | some w => w
      | none => if Page.stored p o then s.rd (p * 0x1000 + o) else 0

/-! ### Latches (R12, R378, R504) -/

/-- Offsets of the _LO registers of a unit's page, the staged ones with their mirrors; each has its _HI at the next word (R12). -/
def loOffsets : Nat → List Nat
  | 0x00 => [0x44]
  | 0x01 => (List.range 8).map (fun k => 0x44 + 0x20 * k) ++ [0x200, 0x210, 0x220, 0x230, 0xA00, 0xA20]
  | 0x02 => [0x200]
  | 0x03 => 0x48 :: (List.range 16).map (fun k => 0x200 + 8 * k)
  | 0x04 => [0x70]
  | 0x07 => [0x60, 0x6C]
  | 0x08 => [0x58, 0x60, 0x80]
  | 0x10 => [0x40, 0x68, 0x88, 0xAC, 0x108] ++ (List.range 8).flatMap (fun k => [0x140 + 0x20 * k, 0x940 + 0x20 * k])
  | 0x11 => [0x58, 0x70, 0x90, 0xB8, 0x870, 0x890]
  | 0x3C => [0x4C]
  | 0x51 => [0x4C, 0x84C]
  | 0x53 => [0x50, 0x850]
  | 0x54 => [0x40, 0x50, 0x840]
  | 0x60 => [0x50]
  | 0xF0 => [0x6C]
  | 0xF8 => [0x64, 0x6C]
  | _ => []

/-- The companions that a read of the register at `a` latches: _HI with _LO, and what R378 and R504 add. -/
def latchSet (a : Nat) : List Nat :=
  let o := a % 0x1000
  match unitOf (a / 0x1000) with
  | none => []
  | some u =>
    if u = 0x10 ∧ o = 0x40 then [a + 4, a + 8, a + 12]
    else if u = 0xF8 ∧ o = 0x60 then [a + 4, a + 8, a + 12, a + 16]
    else if o = 0x24 ∨ (loOffsets u).contains o then [a + 4] else []

/-- A write to a register that software writes leaves no latched half of it. [DEDUCED, unsafe: log entry 12] -/
def State.unlatch (s : State) (a : Nat) : State := { s with ctl := { s.ctl with latch := Tab.erase s.ctl.latch a } }

/-- The latched half at `a`, if a read has latched one. [DEDUCED, unsafe: log entry 12] -/
def State.latched (s : State) (a : Nat) : Option Word := Tab.get (fun _ => (none : Option Word)) s.ctl.latch a

/-- A read of the register at `a` by initiator `ini`: the word, and the state after its side effects: companions are latched,
and a read of a capture's nanoseconds removes it (R12, R400). [DEDUCED, unsafe: log entry 12; DESIGN CHOICE, safe: log entry 138] -/
def Page.access (s : State) (ini a : Nat) : State × Word :=
  let p := a / 0x1000
  let o := a % 0x1000
  if !s.pageUp p then (s, 0)
  else
    let k := (o - 0x240) / 0x10
    let isTcap := p == Stake.page && decide (0x240 ≤ o ∧ o < 0x280)
    if isTcap && o % 0x10 == 4 then
      let s1 := Stake.tcapLatch s k
      (s1, Page.read s1 ini p o)
    else if isTcap && o % 0x10 == 12 then (Stake.tcapPop s k, Page.read s ini p o)
    else
      let w := (s.latched a).getD (Page.read s ini p o)
      let keep := p == 0xF8 && (o == 0x64 || o == 0x6C) && (s.latched a).isSome
      if keep then (s, w)
      else
        let t := (latchSet a).foldl (fun t b =>
          Tab.set (fun _ => (none : Option Word)) t b (some (Page.read s ini p (b % 0x1000)))) s.ctl.latch
        ({ s with ctl := { s.ctl with latch := t } }, w)

end Sys2Proof.Machine
end

