-- ==== Sys2Proof/Machine/Power.lean ====
section
/-!
DEFINITION. Resets (R56, R79, R505, R515), power domains (R270 to R273), standby (R285, R286), the claim's release (R540),
stopping and starting of frame ticks (R38, R383, R576, R602), and freeze entry and release (R570 to R577).
-/
namespace Sys2Proof.Machine

/-! ### Plait outcomes -/

/-- The plait in slot `k` ends with an outcome: its pool entries are freed and the PLAIT page's interrupt is set (R71, R77).
[DEDUCED, unsafe: log entry 15] -/
def Plait.finish (s : State) (k : Nat) (o : Outcome) : State :=
  let x := Plait.slot s k
  let s1 := Plait.setSlot s k { x with state := .done, outcome := o, writes := [], floating := none, finished := s.plait.seq + 1 }
  let s2 : State := { s1 with plait := { s1.plait with seq := s.plait.seq + 1 } }
  s2.irq 3 (if o = .committed then 0 else 1)

/-- Every pending plait whose frame `p` picks ends with an outcome; plaits that float until ticks resume are kept (R602). -/
def Plait.endPending (s : State) (o : Outcome) (p : Nat → Bool) : State :=
  Plait.slots.foldl (fun s k =>
    let x := Plait.slot s k
    if x.state = .pending ∧ x.floating = none ∧ p x.frame then Plait.finish s k o else s) s

/-- On a standby no plait of its own initiators is open: one that was is lost (R81, R553). [DESIGN CHOICE, unsafe: log entry 156] -/
def Plait.lost (s : State) : State :=
  if !s.isStandby then s
  else Plait.slots.foldl (fun s k =>
    let x := Plait.slot s k
    if x.state = .open ∧ x.owner ≠ 11 then Plait.finish s k .abortReset else s) s

/-! ### Ticks stop and start (R19, R602) -/

/-- A post that waits for its tick acts at the first tick after ticks resume. -/
def Post.now (p : Post) : Post := { p with ready := 0 }

/-- Frame ticks stop: what was due at the first tick at least 2 µs after its write is due at the first tick that follows
(R602). -/
def State.stopTicks (s : State) : State :=
  { s with
    clk := { s.clk with ticking := false, locked := false, phase := 2 }
    ctl := { s.ctl with
      enablePosts := s.ctl.enablePosts.map (fun e => (e.1, e.2.map (fun x => (x.1, 0))))
      commits := s.ctl.commits.map (fun e => (e.1, e.2.map (fun c => if c.mode = 1 then { c with ready := 0 } else c))) }
    warp := { s.warp with posts := s.warp.posts.map Post.now, held := s.warp.held.map Post.now }
    corr := { s.corr with posts := s.corr.posts.map Post.now }
    coil := { s.coil with posts := s.coil.posts.map Post.now }
    route := { s.route with posts := s.route.posts.map Post.now }
    meter := { s.meter with posts := s.meter.posts.map Post.now }
    capt := { s.capt with posts := s.capt.posts.map Post.now } }

/-- Frame ticks start, or resume, with index `n`; plaits that floated across the stop resolve to the first tick that lies L
after their decision (R74, R602), and the claim timer is retriggered at that tick (R577). -/
def State.startTicks (s : State) (n : Nat) : State :=
  let s1 : State := { s with
    clk := { s.clk with ticking := true, locked := true, nextTick := n, firstTick := n, phase := 2 }
    hoop := { s.hoop with loaded := true } }
  Plait.slots.foldl (fun s k =>
    let x := Plait.slot s k
    match x.floating with
    | some t => Plait.setSlot s k { x with floating := none, frame := max n (frameCeil s.clk.rate (s.clk.stake + (t - s.clk.mono))) }
    | none => s) s1

/-! ### Outputs fall silent -/

/-- Every port and host output carries zero data, without a ramp. -/
def Port.zero (s : State) : State :=
  let s1 := (Tab.keys s.port.pages).foldl (fun s p =>
    Port.setPg s p { (Port.pg s p) with outReg := [], outStd := [], outPin := [], auxReg := [], auxPin := [] }) s
  { s1 with port := { s1.port with outGain := Ramp.const 0, sinkGain := Ramp.const 0, hostOut := [], hostPend := [] } }

/-- Every port stops its clocks and line coding. -/
def Port.haltAll (s : State) : State :=
  (Tab.keys s.port.pages).foldl (fun s p =>
    let x := Port.pg s p
    Port.setPg s p { x with rx := x.rx.halted, tx := x.tx.halted }) s

/-- Every power-stage channel goes Off. -/
def Pstg.allOff (s : State) : State := (Pstg.chans s).foldl (fun s c => Pstg.off s c 0) s

/-! ### The claim (R540) -/

/-- The claim and the output enables are released at once. A member of a pair that was active becomes a standby that is out of
step, or waits for the link while that is down. [DEDUCED, unsafe: log entry 123] -/
def Claim.release (s : State) : State :=
  let h := s.hoop
  let was := h.state = 5
  let s1 : State := { s with hoop := { h with claim := false, enables := false, claimRun := 0, drop := false
                                              state := if was then (if h.link then 4 else 1) else h.state
                                              joinWait := if was then 2 else h.joinWait } }
  if was then s1.irq 8 0 else s1

/-! ### Resets -/

/-- What a reset keeps: 0 PORST_N, 1 SYSRST_N (R56), 2 a retry from Boot-Wait or Safe-Hold (R515), 3 a wake, whose domains have
all been off. The AON domain holds the training store, the attempt count and the plait slot records; the levels at the pins,
OTP, flash and counters of time go on. [DEDUCED, unsafe: log entry 115; DEDUCED, unsafe: log entry 144] -/
def State.resetTo (s : State) (level : Nat) : State :=
  let keep := fun (a : Nat) =>
    let p := a / 0x1000
    (level == 2 && (p == 1 || p == 2 || p == 4 || p == 5 || p == 7)) || (decide (1 ≤ level) && a == Reg.bootAttempts)
  let keepMem := fun (a : Nat) =>
    (level == 2 && decide (winBase 2 ≤ a ∧ a < winBase 3)) ||
    ((level == 1 || level == 2) && decide (dramBase ≤ a)) || (level == 3 && decide (dramBase ≤ a ∧ a < csAddr 0))
  let b := s.boot
  let boot0 : BootSt := { otp := b.otp, sector0 := b.sector0, sector1 := b.sector1, env := b.env,
                          override := b.override, bootCode := b.bootCode, rolePin := b.rolePin, bootsel := b.bootsel
                          releaseAt := b.releaseAt }
  let boot1 : BootSt := if level = 0 then boot0 else { boot0 with train := b.train, trainValid := b.trainValid }
  let boot2 : BootSt := if level = 2 then { boot1 with fails := b.fails, safeOrigin := b.safeOrigin, source := b.source
                                                       slot := b.slot, kind := b.kind, lc := b.lc, fieldDebug := b.fieldDebug
                                                       erasing := b.erasing, otpBusy := b.otpBusy, otpFailed := b.otpFailed
                                                       heldShutdown := b.heldShutdown }
               else boot1
  let plait : PlaitSt :=
    if level = 0 then {}
    else { s.plait with
      slots := Tab.mapVals Plait.slotDefault (fun _ x =>
        if x.state = .open ∨ x.state = .pending then
          { x with state := .done, outcome := .abortReset, writes := [], floating := none, finished := s.plait.seq + 1 }
        else x) s.plait.slots
      seq := s.plait.seq + 1 }
  { variant := s.variant
    regs := s.regs.filter (fun e => keep e.1)
    eff := s.eff.filter (fun e => keep e.1)
    mem := s.mem.filter (fun e => keepMem e.1)
    clk := { mono := s.clk.mono, aon := s.clk.aon }
    ctl := if level = 2 then { dma := s.ctl.dma, vecPend := s.ctl.vecPend, spi := s.ctl.spi, latch := s.ctl.latch.filter (fun e => keep e.1) } else {}
    plait := plait
    fault := if level = 2 then { s.fault with freezeReq := none, releaseWait := 0, stallPending := false, stall := false }
             else { pinLow := s.fault.pinLow, collectorFail := level == 3 && s.fault.collectorFail }
    boot := { boot2 with inReset := false }
    bist := if level = 2 then s.bist else { window := s.bist.window }
    budget := { domains := presentDomains s.variant, v := 850 }
    jtag := { s.jtag with held := false }
    hoop := { peerClaim := s.hoop.peerClaim, floating := s.hoop.floating }
    freeCtr := s.freeCtr
    pending := s.pending }

/-- PORST_ASSERT and SYSRST_ASSERT: the reset holds until its release. -/
def State.assertReset (s : State) (level : Nat) : State :=
  let s1 := s.resetTo level
  { s1 with boot := { s1.boot with inReset := true, phase := 0 } }

/-! ### Power domains (R270 to R273) -/

/-- Domain `d`'s registers and arrays take their reset values. -/
def Domain.clear (s : State) (d : Nat) : State :=
  let mine := fun (a : Nat) => decide (pageDomain (a / 0x1000) = d)
  let minePage := fun (p : Nat) => decide (pageDomain p = d)
  let s1 : State := { s with
    regs := Tab.drop mine s.regs
    eff := Tab.drop mine s.eff
    mem := Tab.drop (fun a => decide (a < dramBase) && minePage ((a - 0x01000000) / 0x100000) ||
                              (d == 5 && decide (csAddr 0 ≤ a))) s.mem
    ctl := { s.ctl with commits := Tab.drop minePage s.ctl.commits, enabled := Tab.drop minePage s.ctl.enabled
                        enablePosts := Tab.drop minePage s.ctl.enablePosts, latch := Tab.drop mine s.ctl.latch } }
  match d with
  | 2 => { s1 with net := {}, stream := {}, stake := { s1.stake with ptp := [], selected := 0 } }
  | 3 => { s1 with port := {} }
  | 4 => { s1 with pstg := {}, lsup := {} }
  | 5 => { s1 with scene := {}, obj := {}, warp := {}, corr := Corr.fresh s1, route := {}, meter := {}, coil := {}, capt := {}, meas := {} }
  | 6 => { s1 with osier := { s1.osier with cores := Tab.drop (fun k => decide (k / 32 = 0)) s1.osier.cores } }
  | 7 => { s1 with osier := { s1.osier with cores := Tab.drop (fun k => decide (k / 32 = 1)) s1.osier.cores } }
  | 8 => { s1 with osier := { s1.osier with cores := Tab.drop (fun k => decide (k / 32 = 2)) s1.osier.cores } }
  | 9 => { s1 with osier := { s1.osier with cores := Tab.drop (fun k => decide (k / 32 = 3)) s1.osier.cores } }
  | 10 => { s1 with memc := { sr := s1.memc.sr, srWhy := s1.memc.srWhy } }
  | 11 =>
    { s1 with hoop := { role := s1.hoop.role, state := s1.hoop.state, readyAt := s1.hoop.readyAt, claim := s1.hoop.claim
                        enables := s1.hoop.enables, claimRun := s1.hoop.claimRun, peerClaim := s1.hoop.peerClaim
                        floating := s1.hoop.floating, claimDue := s1.hoop.claimDue, loaded := s1.hoop.loaded
                        linkDownAt := s1.clk.mono, refuseClaim := s1.hoop.refuseClaim } }
  | _ => s1

/-- BUDGET_DOMAIN takes effect: the domains begin their transitions; MEMC puts DRAM into self-refresh first (R273). -/
def Domain.begin (s : State) (new : Nat) : State :=
  if new = s.budget.domains then
    -- a change that comes back before its transition is over completes at once
    let s1 : State := { s with budget := { s.budget with transition := none } }
    if s.budget.transition.isSome then s1.irq 6 4 else s1
  else
    let s1 := if s.budget.domains.testBit 10 ∧ !new.testBit 10 then Memc.enterSr s 2 else s
    { s1 with budget := { s1.budget with transition := some new } }

/-- DOMAIN_TRANSITION_DONE. -/
def Domain.done (s : State) : State :=
  match s.budget.transition with
  | none => s
  | some new =>
    let cur := s.budget.domains
    let s1 := (List.range 12).foldl (fun s d => if cur.testBit d ≠ new.testBit d then Domain.clear s d else s) s
    let s2 := ({ s1 with budget := { s1.budget with domains := new, transition := none } } : State).irq 6 4
    if new.testBit 10 ∧ !cur.testBit 10 then Memc.powerOn s2 else s2

/-! ### Standby (R285, R286) -/

/-- A write of enter in BUDGET_STANDBY: refused while the rate code is not 0, or ticks still occur; else the claim is released,
DRAM keeps the named segments, and every domain but AON turns off. [DEDUCED, unsafe: log entry 68; DEDUCED, unsafe: log entry 110] -/
def Standby.enter (s : State) : State :=
  if fld (s.ef Reg.stakeRenderRate) 2 0 ≠ 0 ∨ s.clk.ticking then s.fault' 6 0x86
  else
    let w := s.rd Reg.budgetStandby
    let kept := fld w 31 24
    let s1 := Memc.enterSr (Claim.release s) 2
    let gpio := fun (a : Nat) => setFld 0 7 0 (fld (s.rd a) 7 0)
    let s2 := Memc.loseSegments (s1.resetTo 3) kept
    -- what AON holds for the wake: the standby settings, and the lower GPIOs' outputs
    let s3 := ((s2.wr Reg.budgetStandby w).wr Reg.hostGpioDir (gpio Reg.hostGpioDir)).wr Reg.hostGpioOut (gpio Reg.hostGpioOut)
    let vg := fld w 6 2
    let s4 := if bit w 1 ∧ vg < 8 then
        (s3.wr Reg.hostGpioDir (setBit (s3.rd Reg.hostGpioDir) vg true)).wr Reg.hostGpioOut (setBit (s3.rd Reg.hostGpioOut) vg false)
      else s3
    let t := fld w 23 12
    { s4 with
      budget := { s4.budget with domains := 1, standby := true
                                 wakeDue := if t = 0 then none else some (s.clk.aon + t * secU) }
      memc := { s4.memc with sr := 255, srWhy := 2 } }

/-! ### Freeze (R570 to R577) -/

/-- The write-backs in flight in a bank complete (R231, R571). -/
def Bank.quiesce (b : Bank) : Bank := b.wbs.foldl Bank.take { b with wbs := [] }

/-- At the quiescent point of a freeze each core has completed the bundle that it has issued, and its write-backs (R571). -/
def Osier.quiesce (s : State) : State :=
  { s with osier := { s.osier with
      cores := s.osier.cores.map (fun e => (e.1, { e.2 with b0 := Bank.quiesce e.2.b0, b1 := Bank.quiesce e.2.b1 })) } }

/-- A freeze with its cause: channels Quiet, claim released, the running measurement aborted, DRAM in self-refresh, and every
edge stopped with Stake time and frame index recorded (R571). [DEDUCED, unsafe: log entry 131] -/
def Freeze.enter (s : State) (cause : Nat) : State :=
  if s.fault.frozen then s
  else
    let s1 := Osier.quiesce (Meas.abort (Claim.release (Pstg.muteAll s 1)))
    let s2 := Memc.enterSr s1 1
    let s3 := s2.stopTicks
    let s4 : State := { s3 with
      clk := { s3.clk with phase := s2.clk.phase }
      hoop := { s3.hoop with claimDue := none }
      fault := { s3.fault with
        frozen := true, cause := cause, freezeStake := s2.clk.stake, freezeFrame := s2.clk.frame, freezeReq := none
        latchDue := if s.fault.latch ∧ s.rdF Reg.faultFreezeLimitS 11 0 ≠ 0
                    then some (s.clk.aon + s.rdF Reg.faultFreezeLimitS 11 0 * secU) else s.fault.latchDue } }
    s4.count Reg.faultFreezeCount 1

/-- A write of freeze in FAULT_CTRL sets the latch; the latch's limit counts in AON time (R576). [DEDUCED, unsafe: log entry 131] -/
def Freeze.setLatch (s : State) : State :=
  { s with fault := { s.fault with latch := true, freezeReq := some 2 } }

/-- The freeze-snapshot area of the device area (R467). [DEDUCED, unsafe: log entry 132] -/
def Freeze.snapBase (v : Variant) : Nat := Memc.deviceArea v + 0x04000000

/-- The condition of release holds. [DEDUCED, unsafe: log entry 131] -/
def Freeze.mayRelease (s : State) : Bool := s.fault.frozen && !s.fault.pinLow && !s.fault.latch

/-- Ticks stay stopped: in Boot-Wait, Safe-Hold and Halted, and from step 3 of a shutdown on (R515, R529, R532). [DEDUCED, unsafe: log entry 142] -/
def State.ticksHeld (s : State) : Bool :=
  let p := s.boot.phase
  p == 7 || p == 8 || p == 10 || (p == 9 && s.boot.shutStep != 2)

/-- Steps 5 and 6 of R576: ticks resume with the index that R17 gives, where a rate is in force and nothing else has stopped them.
[DEDUCED, unsafe: log entry 142] -/
def Freeze.resume (s : State) : State :=
  let s0 : State := { s with fault := { s.fault with releaseWait := 0 } }
  if !s.rateOn ∨ s.ticksHeld then s0
  else
    let n := frameCeil s0.clk.rate (s0.clk.stake + 1)
    let s1 := Plait.endPending s0 .abortLate (fun f => decide (f < n))
    Port.restart (Budget.restart (s1.startTicks n))

/-- Steps 1 to 4 of R576 but for the snapshot, and the rest at once where Stake time has no source to wait for. [DEDUCED, unsafe: log entry 131] -/
def Freeze.release (s : State) : State :=
  if !Freeze.mayRelease s then s
  else
    let s1 : State := { s with fault := { s.fault with frozen := false, cause := 0, latchDue := none }
                               clk := { s.clk with phase := 2 } }
    let s2 := (Memc.leaveSr s1).irq 7 2
    let s3 : State := { s2 with stake := { s2.stake with fresh := none, lastMeas := s2.clk.mono } }
    if !s3.rateOn then s3
    else if Stake.src s3 = 0 then Freeze.resume s3
    else
      let s4 : State := { s3 with fault := { s3.fault with releaseWait := 1 } }
      if s4.stake.servo = 1 then s4 else Stake.setServo s4 1

end Sys2Proof.Machine
end

