-- ==== Sys2Proof/Machine/Boot.lean ====
section
/-!
DEFINITION. Start attempts, Boot-Wait and Safe-Hold, the checks on an image, shutdown and its record, life cycle and OTP
commands, and self-test (R505 to R532).
-/
namespace Sys2Proof.Machine

def Boot.page : Nat := 4
def Bist.page : Nat := 5

/-! ### Safe-Hold and Boot-Wait (R515, R532) -/

/-- What Safe-Hold and Boot-Wait do at the pins: channels Off, outputs at zero, claim released, ticks stopped. [DEDUCED, unsafe: log entry 19] -/
def Boot.holdPins (s : State) : State :=
  let s1 := (Claim.release (Port.zero (Pstg.allOff s))).stopTicks
  { s1 with hoop := { s1.hoop with claimDue := none }, memc := { s1.memc with queue := [] } }

/-- Safe-Hold begins, for a further 10 s (R532). [DEDUCED, unsafe: log entry 112] -/
def Boot.enterHold (s : State) : State :=
  let s1 := (Boot.holdPins s).irq Boot.page 2
  { s1 with boot := { s1.boot with phase := 8, retryDue := some (s1.clk.mono + 10 * secU), hostDue := none, hostGo := none
                                   safeOrigin := true, shutStep := 0 } }

/-- A self-test failure is recorded: code 0x80 and the failing part and item (R532). [DEDUCED, unsafe: log entry 113] -/
def Bist.record (s : State) (part item : Nat) : State :=
  ((s.faultD Bist.page 0x80 item).irq Bist.page 0).wr Reg.bistResult (w32 (at_ 28 part + item % 65536))

/-- A self-test part fails: Safe-Hold. [DEDUCED, unsafe: log entry 113] -/
def Boot.safeHold (s : State) (part item : Nat) : State := Boot.enterHold (Bist.record s part item)

/-- The delay after the k-th consecutive failed attempt (R515). [DEDUCED, unsafe: log entry 112] -/
def Boot.delay (k : Nat) : Nat := min (10 * secU) (100 * msU * 2 ^ (k - 1))

/-- A start attempt fails with a code: Boot-Wait, or Safe-Hold again for an attempt made from there (R515, R532). [DEDUCED, unsafe: log entry 112] -/
def Boot.fail (s : State) (code : Nat) : State :=
  let s1 := ((s.fault' Boot.page code).irq Boot.page 1).wr Reg.bootLastErr (w32 (at_ 8 s.boot.source + code))
  let k := s.boot.fails + 1
  let s2 : State := { s1 with boot := { s1.boot with fails := k } }
  if s.boot.safeOrigin then Boot.enterHold s2
  else
    let s3 := Boot.holdPins s2
    { s3 with boot := { s3.boot with phase := 7, retryDue := some (s3.clk.mono + Boot.delay k), hostDue := none, hostGo := none } }

/-- A self-test failure during a start attempt counts as a failed attempt and leads to Safe-Hold. [DEDUCED, unsafe: log entry 113] -/
def Boot.failTest (s : State) (part item : Nat) : State :=
  let s1 := s.irq Boot.page 1
  Boot.safeHold { s1 with boot := { s1.boot with fails := s1.boot.fails + 1 } } part item

/-! ### The shutdown record (R530) -/

/-- Byte `i` of a sector; past the listed bytes the flash is erased. [DEDUCED, safe: log entry 121] -/
def Flash.byte (l : List Byte) (i : Nat) : Byte := nth 0xFF l i
def Flash.num (l : List Byte) (i n : Nat) : Nat := ofLe ((List.range n).map (fun k => Flash.byte l (i + k)))

/-- CRC-32 over bytes 0x0000 to 0x403F with the consumed word taken as 0xFF. -/
def Flash.crc (l : List Byte) : Nat :=
  crc32 ((List.range 0x4040).map (fun i => if 0x20 ≤ i ∧ i < 0x24 then 0xFF else Flash.byte l i))

/-- The sector reads 0xFF in its first four bytes. -/
def Flash.blank (l : List Byte) : Bool := Flash.num l 0 4 == 0xFFFFFFFF

/-- The sector holds a valid record. -/
def Flash.valid (s : State) (l : List Byte) : Bool :=
  Flash.num l 0 4 == 0x52444853 && Flash.num l 4 2 == 1 && Flash.num l 8 8 == Otp.deviceId s &&
  Flash.num l 0x4040 4 == Flash.crc l && Flash.num l 0x1C 4 % 32 == 31 && Flash.num l 0x20 4 == 0xFFFFFFFF

/-- The sector with a valid record, if one has it. -/
def Boot.validRecord (s : State) : Option Nat :=
  if Flash.valid s s.boot.sector0 then some 0 else if Flash.valid s s.boot.sector1 then some 1 else none

def Boot.sector (s : State) (k : Nat) : List Byte := if k = 0 then s.boot.sector0 else s.boot.sector1

def Boot.setSector (s : State) (k : Nat) (l : List Byte) : State :=
  if k = 0 then { s with boot := { s.boot with sector0 := l } } else { s with boot := { s.boot with sector1 := l } }

/-- A start consumes the record in sector `k`: the consumed word is programmed to zero, and the training of each set point that
the record holds goes to the AON store (R482, R509). [DEDUCED, safe: log entry 121] -/
def Boot.consume (s : State) (k : Nat) : State :=
  let l := Boot.sector s k
  let valid := Flash.num l 0x24 4 % 16
  let l' := (List.range l.length).map (fun i => if 0x20 ≤ i ∧ i < 0x24 then 0 else Flash.byte l i)
  let s1 := Boot.setSector s k l'
  let train := (List.range 4).foldl (fun (t : Tab (Nat × List Byte)) c =>
    if valid.testBit c then
      Tab.set (fun _ => (0, [])) t c (0, (List.range 0x1000).map (fun i => Flash.byte l (0x40 + c * 0x1000 + i)))
    else t) s1.boot.train
  { s1 with boot := { s1.boot with train := train, trainValid := s1.boot.trainValid ||| valid } }

/-- The record's bytes; `result` is its result word. -/
def Boot.recordBytes (s : State) (result : Nat) : List Byte :=
  let body := leBytes 4 0x52444853 ++ leBytes 2 1 ++ leBytes 2 0 ++ leBytes 8 (Otp.deviceId s) ++ leBytes 8 (secsOf s.clk.stake) ++
    leBytes 4 (s.rd Reg.bootAttempts).toNat ++ leBytes 4 result ++ leBytes 4 0xFFFFFFFF ++ leBytes 4 s.boot.trainValid ++
    List.replicate 24 0 ++ (List.range 0x4000).map (Memc.storeByte s)
  body ++ leBytes 4 (crc32 body)

/-- The record is written into a sector that reads 0xFF in its first four bytes; none is written where neither does. [DEDUCED, safe: log entry 121] -/
def Boot.writeRecord (s : State) (result : Nat) : State :=
  if Flash.blank s.boot.sector0 then Boot.setSector s 0 (Boot.recordBytes s result)
  else if Flash.blank s.boot.sector1 then Boot.setSector s 1 (Boot.recordBytes s result)
  else s

/-- Some record sector holds a consumed or invalid record. -/
def Boot.mustErase (s : State) : Bool :=
  ([0, 1] : List Nat).any (fun k => !Flash.blank (Boot.sector s k) && !Flash.valid s (Boot.sector s k))

/-- RECORD_ERASE. [DEDUCED, safe: log entry 121] -/
def Boot.erase (s : State) : State :=
  if !s.boot.erasing then s
  else
    let s1 := ([0, 1] : List Nat).foldl (fun s k =>
      if !Flash.blank (Boot.sector s k) && !Flash.valid s (Boot.sector s k) then Boot.setSector s k [] else s) s
    { s1 with boot := { s1.boot with erasing := false } }

/-! ### Start attempts (R506 to R515) -/

/-- The straps-override record in force with its enable bit set (R506, R522). -/
def Boot.strapsOverride (s : State) : Option Nat :=
  match Otp.record s .straps with
  | some w => if w % 2 = 1 then some w else none
  | none => none

/-- The source of an attempt after `k` failures (R506, R515): 0 QSPI, 1 PCIe. [DEDUCED, unsafe: log entry 119] -/
def Boot.sourceOf (code k : Nat) : Nat :=
  match code with | 0 => 0 | 1 => 1 | 2 => k % 2 | _ => (k + 1) % 2

/-- The Hoop role of R536: 0 unpaired, 1 primary, 2 secondary. [DEDUCED, unsafe: log entry 128] -/
def Boot.hoopRole (s : State) : Nat :=
  if !s.variant.hasHoop then 0
  else match (Otp.record s .role).getD 0 % 4 with
    | 1 => 1
    | 2 => 2
    | 3 => 0
    | _ => if s.boot.rolePin = 1 then 1 else 2

/-- The straps are sampled at a reset release, and the boot code comes from the override or the pins (R506). [DEDUCED, unsafe: log entry 128] -/
def Boot.sample (s : State) : State :=
  let e := s.boot.env
  let o := Boot.strapsOverride s
  { s with boot := { s.boot with
    bootsel := e.bootsel % 4, rolePin := b2n e.role, override := o.isSome
    bootCode := match o with | some w => w / 2 % 4 | none => e.bootsel % 4
    releaseAt := s.clk.mono } }

/-- The image may be loaded: the source of the attempt is in force (R514). [DEDUCED, unsafe: log entry 114] -/
def Boot.load (s : State) : State :=
  { s with boot := { s.boot with
    phase := 4
    hostDue := if s.boot.source = 1 ∧ 2 ≤ s.boot.bootCode then some (s.clk.mono + 2 * secU) else none } }

/-- Parts 1 to 3 of the full test end (R508, R526); part 4 follows the image check. -/
def Boot.testDone (s : State) : State :=
  let e := s.boot.env
  let reduced := s.hoop.peerClaim && s.hoop.role != 0
  let s1 := s.wr Reg.bistStatus (setBit (setFld (s.rd Reg.bistStatus) 3 0 7) 5 reduced)
  let s2 := if reduced then s1.fault' Bist.page 0x84 else s1
  match e.testFail with
  | some (part, item) =>
    if part ≤ 3 then Boot.failTest (s2.wrF Reg.bistStatus 3 0 (7 - 2 ^ (part - 1))) part item else Boot.load s2
  | none => Boot.load s2

/-- The self-test of a full start: it waits while the window of R528 does not hold, with code 0x81 once per wait. -/
def Boot.test (s : State) : State :=
  if s.bist.window % 16 = 15 then Boot.testDone s
  else
    let s1 := (s.fault' Bist.page 0x81).irq Bist.page 2
    { s1 with bist := { s1.bist with waiting := true } }

/-- A start attempt of a kind (0 full, 1 quick, 2 wake), from its first step to the image load; the device has been reset.
[DESIGN CHOICE, unsafe: log entry 6; DEDUCED, unsafe: log entry 114; DEDUCED, unsafe: log entry 115] -/
def Boot.begin (s : State) (kind : Nat) : State :=
  let e := s.boot.env
  let s1 := s.count Reg.bootAttempts 1
  let s2 : State := { s1 with
    boot := { s1.boot with phase := 1, kind := kind, source := Boot.sourceOf s1.boot.bootCode s1.boot.fails, retryDue := none }
    bist := { s1.bist with window := e.window % 16, waiting := false } }
  if !e.pllLock then Boot.fail (s2.pass (3 * msU)) 0x88
  else
    let s3 := s2.pass (e.elapsed * nsU)
    let v := Otp.variant s3
    let s4 : State := { s3 with
      variant := v
      boot := { s3.boot with phase := 3, lc := Otp.lifeCycle s3, fieldDebug := (Otp.record s3 .fieldDebug).getD 0 % 2 == 1 }
      budget := { s3.budget with domains := presentDomains v } }
    let role := Boot.hoopRole s4
    let s5 : State := { s4 with hoop := { s4.hoop with role := role, state := if role = 0 then 0 else 1, peerClaim := e.claimIn } }
    match kind with
    | 2 => Boot.load s5
    | 1 => Boot.load (match Boot.validRecord s5 with | some k => Boot.consume s5 k | none => s5)
    | _ =>
      let s6 := Memc.trained s5 15 e.trainFail
      let s7 := if e.badBank then s6.fault' Bist.page 0x81 else s6
      Boot.test s7

/-- RESET_RELEASE (R505 to R509). [DEDUCED, unsafe: log entry 114] -/
def Boot.release (s : State) (e : StartEnv) : State :=
  if !s.boot.inReset then s
  else
    let s1 := Boot.sample { s with boot := { s.boot with inReset := false, env := e } }
    Boot.begin s1 (if (Boot.validRecord s1).isSome then 1 else 0)

/-- A retry resets every domain but what R515 keeps, and begins a full start. [DEDUCED, unsafe: log entry 115] -/
def Boot.retry (s : State) : State := Boot.begin (s.resetTo 2) 0

/-- BOOT_RETRY and SAFE_HOLD_RETRY: the delay ends.
[DESIGN CHOICE, safe: log entry 9; DESIGN CHOICE, unsafe: log entry 10; DEDUCED, unsafe: log entry 112] -/
def Boot.retryDue (s : State) (phase : Nat) (e : StartEnv) : State :=
  match s.boot.retryDue with
  | some t => if s.boot.phase = phase then Boot.retry { (s.toMono t) with boot := { s.boot with env := e } } else s
  | none => s

/-- BOOT_CMD op 2: from Boot-Wait, Safe-Hold or Halted (R529, R532, R533). -/
def Boot.attemptCmd (s : State) (e : StartEnv) : State :=
  let p := s.boot.phase
  if (p = 7 ∨ p = 8 ∨ p = 10) ∧ !s.jtag.held then
    let s1 : State := { s with boot := { s.boot with env := e, safeOrigin := p == 8 } }
    Boot.retry s1
  else s

/-- SELFTEST_WINDOW_HELD: the window holds, and a waiting start goes on (R528). -/
def Boot.windowHeld (s : State) : State :=
  let s1 : State := { s with bist := { s.bist with window := 15, waiting := false } }
  if s.bist.waiting ∧ s.boot.phase = 3 then Boot.testDone s1 else s1

/-- HOST_LOAD_TIMEOUT (R514). [DEDUCED, unsafe: log entry 119] -/
def Boot.hostTimeout (s : State) : State :=
  match s.boot.hostDue with
  | some t => if s.boot.phase = 4 ∧ s.boot.hostGo = none then Boot.fail (s.toMono t) 0x80 else s
  | none => s

/-! ### The checks on an image (R516 to R518) -/

def Img.num (l : List Byte) (i n : Nat) : Nat := ofLe ((l.drop i).take n)
def Img.be (l : List Byte) (i n : Nat) : Nat := ofBe ((l.drop i).take n)
def Img.zero (l : List Byte) (i n : Nat) : Bool := ((l.drop i).take n).all (fun b => b == 0)

/-- One entry of the section table: type, offset and length. -/
structure Section where
  kind : Nat
  off : Nat
  len : Nat
  reserved : Bool
  deriving DecidableEq, Repr

/-- DEDUCED, unsafe: log entry 117. -/
def Img.sections (l : List Byte) : List Section :=
  (List.range (Img.num l 0x0C 2)).map (fun i =>
    let a := 0x100 + 16 * i
    { kind := Img.num l a 2, off := Img.num l (a + 4) 4, len := Img.num l (a + 8) 4
      reserved := Img.zero l (a + 2) 2 && Img.zero l (a + 12) 4 })

/-- A signature is required in the life-cycle state in force (R521). -/
def Boot.needsSignature (s : State) : Bool := decide (2 ≤ s.boot.lc) || (Otp.inForce s .keyHash).isSome

/-- The boot-key hash in force, first byte most significant. -/
def Boot.keyHash (s : State) : Option Nat :=
  (Otp.inForce s .keyHash).map (fun k => ofBe ((List.range 32).map (fun i => Otp.byte s (0x200 + 36 * k + i))))

/-- An array load may go to `n` bytes at `a`: an array window, the common store, or DRAM outside the device area (R517).
[DEDUCED, unsafe: log entry 117] -/
def Boot.loadable (v : Variant) (a n : Nat) : Bool :=
  decide (0x01000000 ≤ a ∧ a + n ≤ 0x11000000) || inCommon a n || Memc.regionOk v a n

/-- Section `x` meets R517 and lies within `len`. [DEDUCED, unsafe: log entry 117] -/
def Boot.sectionOk (s : State) (l : List Byte) (len : Nat) (x : Section) : Bool :=
  x.reserved && x.off % 16 == 0 && decide (x.off + x.len ≤ len) &&
  (match x.kind with
   | 1 => true
   | 2 => decide (8 ≤ x.len) && Boot.loadable s.variant (Img.num l x.off 8) (x.len - 8)
   | 3 => x.len % 8 == 0 && decide (8 ≤ x.len ∧ x.len ≤ 8 * 4096)
   | _ => false)

/-- The code with which an image fails, if it does: the checks in the order of R518. `avail` is the source's length.
[DEDUCED, unsafe: log entry 117] -/
def Boot.check (s : State) (l : List Byte) (avail : Nat) : Option Nat :=
  let len := Img.num l 8 4
  let secs := Img.sections l
  let mask := Img.num l 0x10 4
  if !(decide (256 ≤ l.length) && Img.num l 0 4 == 0x49424E5A && Img.num l 4 2 == 1 && Img.num l 6 2 == 256 &&
       Img.zero l 0x0E 2 && Img.zero l 0x14 4 && Img.zero l 0xA0 96 && decide (mask < 8) &&
       decide (512 ≤ len ∧ len ≤ 16777216 ∧ len ≤ avail ∧ len ≤ l.length) &&
       decide (1 ≤ Img.num l 0x0C 2 ∧ Img.num l 0x0C 2 ≤ 64)) then some 0x81
  else if !mask.testBit s.variant.code then some 0x82
  else
    let need := Boot.needsSignature s
    if need ∧ Boot.keyHash s ≠ some (sha256 ((l.drop 0x20).take 64)) then some 0x83
    else
      let whole := (l.take 0x60) ++ List.replicate 64 0 ++ ((l.take len).drop 0xA0)
      if need ∧ !ecdsaOk (Img.be l 0x20 32) (Img.be l 0x40 32) (Img.be l 0x60 32) (Img.be l 0x80 32) (sha256 whole) then some 0x84
      else if !(secs.all (Boot.sectionOk s l len) && (secs.filter (fun x => x.kind == 3)).length == 1 &&
                (secs.getLast?.map (·.kind)) == some 3) then some 0x85
      else none

/-- The host-loaded image in the common store (R514). -/
def Boot.hostImage (s : State) (len : Nat) : List Byte := s.ldN (csAddr 0) len

/-- A write of BOOT_HOST_GO (R514, R518): it starts the load of a PCIe attempt. [DEDUCED, unsafe: log entry 119] -/
def Boot.go (s : State) (len : Nat) : State :=
  if s.boot.phase ≠ 4 ∨ s.boot.source ≠ 1 ∨ s.boot.hostGo.isSome then s
  else if len = 0 ∨ 16777216 < len then Boot.fail s 0x81
  else match Boot.check s (Boot.hostImage s len) len with
    | some code => Boot.fail s code
    | none => { s with boot := { s.boot with hostGo := some len, hostDue := none } }

/-! ### Shutdown (R529) -/

/-- Steps 3 to 6 follow from their instants. [DEDUCED, unsafe: log entry 113] -/
def Shutdown.step (s : State) : State :=
  let b := s.boot
  let at_step := fun (s : State) (k d : Nat) => ({ s with boot := { s.boot with shutStep := k, shutDue := s.boot.shutDue + d } } : State)
  if b.shutStep = 2 then
    -- step 3: the claim is released and the ports run their lead-out
    let s1 := Pstg.allOff (Claim.release s)
    let s2 := (Tab.keys s1.port.pages).foldl (fun s p => Port.stop (Port.stop s p true) p false) s1
    at_step { s2 with hoop := { s2.hoop with claimDue := none } } 3 (2 * msU)
  else if b.shutStep = 3 then
    let s1 := (Port.haltAll (Port.zero s)).stopTicks
    at_step { s1 with hoop := { s1.hoop with claimDue := none }, fault := { s1.fault with releaseWait := 0 } } 4 (if s.bist.window % 16 = 15 then 180 * msU else 0)
  else if b.shutStep = 4 then
    -- the full test has ended, or was not run
    if s.bist.window % 16 = 15 then
      let reduced := s.hoop.peerClaim && s.hoop.role != 0
      let passed := match b.env.testFail with | some (p, _) => 15 - 2 ^ ((p - 1) % 4) | none => 15
      let s1 := s.wr Reg.bistStatus (setBit (setFld (s.rd Reg.bistStatus) 3 0 passed) 5 reduced)
      let s2 := if reduced then s1.fault' Bist.page 0x84 else s1
      let s3 : State := match b.env.testFail with
        | some (p, i) => let s' := Bist.record s2 p i; { s' with boot := { s'.boot with failedTest := true } }
        | none => s2
      at_step (Boot.writeRecord s3 (passed + 16 + at_ 5 (b2n reduced))) 5 (35 * msU)
    else at_step (Boot.writeRecord s 0) 5 (35 * msU)
  else { s with boot := { s.boot with phase := 10, shutStep := 0 } }

/-- A shutdown in progress goes through the steps whose instants have come. -/
def Shutdown.progress : Nat → State → State
  | 0, s => s
  | k + 1, s =>
    if s.boot.phase = 9 ∧ s.boot.shutStep ≠ 0 ∧ s.boot.shutDue ≤ s.clk.mono then Shutdown.progress k (Shutdown.step s) else s

/-- A request to shut down (R529), by phase: held during a start, from Ready with the ramp, from Boot-Wait and Safe-Hold at step
3, ignored otherwise. -/
def Shutdown.request (s : State) : State :=
  let p := s.boot.phase
  if 1 ≤ p ∧ p ≤ 5 then { s with boot := { s.boot with heldShutdown := true } }
  else if p = 6 then
    let n := s.clk.frame
    let s1 := Port.rampDown s n
    let s2 := (Pstg.chans s1).foldl (fun s c => Pstg.rampDown s c 2 n) s1
    { s2 with boot := { s2.boot with phase := 9, shutStep := 2, shutDue := s2.clk.mono + 20 * msU, heldShutdown := false } }
  else if p = 7 ∨ p = 8 then
    { s with boot := { s.boot with phase := 9, shutStep := 2, shutDue := s.clk.mono, retryDue := none } }
  else s

/-- SHUTDOWN_PIN: at a frozen device the request is held until release (R572); in reset and standby nothing acts on it.
[DEDUCED, unsafe: log entry 141] -/
def Shutdown.pin (s : State) : State :=
  if s.running then Shutdown.request s
  else if s.fault.frozen ∧ !s.boot.inReset ∧ !s.budget.standby then { s with fault := { s.fault with heldShutdown := true } }
  else s

/-- After a release from freeze, a request to shut down that was held is made (R572). [DEDUCED, unsafe: log entry 141] -/
def Shutdown.heldRequest (s : State) : State :=
  if s.fault.heldShutdown then Shutdown.request { s with fault := { s.fault with heldShutdown := false } } else s

/-! ### Life cycle and OTP commands (R520, R525) -/

/-- Tj lies from −20 °C to 85 °C; VANA within its operating range lies within ±5 % (R525, R587). -/
def Otp.conditions (s : State) : Bool := decide (-320 ≤ s.budget.tj ∧ s.budget.tj ≤ 1360)

def Otp.setByte (s : State) (a : Nat) (b : Byte) : State :=
  { s with boot := { s.boot with otp := Tab.set (fun _ => (0 : Byte)) s.boot.otp a b } }

/-- BOOT_CMD op 3. [DEDUCED, unsafe: log entry 120] -/
def Otp.advance (s : State) (target confirm : Nat) : State :=
  if target ≠ s.boot.lc + 1 ∨ confirm ≠ 0x4C43 ∨ (target = 2 ∧ Otp.inForce s .keyHash = none) ∨ !Otp.conditions s then
    s.fault' Boot.page 0x8A
  else
    let s1 := Otp.setByte s (0x20 + (target - 1)) 0xFF
    { s1 with boot := { s1.boot with otpBusy := true, otpFailed := false } }

/-- One-time fields: first byte and size (R522). [DEDUCED, unsafe: log entry 120] -/
def Otp.fields : List (Nat × Nat) := [(0, 8), (8, 8), (0x10, 6), (0x16, 6), (0x1C, 4), (0x100, 256)]

/-- A program of the word at byte address `a` is refused (R525). [DEDUCED, unsafe: log entry 120] -/
def Otp.refused (s : State) (a : Nat) : Bool :=
  let oneTime := Otp.fields.filter (fun f => decide (f.1 < a + 4 ∧ a < f.1 + f.2))
  let written := fun (f : Nat × Nat) => (List.range f.2).any (fun i => Otp.byte s (f.1 + i) != 0)
  let slot4 := fun (r : OtpRecord) =>
    decide (r.base ≤ a ∧ a < r.base + 4 * r.size) &&
    (List.range r.size).any (fun i => Otp.byte s (r.base + 3 * r.size + i) != 0)
  (!oneTime.isEmpty && (decide (2 ≤ s.boot.lc) || oneTime.any written)) ||
  decide ((0x24 ≤ a ∧ a < 0x100) ∨ (0x2F0 ≤ a)) ||
  ([OtpRecord.keyHash, .role, .straps, .fieldDebug] : List OtpRecord).any slot4 ||
  !Otp.conditions s

/-- BOOT_OTP_CMD op 1. [DEDUCED, unsafe: log entry 120] -/
def Otp.readCmd (s : State) : State :=
  let s1 := s.wr Reg.bootOtpData (Otp.word s (4 * s.rdF Reg.bootOtpAddr 8 0))
  { s1 with boot := { s1.boot with otpBusy := true, otpFailed := false } }

/-- BOOT_OTP_CMD op 2. [DEDUCED, unsafe: log entry 120] -/
def Otp.programCmd (s : State) : State :=
  let a := 4 * s.rdF Reg.bootOtpAddr 8 0
  if Otp.refused s a then
    let s1 := s.fault' Boot.page 0x8B
    { s1 with boot := { s1.boot with otpFailed := true } }
  else
    let d := (s.rd Reg.bootOtpData).toNat
    let s1 := (List.range 4).foldl (fun s i => Otp.setByte s (a + i) (Otp.byte s (a + i) ||| BitVec.ofNat 8 (d >>> (8 * i)))) s
    { s1 with boot := { s1.boot with otpBusy := true, otpFailed := false } }

/-- OTP_OPERATION_DONE. [DEDUCED, unsafe: log entry 120] -/
def Otp.done (s : State) : State :=
  if s.boot.otpBusy then ({ s with boot := { s.boot with otpBusy := false } } : State).irq Boot.page 3 else s

/-! ### Self-test in operation (R531, R535) -/

/-- BIST_INJECT is pending for a ball, and is used up. [DEDUCED, unsafe: log entry 122] -/
def Bist.takeInject (s : State) (ball : Nat) : Bool × State :=
  if Tab.get (fun _ => false) s.bist.inject ball then
    (true, { s with bist := { s.bist with inject := Tab.set (fun _ => false) s.bist.inject ball false } })
  else (false, s)

/-- PIN_READBACK: a driven pin is compared with its pad. [DEDUCED, unsafe: log entry 122] -/
def Bist.readback (s : State) (ball : Nat) (same : Bool) : State :=
  if s.boot.phase ≠ 6 then s
  else
    let (inj, s1) := Bist.takeInject s ball
    let n := if inj then 8 else if same then 0 else Tab.get (fun _ => 0) s1.bist.mismatch ball + 1
    if 8 ≤ n then Boot.safeHold s1 5 ball
    else { s1 with bist := { s1.bist with mismatch := Tab.set (fun _ => 0) s1.bist.mismatch ball n } }

/-- SELFTEST_SLICE: a slice of part `part` on `item` runs, or is skipped outside the window; `last` completes the cycle.
[DEDUCED, unsafe: log entry 122] -/
def Bist.slice (s : State) (part item window : Nat) (ok last : Bool) : State :=
  let s0 : State := { s with bist := { s.bist with window := window % 16 } }
  if s.boot.phase ≠ 6 ∨ !s.tier3 then s0
  else if window % 16 ≠ 15 then s0.count Reg.bistDeferCount 1
  else
    let (inj, s1) := if part = 1 then Bist.takeInject s0 item else (false, s0)
    if inj ∨ !ok then Boot.safeHold s1 part item
    else
      let now := s1.clk.mono
      let s2 : State := { s1 with bist := { s1.bist with
        lapse := false, lastSlice := now, slice := some (part, item)
        sliceDone := Tab.set (fun _ => false) s1.bist.sliceDone (65536 * part + item) true } }
      if last then
        let s3 := s2.wrF Reg.bistStatus 15 8 (min 255 ((now - s2.bist.cycleStart) / msU))
        { s3 with bist := { s3.bist with cycleStart := now, sliceDone := [] } }
      else s2

/-- SLICE_ABANDON: the slice counts as not done. -/
def Bist.abandon (s : State) : State :=
  match s.bist.slice with
  | some (part, item) =>
    let s1 := s.count Reg.bistAbandonCount 1
    { s1 with bist := { s1.bist with slice := none
                                     sliceDone := Tab.set (fun _ => false) s1.bist.sliceDone (65536 * part + item) false } }
  | none => s

/-- COVERAGE_LAPSE: no slice for 50 ms. [DEDUCED, unsafe: log entry 122] -/
def Bist.coverage (s : State) : State :=
  if s.boot.phase ≠ 6 ∨ s.bist.lapse then s
  else
    let s1 := s.toMono (s.bist.lastSlice + 50 * msU)
    let s2 := ((s1.fault' Bist.page 0x82).irq Bist.page 1).count Reg.bistLapseCount 1
    { s2 with bist := { s2.bist with lapse := true } }

/-- BIST_RUN: where R521 permits it. Outside the window the test does not run and counts as deferred. [DEDUCED, unsafe: log entry 122] -/
def Bist.run (s : State) (parts : Nat) : State :=
  if !s.directControls then s.fault' Bist.page 0x85
  else if parts % 16 = 0 then s
  else if s.bist.window % 16 ≠ 15 then s.count Reg.bistDeferCount 1
  else { s with bist := { s.bist with running := parts % 16 } }

/-- BIST_RUN_DONE, with the failing part and item where one failed. -/
def Bist.runDone (s : State) (failed : Option (Nat × Nat)) : State :=
  if s.bist.running = 0 then s
  else
    let pins := s.bist.running % 2 = 1
    let s1 : State := ({ s with bist := { s.bist with running := 0 } } : State).irq Bist.page 3
    let s2 := if pins ∧ s.hoop.peerClaim ∧ s.hoop.role ≠ 0 then s1.fault' Bist.page 0x84 else s1
    match failed with
    | some (p, i) => Boot.safeHold s2 p i
    | none => s2

/-- BIST_INJECT: where R521 permits it. -/
def Bist.injectCmd (s : State) (item : Nat) : State :=
  if !s.directControls then s.fault' Bist.page 0x85
  else { s with bist := { s.bist with inject := Tab.set (fun _ => false) s.bist.inject (item % 65536) true } }

end Sys2Proof.Machine
end

