-- ==== Sys2Proof/Machine/Hoop.lean ====
section
/-!
DEFINITION. Hoop pairs: the claim interlock at a tick, heartbeats, frame records and reports, rejoin, planned handover and the
messages that the device sends (R536 to R560, and R132, R215, R282, R307, R322, R362, R368, R448 on a standby).
-/
namespace Sys2Proof.Machine

def Hoop.page : Nat := 8

def HoopSt.seq (h : HoopSt) (k : Nat) : Nat := Tab.get (fun _ => 0) h.seqs k

/-- Message `m` leaves on the link while it is up, with the next sequence count of its type (R544, R545). -/
def Hoop.sendMsg (s : State) (m : HoopSent) : State :=
  if !s.hoop.link ∨ s.hoop.role = 0 ∨ !s.pageUp Hoop.page then s
  else
    let q := s.hoop.seq m.kind
    { s with hoop := { s.hoop with
      seqs := Tab.set (fun _ => 0) s.hoop.seqs m.kind ((q + 1) % 2 ^ 32)
      sent := s.hoop.sent ++ [{ m with seq := q }] } }

/-- A message of type `kind` with its figures and captured writes leaves. -/
def Hoop.send (s : State) (kind frame : Nat) (fields : List Int) (writes : List (Nat × Word)) : State :=
  Hoop.sendMsg s { kind := kind, frame := frame, fields := fields, writes := writes }

/-- auto_resync and revert_en (R559). -/
def Hoop.autoResync (s : State) : Bool := s.efB Reg.hoopCtrl 1
def Hoop.revertEn (s : State) : Bool := s.efB Reg.hoopCtrl 0

/-! ### Rejoin (R554 to R556) -/

/-- A member whose variant or image differs from its peer's leaves the lockstep, or keeps out of it (R537). [DEDUCED, unsafe: log entry 143] -/
def Hoop.leaveStep (s : State) : State :=
  let was := s.hoop.state
  let s1 : State := { s with hoop := { s.hoop with
    state := 4, step := 0, joinWait := 0, matchFrom := none, holdFrom := none, requested := false } }
  if was = 3 then s1.irq Hoop.page 3 else if was = 1 ∨ was = 5 then s1.irq Hoop.page 0 else s1

/-- A rejoin begins at step 1: the Coil ends its activations and re-arms (R219, R555).
[DEDUCED, unsafe: log entry 125; DEDUCED, unsafe: log entry 143] -/
def Hoop.startRejoin (s : State) : State :=
  if s.hoop.mismatch then Hoop.leaveStep s else
  let was := s.hoop.state
  let s1 : State := { s with hoop := { s.hoop with
    state := 2, step := 1, joinFrame := none, region := 0, matchFrom := none, holdFrom := none, requested := false
    joinWait := 0, records := [], cuts := [] } }
  let s2 := Coil.restart (s1.count Reg.hoopResyncCount 1)
  if was = 1 ∨ was = 5 then s2.irq Hoop.page 0 else s2

/-- A failed rejoin starts again, or ends after the third in succession (R556). [DEDUCED, unsafe: log entry 125] -/
def Hoop.failRejoin (s : State) : State :=
  let k := s.hoop.fails + 1
  let s1 : State := { s with hoop := { s.hoop with fails := k } }
  if 3 ≤ k then
    (({ s1 with hoop := { s1.hoop with state := 4, step := 0, fails := 0, gaveUp := true } } : State).fault' Hoop.page 0x84).irq Hoop.page 6
  else Hoop.startRejoin s1

/-- A standby in step falls out of step with a code (R550). [DEDUCED, unsafe: log entry 125] -/
def Hoop.outOfStep (s : State) (code : Nat) : State :=
  if s.hoop.state ≠ 3 then s
  else
    let s1 := (({ s with hoop := { s.hoop with state := 4, holdFrom := none, requested := false } } : State).fault' Hoop.page code).irq Hoop.page 3
    if Hoop.autoResync s1 ∧ !s1.hoop.gaveUp then Hoop.startRejoin s1 else s1

/-- An entry of the region table (R560): address, length and writer group, where valid. [DEDUCED, unsafe: log entry 127] -/
def Hoop.regionEntry (s : State) (k : Nat) : Option (Nat × Nat × Nat) :=
  let a := winBase Hoop.page + 16 * k
  let w := s.ld32 (a + 4)
  if bit w 31 then
    some ((s.ld32 a).toNat + fld w 8 0 * 2 ^ 32, (s.ld32 (a + 8)).toNat, fld (s.ld32 (a + 12)) 5 0)
  else none

/-- A region that is unmapped, or lies in the device area, fails step 4. [DEDUCED, unsafe: log entry 127] -/
def Hoop.regionBad (s : State) (k : Nat) : Bool :=
  match Hoop.regionEntry s k with
  | none => false
  | some (a, n, _) => !(inCommon a n || Memc.regionOk s.variant a n)

/-- The first valid entry of the region table from `k` on, or 16 (R560). -/
def Hoop.nextRegion (s : State) (k : Nat) : Nat :=
  ((rangeFrom k (16 - k)).find? (fun i => (Hoop.regionEntry s i).isSome)).getD 16

/-- The region, by its entry, that holds address `a` (R560). -/
def Hoop.regionAt (s : State) (a : Nat) : Option Nat :=
  (List.range 16).find? (fun k => match Hoop.regionEntry s k with
    | some (x, n, _) => decide (x ≤ a ∧ a < x + n)
    | none => false)

/-- A standby's own write of a byte stands: not while the region that holds it is copied, and afterwards not where an activation
released before the region's cut tick writes it (R555). -/
def Hoop.stands (s : State) (b : Burst) (a : Nat) : Bool :=
  match Hoop.regionAt s a with
  | none => true
  | some k =>
    if s.hoop.state = 2 ∧ s.hoop.step = 4 ∧ s.hoop.region = k then false
    else match s.hoop.cuts.find? (fun e => e.1 == k) with
      | some (_, z) => !(decide (13 ≤ b.initiator ∧ b.initiator ≤ 16)) || decide (z ≤ b.release)
      | none => true

/-- The bytes of a write, with the strobes of those that a standby discards cleared (R555). -/
def Hoop.ownWrite (s : State) (b : Burst) : List (Byte × Bool) :=
  if !s.isStandby then b.data
  else b.data.zipIdx.map (fun p => (p.1.1, p.1.2 && Hoop.stands s b (b.addr + p.2)))

/-- The end of the step in progress, done or failed (REJOIN). In step 4 the copy of one region ends with each command, and the next tick
is its cut tick; the step ends with the last region. [DEDUCED, unsafe: log entry 127] -/
def Hoop.rejoinStep (s : State) (ok : Bool) : State :=
  let h := s.hoop
  if h.state ≠ 2 ∨ h.step ≤ 1 then s
  else if !ok then Hoop.failRejoin s
  else
    let goTo := fun (k : Nat) => ({ s with hoop := { h with step := k } } : State)
    match h.step with
    | 2 => goTo 3
    | 3 =>
      if (List.range 16).any (Hoop.regionBad s) then Hoop.failRejoin s
      else { s with hoop := { h with step := 4, region := Hoop.nextRegion s 0 } }
    | 4 =>
      let cuts := if h.region < 16 then h.cuts ++ [(h.region, s.clk.nextTick)] else h.cuts
      let k := Hoop.nextRegion s (h.region + 1)
      if k < 16 then { s with hoop := { h with region := k, cuts := cuts } }
      else { s with hoop := { h with step := 5, cuts := cuts, settleEnd := s.clk.frame + 65536 + cdiv (rateHz s.clk.rate) 10 } }
    | 5 =>
      if s.clk.frame < h.settleEnd then s
      else
        -- meters and capture detectors restart on the standby
        { s with
          hoop := { h with step := 6, matchFrom := none }
          meter := { s.meter with points := [], loud := [] }
          capt := { s.capt with chains := Tab.mapVals (fun _ => ({} : Chain)) (fun _ x => { x with peak := 0, win := [], env := 0, above := false }) s.capt.chains } }
    | _ =>
      match h.matchFrom with
      | none => s
      | some f =>
        if s.clk.frame < f + rateHz s.clk.rate then s
        else
          ({ s with hoop := { h with state := 3, step := 0, fails := 0, holdFrom := some s.clk.frame, requested := false } } : State).irq Hoop.page 2

/-- A frame of [from, to] falls in one of the slots lo … hi − 1 of a ring of `r` slots. -/
def ringHit (r lo hi from_ to_ : Nat) : Bool :=
  decide (r ≤ to_ - from_ + 1) ||
    (if from_ % r ≤ to_ % r then decide (from_ % r < hi ∧ lo ≤ to_ % r) else decide (from_ % r < hi ∨ lo ≤ to_ % r))

/-- The member has itself written to a block of the delay-line region since frame j of its rejoin (R118, R555). -/
def Hoop.wroteLine (s : State) (addr len : Nat) : Bool :=
  let st := Obj.stride s.clk.rate
  let base := s.ef64 Reg.objDlineBaseLo Reg.objDlineBaseHi % 2 ^ 40
  let i := (addr - base) / st
  let o := (addr - base) % st
  let f := Obj.fe s i
  decide (base ≤ addr) && f.enabled && !f.bed &&
    ringHit (st / 4) (o / 4) (cdiv (o + len) 4) (s.hoop.joinFrame.getD s.clk.frame) s.clk.frame

/-- An item of a resync message is applied (R555). [DEDUCED, unsafe: log entry 127] -/
def Hoop.applyItem (s : State) (x : ResyncItem) : State :=
  match x with
  | .line addr bytes => if Hoop.wroteLine s addr bytes.length then s else s.stN addr bytes
  | .object obj pan fe =>
    let line := (Obj.fe s obj).line
    Obj.setFe (Scene.setObj s obj pan) obj { fe with line := line }
  | .warpRow row nodes r =>
    let s1 := nodes.foldl (fun s p => Warp.setNode s row p.1 p.2) s
    match r with
    | some v => { s1 with warp := { s1.warp with rows := Tab.set Warp.rowDefault s1.warp.rows row v } }
    | none => s1
  | .corr out ch => Corr.setOut s out ch
  | .routeNodes out nodes =>
    { s with route := { s.route with
      nodes := nodes.foldl (fun t p => Tab.set (fun _ => ({} : Ramp)) t (256 * p.1 + out) p.2) s.route.nodes } }
  | .routeParts sinks gens =>
    let s1 := sinks.foldl (fun s p => Route.setSink s p.1 p.2) s
    gens.foldl (fun s p => Route.setGen s p.1 p.2) s1
  | .pstg chans sag =>
    let s1 := chans.foldl (fun s p => Pstg.setCh s p.1 p.2) s
    { s1 with pstg := { s1.pstg with gSag := sag.foldl (fun t p => Tab.set (fun _ => one30) t p.1 p.2) s1.pstg.gSag } }
  | .osier core half bytes => s.stN (Osier.win core + half * 0x10000 + 0xF000) bytes
  | .region addr bytes => s.stN addr bytes

/-- The step of R555 in which an item belongs. -/
def Hoop.itemStep : ResyncItem → Nat
  | .line _ _ => 2
  | .region _ _ => 4
  | _ => 3

/-- RESYNC_MESSAGE: items act in the step in progress; a message whose CRC fails is counted. [DEDUCED, unsafe: log entry 127] -/
def Hoop.resync (s : State) (items : List ResyncItem) (crcOk : Bool) : State :=
  if !s.hoop.link ∨ s.hoop.role = 0 then s
  else if !crcOk then s.count Reg.hoopLinkErr 1
  else if s.hoop.state ≠ 2 then s
  else items.foldl (fun s x => if Hoop.itemStep x = s.hoop.step then Hoop.applyItem s x else s) s

/-! ### The claim at a tick (R540 to R543, R552, R557) -/

/-- 1.25 frame periods. -/
def Claim.period (s : State) : Nat := cdiv (5 * secU) (4 * max 1 (rateHz s.clk.rate))

/-- The member asserts its claim at tick `n`, and is the active from then on. [DEDUCED, unsafe: log entry 123; DEDUCED, unsafe: log entry 128] -/
def Claim.assert_ (s : State) (n : Nat) : State :=
  let was := s.hoop.state
  let s1 : State := { s with hoop := { s.hoop with
    claim := true, claimRun := 0, state := if s.hoop.role = 0 then 0 else 5, step := 0, joinWait := 0
    claimDue := some (s.clk.aon + Claim.period s), holdFrom := none, requested := false, records := [] } }
  if s.hoop.role = 0 then s1
  else
    let s1 := if s.isStandby then Lsup.takeOver (Pstg.takeOver s1) else s1
    let s2 := (s1.wr64 Reg.hoopLastSwitchFrameLo Reg.hoopLastSwitchFrameHi n).irq Hoop.page 1
    if 2 ≤ was ∧ was ≤ 4 then s2.count Reg.hoopSwitchCount 1 else s2

/-- The member may assert its claim at tick `n` when CLAIM_IN_N reads high. [DEDUCED, unsafe: log entry 123; DEDUCED, unsafe: log entry 124] -/
def Claim.may (s : State) (n : Nat) : Bool :=
  let h := s.hoop
  let handed : Bool := match h.incoming with | some t => decide (t < n) | none => true
  !h.claim && s.boot.phase == 6 && !h.refuseClaim && !h.yielded && handed && !(h.state == 2 && decide (1 ≤ h.step ∧ h.step ≤ 4)) &&
    (h.role == 0 || h.role == 1 || (h.peer.unable && h.link) || h.mayClaim || s.isStandby)

/-- The claim interlock at tick `n`, which reads CLAIM_IN_N low or high.
[DEDUCED, unsafe: log entry 123; DEDUCED, unsafe: log entry 124; DEDUCED, unsafe: log entry 125] -/
def Claim.tick (s : State) (n : Nat) (inLow : Bool) : State :=
  let low := s.hoop.role ≠ 0 && inLow
  -- a stall that the AON timer saw is recorded at the next tick (R566)
  let s1 : State := if s.fault.stallPending then
      ({ s with fault := { s.fault with stallPending := false } } : State).fault' 7 0x85 else s
  let s2 := if s1.hoop.drop then Claim.release s1 else s1
  let s3 : State := { s2 with hoop := { s2.hoop with peerClaim := low, floating := false } }
  -- the outgoing member of a planned handover
  let s4 : State := match s3.hoop.handover with
    | some t => if t ≤ n ∧ s3.hoop.claim then
        let r := Claim.release s3
        { r with hoop := { r.hoop with handover := none, yielded := true } } else s3
    | none => s3
  let s5 : State := if s4.hoop.yielded ∧ low then
      ({ s4 with hoop := { s4.hoop with yielded := false } } : State).irq Hoop.page 7 else s4
  -- a dual claim
  let s6 : State := if s5.hoop.claim ∧ low then
      let r : State := if s5.hoop.dualSeen then s5
        else (({ s5 with hoop := { s5.hoop with dualSeen := true } } : State).fault' Hoop.page 0x83).irq Hoop.page 5
      if r.hoop.role = 2 then { r with hoop := { r.hoop with drop := true } } else r
    else if !low then { s5 with hoop := { s5.hoop with dualSeen := false } } else s5
  let s7 := if !low ∧ Claim.may s6 n then Claim.assert_ s6 n else s6
  -- the frame pipeline retriggers the timer
  let s8 : State := if s7.hoop.loaded ∧ s7.boot.phase = 6 ∧ s7.hoop.claim then
      { s7 with hoop := { s7.hoop with claimDue := some (s7.clk.aon + Claim.period s7) }, fault := { s7.fault with stall := false } }
    else s7
  -- the output enables open at the second consecutive tick
  let run := if s8.hoop.claim ∧ !low then s8.hoop.claimRun + 1 else 0
  let opens := decide (2 ≤ run) && !s8.hoop.enables
  let s9 : State := { s8 with hoop := { s8.hoop with claimRun := min run 2, enables := s8.hoop.enables || opens } }
  let s10 : State := if opens ∧ s9.hoop.incoming.isSome then
      ({ s9 with hoop := { s9.hoop with incoming := none } } : State).irq Hoop.page 7 else s9
  -- a member that finds its peer's claim asserted rejoins
  if low ∧ s10.hoop.link ∧ !s10.hoop.claim ∧
      (s10.hoop.joinWait = 1 ∨ (s10.hoop.joinWait = 2 ∧ Hoop.autoResync s10 ∧ !s10.hoop.gaveUp)) then Hoop.startRejoin s10
  else s10

/-- CLAIM_TIMEOUT: the AON timer expires before the next tick can retrigger it; nothing retriggers it meanwhile. [DEDUCED, unsafe: log entry 123] -/
def Claim.timeout (s : State) : State :=
  match s.hoop.claimDue with
  | none => s
  | some t =>
    if !s.hoop.claim ∨ (s.clk.ticking ∧ s.hoop.loaded ∧ s.nextTickAt - s.clk.stake < t - s.clk.aon) then s
    else
      let s1 := Claim.release (s.pass (t - s.clk.aon))
      let stalls := s.boot.phase = 6 && !s.fault.frozen && !s.budget.standby
      { s1 with hoop := { s1.hoop with claimDue := none, joinWait := if s1.hoop.state = 4 then 2 else s1.hoop.joinWait }
                fault := { s1.fault with stall := s1.fault.stall || stalls, stallPending := s1.fault.stallPending || stalls } }

/-- SECONDARY_CLAIM_TIMEOUT: 1 s after Ready with the link down, a secondary may claim. -/
def Claim.secondary (s : State) : State :=
  if s.hoop.role ≠ 2 ∨ s.hoop.link ∨ s.boot.phase ≠ 6 ∨ s.hoop.claim then s
  else
    let s1 := s.toMono (max s.hoop.linkDownAt s.hoop.readyAt + secU)
    { s1 with hoop := { s1.hoop with mayClaim := true } }

/-! ### Heartbeats and the link (R536, R537, R539, R544, R545, R550) -/

/-- HEARTBEAT. [DEDUCED, unsafe: log entry 143] -/
def Hoop.heartbeat (s : State) (b : Heartbeat) : State :=
  if !s.hoop.link ∨ s.hoop.role = 0 ∨ !s.pageUp Hoop.page then s
  else if !b.crcOk then s.count Reg.hoopLinkErr 1
  else
    let peer : PeerSt := { role := b.role, state := b.state, id := b.id, variant := b.variant, build := b.build
                           claim := b.claim, unable := b.unable }
    let s1 : State := { s with hoop := { s.hoop with peer := peer, lastHb := some s.clk.frame, hbLost := false } }
    let s2 := s1.wr Reg.hoopTickOffsetNs (w32 (unsigned 32 b.offset))
    let equal := b.role = s.hoop.role && decide (b.id < Otp.deviceId s)
    let differ := b.variant ≠ s.variant.code || b.build ≠ s.rd64 Reg.bootImageIdLo Reg.bootImageIdHi
    let s3 : State := if equal ∧ !s2.hoop.refuseClaim then
        ({ s2 with hoop := { s2.hoop with role := 2, refuseClaim := true } } : State).fault' Hoop.page 0x85 else s2
    let s4 : State := if differ ∧ !s3.hoop.mismatch then
        ({ s3 with hoop := { s3.hoop with mismatch := true } } : State).fault' Hoop.page 0x85
      else { s3 with hoop := { s3.hoop with mismatch := differ } }
    let s4 := if differ ∧ (s4.hoop.state = 2 ∨ s4.hoop.state = 3) then Hoop.leaveStep s4 else s4
    let bad := decide (b.offset < -500 ∨ 500 < b.offset)
    let s5 : State := { s4 with hoop := { s4.hoop with offsetBad := bad } }
    let s6 : State := if !bad then s5
      else if s5.hoop.state = 3 then Hoop.outOfStep s5 0x86
      else if !s4.hoop.offsetBad ∧ s5.isStandby then s5.fault' Hoop.page 0x86 else s5
    -- the active begins its copy when the peer begins to rejoin, and ends it when the peer no longer does (R555)
    if s6.hoop.state = 5 then
      { s6 with budget := { s6.budget with peerTier := b.tier }
                hoop := { s6.hoop with copy := if b.state = 2 then some (s6.hoop.copy.getD {}) else none } }
    else { s6 with hoop := { s6.hoop with copy := none } }

/-- HEARTBEAT_LOSS: no heartbeat for 8 ticks puts the standby out of step. [DEDUCED, unsafe: log entry 125] -/
def Hoop.heartbeatLoss (s : State) : State :=
  let lost : Bool := match s.hoop.lastHb with | some f => decide (f + 8 ≤ s.clk.frame) | none => true
  if s.hoop.role = 0 ∨ s.hoop.hbLost ∨ !lost then s
  else Hoop.outOfStep { s with hoop := { s.hoop with hbLost := true } } 0x82

/-- HOOP_LINK_CHANGE. -/
def Hoop.linkChange (s : State) (up : Bool) : State :=
  if s.hoop.role = 0 ∨ !s.pageUp Hoop.page ∨ s.hoop.link = up then s
  else
    let s1 := ({ s with hoop := { s.hoop with
      copy := none, link := up, linkDownAt := if up then s.hoop.linkDownAt else s.clk.mono
      mayClaim := s.hoop.mayClaim && !up, lastHb := if up then some s.clk.frame else s.hoop.lastHb } } : State).irq Hoop.page 4
    if up then s1
    else
      -- with the link down no record, mirrored plait or resync message arrives
      let s2 := s1.fault' Hoop.page 0x80
      if s2.hoop.state = 2 then Hoop.failRejoin s2 else s2

/-! ### Frame records, reports and mirrored plaits (R545 to R550) -/

/-- The device's own CRC of frame `f` (R549). -/
def Hoop.ownCrc (s : State) (f : Nat) : Option Nat := (s.hoop.crcs.find? (fun e => e.1 = f)).map (·.2)

/-- The CRC over the step-6 sinks of frame `n` (R549). -/
def Hoop.frameCrc (s : State) (n : Nat) : Nat :=
  crc32 ((List.range 0x1300).flatMap (fun k =>
    if 0x400 ≤ k ∧ Route.isSink s.variant k then leBytes 4 (unsigned 32 (Route.value s k n)) else []))

/-- A member of a pair notes the CRC of frame `n` once step 6 has run. [DEDUCED, unsafe: log entry 126] -/
def Hoop.noteCrc (s : State) (n : Nat) : State :=
  if s.hoop.role = 0 then s
  else { s with hoop := { s.hoop with crcs := ((n, Hoop.frameCrc s n) :: s.hoop.crcs).take 8 } }

/-- Direct misses, late activations, late blocks and late deliveries (R253) counted so far. -/
def Hoop.counts (s : State) : List Nat :=
  [(s.rd Reg.coilMissCount).toNat, (s.rd Reg.coilLateCount).toNat, (s.rd Reg.corrLateCount).toNat,
   ((List.range s.variant.cores).map (fun k => (s.rd (0x60068 + 0x1000 * k)).toNat)).sum]

/-- The comparison of CRCs and decisions with the peer's (R548 to R550). [DEDUCED, unsafe: log entry 126] -/
def Hoop.compare (s : State) (f : Nat) (crc : Option Nat) (decisions : List Nat) : State :=
  let badCrc : Option Bool := match crc, Hoop.ownCrc s f with
    | some a, some b => some (a ≠ b)
    | _, _ => none
  let differ := (List.range 4).any (fun i => nth 0 decisions i ≠ nth 0 s.hoop.decisions i)
  if s.hoop.state = 2 then
    if s.hoop.step = 6 then
      (match badCrc with
       | some true => Hoop.failRejoin s
       | some false => { s with hoop := { s.hoop with matchFrom := some (s.hoop.matchFrom.getD s.clk.frame) } }
       | none => s)
    else s
  else
    let s1 := if badCrc = some true then
        (let r := s.count Reg.hoopCrcMismatch 1
         if r.hoop.state = 3 then Hoop.outOfStep r 0x81 else r.fault' Hoop.page 0x81) else s
    if differ then
      (let r := s1.count Reg.hoopDiverge 1
       if r.hoop.state = 3 then Hoop.outOfStep r 0x82 else r.fault' Hoop.page 0x82) else s1

/-- The active's decisions for frame `r.frame`, which begins, act on the standby (R547). [DEDUCED, unsafe: log entry 126] -/
def Hoop.applyRecord (s : State) (r : FrameRecord) : State :=
  let p := s.port
  let s1 : State := { s with port := { p with
    forced := r.inputs.foldl (fun t e => Tab.set (fun _ => (none : Option (Nat × Nat))) t e.1 (some e.2)) p.forced
    hostForced := some r.hostIn } }
  let s2 := r.streams.foldl (fun s e => Stream.setRx s e.1 { Stream.rxs s e.1 with forced := some e.2 }) s1
  let s3 := r.taps.foldl (fun s e => Capt.setCh s e.1 { Capt.ch s e.1 with active := some e.2 }) s2
  let s3h := r.hyst.foldl (fun s e => Pstg.setCh s e.1 { Pstg.ch s e.1 with peerH := some e.2 }) s3
  let s4 := r.plGains.foldl (fun s e => Pstg.setCh s e.1 { Pstg.ch s e.1 with gPl := e.2 }) s3h
  let s5 : State := { s4 with pstg := { s4.pstg with gSag := r.sagGains.foldl (fun t e => Tab.set (fun _ => one30) t e.1 e.2) s4.pstg.gSag } }
  let s6 := r.verdicts.foldl (fun s e =>
    Lsup.verdictChange (Lsup.setCh s e.1 { Lsup.ch s e.1 with change := some (e.2, 0) }) e.1) s5
  let s7 := r.records.foldl (fun s e => Scene.enqueue s e.1 (some e.2) none 0) s6
  let s8 := r.ratios.foldl (fun s e => Asrc.follow s e.1 e.2.1 e.2.2 r.frame) s7
  let s9 : State := match r.tier with | some t => { s8 with budget := { s8.budget with nextTier := some t } } | none => s8
  match r.handover with
  | some h => ({ s9 with hoop := { s9.hoop with incoming := some h } } : State).wr64 Reg.hoopHandoverFrameLo Reg.hoopHandoverFrameHi h
  | none => s9

/-- FRAME_RECORD on a standby: it is compared, and waits for its tick; one that comes after it is missing (R550). [DEDUCED, unsafe: log entry 126] -/
def Hoop.frameRecord (s : State) (r : FrameRecord) : State :=
  if !s.isStandby ∨ !s.hoop.link then s
  else if !r.crcOk then s.count Reg.hoopLinkErr 1
  else
    let s1 : State := if s.hoop.state = 2 ∧ s.hoop.step = 1 then
        { s with hoop := { s.hoop with step := 2, joinFrame := some r.frame } } else s
    let s2 : State := { s1 with hoop := { s1.hoop with
      records := if s.clk.nextTick ≤ r.frame then s1.hoop.records ++ [r] else s1.hoop.records } }
    Hoop.compare s2 (r.frame - 2) r.crc r.decisions

/-- The first tick at least `d` after now is named for a planned handover (R557). [DEDUCED, unsafe: log entry 124] -/
def Hoop.handOver (s : State) : State :=
  if s.hoop.handover.isSome then s
  else
    let h := s.firstTickAfter (10 * msU)
    ({ s with hoop := { s.hoop with handover := some h } } : State).wr64 Reg.hoopHandoverFrameLo Reg.hoopHandoverFrameHi h

/-- HOOP_CMD op 1: the active yields to a standby in step. [DEDUCED, unsafe: log entry 124] -/
def Hoop.yield_ (s : State) : State :=
  if s.hoop.state = 5 ∧ s.hoop.link ∧ s.hoop.peer.state = 3 ∧ s.clk.ticking then Hoop.handOver s
  else s.fault' Hoop.page 0x87

/-- STANDBY_REPORT on the active; the report also carries the primary's request of R558. [DEDUCED, unsafe: log entry 124] -/
def Hoop.report (s : State) (frame : Nat) (crc : Option Nat) (decisions : List Nat) (request crcOk : Bool) : State :=
  if s.hoop.state ≠ 5 ∨ !s.hoop.link then s
  else if !crcOk then s.count Reg.hoopLinkErr 1
  else
    -- what a rejoining standby reports is not counted (R554)
    let s1 := if s.hoop.peer.state = 2 then s else Hoop.compare s frame crc decisions
    if request ∧ s1.hoop.peer.state = 3 ∧ s1.clk.ticking then Hoop.handOver s1 else s1

/-- The latch decision for synchronous input page `p` at tick `n` (R358, R359): 0 the oldest frame of its buffer, 1 repeat, k + 1 the
frame after k others; and φ. -/
def Hoop.inputDecision (s : State) (p n : Nat) : Nat × Nat :=
  let x := Port.pg s p
  let t := tickAt s.clk.rate (n - 1)
  match (if x.group ≠ 0 then x.buf.findIdx? (fun f => f.tag == some n) else newestBefore x.buf t) with
  | none => (1, 0)
  | some i => (if i = 0 then 0 else i + 1, (t - (x.buf.getD i {}).finish) / nsU)

/-- Synchronous inputs, whose latch is decided by the buffer. -/
def Hoop.inputs (s : State) : List Nat :=
  (Port.live s).filter (fun p => (Port.pg s p).rx.state == 2 && !Port.converted s p false)

/-- A receive stream has the sample that its channel latches at tick `n` (R408). -/
def Hoop.streamHas (s : State) (e n : Nat) : Bool :=
  let a := Stream.rxAddr e
  let f := n - Stream.dRx s a
  let slot := Tab.get (fun _ => ((0 : Nat), ([] : List (Option Int)))) (Stream.rxs s e).buf (f % Stream.bufLen s.clk.rate)
  slot.1 == f + 1 && decide (Stream.dRx s a ≤ n)

/-- The engines whose ratio the record for frame `n` names: at a budget epoch every leader in lock, and at any frame a leader whose
lock has changed (R368). [DEDUCED, unsafe: log entry 164] -/
def Hoop.ratios (s : State) (n : Nat) : List (Nat × Nat × Nat) :=
  (Tab.keys s.port.asrc).filterMap (fun e =>
    let x := Asrc.eng s e
    let r := if x.locked then s.rd64 (Reg.asrcRatioLo e) (Reg.asrcRatioHi e) else 0
    if Asrc.isLeader s e && (r != x.told || (x.locked && n % Budget.fb s == 0)) then some (e, r, x.pos) else none)

/-- The active's decisions for frame `n` (R547); `taps` are the Audio-tap samples of the named chains. -/
def Hoop.record (s : State) (n : Nat) (taps : List (Nat × Int)) : FrameRecord :=
  { frame := n, crc := Hoop.ownCrc s (n - 2), tier := s.budget.nextTier
    inputs := (Hoop.inputs s).map (fun p => (p, Hoop.inputDecision s p n))
    streams := (Tab.keys s.stream.rxs).map (fun e => (e, Hoop.streamHas s e n))
    hostIn := s.port.hostIn.isSome, taps := taps.filter (fun e => (Capt.named s).contains e.1)
    plGains := (Tab.keys s.pstg.ch).map (fun c => (c, (Pstg.ch s c).gPl)), sagGains := s.pstg.gSag
    verdicts := (Tab.keys s.lsup.ch).filterMap (fun c => match (Lsup.ch s c).change with
      | some (v, t) => if t ≤ s.clk.mono + (tickAt s.clk.rate n - s.clk.stake) then some (c, v) else none
      | none => none)
    records := if Scene.interval s ≠ 0 ∧ n % Scene.interval s = 0 then
        (sortBy QueuedRecord.le (s.scene.queue.filter (QueuedRecord.due n))).map (fun q => (q.record, q.f.getD n)) else []
    ratios := Hoop.ratios s n
    hyst := ((Tab.keys s.pstg.ch).filter (fun c => (Pstg.ch s c).mode == 2 && (Pstg.ch s c).switching)).map (fun c => (c, (Pstg.ch s c).h))
    handover := s.hoop.handover, decisions := s.hoop.decisions }

/-- The decisions that the active has sealed stand on itself as well (R547). -/
def Hoop.sealed (s : State) (r : FrameRecord) : State :=
  let s1 := r.streams.foldl (fun s e => Stream.setRx s e.1 { Stream.rxs s e.1 with forced := some e.2 }) s
  let s2 := r.taps.foldl (fun s e => Capt.setCh s e.1 { Capt.ch s e.1 with active := some e.2 }) s1
  let s3 := r.ratios.foldl (fun s e => Asrc.setEng s e.1 { Asrc.eng s e.1 with told := e.2.1 }) s2
  { s3 with port := { s3.port with hostForced := some r.hostIn }
            hoop := { s3.hoop with
              lastSeal := some r.frame, sealOrder := s.scene.order
              copy := s3.hoop.copy.map (fun c => if c.step = 1 then { step := 2, from_ := r.frame } else c) } }

/-- FRAME_RECORD_SEAL: at tick n − 1 + 1.0 µs the active seals and sends its decisions for frame n, which stand on both members;
`taps` are the Audio-tap samples of the chains named in CAPT_HOOP_SEL (R448). [DEDUCED, unsafe: log entry 126] -/
def Hoop.seal (s0 : State) (taps : List (Nat × Int)) : State :=
  if s0.hoop.state ≠ 5 ∨ !s0.hoop.link ∨ !s0.clk.ticking ∨ s0.hoop.lastSeal = some s0.clk.nextTick then s0
  else
    let s := s0.toMono (s0.clk.tickMono + usU)
    let n := s.clk.nextTick
    let r := Hoop.record s n taps
    Hoop.sendMsg (Hoop.sealed s r) { kind := 2, frame := n, record := some r }

/-- The lowest free slot, else the done slot whose outcome was reached earliest (R72). -/
def Plait.pick (s : State) : Option Nat :=
  (Plait.slots.find? (fun k => (Plait.slot s k).state == .free)).orElse (fun _ =>
    (Plait.slots.filter (fun k => (Plait.slot s k).state == .done)).foldl
      (fun (best : Option Nat) k => match best with
        | none => some k
        | some b => if (Plait.slot s k).finished < (Plait.slot s b).finished then some k else best) none)

/-- PLAIT_MIRROR: a plait of the active becomes pending on the standby with owner 11; one that comes after its tick is missing. It takes
a slot as R72 says and the next value of the standby's own ticket counter; where every slot is open or pending it is lost.
[DESIGN CHOICE, unsafe: log entry 157] -/
def Hoop.mirror (s : State) (frame : Nat) (writes : List (Nat × Word)) (crcOk : Bool) : State :=
  if !s.isStandby ∨ !s.hoop.link then s
  else if !crcOk then s.count Reg.hoopLinkErr 1
  else if frame < s.clk.nextTick then Hoop.outOfStep s 0x82
  else match Plait.pick s with
    | none => Hoop.outOfStep s 0x82
    | some k =>
      let t := (s.plait.ticket + 1) % 65536
      let s1 := Plait.setSlot s k { state := .pending, owner := 11, ticket := t, writes := writes, captured := writes.length
                                    frame := frame, mode := 2, decided := s.plait.seq + 1 }
      { s1 with plait := { s1.plait with ticket := t, seq := s.plait.seq + 1 } }

/-- The active sends a plait that has become pending (R81). -/
def Hoop.sendPlait (s : State) (k : Nat) : State :=
  if s.hoop.state ≠ 5 then s
  else Hoop.send s 3 (Plait.slot s k).frame [] (Plait.slot s k).writes

/-- What the pair does at tick `n` besides the claim: the standby applies the frame's record or finds it missing, and each member
counts its decisions of the last frame and sends its messages. -/
def Hoop.tick (s : State) (n : Nat) : State :=
  if s.hoop.role = 0 then s
  else
    let mine := s.hoop.records.filter (fun r => r.frame == n)
    let missing := s.hoop.state = 3 && mine.isEmpty
    let s0 : State := { s with hoop := { s.hoop with records := s.hoop.records.filter (fun r => decide (n < r.frame)) } }
    let s1 := if missing then Hoop.outOfStep s0 0x82 else s0
    let s2 := if s1.isStandby then mine.foldl Hoop.applyRecord s1 else s1
    let now := Hoop.counts s2
    let d := (List.range 4).map (fun i => nth 0 now i - nth 0 s2.hoop.marks i)
    let s3 : State := { s2 with hoop := { s2.hoop with decisions := d, marks := now } }
    let h := s3.hoop
    let s4 := Hoop.send s3 1 n
      [(h.role : Int), (h.state : Int), (Otp.deviceId s3 : Int), (s3.variant.code : Int),
       (s3.rd64 Reg.bootImageIdLo Reg.bootImageIdHi : Int), (b2n h.claim : Int), (s3.clk.stake : Int), (s3.budget.ownTier : Int)] []
    if s4.isStandby then
      Hoop.send s4 4 n (((Hoop.ownCrc s4 (n - 1)).getD 0 : Int) :: (d.map (fun (x : Nat) => (x : Int)) ++ [(b2n h.requested : Int)])) []
    else s4

/-! ### Commands of the page (R557, R558) -/

/-- The primary asks the active for a planned handover. -/
def Hoop.ask (s : State) : State := { s with hoop := { s.hoop with requested := true } }

/-- HOOP_CMD op 2: a rejoin, also after three have failed. [DEDUCED, unsafe: log entry 125] -/
def Hoop.rejoinCmd (s : State) : State :=
  if s.hoop.role = 0 ∨ s.hoop.state = 5 ∨ s.hoop.state = 0 then s
  else Hoop.startRejoin { s with hoop := { s.hoop with gaveUp := false, fails := 0 } }

/-- HOOP_CMD op 3: a primary that is in step requests the handover at once. -/
def Hoop.revert (s : State) : State := if s.hoop.role = 1 ∧ s.hoop.state = 3 then Hoop.ask s else s

/-- REVERT_HOLD_EXPIRY: the CRCs have matched for the hold. -/
def Hoop.holdExpiry (s : State) : State :=
  match s.hoop.holdFrom with
  | none => s
  | some f =>
    if s.hoop.role = 1 ∧ s.hoop.state = 3 ∧ Hoop.revertEn s ∧ !s.hoop.requested ∧
        f + s.efF Reg.hoopRevertHold 9 0 * rateHz s.clk.rate ≤ s.clk.frame then Hoop.ask s
    else s

/-- A value written to HOOP_CMD. -/
def Hoop.cmd (s : State) (w : Word) : State :=
  match fld w 1 0 with
  | 1 => Hoop.yield_ s
  | 2 => Hoop.rejoinCmd s
  | 3 => Hoop.revert s
  | _ => s

/-- A word written to the region table (R560). [DEDUCED, unsafe: log entry 127] -/
def Hoop.winWrite (s : State) (o : Nat) (w : Word) : State :=
  if 256 ≤ o then s
  else if s.hoop.step ≠ 0 then s.discard
  else s.st32 (winBase Hoop.page + o) w

def Hoop.winRead (s : State) (o : Nat) : Word := if o < 256 then s.ld32 (winBase Hoop.page + o) else 0

/-- REVERT_HOLD above 600 s is out of range. -/
def Hoop.check1 (f : Nat → Word) : Option Nat := if 600 < fld (f 0x44) 9 0 then some 0x01 else none

end Sys2Proof.Machine
end

