-- ==== Sys2Proof/Machine/Resync.lean ====
section
/-!
DEFINITION. What the active of a pair copies to a member that rejoins (R555): the delay-line region, the state items in their order,
and the regions of R560 with the writes that it makes to them meanwhile.
-/
namespace Sys2Proof.Machine

/-- Bytes of a block, and of the largest state item (R555). [DESIGN CHOICE, unsafe: log entry 165] -/
def Resync.block : Nat := 4096

/-- m of R555: state items per frame at 1.6 GB/s, in what the direct window and 2 µs leave of the frame. -/
def Resync.perFrame (s : State) : Nat :=
  let fr := rateHz s.clk.rate
  max 1 ((1000000000 - (s.efF Reg.stakeDirectWindowNs 12 0 + 2000) * fr) * 16 / (10 * Resync.block * max 1 fr))

/-- Blocks that have left by the end of frame `n` of a step that began with frame `f`, at 1.6 GB/s (R545). [DESIGN CHOICE, unsafe: log entry 165] -/
def Resync.due (s : State) (f n : Nat) : Nat := (n + 1 - f) * 1600000000 / (max 1 (rateHz s.clk.rate) * Resync.block)

/-! ### State items in the order of step 3 -/

/-- Eight objects. -/
def Resync.objects (s : State) (k : Nat) : List ResyncItem :=
  ((rangeFrom (8 * k) 8).filter (fun i => decide (i < s.objCap))).map (fun i => .object i (Scene.obj s i) (Obj.fe s i))

/-- Half a row of the Warp. -/
def Resync.row (s : State) (k : Nat) : List ResyncItem :=
  let i := k / 2
  let cols := (rangeFrom (256 * (k % 2)) 256).filter (fun j => decide (j < s.outCap))
  [.warpRow i (cols.map (fun j => (j, Warp.node s i j))) (some (Tab.get Warp.rowDefault s.warp.rows i))]

/-- One mix output's nodes, and with the first the patch, the cross-fades and the generators. -/
def Resync.mix (s : State) (o : Nat) : List ResyncItem :=
  let nodes := ((Tab.keys s.route.nodes).filter (fun k => k % 256 == o)).map (fun k => (k / 256, Tab.get (fun _ => ({} : Ramp)) s.route.nodes k))
  .routeNodes o nodes :: (if o = 0 then [.routeParts s.route.sinks s.route.gens] else [])

/-- One group of the power stage. -/
def Resync.group (s : State) (g : Nat) : List ResyncItem :=
  [.pstg ((rangeFrom (8 * g) 8).map (fun c => (c, Pstg.ch s c))) [(g, Tab.get (fun _ => one30) s.pstg.gSag g)]]

/-- Half of one core's Direct region. -/
def Resync.direct (s : State) (k : Nat) : List ResyncItem :=
  [.osier (k / 2) (k % 2) (s.ldN (Osier.win (k / 2) + (k % 2) * 0x10000 + 0xF000) Resync.block)]

/-- The kinds of item with how many of each the capacities in force give. -/
def Resync.kinds (s : State) : List (Nat × (Nat → List ResyncItem)) :=
  [(cdiv s.objCap 8, Resync.objects s), (2 * s.objCap, Resync.row s), (s.outCap, fun j => [.corr j (Corr.out s j)]),
   (256, Resync.mix s), (Pstg.groups s, Resync.group s), (2 * s.variant.cores, Resync.direct s)]

/-- Number of state items. -/
def Resync.count (s : State) : Nat := ((Resync.kinds s).map (·.1)).sum

/-- State item `k`. -/
def Resync.item (s : State) (k : Nat) : List ResyncItem :=
  let rec' := (Resync.kinds s).foldl (fun (a : Nat × List ResyncItem) x =>
    if a.1 < x.1 then (a.1 + Resync.count s, x.2 a.1) else (a.1 - x.1, a.2)) (k, [])
  rec'.2

/-! ### Sending -/

/-- A resync message for frame `n` (type 5). -/
def Resync.send (s : State) (n : Nat) (l : List ResyncItem) : State :=
  if l.isEmpty then s else Hoop.sendMsg s { kind := 5, frame := n, items := l }

/-- Blocks `lo` to `hi` − 1 of `len` bytes at `a`, each in a message. -/
def Resync.blocks (s : State) (n a len lo hi : Nat) (mk : Nat → List Byte → ResyncItem) : State :=
  (rangeFrom lo (hi - lo)).foldl (fun s i =>
    let x := a + Resync.block * i
    Resync.send s n [mk x (s.ldN x (min Resync.block (len - Resync.block * i)))]) s

/-- An activation of writer group `g` runs (R187, R555). -/
def Resync.running (s : State) (g : Nat) : Bool := s.coil.acts.any (fun a => a.state == 2 && Coil.group s a.node == g)

/-- The next part of the copy begins with frame `n`. -/
def Resync.goOn (s : State) (c : CopySt) : State := { s with hoop := { s.hoop with copy := some c } }

/-- At the end of step 6 of frame `n` the active sends what the copy to a rejoining member has for the frame (R555). A region's copy ends once
it is complete and no activation of its writer group runs. [DESIGN CHOICE, unsafe: log entry 165] -/
def Resync.frame (s : State) (n : Nat) : State :=
  match s.hoop.copy with
  | none => s
  | some c =>
    if s.hoop.state ≠ 5 ∨ !s.hoop.link then s
    else match c.step with
      | 2 =>
        let base := s.ef64 Reg.objDlineBaseLo Reg.objDlineBaseHi % 2 ^ 40
        let total := if Obj.noRegion s then 0 else 0x10000000 / Resync.block
        let hi := min total (Resync.due s c.from_ n)
        let s1 := Resync.blocks s n base 0x10000000 c.done hi ResyncItem.line
        Resync.goOn s1 (if hi = total then { step := 3, from_ := n + 1 } else { c with done := hi })
      | 3 =>
        let total := Resync.count s
        let hi := min total (c.done + Resync.perFrame s)
        let s1 := (rangeFrom c.done (hi - c.done)).foldl (fun s k => Resync.send s n (Resync.item s k)) s
        Resync.goOn s1 (if hi = total then { step := 4, from_ := n + 1, region := Hoop.nextRegion s 0 } else { c with done := hi })
      | 4 =>
        match Hoop.regionEntry s c.region with
        | none => Resync.goOn s { c with step := 5 }
        | some (a, len, g) =>
          let total := cdiv len Resync.block
          let hi := min total (Resync.due s c.from_ n)
          let s1 := Resync.blocks s n a len c.done hi ResyncItem.region
          Resync.goOn s1 (if hi = total ∧ !Resync.running s g then { c with from_ := n + 1, done := 0, region := Hoop.nextRegion s (c.region + 1) }
            else { c with done := hi })
      | _ => s

/-- The active mirrors what a write of `l` at `a` puts into the region that it copies (R555). -/
def Resync.mirror (s : State) (a : Nat) (l : List Byte) : State :=
  match s.hoop.copy with
  | some c =>
    if c.step ≠ 4 ∨ s.hoop.state ≠ 5 then s
    else match Hoop.regionEntry s c.region with
      | some (x, n, _) =>
        let lo := max a x
        let hi := min (a + l.length) (x + n)
        if lo < hi then Resync.send s s.clk.frame [.region lo (slice l (lo - a) (hi - lo))] else s
      | none => s
  | none => s

end Sys2Proof.Machine
end

