-- ==== Sys2Proof/Machine/Weave.lean ====
section
/-!
DEFINITION. The Weave's addresses, the state of its arbiters, and what the reset of an initiator does to its bursts and its lock
(R487 to R492, R500, R501).
-/
namespace Sys2Proof.Machine

/-! ### Addresses (R488, R491, R492) -/

/-- The target of an address for an initiator; `none` is unmapped. [DEDUCED, unsafe: log entry 28] -/
def Weave.target (v : Variant) (ini a : Nat) : Option Nat :=
  if 2 ^ 40 ≤ a then (if a - 2 ^ 40 < 2 ^ 24 then some (2 + a / 256 % 4) else none)
  else if a < 0x01000000 then some 0
  else if a < 0x11000000 then some 1
  else if inDram v a 1 then (Memc.portOf ini).map (6 + ·)
  else none

/-- The length of a burst in bytes. -/
def Burst.size (b : Burst) : Nat := if b.write then b.data.length else b.len

/-- A burst stays inside one block of 256 bytes (R487). -/
def Burst.ok (b : Burst) : Bool := decide (0 < b.size ∧ b.addr % 256 + b.size ≤ 256 ∧ b.initiator < 24 ∧ b.addr < 2 ^ 41)

/-! ### Arbiters and locks (R493, R500) -/

def Weave.arbDefault (_ : Nat) : Arb := {}
def Weave.arb (s : State) (t : Nat) : Arb := Tab.get Weave.arbDefault s.weave.arbs t
def Weave.setArb (s : State) (t : Nat) (x : Arb) : State :=
  { s with weave := { s.weave with arbs := Tab.set Weave.arbDefault s.weave.arbs t x } }

/-- The lock of initiator `i`, at the target that holds it. -/
def Weave.lockOf (s : State) (i : Nat) : Option Nat :=
  (List.range 19).find? (fun t => match (Weave.arb s t).lock with | some l => l.1 == i | none => false)

/-- A burst's beats of 16 bytes. -/
def Burst.beats (b : Burst) : Nat := cdiv (b.addr % 16 + b.size) 16

/-- An initiator is reset (R501): each burst of it that waits is completed without effect and recorded, and its lock is released. -/
def Weave.endInitiator (s : State) (i : Nat) : State :=
  let mine := s.weave.waiting.filter (fun b => b.initiator == i)
  let s1 : State := { s with weave := { s.weave with waiting := s.weave.waiting.filter (fun b => b.initiator != i) } }
  let s2 := mine.foldl (fun (s : State) b =>
    s.weaveEvent 3 i ((Weave.target s.variant i b.addr).getD 0) b.beats b.write b.addr) s1
  let s3 := match Weave.lockOf s2 i with
    | some t => Weave.setArb s2 t { Weave.arb s2 t with lock := none }
    | none => s2
  (List.range 19).foldl (fun s t =>
    if (Weave.arb s t).broken = some i then Weave.setArb s t { Weave.arb s t with broken := none } else s) s3

/-- The initiators that a soft reset of page `p` resets (R490, R501): those whose unit the page is, and the fetch engine of a core's
quadrant. [DEDUCED, unsafe: log entry 162] -/
def Weave.initiatorsOf (p : Nat) : List Nat :=
  match unitOf p with
  | some 0x01 => [2, 3, 4, 5, 6, 7, 8, 9]
  | some 0x08 => [11]
  | some 0x13 => [18]
  | some 0x11 => [18]
  | some 0x50 => [17]
  | some 0x51 => [22]
  | some 0x53 => [23]
  | some 0x54 => [19]
  | some 0x58 => [12]
  | some 0x60 => [13 + (p - 0x60) / 32]
  | _ => []

/-- The bursts in flight of the initiators that a soft reset of page `p` resets. -/
def Weave.pageReset (s : State) (p : Nat) : State := (Weave.initiatorsOf p).foldl Weave.endInitiator s

end Sys2Proof.Machine
end

