-- ==== Sys2Proof/Machine/Control.lean ====
section
/-!
DEFINITION. Writes to register pages: the page header, staging, commits and their two stages of checks, enables, soft resets, and
the registers whose write is an action of a unit (R46, R49 to R56, R511, R601, R602, R606, and the units' command registers).
-/
namespace Sys2Proof.Machine

/-! ### Staged registers -/

/-- Offsets of the staged registers of page `p`. -/
def Page.stagedOffsets (p : Nat) : List Nat :=
  match unitOf p with
  | none => []
  | some u => (unitRegs u).flatMap (fun r => if r.staged then (List.range r.count).map (fun i => r.off + i * r.stride) else [])

/-- The effective copies of page `p`, by offset. -/
def Page.view (s : State) (p : Nat) : Nat → Word := fun o => s.ef (p * 0x1000 + o)

/-- The state with effective copies of page `p` replaced. -/
def Page.withEff (s : State) (p : Nat) (vals : List (Nat × Word)) : State :=
  vals.foldl (fun s e => s.we (p * 0x1000 + e.1) e.2) s

/-- A weight of zero is out of range (R504). -/
def Weave.check1 (f : Nat → Word) : Option Nat :=
  if (List.range 24).any (fun i => fld (f (0x40 + 4 * (i / 8))) (4 * (i % 8) + 3) (4 * (i % 8)) == 0) then some 0x01 else none

/-- First stage: conditions on the page's own values (R52). -/
def Page.check1 (s : State) (p : Nat) (f : Nat → Word) : Option Nat :=
  match unitOf p with
  | some 0x01 => HostAud.check1 f
  | some 0x06 => Budget.check1 s.variant f
  | some 0x08 => Hoop.check1 f
  | some 0x10 => Stake.check1 f
  | some 0x11 => Net.check1 f
  | some 0x13 => Stream.check1 f
  | some 0x20 => Port.check1 p f
  | some 0x30 => Port.check1 p f
  | some 0x38 => Port.check1 p f
  | some 0x3C => Asrc.check1 f
  | some 0x48 => Route.check1 f
  | some 0x50 => Scene.check1 f
  | some 0x51 => Obj.check1 s.variant f
  | some 0x52 => Warp.check1 f
  | some 0x53 => Corr.check1 s.variant f
  | some 0x54 => Meas.check1 s.variant f
  | some 0x55 => Capt.check1 f
  | some 0x58 => Coil.check1 f
  | some 0xE0 => Pstg.check1 f
  | some 0xE8 => Lsup.check1 s.variant f
  | some 0xF0 => Memc.check1 f
  | some 0xF8 => Weave.check1 f
  | _ => none

/-- Second stage: conditions on device state (R52). -/
def Page.check2 (s : State) (p : Nat) (old new : Nat → Word) : Option Nat :=
  match unitOf p with
  | some 0x06 => Budget.check2 s old new
  | some 0x10 => Stake.check2 s old new s.earlyActive false
  | some 0x13 => Stream.check2 s new
  | some 0x20 => Port.check2 s p new
  | some 0x30 => Port.check2 s p new
  | some 0x38 => Port.check2 s p new
  | some 0x48 => Route.check2 s new
  | some 0x50 => (Scene.check2 s old new).map (·.1)
  | some 0x51 => Obj.check2 s old new
  | some 0x52 => Warp.check2 s old new
  | some 0x53 => Corr.check2 s old new
  | some 0x54 => if old 0x40 ≠ new 0x40 ∨ old 0x44 ≠ new 0x44 ∨ old 0x48 ≠ new 0x48 then Meas.check2 s else none
  | some 0x55 => Capt.check2 s old new
  | some 0xF0 => Memc.check2 s new
  | _ => none

/-- What a unit records beside the code when it refuses values: the stream's or object's index, and its interrupt. -/
def Page.noteRefusal (s : State) (p : Nat) (old new : Nat → Word) (code : Nat) : State :=
  match unitOf p with
  | some 0x13 =>
    if code = 0x80 then
      (match Stream.tableCheck s new (Stream.code s) with | some x => Stream.noteRefusal s x | none => s) else s
  | some 0x50 =>
    (match Scene.check2 s old new with | some (_, some i) => s.wr Reg.sceneErrIndex (w32 i) | _ => s)
  | some 0xF0 => if code = 0x81 then s.irq Memc.page 2 else s
  | _ => s

/-! ### The render rate (R38, R606) -/

/-- The second S of a change that takes effect now. -/
def Rate.second (s : State) : Nat := cdiv (s.clk.stake + 100 * msU) secU

/-- A change is formed from the effective value of STAKE_RENDER_RATE, where it differs from the rate in force. [DEDUCED, unsafe: log entry 17] -/
def Rate.form (s : State) : State :=
  let code := fld (s.ef Reg.stakeRenderRate) 2 0
  if s.clk.rateChange.isSome ∨ code = s.clk.rate then s
  else { s with clk := { s.clk with rateChange := some (Rate.second s, code), rateStep := 1 } }

/-- While no rate is in force each write to the register counts when it is applied: a code sets a change, and 0 withdraws one
that the same plait has set (R511, R512). -/
def Rate.now (s : State) : State :=
  let code := fld (s.ef Reg.stakeRenderRate) 2 0
  { s with clk := { s.clk with rateChange := if code = 0 then none else some (Rate.second s, code), rateStep := 1 } }

/-! ### Effects of a change of effective copies -/

/-- Page `p`'s effective copies have changed from `old` to `new` with effect from frame `n`. -/
def Page.changed (s : State) (p : Nat) (old new : Nat → Word) (n : Nat) : State :=
  match unitOf p with
  | some 0x06 => if old 0xC0 ≠ new 0xC0 then Domain.begin s (fld (new 0xC0) 11 0) else s
  | some 0x10 =>
    let s1 := Ptp.commit (Stake.commit s old new)
    if !s.rateOn ∧ fld (old 0x100) 2 0 ≠ fld (new 0x100) 2 0 ∧ s1.clk.rateChange.isNone then Rate.now s1 else s1
  | some 0x11 => Net.commit s (p - 0x11) old new
  | some 0x13 => Stream.commit s old new n
  | some 0x20 => Port.commit s p old new n
  | some 0x30 => Port.commit s p old new n
  | some 0x38 => Port.commit s p old new n
  | some 0x3C => Asrc.commit s (p - 0x3C) old new
  | some 0x48 => Route.commit s old new n
  | some 0x50 =>
    let s1 := if fld (old 0x44) 2 2 ≠ fld (new 0x44) 2 2 then Obj.applyEnables s n else s
    let layout := fld (old 0x44) 0 0 ≠ fld (new 0x44) 0 0
    let s2 : State := if layout then
        { s1 with scene := { s1.scene with rebuild := false, rebuilt := none, rebuiltWait := none } } else s1
    let ex := fun (f : Nat → Word) j => bit (f (0x100 + 4 * (j / 32))) (j % 32) || s.scene.lsupUnavail.contains j
    if (List.range 512).any (fun j => ex old j != ex new j) then Scene.healEvent s2 else s2
  | some 0x51 => if fld (old 0x44) 0 0 ≠ fld (new 0x44) 0 0 then Obj.trimSwap s n else s
  | some 0x55 => Capt.commit s old new n
  | some 0xE0 => Pstg.commit s (p - 0xE0) n old new
  | some 0xE8 => Lsup.commit s old new
  | some 0xF0 => Memc.commit s old new
  | _ => s

/-! ### Page commits (R51 to R54) -/

def Page.setCommit (s : State) (p : Nat) (c : Option PendCommit) : State :=
  { s with ctl := { s.ctl with commits := Tab.set (fun _ => (none : Option PendCommit)) s.ctl.commits p c } }

/-- COMMIT result: 1 applied, 2 refused, 3 cancelled. -/
def Page.result (s : State) (p r : Nat) : State := s.wrF (Reg.commit p) 3 2 r

/-- A commit is refused with a code. -/
def Page.refuse (s : State) (p : Nat) (old new : Nat → Word) (code : Nat) : State :=
  Page.noteRefusal ((Page.result s p 2).fault' p code) p old new code

/-- The second stage of a commit, and its application with effect from frame `n`, without the units' hooks.
[DEDUCED, unsafe: log entry 16; DEDUCED, unsafe: log entry 17] -/
def Page.applyCommit (s : State) (p : Nat) (vals : List (Nat × Word)) : State × Bool :=
  let f := Page.withEff s p vals
  let old := Page.view s p
  let new := Page.view f p
  match (if p = Meas.page then Meas.check2 s else Page.check2 s p old new) with
  | some code => (Page.refuse s p old new code, false)
  | none => (Page.result f p 1, true)

/-- Stake instant of the tick at which a pending commit falls due, while ticks run. -/
def PendCommit.due (c : PendCommit) (s : State) : Nat :=
  tickAt s.clk.rate (if c.mode = 1 then s.firstTickAfter (c.ready - s.clk.mono) else c.frame)

/-- A write of cancel (R46). -/
def Page.cancel (s : State) (p : Nat) : State :=
  match s.ctl.commit p with
  | none => s
  | some c =>
    if s.clk.ticking ∧ c.due s < s.clk.stake + 2 * usU then s
    else Page.result (Page.setCommit s p none) p 3

/-- A write of commit (R51, R53). [DEDUCED, unsafe: log entry 16] -/
def Page.request (s : State) (p : Nat) : State :=
  let mode := s.rdF (Reg.commitMode p) 1 0
  let vals := (Page.stagedOffsets p).map (fun o => (o, s.rd (p * 0x1000 + o)))
  let f := Page.withEff s p vals
  let old := Page.view s p
  let new := Page.view f p
  if (s.ctl.commit p).isSome then s.fault' p 0x04
  else if mode = 3 then Page.refuse s p old new 0x01
  else match Page.check1 s p new with
    | some code => Page.refuse s p old new code
    | none =>
      if mode = 2 then
        let k := s.rd64 (Reg.commitFrameLo p) (Reg.commitFrameHi p)
        if !s.rateOn ∨ (s.clk.ticking ∧ k < s.clk.nextTick) ∨ tickAt s.clk.rate k < s.clk.stake + 2 * usU then
          Page.refuse s p old new 0x03
        else Page.setCommit s p (some { values := vals, mode := 2, ready := 0, frame := k })
      else if mode = 1 ∧ s.rateOn then
        Page.setCommit s p (some { values := vals, mode := 1, ready := s.postReady, frame := 0 })
      else
        let (s1, ok) := Page.applyCommit s p vals
        if !ok then s1
        else
          let s2 := Page.changed s1 p old new (if s.rateOn then s.clk.nextTick else s.clk.frame)
          if p = Stake.page ∧ s.rateOn then Rate.form s2 else s2

/-- COMMIT: cancel, then commit. [DEDUCED, unsafe: log entry 16] -/
def Page.commitWrite (s : State) (p : Nat) (v : Word) : State :=
  let s1 := if bit v 1 then Page.cancel s p else s
  if bit v 0 then Page.request s1 p else s1

/-- The commits that fall due at tick `n` are judged and applied, without the units' hooks (R20, R52, R602). -/
def Page.tickCommits (s : State) (n : Nat) : State :=
  (Tab.keys s.ctl.commits).foldl (fun s p =>
    match s.ctl.commit p with
    | none => s
    | some c =>
      let due := (c.mode = 1 && decide (c.ready ≤ s.clk.mono)) || (c.mode = 2 && decide (c.frame ≤ n))
      if !due then s
      else
        let s1 := Page.setCommit s p none
        if c.mode = 2 ∧ c.frame < n then Page.refuse s1 p (Page.view s1 p) (Page.view s1 p) 0x03
        else (Page.applyCommit s1 p c.values).1) s

/-! ### Enables (R46, R602) -/

def Page.enablePosts (s : State) (p : Nat) : List (Bool × Nat) := Tab.get (fun _ => []) s.ctl.enablePosts p
def Page.setPosts (s : State) (p : Nat) (l : List (Bool × Nat)) : State :=
  { s with ctl := { s.ctl with enablePosts := Tab.set (fun _ => []) s.ctl.enablePosts p l } }

/-- The unit's enable takes effect from frame `n`. -/
def Page.setEnabled (s : State) (p : Nat) (b : Bool) (n : Nat) : State :=
  let s1 : State := { s with ctl := { s.ctl with enabled := Tab.set (fun _ => false) s.ctl.enabled p b } }
  if Tab.get (fun _ => false) s.ctl.enabled p = b then s1
  else match unitOf p with
    | some 0x3C => Asrc.setEnable s1 (p - 0x3C) b
    | some 0x20 => if b then s1 else Port.stop s1 p true
    | some 0x30 => if b then s1 else Port.stop (Port.stop s1 p true) p false
    | some 0x38 => if b then s1 else Port.stop (Port.stop s1 p true) p false
    | some 0x48 => Route.setEnable s1 b n
    | some 0x52 => Warp.setEnable s1 b n
    | some 0x53 => Corr.setEnable s1 b n
    | some 0xE0 => Pstg.setEnable s1 (p - 0xE0) b n
    | _ => s1

/-- A write of the enable bit: it acts at tick `n` of a plait, at once while no rate is in force, else at its tick; a plait's write
stands over direct ones due at its tick. [DEDUCED, unsafe: log entry 20] -/
def Page.enable (s : State) (p : Nat) (b : Bool) (tick : Option Nat) : State :=
  if fixedEnable p ∨ (p = Hoop.page ∧ s.hoop.role = 0) then s
  else
    let s1 := s.wrF (Reg.pageCtrl p) 0 0 (b2n b)
    match tick with
    | some n => Page.setEnabled (Page.setPosts s1 p ((Page.enablePosts s p).filter (fun e => decide (s.clk.mono < e.2)))) p b n
    | none =>
      if !s.rateOn then Page.setEnabled (Page.setPosts s1 p []) p b s.clk.frame
      else if s.rdB (Reg.pageCtrl p) 0 = b ∧ !(p == Corr.page && s.corr.resetDue) then s1
      else Page.setPosts s1 p (Page.enablePosts s p ++ [(b, s.postReady)])

/-- Enables that fall due at tick `n`. -/
def Page.tickEnables (s : State) (n : Nat) : State :=
  (Tab.keys s.ctl.enablePosts).foldl (fun s p =>
    let l := Page.enablePosts s p
    let due := l.filter (fun e => decide (e.2 ≤ s.clk.mono))
    due.foldl (fun s e => Page.setEnabled s p e.1 n) (Page.setPosts s p (l.filter (fun e => decide (s.clk.mono < e.2))))) s

/-! ### Soft reset (R56 and the units' own rules) -/

/-- The STAKE page's registers return to reset; Stake time goes on with I of 4 ns (R413). -/
def Stake.clearPage (s : State) : State := Stake.resetUnit (Page.clearRegs s Stake.page (fun _ => true))

/-- A soft reset of STAKE: at once without ticks, else by way of a change to rate code 0, after a change in progress (R413). -/
def Stake.pageReset (s : State) : State :=
  let wait (s : State) : State := { s with stake := { s.stake with softReset := true } }
  if Stake.rateChanging s ∨ Stake.stepping s then wait s
  else if !s.rateOn then Stake.clearPage s
  else
    let s1 := s.wrBoth Reg.stakeRenderRate 0
    wait { s1 with clk := { s1.clk with rateChange := some (Rate.second s1, 0), rateStep := 1 } }

/-- What a unit does at a soft reset of its page beside its registers. -/
def Page.unitReset (s : State) (p : Nat) : State :=
  match unitOf p with
  | some 0x01 => HostAud.softReset { s with ctl := { s.ctl with dma := [] } }
  | some 0x02 => s.clearMem (winBase 2) (winBase 3)
  | some 0x06 => Budget.softReset s
  | some 0x07 => { s with fault := { s.fault with ring := [], head := 0, tail := 0, full := false, newest := none } }
  | some 0x08 => s.clearMem (winBase 8) (winBase 9)
  | some 0x11 => Net.softReset s (p - 0x11)
  | some 0x13 => Stream.softReset s
  | some 0x20 => Port.softReset s p
  | some 0x30 => Port.softReset s p
  | some 0x38 => Port.softReset s p
  | some 0x3C => Asrc.softReset s (p - 0x3C)
  | some 0x48 => Route.softReset s
  | some 0x49 => Meter.softReset s
  | some 0x50 => Scene.softReset s
  | some 0x51 => Obj.softReset s
  | some 0x52 => Warp.softReset s
  | some 0x53 => Corr.softReset s
  | some 0x54 => Meas.softReset s
  | some 0x55 => Capt.softReset s
  | some 0x58 => Osier.sync ((Coil.softReset s).clearMem Coil.win (Coil.win + 0x100000))
  | some 0x60 => Osier.softReset s (p - 0x60)
  | some 0xE0 => Pstg.softReset s (p - 0xE0)
  | some 0xE8 => Lsup.softReset s
  | some 0xF0 => Memc.softReset s
  | _ => s

/-- What a unit resets at a tick, at the tick of the plait that carries the reset (R56). -/
def Page.resetNow (s : State) (p : Nat) : State :=
  match unitOf p with
  | some 0x48 => Route.tickReset s
  | some 0x52 => Warp.tickReset s
  | some 0x53 => Corr.tickReset s
  | some 0x55 => Capt.tickReset s
  | _ => s

/-- A soft reset of page `p`, directly or (`tick`) by a plait at its tick: commits, posts and enables are dropped, registers and arrays
return to reset, and every open or pending plait with a write to the page ends; of the PLAIT page, every plait ends. A direct one
resets the registers of CORR at the next tick (R180). -/
def Page.softReset (s : State) (p : Nat) (tick : Bool) : State :=
  let late := p == Corr.page && !tick && s.rateOn
  let s1 : State := { (Page.setCommit s p none) with ctl := { (Page.setCommit s p none).ctl with
    enabled := if late then s.ctl.enabled else Tab.set (fun _ => false) s.ctl.enabled p false
    enablePosts := Tab.set (fun _ => []) s.ctl.enablePosts p [] } }
  let s2 :=
    if late then Page.unitReset s1 p
    else if tick then Page.resetNow (Page.unitReset (Page.clearRegs s1 p (fun _ => true)) p) p
    else if p = Boot.page then Page.clearRegs s1 p (fun o => decide (o < 0x40))
    else if p = Stake.page then Stake.pageReset (Page.clearRegs s1 p (fun o => decide (o < 0x40)))
    else Page.unitReset (Page.clearRegs s1 p (fun _ => true)) p
  Plait.slots.foldl (fun s k =>
    let x := Plait.slot s k
    let hit := p == 3 || x.writes.any (fun w => w.1 / 0x1000 == p)
    if (x.state = .open ∨ x.state = .pending) ∧ hit then Plait.finish s k .abortReset else s) (Weave.pageReset s2 p)

/-! ### Plaits: opening, filling, committing and aborting (R70 to R74, R78, R81) -/

/-- A write of 1 to PLAIT_OPEN (R72, R81). -/
def Plait.open_ (s : State) (ini : Nat) : State :=
  if s.isStandby then s.fault' 3 0x07
  else if (Plait.openOf s ini).isSome then s
  else match Plait.pick s with
    | none => s.fault' 3 0x05
    | some k =>
      let t := (s.plait.ticket + 1) % 65536
      let s1 := Plait.setSlot s k { state := .open, owner := ini, ticket := t }
      { s1 with plait := { s1.plait with ticket := t } }

/-- A discarded write of R73 is counted, with its code. -/
def Plait.drop (s : State) (code : Nat) : State :=
  (if code = 0 then s.discard else (s.discard).fault' 3 code)

/-- A write to the alias of register address `a` (R73). -/
def Plait.capture (s : State) (ini a : Nat) (v : Word) : State :=
  let p := a / 0x1000
  match Plait.openOf s ini with
  | none => Plait.drop s 0x06
  | some k =>
    if p = 3 ∨ a % 0x1000 = 0x1C then Plait.drop s 0x08
    else if !pagePresent s.variant p then Plait.drop s 0
    else
      let x := Plait.slot s k
      if 4096 ≤ x.writes.length ∨ Plait.poolFree s = 0 then Plait.setSlot s k { x with overfull := true }
      else Plait.setSlot s k { x with writes := x.writes ++ [(a, v)], captured := x.captured + 1 }

/-- A write to PLAIT_COMMIT: the target is resolved as far as the write decides it, and the decision is due (R74). -/
def Plait.commit (s : State) (ini : Nat) (v : Word) : State :=
  let mode := fld v 1 0
  match Plait.openOf s ini with
  | none => s
  | some k =>
    if mode = 0 then s
    else
      let x := Plait.slot s k
      let lohi := x.targetLo.toNat + x.targetHi.toNat * 2 ^ 32
      let f := if mode = 2 then lohi
        else if mode = 3 then frameCeil s.clk.rate (lohi * secU + x.targetNs.toNat * nsU) else 0
      Plait.setSlot s k { x with mode := mode, allowTier := bit v 4, frame := f }

/-- A write to PLAIT_ABORT (R78). -/
def Plait.abort (s : State) (v : Word) : State :=
  let k := fld v 3 0
  let x := Plait.slot s k
  if k = 0 ∨ x.ticket ≠ fld v 31 16 then s
  else if x.state = .open then Plait.finish s k .abortHost
  else if x.state = .pending ∧
      (x.floating.isSome ∨ !s.clk.ticking ∨ s.clk.stake + 2 * usU ≤ tickAt s.clk.rate x.frame) then Plait.finish s k .abortHost
  else s

/-- A target register of the initiator's open plait (R71). -/
def Plait.target (s : State) (ini o : Nat) (v : Word) : State :=
  match Plait.openOf s ini with
  | none => s
  | some k =>
    let x := Plait.slot s k
    Plait.setSlot s k (if o = 0x48 then { x with targetLo := v } else if o = 0x4C then { x with targetHi := v } else { x with targetNs := v })

/-- Registers of the PLAIT page that act. -/
def Plait.write (s : State) (ini o : Nat) (v : Word) : Option State :=
  if o = 0x40 then some (if bit v 0 then Plait.open_ s ini else s)
  else if o = 0x48 ∨ o = 0x4C ∨ o = 0x50 then some ((Plait.target s ini o v).unlatch (0x3000 + o))
  else if o = 0x54 then some (Plait.commit s ini v)
  else if o = 0x58 then some (Plait.abort s v)
  else none

/-! ### Registers that act (`tick`: the tick of the plait that carries the write, `none` for a direct write) -/

/-- DMA channel `k` starts, or is stopped by a write of 0 (R68). [DEDUCED, unsafe: log entry 24] -/
def Dma.run (s : State) (k : Nat) (v : Word) : State :=
  let a := s.rd64 (Reg.dmaDescLo k) (Reg.dmaDescHi k)
  let ch : DmaCh := { running := bit v 0, desc := a, descHost := !inCommon a 32 }
  if (Tab.get (fun _ => ({} : DmaCh)) s.ctl.dma k).running ∧ bit v 0 then s
  else
    let s1 : State := { s with ctl := { s.ctl with dma := Tab.set (fun _ => ({} : DmaCh)) s.ctl.dma k (if bit v 0 then ch else {}) } }
    -- a stop ends the channel's bursts in flight (R501)
    if bit v 0 then s1 else Weave.endInitiator s1 (2 + k)

/-- An end of interrupt: the vector's message goes again while it is still pending (R59). [DEDUCED, unsafe: log entry 22] -/
def Irq.eoi (s : State) (v : Nat) : State :=
  if s.vecPending v ∧ !s.vecMasked v then { s with ctl := { s.ctl with msix := s.ctl.msix ++ [v] } } else s

/-- BOOT_CMD (R520, R529, R532). -/
def Boot.cmd (s : State) (v : Word) : State :=
  match fld v 1 0 with
  | 1 => Shutdown.request s
  | 2 => Boot.attemptCmd s s.boot.env
  | 3 => Otp.advance s (fld v 9 8) (fld v 31 16)
  | _ => s

/-- A write to SCENE_FELOT_NETS: from 0, the stream is enabled afresh (R130). -/
def Felot.nets (s : State) (v : Word) : State :=
  let s1 := s.wr Reg.sceneFelotNets (v &&& 3)
  if s.rd Reg.sceneFelotNets = 0 ∧ v &&& 3 ≠ 0 then { s1 with scene := { s1.scene with seqH := none, seqSeen := [] } } else s1

/-- A write to BUDGET_STANDBY (R285, R287). [DEDUCED, unsafe: log entry 68] -/
def Standby.write (s : State) (v : Word) : State :=
  let s1 := s.wr Reg.budgetStandby (v &&& 0xFFFFFFFE)
  if bit v 0 then Standby.enter s1 else s1

/-- A write to FAULT_CTRL (R571, R578). -/
def FaultUnit.ctrl (s : State) (v : Word) : State :=
  let s1 := s.wr Reg.faultCtrl (v &&& 6)
  if bit v 0 then Freeze.setLatch s1 else s1

/-- LSUP_CMD (R335). [DEDUCED, unsafe: log entry 75] -/
def Lsup.cmd (s : State) (v : Word) : State :=
  let c := fld v 5 0
  match fld v 10 8 with
  | 1 => Lsup.baselineCapture s c
  | 2 => Lsup.acCommand s c 3
  | 3 => Lsup.acCommand s c 2
  | 4 => Lsup.clearBaselines s c
  | _ => s

/-- A COIL_NODE_CTRL post: carried by a plait it acts at the plait's tick (R217). -/
def Coil.nodeCtrl (s : State) (v : Word) (tick : Option Nat) : State :=
  match tick with
  | none => Coil.post s (fld v 1 0)
  | some n =>
    let op := fld v 1 0
    if op = 1 ∨ op = 2 then Coil.applyPost s op (s.rdF Reg.coilNodeSel 13 0) (s.rdF Reg.coilNodeSel 30 16) n else s

/-- A unit register whose write acts; `none` for a register that only holds a value. -/
def Page.action (s : State) (ini : Nat) (tick : Option Nat) (p o : Nat) (v : Word) : Option State :=
  match unitOf p with
  | some 0x01 => if 0x40 ≤ o ∧ o < 0x140 ∧ o % 0x20 = 0 then some (Dma.run s ((o - 0x40) / 0x20) v) else none
  | some 0x02 => if o = 0x208 then some (Irq.eoi s (fld v 5 0)) else none
  | some 0x03 => Plait.write s ini o v
  | some 0x04 =>
    if o = 0x50 then some (Boot.cmd s v)
    else if o = 0x58 then some (Boot.go s (fld v 24 0))
    else if o = 0x68 then some (match fld v 1 0 with | 1 => Otp.readCmd s | 2 => Otp.programCmd s | _ => s)
    else none
  | some 0x05 =>
    if o = 0x58 then some (Bist.run s (fld v 3 0)) else if o = 0x5C then some (Bist.injectCmd s (fld v 15 0)) else none
  | some 0x06 => if o = 0xC8 then some (Standby.write s v) else none
  | some 0x07 => if o = 0x40 then some (FaultUnit.ctrl s v) else if o = 0x50 then some (s.tailWrite (fld v 7 0)) else none
  | some 0x08 => if o = 0x48 then some (Hoop.cmd s v) else none
  | some 0x10 =>
    if o = 0x74 then some (Stake.setCtrl s (fld v 1 0))
    else if o = 0x88 ∨ o = 0x8C then some { ((s.wr (p * 0x1000 + o) v).unlatch (p * 0x1000 + o)) with stake := { s.stake with todWritten := true } }
    else none
  | some 0x11 =>
    if o = 0xA0 then some (Net.htxTail s (p - 0x11) (fld v 11 0))
    else if o = 0xC8 then some (if bit v 0 then Net.txtsPop s (p - 0x11) else s) else none
  | some 0x48 =>
    let kind := if o = 0x50 then 0 else 1
    if o = 0x50 ∨ o = 0x58 then
      some (match tick with
        | none => Route.post s kind v
        | some n =>
          let b := if kind = 0 then s.rdF Reg.routePatchSink 12 0
            else 256 * s.rdF Reg.routeMixNode 15 8 + s.rdF Reg.routeMixNode 7 0
          Route.applyPost s kind b (if kind = 0 then fld v 12 0 else v.toNat) n)
    else none
  | some 0x49 =>
    if o = 0x40 then
      some (match tick with | none => Meter.clearPost s v | some n => Meter.applyPost s 0 (fld v 9 0) (fld v 20 10) n)
    else if 0x100 ≤ o ∧ o < 0x300 ∧ o % 0x20 = 0 then
      let k := (o - 0x100) / 0x20
      some (match tick with | none => Meter.loudPost s k v | some n => Meter.applyPost s 2 k (fld v 1 0) n)
    else none
  | some 0x50 =>
    if o = 0x54 then some (Scene.buildWrite s v)
    else if o = 0x6C then some (Felot.nets s v)
    else if o = 0xC0 then
      some (if !bit v 0 ∨ s.isStandby then s else Scene.recordPost s (match tick with | some n => n | none => s.clk.frame))
    else none
  | some 0x52 =>
    if o = 0x50 then
      some (match tick with
        | none => Warp.post s v
        | some n => Warp.applyPost s (s.rdF Reg.warpDwNode 25 16) (s.rdF Reg.warpDwNode 8 0) (signed 32 v.toNat) n)
    else none
  | some 0x53 =>
    let j := s.rdF Reg.corrOutSel 8 0
    if o = 0x64 ∨ o = 0x68 ∨ o = 0x6C then
      let kind := (o - 0x64) / 4
      some (match tick with | none => Corr.post s kind v | some n => Corr.applyPost s kind j v.toNat n)
    else if o = 0x70 then some (Corr.prepWrite s v)
    else none
  | some 0x54 => if o = 0x4C then some (match tick with | none => Meas.cmd s v | some n => Meas.cmdAt s v n) else none
  | some 0x55 =>
    if o = 0x80 then
      some (match tick with | none => Capt.clearPost s v | some _ => Capt.applyPost s 0 (fld v 7 0) (fld v 23 16))
    else none
  | some 0x58 =>
    if o = 0x44 then some (s.wr Reg.coilAffinityWait (w32 (min 1000 (fld v 9 0))))
    else if o = 0x64 then some (Coil.nodeCtrl s v tick)
    else if o = 0x68 then some (Coil.submit s ini (fld v 13 0))
    else none
  | some 0x60 =>
    if o = 0x64 then
      let k := p - 0x60
      let s1 := if bit v 0 then Osier.inject s k true else s
      some (if bit v 1 then Osier.inject s1 k false else s1)
    else none
  | some 0xE0 =>
    if 0x200 ≤ o ∧ o < 0x400 ∧ o % 0x40 = 0x2C then
      some (if bit v 0 then Pstg.recheckCommand s (8 * (p - 0xE0) + (o - 0x200) / 0x40) else s)
    else none
  | some 0xE8 => if o = 0x48 then some (Lsup.cmd s v) else none
  | some 0xF0 => if o = 0x48 then some (Memc.train s (fld v 3 0)) else none
  | _ => none

/-! ### A write to a register -/

/-- FAULT_CAUSE clear (R46). -/
def Page.causeClear (s : State) (p : Nat) (v : Word) : State :=
  if !bit v 31 then s
  else
    let s1 := (s.wr (Reg.faultCause p) 0).wr (Reg.faultCount p) 0
    if unitOf p = some 0xF0 then Memc.causeClear s1 else s1

/-- PAGE_CTRL: soft_reset, and then the enable. [DEDUCED, unsafe: log entry 20] -/
def Page.ctrl (s : State) (p : Nat) (v : Word) (tick : Option Nat) : State :=
  let s1 := if bit v 1 then Page.softReset s p tick.isSome else s
  -- a soft reset of STAKE that waits for its sequence keeps the page's enable as written
  Page.enable s1 p (bit v 0) tick

/-- A value stored in a register that holds one: RW and ST bits take the value, W1C bits clear (R49). A plait writes both copies
of a staged register (R77). -/
def Page.store (s : State) (tick : Option Nat) (p o : Nat) (v : Word) : State :=
  match regAt p o with
  | none => s
  | some (r, _) =>
    let a := p * 0x1000 + o
    let rw := w32 r.rw; let w1c := w32 r.w1c
    let old := s.rd a
    let new := (v &&& rw) ||| (old &&& ~~~rw &&& ~~~(v &&& w1c))
    if rw = 0 ∧ w1c = 0 then s
    else if r.staged ∧ tick.isSome then
      let s1 := (s.wrBoth a new).unlatch a
      -- under R511 each write to the render rate counts as it is applied
      if a = Reg.stakeRenderRate ∧ !s.rateOn then Rate.now s1 else s1
    else (s.wr a new).unlatch a

/-- A 32-bit write to register address `a` by initiator `ini`; `tick` as in `Page.action`.
[DESIGN CHOICE, unsafe: log entry 8; DEDUCED, unsafe: log entry 15; DEDUCED, unsafe: log entry 21] -/
def Page.write (s : State) (ini : Nat) (tick : Option Nat) (a : Nat) (v : Word) : State :=
  let p := a / 0x1000
  let o := a % 0x1000
  let u := (unitOf p).getD 0
  if !s.pageUp p then s.discard
  else if o % 4 ≠ 0 ∨ 0x800 ≤ o then s
  else if o = 0x08 then Page.ctrl s p v tick
  else if o = 0x14 then s.wr a (v &&& w32 (irqMask u))
  else if o = 0x18 then s.wr (Reg.irqStatus p) (s.rd (Reg.irqStatus p) ||| (v &&& w32 (irqMask u)))
  else if o = 0x1C then Page.commitWrite s p v
  else if o = 0x2C then Page.causeClear s p v
  else if o < 0x40 then Page.store s tick p o v
  else match Page.action s ini tick p o v with
    | some s1 => s1
    | none => Page.store s tick p o v

end Sys2Proof.Machine
end

