-- ==== Sys2Proof/Machine/Plaits.lean ====
section
/-!
DEFINITION. The commit decision of a plait and its application (R74 to R77, R207, R210, R217, R511, R605, R606), and action 1 of a
frame tick: page commits, then plaits (R20, R54).
-/
namespace Sys2Proof.Machine

/-- A plait's writes are performed in capture order at frame `n` (R77). -/
def Plait.perform (s : State) (owner n : Nat) (writes : List (Nat × Word)) : State :=
  writes.foldl (fun s w => Page.write s owner (some n) w.1 w.2) s

/-- The final value that a list of writes gives register `a`. [DEDUCED, unsafe: log entry 14] -/
def Plait.final (writes : List (Nat × Word)) (a : Nat) : Option Word :=
  (writes.reverse.find? (fun w => w.1 = a)).map (·.2)

/-- Pages with a staged register among the writes, in order of first capture. -/
def Plait.pages (writes : List (Nat × Word)) : List Nat :=
  (writes.foldl (fun (l : List Nat) w =>
    let p := w.1 / 0x1000
    match regAt p (w.1 % 0x1000) with
    | some (r, _) => if r.staged && !l.contains p then p :: l else l
    | none => l) []).reverse

/-- L of R74: 2 µs, and 50 µs on a Hoop active. [DEDUCED, unsafe: log entry 14] -/
def Plait.lead (s : State) : Nat := if s.hoop.state = 5 then 50 * usU else 2 * usU

/-! ### The decision (R75) -/

/-- The first tick that a plait whose lead ends at local-counter instant `t` can take, while ticks are stopped: the one that the
present Stake time gives (R17, R602). [DEDUCED, unsafe: log entry 14] -/
def Plait.soonest (s : State) (t : Nat) : Nat := frameCeil s.clk.rate (s.clk.stake + (t - s.clk.mono))

/-- The frame of the pending plait in slot `k`; of one that waits for ticks to resume, the soonest that it can take. -/
def Plait.frameOf (s : State) (k : Nat) : Nat :=
  let x := Plait.slot s k
  match x.floating with
  | some t => Plait.soonest s t
  | none => x.frame

/-- Pending plaits in the order of R77: by frame, and then by decision. -/
def Plait.pendingList (s : State) : List Nat :=
  let key := fun (k : Nat) => (Plait.frameOf s k, (Plait.slot s k).decided)
  sortBy (fun a b =>
    let x := key a; let y := key b
    decide (x.1 < y.1 ∨ (x.1 = y.1 ∧ x.2 ≤ y.2)))
    (Plait.slots.filter (fun k => (Plait.slot s k).state == .pending))

/-- Slot `j` applies no later than frame `n`. -/
def Plait.upTo (s : State) (n j : Nat) : Bool := decide (Plait.frameOf s j ≤ n)

/-- The state with the pending plaits picked by `p` applied, in order. -/
def Plait.applied (s : State) (p : Nat → Bool) : State :=
  ((Plait.pendingList s).filter p).foldl (fun f j =>
    let x := Plait.slot s j
    Plait.perform f x.owner x.frame x.writes) s

/-- The first node post among the writes that the Coil refuses: its place among the writes, the node and the check (R217). -/
def Plait.nodeFail (f : State) (owner n : Nat) (writes : List (Nat × Word)) : Option (Nat × Nat × Nat) :=
  (writes.zipIdx.foldl (fun (st : State × Option (Nat × Nat × Nat)) e =>
    let w := e.1
    match st.2 with
    | some _ => st
    | none =>
      let op := fld w.2 1 0
      let bad : Option (Nat × Nat) :=
        if w.1 = Reg.coilNodeCtrl ∧ (op = 1 ∨ op = 2) then
          Coil.checkPost st.1 op (st.1.rdF Reg.coilNodeSel 13 0) (st.1.rdF Reg.coilNodeSel 30 16)
        else none
      (Page.write st.1 owner (some n) w.1 w.2, bad.map (fun b => (e.2, b)))) (f, none)).2

/-- The writes that call for the Coil admission check (R207). -/
def Plait.needsAdmission (writes : List (Nat × Word)) : Bool :=
  writes.any (fun w => w.1 == Reg.coilNodeCtrl || w.1 == Reg.coilGroupTier 0 || w.1 == Reg.coilGroupTier 1 ||
    w.1 == Reg.coilGroupTier 2 || w.1 == Reg.coilGroupTier 3 || w.1 == Reg.corrOutBank || w.1 == Reg.sceneBanks ||
    w.1 == Reg.stakeDirectWindowNs || w.1 == Reg.stakeRenderRate)

/-- The page's values on `f`, judged against the state `s` in force (R605). [DESIGN CHOICE, unsafe: log entry 13] -/
def Plait.pageFail (s f : State) (p : Nat) : Option Nat :=
  match Page.check1 f p (Page.view f p) with
  | some c => some c
  | none => Page.check2 s p (Page.view s p) (Page.view f p)

/-- The first write, in capture order, that the failure of a page of `bad` rests on, with its place and page: its register's final
value fails without the others, or the page passes without it; where no write is such, the first write to one of the
pages. `b` holds the registers without the plait's writes, `f` with them. [DEDUCED, unsafe: log entry 14] -/
def Plait.firstFail (s b f : State) (bad : List Nat) (writes : List (Nat × Word)) : Option (Nat × Nat × Nat) :=
  let mine := (writes.zipIdx.map (fun e => (e.2, e.1.1, e.1.1 / 0x1000))).filter (fun e => bad.contains e.2.2)
  let rests := fun (e : Nat × Nat × Nat) =>
    (Plait.pageFail s (b.we e.2.1 (f.ef e.2.1)) e.2.2).isSome || (Plait.pageFail s (f.we e.2.1 (b.ef e.2.1)) e.2.2).isNone
  match mine.find? rests with
  | some e => some e
  | none => mine.head?

/-- The plait writes the render rate while a change or a step is pending (R40), or at frame `n` too soon after a change that is still
to come at an earlier frame (R606). -/
def Plait.rateClash (s : State) (writes : List (Nat × Word)) (n : Nat) : Bool :=
  let code := fld (s.ef Reg.stakeRenderRate) 2 0
  let soon := fun (m : Nat) =>
    decide (m < n ∧ tickAt s.clk.rate n < (cdiv (tickAt s.clk.rate m + 100 * msU) secU + 2) * secU)
  let byCommit : Bool := match s.ctl.commit Stake.page with
    | none => false
    | some c =>
      let m := if c.mode = 1 then s.firstTickAfter (c.ready - s.clk.mono) else c.frame
      c.values.any (fun e => e.1 == 0x100 && fld e.2 2 0 != code) && soon m
  let byPlait := (Plait.pendingList s).any (fun j =>
    let x := Plait.slot s j
    match Plait.final x.writes Reg.stakeRenderRate with
    | some v => fld v 2 0 != code && x.floating.isNone && soon x.frame
    | none => false)
  (Plait.final writes Reg.stakeRenderRate).isSome && (Stake.rateChanging s || Stake.stepping s || byCommit || byPlait)

/-- Check 3: another pending plait at the same frame gives a register another final value. -/
def Plait.conflicts (s : State) (k : Nat) (n : Option Nat) : Bool :=
  let mine := (Plait.slot s k).writes
  (Plait.pendingList s).any (fun j =>
    let x := Plait.slot s j
    let same := match n with | none => x.floating.isSome | some f => x.floating.isNone && x.frame == f
    j != k && same && mine.any (fun w =>
      match Plait.final x.writes w.1 with
      | some v => some v != Plait.final mine w.1
      | none => false))

/-- The outcome of the checks of R75: an abort with the state that records it, or the tier to which the plait lowers the
admitted tier. -/
inductive Decision where
  | abort (o : Outcome) (s : State)
  | accept (s : State) (drop : Nat)

/-- Check 4 of R75. [DEDUCED, unsafe: log entry 14] -/
def Plait.check4 (s : State) (k : Nat) (n : Option Nat) : Decision :=
  let x := Plait.slot s k
  let at_n := n.getD (Plait.soonest s (s.clk.mono + Plait.lead s))
  let err (s : State) (a : Word) : State := Plait.setSlot s k { x with errAddr := a }
  let base := Plait.applied s (fun j => j != k && Plait.upTo s at_n j)
  let f := Plait.perform base x.owner at_n x.writes
  let page := Plait.firstFail s base f ((Plait.pages x.writes).filter (fun p => (Plait.pageFail s f p).isSome)) x.writes
  let node := Plait.nodeFail base x.owner at_n x.writes
  let nodeFirst : Bool := match node, page with | some (i, _), some (j, _) => decide (i < j) | _, _ => true
  match (if nodeFirst then none else page), node, page with
  | some (_, a, p), _, _ | none, none, some (_, a, p) =>
    let c := (Plait.pageFail s f p).getD 0
    let s1 := Page.noteRefusal s p (Page.view s p) (Page.view f p) c
    let s2 := if p = Stream.page ∨ p = Memc.page then s1.fault' p c else s1
    .abort .abortBudget (err s2 (w32 a))
  | none, some (_, k, c), _ => .abort .abortBudget (err (Coil.refuse s k c) (w32 Reg.coilNodeCtrl))
  | none, none, none =>
      if x.writes.any (fun w => w.1 == Reg.coilNodeCtrl && fld w.2 1 0 == 3) then
        .abort .abortBudget (err (s.fault' Coil.page 0x01) (w32 Reg.coilNodeCtrl))
      else if Plait.rateClash s x.writes at_n then .abort .abortBudget (err s (w32 Reg.stakeRenderRate))
      else if !Plait.needsAdmission x.writes then .accept s 0
      else
        let all := Plait.perform (Plait.applied s (fun j => j != k)) x.owner at_n x.writes
        let c := fld (all.ef Reg.stakeRenderRate) 2 0
        let code := if c = 0 then s.clk.rate else c
        if code = 0 then .accept s 0
        else
          let s1 := Coil.publish s all code
          match Coil.admitTier all code s.budget.admitted x.allowTier with
          | none => .abort .abortBudget s1
          | some t => .accept s1 (s.budget.admitted - t)

/-! ### Application (R77) -/

/-- The plait in slot `k` applies at frame `n`, without the units' hooks; it reads COMMITTED, and its pool entries are free.
[DESIGN CHOICE, unsafe: log entry 13] -/
def Plait.apply (s : State) (k n : Nat) : State :=
  let x := Plait.slot s k
  let s1 := Plait.finish s k .committed
  let s2 := Plait.perform s1 x.owner n x.writes
  if x.tierDrop = 0 then s2
  else { s2 with budget := { s2.budget with steps := s2.budget.steps ++ [(n, some (s2.budget.admitted - x.tierDrop), 5)] } }

/-- Pages that the writes reset: what they change later counts from the reset values. [DESIGN CHOICE, unsafe: log entry 13] -/
def Plait.resetPages (writes : List (Nat × Word)) : List Nat :=
  (writes.filter (fun w => w.1 % 0x1000 == 8 && bit w.2 1)).map (fun w => w.1 / 0x1000)

/-- The units' hooks for pages whose copies may differ from those of `s0`, with effect from frame `n`. [DESIGN CHOICE, unsafe: log entry 13] -/
def Page.hooks (s0 s : State) (pages resets : List Nat) (n : Nat) : State :=
  pages.foldl (fun s p =>
    let old : Nat → Word := if resets.contains p then fun o => regReset s.variant (p * 0x1000 + o) else Page.view s0 p
    Page.changed s p old (Page.view s p) n) s

/-- A plait applies when its decision is reached, while no render rate is in force (R511). -/
def Plait.applyNow (s : State) (k : Nat) : State :=
  let w := (Plait.slot s k).writes
  Page.hooks s (Plait.apply s k s.clk.frame) (Plait.pages w) (Plait.resetPages w) s.clk.frame

/-- PLAIT_COMMIT_DECISION for slot `k` (R74, R75, R511, R602). [DEDUCED, unsafe: log entry 14; DEDUCED, unsafe: log entry 15] -/
def Plait.decision (s : State) (k : Nat) : State :=
  let x := Plait.slot s k
  if x.state ≠ .open ∨ x.mode = 0 then s
  else
    let l := Plait.lead s
    let floats := x.mode = 1 && s.rateOn && !s.clk.ticking
    let frame := if x.mode = 1 then s.firstTickAfter l else x.frame
    let n : Option Nat := if floats then none else if !s.rateOn then some s.clk.frame else some frame
    let late := if !s.rateOn then decide (x.mode ≠ 1)
      else !floats && (decide (tickAt s.clk.rate frame < s.clk.stake + l) || (s.clk.ticking && decide (frame < s.clk.nextTick)))
    if x.overfull then Plait.finish s k .abortFull
    else if late then Plait.finish s k .abortLate
    else if Plait.conflicts s k n then Plait.finish s k .abortConflict
    else match Plait.check4 s k n with
      | .abort o s1 => Plait.finish s1 k o
      | .accept s1 drop =>
        let y := Plait.slot s1 k
        let s2 := Plait.setSlot s1 k { y with
          state := .pending, frame := n.getD s.clk.nextTick, floating := if floats then some (s.clk.mono + l) else none
          decided := s1.plait.seq + 1, tierDrop := drop, tierStepped := decide (0 < drop) }
        let s3 : State := { s2 with plait := { s2.plait with seq := s1.plait.seq + 1 } }
        if !s3.rateOn then Plait.applyNow s3 k else Hoop.sendPlait s3 k

/-! ### Action 1 of a frame tick (R20) -/

/-- Every page commit and then every plait that targets frame `n`; writes to the render rate form one change (R606).
[DEDUCED, unsafe: log entry 17] -/
def Control.tick (s : State) (n : Nat) : State :=
  let due := (Plait.pendingList s).filter (fun k => (Plait.slot s k).floating.isNone && (Plait.slot s k).frame == n)
  let s1 := Page.tickCommits s n
  let taken := (Tab.keys s.ctl.commits).filter (fun p => (s.ctl.commit p).isSome && (s1.ctl.commit p).isNone)
  -- a plait that a soft reset of an earlier one has ended does not apply (R56)
  let r := due.foldl (fun (a : State × List (Nat × Word)) k =>
    let x := Plait.slot a.1 k
    if x.state = .pending then (Plait.apply a.1 k n, a.2 ++ x.writes) else a) (s1, [])
  Rate.form (Page.hooks s r.1 (taken ++ Plait.pages r.2).dedup (Plait.resetPages r.2) n)

end Sys2Proof.Machine
end

