-- ==== Sys2Proof/Machine/Bus.lean ====
section
/-!
DEFINITION. The Weave (R41 to R45, R487 to R502): addresses and targets, array windows, bursts, arbitration, locks and records;
the PCI Express endpoint (R60, R61, R500), the SPI control port (R62 to R66), descriptor DMA (R67 to R69) and the transfers of the
Osier cores (R251 to R253).
-/
namespace Sys2Proof.Machine

/-! ### Array windows (R45) -/

/-- The BOOT window shows the common store (R534). [DEDUCED, unsafe: log entry 116] -/
def Boot.windowOpen (s : State) : Bool := s.boot.phase == 7 || (s.boot.phase == 4 && s.boot.source == 1)

/-- Address in the common store of offset `o` of the BOOT window (R514). [DEDUCED, unsafe: log entry 116] -/
def Boot.windowAddr (s : State) (o : Nat) : Nat := csAddr (0x100000 * s.rdF Reg.bootHostWin 3 0 + o)

/-- A word of the FAULT window: the ring, and the snapshot (R579). [DEDUCED, unsafe: log entry 132] -/
def FaultUnit.winRead (s : State) (o : Nat) : Word :=
  if o < 0x1000 then
    let r := s.fault.entry (o / 16)
    match o % 16 / 4 with
    | 0 => w32 r.frame
    | 1 => w32 (r.frame / 2 ^ 32)
    | 2 => w32 (r.page % 2048 + at_ 16 (r.code % 256) + at_ 24 (r.cls % 4) + at_ 31 (b2n r.valid))
    | _ => w32 (r.detail % 65536 + at_ 16 (satU 16 r.repeats))
  else if o < 0x80000 then 0
  else s.ld32 (Freeze.snapBase s.variant + 0x80000 * s.rdF Reg.faultSnapWin 5 0 + (o - 0x80000))

/-- A word written to the SCENE window; an object configuration word of the bank in force acts from the next tick (R101, R125). -/
def Scene.winWriteActs (s : State) (o : Nat) (w : Word) : State :=
  let s1 := Scene.winWrite s o w
  let b := s.efF Reg.sceneBanks 2 2
  if 0x52000 + 0x8000 * b ≤ o ∧ o < 0x52000 + 0x8000 * b + 0x8000 then
    Obj.applyEnable s1 ((o - 0x52000 - 0x8000 * b) / 32) (if s.rateOn then s.clk.nextTick else s.clk.frame)
  else s1

/-- A whole word written to offset `o` of the window of page `p`. [DEDUCED, unsafe: log entry 25] -/
def Window.write (s : State) (ini p o : Nat) (w : Word) : State :=
  if !s.pageUp p then s.discard
  else match unitOf p with
  | some 0x02 => if o < 8192 then s.st32 (winBase 2 + o) (w &&& 0xF7F) else s
  | some 0x04 => if Boot.windowOpen s then s.st32 (Boot.windowAddr s o) w else s.discard
  | some 0x07 => s.discard
  | some 0x08 => Hoop.winWrite s o w
  | some 0x13 => Stream.winWrite s o w
  | some 0x48 => if o < 0x4C00 ∨ (0x40000 ≤ o ∧ o < 0x80000) then s.discard else s
  | some 0x49 => Meter.winWrite s o w
  | some 0x50 => Scene.winWriteActs s o w
  | some 0x51 => Obj.winWrite s o w
  | some 0x52 => Warp.winWrite s o w
  | some 0x53 => Corr.winWrite s o w
  | some 0x54 => Meas.winWrite s o w
  | some 0x55 => Capt.winWrite s o w
  | some 0x58 => Coil.winWrite s o w
  | some 0x60 => Osier.winWrite s (p - 0x60) o w
  | some 0xE8 => Lsup.winWrite s o w
  | some 0xF0 => Memc.winWrite s ini o w
  | _ => s

/-- The word at offset `o` of the window of page `p`. [DEDUCED, unsafe: log entry 25] -/
def Window.read (s : State) (p o : Nat) : Word :=
  if !s.pageUp p then 0
  else match unitOf p with
  | some 0x02 => if o < 8192 then s.ld32 (winBase 2 + o) else 0
  | some 0x04 => if Boot.windowOpen s then s.ld32 (Boot.windowAddr s o) else 0
  | some 0x07 => FaultUnit.winRead s o
  | some 0x08 => Hoop.winRead s o
  | some 0x13 => Stream.winRead s o
  | some 0x48 => Route.winRead s o
  | some 0x49 => Meter.winRead s o
  | some 0x50 => Scene.winRead s o
  | some 0x51 => Obj.winRead s o
  | some 0x52 => Warp.winRead s o
  | some 0x53 => Corr.winRead s o
  | some 0x54 => Meas.winRead s o
  | some 0x55 => Capt.winRead s o
  | some 0x58 => Coil.winRead s o
  | some 0x60 => Osier.winRead s (p - 0x60) o
  | some 0xE8 => Lsup.winRead s o
  | some 0xF0 => Memc.winRead s o
  | _ => 0

/-- What a read of the window does beside answering (R262). -/
def Window.touch (s : State) (p o : Nat) : State :=
  if s.pageUp p && unitOf p == some 0x60 then Osier.winTouch s (p - 0x60) o else s

/-! ### Registers -/

/-- A 32-bit register write below 16 MiB: to a page, or captured through the plait alias (R41). -/
def Weave.regWrite (s : State) (ini a : Nat) (w : Word) : State :=
  if a < 0x00800000 then Page.write s ini none a w else Plait.capture s ini (a - 0x00800000) w

/-- A 32-bit read of a register, or of one through the plait alias (R73). -/
def Weave.regRead (s : State) (ini a : Nat) : State × Word :=
  Page.access s ini (if a < 0x00800000 then a else a - 0x00800000)

/-- Register address that an access to the register pages reaches. -/
def Weave.regAddr (a : Nat) : Nat := if a < 0x00800000 then a else a - 0x00800000

/-! ### The effect of one burst at its target -/

/-- The bytes of a write burst as pairs of the aligned word's address and its four bytes with their strobes. -/
def Weave.words (addr : Nat) (data : List (Byte × Bool)) : List (Nat × List (Byte × Bool)) :=
  let off := addr % 4
  let padded := List.replicate off ((0 : Byte), false) ++ data
  (List.range (cdiv padded.length 4)).map (fun i =>
    let q := slice padded (4 * i) 4
    (addr - off + 4 * i, q ++ List.replicate (4 - q.length) ((0 : Byte), false)))

/-- A write of one word with its strobes: whole words act, partial ones are discarded and counted (R44, R45). [DEDUCED, unsafe: log entry 25] -/
def Weave.wordWrite (s : State) (ini a : Nat) (q : List (Byte × Bool)) : State :=
  let w := w32 (ofLe (q.map (·.1)))
  if q.all (fun b => !b.2) then s
  else if !q.all (·.2) then s.discard
  else if a < 0x01000000 then Weave.regWrite s ini a w
  else Window.write s ini ((a - 0x01000000) / 0x100000) (a % 0x100000) w

/-- A read of `n` bytes from the register pages or the array windows, by 32-bit accesses in ascending order. -/
def Weave.wordsRead (s : State) (ini a n : Nat) : State × List Byte :=
  let off := a % 4
  let (s1, l) := (List.range (cdiv (off + n) 4)).foldl (fun (acc : State × List Byte) i =>
    let b := a - off + 4 * i
    if b < 0x01000000 then
      let (s1, w) := Weave.regRead acc.1 ini b
      (s1, acc.2 ++ leBytes 4 w.toNat)
    else (Window.touch acc.1 ((b - 0x01000000) / 0x100000) (b % 0x100000), acc.2 ++ leBytes 4 (Window.read acc.1 ((b - 0x01000000) / 0x100000) (b % 0x100000)).toNat)) (s, [])
  (s1, slice l off n)

/-- Bytes with their strobes over what memory holds. -/
def Weave.merge (s : State) (a : Nat) (data : List (Byte × Bool)) : List Byte :=
  data.zipIdx.map (fun p => if p.1.2 then p.1.1 else s.ld8 (a + p.2))

/-- The last read's data and response. [DEDUCED, unsafe: log entry 29] -/
def State.answer (s : State) (resp : Nat) (data : List Byte) : State := { s with ctl := { s.ctl with busResp := resp, busData := data } }

/-- A recorded error ends a burst: 1 ADDR_ERR, 2 TARGET_ERR, 3 LOCK_ERR. [DEDUCED, unsafe: log entry 27; DEDUCED, unsafe: log entry 28] -/
def Weave.error (s : State) (b : Burst) (resp target : Nat) : State :=
  (s.weaveEvent (if resp = 1 then 1 else if resp = 3 then 2 else 4) b.initiator target 0 b.write b.addr).answer resp []

/-- An access by initiator `ini` to address `a` waits behind the held writes of that initiator, and of any other to the same page
(R497): a held submission to the Coil (R203; one more submission joins its queue), and a held post to the Warp, whose initiator is
0. [DESIGN CHOICE, unsafe: log entry 163] -/
def Weave.behind (s : State) (ini a : Nat) : State :=
  let s1 := if a = Reg.coilSubmit then s
    else if a / 0x1000 = Coil.page then s.coil.heldSubmits.foldl (fun (s : State) e => Coil.flush s e.1) s
    else Coil.flush s ini
  if ini = 0 ∨ a / 0x1000 = Warp.page then Warp.accept s1 else s1

/-- A burst is transferred at target `t`, without a lock's rules, after the held writes that it waits behind. While MEM is off, DRAM reads and writes as an absent page.
[DEDUCED, unsafe: log entry 30] -/
def Weave.transfer (s0 : State) (b : Burst) (t : Nat) : State :=
  let s := Weave.behind s0 b.initiator b.addr
  if t < 2 then
    if b.targetErr then Weave.error s b 2 t
    else if b.write then
      ((Weave.words b.addr b.data).foldl (fun s p => Weave.wordWrite s b.initiator p.1 p.2) s).answer 0 []
    else
      let (s1, l) := Weave.wordsRead s b.initiator b.addr b.len
      s1.answer 0 l
  else if t < 6 then
    if b.targetErr then Weave.error s b 2 t
    else if b.write then
      let l := Weave.merge s b.addr (Hoop.ownWrite s b)
      (Resync.mirror (s.stN b.addr l) b.addr l).answer 0 []
    else s.answer 0 (s.ldN b.addr b.len)
  else if !s.pageUp Memc.page then
    if b.write then s.discard.answer 0 [] else s.answer 0 (List.replicate b.len 0)
  else
    let l := Weave.merge s b.addr (Hoop.ownWrite s b)
    Memc.request ((if b.write then Resync.mirror s b.addr l else s).answer 0 []) (t - 6) b.initiator b.write b.addr b.len l
      (if b.targetErr then 2 else 0) false 0

/-! ### Arbitration and locks (R493, R494, R500) -/

/-- The weight of an initiator (R490, R504). -/
def Weave.weight (s : State) (i : Nat) : Nat := s.efF (Reg.weaveWeight (i / 8)) (4 * (i % 8) + 3) (4 * (i % 8))

/-- A lock is older than 4 µs of Stake time. [DEDUCED, unsafe: log entry 27] -/
def Weave.lockOld (s : State) (t : Nat) : Bool :=
  match (Weave.arb s t).lock with
  | some (_, since, _) => decide (since + 4 * usU ≤ s.clk.stake)
  | none => false

/-- The lock at target `t` breaks: the rest of the sequence receives LOCK_ERR. [DEDUCED, unsafe: log entry 27] -/
def Weave.breakLock (s : State) (t : Nat) : State :=
  let x := Weave.arb s t
  match x.lock with
  | some (i, _, _) => Weave.setArb s t { x with lock := none, broken := some i }
  | none => s

/-- A granted burst runs, with the rules of a locked sequence. [DEDUCED, unsafe: log entry 27] -/
def Weave.run (s : State) (b : Burst) : State :=
  match Weave.target s.variant b.initiator b.addr with
  | none => Weave.error s b 1 0
  | some t =>
    if !b.locked then Weave.transfer s b t
    else if 6 ≤ t then Weave.error s b 1 t
    else if (Weave.arb s t).broken = some b.initiator then
      let s1 := Weave.error s b 3 t
      if b.final then Weave.setArb s1 t { Weave.arb s1 t with broken := none } else s1
    else match Weave.lockOf s b.initiator with
      | some t' =>
        if t' ≠ t then Weave.error s b 1 t
        else if Weave.lockOld s t then
          let s1 := Weave.error (Weave.breakLock s t) b 3 t
          if b.final then Weave.setArb s1 t { Weave.arb s1 t with broken := none } else s1
        else
          let s1 := Weave.transfer s b t
          let x := Weave.arb s1 t
          match x.lock with
          | some (i, since, n) =>
            if b.final then Weave.setArb s1 t { x with lock := none }
            else if 17 ≤ n + 1 then Weave.setArb s1 t { x with lock := none, broken := some i }
            else Weave.setArb s1 t { x with lock := some (i, since, n + 1) }
          | none => s1
      | none =>
        let s1 := Weave.transfer s b t
        if b.final then s1 else Weave.setArb s1 t { Weave.arb s1 t with lock := some (b.initiator, s.clk.stake, 1) }

/-- Burst `i` of the waiting list may be granted: it is the oldest of its initiator at its target, and a read has no earlier
write of its initiator before it (R496). [DESIGN CHOICE, unsafe: log entry 26] -/
def Weave.eligible (s : State) (t i : Nat) : Bool :=
  let b := s.weave.waiting.getD i {}
  let older := s.weave.waiting.take i
  Weave.target s.variant b.initiator b.addr == some t &&
  !older.any (fun p => p.initiator == b.initiator &&
    (Weave.target s.variant p.initiator p.addr == some t || (p.write && !b.write)))

/-- The initiators that target `t` may grant now. -/
def Weave.requests (s : State) (t : Nat) : List Nat :=
  ((List.range s.weave.waiting.length).filter (Weave.eligible s t)).map (fun i => (s.weave.waiting.getD i {}).initiator)

/-- The initiator that target `t` grants next (R493): the lock's owner; else the one whose turn it is while its weight lasts; else
the next in ascending order, and at the end of a round the first. [DESIGN CHOICE, unsafe: log entry 26] -/
def Weave.grant (s : State) (t : Nat) : Option Nat :=
  let x := Weave.arb s t
  let r := Weave.requests s t
  match x.lock with
  | some (i, _, _) => if r.contains i then some i else none
  | none =>
    match x.turn with
    | some i =>
      if r.contains i ∧ x.used < Weave.weight s i then some i
      else match (r.filter (fun j => decide (i < j))).min? with
        | some j => some j
        | none => r.min?
    | none => r.min?

/-- Target `t` grants and runs one waiting burst. -/
def Weave.serve (s : State) (t : Nat) : State :=
  match Weave.grant s t with
  | none => s
  | some i =>
    match (List.range s.weave.waiting.length).find? (fun k => Weave.eligible s t k && (s.weave.waiting.getD k {}).initiator == i) with
    | none => s
    | some k =>
      let b := s.weave.waiting.getD k {}
      let x := Weave.arb s t
      let used := if x.turn = some i then x.used + 1 else 1
      let s1 := Weave.setArb { s with weave := { s.weave with waiting := s.weave.waiting.eraseIdx k } } t
        { x with turn := some i, used := used, parked := i }
      let s2 := Weave.run s1 b
      if (Weave.requests s2 t).isEmpty then Weave.setArb s2 t { Weave.arb s2 t with turn := none, used := 0 } else s2

/-- Every target serves what waits, until nothing may be granted. [DESIGN CHOICE, unsafe: log entry 1; DESIGN CHOICE, unsafe: log entry 26] -/
def Weave.drain (s : State) : State :=
  (List.range s.weave.waiting.length).foldl (fun s _ => (List.range 19).foldl Weave.serve s) s

/-- WEAVE_BURST: a burst reaches its target. `wait` says that the target is busy, so that the burst waits with the others. -/
def Weave.burst (s : State) (b : Burst) (wait : Bool) : State :=
  if !b.ok then s
  else match Weave.target s.variant b.initiator b.addr with
  | none => Weave.error s b 1 0
  | some _ =>
    let s1 : State := { s with weave := { s.weave with waiting := s.weave.waiting ++ [b] } }
    if wait then s1 else Weave.drain s1

/-- LOCK_TIMEOUT: 4 µs of Stake time have passed since a lock's first grant; the lock breaks. [DEDUCED, unsafe: log entry 27] -/
def Weave.lockTimeout (s : State) : State :=
  let ts := (List.range 19).filter (fun t => (Weave.arb s t).lock.isSome)
  let dues := ts.map (fun t => match (Weave.arb s t).lock with | some l => l.2.1 + 4 * usU | none => 0)
  match dues.min? with
  | none => s
  | some due =>
    let s1 := s.toStake due
    Weave.drain (ts.foldl (fun s t => if Weave.lockOld s t then Weave.breakLock s t else s) s1)

/-- A burst issued by a unit that needs its response: what waits at the targets goes first, and a lock of another initiator holds it
until that lock breaks (R500). [DESIGN CHOICE, unsafe: log entry 26] -/
def Weave.issue (s : State) (b : Burst) : State :=
  let s1 := Weave.burst ((Weave.drain s).answer 0 []) b false
  if s1.weave.waiting.contains b then Weave.lockTimeout s1 else s1

/-- INITIATOR_RESET_MID_BURST (R501): `done` beats of the burst have passed; later write beats carry no strobes, read beats are
drained. A lock of the initiator is released at the end of the burst. -/
def Weave.resetBurst (s : State) (b : Burst) (done : Nat) : State :=
  if !b.ok ∨ b.beats ≤ done then s
  else match Weave.target s.variant b.initiator b.addr with
  | none => s
  | some t =>
    let kept := 16 * done - (if done = 0 then 0 else b.addr % 16)
    let b' := { b with data := b.data.zipIdx.map (fun p => if p.2 < kept then p.1 else (p.1.1, false)) }
    let s1 := if b.write then Weave.transfer s b' t else (Weave.transfer s b t).answer 0 []
    let s2 := s1.weaveEvent 3 b.initiator t (b.beats - done) b.write b.addr
    match Weave.lockOf s2 b.initiator with
    | some t' => Weave.setArb s2 t' { Weave.arb s2 t' with lock := none }
    | none => s2

/-- An initiator is reset, and the targets serve what else waits (R501). -/
def Weave.resetInitiator (s : State) (i : Nat) : State := Weave.drain (Weave.endInitiator s i)

/-! ### Transfers of several bursts -/

/-- Bytes up to the next block of 256. [DESIGN CHOICE, unsafe: log entry 26] -/
def Weave.room (a : Nat) : Nat := 256 - a % 256

/-- `n` bytes read by an initiator in bursts; reading stops at the first response that is not COMPLETE. -/
def Weave.readN (s : State) (ini : Nat) : Nat → Nat → Nat → State × List Byte × Nat
  | 0, _, _ => (s, [], 0)
  | fuel + 1, a, n =>
    if n = 0 then (s, [], 0)
    else
      let k := min n (Weave.room a)
      let s1 := Weave.issue s { initiator := ini, addr := a, len := k }
      if s1.ctl.busResp ≠ 0 then (s1, [], s1.ctl.busResp)
      else
        let d := s1.ctl.busData
        let (s2, l, e) := Weave.readN s1 ini fuel (a + k) (n - k)
        (s2, d ++ l, e)

/-- Bytes written by an initiator in bursts, for an activation released at frame `rel`; writing stops at the first response that is not
COMPLETE. -/
def Weave.writeFor (s : State) (ini rel : Nat) : Nat → Nat → List Byte → State × Nat
  | 0, _, _ => (s, 0)
  | fuel + 1, a, l =>
    if l.isEmpty then (s, 0)
    else
      let k := min l.length (Weave.room a)
      let s1 := Weave.issue s { initiator := ini, write := true, addr := a, data := (l.take k).map (fun b => (b, true)), release := rel }
      if s1.ctl.busResp ≠ 0 then (s1, s1.ctl.busResp) else Weave.writeFor s1 ini rel fuel (a + k) (l.drop k)

/-- Bytes written by an initiator that runs no activation. -/
def Weave.writeN (s : State) (ini fuel a : Nat) (l : List Byte) : State × Nat := Weave.writeFor s ini 0 fuel a l

/-! ### PCI Express (R60, R61, R500) -/

/-- The Weave address of an offset in a BAR; `none` where the BAR has none or the offset is unmapped. [DEDUCED, unsafe: log entry 29] -/
def Pcie.addr (v : Variant) (bar off : Nat) : Option Nat :=
  match bar with
  | 0 => if off < 0x1000000 then some off else none
  | 2 => if off < 0x10000000 then some (0x01000000 + off)
         else if off < 0x11000000 then some (2 ^ 40 + (off - 0x10000000)) else none
  | 4 => if off < v.pick 0x200000000 0x100000000 0x100000000 then some (dramBase + off) else none
  | _ => none

/-- The result of an AtomicOp: 0 FetchAdd, 1 Swap, 2 compare-and-swap, on `bits` bits. [DEDUCED, unsafe: log entry 29] -/
def Pcie.combine (op bits old a b : Nat) : Nat :=
  match op with
  | 0 => (old + a) % 2 ^ bits
  | 1 => a % 2 ^ bits
  | _ => if old = a % 2 ^ bits then b % 2 ^ bits else old

/-- PCIE_ATOMIC_OP on `size` bytes at an offset of a BAR: `x` is the operand or the compare value, `y` the swap value. Response 4 is
Unsupported Request. [DEDUCED, unsafe: log entry 29] -/
def Pcie.atomic (s : State) (bar off size op x y : Nat) : State :=
  if (size ≠ 4 ∧ size ≠ 8) ∨ off % size ≠ 0 ∨ 2 < op then s
  else match Pcie.addr s.variant bar off with
  | none =>
    -- the table gives no internal address for such an offset: the recorded address is a free value
    let (v, s1) := s.drawFree
    Weave.error s1 { initiator := 0, write := true, addr := v.toNat % 2 ^ 41 } 1 0
  | some a =>
    match Weave.target s.variant 0 a with
    | none => Weave.error s { initiator := 0, write := true, addr := a } 1 0
    | some t =>
      if t = 0 then s.answer 4 []
      else
        let lock := decide (t < 6)
        let s1 := Weave.issue s { initiator := 0, addr := a, len := size, locked := lock }
        if s1.ctl.busResp ≠ 0 then s1
        else
          let old := s1.ctl.busData
          let new := leBytes size (Pcie.combine op (8 * size) (ofLe old) x y)
          let s2 := Weave.issue s1 { initiator := 0, write := true, addr := a, data := new.map (fun b => (b, true)),
                                     locked := lock, final := true }
          if s2.ctl.busResp ≠ 0 then s2 else s2.answer 0 old

/-! ### The SPI control port (R62 to R66) -/

/-- SPI_READ: `n` words from `a`; a word whose access fails reads as 0x00 bytes and sets the decode error (R499). [DEDUCED, safe: log entry 23] -/
def Spi.read (s : State) (a n : Nat) : State :=
  if a % 4 ≠ 0 ∨ 1024 < n ∨ 2 ^ 40 ≤ a then s
  else
    let (s1, l) := (List.range n).foldl (fun (acc : State × List Byte) i =>
      let s1 := Weave.issue acc.1 { initiator := 1, addr := a + 4 * i, len := 4 }
      if s1.ctl.busResp = 0 then (s1, acc.2 ++ s1.ctl.busData)
      else ({ s1 with ctl := { s1.ctl with spi := { s1.ctl.spi with decodeErr := true } } }, acc.2 ++ List.replicate 4 0)) (s, [])
    { s1 with ctl := { s1.ctl with spi := { s1.ctl.spi with miso := (0xA5 : Byte) :: l ++ [BitVec.ofNat 8 (crc8 l)] } } }

/-- SPI_READ_TIMEOUT: 256 filler bytes have gone without the data. -/
def Spi.readTimeout (s : State) : State :=
  { s with ctl := { s.ctl with spi := { s.ctl.spi with timeout := true, miso := [0xE1] } } }

/-- Writes that the Weave holds (R147, R203). [DEDUCED, safe: log entry 23] -/
def Spi.heldCount (s : State) : Nat := s.coil.heldSubmits.length + b2n s.warp.held.isSome

/-- SPI_WRITE: the data bytes and the CRC byte received for `n` words at `a`. [DEDUCED, safe: log entry 23] -/
def Spi.write (s : State) (a n : Nat) (data : List Byte) (crc : Byte) : State :=
  if a % 4 ≠ 0 ∨ 1024 < n ∨ 2 ^ 40 ≤ a then s
  else
    let bytes := (0x02 : Byte) :: leBytes 5 a ++ leBytes 2 n ++ data
    let good := decide (data.length = 4 * n) && crc.toNat == crc8 bytes
    let s1 : State := { s with ctl := { s.ctl with spi := { s.ctl.spi with crcErr := !good } } }
    if !good then s1.fault' 1 0x81
    else
      let s2 := (List.range n).foldl (fun (s : State) i =>
        let r := Weave.issue s { initiator := 1, write := true, addr := a + 4 * i,
                                 data := (slice data (4 * i) 4).map (fun b => (b, true)) }
        if r.ctl.busResp = 0 then r else { r with ctl := { r.ctl with spi := { r.ctl.spi with decodeErr := true } } }) s1
      { s2 with ctl := { s2.ctl with spi := { s2.ctl.spi with busy := decide (Spi.heldCount s1 < Spi.heldCount s2) } } }

/-- The status byte. [DEDUCED, safe: log entry 23] -/
def Spi.statusByte (s : State) : Nat :=
  b2n s.ctl.spi.crcErr + at_ 1 (b2n s.ctl.spi.timeout) + at_ 2 (b2n s.ctl.spi.decodeErr) +
    at_ 3 (b2n (s.ctl.spi.busy && Spi.heldCount s != 0))

/-- SPI_STATUS: a filler byte, whose value the table leaves open, and then the status byte. [DEDUCED, safe: log entry 23] -/
def Spi.status (s : State) : State :=
  { s with freeCtr := s.freeCtr + 1
           ctl := { s.ctl with spi := { s.ctl.spi with
             miso := [(Config.free s.freeCtr).setWidth 8, BitVec.ofNat 8 (Spi.statusByte s)] } } }

/-- SPI_CLEAR. -/
def Spi.clear (s : State) : State :=
  { s with ctl := { s.ctl with spi := { s.ctl.spi with crcErr := false, timeout := false, decodeErr := false, miso := [] } } }

/-! ### Descriptor DMA (R67 to R69) -/

/-- DEDUCED, unsafe: log entry 24. -/
def Dma.ch (s : State) (k : Nat) : DmaCh := Tab.get (fun _ => ({} : DmaCh)) s.ctl.dma k
def Dma.setCh (s : State) (k : Nat) (x : DmaCh) : State :=
  { s with ctl := { s.ctl with dma := Tab.set (fun _ => ({} : DmaCh)) s.ctl.dma k x } }

/-- The descriptor's ctrl is written back. [DEDUCED, unsafe: log entry 24] -/
def Dma.writeBack (s : State) (k ctrl : Nat) : State :=
  let x := Dma.ch s k
  if x.descHost then { s with ctl := { s.ctl with hostWrites := s.ctl.hostWrites ++ [(x.desc, leBytes 4 ctrl)] } }
  else (Weave.writeN s (2 + k) 2 x.desc (leBytes 4 ctrl)).1

/-- The channel stops with an error, which is written back. [DEDUCED, unsafe: log entry 24] -/
def Dma.fail (s : State) (k ctrl e : Nat) : State :=
  Weave.endInitiator (Dma.setCh (Dma.writeBack s k (ctrl / 2 % 2 ^ 27 * 2 + at_ 28 e + at_ 31 1)) k {}) (2 + k)

/-- DMA_DESCRIPTOR_DONE: the channel handles the descriptor in progress. `words` are its 32 bytes where it lies in host memory, and
`data` what the host memory holds at a source there. [DEDUCED, unsafe: log entry 24] -/
def Dma.descriptor (s : State) (k : Nat) (words data : List Byte) : State :=
  let x := Dma.ch s k
  if 8 ≤ k ∨ !x.running then s
  else
    let (s1, d, e) := if x.descHost then (s, words, 0) else Weave.readN s (2 + k) 8 x.desc 32
    if e ≠ 0 ∨ d.length ≠ 32 then Weave.endInitiator (Dma.setCh s1 k {}) (2 + k)
    else
      let at4 := fun (o : Nat) => ofLe (slice d o 4)
      let at8 := fun (o : Nat) => ofLe (slice d o 8)
      let ctrl := at4 0
      let count := at4 4; let src := at8 8; let dst := at8 16; let next := at8 24
      if !ctrl.testBit 0 then Dma.setCh s1 k {}
      else if count % 4 ≠ 0 ∨ src % 4 ≠ 0 ∨ dst % 4 ≠ 0 then Dma.fail s1 k ctrl 1
      else if ctrl.testBit 3 ∧ data.length ≠ count then s
      else
        let fuel := count / 256 + 2
        let (s2, l, er) := if ctrl.testBit 3 then (s1, data, 0) else Weave.readN s1 (2 + k) fuel src count
        let (s3, ew) : State × Nat :=
          if ctrl.testBit 4 then
            (if l.isEmpty then s2 else { s2 with ctl := { s2.ctl with hostWrites := s2.ctl.hostWrites ++ [(dst, l)] } }, 0)
          else Weave.writeN s2 (2 + k) fuel dst l
        let err := if er ≠ 0 then er else ew
        if err ≠ 0 then Dma.fail s3 k ctrl (if err = 1 then 2 else 3)
        else
          let s4 := Dma.writeBack s3 k (ctrl / 2 % 2 ^ 27 * 2 + at_ 31 1)
          let s5 := if ctrl.testBit 1 then s4.irq 1 k else s4
          -- a descriptor that carried a write of DMA_CTRL to its own channel may have stopped it
          if !(Dma.ch s5 k).running then s5
          else if ctrl.testBit 2 then Dma.setCh s5 k {}
          else Dma.setCh s5 k { x with desc := next, descHost := ctrl.testBit 5 }

/-! ### Osier transfers (R251 to R253) -/

/-- The Direct region of a core that an external address names: local bytes from 0xF000 of X or Y in a core's window. -/
def Osier.directCore (a : Nat) : Option Nat :=
  if 0x07000000 ≤ a ∧ a < 0x0F000000 then
    let o := (a - 0x07000000) % 0x100000
    if o < 0x20000 ∧ 0xF000 ≤ o % 0x10000 then some ((a - 0x07000000) / 0x100000) else none
  else none

/-- What an XWR writes, in stretches of at most 4 KiB, so that each lies inside or outside a Direct region: one inside that comes after
the deadline of the activation is discarded and counted, and the rest is written (R253). [DEDUCED, unsafe: log entry 58] -/
def Osier.deliver (s : State) (ini : Nat) (deadline : Option Nat) (rel : Nat) (common : Bool) : Nat → Nat → List Byte → State × Nat
  | 0, _, _ => (s, 0)
  | f + 1, a, l =>
    if l = [] then (s, 0)
    else
      let n := min (4096 - a % 4096) l.length
      let late := match if common then none else Osier.directCore a with
        | some j => Osier.lateDelivery s j deadline
        | none => none
      let (s1, e) := match late with
        | some s1 => (s1, 0)
        | none => Weave.writeFor s ini rel (n / 256 + 2) a (l.take n)
      if e ≠ 0 then (s1, e) else Osier.deliver s1 ini deadline rel common f (a + n) (l.drop n)

/-- TRANSFER_COMPLETE: the oldest transfer of core `k` moves its data and ends. -/
def Osier.transfer (s : State) (k : Nat) : State :=
  let c := Osier.core s k
  match c.xfers with
  | [] => s
  | x :: _ =>
    let ini := 13 + k / 32
    let ext := if x.common then csAddr x.ext else x.ext
    if x.write then
      let l := (List.range (x.bytes / 4)).flatMap (fun i => leBytes 4 (Osier.wordAt s k x.y (x.loc + i)).toNat)
      let (s2, e) := Osier.deliver (if x.y then s else Osier.xRead s k) ini x.deadline x.release x.common 18 ext l
      Osier.xferEnd s2 k (e != 0)
    else
      let (s1, l, e) := Weave.readN s ini (x.bytes / 256 + 2) ext x.bytes
      let s2 := if e ≠ 0 then s1
        else (List.range (x.bytes / 4)).foldl (fun s i => Osier.writeWord s k x.y (x.loc + i) (w32 (ofLe (slice l (4 * i) 4)))) s1
      Osier.xferEnd s2 k (e != 0)

end Sys2Proof.Machine
end

