-- ==== Sys2Proof/Machine/Start.lean ====
section
/-!
DEFINITION. The end of a start attempt (R508 steps 3 to 6, R509, R513 to R518, R265, R266): the image is read and checked, its
sections are applied in table order, and the configuration plait brings the device to Ready.
-/
namespace Sys2Proof.Machine

/-! ### Kernel objects (R265, R266) -/

/-- The loader refuses a kernel object. [DEDUCED, unsafe: log entry 118] -/
def Kernel.refused (s : State) (l : List Byte) : Bool :=
  let flags := Img.num l 6 2
  let load := Img.num l 8 2; let bc := Img.num l 0x0A 2; let ec := Img.num l 0x0C 2
  let body := slice l 0x20 (8 * bc + 8 * ec)
  let entry := fun (i : Nat) => 0x20 + 8 * bc + 8 * i
  Img.num l 0 4 != 0x4B534F5A || Img.num l 4 2 != 1 || Img.num l 0x10 4 != crc32 body || body.length != 8 * bc + 8 * ec ||
  !(Img.zero l 0x0E 2 && Img.zero l 0x14 12) || flags / 2 % 128 != 0 || flags.testBit 15 ||
  (List.range ec).any (fun i => Img.num l (entry i + 3) 1 != 0 || decide (bc ≤ Img.num l (entry i) 2)) ||
  decide (3072 < load + bc) || (flags.testBit 0 && !Coil.corePresent s (flags / 256 % 128))

/-- The bundles of an accepted object go to the cores that its flags name. [DEDUCED, unsafe: log entry 118] -/
def Kernel.write (s : State) (l : List Byte) : State :=
  let flags := Img.num l 6 2
  let load := Img.num l 8 2; let bc := Img.num l 0x0A 2
  let cores := if flags.testBit 0 then [flags / 256 % 128] else Osier.present s
  cores.foldl (fun s k => (List.range (2 * bc)).foldl (fun s i =>
    Osier.writeImem s k (8 * load + 4 * i) (w32 (Img.num l (0x20 + 4 * i) 4))) s) s

/-! ### Sections (R517, R518) -/

/-- An array load: the boot loader writes the data, as whole words where a window takes words; a Weave error fails the attempt.
[DEDUCED, unsafe: log entry 118] -/
def Start.arrayLoad (s : State) (l : List Byte) : State × Bool :=
  let d := l.drop 8
  let (s1, e) := Weave.writeN s 10 (d.length / 256 + 2) (Img.num l 0 8) d
  (s1, e == 0)

/-- The configuration plait (R518): owner 10, mode 1; it must end COMMITTED. -/
def Start.plait (s : State) (l : List Byte) : State × Bool :=
  let s1 := Plait.open_ s 10
  match Plait.openOf s1 10 with
  | none => (s1, false)
  | some k =>
    let s2 := (List.range (l.length / 8)).foldl (fun s i =>
      Plait.capture s 10 (Img.num l (8 * i) 4) (w32 (Img.num l (8 * i + 4) 4))) s1
    let s3 := Plait.decision (Plait.commit s2 10 1) k
    (s3, (Plait.slot s3 k).outcome == .committed)

/-- The sections in table order; `some code` where one fails the attempt. [DEDUCED, unsafe: log entry 118] -/
def Start.sections (s : State) (img : List Byte) : List Section → State × Option Nat
  | [] => (s, none)
  | x :: rest =>
    let d := slice img x.off x.len
    match x.kind with
    | 1 => if Kernel.refused s d then (s, some 0x86) else Start.sections (Kernel.write s d) img rest
    | 2 =>
      let (s1, ok) := Start.arrayLoad s d
      if ok then Start.sections s1 img rest else (s1, some 0x80)
    | _ =>
      let (s1, ok) := Start.plait s d
      if ok then Start.sections s1 img rest else (s1, some 0x87)

/-! ### The image (R513, R514) -/

/-- The code with which a QSPI slot fails; a flash error is a source error. -/
def Start.slotFails (s : State) : Option (List Byte) → Option Nat
  | none => some 0x80
  | some l => Boot.check s l 16777216

/-- The image that the attempt uses with its slot, or the code with which the attempt fails: a QSPI attempt takes slot 0, else
slot 1, and the code of slot 1 stands when both fail. -/
def Start.image (s : State) (slot0 slot1 : Option (List Byte)) : List Byte × Nat × Option Nat :=
  if s.boot.source = 1 then (Boot.hostImage s (s.boot.hostGo.getD 0), 0, none)
  else match Start.slotFails s slot0 with
    | none => (slot0.getD [], 0, none)
    | some _ => (slot1.getD [], 1, Start.slotFails s slot1)

/-- Ready (R508 step 6, R515, R529, R530, R533). -/
def Start.ready (s : State) (img : List Byte) : State :=
  let ms := (s.clk.mono - s.boot.releaseAt) / msU
  let s1 := (s.wr64 Reg.bootImageIdLo Reg.bootImageIdHi (Img.num img 0x18 8)).wr Reg.bootStartTimeMs (w32 (satU 16 ms))
  let s2 := s1.irq Boot.page 0
  let s3 : State := { s2 with
    boot := { s2.boot with phase := 6, fails := 0, safeOrigin := false, failedTest := false, hostGo := none, hostDue := none,
                           erasing := Boot.mustErase s2 }
    bist := { s2.bist with lastSlice := s2.clk.mono, cycleStart := s2.clk.mono, sliceDone := [], lapse := false }
    hoop := { s2.hoop with readyAt := s2.clk.mono, joinWait := if s2.hoop.role = 0 then 0 else 1 } }
  if s3.boot.heldShutdown then Shutdown.request s3 else s3

/-- START_READY: the image load, its checks, the last part of the full test and the application of the sections, `ns` after the
load began. `slot0` and `slot1` are what the QSPI flash holds there, absent where a read fails. [DEDUCED, unsafe: log entry 114] -/
def Start.run (s : State) (slot0 slot1 : Option (List Byte)) (ns : Nat) : State :=
  if s.boot.phase ≠ 4 ∨ (s.boot.source = 1 ∧ s.boot.hostGo = none) then s
  else
    let s0 := s.pass (ns * nsU)
    match Start.image s0 slot0 slot1 with
    | (_, slot, some code) => Boot.fail { s0 with boot := { s0.boot with slot := slot } } code
    | (img, slot, none) =>
      -- the boot loader writes the device's own kernels (R226)
      let s1 : State := { s0 with boot := { s0.boot with slot := slot, phase := 5 }, osier := { s0.osier with devLoaded := true } }
      let dram : Option Nat := if s1.boot.kind = 0 then
          (match s1.boot.env.testFail with | some (4, item) => some item | _ => none) else none
      match dram with
      | some item => Boot.failTest s1 4 item
      | none =>
        let s2 := if s1.boot.kind = 0 then s1.wrF Reg.bistStatus 3 0 15 else s1
        match Start.sections s2 img (Img.sections img) with
        | (s3, some code) => Boot.fail s3 code
        | (s3, none) => Start.ready s3 img

end Sys2Proof.Machine
end

