-- ==== Sys2Proof/Machine/Frame.lean ====
section
/-!
DEFINITION. One frame (R15 to R31): the tick, the steps of the direct path, the end of the direct window and the guard; a change of
render rate (R38 to R40) and a Stake step (R383, R384).
-/
namespace Sys2Proof.Machine

/-! ### The steps of the direct path (R25, R27) -/

def Frame.path (s : State) : PathSt := s.coil.path
def Frame.setPath (s : State) (p : PathSt) : State := { s with coil := { s.coil with path := p } }

/-- Steps 2 and 3: render inputs from the Router, and the object front end; OBJ_DONE fires (R190). [DEDUCED, unsafe: log entry 31] -/
def Frame.steps23 (s : State) : State :=
  let n := s.clk.frame
  let s1 := Obj.run s (fun i => Route.renderInput s i n) n (Frame.path s).env.prefetchMiss
  Coil.fire (Coil.event (Frame.setPath s1 { Frame.path s1 with in0 := s1.obj.x, steps := 3 })) 1

/-- Steps 4 and 5: the Warp and CORR, after the Direct nodes of insertion point 0; CORR_DONE fires (R190). [DEDUCED, unsafe: log entry 31] -/
def Frame.steps45 (s : State) : State :=
  let n := s.clk.frame
  let s0 := Coil.closePoint s 0
  let x := (Frame.path s0).out0
  let s1 := Warp.run s0 (fun i => Tab.get (fun _ => 0) x i) n
  let cols := (Tab.keys s1.warp.y ++ Meas.active s1).dedup
  let s2 := Corr.run s1 (fun j => Meas.inject s1 false j n (Warp.out s1 j)) cols (fun j v => Meas.inject s1 true j n v) n
  let z := (Tab.keys s2.corr.outs).foldl (fun t j => Tab.set (fun _ => (0 : Int)) t j (Corr.z s2 j)) []
  Coil.fire (Coil.event (Frame.setPath s2 { Frame.path s2 with in1 := z, steps := 5 })) 2

/-- The render outputs after the Direct nodes of insertion point 1. [DEDUCED, unsafe: log entry 35] -/
def Frame.outputs (s : State) : State :=
  let s0 := Coil.closePoint s 1
  (Coil.touched s0 1).foldl (fun s j => Corr.setOut s j { Corr.out s j with z := Tab.get (fun _ => 0) (Frame.path s0).out1 j }) s0

/-- First sink of a port page (R418). -/
def Frame.firstSink (p : Nat) : Nat :=
  if Port.kind p = 1 then 0x400 + 16 * (p - 0x20) else if Port.kind p = 2 then 0x500 + 2 * (p - 0x30) else 0x600 + 64 * (p - 0x38)

/-- A figure that the surroundings show, by number. -/
def TickEnv.look (l : List (Nat × Nat)) (k : Nat) : Option Nat := (l.find? (fun e => e.1 == k)).map (·.2)

/-- Steps 6 and 7: every sink takes its source, the outputs load, meters and streams take their samples, and the mix is formed for
the next frame's sinks (R419). A fixed unit that has not loaded an output register leaves its previous sample (R29).
[DEDUCED, unsafe: log entry 31] -/
def Frame.steps67 (s : State) : State :=
  let n := s.clk.frame
  let s0 := Frame.outputs s
  let env := (Frame.path s0).env
  let keep := fun (k : Nat) => env.unloaded.contains k
  let s1 := (Port.live s0).foldl (fun s p =>
    let k0 := Frame.firstSink p
    Port.load s p n (fun k => keep (k0 + k)) (fun k => Route.value s0 (k0 + k) n)) s0
  let g := s1.port.sinkGain.at n
  let out := fun (k : Nat) => satS 32 (rnd 30 (Route.value s1 k n * g))
  let host := (List.range (HostAud.channels s1 true)).map (fun c => if keep (0xC00 + c) then nth 0 s1.port.hostOut c else out (0xC00 + c))
  let s2 : State := { s1 with port := { s1.port with hostOut := if HostAud.active s1 true then host else [] } }
  let s3 := Pstg.frame s2 (fun c => if keep (0xD00 + c) then none else some (out (0xD00 + c))) (TickEnv.look env.power) (TickEnv.look env.rails)
  let s4 := Resync.frame (Route.mixStep (Hoop.noteCrc (Stream.collect (Meter.run s3 n) n) n) n) n
  Frame.setPath s4 { Frame.path s4 with steps := 7 }

/-- The next steps run where the Direct nodes before them have ended. [DEDUCED, unsafe: log entry 31] -/
def Frame.advance (s : State) : State :=
  match (Frame.path s).steps with
  | 1 => Frame.steps23 s
  | 3 => if Coil.pointDone s 0 then Frame.steps45 s else s
  | 5 => if Coil.pointDone s 1 then Frame.steps67 s else s
  | _ => s

/-- The direct path of the frame in progress goes on as far as it can. [DEDUCED, unsafe: log entry 31; DEDUCED, unsafe: log entry 35] -/
def Frame.go (s : State) : State :=
  if s.clk.phase = 0 ∧ s.clk.ticking then Frame.advance (Frame.advance (Frame.advance s)) else s

/-! ### The end of the window, the cut-offs and the guard (R21, R29, R212) -/

/-- W in ns. -/
def Frame.window (s : State) : Nat := s.efF Reg.stakeDirectWindowNs 12 0

/-- DIRECT_CUTOFF: at tick n + W − 530 ns for point 0, or tick n + W − 100 ns for point 1, every Direct node due there that has not
ended misses the frame. [DESIGN CHOICE, safe: log entry 9] -/
def Frame.cutoff (s : State) : State :=
  let go := fun (pt before : Nat) => Frame.go (Osier.sync (Coil.cutoff (s.toMono (s.clk.tickMono + (Frame.window s - before) * nsU)) pt))
  if s.clk.phase ≠ 0 ∨ !s.clk.ticking then s
  else match (Frame.path s).steps with
    | 3 => go 0 530
    | 5 => go 1 100
    | _ => s

/-- The end of the window after the tick, in units of time: the edge step nearest to W (R22). -/
def Frame.windowAt (s : State) : Nat := cdiv (Frame.windowSteps s * 1000000000 * nsU) (Pstg.edgeRate s.clk.rate)

/-- DIRECT_WINDOW_END: at tick n + W, with the frame's slack as measured; Early outputs present the frame (R30, R31). -/
def Frame.windowEnd (s : State) (slack : Option Nat) : State :=
  if s.clk.phase ≠ 0 ∨ !s.clk.ticking then s
  else
    let n := s.clk.frame
    let s0 := Frame.cutoff (Frame.cutoff (Frame.go s))
    let s1 := s0.toMono (s0.clk.tickMono + Frame.windowAt s0)
    let env := (Frame.path s1).env
    let bad := !env.unloaded.isEmpty
    let s2 : State := { s1 with clk := { s1.clk with phase := 1 }, hoop := { s1.hoop with loaded := !bad } }
    let s3 := if bad then s2.fault' 7 0x80 else s2
    let s4 := match slack with | some x => Budget.frameSlack s3 x | none => s3
    let r := Corr.release (Coil.windowEnd (Pstg.present (Port.presentEarly s4) true n env) n) n
    Coil.corrRelease r.1 r.2

/-- GUARD_BEGIN: 0.5 µs before the next tick. [DESIGN CHOICE, safe: log entry 9] -/
def Frame.guard (s : State) : State :=
  if !s.clk.ticking ∨ s.clk.phase = 2 then s
  else
    let s1 := Frame.windowEnd s none
    let s2 := s1.toStake (s1.nextTickAt - 500 * nsU)
    { s2 with clk := { s2.clk with phase := 2 } }

/-! ### The tick (R20) -/

/-- The next tick falls before a rate change that is due (R38). [DEDUCED, unsafe: log entry 33] -/
def Frame.beforeChange (s : State) : Bool :=
  match s.clk.rateChange with
  | some (sec, _) => s.clk.rateStep == 4 || s.clk.rateStep == 5 || decide (s.nextTickAt < sec * secU)
  | none => true

/-- The first tick at a render rate (R131, R281, R303). -/
def Frame.firstAtRate (s : State) (n : Nat) : State :=
  if s.clk.rateStep = 4 ∧ n = s.clk.firstTick then
    let s1 := Port.startWaiting (Pstg.firstTick (Budget.firstTick (Felot.reframe s n) n))
    { s1 with clk := { s1.clk with rateStep := 5 } }
  else s

/-- Soft resets that act at the tick, before anything that acts on the reset state (R56, R153, R180). [DEDUCED, unsafe: log entry 35] -/
def Frame.resets (s : State) : State := Capt.tickReset (Route.tickReset (Corr.tickReset (Warp.tickReset s)))

/-- Posts and enables that act at tick `n`, after the commits and plaits. [DEDUCED, unsafe: log entry 35] -/
def Frame.posts (s : State) (n : Nat) : State :=
  let s2 := Coil.tickPosts (Corr.tickPosts (Warp.tickPosts s n) n) n
  Page.tickEnables (Capt.tickPosts (Meter.tickPosts (Route.tickPosts s2 n) n)) n

/-- The instant of the next tick: the frame before has ended, and frame `nextTick` begins. [DEDUCED, unsafe: log entry 32] -/
def Frame.beginTick (s : State) (env : TickEnv) : State :=
  let s0 := Frame.windowEnd s none
  let s1 := s0.toStake s0.nextTickAt
  { s1 with
    clk := { s1.clk with frame := s.clk.nextTick, nextTick := s.clk.nextTick + 1, phase := 0, tickMono := s1.clk.mono }
    coil := { s1.coil with path := { s1.coil.path with env := env, steps := 0 } } }

/-- What the frame before presents at tick `n`. [DEDUCED, unsafe: log entry 35] -/
def Frame.present (s : State) (n : Nat) : State :=
  let s1 := Pstg.carriers (Port.presentTick s) n
  let s2 := if n = s1.clk.firstTick then s1 else HostAud.queue (Pstg.present s1 false (n - 1) (Frame.path s1).env) (n - 1)
  Stream.send s2 n

/-- Action 1 of R20: commits, plaits and bank swaps, and then the posts, resets, enables and messages that act at tick `n`.
[DEDUCED, unsafe: log entry 32] -/
def Frame.action1 (s : State) (n : Nat) (claimIn : Bool) : State :=
  let s1 := Frame.posts (Frame.firstAtRate (Control.tick (Corr.prepTick (Frame.resets s)) n) n) n
  let s2 := Memc.tick (Meas.tick (Budget.tickTier s1 n) n)
  Lsup.tick (Hoop.tick (Claim.tick s2 n claimIn) n)

/-- Action 2 of R20: the input buffers latch, and the services that read them take their turn. [DEDUCED, unsafe: log entry 32] -/
def Frame.action2 (s : State) (n : Nat) (env : TickEnv) : State :=
  let s1 := Stream.latch (Meas.capture (Capt.latch (HostAud.latch (Port.latch s n) n) env.capt n) n) n
  Route.stepGens (Scene.tick s1 n env.unsolved) n

/-- Action 3 of R20: the Coil re-arms the Direct nodes, and the frame's direct path begins; a solve grid point of `len` frames and
an epoch are events of the Coil (R190). [DEDUCED, unsafe: log entry 32] -/
def Frame.action3 (s : State) (n len : Nat) : State :=
  let s1 := Coil.tick s n (len != 0 && n % len == 0) (n % Budget.fb s == 0)
  let s2 := if s1.stake.stepStage = 4 then
      ({ s1 with stake := { s1.stake with stepStage := 5, stepAt := s1.clk.mono } } : State) else s1
  Frame.go (Frame.setPath s2 { Frame.path s2 with steps := 1 })

/-- A tick is due: ticks are produced, and none falls at or after a pending change of rate. [DEDUCED, unsafe: log entry 33] -/
def Frame.due (s : State) : Bool := s.rateOn && s.clk.ticking && Frame.beforeChange s

/-- FRAME_TICK: tick `n` (R20), with what the surroundings show in the frame that it begins. [DEDUCED, unsafe: log entry 32] -/
def Frame.tick (s : State) (env : TickEnv) : State :=
  if !Frame.due s then s
  else
    let n := s.clk.nextTick
    let s1 := Frame.action1 (Frame.present (Frame.beginTick s env) n) n (env.claimIn == 1)
    let s2 := Frame.action2 s1 n env
    Frame.action3 s2 n (Scene.interval s2)

/-- CLAIM_IN_N floats on a member of a pair: outside the conditions of the manual (R9, R543). [DESIGN CHOICE, safe: log entry 11] -/
def Frame.outside (s : State) (env : TickEnv) : Bool := s.hoop.role != 0 && env.claimIn == 2

/-! ### A change of render rate (R38 to R40, R6, R219) -/

/-- RATE_CHANGE_RAMP: at S − 30 ms the outputs start their ramp, and a measurement aborts (R459). [DEDUCED, unsafe: log entry 34] -/
def Rate.ramp (s : State) : State :=
  match s.clk.rateChange with
  | some (sec, _) =>
    if s.clk.rateStep ≠ 1 ∨ !s.rateOn then s
    else
      let s1 := s.toStake (sec * secU - 30 * msU)
      let s2 := Meas.abort (Port.rampDown s1 s1.clk.nextTick)
      { s2 with clk := { s2.clk with rateStep := 2 } }
  | none => s

/-- RATE_CHANGE_MUTE: at S − 5 ms the power-stage channels enter the clock-error mute state. [DEDUCED, unsafe: log entry 34] -/
def Rate.mute (s : State) : State :=
  match s.clk.rateChange with
  | some (sec, code) =>
    if s.clk.rateStep ≠ 2 then s
    else
      let s0 := s.toStake (sec * secU - 5 * msU)
      let s1 := Pstg.muteAll (if code = 0 then Port.leadOut s0 else s0) 2
      { s1 with clk := { s1.clk with rateStep := 3 } }
  | none => s

/-- Every unit goes over to rate `code`, whose first frame is `n`; the rate before was `old`. [DEDUCED, unsafe: log entry 33] -/
def Rate.units (s : State) (old code n : Nat) : State :=
  let s1 := Warp.rateChange (Scene.rateChange (Obj.rateChange s code n) old code) old code n
  let s2 := Meas.rateChange (Capt.rateChange (Route.rateChange (Corr.rateChange s1 code n) n))
  let s3 := Meter.rateChange (Stream.rateChange s2 code) n
  Osier.sync (Coil.restart (Port.rateChange s3 code))

/-- RATE_CHANGE_SWITCH: second S. [DEDUCED, unsafe: log entry 33; DEDUCED, unsafe: log entry 142] -/
def Rate.switch (s : State) : State :=
  match s.clk.rateChange with
  | none => s
  | some (sec, code) =>
    if 4 ≤ s.clk.rateStep ∨ s.ticksHeld then s
    else
      let s0 := Rate.mute (Rate.ramp s)
      let s1 := Frame.windowEnd s0 none
      let s2 := s1.toStake (sec * secU)
      let old := s2.clk.rate
      let s2' := Plait.endPending s2 .abortLate (fun _ => true)
      let s3 := if s2.clk.ticking then s2'.stopTicks else s2'
      let n := sec * rateHz code
      let s4 : State := { s3 with clk := { s3.clk with rate := code, rateStep := 4, nextTick := n } }
      let s5 := Rate.units s4 old code n
      if code = 0 then
        let s6 : State := { s5 with clk := { s5.clk with rateChange := none, rateStep := 0 } }
        if s6.stake.softReset then Stake.clearPage s6 else s6
      else
        (Pstg.muteAll s5 2).startTicks n

/-- RATE_CHANGE_RESUME: 100 ms after the switch the power-stage channels start, and the change is no longer pending.
[DEDUCED, unsafe: log entry 34] -/
def Rate.resume (s : State) : State :=
  match s.clk.rateChange with
  | some (sec, _) =>
    if s.clk.rateStep < 4 then s
    else
      let s1 := s.toStake (sec * secU + 100 * msU)
      let s2 := Pstg.endMute s1 2
      let s3 : State := { s2 with clk := { s2.clk with rateChange := none, rateStep := 0 } }
      if s3.stake.softReset then Stake.pageReset { s3 with stake := { s3.stake with softReset := false } } else s3
  | none => s

/-! ### A Stake step (R383, R384) -/

/-- STAKE_STEP_REQUEST: steps 1 and 2: I is frozen, the outputs ramp, and a measurement aborts. [DEDUCED, unsafe: log entry 87] -/
def Stake.stepRamp (s : State) : State :=
  if s.stake.stepStage ≠ 1 then s
  else
    let s1 := Meas.abort (Port.rampDown s s.clk.nextTick)
    { s1 with stake := { s1.stake with stepStage := 2 } }

/-- Step 3, 20 ms later: the power-stage channels go Quiet with code 0x83. [DEDUCED, unsafe: log entry 87] -/
def Stake.stepQuiet (s : State) : State :=
  if s.stake.stepStage ≠ 2 then s
  else
    let s1 := Pstg.muteAll s 4
    let s2 := (List.range (Pstg.groups s1)).foldl (fun s g => (s.irq (Pstg.pageOf g) 3).fault' (Pstg.pageOf g) 0x83) s1
    { s2 with stake := { s2.stake with stepStage := 3 } }

/-- STAKE_STEP_APPLY: step 4, 5 ms later, and the start of ticks at the index that R17 gives. [DEDUCED, unsafe: log entry 87] -/
def Stake.stepApply (s : State) : State :=
  if s.stake.stepStage = 0 ∨ 4 ≤ s.stake.stepStage ∨ !s.clk.ticking then s
  else
    let s0 := Stake.stepRamp s
    let s1 := Stake.stepQuiet (s0.toMono (s0.stake.stepAt + 20 * msU))
    let s2 := Frame.windowEnd s1 none
    let s3 := s2.toMono (s2.stake.stepAt + 25 * msU)
    let s4 := (Plait.endPending s3 .abortLate (fun _ => true)).stopTicks
    let s5 := Stake.jump s4 (Stake.target s4 s4.stake.stepOp s4.stake.stepBy).toNat
    let s6 := Port.restart (Budget.restart (s5.startTicks (frameCeil s5.clk.rate (s5.clk.stake + 1))))
    { s6 with stake := { s6.stake with stepStage := 4 } }

/-- The step's later parts follow from their instants: step 3, and step 6 100 ms after the first tick; a step that waits for a
pending change is requested once that has ended (R40). [DEDUCED, unsafe: log entry 87] -/
def Stake.progress (s : State) : State :=
  if s.stake.stepStage = 2 ∧ s.stake.stepAt + 20 * msU ≤ s.clk.mono then Stake.stepQuiet s
  else if s.stake.stepStage = 5 ∧ s.stake.stepAt + 100 * msU ≤ s.clk.mono then
    let s1 := Pstg.endMute s 4
    let s2 : State := { s1 with stake := { s1.stake with stepStage := 0 } }
    if s2.stake.softReset then Stake.pageReset { s2 with stake := { s2.stake with softReset := false } } else s2
  else match s.stake.stepWait with
    | some x =>
      if Stake.stepping s ∨ Stake.rateChanging s then s
      else Stake.request { s with stake := { s.stake with stepWait := none } } 2 x
    | none => s

end Sys2Proof.Machine
end

