-- ==== Sys2Proof/Machine/San.lean ====
section
/-!
DEFINITION. The JTAG TAP and the state-access network (R573, R596), and the snapshot at a release (R575).
-/
namespace Sys2Proof.Machine

/-! ### The state space (R573) -/

/-- Word `o / 4` of a bank's part of the state space; `k` and `one` tell the core and the bank. [DEDUCED, unsafe: log entry 133] -/
def San.bank (s : State) (k : Nat) (one : Bool) (o : Nat) : Word :=
  let c := Osier.core s k
  let b := if one then c.b1 else c.b0
  if o < 0x100 then Tab.get (fun _ => 0) b.v (o / 4)
  else if o < 0x140 then b.sw ((o - 0x100) / 4)
  else if o < 0x340 then
    let q := o - 0x140
    w32 (unsigned 80 (b.acc (q / 64) (q % 64 / 16)) / 2 ^ (8 * (q % 16)))
  else if o < 0x3D4 then w32 (unsigned 32 (b.special c.xfers.length ((o - 0x340) / 4)))
  else if o = 0x3D4 then w32 (b.pc % 4096)
  else if 0x3E0 ≤ o ∧ o < 0x3F0 then
    -- level 0 is the outer loop, whose count LC0 holds
    let lv := (o - 0x3E0) / 8
    let loops := b.loops.reverse
    if o % 8 = 4 then (if lv = 0 then b.lc0 else b.lc1)
    else match loops[lv]? with
      | some l => w32 (l.1 % 4096 + at_ 16 (l.2 % 4096) + at_ 31 1)
      | none => 0
  else if o = 0x3F0 then w32 ((Osier.status s k).toNat % 4)
  else 0

/-- Nodes on the Coil's delay list with their due frames, in ascending node order (R193). -/
def San.delayed (s : State) : List (Nat × Nat) :=
  (Tab.keys s.coil.nodes).filterMap (fun i => (Coil.node s i).deferred.map (fun f => (i, f)))

/-- Held releases in their order, then the submission queue (R202, R203). -/
def San.held (s : State) : List Nat :=
  ((s.coil.acts.filter (fun a => a.state = 0)).mergeSort (fun a b =>
    decide (a.cause < b.cause ∨ (a.cause = b.cause ∧ a.key ≤ b.key)))).map (·.node) ++
  s.coil.submits.map (·.2) ++ s.coil.heldSubmits.map (·.2)

/-- One word of a target's arbiter: round position with the grants used, parked initiator, lock owner with the transfers used, and the
initiator of a held write (R147, R203); each present value has bit 31 set. [DEDUCED, unsafe: log entry 133; DESIGN CHOICE, unsafe: log entry 163] -/
def San.arb (s : State) (t w : Nat) : Word :=
  let x := Weave.arb s t
  match w with
  | 0 => match x.turn with | some i => w32 (i + at_ 8 x.used + at_ 31 1) | none => 0
  | 1 => w32 x.parked
  | 2 => match x.lock with | some l => w32 (l.1 + at_ 8 l.2.2 + at_ 31 1) | none => 0
  | _ =>
    if t ≠ 0 then 0
    else match s.coil.heldSubmits with
      | e :: _ => w32 (e.1 + at_ 31 1)
      | [] => if s.warp.held.isSome then w32 (at_ 31 1) else 0

/-- The word at offset `o` of the state space. [DEDUCED, unsafe: log entry 133] -/
def San.space (s : State) (o : Nat) : Word :=
  if o < 0x100000 then San.bank s (o / 0x2000) (o / 0x1000 % 2 == 1) (o % 0x1000)
  else if o < 0x101800 then
    match (Coil.ready s ((o - 0x100000) / 0x800 + 1))[(o % 0x800) / 4]? with
    | some a => w32 (a.node + at_ 31 1)
    | none => 0
  else if 0x102000 ≤ o ∧ o < 0x112000 then
    match (San.delayed s)[(o - 0x102000) / 16]? with
    | some (i, f) => nth 0 [w32 i, w32 f, w32 (f / 2 ^ 32), 0] (o % 16 / 4)
    | none => 0
  else if 0x112000 ≤ o ∧ o < 0x114000 then
    match (San.held s)[(o - 0x112000) / 4]? with
    | some i => w32 i
    | none => 0
  else if 0x114000 ≤ o ∧ o < 0x114000 + 16 * 19 then San.arb s ((o - 0x114000) / 16) (o % 16 / 4)
  else if 0x115000 ≤ o ∧ o < 0x115014 then
    let p := s.coil.path
    let ended := fun (l : List Nat) => (l.filter (fun i => p.ended.contains i)).length
    nth 0 [w32 s.clk.frame, w32 (s.clk.frame / 2 ^ 32), w32 (2 ^ p.steps - 1), w32 (ended p.due0), w32 (ended p.due1)] ((o - 0x115000) / 4)
  else if 0x116000 ≤ o ∧ o < 0x11601C then
    let t := s.fault.freezeStake
    nth 0 [w32 s.fault.cause, w32 (t / secU), w32 (t / secU / 2 ^ 32), w32 (t % secU / nsU), w32 (t % nsU),
           w32 s.fault.freezeFrame, w32 (s.fault.freezeFrame / 2 ^ 32)] ((o - 0x116000) / 4)
  else 0

/-- Bytes of the state space that the map lists. -/
def San.spaceBytes : Nat := 0x117000

/-! ### Reads over the network (R573) -/

/-- The word at a state-access address; `none` outside the map. Pages read as they stand, with frozen set. [DEDUCED, unsafe: log entry 133] -/
def San.word (s : State) (a : Nat) : Option Word :=
  let t : State := { s with fault := { s.fault with frozen := false } }
  if a < 0x01000000 then
    let r := Weave.regAddr a
    let w := Page.read t 21 (r / 0x1000) (r % 0x1000)
    some (if r = 0x7048 then setBit w 0 true else w)
  else if a < 0x11000000 then some (Window.read t ((a - 0x01000000) / 0x100000) (a % 0x100000))
  else if 2 ^ 40 ≤ a ∧ a < 2 ^ 40 + 2 ^ 24 then some (s.ld32 a)
  else if 0x10100000000 ≤ a ∧ a < 0x10100000000 + San.spaceBytes then some (San.space s (a - 0x10100000000))
  else none

/-- What a capture of SAN_DATA reads: the word, and the error bit. [DEDUCED, unsafe: log entry 133] -/
def San.read (s : State) (a : Nat) : Word × Bool :=
  if !s.fault.frozen ∨ !s.readoutPermitted then (0, true)
  else match San.word s a with
    | some w => (w, false)
    | none => (0, true)

/-! ### The TAP's instructions -/

/-- An instruction is selected, and its data register captures `dr`. [PRESUMED, unsafe: log entry 134] -/
def Jtag.select (s : State) (ir dr : Nat) : State := { s with jtag := { s.jtag with ir := ir, dr := dr } }

/-- SAN_ADDR shifts in the next address, a multiple of 4. [DEDUCED, unsafe: log entry 133] -/
def San.addr (s : State) (a : Nat) : State :=
  let s1 := Jtag.select s 0x40 (a % 2 ^ 41)
  { s1 with jtag := { s1.jtag with sanAddr := a % 2 ^ 41 / 4 * 4 } }

/-- SAN_DATA captures the word at the address and advances it. [DEDUCED, unsafe: log entry 133] -/
def San.data (s : State) : State :=
  let r := San.read s s.jtag.sanAddr
  let s1 := Jtag.select s 0x41 (r.1.toNat + at_ 32 (b2n r.2))
  { s1 with jtag := { s1.jtag with sanAddr := (s.jtag.sanAddr + 4) % 2 ^ 41 } }

/-- SAN_RELEASE clears the freeze latch at Update-IR. [DEDUCED, unsafe: log entry 133] -/
def San.release (s : State) : State :=
  let s1 := Jtag.select s 0x42 0
  { s1 with fault := { s1.fault with latch := false, latchDue := none } }

/-- SAN_STATUS. -/
def San.status (s : State) : State :=
  Jtag.select s 0x43 (b2n s.fault.frozen + at_ 1 (b2n s.readoutPermitted) + at_ 2 (b2n s.fault.latch) + at_ 3 (b2n s.fault.pinLow))

/-- IDCODE. -/
def Jtag.idcode (s : State) : State := Jtag.select s 0x02 (s.variant.pick 0x05480B4F 0x05340B4F 0x05220B4F)

/-- BYPASS, and every code not listed: a one-bit register that captures 0, as IEEE 1149.1 defines it. [PRESUMED, unsafe: log entry 134] -/
def Jtag.bypass (s : State) : State := Jtag.select s 0xFF 0

/-- TRST_N low, or five cycles with TMS high. [PRESUMED, unsafe: log entry 134] -/
def Jtag.reset (s : State) : State := Jtag.idcode s

/-- SAMPLE/PRELOAD: the register captures the pins and takes the values shifted in. [PRESUMED, unsafe: log entry 134] -/
def Jtag.sample (s : State) (bits : List Bool) : State :=
  let s1 := Jtag.select s 0x01 0
  { s1 with jtag := { s1.jtag with bsr := bits } }

/-- EXTEST, CLAMP and HIGHZ: BYPASS in FIELD; else the claim is released, every channel goes Off, and the device is held as in
Halted until the next reset. -/
def Jtag.scan (s : State) (ir : Nat) (bits : Option (List Bool)) : State :=
  if s.boot.lc = 2 then Jtag.bypass s
  else
    let s0 := Jtag.select s ir 0
    let s1 := (Pstg.allOff (Claim.release s0)).stopTicks
    { s1 with
      jtag := { s1.jtag with held := true, bsr := match bits with | some l => l | none => s1.jtag.bsr }
      hoop := { s1.hoop with claimDue := none }
      boot := { s1.boot with phase := 10, shutStep := 0, retryDue := none, hostDue := none, hostGo := none } }

/-! ### Release and snapshot (R575, R576) -/

/-- The snapshot: the common store, and after it the state space, go to the freeze-snapshot area. [DEDUCED, unsafe: log entry 132] -/
def Freeze.snapshot (s : State) : State :=
  let base := Freeze.snapBase s.variant
  let cs := s.mem.filter (fun c => decide (2 ^ 40 ≤ c.1 ∧ c.1 < 2 ^ 40 + 2 ^ 24))
  let s1 := s.clearMem base (base + 0x2000000)
  let s2 := cs.foldl (fun s c => s.st8 (base + (c.1 - 2 ^ 40)) c.2) s1
  (List.range (San.spaceBytes / 4)).foldl (fun r o => r.st32 (base + 0x1000000 + 4 * o) (San.space s (4 * o))) s2

/-- FREEZE_RELEASE: with FREEZE_N high and the latch clear, the device relocks, takes the snapshot where FAULT_CTRL asks for one and
R521 permits it, and resumes; a request to shut down that was held is then made (R572). [DEDUCED, unsafe: log entry 141] -/
def Freeze.releaseSnap (s : State) : State :=
  if !Freeze.mayRelease s then s
  else Shutdown.heldRequest (Freeze.release (if s.rdB Reg.faultCtrl 2 ∧ s.readoutPermitted then Freeze.snapshot s else s))

end Sys2Proof.Machine
end

