-- ==== Sys2Proof/Machine/Seal.lean ====
section
/-!
DEFINITION. What every command does around its own effect: messages of the last command are cleared before it; after it, the direct
path goes on, freezes and time-driven sequences that its effect has made due are carried out, interrupt vectors are sent, and the
tables are put into their canonical form.
-/
namespace Sys2Proof.Machine

/-- What the last command sent is cleared. -/
def State.begin (s : State) : State :=
  { s with
    net := { s.net with sent := [] }
    hoop := { s.hoop with sent := [] }
    ctl := { s.ctl with hostWrites := [], msix := [], busData := [], busResp := 0 } }

/-- The vectors of `v` that are not masked, one bit each (R59). -/
def State.unmasked (s : State) (v : Nat) : Nat :=
  if v = 0 then 0
  else (List.range 64).foldl (fun n i => if v.testBit i && !s.vecMasked i then n ||| 2 ^ i else n) 0

/-- Messages go out for the vectors that have become deliverable: pending and not masked (R59). [DEDUCED, unsafe: log entry 22] -/
def Irq.send (s : State) : State :=
  let d := s.unmasked s.vectors
  if d = s.ctl.vecPend then s
  else
    let new := (List.range 64).filter (fun v => d.testBit v && !s.ctl.vecPend.testBit v)
    { s with ctl := { s.ctl with vecPend := d, msix := s.ctl.msix ++ new } }

/-- A Stake step on either member takes a standby out of step (R550). -/
def Hoop.steppedOut (s : State) (before : Word) : State :=
  if s.rd Reg.stakeStepCount = before then s else Hoop.outOfStep s 0x82

/-- A freeze that the command has requested is entered (R570, R571); the request is then no longer outstanding. [DEDUCED, unsafe: log entry 131] -/
def Freeze.requested (s : State) : State :=
  match s.fault.freezeReq with
  | some c => { Freeze.enter s c with fault := { (Freeze.enter s c).fault with freezeReq := none } }
  | none => s

/-- A release that waits for the servo goes on once it has its offset (step 5 of R576). [DEDUCED, unsafe: log entry 131] -/
def Freeze.progress (s : State) : State := if s.fault.releaseWait = 2 then Freeze.resume s else s

/-- The tables in canonical form. -/
def State.canon (s : State) : State :=
  { s with
    regs := Tab.canon (regReset s.variant) s.regs
    eff := Tab.canon (regReset s.variant) s.eff
    mem := Tab.canon memDefault s.mem }

/-- The end of a command that began in `s0` and has led to `s1`; the queue is as it was. -/
def State.close (s0 s1 : State) : State :=
  let a := Osier.sync (Frame.go s1)
  let b := Shutdown.progress 8 (Stake.progress (Stake.holdSlew (Ptp.follow (Coil.creditRise a))))
  let c := Freeze.requested (Freeze.progress (Plait.lost (Hoop.steppedOut b (s0.rd Reg.stakeStepCount))))
  { Irq.send (State.canon c) with pending := s0.pending }

/-- A command whatever the device's condition. [DESIGN CHOICE, unsafe: log entry 8] -/
def State.force (s : State) (f : State → State) : Res := .next (State.close s (f s.begin))

/-- A command on a device that runs: out of reset, standby and freeze; else nothing happens.
[DESIGN CHOICE, unsafe: log entry 8; DEDUCED, unsafe: log entry 40] -/
def State.act (s : State) (f : State → State) : Res := s.force (fun t => if t.running then f t else t)

end Sys2Proof.Machine
end

