-- ==== Sys2Proof/Machine/Operands.lean ====
section
/-!
DEFINITION. What the operands of a row spell: the bundle of an Osier row with its companion slots (R227, R233, R249), and the
answer of a register read.
-/
namespace Sys2Proof.Machine
open Sys2Proof

/-- The bundle with an opcode and the other slots. [DEDUCED, safe: log entry 63] -/
def Operands.bundle (op : Nat) (f : Slots) : Bundle :=
  { op := op, d := f.d.toNat, a := f.a.toNat, b := f.b.toNat, c := f.c.toNat, x := f.x.toNat, y := f.y.toNat, ctl := f.ctl.toNat }

/-- A move slot with operation `op`. -/
def Operands.slot (op : Nat) (m : MoveArgs) : BitVec 14 :=
  BitVec.ofNat 14 (at_ 11 op + at_ 7 m.r.toNat + at_ 5 m.areg.toNat + at_ 3 m.mod.toNat)

/-- The move stands in the X slot, or in the Y slot. [DEDUCED, safe: log entry 63] -/
def Operands.withMove (f : Slots) (y : Bool) (op : Nat) (m : MoveArgs) : Slots :=
  if y then { f with y := Operands.slot op m } else { f with x := Operands.slot op m }

/-- The control slot holds operation `op` with its low byte. [DEDUCED, safe: log entry 63] -/
def Operands.withCtl (f : Slots) (op : Nat) (arg : BitVec 8) : Slots := { f with ctl := BitVec.ofNat 12 (at_ 8 op + arg.toNat) }

/-- A direct write to a register whose effect does not depend on the initiator. -/
def Reg.poke (s : State) (a : Nat) (v : Word) : State := Page.write s 0 none a v

/-- A read's word goes to the reader. [DEDUCED, unsafe: log entry 12] -/
def Read.answered (r : State × Word) : State := r.1.answer 0 (leBytes 4 r.2.toNat)

end Sys2Proof.Machine
end

