-- ==== Sys2Proof/Machine/Ops.lean ====
section
/-!
DEFINITION. Events that touch more than one unit, or that no unit's module holds: window writes, Felot datagrams, PTP frames as the
port counts them, the close of an epoch, wakes, start and self-test failures, detections that have no row of their own, the freeze
pin, GPIO sampling and the scan instructions.
-/
namespace Sys2Proof.Machine
open Sys2Proof

/-- A write of bytes with their strobes at offset `off` of the window of page `page`, word by word (R44, R45). -/
def Window.bytes (s : State) (ini page off : Nat) (data : List (Byte × Bool)) : State :=
  if 256 ≤ page ∨ 0x100000 < off + data.length then s
  else (Weave.words (winBase page + off) data).foldl (fun s q => Weave.wordWrite s ini q.1 q.2) (Weave.behind s ini (winBase page))

/-- A PTP frame of the enabled domain counts as received (R401). -/
def Ptp.received (s : State) (p domain : Nat) : State :=
  if Ptp.enabled s p ∧ domain = Ptp.domain s then Net.count s p 0 else s

/-- A direct write to WARP_DW_GAIN; `busy` says that the Warp still takes the previous post, so that the write holds the Weave
(R147). [DEDUCED, safe: log entry 45] -/
def Warp.directWrite (s : State) (gain : Word) (busy : Bool) : State :=
  let s1 := Warp.accept s
  if busy then Warp.hold s1 gain else Reg.poke s1 Reg.warpDwGain gain

/-- The close of a budget epoch, for BUDGET, MEMC and the self-oscillating channels, whose mean frequencies `freqs` gives in
1/256 Hz (R269, R297, R298, R472). -/
def Epoch.close (s : State) (temps : List Int) (reg : Option (Nat × Nat)) (freqs : List (Nat × Nat)) : State :=
  if !s.clk.ticking ∨ s.clk.frame % Budget.fb s ≠ 0 then s
  else
    let s1 := Memc.epoch (Budget.epochClose s temps reg)
    freqs.foldl (fun s f =>
      let s2 := Pstg.epoch s f.1 f.2
      if 10 ≤ (Pstg.ch s2 f.1).farRun then Pstg.loopFault s2 f.1 else s2) s1

/-! ### Standby (R286) -/

/-- A wake starts the device again. [DEDUCED, unsafe: log entry 68; DEDUCED, unsafe: log entry 136] -/
def Standby.wake (s : State) (e : StartEnv) : State :=
  if !s.budget.standby ∨ s.jtag.held then s
  else
    let s1 := s.resetTo 3
    Boot.begin { s1 with boot := { s1.boot with env := e } } 2

/-- The wake GPIO: one of GPIO0 to GPIO7, while gpio_en is 1 (R585). [DEDUCED, unsafe: log entry 68] -/
def Standby.wakeGpio (s : State) (pin : Nat) (e : StartEnv) : State :=
  let w := s.rd Reg.budgetStandby
  if bit w 1 ∧ fld w 11 7 = pin ∧ pin < 8 then Standby.wake s e else s

/-- The standby timer. [DEDUCED, unsafe: log entry 68] -/
def Standby.timer (s : State) (e : StartEnv) : State :=
  match s.budget.wakeDue with
  | some t => if s.budget.standby then Standby.wake (s.toAon t) e else s
  | none => s

/-! ### Start and self-test (R515, R532) -/

/-- The surroundings of a start attempt that software commands. -/
def Boot.withEnv (s : State) (e : StartEnv) : State := { s with boot := { s.boot with env := e } }

/-- A start attempt in progress fails with one of the codes of R518. -/
def Boot.attemptFails (s : State) (code : Nat) : State :=
  if 1 ≤ s.boot.phase ∧ s.boot.phase ≤ 5 ∧ 0x80 ≤ code ∧ code ≤ 0x88 then Boot.fail s code else s

/-- A self-test part fails: at a start, or in operation. -/
def Bist.fails (s : State) (part item : Nat) : State :=
  if s.boot.phase = 6 then Boot.safeHold s part item
  else if 1 ≤ s.boot.phase ∧ s.boot.phase ≤ 5 then Boot.failTest s part item
  else s

/-! ### Detections (R561, R565, R567, R568) -/

/-- A core's check of itself fails (R261 to R263). -/
def Osier.detect (s : State) (k code : Nat) : State :=
  if code = 0x88 then Osier.eccCorrected s k
  else if code = 0x87 then Osier.eccDouble s k
  else if code = 0x80 then Osier.coreFault ((s.count (Reg.osierResidueCount k) 1).irq (Osier.pageOf k) 1) k code
  else if code = 0x86 then Osier.coreFault ((s.count (Reg.osierParityCount k) 1).irq (Osier.pageOf k) 2) k code
  else Osier.coreFault s k code

/-- A listed detection by page and code. A core's check has the core's reaction, a failed self-test or start the reaction of its
class; what else a unit does at a detection is its own command's effect. [DEDUCED, unsafe: log entry 130] -/
def Fault.detect (s : State) (page code detail : Nat) : State :=
  match unitOf page with
  | none => s
  | some u =>
    if faultClass u code = 0 ∨ !s.pageUp page then s
    else if u = 0x60 then Osier.detect s (page - 0x60) code
    else if u = 0x05 ∧ code = 0x80 then Bist.fails s 5 detail
    else if u = 0x04 then Boot.attemptFails s code
    else s.faultD page code detail

/-- The collector's copies disagree (R565). [DEDUCED, unsafe: log entry 130; DEDUCED, unsafe: log entry 144] -/
def Fault.collector (s : State) : State :=
  let s1 := (s.fault' 7 0x84).irq 7 3
  { s1 with fault := { s1.fault with collectorFail := true } }

/-- The on-chip SRAM scrub reads a word: 1 corrected, 2 uncorrectable (R567). [DEDUCED, unsafe: log entry 130] -/
def Fault.scrub (s : State) (ecc : Nat) : State :=
  if ecc = 1 then s.fault' 7 0x82 else if ecc = 2 then s.fault' 7 0x81 else s

/-! ### Freeze (R570, R576) -/

/-- FREEZE_N falls and is held low for 1 µs. -/
def Freeze.pin (s : State) : State :=
  let s1 : State := { s with fault := { s.fault with pinLow := true } }
  if !s.fault.pinLow ∧ s.running then { s1 with fault := { s1.fault with freezeReq := some 1 } } else s1

/-- FREEZE_N is high: the device releases where the latch is clear. -/
def Freeze.released (s : State) : State := Freeze.releaseSnap { s with fault := { s.fault with pinLow := false } }

/-- The freeze limit expires in AON time and clears the latch. [DEDUCED, unsafe: log entry 131] -/
def Freeze.limit (s : State) : State :=
  match s.fault.latchDue with
  | none => s
  | some t =>
    let s1 := if s.fault.frozen then s.toAon t else s
    { s1 with fault := { s1.fault with latch := false, latchDue := none } }

/-! ### Pins (R586, R596) -/

/-- GPIOs that a standby function takes from the HOST page. [DEDUCED, unsafe: log entry 135] -/
def Gpio.taken (s : State) : Word :=
  let w := s.rd Reg.budgetStandby
  let one := fun (k : Nat) => if k < 8 then w32 (2 ^ k) else 0
  if bit w 1 then one (fld w 11 7) ||| one (fld w 6 2) else 0

/-- HOST_GPIO_IN takes the levels at the pins: what the device drives, and elsewhere what the surroundings give. [DEDUCED, unsafe: log entry 135] -/
def Gpio.sample (s : State) (pins : Word) : State :=
  let drive := s.rd Reg.hostGpioDir &&& ~~~(Gpio.taken s)
  if !s.pageUp 1 then s else s.wr Reg.hostGpioIn ((s.rd Reg.hostGpioOut &&& drive) ||| (pins &&& ~~~drive))

/-- EXTEST, CLAMP and HIGHZ; while a reset holds the device, only the scan register changes.
[PRESUMED, unsafe: log entry 134; DEDUCED, unsafe: log entry 136] -/
def Jtag.extest (s : State) (ir : Nat) (bits : Option (List Bool)) : State :=
  if s.boot.inReset then
    let s1 := Jtag.select s ir 0
    { s1 with jtag := { s1.jtag with bsr := bits.getD s1.jtag.bsr } }
  else Jtag.scan s ir bits

end Sys2Proof.Machine
end

