-- ==== Sys2Proof/Machine/ExecCapture.lean ====
section
/-!
DEFINITION. Meanings of the commands of capture chains and the measurement service (R439 to R459), one definition per command.
-/
namespace Sys2Proof.Machine

/-- DETECTOR_CLEAR (R447). -/
def execDetectorClear (v : Word) (s : State) : Res :=
  s.act (fun t => Reg.poke t Reg.captDetClear v)

/-- DETECTOR_CONFIG_WRITE (R447). -/
def execDetectorConfigWrite (chain : Nat) (word : Nat) (v : Word) (s : State) : Res :=
  s.act (fun t => Window.write t 0 0x55 (0x90000 + 16 * (chain % 144) + 4 * (word % 4)) v)

/-- CAPTURE_BLEND_END (R446). -/
def execCaptureBlendEnd (chain : Nat) (s : State) : Res :=
  s.act (fun t => Capt.blendEnd t chain)

/-- SENSE_OVERLOAD (R441). -/
def execSenseOverload (chain : Nat) (s : State) : Res :=
  s.act (fun t => Capt.overload t chain)

/-- MEAS_START (R451). -/
def execMeasStart (job : Nat) (s : State) : Res :=
  s.act (fun t => Reg.poke t Reg.measCmd (w32 (1 + at_ 4 (job % 16))))

/-- MEAS_ABORT (R459). -/
def execMeasAbort (s : State) : Res :=
  s.act (fun t => Reg.poke t Reg.measCmd 2)

/-- MEAS_CLEAR (R458). -/
def execMeasClear (s : State) : Res :=
  s.act (fun t => Reg.poke t Reg.measCmd 3)

/-- MEAS_RUN_END (R454). -/
def execMeasRunEnd (s : State) : Res :=
  s.act (fun t => Meas.runEnd t)

/-- RESPONSE_STORED (R458). -/
def execResponseStored (s : State) : Res :=
  s.act (fun t => Meas.respStored t)

end Sys2Proof.Machine
end

