-- ==== Sys2Proof/Machine/ExecCoil.lean ====
section
/-!
DEFINITION. Meanings of the commands of the Coil scheduler (R185 to R221, R259), one definition per command.
-/
namespace Sys2Proof.Machine

/-- DEFERRED_RELEASE (R193). -/
def execDeferredRelease (node : Nat) (s : State) : Res :=
  s.act (fun t => Coil.deferredRelease t node)

/-- NODE_DISPATCH (R200). -/
def execNodeDispatch (s : State) : Res :=
  s.act (fun t => Osier.dispatch (Coil.dispatch t))

/-- AFFINITY_WAIT_EXPIRY (R199). -/
def execAffinityWaitExpiry (node : Nat) (s : State) : Res :=
  s.act (fun t => Osier.dispatch (Coil.waitExpiry t node))

/-- NODE_COMPLETE (R201). -/
def execNodeComplete (node : Nat) (writes : List (Nat × Int)) (s : State) : Res :=
  s.act (fun t => Coil.complete t node writes)

/-- HELD_RELEASE_ENTER (R202). -/
def execHeldReleaseEnter (s : State) : Res :=
  s.act (fun t => Coil.heldEnter t)

/-- COIL_SUBMIT (R203). -/
def execCoilSubmit (node : Nat) (s : State) : Res :=
  s.act (fun t => Reg.poke t Reg.coilSubmit (w32 (node % 16384)))

/-- SUBMIT_HOLD_RELEASE (R203). -/
def execSubmitHoldRelease (s : State) : Res :=
  s.act (fun t => Coil.submitRelease t)

/-- NODE_ACTIVATE (R217). -/
def execNodeActivate (s : State) : Res :=
  s.act (fun t => Reg.poke t Reg.coilNodeCtrl 1)

/-- NODE_DEACTIVATE (R217). -/
def execNodeDeactivate (s : State) : Res :=
  s.act (fun t => Reg.poke t Reg.coilNodeCtrl 2)

/-- ACTIVATION_LATE (R214). -/
def execActivationLate (node : Nat) (s : State) : Res :=
  s.act (fun t => Coil.late t node)

/-- DIRECT_COST_STOP (R259). -/
def execDirectCostStop (core : Nat) (s : State) : Res :=
  s.act (fun t => Osier.costStop t core)

end Sys2Proof.Machine
end

