-- ==== Sys2Proof/Machine/ExecControl.lean ====
section
/-!
DEFINITION. Meanings of the commands of register accesses, commits, the SPI port, DMA and Plaits (R12, R41 to R78), one definition per command.
-/
namespace Sys2Proof.Machine

/-- REGISTER_WRITE (R49). -/
def execRegisterWrite (ini : Nat) (addr : Nat) (v : Word) (s : State) : Res :=
  s.act (fun t => Page.write (Weave.behind t ini addr) ini none addr v)

/-- LO_READ_LATCH (R12). -/
def execLoReadLatch (ini : Nat) (addr : Nat) (s : State) : Res :=
  s.act (fun t => Read.answered (Page.access (Weave.behind t ini addr) ini addr))

/-- COMMIT_REQUEST (R51). -/
def execCommitRequest (page : Nat) (alsoCancel : Bool) (s : State) : Res :=
  s.act (fun t => Reg.poke t (Reg.commit page) (w32 (1 + 2 * b2n alsoCancel)))

/-- COMMIT_CANCEL (R46). -/
def execCommitCancel (page : Nat) (s : State) : Res :=
  s.act (fun t => Reg.poke t (Reg.commit page) 2)

/-- PAGE_ENABLE_WRITE (R46). -/
def execPageEnableWrite (page : Nat) (enable : Bool) (s : State) : Res :=
  s.act (fun t => Reg.poke t (Reg.pageCtrl page) (w32 (b2n enable)))

/-- SOFT_RESET (R56). -/
def execSoftReset (page : Nat) (enable : Bool) (s : State) : Res :=
  s.act (fun t => Reg.poke t (Reg.pageCtrl page) (w32 (2 + b2n enable)))

/-- FAULT_CAUSE_CLEAR (R46). -/
def execFaultCauseClear (page : Nat) (s : State) : Res :=
  s.act (fun t => Reg.poke t (Reg.faultCause page) 0x80000000)

/-- IRQ_FORCE (R46). -/
def execIrqForce (page : Nat) (v : Word) (s : State) : Res :=
  s.act (fun t => Reg.poke t (Reg.irqForce page) v)

/-- IRQ_EOI (R59). -/
def execIrqEoi (vector : Nat) (s : State) : Res :=
  s.act (fun t => Reg.poke t Reg.irqEoi (w32 (vector % 64)))

/-- SPI_READ (R65). -/
def execSpiRead (addr : Nat) (words : Nat) (s : State) : Res :=
  s.act (fun t => Spi.read t addr words)

/-- SPI_READ_TIMEOUT (R65). -/
def execSpiReadTimeout (s : State) : Res :=
  s.act (fun t => Spi.readTimeout t)

/-- SPI_WRITE (R65). -/
def execSpiWrite (addr : Nat) (words : Nat) (data : List Byte) (crc : Byte) (s : State) : Res :=
  s.act (fun t => Spi.write t addr words data crc)

/-- SPI_STATUS (R66). -/
def execSpiStatus (s : State) : Res :=
  s.act (fun t => Spi.status t)

/-- SPI_CLEAR (R66). -/
def execSpiClear (s : State) : Res :=
  s.act (fun t => Spi.clear t)

/-- DMA_RUN (R68). -/
def execDmaRun (ch : Nat) (s : State) : Res :=
  s.act (fun t => Reg.poke t (Reg.dmaCtrl (ch % 8)) 1)

/-- DMA_DESCRIPTOR_DONE (R68). -/
def execDmaDescriptorDone (ch : Nat) (words : List Byte) (data : List Byte) (s : State) : Res :=
  s.act (fun t => Dma.descriptor t ch words data)

/-- PLAIT_OPEN (R72). -/
def execPlaitOpen (ini : Nat) (s : State) : Res :=
  s.act (fun t => Page.write t ini none Reg.plaitOpen 1)

/-- PLAIT_CAPTURE (R73). -/
def execPlaitCapture (ini : Nat) (addr : Nat) (v : Word) (s : State) : Res :=
  s.act (fun t => Plait.capture (Weave.behind t ini 0x800000) ini addr v)

/-- PLAIT_COMMIT_NEXT_FRAME (R74). -/
def execPlaitCommitNextFrame (ini : Nat) (allowTier : Bool) (s : State) : Res :=
  s.act (fun t => Page.write t ini none Reg.plaitCommit (w32 (1 + 16 * b2n allowTier)))

/-- PLAIT_COMMIT_FRAME_INDEX (R74). -/
def execPlaitCommitFrameIndex (ini : Nat) (allowTier : Bool) (s : State) : Res :=
  s.act (fun t => Page.write t ini none Reg.plaitCommit (w32 (2 + 16 * b2n allowTier)))

/-- PLAIT_COMMIT_PTP_TIME (R74). -/
def execPlaitCommitPtpTime (ini : Nat) (allowTier : Bool) (s : State) : Res :=
  s.act (fun t => Page.write t ini none Reg.plaitCommit (w32 (3 + 16 * b2n allowTier)))

/-- PLAIT_COMMIT_DECISION (R75). -/
def execPlaitCommitDecision (slot : Nat) (s : State) : Res :=
  s.act (fun t => Plait.decision t slot)

/-- PLAIT_ABORT (R78). -/
def execPlaitAbort (slot : Nat) (ticket : Nat) (s : State) : Res :=
  s.act (fun t => Reg.poke t Reg.plaitAbort (w32 (slot % 16 + at_ 16 (ticket % 65536))))

/-- ARRAY_WINDOW_WRITE (R45). -/
def execArrayWindowWrite (ini : Nat) (page : Nat) (off : Nat) (data : List (Byte × Bool)) (s : State) : Res :=
  s.act (fun t => Window.bytes t ini page off data)

end Sys2Proof.Machine
end

