-- ==== Sys2Proof/Machine/ExecDram.lean ====
section
/-!
DEFINITION. Meanings of the commands of the memory controller (R466 to R486), one definition per command.
-/
namespace Sys2Proof.Machine

/-- SET_POINT_HELD_START (R481). -/
def execSetPointHeldStart (s : State) : Res :=
  s.act (fun t => Memc.heldStart t)

/-- SET_POINT_SWITCH_DONE (R480). -/
def execSetPointSwitchDone (ns : Nat) (s : State) : Res :=
  s.act (fun t => Memc.switchDone t ns)

/-- TRAINING (R482). -/
def execTraining (mask : Nat) (s : State) : Res :=
  s.act (fun t => Reg.poke t Reg.memcTrain (w32 (mask % 16)))

/-- TRAINING_DONE (R482). -/
def execTrainingDone (failed : Nat) (s : State) : Res :=
  s.act (fun t => Memc.trainingDone t failed)

/-- MR4_POLL (R475). -/
def execMr4Poll (die : Nat) (field : Nat) (above : Bool) (beyond : Bool) (ns : Nat) (s : State) : Res :=
  s.act (fun t => Memc.mr4 t die field above beyond ns)

/-- BANK_REFRESH (R475). -/
def execBankRefresh (ch : Nat) (bank : Nat) (s : State) : Res :=
  s.act (fun t => Memc.bankRefresh t ch bank)

/-- DRAM_REQUEST (R470). -/
def execDramRequest (port : Nat) (ini : Nat) (write : Bool) (addr : Nat) (len : Nat) (data : List Byte) (ecc : Nat) (wait : Bool) (exitNs : Nat) (s : State) : Res :=
  s.act (fun t => Memc.request t port ini write addr len data ecc wait exitNs)

/-- URGENCY_RAISE (R470). -/
def execUrgencyRaise (s : State) : Res :=
  s.act (fun t => Memc.raise t)

/-- SCRUB_READ (R478). -/
def execScrubRead (ecc : Nat) (s : State) : Res :=
  s.act (fun t => Memc.scrub t ecc)

/-- IDLE_SELF_REFRESH_ENTRY (R483). -/
def execIdleSelfRefreshEntry (ch : Nat) (s : State) : Res :=
  s.act (fun t => Memc.idleEntry t ch)

end Sys2Proof.Machine
end

