-- ==== Sys2Proof/Machine/ExecFaults.lean ====
section
/-!
DEFINITION. Meanings of the commands of fault records, freeze and state access over JTAG (R561 to R579, R596), one definition per command.
-/
namespace Sys2Proof.Machine

/-- FAULT_RECORD (R561). -/
def execFaultRecord (page : Nat) (code : Nat) (detail : Nat) (s : State) : Res :=
  s.act (fun t => Fault.detect t page code detail)

/-- COLLECTOR_MISMATCH (R565). -/
def execCollectorMismatch (s : State) : Res :=
  s.act (fun t => Fault.collector t)

/-- SRAM_SCRUB (R567). -/
def execSramScrub (ecc : Nat) (s : State) : Res :=
  s.act (fun t => Fault.scrub t ecc)

/-- FAULT_TAIL_WRITE (R563). -/
def execFaultTailWrite (index : Nat) (s : State) : Res :=
  s.act (fun t => Reg.poke t Reg.faultRecTail (w32 (index % 256)))

/-- FREEZE_PIN (R571). -/
def execFreezePin (s : State) : Res :=
  s.force (fun t => Freeze.pin t)

/-- FREEZE_COMMAND (R571). -/
def execFreezeCommand (s : State) : Res :=
  s.act (fun t => Reg.poke t Reg.faultCtrl (t.rd Reg.faultCtrl ||| 1))

/-- FREEZE_RELEASE (R576). -/
def execFreezeRelease (s : State) : Res :=
  s.force (fun t => Freeze.released t)

/-- FREEZE_LIMIT_EXPIRY (R576). -/
def execFreezeLimitExpiry (s : State) : Res :=
  s.force (fun t => Freeze.limit t)

/-- SAN_ADDR (R573). -/
def execSanAddr (addr : Nat) (s : State) : Res :=
  s.force (fun t => San.addr t addr)

/-- SAN_DATA (R573). -/
def execSanData (s : State) : Res :=
  s.force (fun t => San.data t)

/-- SAN_RELEASE (R573). -/
def execSanRelease (s : State) : Res :=
  s.force (fun t => San.release t)

/-- SAN_STATUS (R573). -/
def execSanStatus (s : State) : Res :=
  s.force (fun t => San.status t)

/-- EXTEST (R596). -/
def execExtest (bits : List Bool) (s : State) : Res :=
  s.force (fun t => Jtag.extest t 0x00 (some bits))

/-- SAMPLE_PRELOAD (R596). -/
def execSamplePreload (bits : List Bool) (s : State) : Res :=
  s.force (fun t => Jtag.sample t bits)

/-- IDCODE (R596). -/
def execIdcode (s : State) : Res :=
  s.force (fun t => Jtag.idcode t)

/-- CLAMP (R596). -/
def execClamp (s : State) : Res :=
  s.force (fun t => Jtag.extest t 0x03 none)

/-- HIGHZ (R596). -/
def execHighz (s : State) : Res :=
  s.force (fun t => Jtag.extest t 0x04 none)

/-- BYPASS (R596). -/
def execBypass (s : State) : Res :=
  s.force (fun t => Jtag.bypass t)

/-- TAP_RESET (R596). -/
def execTapReset (s : State) : Res :=
  s.force (fun t => Jtag.reset t)

end Sys2Proof.Machine
end

