-- ==== Sys2Proof/Machine/ExecFrame.lean ====
section
/-!
DEFINITION. Meanings of the commands of the frame tick, the end of the direct window and a change of render rate (R20, R21, R38, R212), one definition per command.
-/
namespace Sys2Proof.Machine

/-- FRAME_TICK (R20). -/
def execFrameTick (env : TickEnv) (s : State) : Res :=
  if s.running && Frame.outside s env then .fault .outsideLimits else s.act (fun t => Frame.tick t env)

/-- DIRECT_WINDOW_END (R21). -/
def execDirectWindowEnd (slack : Option Nat) (s : State) : Res :=
  s.act (fun t => Frame.windowEnd t slack)

/-- GUARD_BEGIN (R21). -/
def execGuardBegin (s : State) : Res :=
  s.act (fun t => Frame.guard t)

/-- DIRECT_CUTOFF (R212). -/
def execDirectCutoff (s : State) : Res :=
  s.act (fun t => Frame.cutoff t)

/-- RATE_CHANGE_RAMP (R38). -/
def execRateChangeRamp (s : State) : Res :=
  s.act (fun t => Rate.ramp t)

/-- RATE_CHANGE_MUTE (R38). -/
def execRateChangeMute (s : State) : Res :=
  s.act (fun t => Rate.mute t)

/-- RATE_CHANGE_SWITCH (R38). -/
def execRateChangeSwitch (s : State) : Res :=
  s.act (fun t => Rate.switch t)

/-- RATE_CHANGE_RESUME (R38). -/
def execRateChangeResume (s : State) : Res :=
  s.act (fun t => Rate.resume t)

end Sys2Proof.Machine
end

