-- ==== Sys2Proof/Machine/ExecInterconnect.lean ====
section
/-!
DEFINITION. Meanings of the commands of the Weave and PCIe (R487 to R504), one definition per command.
-/
namespace Sys2Proof.Machine

/-- WEAVE_BURST (R493). -/
def execWeaveBurst (b : Machine.Burst) (wait : Bool) (s : State) : Res :=
  s.act (fun t => Weave.burst t b wait)

/-- LOCK_TIMEOUT (R500). -/
def execLockTimeout (s : State) : Res :=
  s.act (fun t => Weave.lockTimeout t)

/-- INITIATOR_RESET_MID_BURST (R501). -/
def execInitiatorResetMidBurst (b : Machine.Burst) (done : Nat) (s : State) : Res :=
  s.act (fun t => Weave.resetBurst t b done)

/-- PCIE_LINK_DOWN (R501). -/
def execPcieLinkDown (s : State) : Res :=
  s.act (fun t => Weave.resetInitiator t 0)

/-- PCIE_ATOMIC_OP (R500). -/
def execPcieAtomicOp (bar : Nat) (off : Nat) (size : Nat) (op : Nat) (x : Nat) (y : Nat) (s : State) : Res :=
  s.act (fun t => Pcie.atomic t bar off size op x y)

end Sys2Proof.Machine
end

