-- ==== Sys2Proof/Machine/ExecLife.lean ====
section
/-!
DEFINITION. Meanings of the commands of reset, start, self-test, life cycle and shutdown (R505 to R535, R586), one definition per command.
-/
namespace Sys2Proof.Machine

/-- PORST_ASSERT (R56). -/
def execPorstAssert (s : State) : Res :=
  s.force (fun t => State.assertReset t 0)

/-- SYSRST_ASSERT (R56). -/
def execSysrstAssert (s : State) : Res :=
  s.force (fun t => State.assertReset t 1)

/-- RESET_RELEASE (R507). -/
def execResetRelease (env : StartEnv) (s : State) : Res :=
  s.force (fun t => Boot.release t env)

/-- START_READY (R508). -/
def execStartReady (slot0 : Option (List Byte)) (slot1 : Option (List Byte)) (ns : Nat) (s : State) : Res :=
  s.act (fun t => Start.run t slot0 slot1 ns)

/-- SELFTEST_WINDOW_HELD (R528). -/
def execSelftestWindowHeld (s : State) : Res :=
  s.act (fun t => Boot.windowHeld t)

/-- HOST_LOAD_GO (R514). -/
def execHostLoadGo (len : Nat) (s : State) : Res :=
  s.act (fun t => Reg.poke t Reg.bootHostGo (w32 (len % 2 ^ 25)))

/-- HOST_LOAD_TIMEOUT (R514). -/
def execHostLoadTimeout (s : State) : Res :=
  s.act (fun t => Boot.hostTimeout t)

/-- START_ATTEMPT_FAIL (R515). -/
def execStartAttemptFail (code : Nat) (s : State) : Res :=
  s.act (fun t => Boot.attemptFails t code)

/-- BOOT_RETRY (R515). -/
def execBootRetry (env : StartEnv) (s : State) : Res :=
  s.act (fun t => Boot.retryDue t 7 env)

/-- SAFE_HOLD_ENTRY (R532). -/
def execSafeHoldEntry (part : Nat) (item : Nat) (s : State) : Res :=
  s.act (fun t => Bist.fails t part item)

/-- SAFE_HOLD_RETRY (R532). -/
def execSafeHoldRetry (env : StartEnv) (s : State) : Res :=
  s.act (fun t => Boot.retryDue t 8 env)

/-- SHUTDOWN_PIN (R529, R572). -/
def execShutdownPin (s : State) : Res :=
  s.force (fun t => Shutdown.pin t)

/-- SHUTDOWN_COMMAND (R529). -/
def execShutdownCommand (s : State) : Res :=
  s.act (fun t => Reg.poke t Reg.bootCmd 1)

/-- START_ATTEMPT_COMMAND (R532). -/
def execStartAttemptCommand (env : StartEnv) (s : State) : Res :=
  s.act (fun t => Reg.poke (Boot.withEnv t env) Reg.bootCmd 2)

/-- LIFECYCLE_ADVANCE (R520). -/
def execLifecycleAdvance (target : Nat) (confirm : Nat) (s : State) : Res :=
  s.act (fun t => Reg.poke t Reg.bootCmd (w32 (3 + at_ 8 (target % 4) + at_ 16 (confirm % 65536))))

/-- OTP_READ (R525). -/
def execOtpRead (s : State) : Res :=
  s.act (fun t => Reg.poke t Reg.bootOtpCmd 1)

/-- OTP_PROGRAM (R525). -/
def execOtpProgram (s : State) : Res :=
  s.act (fun t => Reg.poke t Reg.bootOtpCmd 2)

/-- OTP_OPERATION_DONE (R525). -/
def execOtpOperationDone (s : State) : Res :=
  s.act (fun t => Otp.done t)

/-- RECORD_ERASE (R530). -/
def execRecordErase (s : State) : Res :=
  s.act (fun t => Boot.erase t)

/-- PIN_READBACK (R531). -/
def execPinReadback (ball : Nat) (same : Bool) (s : State) : Res :=
  s.act (fun t => Bist.readback t ball same)

/-- SELFTEST_SLICE (R531). -/
def execSelftestSlice (part : Nat) (item : Nat) (window : Nat) (ok : Bool) (last : Bool) (s : State) : Res :=
  s.act (fun t => Bist.slice t part item window ok last)

/-- SLICE_ABANDON (R531). -/
def execSliceAbandon (s : State) : Res :=
  s.act (fun t => Bist.abandon t)

/-- COVERAGE_LAPSE (R531). -/
def execCoverageLapse (s : State) : Res :=
  s.act (fun t => Bist.coverage t)

/-- BIST_RUN (R535). -/
def execBistRun (parts : Nat) (s : State) : Res :=
  s.act (fun t => Reg.poke t Reg.bistRun (w32 (parts % 16)))

/-- BIST_RUN_DONE (R535). -/
def execBistRunDone (failed : Option (Nat × Nat)) (s : State) : Res :=
  s.act (fun t => Bist.runDone t failed)

/-- BIST_INJECT (R535). -/
def execBistInject (item : Nat) (s : State) : Res :=
  s.act (fun t => Reg.poke t Reg.bistInject (w32 (item % 65536)))

/-- GPIO_SAMPLE (R586). -/
def execGpioSample (pins : Word) (s : State) : Res :=
  s.act (fun t => Gpio.sample t pins)

end Sys2Proof.Machine
end

