-- ==== Sys2Proof/Machine/ExecNetwork.lean ====
section
/-!
DEFINITION. Meanings of the commands of the Ethernet ports and media streams (R396 to R412), one definition per command.
-/
namespace Sys2Proof.Machine

/-- ETH_FRAME_RECEIVE (R395, R401). -/
def execEthFrameReceive (port : Nat) (frame : List Byte) (fcsOk : Bool) (sfd : Nat) (buf : Nat) (s : State) : Res :=
  s.act (fun t => Eth.receive t port frame fcsOk sfd buf)

/-- STREAM_PACKET_RECEIVE (R408). -/
def execStreamPacketReceive (port : Nat) (packet : RtpPacket) (s : State) : Res :=
  s.act (fun t => Eth.packet t port packet)

/-- ARP_REQUEST (R403). -/
def execArpRequest (port : Nat) (target : Nat) (sender : Nat) (mac : Nat) (s : State) : Res :=
  s.act (fun t => Net.arpRequest t port target sender mac)

/-- ARP_REPLY (R403). -/
def execArpReply (port : Nat) (sender : Nat) (mac : Nat) (s : State) : Res :=
  s.act (fun t => Net.arpReply t port sender mac)

/-- ICMP_ECHO_REQUEST (R403). -/
def execIcmpEchoRequest (port : Nat) (sender : Nat) (payload : List Byte) (s : State) : Res :=
  s.act (fun t => Net.echo t port sender payload)

/-- IGMP_QUERY (R402). -/
def execIgmpQuery (port : Nat) (version : Nat) (frame : List Byte) (buf : Nat) (s : State) : Res :=
  s.act (fun t => Eth.query t port version frame buf)

/-- IGMP_REPORT (R402). -/
def execIgmpReport (port : Nat) (s : State) : Res :=
  s.act (fun t => Net.report t port)

/-- LINK_CHANGE (R403). -/
def execLinkChange (port : Nat) (up : Bool) (s : State) : Res :=
  s.act (fun t => Net.linkChange t port up)

/-- GRATUITOUS_ARP (R403). -/
def execGratuitousArp (port : Nat) (s : State) : Res :=
  s.act (fun t => Net.gratuitous t port)

/-- ARP_REFRESH (R403). -/
def execArpRefresh (port : Nat) (addr : Nat) (s : State) : Res :=
  s.act (fun t => Net.arpRefresh t port addr)

/-- HTX_TAIL_WRITE (R397). -/
def execHtxTailWrite (port : Nat) (v : Word) (s : State) : Res :=
  s.act (fun t => Reg.poke t (Reg.netHtxTail (port % 2)) v)

/-- HOST_FRAME_SEND (R398). -/
def execHostFrameSend (port : Nat) (desc : HtxDesc) (s : State) : Res :=
  s.act (fun t => Net.hostSend t port desc)

/-- TXTS_POP (R397). -/
def execTxtsPop (port : Nat) (s : State) : Res :=
  s.act (fun t => Reg.poke t (Reg.netTxtsPop (port % 2)) 1)

end Sys2Proof.Machine
end

