-- ==== Sys2Proof/Machine/ExecOsierCompute.lean ====
section
/-!
DEFINITION. Meanings of the commands of the compute operations of a bundle, the moves and the control slot (R227 to R251), one definition per command.
-/
namespace Sys2Proof.Machine

/-- NOP (R242). -/
def execNop (core : Nat) (f : Slots) (s : State) : Res :=
  s.act (fun t => Osier.issue t core (Operands.bundle 0x00 f))

/-- BR (R244). -/
def execBr (core : Nat) (f : Slots) (s : State) : Res :=
  s.act (fun t => Osier.issue t core (Operands.bundle 0x01 f))

/-- CALL (R248). -/
def execCall (core : Nat) (f : Slots) (s : State) : Res :=
  s.act (fun t => Osier.issue t core (Operands.bundle 0x02 f))

/-- JR (R244). -/
def execJr (core : Nat) (f : Slots) (s : State) : Res :=
  s.act (fun t => Osier.issue t core (Operands.bundle 0x03 f))

/-- LOOP (R246). -/
def execLoop (core : Nat) (f : Slots) (s : State) : Res :=
  s.act (fun t => Osier.issue t core (Operands.bundle 0x04 f))

/-- LOOPI (R246). -/
def execLoopi (core : Nat) (f : Slots) (s : State) : Res :=
  s.act (fun t => Osier.issue t core (Operands.bundle 0x05 f))

/-- ENDL (R247). -/
def execEndl (core : Nat) (f : Slots) (s : State) : Res :=
  s.act (fun t => Osier.issue t core (Operands.bundle 0x06 f))

/-- MOVSR (R223). -/
def execMovsr (core : Nat) (f : Slots) (s : State) : Res :=
  s.act (fun t => Osier.issue t core (Operands.bundle 0x07 f))

/-- MOVRS (R223). -/
def execMovrs (core : Nat) (f : Slots) (s : State) : Res :=
  s.act (fun t => Osier.issue t core (Operands.bundle 0x08 f))

/-- BEXPR (R241). -/
def execBexpr (core : Nat) (f : Slots) (s : State) : Res :=
  s.act (fun t => Osier.issue t core (Operands.bundle 0x09 f))

/-- ADD (R242). -/
def execAdd (core : Nat) (f : Slots) (s : State) : Res :=
  s.act (fun t => Osier.issue t core (Operands.bundle 0x10 f))

/-- SUB (R242). -/
def execSub (core : Nat) (f : Slots) (s : State) : Res :=
  s.act (fun t => Osier.issue t core (Operands.bundle 0x11 f))

/-- AND (R242). -/
def execAnd (core : Nat) (f : Slots) (s : State) : Res :=
  s.act (fun t => Osier.issue t core (Operands.bundle 0x12 f))

/-- OR (R242). -/
def execOr (core : Nat) (f : Slots) (s : State) : Res :=
  s.act (fun t => Osier.issue t core (Operands.bundle 0x13 f))

/-- XOR (R242). -/
def execXor (core : Nat) (f : Slots) (s : State) : Res :=
  s.act (fun t => Osier.issue t core (Operands.bundle 0x14 f))

/-- SHL (R242). -/
def execShl (core : Nat) (f : Slots) (s : State) : Res :=
  s.act (fun t => Osier.issue t core (Operands.bundle 0x15 f))

/-- SHR (R242). -/
def execShr (core : Nat) (f : Slots) (s : State) : Res :=
  s.act (fun t => Osier.issue t core (Operands.bundle 0x16 f))

/-- SAR (R242). -/
def execSar (core : Nat) (f : Slots) (s : State) : Res :=
  s.act (fun t => Osier.issue t core (Operands.bundle 0x17 f))

/-- MIN (R242). -/
def execMin (core : Nat) (f : Slots) (s : State) : Res :=
  s.act (fun t => Osier.issue t core (Operands.bundle 0x18 f))

/-- MAX (R242). -/
def execMax (core : Nat) (f : Slots) (s : State) : Res :=
  s.act (fun t => Osier.issue t core (Operands.bundle 0x19 f))

/-- MUL (R242). -/
def execMul (core : Nat) (f : Slots) (s : State) : Res :=
  s.act (fun t => Osier.issue t core (Operands.bundle 0x1A f))

/-- ADDI (R242). -/
def execAddi (core : Nat) (f : Slots) (s : State) : Res :=
  s.act (fun t => Osier.issue t core (Operands.bundle 0x1B f))

/-- CMP (R243). -/
def execCmp (core : Nat) (f : Slots) (s : State) : Res :=
  s.act (fun t => Osier.issue t core (Operands.bundle 0x1C f))

/-- CMPI (R243). -/
def execCmpi (core : Nat) (f : Slots) (s : State) : Res :=
  s.act (fun t => Osier.issue t core (Operands.bundle 0x1D f))

/-- MOVI (R242). -/
def execMovi (core : Nat) (f : Slots) (s : State) : Res :=
  s.act (fun t => Osier.issue t core (Operands.bundle 0x1E f))

/-- MOVU (R242). -/
def execMovu (core : Nat) (f : Slots) (s : State) : Res :=
  s.act (fun t => Osier.issue t core (Operands.bundle 0x1F f))

/-- VADD (R236). -/
def execVadd (core : Nat) (f : Slots) (s : State) : Res :=
  s.act (fun t => Osier.issue t core (Operands.bundle 0x20 f))

/-- VSUB (R236). -/
def execVsub (core : Nat) (f : Slots) (s : State) : Res :=
  s.act (fun t => Osier.issue t core (Operands.bundle 0x21 f))

/-- VADDW (R242). -/
def execVaddw (core : Nat) (f : Slots) (s : State) : Res :=
  s.act (fun t => Osier.issue t core (Operands.bundle 0x22 f))

/-- VSUBW (R242). -/
def execVsubw (core : Nat) (f : Slots) (s : State) : Res :=
  s.act (fun t => Osier.issue t core (Operands.bundle 0x23 f))

/-- VNEG (R242). -/
def execVneg (core : Nat) (f : Slots) (s : State) : Res :=
  s.act (fun t => Osier.issue t core (Operands.bundle 0x24 f))

/-- VABS (R242). -/
def execVabs (core : Nat) (f : Slots) (s : State) : Res :=
  s.act (fun t => Osier.issue t core (Operands.bundle 0x25 f))

/-- VAND (R242). -/
def execVand (core : Nat) (f : Slots) (s : State) : Res :=
  s.act (fun t => Osier.issue t core (Operands.bundle 0x26 f))

/-- VOR (R242). -/
def execVor (core : Nat) (f : Slots) (s : State) : Res :=
  s.act (fun t => Osier.issue t core (Operands.bundle 0x27 f))

/-- VXOR (R242). -/
def execVxor (core : Nat) (f : Slots) (s : State) : Res :=
  s.act (fun t => Osier.issue t core (Operands.bundle 0x28 f))

/-- VMIN (R242). -/
def execVmin (core : Nat) (f : Slots) (s : State) : Res :=
  s.act (fun t => Osier.issue t core (Operands.bundle 0x29 f))

/-- VMAX (R242). -/
def execVmax (core : Nat) (f : Slots) (s : State) : Res :=
  s.act (fun t => Osier.issue t core (Operands.bundle 0x2A f))

/-- VSCALE (R239). -/
def execVscale (core : Nat) (f : Slots) (s : State) : Res :=
  s.act (fun t => Osier.issue t core (Operands.bundle 0x2B f))

/-- VSHLI (R239). -/
def execVshli (core : Nat) (f : Slots) (s : State) : Res :=
  s.act (fun t => Osier.issue t core (Operands.bundle 0x2C f))

/-- VPERM (R242). -/
def execVperm (core : Nat) (f : Slots) (s : State) : Res :=
  s.act (fun t => Osier.issue t core (Operands.bundle 0x2D f))

/-- VBCAST (R242). -/
def execVbcast (core : Nat) (f : Slots) (s : State) : Res :=
  s.act (fun t => Osier.issue t core (Operands.bundle 0x2E f))

/-- VINS (R242). -/
def execVins (core : Nat) (f : Slots) (s : State) : Res :=
  s.act (fun t => Osier.issue t core (Operands.bundle 0x2F f))

/-- VEXT (R242). -/
def execVext (core : Nat) (f : Slots) (s : State) : Res :=
  s.act (fun t => Osier.issue t core (Operands.bundle 0x30 f))

/-- VMULR (R236). -/
def execVmulr (core : Nat) (f : Slots) (s : State) : Res :=
  s.act (fun t => Osier.issue t core (Operands.bundle 0x38 f))

/-- VMULRS (R236). -/
def execVmulrs (core : Nat) (f : Slots) (s : State) : Res :=
  s.act (fun t => Osier.issue t core (Operands.bundle 0x39 f))

/-- VCMUL (R240). -/
def execVcmul (core : Nat) (f : Slots) (s : State) : Res :=
  s.act (fun t => Osier.issue t core (Operands.bundle 0x3A f))

/-- VCMULJ (R240). -/
def execVcmulj (core : Nat) (f : Slots) (s : State) : Res :=
  s.act (fun t => Osier.issue t core (Operands.bundle 0x3B f))

/-- MPY (R236). -/
def execMpy (core : Nat) (f : Slots) (s : State) : Res :=
  s.act (fun t => Osier.issue t core (Operands.bundle 0x40 f))

/-- MAC (R236). -/
def execMac (core : Nat) (f : Slots) (s : State) : Res :=
  s.act (fun t => Osier.issue t core (Operands.bundle 0x41 f))

/-- MSU (R236). -/
def execMsu (core : Nat) (f : Slots) (s : State) : Res :=
  s.act (fun t => Osier.issue t core (Operands.bundle 0x42 f))

/-- MPYS (R242). -/
def execMpys (core : Nat) (f : Slots) (s : State) : Res :=
  s.act (fun t => Osier.issue t core (Operands.bundle 0x43 f))

/-- MACS (R242). -/
def execMacs (core : Nat) (f : Slots) (s : State) : Res :=
  s.act (fun t => Osier.issue t core (Operands.bundle 0x44 f))

/-- MSUS (R242). -/
def execMsus (core : Nat) (f : Slots) (s : State) : Res :=
  s.act (fun t => Osier.issue t core (Operands.bundle 0x45 f))

/-- ACCLR (R242). -/
def execAcclr (core : Nat) (f : Slots) (s : State) : Res :=
  s.act (fun t => Osier.issue t core (Operands.bundle 0x46 f))

/-- ACLD (R242). -/
def execAcld (core : Nat) (f : Slots) (s : State) : Res :=
  s.act (fun t => Osier.issue t core (Operands.bundle 0x47 f))

/-- ACADD (R242). -/
def execAcadd (core : Nat) (f : Slots) (s : State) : Res :=
  s.act (fun t => Osier.issue t core (Operands.bundle 0x48 f))

/-- ACADDV (R242). -/
def execAcaddv (core : Nat) (f : Slots) (s : State) : Res :=
  s.act (fun t => Osier.issue t core (Operands.bundle 0x49 f))

/-- ACSUBV (R242). -/
def execAcsubv (core : Nat) (f : Slots) (s : State) : Res :=
  s.act (fun t => Osier.issue t core (Operands.bundle 0x4A f))

/-- VBF (R242). -/
def execVbf (core : Nat) (f : Slots) (s : State) : Res :=
  s.act (fun t => Osier.issue t core (Operands.bundle 0x4B f))

/-- ACSUM (R242). -/
def execAcsum (core : Nat) (f : Slots) (s : State) : Res :=
  s.act (fun t => Osier.issue t core (Operands.bundle 0x4C f))

/-- ACSH (R242). -/
def execAcsh (core : Nat) (f : Slots) (s : State) : Res :=
  s.act (fun t => Osier.issue t core (Operands.bundle 0x4D f))

/-- ACGET (R242). -/
def execAcget (core : Nat) (f : Slots) (s : State) : Res :=
  s.act (fun t => Osier.issue t core (Operands.bundle 0x4E f))

/-- ACPUT (R242). -/
def execAcput (core : Nat) (f : Slots) (s : State) : Res :=
  s.act (fun t => Osier.issue t core (Operands.bundle 0x4F f))

/-- ACRND (R238). -/
def execAcrnd (core : Nat) (f : Slots) (s : State) : Res :=
  s.act (fun t => Osier.issue t core (Operands.bundle 0x50 f))

/-- ACRNDB (R241). -/
def execAcrndb (core : Nat) (f : Slots) (s : State) : Res :=
  s.act (fun t => Osier.issue t core (Operands.bundle 0x51 f))

/-- ACTRN (R238). -/
def execActrn (core : Nat) (f : Slots) (s : State) : Res :=
  s.act (fun t => Osier.issue t core (Operands.bundle 0x52 f))

/-- EXP (R237). -/
def execExp (core : Nat) (f : Slots) (s : State) : Res :=
  s.act (fun t => Osier.issue t core (Operands.bundle 0x58 f))

/-- ACEXP (R242). -/
def execAcexp (core : Nat) (f : Slots) (s : State) : Res :=
  s.act (fun t => Osier.issue t core (Operands.bundle 0x59 f))

/-- NORM (R242). -/
def execNorm (core : Nat) (f : Slots) (s : State) : Res :=
  s.act (fun t => Osier.issue t core (Operands.bundle 0x5A f))

/-- BEXP (R241). -/
def execBexp (core : Nat) (f : Slots) (s : State) : Res :=
  s.act (fun t => Osier.issue t core (Operands.bundle 0x5B f))

/-- FRD (R250). -/
def execFrd (core : Nat) (f : Slots) (s : State) : Res :=
  s.act (fun t => Osier.issue t core (Operands.bundle 0x60 f))

/-- FWR (R250). -/
def execFwr (core : Nat) (f : Slots) (s : State) : Res :=
  s.act (fun t => Osier.issue t core (Operands.bundle 0x61 f))

/-- XRD (R251). -/
def execXrd (core : Nat) (f : Slots) (s : State) : Res :=
  s.act (fun t => Osier.issue t core (Operands.bundle 0x62 f))

/-- XWR (R251). -/
def execXwr (core : Nat) (f : Slots) (s : State) : Res :=
  s.act (fun t => Osier.issue t core (Operands.bundle 0x63 f))

/-- LDV (R233). -/
def execLdv (core : Nat) (y : Bool) (move : MoveArgs) (op : BitVec 8) (f : Slots) (s : State) : Res :=
  s.act (fun t => Osier.issue t core (Operands.bundle op.toNat (Operands.withMove f y 1 move)))

/-- STV (R233). -/
def execStv (core : Nat) (y : Bool) (move : MoveArgs) (op : BitVec 8) (f : Slots) (s : State) : Res :=
  s.act (fun t => Osier.issue t core (Operands.bundle op.toNat (Operands.withMove f y 2 move)))

/-- LDS (R233). -/
def execLds (core : Nat) (y : Bool) (move : MoveArgs) (op : BitVec 8) (f : Slots) (s : State) : Res :=
  s.act (fun t => Osier.issue t core (Operands.bundle op.toNat (Operands.withMove f y 3 move)))

/-- STS (R233). -/
def execSts (core : Nat) (y : Bool) (move : MoveArgs) (op : BitVec 8) (f : Slots) (s : State) : Res :=
  s.act (fun t => Osier.issue t core (Operands.bundle op.toNat (Operands.withMove f y 4 move)))

/-- LDB (R233). -/
def execLdb (core : Nat) (y : Bool) (move : MoveArgs) (op : BitVec 8) (f : Slots) (s : State) : Res :=
  s.act (fun t => Osier.issue t core (Operands.bundle op.toNat (Operands.withMove f y 5 move)))

/-- UPD (R249). -/
def execUpd (core : Nat) (arg : BitVec 8) (op : BitVec 8) (f : Slots) (s : State) : Res :=
  s.act (fun t => Osier.issue t core (Operands.bundle op.toNat (Operands.withCtl f 1 arg)))

/-- UPDR (R234). -/
def execUpdr (core : Nat) (arg : BitVec 8) (op : BitVec 8) (f : Slots) (s : State) : Res :=
  s.act (fun t => Osier.issue t core (Operands.bundle op.toNat (Operands.withCtl f 2 arg)))

/-- WAITX (R249). -/
def execWaitx (core : Nat) (arg : BitVec 8) (op : BitVec 8) (f : Slots) (s : State) : Res :=
  s.act (fun t => Osier.issue t core (Operands.bundle op.toNat (Operands.withCtl f 3 arg)))

/-- DONE (R257). -/
def execDone (core : Nat) (arg : BitVec 8) (op : BitVec 8) (f : Slots) (s : State) : Res :=
  s.act (fun t => Osier.issue t core (Operands.bundle op.toNat (Operands.withCtl f 4 arg)))

/-- SATCLR (R249). -/
def execSatclr (core : Nat) (arg : BitVec 8) (op : BitVec 8) (f : Slots) (s : State) : Res :=
  s.act (fun t => Osier.issue t core (Operands.bundle op.toNat (Operands.withCtl f 5 arg)))

end Sys2Proof.Machine
end

