-- ==== Sys2Proof/Machine/ExecOsierCore.lean ====
section
/-!
DEFINITION. Meanings of the commands of an Osier core's windows, transfers and injected errors (R251 to R268), one definition per command.
-/
namespace Sys2Proof.Machine

/-- INSTRUCTION_WRITE (R264). -/
def execInstructionWrite (core : Nat) (bundle : Nat) (broadcast : Bool) (w : Word) (s : State) : Res :=
  s.act (fun t => Window.write t 0 (0x60 + core) ((if broadcast then 0x80000 else 0x20000) + 8 * (bundle % 4096) + 4) w)

/-- TRANSFER_COMPLETE (R252). -/
def execTransferComplete (core : Nat) (s : State) : Res :=
  s.act (fun t => Osier.transfer t core)

/-- OSIER_WINDOW_ACCESS_RELEASE (R268). -/
def execOsierWindowAccessRelease (core : Nat) (s : State) : Res :=
  s.act (fun t => Osier.release t core)

/-- INJECT_PARITY (R267). -/
def execInjectParity (core : Nat) (s : State) : Res :=
  s.act (fun t => Reg.poke t (Reg.osierInject core) 2)

/-- INJECT_RESIDUE (R267). -/
def execInjectResidue (core : Nat) (s : State) : Res :=
  s.act (fun t => Reg.poke t (Reg.osierInject core) 1)

end Sys2Proof.Machine
end

