-- ==== Sys2Proof/Machine/ExecPair.lean ====
section
/-!
DEFINITION. Meanings of the commands of Hoop pairs (R536 to R560), one definition per command.
-/
namespace Sys2Proof.Machine

/-- HEARTBEAT (R545). -/
def execHeartbeat (beat : Heartbeat) (s : State) : Res :=
  s.act (fun t => Hoop.heartbeat t beat)

/-- HEARTBEAT_LOSS (R550). -/
def execHeartbeatLoss (s : State) : Res :=
  s.act (fun t => Hoop.heartbeatLoss t)

/-- FRAME_RECORD_SEAL (R545). -/
def execFrameRecordSeal (taps : List (Nat × Int)) (s : State) : Res :=
  s.act (fun t => Hoop.seal t taps)

/-- FRAME_RECORD (R547). -/
def execFrameRecord (r : FrameRecord) (s : State) : Res :=
  s.act (fun t => Hoop.frameRecord t r)

/-- PLAIT_MIRROR (R81). -/
def execPlaitMirror (frame : Nat) (writes : List (Nat × Word)) (crcOk : Bool) (s : State) : Res :=
  s.act (fun t => Hoop.mirror t frame writes crcOk)

/-- STANDBY_REPORT (R548). -/
def execStandbyReport (frame : Nat) (crc : Option Nat) (decisions : List Nat) (request : Bool) (crcOk : Bool) (s : State) : Res :=
  s.act (fun t => Hoop.report t frame crc decisions request crcOk)

/-- RESYNC_MESSAGE (R555). -/
def execResyncMessage (items : List ResyncItem) (crcOk : Bool) (s : State) : Res :=
  s.act (fun t => Hoop.resync t items crcOk)

/-- HOOP_LINK_CHANGE (R544). -/
def execHoopLinkChange (s : State) : Res :=
  s.act (fun t => Hoop.linkChange t (!t.hoop.link))

/-- CLAIM_TIMEOUT (R540). -/
def execClaimTimeout (s : State) : Res :=
  s.act (fun t => Claim.timeout t)

/-- SECONDARY_CLAIM_TIMEOUT (R543). -/
def execSecondaryClaimTimeout (s : State) : Res :=
  s.act (fun t => Claim.secondary t)

/-- YIELD (R557). -/
def execYield (s : State) : Res :=
  s.act (fun t => Reg.poke t Reg.hoopCmd 1)

/-- REJOIN_COMMAND (R554). -/
def execRejoinCommand (s : State) : Res :=
  s.act (fun t => Reg.poke t Reg.hoopCmd 2)

/-- REVERT_REQUEST (R558). -/
def execRevertRequest (s : State) : Res :=
  s.act (fun t => Reg.poke t Reg.hoopCmd 3)

/-- REVERT_HOLD_EXPIRY (R558). -/
def execRevertHoldExpiry (s : State) : Res :=
  s.act (fun t => Hoop.holdExpiry t)

/-- REJOIN (R555). -/
def execRejoin (ok : Bool) (s : State) : Res :=
  s.act (fun t => Hoop.rejoinStep t ok)

end Sys2Proof.Machine
end

