-- ==== Sys2Proof/Machine/ExecPorts.lean ====
section
/-!
DEFINITION. Meanings of the commands of audio ports, converters and host audio (R338 to R371), one definition per command.
-/
namespace Sys2Proof.Machine

/-- PORT_START (R347). -/
def execPortStart (page : Nat) (tx : Bool) (s : State) : Res :=
  s.act (fun t => Port.start t page tx)

/-- LEADIN_END (R347). -/
def execLeadinEnd (page : Nat) (tx : Bool) (s : State) : Res :=
  s.act (fun t => Port.leadinEnd t page tx)

/-- PORT_STOP (R348). -/
def execPortStop (page : Nat) (tx : Bool) (s : State) : Res :=
  s.act (fun t => Port.stopCmd t page tx)

/-- PORT_FADE_END (R348). -/
def execPortFadeEnd (page : Nat) (tx : Bool) (s : State) : Res :=
  s.act (fun t => Port.fadeEnd t page tx)

/-- LEADOUT_END (R348). -/
def execLeadoutEnd (page : Nat) (tx : Bool) (s : State) : Res :=
  s.act (fun t => Port.leadoutEnd t page tx)

/-- MASK_CHANGE_APPLY (R343). -/
def execMaskChangeApply (page : Nat) (tx : Bool) (s : State) : Res :=
  s.act (fun t => Port.maskApply t page tx)

/-- RECEIVER_LOCK (R347). -/
def execReceiverLock (page : Nat) (s : State) : Res :=
  s.act (fun t => Port.lock t page)

/-- RECEIVER_LOCK_LOSS (R353). -/
def execReceiverLockLoss (page : Nat) (s : State) : Res :=
  s.act (fun t => Port.lockLoss t page)

/-- PORT_INPUT_FRAME (R357). -/
def execPortInputFrame (page : Nat) (words : List Nat) (s : State) : Res :=
  s.act (fun t => Port.inputFrame t page words)

/-- AES_INPUT_FRAME (R353). -/
def execAesInputFrame (index : Nat) (a : Machine.Subframe) (b : Machine.Subframe) (s : State) : Res :=
  s.act (fun t => Port.aesFrame t index a b)

/-- AES_CS_BLOCK (R351). -/
def execAesCsBlock (index : Nat) (b : Bool) (bytes : List Byte) (s : State) : Res :=
  s.act (fun t => Port.csBlock t index b bytes)

/-- MADI_INPUT_FRAME (R356). -/
def execMadiInputFrame (index : Nat) (sub : List Machine.Subframe) (s : State) : Res :=
  s.act (fun t => Port.madiFrame t index sub)

/-- PORT_OUTPUT_FRAME (R345). -/
def execPortOutputFrame (page : Nat) (s : State) : Res :=
  s.act (fun t => Port.outputFrame t page)

/-- RATE_MEASURE of an input page, or of WCLK_IN by the page of STAKE (R360, R394). -/
def execRateMeasure (page : Nat) (cnt : Nat) (t0 : Nat) (t1 : Nat) (s : State) : Res :=
  s.act (fun t => if page = Stake.page then Stake.wclkMeasure t cnt t0 t1 else Port.measure t page cnt t0 t1)

/-- ASRC_LOCK (R364). -/
def execAsrcLock (engine : Nat) (ratio : Nat) (s : State) : Res :=
  s.act (fun t => Asrc.lock t engine ratio)

/-- ASRC_UNLOCK (R365). -/
def execAsrcUnlock (engine : Nat) (range : Bool) (s : State) : Res :=
  s.act (fun t => Asrc.unlock t engine range)

/-- HOST_AUDIO_IN_READ (R370). -/
def execHostAudioInRead (data : List Byte) (s : State) : Res :=
  s.act (fun t => HostAud.read t data)

/-- HOST_AUDIO_OUT_DONE (R371). -/
def execHostAudioOutDone (err : Bool) (s : State) : Res :=
  s.act (fun t => HostAud.done t err)

end Sys2Proof.Machine
end

