-- ==== Sys2Proof/Machine/ExecPower.lean ====
section
/-!
DEFINITION. Meanings of the commands of the power and heat budget, domains and standby (R269 to R287), one definition per command.
-/
namespace Sys2Proof.Machine

/-- BUDGET_EPOCH_CLOSE (R279). -/
def execBudgetEpochClose (temps : List Int) (reg : Option (Nat × Nat)) (freqs : List (Nat × Nat)) (s : State) : Res :=
  s.act (fun t => Epoch.close t temps reg freqs)

/-- REGULATOR_TIMEOUT (R276). -/
def execRegulatorTimeout (s : State) : Res :=
  s.act (fun t => Budget.regulatorTimeout t)

/-- DOMAIN_TRANSITION_DONE (R273). -/
def execDomainTransitionDone (s : State) : Res :=
  s.act (fun t => Domain.done t)

/-- STANDBY_ENTER (R285). -/
def execStandbyEnter (s : State) : Res :=
  s.act (fun t => Reg.poke t Reg.budgetStandby (t.rd Reg.budgetStandby ||| 1))

/-- WAKE_SPI (R286). -/
def execWakeSpi (env : StartEnv) (s : State) : Res :=
  s.force (fun t => Standby.wake t env)

/-- WAKE_GPIO (R286). -/
def execWakeGpio (pin : Nat) (env : StartEnv) (s : State) : Res :=
  s.force (fun t => Standby.wakeGpio t pin env)

/-- STANDBY_TIMER_EXPIRY (R286). -/
def execStandbyTimerExpiry (env : StartEnv) (s : State) : Res :=
  s.force (fun t => Standby.timer t env)

end Sys2Proof.Machine
end

