-- ==== Sys2Proof/Machine/ExecRouting.lean ====
section
/-!
DEFINITION. Meanings of the commands of the Router, its generators, meters and loudness (R421 to R434), one definition per command.
-/
namespace Sys2Proof.Machine

/-- PATCH_POST (R421). -/
def execPatchPost (v : Word) (s : State) : Res :=
  s.act (fun t => Reg.poke t Reg.routePatchSrc v)

/-- CROSSFADE_END (R423). -/
def execCrossfadeEnd (sink : Nat) (s : State) : Res :=
  s.act (fun t => Route.crossfadeEnd t sink)

/-- MIX_NODE_POST (R425). -/
def execMixNodePost (v : Word) (s : State) : Res :=
  s.act (fun t => Reg.poke t Reg.routeMixGain v)

/-- ROUTE_FADE_DONE (R426). -/
def execRouteFadeDone (s : State) : Res :=
  s.act (fun t => Route.fadeDone t)

/-- GENERATOR_FADE_END (R428). -/
def execGeneratorFadeEnd (gen : Nat) (s : State) : Res :=
  s.act (fun t => Route.genFadeEnd t gen)

/-- METER_CLEAR (R431). -/
def execMeterClear (v : Word) (s : State) : Res :=
  s.act (fun t => Reg.poke t Reg.meterClear v)

/-- METER_CONFIG_WRITE (R431). -/
def execMeterConfigWrite (meter : Nat) (word : Nat) (v : Word) (s : State) : Res :=
  s.act (fun t => Window.write t 0 0x49 (16 * (meter % 1024) + 4 * (word % 4)) v)

/-- LOUDNESS_START (R434). -/
def execLoudnessStart (meter : Nat) (s : State) : Res :=
  s.act (fun t => Reg.poke t (Reg.meterLoudCtrl (meter % 16)) 1)

/-- LOUDNESS_STOP (R434). -/
def execLoudnessStop (meter : Nat) (s : State) : Res :=
  s.act (fun t => Reg.poke t (Reg.meterLoudCtrl (meter % 16)) 2)

/-- LOUDNESS_RESET (R434). -/
def execLoudnessReset (meter : Nat) (s : State) : Res :=
  s.act (fun t => Reg.poke t (Reg.meterLoudCtrl (meter % 16)) 3)

/-- LOUDNESS_BLOCK (R434). -/
def execLoudnessBlock (meter : Nat) (s : State) : Res :=
  s.act (fun t => Meter.block t meter)

end Sys2Proof.Machine
end

