-- ==== Sys2Proof/Machine/ExecScene.lean ====
section
/-!
DEFINITION. Meanings of the commands of layouts, healing, objects and Felot (R88 to R131), one definition per command.
-/
namespace Sys2Proof.Machine

/-- LAYOUT_BUILD (R88). -/
def execLayoutBuild (v : Word) (s : State) : Res :=
  s.act (fun t => Reg.poke t Reg.sceneLayoutBuild (v ||| 1))

/-- LAYOUT_BUILD_DONE (R88). -/
def execLayoutBuildDone (s : State) : Res :=
  s.act (fun t => Scene.buildDone t)

/-- HEALING_REBUILD_DONE (R98). -/
def execHealingRebuildDone (s : State) : Res :=
  s.act (fun t => Scene.rebuildDone t)

/-- OBJECT_LATE (R123). -/
def execObjectLate (obj : Nat) (s : State) : Res :=
  s.act (fun t => Scene.objectLate t obj)

/-- OBJECT_HOLD (R123). -/
def execObjectHold (obj : Nat) (s : State) : Res :=
  s.act (fun t => Scene.objectHold t obj)

/-- RECORD_POST (R120). -/
def execRecordPost (s : State) : Res :=
  s.act (fun t => Reg.poke t Reg.sceneRecPost 1)

/-- FELOT_MESSAGE (R130). -/
def execFelotMessage (net : Nat) (dstIp : Nat) (dstPort : Nat) (srcIp : Nat) (payload : List Byte) (s : State) : Res :=
  s.act (fun t => Felot.datagram t net dstIp dstPort srcIp payload)

end Sys2Proof.Machine
end

