-- ==== Sys2Proof/Machine/ExecStage.lean ====
section
/-!
DEFINITION. Meanings of the commands of the power stage (R291 to R309), one definition per command.
-/
namespace Sys2Proof.Machine

/-- OVER_CURRENT (R304). -/
def execOverCurrent (ch : Nat) (s : State) : Res :=
  s.act (fun t => Pstg.overCurrent t ch)

/-- SHORT (R304). -/
def execShort (ch : Nat) (s : State) : Res :=
  s.act (fun t => Pstg.short t ch)

/-- DRIVER_FAULT (R304). -/
def execDriverFault (group : Nat) (s : State) : Res :=
  s.act (fun t => Pstg.driverFault t group)

/-- DRIVER_FAULT_RECOVERY (R304). -/
def execDriverFaultRecovery (group : Nat) (s : State) : Res :=
  s.act (fun t => Pstg.driverRecovery t group)

/-- CLOCK_ERROR (R304). -/
def execClockError (s : State) : Res :=
  s.act (fun t => Pstg.clockError t)

/-- CLOCK_RECOVERY (R304). -/
def execClockRecovery (s : State) : Res :=
  s.act (fun t => Pstg.clockRecovery t)

/-- LOOP_FAULT (R298). -/
def execLoopFault (ch : Nat) (s : State) : Res :=
  s.act (fun t => Pstg.loopFault t ch)

/-- RECHECK_START (R305). -/
def execRecheckStart (ch : Nat) (s : State) : Res :=
  s.act (fun t => Pstg.recheckStart t ch)

/-- RECHECK_COMMAND (R305). -/
def execRecheckCommand (ch : Nat) (s : State) : Res :=
  s.act (fun t => Reg.poke t (Reg.pstgChCmd (ch / 8) (ch % 8)) 1)

/-- RECHECK_END (R305). -/
def execRecheckEnd (ch : Nat) (s : State) : Res :=
  s.act (fun t => Pstg.recheckEnd t ch)

/-- CHANNEL_START (R308). -/
def execChannelStart (ch : Nat) (hyst : Nat) (tLoop : Nat) (s : State) : Res :=
  s.act (fun t => Pstg.channelStart t ch hyst tLoop)

/-- CHANNEL_RAMP_DOWN_DONE (R309). -/
def execChannelRampDownDone (ch : Nat) (s : State) : Res :=
  s.act (fun t => Pstg.rampDownDone t ch)

end Sys2Proof.Machine
end

