-- ==== Sys2Proof/Machine/ExecSupervision.lean ====
section
/-!
DEFINITION. Meanings of the commands of load supervision (R313 to R335), one definition per command.
-/
namespace Sys2Proof.Machine

/-- LSUP_WINDOW_END (R316). -/
def execLsupWindowEnd (ch : Nat) (sums : Machine.Sums) (overload : Bool) (s : State) : Res :=
  s.act (fun t => Lsup.windowEnd t ch sums overload)

/-- VERDICT_CHANGE (R322). -/
def execVerdictChange (ch : Nat) (s : State) : Res :=
  s.act (fun t => Lsup.verdictChange t ch)

/-- BASELINE_CAPTURE (R323). -/
def execBaselineCapture (ch : Nat) (s : State) : Res :=
  s.act (fun t => Reg.poke t Reg.lsupCmd (w32 (ch % 64 + at_ 8 1)))

/-- AC_BASELINE_TEST (R328). -/
def execAcBaselineTest (ch : Nat) (s : State) : Res :=
  s.act (fun t => Reg.poke t Reg.lsupCmd (w32 (ch % 64 + at_ 8 2)))

/-- AC_TEST_COMMAND (R326). -/
def execAcTestCommand (ch : Nat) (s : State) : Res :=
  s.act (fun t => Reg.poke t Reg.lsupCmd (w32 (ch % 64 + at_ 8 3)))

/-- CLEAR_BASELINES (R335). -/
def execClearBaselines (ch : Nat) (s : State) : Res :=
  s.act (fun t => Reg.poke t Reg.lsupCmd (w32 (ch % 64 + at_ 8 4)))

/-- AC_TEST_SILENCE_START (R326). -/
def execAcTestSilenceStart (ch : Nat) (s : State) : Res :=
  s.act (fun t => Lsup.silenceStart t ch)

/-- AC_TEST_FIRST_START (R326). -/
def execAcTestFirstStart (ch : Nat) (s : State) : Res :=
  s.act (fun t => Lsup.firstStart t ch)

/-- AC_POINT_END (R325). -/
def execAcPointEnd (ch : Nat) (sums : Machine.Sums) (s : State) : Res :=
  s.act (fun t => Lsup.acPoint t ch sums)

/-- AC_TEST_END (R328). -/
def execAcTestEnd (ch : Nat) (s : State) : Res :=
  s.act (fun t => Lsup.acEnd t ch)

/-- AC_TEST_ABORT (R327). -/
def execAcTestAbort (ch : Nat) (s : State) : Res :=
  s.act (fun t => Lsup.acAbort t ch)

end Sys2Proof.Machine
end

