-- ==== Sys2Proof/Machine/ExecTime.lean ====
section
/-!
DEFINITION. Meanings of the commands of Stake time, PTP, triggers and captures (R377 to R400), one definition per command.
-/
namespace Sys2Proof.Machine

/-- SERVO_MEASUREMENT (R380). -/
def execServoMeasurement (offset : Int) (s : State) : Res :=
  s.act (fun t => Stake.measurement t offset)

/-- HOLDOVER (R380). -/
def execHoldover (s : State) : Res :=
  s.act (fun t => Stake.holdover t)

/-- STAKE_SET (R382). -/
def execStakeSet (s : State) : Res :=
  s.act (fun t => Reg.poke t Reg.stakeSetCtrl 1)

/-- STAKE_ADD (R382). -/
def execStakeAdd (s : State) : Res :=
  s.act (fun t => Reg.poke t Reg.stakeSetCtrl 2)

/-- STAKE_SUBTRACT (R382). -/
def execStakeSubtract (s : State) : Res :=
  s.act (fun t => Reg.poke t Reg.stakeSetCtrl 3)

/-- STAKE_STEP_REQUEST (R383). -/
def execStakeStepRequest (s : State) : Res :=
  s.act (fun t => Stake.stepRamp t)

/-- STAKE_STEP_APPLY (R384). -/
def execStakeStepApply (s : State) : Res :=
  s.act (fun t => Stake.stepApply t)

/-- PTP_SYNC (R386). -/
def execPtpSync (port : Nat) (domain : Nat) (sender : Nat) (seq : Nat) (twoStep : Bool) (t1 : Nat) (corr : Int) (s : State) : Res :=
  s.act (fun t => Ptp.sync (Ptp.received t port domain) port domain sender seq twoStep t1 corr)

/-- PTP_FOLLOW_UP (R386). -/
def execPtpFollowUp (port : Nat) (domain : Nat) (sender : Nat) (seq : Nat) (t1 : Nat) (corr : Int) (s : State) : Res :=
  s.act (fun t => Ptp.followUp (Ptp.received t port domain) port domain sender seq t1 corr)

/-- PTP_DELAY_REQ (R389). -/
def execPtpDelayReq (port : Nat) (domain : Nat) (requester : Nat) (seq : Nat) (s : State) : Res :=
  s.act (fun t => Ptp.delayReq (Ptp.received t port domain) port domain requester seq)

/-- PTP_DELAY_RESP (R386). -/
def execPtpDelayResp (port : Nat) (domain : Nat) (sender : Nat) (seq : Nat) (t4 : Nat) (corr : Int) (s : State) : Res :=
  s.act (fun t => Ptp.delayResp (Ptp.received t port domain) port domain sender seq t4 corr)

/-- PTP_ANNOUNCE (R387). -/
def execPtpAnnounce (port : Nat) (a : Announce) (s : State) : Res :=
  s.act (fun t => Ptp.announce (Ptp.received t port a.domain) port a)

/-- PTP_MANAGEMENT_SIGNALING (R385). -/
def execPtpManagementSignaling (port : Nat) (frame : List Byte) (buf : Nat) (s : State) : Res :=
  s.act (fun t => Eth.host t port frame buf)

/-- ANNOUNCE_TIMEOUT (R388). -/
def execAnnounceTimeout (port : Nat) (s : State) : Res :=
  s.act (fun t => Ptp.timeout t port)

/-- PTP_MESSAGE_INTERVAL (R389). -/
def execPtpMessageInterval (port : Nat) (kind : Nat) (s : State) : Res :=
  s.act (fun t => Ptp.interval t port kind)

/-- PPS_EDGE (R390). -/
def execPpsEdge (s : State) : Res :=
  s.act (fun t => Stake.ppsEdge t)

/-- PPS_LOSS (R390). -/
def execPpsLoss (s : State) : Res :=
  s.act (fun t => Stake.ppsLoss t)

/-- REF10M_MEASURE (R390). -/
def execRef10mMeasure (ppb : Int) (s : State) : Res :=
  s.act (fun t => Stake.ref10m t ppb)

/-- TRIGGER_EDGE (R399). -/
def execTriggerEdge (k : Nat) (s : State) : Res :=
  s.act (fun t => Stake.edge t k)

/-- CAPTURE_EDGE (R400). -/
def execCaptureEdge (k : Nat) (rising : Bool) (s : State) : Res :=
  s.act (fun t => Stake.capture t k rising)

/-- TCAP_POP (R400). -/
def execTcapPop (k : Nat) (s : State) : Res :=
  s.act (fun t => Read.answered (Page.access t 0 (Reg.stakeTcapNs (k % 4))))

/-- GM_HOLDOVER_LIMIT (R389). -/
def execGmHoldoverLimit (s : State) : Res :=
  s.act (fun t => Stake.gmLimit t)

end Sys2Proof.Machine
end

