-- ==== Sys2Proof/Machine/ExecWarpCorr.lean ====
section
/-!
DEFINITION. Meanings of the commands of the Warp matrix and output correction (R141 to R180), one definition per command.
-/
namespace Sys2Proof.Machine

/-- WARP_DIRECT_POST (R147). -/
def execWarpDirectPost (gain : Word) (busy : Bool) (s : State) : Res :=
  s.act (fun t => Warp.directWrite t gain busy)

/-- WARP_POST_ACCEPT (R147). -/
def execWarpPostAccept (s : State) : Res :=
  s.act (fun t => Warp.accept t)

/-- WARP_FADE_DONE (R152). -/
def execWarpFadeDone (s : State) : Res :=
  s.act (fun t => Warp.fadeDone t)

/-- CORR_BANK_POST (R177). -/
def execCorrBankPost (v : Word) (s : State) : Res :=
  s.act (fun t => Reg.poke t Reg.corrOutBank v)

/-- CORR_GAIN_POST (R170). -/
def execCorrGainPost (v : Word) (s : State) : Res :=
  s.act (fun t => Reg.poke t Reg.corrOutGain v)

/-- CORR_MUTE_POST (R170). -/
def execCorrMutePost (v : Word) (s : State) : Res :=
  s.act (fun t => Reg.poke t Reg.corrOutMute v)

/-- CORR_PREPARATION (R174). -/
def execCorrPreparation (v : Word) (s : State) : Res :=
  s.act (fun t => Reg.poke t Reg.corrPrep v)

/-- CORR_PREP_DONE (R175). -/
def execCorrPrepDone (s : State) : Res :=
  s.act (fun t => Corr.prepDone t)

/-- PARTITION_LATE (R166). -/
def execPartitionLate (out : Nat) (part : Nat) (start : Nat) (s : State) : Res :=
  s.act (fun t => Coil.partitionLate t out part start)

/-- TRANSITION_END (R177). -/
def execTransitionEnd (out : Nat) (s : State) : Res :=
  s.act (fun t => Corr.transitionEnd t out)

/-- CORR_FADE_DONE (R171). -/
def execCorrFadeDone (s : State) : Res :=
  s.act (fun t => Corr.fadeDone t)

end Sys2Proof.Machine
end

