-- ==== Sys2Proof/Machine/Dispatch.lean ====
section
/-!
DEFINITION. The meaning of every command, one arm each.
-/
namespace Sys2Proof.Machine
open Sys2Proof

def exec (i : Instr) (s : State) : Host.Outcome State Fault Refusal :=
  match i with
  | .frameTick env => Sys2Proof.Machine.execFrameTick env s
  | .directWindowEnd slack => Sys2Proof.Machine.execDirectWindowEnd slack s
  | .registerWrite ini addr v => Sys2Proof.Machine.execRegisterWrite ini addr v s
  | .loReadLatch ini addr => Sys2Proof.Machine.execLoReadLatch ini addr s
  | .commitRequest page alsoCancel => Sys2Proof.Machine.execCommitRequest page alsoCancel s
  | .commitCancel page => Sys2Proof.Machine.execCommitCancel page s
  | .pageEnableWrite page enable => Sys2Proof.Machine.execPageEnableWrite page enable s
  | .softReset page enable => Sys2Proof.Machine.execSoftReset page enable s
  | .faultCauseClear page => Sys2Proof.Machine.execFaultCauseClear page s
  | .irqForce page v => Sys2Proof.Machine.execIrqForce page v s
  | .irqEoi vector => Sys2Proof.Machine.execIrqEoi vector s
  | .spiRead addr words => Sys2Proof.Machine.execSpiRead addr words s
  | .spiWrite addr words data crc => Sys2Proof.Machine.execSpiWrite addr words data crc s
  | .dmaRun ch => Sys2Proof.Machine.execDmaRun ch s
  | .dmaDescriptorDone ch words data => Sys2Proof.Machine.execDmaDescriptorDone ch words data s
  | .plaitOpen ini => Sys2Proof.Machine.execPlaitOpen ini s
  | .plaitCapture ini addr v => Sys2Proof.Machine.execPlaitCapture ini addr v s
  | .plaitCommitNextFrame ini allowTier => Sys2Proof.Machine.execPlaitCommitNextFrame ini allowTier s
  | .plaitCommitFrameIndex ini allowTier => Sys2Proof.Machine.execPlaitCommitFrameIndex ini allowTier s
  | .plaitCommitPtpTime ini allowTier => Sys2Proof.Machine.execPlaitCommitPtpTime ini allowTier s
  | .plaitCommitDecision slot => Sys2Proof.Machine.execPlaitCommitDecision slot s
  | .plaitAbort slot ticket => Sys2Proof.Machine.execPlaitAbort slot ticket s
  | .layoutBuild v => Sys2Proof.Machine.execLayoutBuild v s
  | .objectLate obj => Sys2Proof.Machine.execObjectLate obj s
  | .objectHold obj => Sys2Proof.Machine.execObjectHold obj s
  | .felotMessage net dstIp dstPort srcIp payload => Sys2Proof.Machine.execFelotMessage net dstIp dstPort srcIp payload s
  | .warpDirectPost gain busy => Sys2Proof.Machine.execWarpDirectPost gain busy s
  | .corrBankPost v => Sys2Proof.Machine.execCorrBankPost v s
  | .corrGainPost v => Sys2Proof.Machine.execCorrGainPost v s
  | .corrMutePost v => Sys2Proof.Machine.execCorrMutePost v s
  | .corrPreparation v => Sys2Proof.Machine.execCorrPreparation v s
  | .partitionLate out part start => Sys2Proof.Machine.execPartitionLate out part start s
  | .transitionEnd out => Sys2Proof.Machine.execTransitionEnd out s
  | .deferredRelease node => Sys2Proof.Machine.execDeferredRelease node s
  | .affinityWaitExpiry node => Sys2Proof.Machine.execAffinityWaitExpiry node s
  | .nodeComplete node writes => Sys2Proof.Machine.execNodeComplete node writes s
  | .coilSubmit node => Sys2Proof.Machine.execCoilSubmit node s
  | .activationLate node => Sys2Proof.Machine.execActivationLate node s
  | .directCostStop core => Sys2Proof.Machine.execDirectCostStop core s
  | .instructionWrite core bundle broadcast w => Sys2Proof.Machine.execInstructionWrite core bundle broadcast w s
  | .transferComplete core => Sys2Proof.Machine.execTransferComplete core s
  | .osierWindowAccessRelease core => Sys2Proof.Machine.execOsierWindowAccessRelease core s
  | .injectParity core => Sys2Proof.Machine.execInjectParity core s
  | .injectResidue core => Sys2Proof.Machine.execInjectResidue core s
  | .nop core f => Sys2Proof.Machine.execNop core f s
  | .br core f => Sys2Proof.Machine.execBr core f s
  | .call core f => Sys2Proof.Machine.execCall core f s
  | .jr core f => Sys2Proof.Machine.execJr core f s
  | .loop core f => Sys2Proof.Machine.execLoop core f s
  | .loopi core f => Sys2Proof.Machine.execLoopi core f s
  | .endl core f => Sys2Proof.Machine.execEndl core f s
  | .movsr core f => Sys2Proof.Machine.execMovsr core f s
  | .movrs core f => Sys2Proof.Machine.execMovrs core f s
  | .bexpr core f => Sys2Proof.Machine.execBexpr core f s
  | .add core f => Sys2Proof.Machine.execAdd core f s
  | .sub core f => Sys2Proof.Machine.execSub core f s
  | .and core f => Sys2Proof.Machine.execAnd core f s
  | .or core f => Sys2Proof.Machine.execOr core f s
  | .xor core f => Sys2Proof.Machine.execXor core f s
  | .shl core f => Sys2Proof.Machine.execShl core f s
  | .shr core f => Sys2Proof.Machine.execShr core f s
  | .sar core f => Sys2Proof.Machine.execSar core f s
  | .min core f => Sys2Proof.Machine.execMin core f s
  | .max core f => Sys2Proof.Machine.execMax core f s
  | .mul core f => Sys2Proof.Machine.execMul core f s
  | .addi core f => Sys2Proof.Machine.execAddi core f s
  | .cmp core f => Sys2Proof.Machine.execCmp core f s
  | .cmpi core f => Sys2Proof.Machine.execCmpi core f s
  | .movi core f => Sys2Proof.Machine.execMovi core f s
  | .movu core f => Sys2Proof.Machine.execMovu core f s
  | .vadd core f => Sys2Proof.Machine.execVadd core f s
  | .vsub core f => Sys2Proof.Machine.execVsub core f s
  | .vaddw core f => Sys2Proof.Machine.execVaddw core f s
  | .vsubw core f => Sys2Proof.Machine.execVsubw core f s
  | .vneg core f => Sys2Proof.Machine.execVneg core f s
  | .vabs core f => Sys2Proof.Machine.execVabs core f s
  | .vand core f => Sys2Proof.Machine.execVand core f s
  | .vor core f => Sys2Proof.Machine.execVor core f s
  | .vxor core f => Sys2Proof.Machine.execVxor core f s
  | .vmin core f => Sys2Proof.Machine.execVmin core f s
  | .vmax core f => Sys2Proof.Machine.execVmax core f s
  | .vscale core f => Sys2Proof.Machine.execVscale core f s
  | .vshli core f => Sys2Proof.Machine.execVshli core f s
  | .vperm core f => Sys2Proof.Machine.execVperm core f s
  | .vbcast core f => Sys2Proof.Machine.execVbcast core f s
  | .vins core f => Sys2Proof.Machine.execVins core f s
  | .vext core f => Sys2Proof.Machine.execVext core f s
  | .vmulr core f => Sys2Proof.Machine.execVmulr core f s
  | .vmulrs core f => Sys2Proof.Machine.execVmulrs core f s
  | .vcmul core f => Sys2Proof.Machine.execVcmul core f s
  | .vcmulj core f => Sys2Proof.Machine.execVcmulj core f s
  | .mpy core f => Sys2Proof.Machine.execMpy core f s
  | .mac core f => Sys2Proof.Machine.execMac core f s
  | .msu core f => Sys2Proof.Machine.execMsu core f s
  | .mpys core f => Sys2Proof.Machine.execMpys core f s
  | .macs core f => Sys2Proof.Machine.execMacs core f s
  | .msus core f => Sys2Proof.Machine.execMsus core f s
  | .acclr core f => Sys2Proof.Machine.execAcclr core f s
  | .acld core f => Sys2Proof.Machine.execAcld core f s
  | .acadd core f => Sys2Proof.Machine.execAcadd core f s
  | .acaddv core f => Sys2Proof.Machine.execAcaddv core f s
  | .acsubv core f => Sys2Proof.Machine.execAcsubv core f s
  | .vbf core f => Sys2Proof.Machine.execVbf core f s
  | .acsum core f => Sys2Proof.Machine.execAcsum core f s
  | .acsh core f => Sys2Proof.Machine.execAcsh core f s
  | .acget core f => Sys2Proof.Machine.execAcget core f s
  | .acput core f => Sys2Proof.Machine.execAcput core f s
  | .acrnd core f => Sys2Proof.Machine.execAcrnd core f s
  | .acrndb core f => Sys2Proof.Machine.execAcrndb core f s
  | .actrn core f => Sys2Proof.Machine.execActrn core f s
  | .exp core f => Sys2Proof.Machine.execExp core f s
  | .acexp core f => Sys2Proof.Machine.execAcexp core f s
  | .norm core f => Sys2Proof.Machine.execNorm core f s
  | .bexp core f => Sys2Proof.Machine.execBexp core f s
  | .frd core f => Sys2Proof.Machine.execFrd core f s
  | .fwr core f => Sys2Proof.Machine.execFwr core f s
  | .xrd core f => Sys2Proof.Machine.execXrd core f s
  | .xwr core f => Sys2Proof.Machine.execXwr core f s
  | .ldv core y move op f => Sys2Proof.Machine.execLdv core y move op f s
  | .stv core y move op f => Sys2Proof.Machine.execStv core y move op f s
  | .lds core y move op f => Sys2Proof.Machine.execLds core y move op f s
  | .sts core y move op f => Sys2Proof.Machine.execSts core y move op f s
  | .ldb core y move op f => Sys2Proof.Machine.execLdb core y move op f s
  | .upd core arg op f => Sys2Proof.Machine.execUpd core arg op f s
  | .updr core arg op f => Sys2Proof.Machine.execUpdr core arg op f s
  | .waitx core arg op f => Sys2Proof.Machine.execWaitx core arg op f s
  | .done core arg op f => Sys2Proof.Machine.execDone core arg op f s
  | .satclr core arg op f => Sys2Proof.Machine.execSatclr core arg op f s
  | .budgetEpochClose temps reg freqs => Sys2Proof.Machine.execBudgetEpochClose temps reg freqs s
  | .wakeSpi env => Sys2Proof.Machine.execWakeSpi env s
  | .wakeGpio pin env => Sys2Proof.Machine.execWakeGpio pin env s
  | .standbyTimerExpiry env => Sys2Proof.Machine.execStandbyTimerExpiry env s
  | .overCurrent ch => Sys2Proof.Machine.execOverCurrent ch s
  | .short ch => Sys2Proof.Machine.execShort ch s
  | .driverFault group => Sys2Proof.Machine.execDriverFault group s
  | .driverFaultRecovery group => Sys2Proof.Machine.execDriverFaultRecovery group s
  | .loopFault ch => Sys2Proof.Machine.execLoopFault ch s
  | .recheckStart ch => Sys2Proof.Machine.execRecheckStart ch s
  | .recheckCommand ch => Sys2Proof.Machine.execRecheckCommand ch s
  | .recheckEnd ch => Sys2Proof.Machine.execRecheckEnd ch s
  | .channelStart ch hyst tLoop => Sys2Proof.Machine.execChannelStart ch hyst tLoop s
  | .channelRampDownDone ch => Sys2Proof.Machine.execChannelRampDownDone ch s
  | .lsupWindowEnd ch sums overload => Sys2Proof.Machine.execLsupWindowEnd ch sums overload s
  | .verdictChange ch => Sys2Proof.Machine.execVerdictChange ch s
  | .baselineCapture ch => Sys2Proof.Machine.execBaselineCapture ch s
  | .acBaselineTest ch => Sys2Proof.Machine.execAcBaselineTest ch s
  | .acTestCommand ch => Sys2Proof.Machine.execAcTestCommand ch s
  | .clearBaselines ch => Sys2Proof.Machine.execClearBaselines ch s
  | .acTestSilenceStart ch => Sys2Proof.Machine.execAcTestSilenceStart ch s
  | .acTestFirstStart ch => Sys2Proof.Machine.execAcTestFirstStart ch s
  | .acPointEnd ch sums => Sys2Proof.Machine.execAcPointEnd ch sums s
  | .acTestEnd ch => Sys2Proof.Machine.execAcTestEnd ch s
  | .acTestAbort ch => Sys2Proof.Machine.execAcTestAbort ch s
  | .portStart page tx => Sys2Proof.Machine.execPortStart page tx s
  | .leadinEnd page tx => Sys2Proof.Machine.execLeadinEnd page tx s
  | .portStop page tx => Sys2Proof.Machine.execPortStop page tx s
  | .portFadeEnd page tx => Sys2Proof.Machine.execPortFadeEnd page tx s
  | .leadoutEnd page tx => Sys2Proof.Machine.execLeadoutEnd page tx s
  | .maskChangeApply page tx => Sys2Proof.Machine.execMaskChangeApply page tx s
  | .receiverLock page => Sys2Proof.Machine.execReceiverLock page s
  | .receiverLockLoss page => Sys2Proof.Machine.execReceiverLockLoss page s
  | .portInputFrame page words => Sys2Proof.Machine.execPortInputFrame page words s
  | .aesInputFrame index a b => Sys2Proof.Machine.execAesInputFrame index a b s
  | .aesCsBlock index b bytes => Sys2Proof.Machine.execAesCsBlock index b bytes s
  | .madiInputFrame index sub => Sys2Proof.Machine.execMadiInputFrame index sub s
  | .rateMeasure page cnt t0 t1 => Sys2Proof.Machine.execRateMeasure page cnt t0 t1 s
  | .asrcLock engine ratio => Sys2Proof.Machine.execAsrcLock engine ratio s
  | .asrcUnlock engine range => Sys2Proof.Machine.execAsrcUnlock engine range s
  | .hostAudioInRead data => Sys2Proof.Machine.execHostAudioInRead data s
  | .hostAudioOutDone err => Sys2Proof.Machine.execHostAudioOutDone err s
  | .servoMeasurement offset => Sys2Proof.Machine.execServoMeasurement offset s
  | .ptpSync port domain sender seq twoStep t1 corr => Sys2Proof.Machine.execPtpSync port domain sender seq twoStep t1 corr s
  | .ptpFollowUp port domain sender seq t1 corr => Sys2Proof.Machine.execPtpFollowUp port domain sender seq t1 corr s
  | .ptpDelayReq port domain requester seq => Sys2Proof.Machine.execPtpDelayReq port domain requester seq s
  | .ptpDelayResp port domain sender seq t4 corr => Sys2Proof.Machine.execPtpDelayResp port domain sender seq t4 corr s
  | .ptpAnnounce port a => Sys2Proof.Machine.execPtpAnnounce port a s
  | .ptpManagementSignaling port frame buf => Sys2Proof.Machine.execPtpManagementSignaling port frame buf s
  | .announceTimeout port => Sys2Proof.Machine.execAnnounceTimeout port s
  | .ptpMessageInterval port kind => Sys2Proof.Machine.execPtpMessageInterval port kind s
  | .ref10mMeasure ppb => Sys2Proof.Machine.execRef10mMeasure ppb s
  | .triggerEdge k => Sys2Proof.Machine.execTriggerEdge k s
  | .captureEdge k rising => Sys2Proof.Machine.execCaptureEdge k rising s
  | .tcapPop k => Sys2Proof.Machine.execTcapPop k s
  | .ethFrameReceive port frame fcsOk sfd buf => Sys2Proof.Machine.execEthFrameReceive port frame fcsOk sfd buf s
  | .streamPacketReceive port packet => Sys2Proof.Machine.execStreamPacketReceive port packet s
  | .arpRequest port target sender mac => Sys2Proof.Machine.execArpRequest port target sender mac s
  | .icmpEchoRequest port sender payload => Sys2Proof.Machine.execIcmpEchoRequest port sender payload s
  | .igmpQuery port version frame buf => Sys2Proof.Machine.execIgmpQuery port version frame buf s
  | .igmpReport port => Sys2Proof.Machine.execIgmpReport port s
  | .linkChange port up => Sys2Proof.Machine.execLinkChange port up s
  | .gratuitousArp port => Sys2Proof.Machine.execGratuitousArp port s
  | .htxTailWrite port v => Sys2Proof.Machine.execHtxTailWrite port v s
  | .hostFrameSend port desc => Sys2Proof.Machine.execHostFrameSend port desc s
  | .txtsPop port => Sys2Proof.Machine.execTxtsPop port s
  | .patchPost v => Sys2Proof.Machine.execPatchPost v s
  | .crossfadeEnd sink => Sys2Proof.Machine.execCrossfadeEnd sink s
  | .mixNodePost v => Sys2Proof.Machine.execMixNodePost v s
  | .generatorFadeEnd gen => Sys2Proof.Machine.execGeneratorFadeEnd gen s
  | .meterClear v => Sys2Proof.Machine.execMeterClear v s
  | .meterConfigWrite meter word v => Sys2Proof.Machine.execMeterConfigWrite meter word v s
  | .loudnessStart meter => Sys2Proof.Machine.execLoudnessStart meter s
  | .loudnessStop meter => Sys2Proof.Machine.execLoudnessStop meter s
  | .loudnessReset meter => Sys2Proof.Machine.execLoudnessReset meter s
  | .loudnessBlock meter => Sys2Proof.Machine.execLoudnessBlock meter s
  | .detectorClear v => Sys2Proof.Machine.execDetectorClear v s
  | .detectorConfigWrite chain word v => Sys2Proof.Machine.execDetectorConfigWrite chain word v s
  | .captureBlendEnd chain => Sys2Proof.Machine.execCaptureBlendEnd chain s
  | .measStart job => Sys2Proof.Machine.execMeasStart job s
  | .training mask => Sys2Proof.Machine.execTraining mask s
  | .trainingDone failed => Sys2Proof.Machine.execTrainingDone failed s
  | .mr4Poll die field above beyond ns => Sys2Proof.Machine.execMr4Poll die field above beyond ns s
  | .bankRefresh ch bank => Sys2Proof.Machine.execBankRefresh ch bank s
  | .dramRequest port ini write addr len data ecc wait exitNs => Sys2Proof.Machine.execDramRequest port ini write addr len data ecc wait exitNs s
  | .scrubRead ecc => Sys2Proof.Machine.execScrubRead ecc s
  | .idleSelfRefreshEntry ch => Sys2Proof.Machine.execIdleSelfRefreshEntry ch s
  | .weaveBurst b wait => Sys2Proof.Machine.execWeaveBurst b wait s
  | .initiatorResetMidBurst b done => Sys2Proof.Machine.execInitiatorResetMidBurst b done s
  | .resetRelease env => Sys2Proof.Machine.execResetRelease env s
  | .startReady slot0 slot1 ns => Sys2Proof.Machine.execStartReady slot0 slot1 ns s
  | .hostLoadGo len => Sys2Proof.Machine.execHostLoadGo len s
  | .startAttemptFail code => Sys2Proof.Machine.execStartAttemptFail code s
  | .bootRetry env => Sys2Proof.Machine.execBootRetry env s
  | .safeHoldEntry part item => Sys2Proof.Machine.execSafeHoldEntry part item s
  | .safeHoldRetry env => Sys2Proof.Machine.execSafeHoldRetry env s
  | .startAttemptCommand env => Sys2Proof.Machine.execStartAttemptCommand env s
  | .lifecycleAdvance target confirm => Sys2Proof.Machine.execLifecycleAdvance target confirm s
  | .pinReadback ball same => Sys2Proof.Machine.execPinReadback ball same s
  | .selftestSlice part item window ok last => Sys2Proof.Machine.execSelftestSlice part item window ok last s
  | .bistRun parts => Sys2Proof.Machine.execBistRun parts s
  | .bistInject item => Sys2Proof.Machine.execBistInject item s
  | .rejoin ok => Sys2Proof.Machine.execRejoin ok s
  | .faultRecord page code detail => Sys2Proof.Machine.execFaultRecord page code detail s
  | .sramScrub ecc => Sys2Proof.Machine.execSramScrub ecc s
  | .faultTailWrite index => Sys2Proof.Machine.execFaultTailWrite index s
  | .sanAddr addr => Sys2Proof.Machine.execSanAddr addr s
  | .extest bits => Sys2Proof.Machine.execExtest bits s
  | .samplePreload bits => Sys2Proof.Machine.execSamplePreload bits s
  | .gpioSample pins => Sys2Proof.Machine.execGpioSample pins s
  | .arrayWindowWrite ini page off data => Sys2Proof.Machine.execArrayWindowWrite ini page off data s
  | .arpReply port sender mac => Sys2Proof.Machine.execArpReply port sender mac s
  | .senseOverload chain => Sys2Proof.Machine.execSenseOverload chain s
  | .portOutputFrame page => Sys2Proof.Machine.execPortOutputFrame page s
  | .setPointSwitchDone ns => Sys2Proof.Machine.execSetPointSwitchDone ns s
  | .bistRunDone failed => Sys2Proof.Machine.execBistRunDone failed s
  | .pcieAtomicOp bar off size op x y => Sys2Proof.Machine.execPcieAtomicOp bar off size op x y s
  | .arpRefresh port addr => Sys2Proof.Machine.execArpRefresh port addr s
  | .heartbeat beat => Sys2Proof.Machine.execHeartbeat beat s
  | .frameRecordSeal taps => Sys2Proof.Machine.execFrameRecordSeal taps s
  | .frameRecord r => Sys2Proof.Machine.execFrameRecord r s
  | .plaitMirror frame writes crcOk => Sys2Proof.Machine.execPlaitMirror frame writes crcOk s
  | .standbyReport frame crc decisions request crcOk => Sys2Proof.Machine.execStandbyReport frame crc decisions request crcOk s
  | .resyncMessage items crcOk => Sys2Proof.Machine.execResyncMessage items crcOk s
  | .guardBegin => Sys2Proof.Machine.execGuardBegin s
  | .directCutoff => Sys2Proof.Machine.execDirectCutoff s
  | .rateChangeRamp => Sys2Proof.Machine.execRateChangeRamp s
  | .rateChangeMute => Sys2Proof.Machine.execRateChangeMute s
  | .rateChangeSwitch => Sys2Proof.Machine.execRateChangeSwitch s
  | .rateChangeResume => Sys2Proof.Machine.execRateChangeResume s
  | .spiReadTimeout => Sys2Proof.Machine.execSpiReadTimeout s
  | .spiStatus => Sys2Proof.Machine.execSpiStatus s
  | .spiClear => Sys2Proof.Machine.execSpiClear s
  | .layoutBuildDone => Sys2Proof.Machine.execLayoutBuildDone s
  | .healingRebuildDone => Sys2Proof.Machine.execHealingRebuildDone s
  | .recordPost => Sys2Proof.Machine.execRecordPost s
  | .warpPostAccept => Sys2Proof.Machine.execWarpPostAccept s
  | .warpFadeDone => Sys2Proof.Machine.execWarpFadeDone s
  | .corrPrepDone => Sys2Proof.Machine.execCorrPrepDone s
  | .corrFadeDone => Sys2Proof.Machine.execCorrFadeDone s
  | .nodeDispatch => Sys2Proof.Machine.execNodeDispatch s
  | .heldReleaseEnter => Sys2Proof.Machine.execHeldReleaseEnter s
  | .submitHoldRelease => Sys2Proof.Machine.execSubmitHoldRelease s
  | .nodeActivate => Sys2Proof.Machine.execNodeActivate s
  | .nodeDeactivate => Sys2Proof.Machine.execNodeDeactivate s
  | .regulatorTimeout => Sys2Proof.Machine.execRegulatorTimeout s
  | .domainTransitionDone => Sys2Proof.Machine.execDomainTransitionDone s
  | .standbyEnter => Sys2Proof.Machine.execStandbyEnter s
  | .clockError => Sys2Proof.Machine.execClockError s
  | .clockRecovery => Sys2Proof.Machine.execClockRecovery s
  | .holdover => Sys2Proof.Machine.execHoldover s
  | .stakeSet => Sys2Proof.Machine.execStakeSet s
  | .stakeAdd => Sys2Proof.Machine.execStakeAdd s
  | .stakeSubtract => Sys2Proof.Machine.execStakeSubtract s
  | .stakeStepRequest => Sys2Proof.Machine.execStakeStepRequest s
  | .stakeStepApply => Sys2Proof.Machine.execStakeStepApply s
  | .ppsEdge => Sys2Proof.Machine.execPpsEdge s
  | .ppsLoss => Sys2Proof.Machine.execPpsLoss s
  | .routeFadeDone => Sys2Proof.Machine.execRouteFadeDone s
  | .measAbort => Sys2Proof.Machine.execMeasAbort s
  | .measClear => Sys2Proof.Machine.execMeasClear s
  | .measRunEnd => Sys2Proof.Machine.execMeasRunEnd s
  | .responseStored => Sys2Proof.Machine.execResponseStored s
  | .setPointHeldStart => Sys2Proof.Machine.execSetPointHeldStart s
  | .urgencyRaise => Sys2Proof.Machine.execUrgencyRaise s
  | .lockTimeout => Sys2Proof.Machine.execLockTimeout s
  | .porstAssert => Sys2Proof.Machine.execPorstAssert s
  | .sysrstAssert => Sys2Proof.Machine.execSysrstAssert s
  | .selftestWindowHeld => Sys2Proof.Machine.execSelftestWindowHeld s
  | .hostLoadTimeout => Sys2Proof.Machine.execHostLoadTimeout s
  | .shutdownPin => Sys2Proof.Machine.execShutdownPin s
  | .shutdownCommand => Sys2Proof.Machine.execShutdownCommand s
  | .otpRead => Sys2Proof.Machine.execOtpRead s
  | .otpProgram => Sys2Proof.Machine.execOtpProgram s
  | .otpOperationDone => Sys2Proof.Machine.execOtpOperationDone s
  | .recordErase => Sys2Proof.Machine.execRecordErase s
  | .sliceAbandon => Sys2Proof.Machine.execSliceAbandon s
  | .coverageLapse => Sys2Proof.Machine.execCoverageLapse s
  | .heartbeatLoss => Sys2Proof.Machine.execHeartbeatLoss s
  | .hoopLinkChange => Sys2Proof.Machine.execHoopLinkChange s
  | .claimTimeout => Sys2Proof.Machine.execClaimTimeout s
  | .secondaryClaimTimeout => Sys2Proof.Machine.execSecondaryClaimTimeout s
  | .yield => Sys2Proof.Machine.execYield s
  | .rejoinCommand => Sys2Proof.Machine.execRejoinCommand s
  | .revertRequest => Sys2Proof.Machine.execRevertRequest s
  | .revertHoldExpiry => Sys2Proof.Machine.execRevertHoldExpiry s
  | .collectorMismatch => Sys2Proof.Machine.execCollectorMismatch s
  | .freezePin => Sys2Proof.Machine.execFreezePin s
  | .freezeCommand => Sys2Proof.Machine.execFreezeCommand s
  | .freezeRelease => Sys2Proof.Machine.execFreezeRelease s
  | .freezeLimitExpiry => Sys2Proof.Machine.execFreezeLimitExpiry s
  | .sanData => Sys2Proof.Machine.execSanData s
  | .sanRelease => Sys2Proof.Machine.execSanRelease s
  | .sanStatus => Sys2Proof.Machine.execSanStatus s
  | .idcode => Sys2Proof.Machine.execIdcode s
  | .clamp => Sys2Proof.Machine.execClamp s
  | .highz => Sys2Proof.Machine.execHighz s
  | .bypass => Sys2Proof.Machine.execBypass s
  | .tapReset => Sys2Proof.Machine.execTapReset s
  | .pcieLinkDown => Sys2Proof.Machine.execPcieLinkDown s
  | .gmHoldoverLimit => Sys2Proof.Machine.execGmHoldoverLimit s

end Sys2Proof.Machine
end

