-- ==== Sys2Proof/Machine/Idle.lean ====
section
/-!
DEFINITION. What the block does on its own while no command waits: its clock counts, its cores issue the bundles of their instruction
memories, and its controllers serve what is queued.
-/
namespace Sys2Proof.Machine

/-- A tick of the counter, which stops short of a frame tick that is due: that tick comes as its command (R20, R377).
[DESIGN CHOICE, unsafe: log entry 1] -/
def Idle.clock (s : State) : State :=
  if s.clk.ticking ∧ s.nextTickAt ≤ s.clk.stake + s.clk.inc then s else s.counterTick

/-- The engines' own progress: one bundle of every core that holds a node (R228), one request of every DRAM channel (R470), and the
bursts that wait at the Weave's targets (R493). [DESIGN CHOICE, unsafe: log entry 1] -/
def Idle.engines (s : State) : State := Weave.drain (Memc.drain (Osier.runAll s))

/-- The step on an empty queue; a device in reset, standby or freeze stands still. [DESIGN CHOICE, unsafe: log entry 1] -/
def State.idle (s : State) : Res := if s.running then s.force (fun t => Idle.engines (Idle.clock t)) else .next s

end Sys2Proof.Machine
end

