-- ==== Sys2Proof/Safety.lean ====
section
/-!
DEFINITION. What the statements say a good state is: tables in canonical form, a device in which nothing follows a command by
itself, and the frame of a command that writes registers only.
-/
namespace Sys2Proof.Machine

/-- Memory in its canonical form: addresses strictly rising, and no byte listed that reads as an unlisted one does. -/
def Memory.wf (m : List Host.Cell) : Bool := Tab.wf memDefault m

/-- Registers, effective copies and memory in canonical form. -/
def State.wf (s : State) : Bool :=
  Tab.wf (regReset s.variant) s.regs && Tab.wf (regReset s.variant) s.eff && Memory.wf s.mem

/-- Every bank of every core holds a node that the Coil runs there, or none. [DEDUCED, unsafe: log entry 60] -/
def Osier.synced (s : State) : Bool :=
  (Tab.keys s.osier.cores).all (fun k =>
    !Osier.gone s k (Osier.core s k).b1 true && !Osier.gone s k (Osier.core s k).b0 false)

/-- Nothing that the device does by itself is due: no direct path in progress, no node to clear from a core, no rise of the submission
credit, no PTP port to start or stop, no steering of holdover, no Stake step, shutdown, freeze request or waiting release, and no open
plait on a standby. -/
def State.calm (s : State) : Bool :=
  (s.clk.phase != 0 || !s.clk.ticking) && Osier.synced s && s.coil.noCredit == decide (Coil.credit s = 0) &&
  ([0, 1].all (fun p => Ptp.enabled s p != ((Ptp.port s p).state == 3))) &&
  (s.stake.servo != 3 || s.stake.holdI.all (fun i => s.clk.incr == i)) &&
  s.stake.stepStage == 0 && s.stake.stepWait.isNone && s.boot.phase != 9 && s.fault.freezeReq.isNone && s.fault.releaseWait != 2 &&
  (!s.isStandby || Plait.slots.all (fun k => (Plait.slot s k).state != .open || (Plait.slot s k).owner == 11))

/-- The end of a command that leads from `s` to a calm state `t` and makes no Stake step: interrupt messages go out. -/
def State.sealed (s t : State) : State := { Irq.send t with pending := s.pending }

/-- What every step keeps: the canonical forms, no freeze request left over, and a message sent for every vector that is pending and
not masked (R59, R570). -/
def State.settled (s : State) : Bool :=
  s.wf && s.fault.freezeReq.isNone && s.ctl.vecPend == s.unmasked s.vectors

/-- The staging copies of a page, as a commit snapshots them (R51). -/
def State.staging (s : State) (p : Nat) : List (Nat × Word) :=
  (Page.stagedOffsets p).map (fun o => (o, s.rd (p * 0x1000 + o)))

/-- The command `c` answers a next state: the end of the command on a state `t`, to which its own effect leads and of which `P`
holds. -/
def Completes (c : Instr) (s : State) (P : State → Prop) : Prop := ∃ t, exec c s = .next (State.close s t) ∧ P t

/-- The commands that act on a device in reset, standby or freeze too, or that such a device holds for later. -/
def actsWhileHeld : Instr → Bool
  | .wakeSpi .. | .wakeGpio .. | .standbyTimerExpiry .. | .porstAssert | .sysrstAssert | .resetRelease .. | .shutdownPin | .freezePin
  | .freezeRelease | .freezeLimitExpiry | .sanAddr .. | .sanData | .sanRelease | .sanStatus | .extest .. | .samplePreload ..
  | .idcode | .clamp | .highz | .bypass | .tapReset => true
  | _ => false

/-- The bank of core `k` in `t` that ran in `s`. [DESIGN CHOICE, unsafe: log entry 62] -/
def Osier.ranBank (s t : State) (k : Nat) : Bank := if (Osier.core s k).inBank1 then (Osier.core t k).b1 else (Osier.core t k).b0

/-- Core `k` issues the bundle `i` with the registers that bank `b` shows: it runs a node that has neither executed DONE nor reached a
Direct node's declared cost, the bundle is legal where it stands, its moves stay in the bank's range, nothing it waits for is
outstanding, and no injected or reported error strikes it (R225, R228, R251, R252, R259 to R263). -/
def Osier.ready (s : State) (k : Nat) (i : Bundle) (b : Bank) : Prop :=
  let c := Osier.core s k
  s.pageUp (Osier.pageOf k) = true ∧ c.active.node.isSome = true ∧ c.active.done = none ∧
  (c.inBank1 = true → c.b1.issued < c.b1.cost) ∧ b = c.active.settle ∧ i.legal b = true ∧
  ¬ (b.issued = 0 ∧ 0xC00 ≤ b.pc ∧ b.node.getD 0 < 7168) ∧
  ((i.op = 0x60 ∨ i.op = 0x61) → c.inBank1 = true) ∧ ((i.op = 0x62 ∨ i.op = 0x63) → c.inBank1 = false ∧ c.xfers.length < 8) ∧
  (c.inBank1 = false → i.ctl / 256 = 3 → c.xfers.length ≤ i.ctl % 8) ∧
  (c.inBank1 = false → i.ctl / 256 = 3 ∨ i.ctl / 256 = 4 → c.xferErr = false) ∧
  (Move.ofNat i.x).inRegion c.inBank1 (b.af (Move.ofNat i.x).areg 0) = true ∧
  (Move.ofNat i.y).inRegion c.inBank1 (b.af (4 + (Move.ofNat i.y).areg) 0) = true ∧
  ((i.op = 0x62 ∨ i.op = 0x63) → (Osier.xferOf i b s).badRange = false) ∧
  ((Move.ofNat i.x).isLoad = true → c.injParity = false) ∧ (i.multiplies = true → c.injResidue = false)

/-- After the bundle `i`, which is not DONE, the bank is `b` with control moved as `Osier.flow` says, one more bundle issued, no stall,
and behind its write-backs those of `l`, with their latencies, then those of the other slots, of which an empty slot makes none; a
bundle without moves and control operation leaves memory as it was. -/
def Osier.ran (s t : State) (k : Nat) (i : Bundle) (b : Bank) (l : List OW) : Prop :=
  ∃ rest held, Osier.ranBank s t k = { Osier.flow i b with
      wbs := b.wbs ++ (l ++ rest).map (fun w => { due := b.issued + w.2.2, issue := b.issued, dest := w.1, val := w.2.1 })
      issued := b.issued + 1, stall := none, stalled := held } ∧
    (i.x = 0 → i.y = 0 → i.ctl = 0 → rest = [] ∧ t.mem = s.mem)

/-- The compute row `c` of opcode `op` with slots `f` runs with the results `l`. -/
def Osier.runs (s : State) (k : Nat) (f : Slots) (b : Bank) (op : Nat) (c : Instr) (l : List OW) : Prop :=
  Osier.ready s k (Operands.bundle op f) b → f.ctl.toNat / 256 ≠ 4 → (Osier.flow (Operands.bundle op f) b).pc < 4096 →
  Completes c s (fun t => Osier.ran s t k (Operands.bundle op f) b l)

/-- From `s` to `u` nothing has changed but the registers that `l` lists, the interrupt messages, and what the last command sent,
which every command clears: every other register, every effective copy, every byte of memory and every field of every unit is as it
was. -/
def State.regsOnly (s u : State) (l : List Nat) : Prop :=
  (∀ a, a ∉ l → u.rd a = s.rd a) ∧ (∀ a, u.ef a = s.ef a) ∧ (∀ a, u.ld8 a = s.ld8 a) ∧
  u = { s.begin with regs := u.regs, ctl := { s.begin.ctl with msix := u.ctl.msix, vecPend := u.ctl.vecPend } }

/-- From `s` to `t` only registers, the Coil's own state, fault records and the tiers to be stepped have changed: every effective copy,
every byte of memory and every other unit is as it was. -/
def State.coilOnly (s t : State) : Prop :=
  t = { s with regs := t.regs, coil := t.coil, fault := t.fault, budget := { s.budget with steps := t.budget.steps } }

/-- A channel for which a start is called for may start: no three-level channel with V_nom zero (R308, R311). -/
def Pstg.mayStart (s : State) (c : Nat) : Prop :=
  Pstg.wants s c = true ∧ ¬(Pstg.cfgMode s c = 1 ∧ s.efF (Reg.pstgGrpRail (c / 8)) 15 0 = 0)

/-- The channel `x` at rest: Off, with nothing under way (R290). -/
def PsCh.resting (x : PsCh) : PsCh :=
  { x with state := 0, startDue := none, stopTo := 0, ramp := {}, locked := false, lockRun := 0, outRun := 0, farRun := 0 }

/-- The channel `x` with a recheck begun that ends at `e`, under the settings in force (R305). -/
def Pstg.rechecking (s : State) (c e : Nat) (x : PsCh) : PsCh :=
  { x with
    state := 3, recheckEnd := e, mode := Pstg.cfgMode s c, early := Pstg.cfgEarly s c, dead := Pstg.cfgDead s c
    lowLat := Pstg.cfgLowLat s c, vfs := Ramp.const (Pstg.cfgVfs s c : Nat), ramp := {}, redo := false
    tries := if x.redo then x.tries else x.tries + 1, ocRun := 0, mod := x.mod.started (Pstg.cfgMode s c == 2) }

/-- The channel `x` after an over-current in the switching cycle `k`, the `run`th of a run of cycles (R304). -/
def Pstg.limited (s : State) (c : Nat) (x : PsCh) (k run : Nat) : PsCh :=
  let t := ((s.clk.mono - x.mod.since) * Pstg.edgeRate s.clk.rate) / (1000000000 * nsU)
  let g := Tab.get (fun _ => ({} : Carrier)) s.pstg.carr (c / 8)
  { x with
    oc := satU 16 (x.oc + (if 0 < x.ocRun ∧ k = x.ocCycle then 0 else 1)), ocCycle := k, ocRun := run
    mod := x.limitCurrent t (g.look (c % 8) (x.mod.base + t)).2.2 (Pstg.nsSteps s.clk.rate x.dead) (Pstg.nsSteps s.clk.rate 40) }

/-- The PTP message of `kind` that port `p` sends to `dst` (R386, R387). -/
def Ptp.message (s : State) (p kind dst : Nat) (fields : List Nat) : Sent :=
  { port := p, kind := kind, vlan := Net.vlanTag s p, dst := dst, dport := if kind = 1 ∨ kind = 3 then 319 else 320
    dscp := s.efF (Reg.netCfg p) 29 24, domain := Ptp.domain s, ident := Ptp.ident s p, fields := fields }

/-- The frame of `kind` that port `p` originates (R401, R403). -/
def Net.ownFrame (s : State) (p kind : Nat) (fields : List Nat) : Sent :=
  { port := p, kind := kind, vlan := Net.vlanTag s p, fields := fields }

end Sys2Proof.Machine
end

