-- ==== Sys2Proof/Laws/State.lean ====
section
/-!
SUPPORT. One lemma per field of State and per basic update: which fields the update leaves as they are. No later proof unfolds a
record update for them.
-/
namespace Sys2Proof.Machine

@[simp] theorem State.wr_variant (s : State) (a : Nat) (v : Word) : (s.wr a v).variant = s.variant := rfl
@[simp] theorem State.wr_eff (s : State) (a : Nat) (v : Word) : (s.wr a v).eff = s.eff := rfl
@[simp] theorem State.wr_mem (s : State) (a : Nat) (v : Word) : (s.wr a v).mem = s.mem := rfl
@[simp] theorem State.wr_clk (s : State) (a : Nat) (v : Word) : (s.wr a v).clk = s.clk := rfl
@[simp] theorem State.wr_ctl (s : State) (a : Nat) (v : Word) : (s.wr a v).ctl = s.ctl := rfl
@[simp] theorem State.wr_plait (s : State) (a : Nat) (v : Word) : (s.wr a v).plait = s.plait := rfl
@[simp] theorem State.wr_fault (s : State) (a : Nat) (v : Word) : (s.wr a v).fault = s.fault := rfl
@[simp] theorem State.wr_boot (s : State) (a : Nat) (v : Word) : (s.wr a v).boot = s.boot := rfl
@[simp] theorem State.wr_bist (s : State) (a : Nat) (v : Word) : (s.wr a v).bist = s.bist := rfl
@[simp] theorem State.wr_budget (s : State) (a : Nat) (v : Word) : (s.wr a v).budget = s.budget := rfl
@[simp] theorem State.wr_jtag (s : State) (a : Nat) (v : Word) : (s.wr a v).jtag = s.jtag := rfl
@[simp] theorem State.wr_scene (s : State) (a : Nat) (v : Word) : (s.wr a v).scene = s.scene := rfl
@[simp] theorem State.wr_obj (s : State) (a : Nat) (v : Word) : (s.wr a v).obj = s.obj := rfl
@[simp] theorem State.wr_warp (s : State) (a : Nat) (v : Word) : (s.wr a v).warp = s.warp := rfl
@[simp] theorem State.wr_corr (s : State) (a : Nat) (v : Word) : (s.wr a v).corr = s.corr := rfl
@[simp] theorem State.wr_coil (s : State) (a : Nat) (v : Word) : (s.wr a v).coil = s.coil := rfl
@[simp] theorem State.wr_osier (s : State) (a : Nat) (v : Word) : (s.wr a v).osier = s.osier := rfl
@[simp] theorem State.wr_pstg (s : State) (a : Nat) (v : Word) : (s.wr a v).pstg = s.pstg := rfl
@[simp] theorem State.wr_lsup (s : State) (a : Nat) (v : Word) : (s.wr a v).lsup = s.lsup := rfl
@[simp] theorem State.wr_port (s : State) (a : Nat) (v : Word) : (s.wr a v).port = s.port := rfl
@[simp] theorem State.wr_stake (s : State) (a : Nat) (v : Word) : (s.wr a v).stake = s.stake := rfl
@[simp] theorem State.wr_net (s : State) (a : Nat) (v : Word) : (s.wr a v).net = s.net := rfl
@[simp] theorem State.wr_stream (s : State) (a : Nat) (v : Word) : (s.wr a v).stream = s.stream := rfl
@[simp] theorem State.wr_route (s : State) (a : Nat) (v : Word) : (s.wr a v).route = s.route := rfl
@[simp] theorem State.wr_meter (s : State) (a : Nat) (v : Word) : (s.wr a v).meter = s.meter := rfl
@[simp] theorem State.wr_capt (s : State) (a : Nat) (v : Word) : (s.wr a v).capt = s.capt := rfl
@[simp] theorem State.wr_meas (s : State) (a : Nat) (v : Word) : (s.wr a v).meas = s.meas := rfl
@[simp] theorem State.wr_hoop (s : State) (a : Nat) (v : Word) : (s.wr a v).hoop = s.hoop := rfl
@[simp] theorem State.wr_memc (s : State) (a : Nat) (v : Word) : (s.wr a v).memc = s.memc := rfl
@[simp] theorem State.wr_weave (s : State) (a : Nat) (v : Word) : (s.wr a v).weave = s.weave := rfl
@[simp] theorem State.wr_freeCtr (s : State) (a : Nat) (v : Word) : (s.wr a v).freeCtr = s.freeCtr := rfl
@[simp] theorem State.wr_pending (s : State) (a : Nat) (v : Word) : (s.wr a v).pending = s.pending := rfl

@[simp] theorem State.we_variant (s : State) (a : Nat) (v : Word) : (s.we a v).variant = s.variant := rfl
@[simp] theorem State.we_regs (s : State) (a : Nat) (v : Word) : (s.we a v).regs = s.regs := rfl
@[simp] theorem State.we_mem (s : State) (a : Nat) (v : Word) : (s.we a v).mem = s.mem := rfl
@[simp] theorem State.we_clk (s : State) (a : Nat) (v : Word) : (s.we a v).clk = s.clk := rfl
@[simp] theorem State.we_ctl (s : State) (a : Nat) (v : Word) : (s.we a v).ctl = s.ctl := rfl
@[simp] theorem State.we_plait (s : State) (a : Nat) (v : Word) : (s.we a v).plait = s.plait := rfl
@[simp] theorem State.we_fault (s : State) (a : Nat) (v : Word) : (s.we a v).fault = s.fault := rfl
@[simp] theorem State.we_boot (s : State) (a : Nat) (v : Word) : (s.we a v).boot = s.boot := rfl
@[simp] theorem State.we_bist (s : State) (a : Nat) (v : Word) : (s.we a v).bist = s.bist := rfl
@[simp] theorem State.we_budget (s : State) (a : Nat) (v : Word) : (s.we a v).budget = s.budget := rfl
@[simp] theorem State.we_jtag (s : State) (a : Nat) (v : Word) : (s.we a v).jtag = s.jtag := rfl
@[simp] theorem State.we_scene (s : State) (a : Nat) (v : Word) : (s.we a v).scene = s.scene := rfl
@[simp] theorem State.we_obj (s : State) (a : Nat) (v : Word) : (s.we a v).obj = s.obj := rfl
@[simp] theorem State.we_warp (s : State) (a : Nat) (v : Word) : (s.we a v).warp = s.warp := rfl
@[simp] theorem State.we_corr (s : State) (a : Nat) (v : Word) : (s.we a v).corr = s.corr := rfl
@[simp] theorem State.we_coil (s : State) (a : Nat) (v : Word) : (s.we a v).coil = s.coil := rfl
@[simp] theorem State.we_osier (s : State) (a : Nat) (v : Word) : (s.we a v).osier = s.osier := rfl
@[simp] theorem State.we_pstg (s : State) (a : Nat) (v : Word) : (s.we a v).pstg = s.pstg := rfl
@[simp] theorem State.we_lsup (s : State) (a : Nat) (v : Word) : (s.we a v).lsup = s.lsup := rfl
@[simp] theorem State.we_port (s : State) (a : Nat) (v : Word) : (s.we a v).port = s.port := rfl
@[simp] theorem State.we_stake (s : State) (a : Nat) (v : Word) : (s.we a v).stake = s.stake := rfl
@[simp] theorem State.we_net (s : State) (a : Nat) (v : Word) : (s.we a v).net = s.net := rfl
@[simp] theorem State.we_stream (s : State) (a : Nat) (v : Word) : (s.we a v).stream = s.stream := rfl
@[simp] theorem State.we_route (s : State) (a : Nat) (v : Word) : (s.we a v).route = s.route := rfl
@[simp] theorem State.we_meter (s : State) (a : Nat) (v : Word) : (s.we a v).meter = s.meter := rfl
@[simp] theorem State.we_capt (s : State) (a : Nat) (v : Word) : (s.we a v).capt = s.capt := rfl
@[simp] theorem State.we_meas (s : State) (a : Nat) (v : Word) : (s.we a v).meas = s.meas := rfl
@[simp] theorem State.we_hoop (s : State) (a : Nat) (v : Word) : (s.we a v).hoop = s.hoop := rfl
@[simp] theorem State.we_memc (s : State) (a : Nat) (v : Word) : (s.we a v).memc = s.memc := rfl
@[simp] theorem State.we_weave (s : State) (a : Nat) (v : Word) : (s.we a v).weave = s.weave := rfl
@[simp] theorem State.we_freeCtr (s : State) (a : Nat) (v : Word) : (s.we a v).freeCtr = s.freeCtr := rfl
@[simp] theorem State.we_pending (s : State) (a : Nat) (v : Word) : (s.we a v).pending = s.pending := rfl

@[simp] theorem State.st8_variant (s : State) (a : Nat) (b : Byte) : (s.st8 a b).variant = s.variant := rfl
@[simp] theorem State.st8_regs (s : State) (a : Nat) (b : Byte) : (s.st8 a b).regs = s.regs := rfl
@[simp] theorem State.st8_eff (s : State) (a : Nat) (b : Byte) : (s.st8 a b).eff = s.eff := rfl
@[simp] theorem State.st8_clk (s : State) (a : Nat) (b : Byte) : (s.st8 a b).clk = s.clk := rfl
@[simp] theorem State.st8_ctl (s : State) (a : Nat) (b : Byte) : (s.st8 a b).ctl = s.ctl := rfl
@[simp] theorem State.st8_plait (s : State) (a : Nat) (b : Byte) : (s.st8 a b).plait = s.plait := rfl
@[simp] theorem State.st8_fault (s : State) (a : Nat) (b : Byte) : (s.st8 a b).fault = s.fault := rfl
@[simp] theorem State.st8_boot (s : State) (a : Nat) (b : Byte) : (s.st8 a b).boot = s.boot := rfl
@[simp] theorem State.st8_bist (s : State) (a : Nat) (b : Byte) : (s.st8 a b).bist = s.bist := rfl
@[simp] theorem State.st8_budget (s : State) (a : Nat) (b : Byte) : (s.st8 a b).budget = s.budget := rfl
@[simp] theorem State.st8_jtag (s : State) (a : Nat) (b : Byte) : (s.st8 a b).jtag = s.jtag := rfl
@[simp] theorem State.st8_scene (s : State) (a : Nat) (b : Byte) : (s.st8 a b).scene = s.scene := rfl
@[simp] theorem State.st8_obj (s : State) (a : Nat) (b : Byte) : (s.st8 a b).obj = s.obj := rfl
@[simp] theorem State.st8_warp (s : State) (a : Nat) (b : Byte) : (s.st8 a b).warp = s.warp := rfl
@[simp] theorem State.st8_corr (s : State) (a : Nat) (b : Byte) : (s.st8 a b).corr = s.corr := rfl
@[simp] theorem State.st8_coil (s : State) (a : Nat) (b : Byte) : (s.st8 a b).coil = s.coil := rfl
@[simp] theorem State.st8_osier (s : State) (a : Nat) (b : Byte) : (s.st8 a b).osier = s.osier := rfl
@[simp] theorem State.st8_pstg (s : State) (a : Nat) (b : Byte) : (s.st8 a b).pstg = s.pstg := rfl
@[simp] theorem State.st8_lsup (s : State) (a : Nat) (b : Byte) : (s.st8 a b).lsup = s.lsup := rfl
@[simp] theorem State.st8_port (s : State) (a : Nat) (b : Byte) : (s.st8 a b).port = s.port := rfl
@[simp] theorem State.st8_stake (s : State) (a : Nat) (b : Byte) : (s.st8 a b).stake = s.stake := rfl
@[simp] theorem State.st8_net (s : State) (a : Nat) (b : Byte) : (s.st8 a b).net = s.net := rfl
@[simp] theorem State.st8_stream (s : State) (a : Nat) (b : Byte) : (s.st8 a b).stream = s.stream := rfl
@[simp] theorem State.st8_route (s : State) (a : Nat) (b : Byte) : (s.st8 a b).route = s.route := rfl
@[simp] theorem State.st8_meter (s : State) (a : Nat) (b : Byte) : (s.st8 a b).meter = s.meter := rfl
@[simp] theorem State.st8_capt (s : State) (a : Nat) (b : Byte) : (s.st8 a b).capt = s.capt := rfl
@[simp] theorem State.st8_meas (s : State) (a : Nat) (b : Byte) : (s.st8 a b).meas = s.meas := rfl
@[simp] theorem State.st8_hoop (s : State) (a : Nat) (b : Byte) : (s.st8 a b).hoop = s.hoop := rfl
@[simp] theorem State.st8_memc (s : State) (a : Nat) (b : Byte) : (s.st8 a b).memc = s.memc := rfl
@[simp] theorem State.st8_weave (s : State) (a : Nat) (b : Byte) : (s.st8 a b).weave = s.weave := rfl
@[simp] theorem State.st8_freeCtr (s : State) (a : Nat) (b : Byte) : (s.st8 a b).freeCtr = s.freeCtr := rfl
@[simp] theorem State.st8_pending (s : State) (a : Nat) (b : Byte) : (s.st8 a b).pending = s.pending := rfl

@[simp] theorem State.wrF_variant (s : State) (a hi lo v : Nat) : (s.wrF a hi lo v).variant = s.variant := rfl
@[simp] theorem State.wrF_eff (s : State) (a hi lo v : Nat) : (s.wrF a hi lo v).eff = s.eff := rfl
@[simp] theorem State.wrF_mem (s : State) (a hi lo v : Nat) : (s.wrF a hi lo v).mem = s.mem := rfl
@[simp] theorem State.wrF_clk (s : State) (a hi lo v : Nat) : (s.wrF a hi lo v).clk = s.clk := rfl
@[simp] theorem State.wrF_ctl (s : State) (a hi lo v : Nat) : (s.wrF a hi lo v).ctl = s.ctl := rfl
@[simp] theorem State.wrF_plait (s : State) (a hi lo v : Nat) : (s.wrF a hi lo v).plait = s.plait := rfl
@[simp] theorem State.wrF_fault (s : State) (a hi lo v : Nat) : (s.wrF a hi lo v).fault = s.fault := rfl
@[simp] theorem State.wrF_boot (s : State) (a hi lo v : Nat) : (s.wrF a hi lo v).boot = s.boot := rfl
@[simp] theorem State.wrF_bist (s : State) (a hi lo v : Nat) : (s.wrF a hi lo v).bist = s.bist := rfl
@[simp] theorem State.wrF_budget (s : State) (a hi lo v : Nat) : (s.wrF a hi lo v).budget = s.budget := rfl
@[simp] theorem State.wrF_jtag (s : State) (a hi lo v : Nat) : (s.wrF a hi lo v).jtag = s.jtag := rfl
@[simp] theorem State.wrF_scene (s : State) (a hi lo v : Nat) : (s.wrF a hi lo v).scene = s.scene := rfl
@[simp] theorem State.wrF_obj (s : State) (a hi lo v : Nat) : (s.wrF a hi lo v).obj = s.obj := rfl
@[simp] theorem State.wrF_warp (s : State) (a hi lo v : Nat) : (s.wrF a hi lo v).warp = s.warp := rfl
@[simp] theorem State.wrF_corr (s : State) (a hi lo v : Nat) : (s.wrF a hi lo v).corr = s.corr := rfl
@[simp] theorem State.wrF_coil (s : State) (a hi lo v : Nat) : (s.wrF a hi lo v).coil = s.coil := rfl
@[simp] theorem State.wrF_osier (s : State) (a hi lo v : Nat) : (s.wrF a hi lo v).osier = s.osier := rfl
@[simp] theorem State.wrF_pstg (s : State) (a hi lo v : Nat) : (s.wrF a hi lo v).pstg = s.pstg := rfl
@[simp] theorem State.wrF_lsup (s : State) (a hi lo v : Nat) : (s.wrF a hi lo v).lsup = s.lsup := rfl
@[simp] theorem State.wrF_port (s : State) (a hi lo v : Nat) : (s.wrF a hi lo v).port = s.port := rfl
@[simp] theorem State.wrF_stake (s : State) (a hi lo v : Nat) : (s.wrF a hi lo v).stake = s.stake := rfl
@[simp] theorem State.wrF_net (s : State) (a hi lo v : Nat) : (s.wrF a hi lo v).net = s.net := rfl
@[simp] theorem State.wrF_stream (s : State) (a hi lo v : Nat) : (s.wrF a hi lo v).stream = s.stream := rfl
@[simp] theorem State.wrF_route (s : State) (a hi lo v : Nat) : (s.wrF a hi lo v).route = s.route := rfl
@[simp] theorem State.wrF_meter (s : State) (a hi lo v : Nat) : (s.wrF a hi lo v).meter = s.meter := rfl
@[simp] theorem State.wrF_capt (s : State) (a hi lo v : Nat) : (s.wrF a hi lo v).capt = s.capt := rfl
@[simp] theorem State.wrF_meas (s : State) (a hi lo v : Nat) : (s.wrF a hi lo v).meas = s.meas := rfl
@[simp] theorem State.wrF_hoop (s : State) (a hi lo v : Nat) : (s.wrF a hi lo v).hoop = s.hoop := rfl
@[simp] theorem State.wrF_memc (s : State) (a hi lo v : Nat) : (s.wrF a hi lo v).memc = s.memc := rfl
@[simp] theorem State.wrF_weave (s : State) (a hi lo v : Nat) : (s.wrF a hi lo v).weave = s.weave := rfl
@[simp] theorem State.wrF_freeCtr (s : State) (a hi lo v : Nat) : (s.wrF a hi lo v).freeCtr = s.freeCtr := rfl
@[simp] theorem State.wrF_pending (s : State) (a hi lo v : Nat) : (s.wrF a hi lo v).pending = s.pending := rfl

@[simp] theorem State.wr64_variant (s : State) (lo hi n : Nat) : (s.wr64 lo hi n).variant = s.variant := rfl
@[simp] theorem State.wr64_eff (s : State) (lo hi n : Nat) : (s.wr64 lo hi n).eff = s.eff := rfl
@[simp] theorem State.wr64_mem (s : State) (lo hi n : Nat) : (s.wr64 lo hi n).mem = s.mem := rfl
@[simp] theorem State.wr64_clk (s : State) (lo hi n : Nat) : (s.wr64 lo hi n).clk = s.clk := rfl
@[simp] theorem State.wr64_ctl (s : State) (lo hi n : Nat) : (s.wr64 lo hi n).ctl = s.ctl := rfl
@[simp] theorem State.wr64_plait (s : State) (lo hi n : Nat) : (s.wr64 lo hi n).plait = s.plait := rfl
@[simp] theorem State.wr64_fault (s : State) (lo hi n : Nat) : (s.wr64 lo hi n).fault = s.fault := rfl
@[simp] theorem State.wr64_boot (s : State) (lo hi n : Nat) : (s.wr64 lo hi n).boot = s.boot := rfl
@[simp] theorem State.wr64_bist (s : State) (lo hi n : Nat) : (s.wr64 lo hi n).bist = s.bist := rfl
@[simp] theorem State.wr64_budget (s : State) (lo hi n : Nat) : (s.wr64 lo hi n).budget = s.budget := rfl
@[simp] theorem State.wr64_jtag (s : State) (lo hi n : Nat) : (s.wr64 lo hi n).jtag = s.jtag := rfl
@[simp] theorem State.wr64_scene (s : State) (lo hi n : Nat) : (s.wr64 lo hi n).scene = s.scene := rfl
@[simp] theorem State.wr64_obj (s : State) (lo hi n : Nat) : (s.wr64 lo hi n).obj = s.obj := rfl
@[simp] theorem State.wr64_warp (s : State) (lo hi n : Nat) : (s.wr64 lo hi n).warp = s.warp := rfl
@[simp] theorem State.wr64_corr (s : State) (lo hi n : Nat) : (s.wr64 lo hi n).corr = s.corr := rfl
@[simp] theorem State.wr64_coil (s : State) (lo hi n : Nat) : (s.wr64 lo hi n).coil = s.coil := rfl
@[simp] theorem State.wr64_osier (s : State) (lo hi n : Nat) : (s.wr64 lo hi n).osier = s.osier := rfl
@[simp] theorem State.wr64_pstg (s : State) (lo hi n : Nat) : (s.wr64 lo hi n).pstg = s.pstg := rfl
@[simp] theorem State.wr64_lsup (s : State) (lo hi n : Nat) : (s.wr64 lo hi n).lsup = s.lsup := rfl
@[simp] theorem State.wr64_port (s : State) (lo hi n : Nat) : (s.wr64 lo hi n).port = s.port := rfl
@[simp] theorem State.wr64_stake (s : State) (lo hi n : Nat) : (s.wr64 lo hi n).stake = s.stake := rfl
@[simp] theorem State.wr64_net (s : State) (lo hi n : Nat) : (s.wr64 lo hi n).net = s.net := rfl
@[simp] theorem State.wr64_stream (s : State) (lo hi n : Nat) : (s.wr64 lo hi n).stream = s.stream := rfl
@[simp] theorem State.wr64_route (s : State) (lo hi n : Nat) : (s.wr64 lo hi n).route = s.route := rfl
@[simp] theorem State.wr64_meter (s : State) (lo hi n : Nat) : (s.wr64 lo hi n).meter = s.meter := rfl
@[simp] theorem State.wr64_capt (s : State) (lo hi n : Nat) : (s.wr64 lo hi n).capt = s.capt := rfl
@[simp] theorem State.wr64_meas (s : State) (lo hi n : Nat) : (s.wr64 lo hi n).meas = s.meas := rfl
@[simp] theorem State.wr64_hoop (s : State) (lo hi n : Nat) : (s.wr64 lo hi n).hoop = s.hoop := rfl
@[simp] theorem State.wr64_memc (s : State) (lo hi n : Nat) : (s.wr64 lo hi n).memc = s.memc := rfl
@[simp] theorem State.wr64_weave (s : State) (lo hi n : Nat) : (s.wr64 lo hi n).weave = s.weave := rfl
@[simp] theorem State.wr64_freeCtr (s : State) (lo hi n : Nat) : (s.wr64 lo hi n).freeCtr = s.freeCtr := rfl
@[simp] theorem State.wr64_pending (s : State) (lo hi n : Nat) : (s.wr64 lo hi n).pending = s.pending := rfl

@[simp] theorem State.wrBoth_variant (s : State) (a : Nat) (v : Word) : (s.wrBoth a v).variant = s.variant := rfl
@[simp] theorem State.wrBoth_mem (s : State) (a : Nat) (v : Word) : (s.wrBoth a v).mem = s.mem := rfl
@[simp] theorem State.wrBoth_clk (s : State) (a : Nat) (v : Word) : (s.wrBoth a v).clk = s.clk := rfl
@[simp] theorem State.wrBoth_ctl (s : State) (a : Nat) (v : Word) : (s.wrBoth a v).ctl = s.ctl := rfl
@[simp] theorem State.wrBoth_plait (s : State) (a : Nat) (v : Word) : (s.wrBoth a v).plait = s.plait := rfl
@[simp] theorem State.wrBoth_fault (s : State) (a : Nat) (v : Word) : (s.wrBoth a v).fault = s.fault := rfl
@[simp] theorem State.wrBoth_boot (s : State) (a : Nat) (v : Word) : (s.wrBoth a v).boot = s.boot := rfl
@[simp] theorem State.wrBoth_bist (s : State) (a : Nat) (v : Word) : (s.wrBoth a v).bist = s.bist := rfl
@[simp] theorem State.wrBoth_budget (s : State) (a : Nat) (v : Word) : (s.wrBoth a v).budget = s.budget := rfl
@[simp] theorem State.wrBoth_jtag (s : State) (a : Nat) (v : Word) : (s.wrBoth a v).jtag = s.jtag := rfl
@[simp] theorem State.wrBoth_scene (s : State) (a : Nat) (v : Word) : (s.wrBoth a v).scene = s.scene := rfl
@[simp] theorem State.wrBoth_obj (s : State) (a : Nat) (v : Word) : (s.wrBoth a v).obj = s.obj := rfl
@[simp] theorem State.wrBoth_warp (s : State) (a : Nat) (v : Word) : (s.wrBoth a v).warp = s.warp := rfl
@[simp] theorem State.wrBoth_corr (s : State) (a : Nat) (v : Word) : (s.wrBoth a v).corr = s.corr := rfl
@[simp] theorem State.wrBoth_coil (s : State) (a : Nat) (v : Word) : (s.wrBoth a v).coil = s.coil := rfl
@[simp] theorem State.wrBoth_osier (s : State) (a : Nat) (v : Word) : (s.wrBoth a v).osier = s.osier := rfl
@[simp] theorem State.wrBoth_pstg (s : State) (a : Nat) (v : Word) : (s.wrBoth a v).pstg = s.pstg := rfl
@[simp] theorem State.wrBoth_lsup (s : State) (a : Nat) (v : Word) : (s.wrBoth a v).lsup = s.lsup := rfl
@[simp] theorem State.wrBoth_port (s : State) (a : Nat) (v : Word) : (s.wrBoth a v).port = s.port := rfl
@[simp] theorem State.wrBoth_stake (s : State) (a : Nat) (v : Word) : (s.wrBoth a v).stake = s.stake := rfl
@[simp] theorem State.wrBoth_net (s : State) (a : Nat) (v : Word) : (s.wrBoth a v).net = s.net := rfl
@[simp] theorem State.wrBoth_stream (s : State) (a : Nat) (v : Word) : (s.wrBoth a v).stream = s.stream := rfl
@[simp] theorem State.wrBoth_route (s : State) (a : Nat) (v : Word) : (s.wrBoth a v).route = s.route := rfl
@[simp] theorem State.wrBoth_meter (s : State) (a : Nat) (v : Word) : (s.wrBoth a v).meter = s.meter := rfl
@[simp] theorem State.wrBoth_capt (s : State) (a : Nat) (v : Word) : (s.wrBoth a v).capt = s.capt := rfl
@[simp] theorem State.wrBoth_meas (s : State) (a : Nat) (v : Word) : (s.wrBoth a v).meas = s.meas := rfl
@[simp] theorem State.wrBoth_hoop (s : State) (a : Nat) (v : Word) : (s.wrBoth a v).hoop = s.hoop := rfl
@[simp] theorem State.wrBoth_memc (s : State) (a : Nat) (v : Word) : (s.wrBoth a v).memc = s.memc := rfl
@[simp] theorem State.wrBoth_weave (s : State) (a : Nat) (v : Word) : (s.wrBoth a v).weave = s.weave := rfl
@[simp] theorem State.wrBoth_freeCtr (s : State) (a : Nat) (v : Word) : (s.wrBoth a v).freeCtr = s.freeCtr := rfl
@[simp] theorem State.wrBoth_pending (s : State) (a : Nat) (v : Word) : (s.wrBoth a v).pending = s.pending := rfl

@[simp] theorem State.irq_variant (s : State) (p i : Nat) : (s.irq p i).variant = s.variant := rfl
@[simp] theorem State.irq_eff (s : State) (p i : Nat) : (s.irq p i).eff = s.eff := rfl
@[simp] theorem State.irq_mem (s : State) (p i : Nat) : (s.irq p i).mem = s.mem := rfl
@[simp] theorem State.irq_clk (s : State) (p i : Nat) : (s.irq p i).clk = s.clk := rfl
@[simp] theorem State.irq_ctl (s : State) (p i : Nat) : (s.irq p i).ctl = s.ctl := rfl
@[simp] theorem State.irq_plait (s : State) (p i : Nat) : (s.irq p i).plait = s.plait := rfl
@[simp] theorem State.irq_fault (s : State) (p i : Nat) : (s.irq p i).fault = s.fault := rfl
@[simp] theorem State.irq_boot (s : State) (p i : Nat) : (s.irq p i).boot = s.boot := rfl
@[simp] theorem State.irq_bist (s : State) (p i : Nat) : (s.irq p i).bist = s.bist := rfl
@[simp] theorem State.irq_budget (s : State) (p i : Nat) : (s.irq p i).budget = s.budget := rfl
@[simp] theorem State.irq_jtag (s : State) (p i : Nat) : (s.irq p i).jtag = s.jtag := rfl
@[simp] theorem State.irq_scene (s : State) (p i : Nat) : (s.irq p i).scene = s.scene := rfl
@[simp] theorem State.irq_obj (s : State) (p i : Nat) : (s.irq p i).obj = s.obj := rfl
@[simp] theorem State.irq_warp (s : State) (p i : Nat) : (s.irq p i).warp = s.warp := rfl
@[simp] theorem State.irq_corr (s : State) (p i : Nat) : (s.irq p i).corr = s.corr := rfl
@[simp] theorem State.irq_coil (s : State) (p i : Nat) : (s.irq p i).coil = s.coil := rfl
@[simp] theorem State.irq_osier (s : State) (p i : Nat) : (s.irq p i).osier = s.osier := rfl
@[simp] theorem State.irq_pstg (s : State) (p i : Nat) : (s.irq p i).pstg = s.pstg := rfl
@[simp] theorem State.irq_lsup (s : State) (p i : Nat) : (s.irq p i).lsup = s.lsup := rfl
@[simp] theorem State.irq_port (s : State) (p i : Nat) : (s.irq p i).port = s.port := rfl
@[simp] theorem State.irq_stake (s : State) (p i : Nat) : (s.irq p i).stake = s.stake := rfl
@[simp] theorem State.irq_net (s : State) (p i : Nat) : (s.irq p i).net = s.net := rfl
@[simp] theorem State.irq_stream (s : State) (p i : Nat) : (s.irq p i).stream = s.stream := rfl
@[simp] theorem State.irq_route (s : State) (p i : Nat) : (s.irq p i).route = s.route := rfl
@[simp] theorem State.irq_meter (s : State) (p i : Nat) : (s.irq p i).meter = s.meter := rfl
@[simp] theorem State.irq_capt (s : State) (p i : Nat) : (s.irq p i).capt = s.capt := rfl
@[simp] theorem State.irq_meas (s : State) (p i : Nat) : (s.irq p i).meas = s.meas := rfl
@[simp] theorem State.irq_hoop (s : State) (p i : Nat) : (s.irq p i).hoop = s.hoop := rfl
@[simp] theorem State.irq_memc (s : State) (p i : Nat) : (s.irq p i).memc = s.memc := rfl
@[simp] theorem State.irq_weave (s : State) (p i : Nat) : (s.irq p i).weave = s.weave := rfl
@[simp] theorem State.irq_freeCtr (s : State) (p i : Nat) : (s.irq p i).freeCtr = s.freeCtr := rfl
@[simp] theorem State.irq_pending (s : State) (p i : Nat) : (s.irq p i).pending = s.pending := rfl

@[simp] theorem State.count_variant (s : State) (a n : Nat) : (s.count a n).variant = s.variant := by unfold State.count; split <;> rfl
@[simp] theorem State.count_eff (s : State) (a n : Nat) : (s.count a n).eff = s.eff := by unfold State.count; split <;> rfl
@[simp] theorem State.count_mem (s : State) (a n : Nat) : (s.count a n).mem = s.mem := by unfold State.count; split <;> rfl
@[simp] theorem State.count_clk (s : State) (a n : Nat) : (s.count a n).clk = s.clk := by unfold State.count; split <;> rfl
@[simp] theorem State.count_ctl (s : State) (a n : Nat) : (s.count a n).ctl = s.ctl := by unfold State.count; split <;> rfl
@[simp] theorem State.count_plait (s : State) (a n : Nat) : (s.count a n).plait = s.plait := by unfold State.count; split <;> rfl
@[simp] theorem State.count_fault (s : State) (a n : Nat) : (s.count a n).fault = s.fault := by unfold State.count; split <;> rfl
@[simp] theorem State.count_boot (s : State) (a n : Nat) : (s.count a n).boot = s.boot := by unfold State.count; split <;> rfl
@[simp] theorem State.count_bist (s : State) (a n : Nat) : (s.count a n).bist = s.bist := by unfold State.count; split <;> rfl
@[simp] theorem State.count_budget (s : State) (a n : Nat) : (s.count a n).budget = s.budget := by unfold State.count; split <;> rfl
@[simp] theorem State.count_jtag (s : State) (a n : Nat) : (s.count a n).jtag = s.jtag := by unfold State.count; split <;> rfl
@[simp] theorem State.count_scene (s : State) (a n : Nat) : (s.count a n).scene = s.scene := by unfold State.count; split <;> rfl
@[simp] theorem State.count_obj (s : State) (a n : Nat) : (s.count a n).obj = s.obj := by unfold State.count; split <;> rfl
@[simp] theorem State.count_warp (s : State) (a n : Nat) : (s.count a n).warp = s.warp := by unfold State.count; split <;> rfl
@[simp] theorem State.count_corr (s : State) (a n : Nat) : (s.count a n).corr = s.corr := by unfold State.count; split <;> rfl
@[simp] theorem State.count_coil (s : State) (a n : Nat) : (s.count a n).coil = s.coil := by unfold State.count; split <;> rfl
@[simp] theorem State.count_osier (s : State) (a n : Nat) : (s.count a n).osier = s.osier := by unfold State.count; split <;> rfl
@[simp] theorem State.count_pstg (s : State) (a n : Nat) : (s.count a n).pstg = s.pstg := by unfold State.count; split <;> rfl
@[simp] theorem State.count_lsup (s : State) (a n : Nat) : (s.count a n).lsup = s.lsup := by unfold State.count; split <;> rfl
@[simp] theorem State.count_port (s : State) (a n : Nat) : (s.count a n).port = s.port := by unfold State.count; split <;> rfl
@[simp] theorem State.count_stake (s : State) (a n : Nat) : (s.count a n).stake = s.stake := by unfold State.count; split <;> rfl
@[simp] theorem State.count_net (s : State) (a n : Nat) : (s.count a n).net = s.net := by unfold State.count; split <;> rfl
@[simp] theorem State.count_stream (s : State) (a n : Nat) : (s.count a n).stream = s.stream := by unfold State.count; split <;> rfl
@[simp] theorem State.count_route (s : State) (a n : Nat) : (s.count a n).route = s.route := by unfold State.count; split <;> rfl
@[simp] theorem State.count_meter (s : State) (a n : Nat) : (s.count a n).meter = s.meter := by unfold State.count; split <;> rfl
@[simp] theorem State.count_capt (s : State) (a n : Nat) : (s.count a n).capt = s.capt := by unfold State.count; split <;> rfl
@[simp] theorem State.count_meas (s : State) (a n : Nat) : (s.count a n).meas = s.meas := by unfold State.count; split <;> rfl
@[simp] theorem State.count_hoop (s : State) (a n : Nat) : (s.count a n).hoop = s.hoop := by unfold State.count; split <;> rfl
@[simp] theorem State.count_memc (s : State) (a n : Nat) : (s.count a n).memc = s.memc := by unfold State.count; split <;> rfl
@[simp] theorem State.count_weave (s : State) (a n : Nat) : (s.count a n).weave = s.weave := by unfold State.count; split <;> rfl
@[simp] theorem State.count_freeCtr (s : State) (a n : Nat) : (s.count a n).freeCtr = s.freeCtr := by unfold State.count; split <;> rfl
@[simp] theorem State.count_pending (s : State) (a n : Nat) : (s.count a n).pending = s.pending := by unfold State.count; split <;> rfl

@[simp] theorem State.faultTick_variant (s : State) (p : Nat) : (s.faultTick p).variant = s.variant := by simp [State.faultTick]
@[simp] theorem State.faultTick_eff (s : State) (p : Nat) : (s.faultTick p).eff = s.eff := by simp [State.faultTick]
@[simp] theorem State.faultTick_mem (s : State) (p : Nat) : (s.faultTick p).mem = s.mem := by simp [State.faultTick]
@[simp] theorem State.faultTick_clk (s : State) (p : Nat) : (s.faultTick p).clk = s.clk := by simp [State.faultTick]
@[simp] theorem State.faultTick_ctl (s : State) (p : Nat) : (s.faultTick p).ctl = s.ctl := by simp [State.faultTick]
@[simp] theorem State.faultTick_plait (s : State) (p : Nat) : (s.faultTick p).plait = s.plait := by simp [State.faultTick]
@[simp] theorem State.faultTick_fault (s : State) (p : Nat) : (s.faultTick p).fault = s.fault := by simp [State.faultTick]
@[simp] theorem State.faultTick_boot (s : State) (p : Nat) : (s.faultTick p).boot = s.boot := by simp [State.faultTick]
@[simp] theorem State.faultTick_bist (s : State) (p : Nat) : (s.faultTick p).bist = s.bist := by simp [State.faultTick]
@[simp] theorem State.faultTick_budget (s : State) (p : Nat) : (s.faultTick p).budget = s.budget := by simp [State.faultTick]
@[simp] theorem State.faultTick_jtag (s : State) (p : Nat) : (s.faultTick p).jtag = s.jtag := by simp [State.faultTick]
@[simp] theorem State.faultTick_scene (s : State) (p : Nat) : (s.faultTick p).scene = s.scene := by simp [State.faultTick]
@[simp] theorem State.faultTick_obj (s : State) (p : Nat) : (s.faultTick p).obj = s.obj := by simp [State.faultTick]
@[simp] theorem State.faultTick_warp (s : State) (p : Nat) : (s.faultTick p).warp = s.warp := by simp [State.faultTick]
@[simp] theorem State.faultTick_corr (s : State) (p : Nat) : (s.faultTick p).corr = s.corr := by simp [State.faultTick]
@[simp] theorem State.faultTick_coil (s : State) (p : Nat) : (s.faultTick p).coil = s.coil := by simp [State.faultTick]
@[simp] theorem State.faultTick_osier (s : State) (p : Nat) : (s.faultTick p).osier = s.osier := by simp [State.faultTick]
@[simp] theorem State.faultTick_pstg (s : State) (p : Nat) : (s.faultTick p).pstg = s.pstg := by simp [State.faultTick]
@[simp] theorem State.faultTick_lsup (s : State) (p : Nat) : (s.faultTick p).lsup = s.lsup := by simp [State.faultTick]
@[simp] theorem State.faultTick_port (s : State) (p : Nat) : (s.faultTick p).port = s.port := by simp [State.faultTick]
@[simp] theorem State.faultTick_stake (s : State) (p : Nat) : (s.faultTick p).stake = s.stake := by simp [State.faultTick]
@[simp] theorem State.faultTick_net (s : State) (p : Nat) : (s.faultTick p).net = s.net := by simp [State.faultTick]
@[simp] theorem State.faultTick_stream (s : State) (p : Nat) : (s.faultTick p).stream = s.stream := by simp [State.faultTick]
@[simp] theorem State.faultTick_route (s : State) (p : Nat) : (s.faultTick p).route = s.route := by simp [State.faultTick]
@[simp] theorem State.faultTick_meter (s : State) (p : Nat) : (s.faultTick p).meter = s.meter := by simp [State.faultTick]
@[simp] theorem State.faultTick_capt (s : State) (p : Nat) : (s.faultTick p).capt = s.capt := by simp [State.faultTick]
@[simp] theorem State.faultTick_meas (s : State) (p : Nat) : (s.faultTick p).meas = s.meas := by simp [State.faultTick]
@[simp] theorem State.faultTick_hoop (s : State) (p : Nat) : (s.faultTick p).hoop = s.hoop := by simp [State.faultTick]
@[simp] theorem State.faultTick_memc (s : State) (p : Nat) : (s.faultTick p).memc = s.memc := by simp [State.faultTick]
@[simp] theorem State.faultTick_weave (s : State) (p : Nat) : (s.faultTick p).weave = s.weave := by simp [State.faultTick]
@[simp] theorem State.faultTick_freeCtr (s : State) (p : Nat) : (s.faultTick p).freeCtr = s.freeCtr := by simp [State.faultTick]
@[simp] theorem State.faultTick_pending (s : State) (p : Nat) : (s.faultTick p).pending = s.pending := by simp [State.faultTick]

@[simp] theorem State.discard_variant (s : State) : (s.discard).variant = s.variant := by simp [State.discard]
@[simp] theorem State.discard_eff (s : State) : (s.discard).eff = s.eff := by simp [State.discard]
@[simp] theorem State.discard_mem (s : State) : (s.discard).mem = s.mem := by simp [State.discard]
@[simp] theorem State.discard_clk (s : State) : (s.discard).clk = s.clk := by simp [State.discard]
@[simp] theorem State.discard_ctl (s : State) : (s.discard).ctl = s.ctl := by simp [State.discard]
@[simp] theorem State.discard_plait (s : State) : (s.discard).plait = s.plait := by simp [State.discard]
@[simp] theorem State.discard_fault (s : State) : (s.discard).fault = s.fault := by simp [State.discard]
@[simp] theorem State.discard_boot (s : State) : (s.discard).boot = s.boot := by simp [State.discard]
@[simp] theorem State.discard_bist (s : State) : (s.discard).bist = s.bist := by simp [State.discard]
@[simp] theorem State.discard_budget (s : State) : (s.discard).budget = s.budget := by simp [State.discard]
@[simp] theorem State.discard_jtag (s : State) : (s.discard).jtag = s.jtag := by simp [State.discard]
@[simp] theorem State.discard_scene (s : State) : (s.discard).scene = s.scene := by simp [State.discard]
@[simp] theorem State.discard_obj (s : State) : (s.discard).obj = s.obj := by simp [State.discard]
@[simp] theorem State.discard_warp (s : State) : (s.discard).warp = s.warp := by simp [State.discard]
@[simp] theorem State.discard_corr (s : State) : (s.discard).corr = s.corr := by simp [State.discard]
@[simp] theorem State.discard_coil (s : State) : (s.discard).coil = s.coil := by simp [State.discard]
@[simp] theorem State.discard_osier (s : State) : (s.discard).osier = s.osier := by simp [State.discard]
@[simp] theorem State.discard_pstg (s : State) : (s.discard).pstg = s.pstg := by simp [State.discard]
@[simp] theorem State.discard_lsup (s : State) : (s.discard).lsup = s.lsup := by simp [State.discard]
@[simp] theorem State.discard_port (s : State) : (s.discard).port = s.port := by simp [State.discard]
@[simp] theorem State.discard_stake (s : State) : (s.discard).stake = s.stake := by simp [State.discard]
@[simp] theorem State.discard_net (s : State) : (s.discard).net = s.net := by simp [State.discard]
@[simp] theorem State.discard_stream (s : State) : (s.discard).stream = s.stream := by simp [State.discard]
@[simp] theorem State.discard_route (s : State) : (s.discard).route = s.route := by simp [State.discard]
@[simp] theorem State.discard_meter (s : State) : (s.discard).meter = s.meter := by simp [State.discard]
@[simp] theorem State.discard_capt (s : State) : (s.discard).capt = s.capt := by simp [State.discard]
@[simp] theorem State.discard_meas (s : State) : (s.discard).meas = s.meas := by simp [State.discard]
@[simp] theorem State.discard_hoop (s : State) : (s.discard).hoop = s.hoop := by simp [State.discard]
@[simp] theorem State.discard_memc (s : State) : (s.discard).memc = s.memc := by simp [State.discard]
@[simp] theorem State.discard_weave (s : State) : (s.discard).weave = s.weave := by simp [State.discard]
@[simp] theorem State.discard_freeCtr (s : State) : (s.discard).freeCtr = s.freeCtr := by simp [State.discard]
@[simp] theorem State.discard_pending (s : State) : (s.discard).pending = s.pending := by simp [State.discard]

@[simp] theorem State.begin_variant (s : State) : (s.begin).variant = s.variant := rfl
@[simp] theorem State.begin_regs (s : State) : (s.begin).regs = s.regs := rfl
@[simp] theorem State.begin_eff (s : State) : (s.begin).eff = s.eff := rfl
@[simp] theorem State.begin_mem (s : State) : (s.begin).mem = s.mem := rfl
@[simp] theorem State.begin_clk (s : State) : (s.begin).clk = s.clk := rfl
@[simp] theorem State.begin_plait (s : State) : (s.begin).plait = s.plait := rfl
@[simp] theorem State.begin_fault (s : State) : (s.begin).fault = s.fault := rfl
@[simp] theorem State.begin_boot (s : State) : (s.begin).boot = s.boot := rfl
@[simp] theorem State.begin_bist (s : State) : (s.begin).bist = s.bist := rfl
@[simp] theorem State.begin_budget (s : State) : (s.begin).budget = s.budget := rfl
@[simp] theorem State.begin_jtag (s : State) : (s.begin).jtag = s.jtag := rfl
@[simp] theorem State.begin_scene (s : State) : (s.begin).scene = s.scene := rfl
@[simp] theorem State.begin_obj (s : State) : (s.begin).obj = s.obj := rfl
@[simp] theorem State.begin_warp (s : State) : (s.begin).warp = s.warp := rfl
@[simp] theorem State.begin_corr (s : State) : (s.begin).corr = s.corr := rfl
@[simp] theorem State.begin_coil (s : State) : (s.begin).coil = s.coil := rfl
@[simp] theorem State.begin_osier (s : State) : (s.begin).osier = s.osier := rfl
@[simp] theorem State.begin_pstg (s : State) : (s.begin).pstg = s.pstg := rfl
@[simp] theorem State.begin_lsup (s : State) : (s.begin).lsup = s.lsup := rfl
@[simp] theorem State.begin_port (s : State) : (s.begin).port = s.port := rfl
@[simp] theorem State.begin_stake (s : State) : (s.begin).stake = s.stake := rfl
@[simp] theorem State.begin_stream (s : State) : (s.begin).stream = s.stream := rfl
@[simp] theorem State.begin_route (s : State) : (s.begin).route = s.route := rfl
@[simp] theorem State.begin_meter (s : State) : (s.begin).meter = s.meter := rfl
@[simp] theorem State.begin_capt (s : State) : (s.begin).capt = s.capt := rfl
@[simp] theorem State.begin_meas (s : State) : (s.begin).meas = s.meas := rfl
@[simp] theorem State.begin_memc (s : State) : (s.begin).memc = s.memc := rfl
@[simp] theorem State.begin_weave (s : State) : (s.begin).weave = s.weave := rfl
@[simp] theorem State.begin_freeCtr (s : State) : (s.begin).freeCtr = s.freeCtr := rfl
@[simp] theorem State.begin_pending (s : State) : (s.begin).pending = s.pending := rfl

@[simp] theorem State.drawFree_variant (s : State) : (s.drawFree.2).variant = s.variant := rfl
@[simp] theorem State.drawFree_regs (s : State) : (s.drawFree.2).regs = s.regs := rfl
@[simp] theorem State.drawFree_eff (s : State) : (s.drawFree.2).eff = s.eff := rfl
@[simp] theorem State.drawFree_mem (s : State) : (s.drawFree.2).mem = s.mem := rfl
@[simp] theorem State.drawFree_clk (s : State) : (s.drawFree.2).clk = s.clk := rfl
@[simp] theorem State.drawFree_ctl (s : State) : (s.drawFree.2).ctl = s.ctl := rfl
@[simp] theorem State.drawFree_plait (s : State) : (s.drawFree.2).plait = s.plait := rfl
@[simp] theorem State.drawFree_fault (s : State) : (s.drawFree.2).fault = s.fault := rfl
@[simp] theorem State.drawFree_boot (s : State) : (s.drawFree.2).boot = s.boot := rfl
@[simp] theorem State.drawFree_bist (s : State) : (s.drawFree.2).bist = s.bist := rfl
@[simp] theorem State.drawFree_budget (s : State) : (s.drawFree.2).budget = s.budget := rfl
@[simp] theorem State.drawFree_jtag (s : State) : (s.drawFree.2).jtag = s.jtag := rfl
@[simp] theorem State.drawFree_scene (s : State) : (s.drawFree.2).scene = s.scene := rfl
@[simp] theorem State.drawFree_obj (s : State) : (s.drawFree.2).obj = s.obj := rfl
@[simp] theorem State.drawFree_warp (s : State) : (s.drawFree.2).warp = s.warp := rfl
@[simp] theorem State.drawFree_corr (s : State) : (s.drawFree.2).corr = s.corr := rfl
@[simp] theorem State.drawFree_coil (s : State) : (s.drawFree.2).coil = s.coil := rfl
@[simp] theorem State.drawFree_osier (s : State) : (s.drawFree.2).osier = s.osier := rfl
@[simp] theorem State.drawFree_pstg (s : State) : (s.drawFree.2).pstg = s.pstg := rfl
@[simp] theorem State.drawFree_lsup (s : State) : (s.drawFree.2).lsup = s.lsup := rfl
@[simp] theorem State.drawFree_port (s : State) : (s.drawFree.2).port = s.port := rfl
@[simp] theorem State.drawFree_stake (s : State) : (s.drawFree.2).stake = s.stake := rfl
@[simp] theorem State.drawFree_net (s : State) : (s.drawFree.2).net = s.net := rfl
@[simp] theorem State.drawFree_stream (s : State) : (s.drawFree.2).stream = s.stream := rfl
@[simp] theorem State.drawFree_route (s : State) : (s.drawFree.2).route = s.route := rfl
@[simp] theorem State.drawFree_meter (s : State) : (s.drawFree.2).meter = s.meter := rfl
@[simp] theorem State.drawFree_capt (s : State) : (s.drawFree.2).capt = s.capt := rfl
@[simp] theorem State.drawFree_meas (s : State) : (s.drawFree.2).meas = s.meas := rfl
@[simp] theorem State.drawFree_hoop (s : State) : (s.drawFree.2).hoop = s.hoop := rfl
@[simp] theorem State.drawFree_memc (s : State) : (s.drawFree.2).memc = s.memc := rfl
@[simp] theorem State.drawFree_weave (s : State) : (s.drawFree.2).weave = s.weave := rfl
@[simp] theorem State.drawFree_pending (s : State) : (s.drawFree.2).pending = s.pending := rfl

@[simp] theorem State.canon_variant (s : State) : (s.canon).variant = s.variant := rfl
@[simp] theorem State.canon_clk (s : State) : (s.canon).clk = s.clk := rfl
@[simp] theorem State.canon_ctl (s : State) : (s.canon).ctl = s.ctl := rfl
@[simp] theorem State.canon_plait (s : State) : (s.canon).plait = s.plait := rfl
@[simp] theorem State.canon_fault (s : State) : (s.canon).fault = s.fault := rfl
@[simp] theorem State.canon_boot (s : State) : (s.canon).boot = s.boot := rfl
@[simp] theorem State.canon_bist (s : State) : (s.canon).bist = s.bist := rfl
@[simp] theorem State.canon_budget (s : State) : (s.canon).budget = s.budget := rfl
@[simp] theorem State.canon_jtag (s : State) : (s.canon).jtag = s.jtag := rfl
@[simp] theorem State.canon_scene (s : State) : (s.canon).scene = s.scene := rfl
@[simp] theorem State.canon_obj (s : State) : (s.canon).obj = s.obj := rfl
@[simp] theorem State.canon_warp (s : State) : (s.canon).warp = s.warp := rfl
@[simp] theorem State.canon_corr (s : State) : (s.canon).corr = s.corr := rfl
@[simp] theorem State.canon_coil (s : State) : (s.canon).coil = s.coil := rfl
@[simp] theorem State.canon_osier (s : State) : (s.canon).osier = s.osier := rfl
@[simp] theorem State.canon_pstg (s : State) : (s.canon).pstg = s.pstg := rfl
@[simp] theorem State.canon_lsup (s : State) : (s.canon).lsup = s.lsup := rfl
@[simp] theorem State.canon_port (s : State) : (s.canon).port = s.port := rfl
@[simp] theorem State.canon_stake (s : State) : (s.canon).stake = s.stake := rfl
@[simp] theorem State.canon_net (s : State) : (s.canon).net = s.net := rfl
@[simp] theorem State.canon_stream (s : State) : (s.canon).stream = s.stream := rfl
@[simp] theorem State.canon_route (s : State) : (s.canon).route = s.route := rfl
@[simp] theorem State.canon_meter (s : State) : (s.canon).meter = s.meter := rfl
@[simp] theorem State.canon_capt (s : State) : (s.canon).capt = s.capt := rfl
@[simp] theorem State.canon_meas (s : State) : (s.canon).meas = s.meas := rfl
@[simp] theorem State.canon_hoop (s : State) : (s.canon).hoop = s.hoop := rfl
@[simp] theorem State.canon_memc (s : State) : (s.canon).memc = s.memc := rfl
@[simp] theorem State.canon_weave (s : State) : (s.canon).weave = s.weave := rfl
@[simp] theorem State.canon_freeCtr (s : State) : (s.canon).freeCtr = s.freeCtr := rfl
@[simp] theorem State.canon_pending (s : State) : (s.canon).pending = s.pending := rfl

/-- A record writes registers and the FAULT unit only. -/
theorem State.addRecord_eq (s : State) (p code cls d : Nat) : s.addRecord p code cls d =
    { s with regs := (s.addRecord p code cls d).regs, fault := (s.addRecord p code cls d).fault } := by
  unfold State.addRecord State.irq State.count State.wr
  cases s.repeats p code <;> simp only [] <;> repeat' split
  all_goals rfl

@[simp] theorem State.addRecord_variant (s : State) (p code cls d : Nat) : (s.addRecord p code cls d).variant = s.variant := by rw [State.addRecord_eq]
@[simp] theorem State.addRecord_eff (s : State) (p code cls d : Nat) : (s.addRecord p code cls d).eff = s.eff := by rw [State.addRecord_eq]
@[simp] theorem State.addRecord_mem (s : State) (p code cls d : Nat) : (s.addRecord p code cls d).mem = s.mem := by rw [State.addRecord_eq]
@[simp] theorem State.addRecord_clk (s : State) (p code cls d : Nat) : (s.addRecord p code cls d).clk = s.clk := by rw [State.addRecord_eq]
@[simp] theorem State.addRecord_ctl (s : State) (p code cls d : Nat) : (s.addRecord p code cls d).ctl = s.ctl := by rw [State.addRecord_eq]
@[simp] theorem State.addRecord_plait (s : State) (p code cls d : Nat) : (s.addRecord p code cls d).plait = s.plait := by rw [State.addRecord_eq]
@[simp] theorem State.addRecord_boot (s : State) (p code cls d : Nat) : (s.addRecord p code cls d).boot = s.boot := by rw [State.addRecord_eq]
@[simp] theorem State.addRecord_bist (s : State) (p code cls d : Nat) : (s.addRecord p code cls d).bist = s.bist := by rw [State.addRecord_eq]
@[simp] theorem State.addRecord_budget (s : State) (p code cls d : Nat) : (s.addRecord p code cls d).budget = s.budget := by rw [State.addRecord_eq]
@[simp] theorem State.addRecord_jtag (s : State) (p code cls d : Nat) : (s.addRecord p code cls d).jtag = s.jtag := by rw [State.addRecord_eq]
@[simp] theorem State.addRecord_scene (s : State) (p code cls d : Nat) : (s.addRecord p code cls d).scene = s.scene := by rw [State.addRecord_eq]
@[simp] theorem State.addRecord_obj (s : State) (p code cls d : Nat) : (s.addRecord p code cls d).obj = s.obj := by rw [State.addRecord_eq]
@[simp] theorem State.addRecord_warp (s : State) (p code cls d : Nat) : (s.addRecord p code cls d).warp = s.warp := by rw [State.addRecord_eq]
@[simp] theorem State.addRecord_corr (s : State) (p code cls d : Nat) : (s.addRecord p code cls d).corr = s.corr := by rw [State.addRecord_eq]
@[simp] theorem State.addRecord_coil (s : State) (p code cls d : Nat) : (s.addRecord p code cls d).coil = s.coil := by rw [State.addRecord_eq]
@[simp] theorem State.addRecord_osier (s : State) (p code cls d : Nat) : (s.addRecord p code cls d).osier = s.osier := by rw [State.addRecord_eq]
@[simp] theorem State.addRecord_pstg (s : State) (p code cls d : Nat) : (s.addRecord p code cls d).pstg = s.pstg := by rw [State.addRecord_eq]
@[simp] theorem State.addRecord_lsup (s : State) (p code cls d : Nat) : (s.addRecord p code cls d).lsup = s.lsup := by rw [State.addRecord_eq]
@[simp] theorem State.addRecord_port (s : State) (p code cls d : Nat) : (s.addRecord p code cls d).port = s.port := by rw [State.addRecord_eq]
@[simp] theorem State.addRecord_stake (s : State) (p code cls d : Nat) : (s.addRecord p code cls d).stake = s.stake := by rw [State.addRecord_eq]
@[simp] theorem State.addRecord_net (s : State) (p code cls d : Nat) : (s.addRecord p code cls d).net = s.net := by rw [State.addRecord_eq]
@[simp] theorem State.addRecord_stream (s : State) (p code cls d : Nat) : (s.addRecord p code cls d).stream = s.stream := by rw [State.addRecord_eq]
@[simp] theorem State.addRecord_route (s : State) (p code cls d : Nat) : (s.addRecord p code cls d).route = s.route := by rw [State.addRecord_eq]
@[simp] theorem State.addRecord_meter (s : State) (p code cls d : Nat) : (s.addRecord p code cls d).meter = s.meter := by rw [State.addRecord_eq]
@[simp] theorem State.addRecord_capt (s : State) (p code cls d : Nat) : (s.addRecord p code cls d).capt = s.capt := by rw [State.addRecord_eq]
@[simp] theorem State.addRecord_meas (s : State) (p code cls d : Nat) : (s.addRecord p code cls d).meas = s.meas := by rw [State.addRecord_eq]
@[simp] theorem State.addRecord_hoop (s : State) (p code cls d : Nat) : (s.addRecord p code cls d).hoop = s.hoop := by rw [State.addRecord_eq]
@[simp] theorem State.addRecord_memc (s : State) (p code cls d : Nat) : (s.addRecord p code cls d).memc = s.memc := by rw [State.addRecord_eq]
@[simp] theorem State.addRecord_weave (s : State) (p code cls d : Nat) : (s.addRecord p code cls d).weave = s.weave := by rw [State.addRecord_eq]
@[simp] theorem State.addRecord_freeCtr (s : State) (p code cls d : Nat) : (s.addRecord p code cls d).freeCtr = s.freeCtr := by rw [State.addRecord_eq]
@[simp] theorem State.addRecord_pending (s : State) (p code cls d : Nat) : (s.addRecord p code cls d).pending = s.pending := by rw [State.addRecord_eq]

/-- A fault code writes registers and the FAULT unit only. -/
theorem State.faultD_eq (s : State) (p code d : Nat) : s.faultD p code d =
    { s with regs := (s.faultD p code d).regs, fault := (s.faultD p code d).fault } := by
  have h : (s.wrF (Reg.faultCause p) 7 0 code).faultTick p =
      { s with regs := ((s.wrF (Reg.faultCause p) 7 0 code).faultTick p).regs } := by
    unfold State.faultTick State.count State.wrF State.wr
    split <;> rfl
  unfold State.faultD
  cases unitOf p with
  | none => simp only []; rw [h]
  | some u =>
    simp only []
    split
    · rw [h]
    · rw [State.addRecord_eq, h]

@[simp] theorem State.faultD_variant (s : State) (p code d : Nat) : (s.faultD p code d).variant = s.variant := by rw [State.faultD_eq]
@[simp] theorem State.faultD_eff (s : State) (p code d : Nat) : (s.faultD p code d).eff = s.eff := by rw [State.faultD_eq]
@[simp] theorem State.faultD_mem (s : State) (p code d : Nat) : (s.faultD p code d).mem = s.mem := by rw [State.faultD_eq]
@[simp] theorem State.faultD_clk (s : State) (p code d : Nat) : (s.faultD p code d).clk = s.clk := by rw [State.faultD_eq]
@[simp] theorem State.faultD_ctl (s : State) (p code d : Nat) : (s.faultD p code d).ctl = s.ctl := by rw [State.faultD_eq]
@[simp] theorem State.faultD_plait (s : State) (p code d : Nat) : (s.faultD p code d).plait = s.plait := by rw [State.faultD_eq]
@[simp] theorem State.faultD_boot (s : State) (p code d : Nat) : (s.faultD p code d).boot = s.boot := by rw [State.faultD_eq]
@[simp] theorem State.faultD_bist (s : State) (p code d : Nat) : (s.faultD p code d).bist = s.bist := by rw [State.faultD_eq]
@[simp] theorem State.faultD_budget (s : State) (p code d : Nat) : (s.faultD p code d).budget = s.budget := by rw [State.faultD_eq]
@[simp] theorem State.faultD_jtag (s : State) (p code d : Nat) : (s.faultD p code d).jtag = s.jtag := by rw [State.faultD_eq]
@[simp] theorem State.faultD_scene (s : State) (p code d : Nat) : (s.faultD p code d).scene = s.scene := by rw [State.faultD_eq]
@[simp] theorem State.faultD_obj (s : State) (p code d : Nat) : (s.faultD p code d).obj = s.obj := by rw [State.faultD_eq]
@[simp] theorem State.faultD_warp (s : State) (p code d : Nat) : (s.faultD p code d).warp = s.warp := by rw [State.faultD_eq]
@[simp] theorem State.faultD_corr (s : State) (p code d : Nat) : (s.faultD p code d).corr = s.corr := by rw [State.faultD_eq]
@[simp] theorem State.faultD_coil (s : State) (p code d : Nat) : (s.faultD p code d).coil = s.coil := by rw [State.faultD_eq]
@[simp] theorem State.faultD_osier (s : State) (p code d : Nat) : (s.faultD p code d).osier = s.osier := by rw [State.faultD_eq]
@[simp] theorem State.faultD_pstg (s : State) (p code d : Nat) : (s.faultD p code d).pstg = s.pstg := by rw [State.faultD_eq]
@[simp] theorem State.faultD_lsup (s : State) (p code d : Nat) : (s.faultD p code d).lsup = s.lsup := by rw [State.faultD_eq]
@[simp] theorem State.faultD_port (s : State) (p code d : Nat) : (s.faultD p code d).port = s.port := by rw [State.faultD_eq]
@[simp] theorem State.faultD_stake (s : State) (p code d : Nat) : (s.faultD p code d).stake = s.stake := by rw [State.faultD_eq]
@[simp] theorem State.faultD_net (s : State) (p code d : Nat) : (s.faultD p code d).net = s.net := by rw [State.faultD_eq]
@[simp] theorem State.faultD_stream (s : State) (p code d : Nat) : (s.faultD p code d).stream = s.stream := by rw [State.faultD_eq]
@[simp] theorem State.faultD_route (s : State) (p code d : Nat) : (s.faultD p code d).route = s.route := by rw [State.faultD_eq]
@[simp] theorem State.faultD_meter (s : State) (p code d : Nat) : (s.faultD p code d).meter = s.meter := by rw [State.faultD_eq]
@[simp] theorem State.faultD_capt (s : State) (p code d : Nat) : (s.faultD p code d).capt = s.capt := by rw [State.faultD_eq]
@[simp] theorem State.faultD_meas (s : State) (p code d : Nat) : (s.faultD p code d).meas = s.meas := by rw [State.faultD_eq]
@[simp] theorem State.faultD_hoop (s : State) (p code d : Nat) : (s.faultD p code d).hoop = s.hoop := by rw [State.faultD_eq]
@[simp] theorem State.faultD_memc (s : State) (p code d : Nat) : (s.faultD p code d).memc = s.memc := by rw [State.faultD_eq]
@[simp] theorem State.faultD_weave (s : State) (p code d : Nat) : (s.faultD p code d).weave = s.weave := by rw [State.faultD_eq]
@[simp] theorem State.faultD_freeCtr (s : State) (p code d : Nat) : (s.faultD p code d).freeCtr = s.freeCtr := by rw [State.faultD_eq]
@[simp] theorem State.faultD_pending (s : State) (p code d : Nat) : (s.faultD p code d).pending = s.pending := by rw [State.faultD_eq]

@[simp] theorem State.faultCode_variant (s : State) (p code : Nat) : (s.fault' p code).variant = s.variant := by simp [State.fault']
@[simp] theorem State.faultCode_eff (s : State) (p code : Nat) : (s.fault' p code).eff = s.eff := by simp [State.fault']
@[simp] theorem State.faultCode_mem (s : State) (p code : Nat) : (s.fault' p code).mem = s.mem := by simp [State.fault']
@[simp] theorem State.faultCode_clk (s : State) (p code : Nat) : (s.fault' p code).clk = s.clk := by simp [State.fault']
@[simp] theorem State.faultCode_ctl (s : State) (p code : Nat) : (s.fault' p code).ctl = s.ctl := by simp [State.fault']
@[simp] theorem State.faultCode_plait (s : State) (p code : Nat) : (s.fault' p code).plait = s.plait := by simp [State.fault']
@[simp] theorem State.faultCode_boot (s : State) (p code : Nat) : (s.fault' p code).boot = s.boot := by simp [State.fault']
@[simp] theorem State.faultCode_bist (s : State) (p code : Nat) : (s.fault' p code).bist = s.bist := by simp [State.fault']
@[simp] theorem State.faultCode_budget (s : State) (p code : Nat) : (s.fault' p code).budget = s.budget := by simp [State.fault']
@[simp] theorem State.faultCode_jtag (s : State) (p code : Nat) : (s.fault' p code).jtag = s.jtag := by simp [State.fault']
@[simp] theorem State.faultCode_scene (s : State) (p code : Nat) : (s.fault' p code).scene = s.scene := by simp [State.fault']
@[simp] theorem State.faultCode_obj (s : State) (p code : Nat) : (s.fault' p code).obj = s.obj := by simp [State.fault']
@[simp] theorem State.faultCode_warp (s : State) (p code : Nat) : (s.fault' p code).warp = s.warp := by simp [State.fault']
@[simp] theorem State.faultCode_corr (s : State) (p code : Nat) : (s.fault' p code).corr = s.corr := by simp [State.fault']
@[simp] theorem State.faultCode_coil (s : State) (p code : Nat) : (s.fault' p code).coil = s.coil := by simp [State.fault']
@[simp] theorem State.faultCode_osier (s : State) (p code : Nat) : (s.fault' p code).osier = s.osier := by simp [State.fault']
@[simp] theorem State.faultCode_pstg (s : State) (p code : Nat) : (s.fault' p code).pstg = s.pstg := by simp [State.fault']
@[simp] theorem State.faultCode_lsup (s : State) (p code : Nat) : (s.fault' p code).lsup = s.lsup := by simp [State.fault']
@[simp] theorem State.faultCode_port (s : State) (p code : Nat) : (s.fault' p code).port = s.port := by simp [State.fault']
@[simp] theorem State.faultCode_stake (s : State) (p code : Nat) : (s.fault' p code).stake = s.stake := by simp [State.fault']
@[simp] theorem State.faultCode_net (s : State) (p code : Nat) : (s.fault' p code).net = s.net := by simp [State.fault']
@[simp] theorem State.faultCode_stream (s : State) (p code : Nat) : (s.fault' p code).stream = s.stream := by simp [State.fault']
@[simp] theorem State.faultCode_route (s : State) (p code : Nat) : (s.fault' p code).route = s.route := by simp [State.fault']
@[simp] theorem State.faultCode_meter (s : State) (p code : Nat) : (s.fault' p code).meter = s.meter := by simp [State.fault']
@[simp] theorem State.faultCode_capt (s : State) (p code : Nat) : (s.fault' p code).capt = s.capt := by simp [State.fault']
@[simp] theorem State.faultCode_meas (s : State) (p code : Nat) : (s.fault' p code).meas = s.meas := by simp [State.fault']
@[simp] theorem State.faultCode_hoop (s : State) (p code : Nat) : (s.fault' p code).hoop = s.hoop := by simp [State.fault']
@[simp] theorem State.faultCode_memc (s : State) (p code : Nat) : (s.fault' p code).memc = s.memc := by simp [State.fault']
@[simp] theorem State.faultCode_weave (s : State) (p code : Nat) : (s.fault' p code).weave = s.weave := by simp [State.fault']
@[simp] theorem State.faultCode_freeCtr (s : State) (p code : Nat) : (s.fault' p code).freeCtr = s.freeCtr := by simp [State.fault']
@[simp] theorem State.faultCode_pending (s : State) (p code : Nat) : (s.fault' p code).pending = s.pending := by simp [State.fault']

end Sys2Proof.Machine
end

