-- ==== Sys2Proof/Laws/Tab.lean ====
section
/-!
SUPPORT. Sparse tables: a read after a write, and the canonical form that every write keeps.
-/
namespace Sys2Proof.Machine

variable {α : Type}

/-! ### A read after a write -/

@[simp] theorem Tab.get_nil (d : Nat → α) (k : Nat) : Tab.get d [] k = d k := rfl

theorem Tab.get_cons (d : Nat → α) (k' : Nat) (v : α) (t : Tab α) (k : Nat) :
    Tab.get d ((k', v) :: t) k = if k' = k then v else Tab.get d t k := rfl

@[simp] theorem Tab.get_erase_same (d : Nat → α) (t : Tab α) (k : Nat) : Tab.get d (Tab.erase t k) k = d k := by
  induction t with
  | nil => rfl
  | cons e t ih =>
    obtain ⟨k', v⟩ := e
    by_cases h : k' = k <;> simp [Tab.erase, Tab.get_cons, h, ih]

theorem Tab.get_erase_ne (d : Nat → α) (t : Tab α) {k j : Nat} (hj : j ≠ k) :
    Tab.get d (Tab.erase t k) j = Tab.get d t j := by
  induction t with
  | nil => rfl
  | cons e t ih =>
    obtain ⟨k', v⟩ := e
    by_cases h : k' = k
    · subst h
      simp [Tab.erase, Tab.get_cons, ih, Ne.symm hj]
    · simp [Tab.erase, Tab.get_cons, h, ih]

@[simp] theorem Tab.get_put_same (d : Nat → α) (t : Tab α) (k : Nat) (v : α) : Tab.get d (Tab.put t k v) k = v := by
  induction t with
  | nil => simp [Tab.put, Tab.get_cons]
  | cons e t ih =>
    obtain ⟨k', v'⟩ := e
    by_cases h1 : k < k'
    · simp [Tab.put, h1, Tab.get_cons]
    · by_cases h2 : k = k'
      · simp [Tab.put, h2, Tab.get_cons]
      · simp [Tab.put, h1, h2, Tab.get_cons, Ne.symm h2, ih]

theorem Tab.get_put_ne (d : Nat → α) (t : Tab α) {k j : Nat} (v : α) (hj : j ≠ k) :
    Tab.get d (Tab.put t k v) j = Tab.get d t j := by
  induction t with
  | nil => simp [Tab.put, Tab.get_cons, Ne.symm hj]
  | cons e t ih =>
    obtain ⟨k', v'⟩ := e
    by_cases h1 : k < k'
    · simp [Tab.put, h1, Tab.get_cons, Ne.symm hj]
    · by_cases h2 : k = k'
      · subst h2
        simp [Tab.put, Tab.get_cons, Ne.symm hj]
      · simp [Tab.put, h1, h2, Tab.get_cons, ih]

/-- A read gives what the last write to its key wrote. -/
@[simp] theorem Tab.get_set_same [DecidableEq α] (d : Nat → α) (t : Tab α) (k : Nat) (v : α) :
    Tab.get d (Tab.set d t k v) k = v := by
  by_cases h : v = d k
  · simp [Tab.set, h]
  · simp [Tab.set, h]

/-- A write leaves every other key as it is. -/
theorem Tab.get_set_ne [DecidableEq α] (d : Nat → α) (t : Tab α) {k j : Nat} (v : α) (hj : j ≠ k) :
    Tab.get d (Tab.set d t k v) j = Tab.get d t j := by
  by_cases h : v = d k
  · simp [Tab.set, h, Tab.get_erase_ne d t hj]
  · simp [Tab.set, h, Tab.get_put_ne d _ v hj, Tab.get_erase_ne d t hj]

theorem Tab.get_set [DecidableEq α] (d : Nat → α) (t : Tab α) (k j : Nat) (v : α) :
    Tab.get d (Tab.set d t k v) j = if j = k then v else Tab.get d t j := by
  by_cases h : j = k
  · simp [h]
  · simp [h, Tab.get_set_ne d t v h]

theorem Tab.get_drop (d : Nat → α) (p : Nat → Bool) (t : Tab α) (k : Nat) :
    Tab.get d (Tab.drop p t) k = if p k then d k else Tab.get d t k := by
  induction t with
  | nil => simp [Tab.drop]
  | cons e t ih =>
    obtain ⟨k', v⟩ := e
    have ih' : Tab.get d (List.filter (fun e => !p e.1) t) k = if p k then d k else Tab.get d t k := ih
    by_cases hp : p k'
    · by_cases hk : k' = k
      · subst hk
        simp [Tab.drop, hp, ih']
      · simp [Tab.drop, hp, ih', Tab.get_cons, hk]
    · by_cases hk : k' = k
      · subst hk
        simp [Tab.drop, hp, Tab.get_cons]
      · simp [Tab.drop, hp, ih', Tab.get_cons, hk]

/-! ### The canonical form -/

/-- Keys rise from `lo` on, where a bound is given. -/
theorem Tab.sortedFrom_weaken (t : Tab α) {b c : Nat} (h : b ≤ c) (hs : Tab.sortedFrom (some c) t = true) :
    Tab.sortedFrom (some b) t = true := by
  cases t with
  | nil => rfl
  | cons e t =>
    obtain ⟨k, v⟩ := e
    simp only [Tab.sortedFrom, Bool.and_eq_true, decide_eq_true_eq] at hs ⊢
    exact ⟨by omega, hs.2⟩

theorem Tab.sortedFrom_erase (t : Tab α) (lo : Option Nat) (k : Nat) (hs : Tab.sortedFrom lo t = true) :
    Tab.sortedFrom lo (Tab.erase t k) = true := by
  induction t generalizing lo with
  | nil => cases lo <;> rfl
  | cons e t ih =>
    obtain ⟨k', v⟩ := e
    have key : Tab.sortedFrom (some k') t = true := by
      cases lo with
      | none => exact hs
      | some b =>
        simp only [Tab.sortedFrom, Bool.and_eq_true] at hs
        exact hs.2
    have tail := ih (some k') key
    by_cases h : k' = k
    · simp only [Tab.erase, h, if_true]
      rw [h] at tail
      cases lo with
      | none =>
        cases hx : Tab.erase t k with
        | nil => rfl
        | cons e' t' =>
          rw [hx] at tail
          simp only [Tab.sortedFrom, Bool.and_eq_true] at tail
          exact tail.2
      | some b =>
        simp only [Tab.sortedFrom, Bool.and_eq_true, decide_eq_true_eq] at hs
        exact Tab.sortedFrom_weaken _ (by omega) tail
    · simp only [Tab.erase, h, if_false]
      cases lo with
      | none => exact tail
      | some b =>
        simp only [Tab.sortedFrom, Bool.and_eq_true, decide_eq_true_eq] at hs ⊢
        exact ⟨hs.1, tail⟩

theorem Tab.sortedFrom_put_some (t : Tab α) (b k : Nat) (v : α) (hb : b < k) (hs : Tab.sortedFrom (some b) t = true) :
    Tab.sortedFrom (some b) (Tab.put t k v) = true := by
  induction t generalizing b with
  | nil => simp [Tab.put, Tab.sortedFrom, hb]
  | cons e t ih =>
    obtain ⟨k', v'⟩ := e
    simp only [Tab.sortedFrom, Bool.and_eq_true, decide_eq_true_eq] at hs
    by_cases h1 : k < k'
    · simp [Tab.put, h1, Tab.sortedFrom, hb, hs.2]
    · by_cases h2 : k = k'
      · subst h2
        simp [Tab.put, Tab.sortedFrom, hb, hs.2]
      · have : k' < k := by omega
        simp [Tab.put, h1, h2, Tab.sortedFrom, hs.1, ih k' this hs.2]

theorem Tab.sortedFrom_put_none (t : Tab α) (k : Nat) (v : α) (hs : Tab.sortedFrom none t = true) :
    Tab.sortedFrom none (Tab.put t k v) = true := by
  cases t with
  | nil => rfl
  | cons e t =>
    obtain ⟨k', v'⟩ := e
    have hs' : Tab.sortedFrom (some k') t = true := hs
    by_cases h1 : k < k'
    · simp [Tab.put, h1, Tab.sortedFrom, hs']
    · by_cases h2 : k = k'
      · subst h2
        simp [Tab.put, Tab.sortedFrom, hs']
      · have : k' < k := by omega
        simp [Tab.put, h1, h2, Tab.sortedFrom, Tab.sortedFrom_put_some t k' k v this hs']

theorem Tab.mem_erase {t : Tab α} {k : Nat} {e : Nat × α} (h : e ∈ Tab.erase t k) : e ∈ t := by
  induction t with
  | nil => exact h
  | cons e' t ih =>
    obtain ⟨k', v⟩ := e'
    by_cases hk : k' = k
    · simp only [Tab.erase, hk, if_true] at h
      exact List.mem_cons_of_mem _ (ih h)
    · simp only [Tab.erase, hk, if_false, List.mem_cons] at h
      rcases h with h | h
      · simp [h]
      · exact List.mem_cons_of_mem _ (ih h)

theorem Tab.mem_put {t : Tab α} {k : Nat} {v : α} {e : Nat × α} (h : e ∈ Tab.put t k v) : e = (k, v) ∨ e ∈ t := by
  induction t with
  | nil => simpa [Tab.put] using h
  | cons e' t ih =>
    obtain ⟨k', v'⟩ := e'
    by_cases h1 : k < k'
    · simpa [Tab.put, h1] using h
    · by_cases h2 : k = k'
      · subst h2
        simp only [Tab.put, lt_irrefl, if_false, if_true, List.mem_cons] at h
        rcases h with h | h
        · exact .inl h
        · exact .inr (List.mem_cons_of_mem _ h)
      · simp only [Tab.put, h1, h2, if_false, List.mem_cons] at h
        rcases h with h | h
        · exact .inr (by simp [h])
        · rcases ih h with h | h
          · exact .inl h
          · exact .inr (List.mem_cons_of_mem _ h)

theorem Tab.wf_iff [DecidableEq α] (d : Nat → α) (t : Tab α) :
    Tab.wf d t = true ↔ Tab.sortedFrom none t = true ∧ ∀ e ∈ t, e.2 ≠ d e.1 := by
  simp [Tab.wf]

theorem Tab.wf_nil [DecidableEq α] (d : Nat → α) : Tab.wf d [] = true := rfl

/-- A write keeps the canonical form. -/
theorem Tab.wf_set [DecidableEq α] (d : Nat → α) (t : Tab α) (k : Nat) (v : α) (h : Tab.wf d t = true) :
    Tab.wf d (Tab.set d t k v) = true := by
  rw [Tab.wf_iff] at h ⊢
  have he := Tab.sortedFrom_erase t none k h.1
  by_cases hv : v = d k
  · simp only [Tab.set, hv, if_true]
    exact ⟨he, fun e m => h.2 e (Tab.mem_erase m)⟩
  · simp only [Tab.set, hv, if_false]
    refine ⟨Tab.sortedFrom_put_none _ k v he, fun e m => ?_⟩
    rcases Tab.mem_put m with m | m
    · simpa [m] using hv
    · exact h.2 e (Tab.mem_erase m)

theorem Tab.sortedFrom_filter (t : Tab α) (lo : Option Nat) (q : Nat × α → Bool) (hs : Tab.sortedFrom lo t = true) :
    Tab.sortedFrom lo (t.filter q) = true := by
  induction t generalizing lo with
  | nil => cases lo <;> rfl
  | cons e t ih =>
    obtain ⟨k, v⟩ := e
    have key : Tab.sortedFrom (some k) t = true := by
      cases lo with
      | none => exact hs
      | some b =>
        simp only [Tab.sortedFrom, Bool.and_eq_true] at hs
        exact hs.2
    by_cases hq : q (k, v)
    · rw [List.filter_cons_of_pos hq]
      cases lo with
      | none => exact ih (some k) key
      | some b =>
        simp only [Tab.sortedFrom, Bool.and_eq_true, decide_eq_true_eq] at hs ⊢
        exact ⟨hs.1, ih (some k) key⟩
    · rw [List.filter_cons_of_neg hq]
      cases lo with
      | none =>
        have := ih (some k) key
        cases hx : List.filter q t with
        | nil => rfl
        | cons e' t' =>
          rw [hx] at this
          simp only [Tab.sortedFrom, Bool.and_eq_true] at this
          exact this.2
      | some b =>
        simp only [Tab.sortedFrom, Bool.and_eq_true, decide_eq_true_eq] at hs
        exact Tab.sortedFrom_weaken _ (by omega) (ih (some k) key)

/-- Dropping keys keeps the canonical form. -/
theorem Tab.wf_drop [DecidableEq α] (d : Nat → α) (p : Nat → Bool) (t : Tab α) (h : Tab.wf d t = true) :
    Tab.wf d (Tab.drop p t) = true := by
  rw [Tab.wf_iff] at h ⊢
  exact ⟨Tab.sortedFrom_filter t none _ h.1, fun e m => h.2 e (List.mem_of_mem_filter m)⟩

/-- A table in canonical form stays as it is. -/
theorem Tab.canon_of_wf [DecidableEq α] (d : Nat → α) (t : Tab α) (h : Tab.wf d t = true) : Tab.canon d t = t := by
  simp [Tab.canon, h]

/-- Any table comes into canonical form. -/
theorem Tab.wf_canon [DecidableEq α] (d : Nat → α) (t : Tab α) : Tab.wf d (Tab.canon d t) = true := by
  by_cases h : Tab.wf d t = true
  · simp [Tab.canon, h]
  · have step : ∀ (l : Tab α) (acc : Tab α), Tab.wf d acc = true →
        Tab.wf d (l.foldl (fun acc p => Tab.set d acc p.1 p.2) acc) = true := by
      intro l
      induction l with
      | nil => intro acc ha; exact ha
      | cons e l ih => intro acc ha; exact ih _ (Tab.wf_set d acc e.1 e.2 ha)
    simp only [Tab.canon, h]
    exact step t [] rfl

end Sys2Proof.Machine
end

