-- ==== Sys2Proof/Laws/Command.lean ====
section
/-!
SUPPORT. Reads after writes of registers, effective copies and memory; what stands around every command: what is cleared before it,
when it acts, and that its end keeps the queue and the canonical form.
-/
namespace Sys2Proof.Machine

/-! ### Registers, effective copies, memory -/

@[simp] theorem State.rd_wr_same (s : State) (a : Nat) (v : Word) : (s.wr a v).rd a = v := Tab.get_set_same _ _ _ _

theorem State.rd_wr_ne (s : State) {a b : Nat} (v : Word) (h : b ≠ a) : (s.wr a v).rd b = s.rd b := Tab.get_set_ne _ _ _ h

theorem State.rd_wr (s : State) (a b : Nat) (v : Word) : (s.wr a v).rd b = if b = a then v else s.rd b := Tab.get_set _ _ _ _ _

@[simp] theorem State.ef_wr (s : State) (a b : Nat) (v : Word) : (s.wr a v).ef b = s.ef b := rfl
@[simp] theorem State.rd_we (s : State) (a b : Nat) (v : Word) : (s.we a v).rd b = s.rd b := rfl
@[simp] theorem State.ef_we_same (s : State) (a : Nat) (v : Word) : (s.we a v).ef a = v := Tab.get_set_same _ _ _ _

theorem State.ef_we (s : State) (a b : Nat) (v : Word) : (s.we a v).ef b = if b = a then v else s.ef b := Tab.get_set _ _ _ _ _

@[simp] theorem State.ld8_wr (s : State) (a b : Nat) (v : Word) : (s.wr a v).ld8 b = s.ld8 b := rfl
@[simp] theorem State.ld8_we (s : State) (a b : Nat) (v : Word) : (s.we a v).ld8 b = s.ld8 b := rfl
@[simp] theorem State.rd_st8 (s : State) (a b : Nat) (v : Byte) : (s.st8 a v).rd b = s.rd b := rfl
@[simp] theorem State.ef_st8 (s : State) (a b : Nat) (v : Byte) : (s.st8 a v).ef b = s.ef b := rfl
@[simp] theorem State.ld8_st8_same (s : State) (a : Nat) (v : Byte) : (s.st8 a v).ld8 a = v := Tab.get_set_same _ _ _ _

theorem State.ld8_st8 (s : State) (a b : Nat) (v : Byte) : (s.st8 a v).ld8 b = if b = a then v else s.ld8 b :=
  Tab.get_set _ _ _ _ _

/-- Bytes stored from `a` on are read back, and every other byte is as it was. -/
theorem State.ld8_stN (l : List Byte) (s : State) (a b : Nat) :
    (s.stN a l).ld8 b = if a ≤ b ∧ b < a + l.length then l.getD (b - a) 0 else s.ld8 b := by
  induction l generalizing s a with
  | nil =>
    have : ¬ (a ≤ b ∧ b < a + ([] : List Byte).length) := by simp
    rw [if_neg this]; rfl
  | cons v l ih =>
    show ((s.st8 a v).stN (a + 1) l).ld8 b = _
    rw [ih, State.ld8_st8]
    by_cases h0 : b = a
    · subst h0
      have h1 : ¬ (b + 1 ≤ b ∧ b < b + 1 + l.length) := by omega
      have h2 : b ≤ b ∧ b < b + (v :: l).length := by simp
      rw [if_neg h1, if_pos rfl, if_pos h2]
      simp
    · by_cases h1 : a + 1 ≤ b ∧ b < a + 1 + l.length
      · have h2 : a ≤ b ∧ b < a + (v :: l).length := by simp only [List.length_cons]; omega
        obtain ⟨k, hk⟩ : ∃ k, b - a = k + 1 := ⟨b - a - 1, by omega⟩
        have hk' : b - (a + 1) = k := by omega
        rw [if_pos h1, if_pos h2, hk, hk']
        simp
      · have h2 : ¬ (a ≤ b ∧ b < a + (v :: l).length) := by simp only [List.length_cons]; omega
        rw [if_neg h1, if_neg h0, if_neg h2]

/-- Every byte of a cleared range reads its unlisted value, and every other byte is as it was. -/
theorem State.ld8_clearMem (s : State) (lo hi a : Nat) :
    (s.clearMem lo hi).ld8 a = if lo ≤ a ∧ a < hi then memDefault a else s.ld8 a := by
  unfold State.clearMem State.ld8
  rw [Tab.get_drop]
  by_cases h : lo ≤ a ∧ a < hi <;> simp [h]

/-! ### The canonical form -/

theorem State.wf_wr (s : State) (a : Nat) (v : Word) (h : s.wf = true) : (s.wr a v).wf = true := by
  simp only [State.wf, Bool.and_eq_true] at h ⊢
  exact ⟨⟨Tab.wf_set _ _ _ _ h.1.1, h.1.2⟩, h.2⟩

theorem State.wf_we (s : State) (a : Nat) (v : Word) (h : s.wf = true) : (s.we a v).wf = true := by
  simp only [State.wf, Bool.and_eq_true] at h ⊢
  exact ⟨⟨h.1.1, Tab.wf_set _ _ _ _ h.1.2⟩, h.2⟩

/-- A store of a byte keeps memory's canonical form. -/
theorem Memory.wf_st8 (s : State) (a : Nat) (b : Byte) (h : Memory.wf s.mem = true) : Memory.wf (s.st8 a b).mem = true :=
  Tab.wf_set _ _ _ _ h

/-- A store of several bytes keeps memory's canonical form. -/
theorem Memory.wf_stN (l : List Byte) (s : State) (a : Nat) (h : Memory.wf s.mem = true) : Memory.wf (s.stN a l).mem = true := by
  induction l generalizing s a with
  | nil => exact h
  | cons b l ih => exact ih (s.st8 a b) (a + 1) (Memory.wf_st8 s a b h)

/-- A word or a number stored little-endian keeps memory's canonical form. -/
theorem Memory.wf_st32 (s : State) (a : Nat) (w : Word) (h : Memory.wf s.mem = true) : Memory.wf (s.st32 a w).mem = true :=
  Memory.wf_stN _ s a h

theorem Memory.wf_st64 (s : State) (a n : Nat) (h : Memory.wf s.mem = true) : Memory.wf (s.st64 a n).mem = true :=
  Memory.wf_stN _ s a h

/-- Clearing a range keeps memory's canonical form. -/
theorem Memory.wf_clearMem (s : State) (lo hi : Nat) (h : Memory.wf s.mem = true) : Memory.wf (s.clearMem lo hi).mem = true := by
  unfold State.clearMem
  exact Tab.wf_drop memDefault (fun k => decide (lo ≤ k ∧ k < hi)) s.mem h

theorem State.wf_st8 (s : State) (a : Nat) (b : Byte) (h : s.wf = true) : (s.st8 a b).wf = true := by
  simp only [State.wf, Bool.and_eq_true] at h ⊢
  exact ⟨h.1, Memory.wf_st8 s a b h.2⟩

theorem State.wf_irq (s : State) (p i : Nat) (h : s.wf = true) : (s.irq p i).wf = true := State.wf_wr _ _ _ h

theorem State.wf_count (s : State) (a n : Nat) (h : s.wf = true) : (s.count a n).wf = true := by
  unfold State.count
  split
  · exact h
  · exact State.wf_wr _ _ _ h

theorem State.canon_of_wf (s : State) (h : s.wf = true) : s.canon = s := by
  simp only [State.wf, Bool.and_eq_true] at h
  show { s with
      regs := Tab.canon (regReset s.variant) s.regs
      eff := Tab.canon (regReset s.variant) s.eff
      mem := Tab.canon memDefault s.mem } = s
  rw [Tab.canon_of_wf _ _ h.1.1, Tab.canon_of_wf _ _ h.1.2, Tab.canon_of_wf _ _ h.2]

theorem State.wf_canon (s : State) : s.canon.wf = true := by
  show (Tab.wf (regReset s.variant) (Tab.canon (regReset s.variant) s.regs) &&
    Tab.wf (regReset s.variant) (Tab.canon (regReset s.variant) s.eff) && Tab.wf memDefault (Tab.canon memDefault s.mem)) = true
  simp [Tab.wf_canon]

/-! ### Before and after a command's own effect -/

@[simp] theorem State.rd_begin (s : State) (a : Nat) : s.begin.rd a = s.rd a := rfl
@[simp] theorem State.ef_begin (s : State) (a : Nat) : s.begin.ef a = s.ef a := rfl
@[simp] theorem State.ld8_begin (s : State) (a : Nat) : s.begin.ld8 a = s.ld8 a := rfl
@[simp] theorem State.running_begin (s : State) : s.begin.running = s.running := rfl
@[simp] theorem State.pageUp_begin (s : State) (p : Nat) : s.begin.pageUp p = s.pageUp p := rfl

@[simp] theorem State.nextTickAt_begin (s : State) : s.begin.nextTickAt = s.nextTickAt := rfl
@[simp] theorem State.rateOn_begin (s : State) : s.begin.rateOn = s.rateOn := rfl
@[simp] theorem State.postReady_begin (s : State) : s.begin.postReady = s.postReady := rfl
@[simp] theorem State.ms_begin (s : State) (m : Nat) : s.begin.ms m = s.ms m := rfl
@[simp] theorem State.isStandby_begin (s : State) : s.begin.isStandby = s.isStandby := rfl
@[simp] theorem State.rdF_begin (s : State) (a hi lo : Nat) : s.begin.rdF a hi lo = s.rdF a hi lo := rfl
@[simp] theorem State.efF_begin (s : State) (a hi lo : Nat) : s.begin.efF a hi lo = s.efF a hi lo := rfl
@[simp] theorem State.rdB_begin (s : State) (a i : Nat) : s.begin.rdB a i = s.rdB a i := rfl
@[simp] theorem State.efB_begin (s : State) (a i : Nat) : s.begin.efB a i = s.efB a i := rfl
@[simp] theorem State.unitOn_begin (s : State) (p : Nat) : s.begin.unitOn p = s.unitOn p := rfl
@[simp] theorem Frame.path_begin (s : State) : Frame.path s.begin = Frame.path s := rfl
@[simp] theorem Frame.window_begin (s : State) : Frame.window s.begin = Frame.window s := rfl

/-! ### Time moved forward -/

/-- Moving time forward moves the clock alone. -/
theorem State.toStake_eq (s : State) (t : Nat) : s.toStake t = { s with clk := { s.clk with
    stake := (s.toStake t).clk.stake, mono := (s.toStake t).clk.mono, aon := (s.toStake t).clk.aon } } := by
  unfold State.toStake; split <;> rfl

theorem State.toMono_eq (s : State) (t : Nat) : s.toMono t = { s with clk := { s.clk with
    stake := (s.toMono t).clk.stake, mono := (s.toMono t).clk.mono, aon := (s.toMono t).clk.aon } } := rfl

/-- Stake time moved forward stands at the instant, or where it stood beyond it. -/
theorem State.toStake_stake (s : State) (t : Nat) : (s.toStake t).clk.stake = max s.clk.stake t := by
  unfold State.toStake; split
  · rename_i h; exact (max_eq_left h).symm
  · rename_i h
    show t = max s.clk.stake t
    exact (max_eq_right (by omega)).symm

/-- Local-counter time moved forward stands at the instant, or where it stood beyond it. -/
theorem State.toMono_mono (s : State) (t : Nat) : (s.toMono t).clk.mono = max s.clk.mono t := by
  show s.clk.mono + (t - s.clk.mono) = _
  omega

/-- A command that acts on a running device does so. -/
theorem State.act_running (s : State) (f : State → State) (h : s.running = true) : s.act f = .next (State.close s (f s.begin)) := by
  simp [State.act, State.force, h]

/-- A command that acts on a running device does nothing on another. -/
theorem State.act_held (s : State) (f : State → State) (h : s.running = false) : s.act f = .next (State.close s s.begin) := by
  simp [State.act, State.force, h]

/-- The end of a command leaves the queue. -/
@[simp] theorem State.close_pending (s t : State) : (State.close s t).pending = s.pending := by simp only [State.close]

/-! ### A write to a register -/

/-- An address of page `p` at offset `o` names them. -/
theorem Page.addr_page {p o : Nat} (h : o < 0x1000) : (p * 0x1000 + o) / 0x1000 = p ∧ (p * 0x1000 + o) % 0x1000 = o := by omega

/-- What a write at a page offset comes to, by the kind of the offset. -/
theorem Page.write_at (s : State) (ini : Nat) (tick : Option Nat) (p o : Nat) (v : Word) (ho : o < 0x800) (h4 : o % 4 = 0)
    (up : s.pageUp p = true) :
    Page.write s ini tick (p * 0x1000 + o) v =
      if o = 0x08 then Page.ctrl s p v tick
      else if o = 0x14 then s.wr (p * 0x1000 + o) (v &&& w32 (irqMask ((unitOf p).getD 0)))
      else if o = 0x18 then
        s.wr (Reg.irqStatus p) (s.rd (Reg.irqStatus p) ||| (v &&& w32 (irqMask ((unitOf p).getD 0))))
      else if o = 0x1C then Page.commitWrite s p v
      else if o = 0x2C then Page.causeClear s p v
      else if o < 0x40 then Page.store s tick p o v
      else match Page.action s ini tick p o v with
        | some s1 => s1
        | none => Page.store s tick p o v := by
  obtain ⟨hp, hq⟩ := Page.addr_page (p := p) (show o < 0x1000 by omega)
  have h2 : ¬ (o % 4 ≠ 0 ∨ 0x800 ≤ o) := by omega
  simp only [Page.write, hp, hq, up, Bool.not_true, Bool.false_eq_true, if_false, if_neg h2]
  all_goals rfl

/-- A write to a register of an absent, unpowered or stopped page is counted by the Weave. -/
theorem Page.write_absent (s : State) (ini : Nat) (tick : Option Nat) (p o : Nat) (v : Word) (ho : o < 0x1000)
    (up : s.pageUp p = false) : Page.write s ini tick (p * 0x1000 + o) v = s.discard := by
  obtain ⟨hp, -⟩ := Page.addr_page (p := p) ho
  simp only [Page.write, hp, up, Bool.not_false, if_true]

/-- There are 256 pages. -/
theorem unitOf_ge {p : Nat} (h : 256 ≤ p) : unitOf p = none := by
  unfold unitOf
  repeat rw [if_neg (by omega)]

/-! ### Fields of a word -/

/-- A field written is read back. -/
theorem fld_setFld (w : Word) (hi lo v : Nat) (h : hi < 32) (hl : lo ≤ hi) :
    fld (setFld w hi lo v) hi lo = v % 2 ^ (hi + 1 - lo) := by
  unfold fld setFld w32
  apply Nat.eq_of_testBit_eq
  intro i
  simp only [Nat.testBit_mod_two_pow, Nat.testBit_shiftRight, BitVec.testBit_toNat, BitVec.getLsbD_or, BitVec.getLsbD_and,
    BitVec.getLsbD_not, BitVec.getLsbD_ofNat, Nat.testBit_shiftLeft, Nat.testBit_two_pow_sub_one]
  by_cases hi' : i < hi + 1 - lo
  · have h1 : lo + i < 32 := by omega
    have h2 : lo + i - lo = i := by omega
    have h3 : lo ≤ lo + i := by omega
    simp [hi', h1, h2]
  · simp [hi']

/-- A bit written is read back. -/
theorem bit_setBit (w : Word) (i : Nat) (b : Bool) (h : i < 32) : bit (setBit w i b) i = b := by
  unfold bit setBit setFld w32
  simp only [BitVec.getLsbD_or, BitVec.getLsbD_and, BitVec.getLsbD_not, BitVec.getLsbD_ofNat, Nat.testBit_shiftLeft,
    Nat.testBit_two_pow_sub_one, Nat.testBit_mod_two_pow]
  have h1 : i - i < i + 1 - i := by omega
  cases b <;> simp [h]

/-! ### Folds -/

/-- What every step of a fold keeps, the fold keeps. -/
theorem foldl_keeps {σ α β : Type} (g : σ → β) (f : σ → α → σ) (h : ∀ s a, g (f s a) = g s) (l : List α) (s : σ) :
    g (l.foldl f s) = g s := by
  induction l generalizing s with
  | nil => rfl
  | cons a l ih => exact (ih (f s a)).trans (h s a)

/-! ### Completion -/

/-- A command that acts on a running device completes with what its effect leads to. -/
theorem completes_act {c : Instr} {s : State} {f : State → State} {P : State → Prop} (he : exec c s = s.act f)
    (hr : s.running = true) (h : P (f s.begin)) : Completes c s P :=
  ⟨_, he.trans (State.act_running s f hr), h⟩

/-- A command that acts on any device completes with what its effect leads to. -/
theorem completes_force {c : Instr} {s : State} {f : State → State} {P : State → Prop} (he : exec c s = s.force f)
    (h : P (f s.begin)) : Completes c s P := ⟨_, he, h⟩

/-- A page that answers belongs to a device that runs. -/
theorem State.running_of_pageUp {s : State} {p : Nat} (h : s.pageUp p = true) : s.running = true := by
  simp only [State.pageUp, Bool.and_eq_true] at h
  exact h.1.1.1

@[simp] theorem Page.commit_setCommit (s : State) (p : Nat) (c : Option PendCommit) :
    (Page.setCommit s p c).ctl.commit p = c := by
  unfold Page.setCommit Ctl.commit
  rw [Tab.get_set_same]

/-! ### Interrupt bits, counters and fault codes -/

/-- An interrupt bit is set, and no other register changes. -/
theorem State.irq_bit (s : State) (p i : Nat) (h : i < 32) : bit ((s.irq p i).rd (Reg.irqStatus p)) i = true := by
  unfold State.irq; rw [State.rd_wr_same, bit_setBit _ _ _ h]

theorem State.irq_ne (s : State) (p i : Nat) {a : Nat} (h : a ≠ Reg.irqStatus p) : (s.irq p i).rd a = s.rd a := State.rd_wr_ne _ _ h

/-- A counter moves by one, and no other register changes. -/
theorem State.count_same (s : State) (a : Nat) : (s.count a 1).rd a = satAdd (s.rd a) 1 := by
  unfold State.count; rw [if_neg (by decide), State.rd_wr_same]

theorem State.count_ne (s : State) {a b : Nat} (n : Nat) (h : b ≠ a) : (s.count a n).rd b = s.rd b := by
  unfold State.count; split
  · rfl
  · exact State.rd_wr_ne _ _ h

theorem State.rd_fault (s : State) (f : FaultSt) (a : Nat) : ({ s with fault := f } : State).rd a = s.rd a := rfl

/-- A fault record writes no register but the FAULT page's status and overflow count. -/
theorem State.addRecord_ne (s : State) (p code c d : Nat) {a : Nat} (h1 : a ≠ Reg.irqStatus 7) (h2 : a ≠ Reg.faultOverflow) :
    (s.addRecord p code c d).rd a = s.rd a := by
  unfold State.addRecord
  simp only []
  split <;> split <;> (try split) <;> simp only [State.rd_fault, State.irq_ne _ _ _ h1, State.count_ne _ _ h2]

/-- A fault code writes the page's cause and count, and the FAULT page's status and overflow count. -/
theorem State.faultD_ne (s : State) (p code d : Nat) {a : Nat} (h1 : a ≠ Reg.faultCause p) (h2 : a ≠ Reg.faultCount p)
    (h3 : a ≠ Reg.irqStatus 7) (h4 : a ≠ Reg.faultOverflow) : (s.faultD p code d).rd a = s.rd a := by
  have h0 : ((s.wrF (Reg.faultCause p) 7 0 code).faultTick p).rd a = s.rd a := by
    unfold State.faultTick; rw [State.count_ne _ _ h2]; exact State.rd_wr_ne _ _ h1
  unfold State.faultD
  simp only []
  split
  · exact h0
  · split
    · exact h0
    · rw [State.addRecord_ne _ _ _ _ _ h3 h4]; exact h0

/-- A page's cause holds the code of its latest fault. -/
theorem State.faultD_cause (s : State) (p code d : Nat) (hc : code < 256) :
    fld ((s.faultD p code d).rd (Reg.faultCause p)) 7 0 = code := by
  have e1 : Reg.faultCause p ≠ Reg.irqStatus 7 := by unfold Reg.faultCause Reg.irqStatus; omega
  have e2 : Reg.faultCause p ≠ Reg.faultOverflow := by unfold Reg.faultCause Reg.faultOverflow; omega
  have e3 : Reg.faultCause p ≠ Reg.faultCount p := by unfold Reg.faultCause Reg.faultCount; omega
  have h0 : fld (((s.wrF (Reg.faultCause p) 7 0 code).faultTick p).rd (Reg.faultCause p)) 7 0 = code := by
    unfold State.faultTick State.wrF
    rw [State.count_ne _ _ e3, State.rd_wr_same, fld_setFld _ _ _ _ (by omega) (by omega)]
    exact Nat.mod_eq_of_lt hc
  unfold State.faultD
  simp only []
  split
  · exact h0
  · split
    · exact h0
    · rw [State.addRecord_ne _ _ _ _ _ e1 e2]; exact h0

end Sys2Proof.Machine
end

