-- ==== Sys2Proof/Laws/Coil.lean ====
section
/-!
SUPPORT. What the Coil's arming, releases, completions and misses can touch: registers, the Coil's own state, fault records and the
tiers to be stepped, and nothing else.
-/
namespace Sys2Proof.Machine

theorem State.coilOnly_refl (s : State) : State.coilOnly s s := rfl

theorem State.coilOnly_trans {s t u : State} (h1 : State.coilOnly s t) (h2 : State.coilOnly t u) : State.coilOnly s u := by
  unfold State.coilOnly at h1 h2 ⊢
  rw [h1] at h2
  exact h2

/-- A chain of changes, one per list entry. -/
theorem State.coilOnly_foldl {α : Type} (f : State → α → State) (h : ∀ s a, State.coilOnly s (f s a)) (l : List α) (s : State) :
    State.coilOnly s (l.foldl f s) := by
  induction l generalizing s with
  | nil => exact State.coilOnly_refl s
  | cons a l ih => exact State.coilOnly_trans (h s a) (ih (f s a))

theorem State.coilOnly_count (s : State) (a n : Nat) : State.coilOnly s (s.count a n) := by
  unfold State.count; split <;> rfl

theorem State.coilOnly_irq (s : State) (p i : Nat) : State.coilOnly s (s.irq p i) := rfl

theorem State.coilOnly_faultD (s : State) (p code d : Nat) : State.coilOnly s (s.faultD p code d) := by
  unfold State.coilOnly; rw [State.faultD_eq]

theorem State.coilOnly_coil (s : State) (c : CoilSt) : State.coilOnly s { s with coil := c } := rfl

theorem Coil.setNode_only (s : State) (i : Nat) (x : NodeSt) : State.coilOnly s (Coil.setNode s i x) := rfl
theorem Coil.event_only (s : State) : State.coilOnly s (Coil.event s) := rfl
theorem Coil.dropAct_only (s : State) (a : Act) : State.coilOnly s (Coil.dropAct s a) := rfl
theorem Coil.setAct_only (s : State) (a b : Act) : State.coilOnly s (Coil.setAct s a b) := rfl

theorem Coil.bump_only (s : State) (i : Nat) (d : Int) : State.coilOnly s (Coil.bump s i d) := by
  unfold Coil.bump
  simp only []
  split
  · exact State.coilOnly_trans (State.coilOnly_trans (Coil.setNode_only s i _) (State.coilOnly_irq _ _ _)) (State.coilOnly_faultD _ _ _ _)
  · exact Coil.setNode_only s i _

theorem Coil.armNode_only (s : State) (i : Nat) : State.coilOnly s (Coil.armNode s i) := by
  unfold Coil.armNode
  simp only []
  split
  · exact State.coilOnly_trans (Coil.setNode_only s i _) (Coil.setNode_only _ i _)
  · exact State.coilOnly_trans (Coil.bump_only s i _) (Coil.setNode_only _ i _)

theorem Coil.addAct_only (s : State) (i cause key : Nat) (d : Option Nat) : State.coilOnly s (Coil.addAct s i cause key d) := by
  unfold Coil.addAct
  simp only []
  split
  · exact State.coilOnly_trans (State.coilOnly_coil s _) (State.coilOnly_count _ _ _)
  · exact State.coilOnly_coil s _

theorem Coil.rearm_only (s : State) (i : Nat) : State.coilOnly s (Coil.rearm s i) := by
  unfold Coil.rearm
  simp only []
  split
  · exact Coil.armNode_only s i
  · exact State.coilOnly_refl s

theorem Coil.doRelease_only (s : State) (i cause key : Nat) : State.coilOnly s (Coil.doRelease s i cause key).1 := by
  unfold Coil.doRelease
  simp only []
  split
  · exact State.coilOnly_trans (Coil.setNode_only s i _) (Coil.setNode_only _ i _)
  · split
    · exact State.coilOnly_trans (Coil.setNode_only s i _) (Coil.setNode_only _ i _)
    · exact State.coilOnly_trans (State.coilOnly_trans (Coil.setNode_only s i _) (Coil.addAct_only _ _ _ _ _)) (Coil.setNode_only _ i _)

theorem Coil.tryRelease_only (s : State) (i cause key : Nat) : State.coilOnly s (Coil.tryRelease s i cause key).1 := by
  unfold Coil.tryRelease
  simp only []
  split
  · exact State.coilOnly_refl s
  · split
    · split
      · exact Coil.setNode_only s i _
      · exact Coil.doRelease_only s i cause key
    · exact Coil.doRelease_only s i cause key

theorem Coil.endAtOnce_only (s : State) (i : Nat) : State.coilOnly s (Coil.endAtOnce s i) := by
  unfold Coil.endAtOnce
  by_cases hc : Coil.cls s i = 1
  · simp only [if_pos hc]
    split
    · exact State.coilOnly_trans (State.coilOnly_trans (State.coilOnly_coil s _) (Coil.rearm_only _ i)) (Coil.setNode_only _ i _)
    · exact State.coilOnly_trans (State.coilOnly_coil s _) (Coil.rearm_only _ i)
  · simp only [if_neg hc]
    split
    · exact State.coilOnly_trans (Coil.rearm_only s i) (Coil.setNode_only _ i _)
    · exact Coil.rearm_only s i

theorem Coil.settle_only (f : Nat) (s : State) (cause key : Nat) (l : List (Nat × Option Bool)) :
    State.coilOnly s (Coil.settle f s cause key l) := by
  induction f generalizing s l with
  | zero => exact State.coilOnly_refl s
  | succ f ih =>
    match l with
    | [] => exact State.coilOnly_refl s
    | (j, sig) :: rest =>
      have h1 : State.coilOnly s (if sig.isSome = true then Coil.bump s j (-1) else s) := by
        split
        · exact Coil.bump_only s j _
        · exact State.coilOnly_refl s
      unfold Coil.settle
      simp only []
      generalize (if sig.isSome = true then Coil.bump s j (-1) else s) = s1 at h1 ⊢
      have h2 : State.coilOnly s (if sig = some true then Coil.setNode s1 j { Coil.node s1 j with lateIn := true } else s1) := by
        split
        · exact State.coilOnly_trans h1 (Coil.setNode_only s1 j _)
        · exact h1
      generalize (if sig = some true then Coil.setNode s1 j { Coil.node s1 j with lateIn := true } else s1) = s2 at h2 ⊢
      have h3 := State.coilOnly_trans h2 (Coil.tryRelease_only s2 j cause key)
      revert h3
      cases Coil.tryRelease s2 j cause key with
      | mk s3 done =>
        intro h3
        cases done with
        | none => exact State.coilOnly_trans h3 (ih s3 rest)
        | some b => exact State.coilOnly_trans (State.coilOnly_trans h3 (Coil.endAtOnce_only s3 j)) (ih _ _)

theorem Coil.release_only (s : State) (i cause key : Nat) : State.coilOnly s (Coil.release s i cause key) :=
  Coil.settle_only _ _ _ _ _

theorem Coil.arm_only (s : State) (i cause key : Nat) : State.coilOnly s (Coil.arm s i cause key) :=
  State.coilOnly_trans (Coil.armNode_only s i) (Coil.release_only _ i cause key)

theorem Coil.fire_only (s : State) (k : Nat) : State.coilOnly s (Coil.fire s k) := Coil.settle_only _ _ _ _ _

theorem Coil.finish_only (s : State) (i : Nat) (late : Bool) (cause key : Nat) : State.coilOnly s (Coil.finish s i late cause key) := by
  unfold Coil.finish
  exact State.coilOnly_trans (State.coilOnly_trans (State.coilOnly_trans (Coil.setNode_only s i _) (Coil.settle_only _ _ _ _ _))
    (Coil.rearm_only _ i)) (Coil.release_only _ i cause key)

theorem Coil.resumed_only (s : State) (k : Nat) : State.coilOnly s (Coil.resumed s k) := by
  unfold Coil.resumed
  split
  · exact State.coilOnly_coil s _
  · exact State.coilOnly_refl s

theorem Coil.windowEnd_only (s : State) (n : Nat) : State.coilOnly s (Coil.windowEnd s n) := by
  unfold Coil.windowEnd
  refine State.coilOnly_trans (State.coilOnly_trans (Coil.event_only s) (Coil.fire_only _ 3)) (State.coilOnly_foldl _ (fun s i => ?_) _ _)
  split
  · exact Coil.arm_only s i 1 n
  · exact State.coilOnly_refl s

theorem Coil.corrRelease_only (s : State) (l : List Nat) : State.coilOnly s (Coil.corrRelease s l) :=
  State.coilOnly_foldl _ (fun s _ => Coil.addAct_only s _ _ _ _) l s

theorem State.missStep_only (s : State) : State.coilOnly s s.missStep := by
  unfold State.missStep
  split
  · exact State.coilOnly_refl s
  · rfl

theorem Coil.miss_only (s : State) (i : Nat) : State.coilOnly s (Coil.miss s i) := by
  unfold Coil.miss
  simp only []
  split
  · exact State.coilOnly_refl s
  · refine State.coilOnly_trans ?_ (Coil.settle_only _ _ _ _ _)
    refine State.coilOnly_trans ?_ (Coil.event_only _)
    refine State.coilOnly_trans ?_ (State.missStep_only _)
    refine State.coilOnly_trans ?_ (State.coilOnly_faultD _ _ _ _)
    refine State.coilOnly_trans ?_ (State.coilOnly_irq _ _ _)
    refine State.coilOnly_trans ?_ (State.coilOnly_count _ _ _)
    refine State.coilOnly_trans ?_ (State.coilOnly_foldl _ (fun s j => Coil.setNode_only s j _) _ _)
    refine State.coilOnly_trans ?_ (State.coilOnly_foldl _ (fun s k => Coil.resumed_only s k) _ _)
    exact State.coilOnly_coil s _

theorem Coil.cutoff_only (s : State) (pt : Nat) : State.coilOnly s (Coil.cutoff s pt) :=
  State.coilOnly_foldl _ (fun s i => Coil.miss_only s i) _ s

theorem State.coilOnly_clk {s t : State} (h : State.coilOnly s t) : t.clk = s.clk := by rw [h]
theorem State.coilOnly_mem {s t : State} (h : State.coilOnly s t) : t.mem = s.mem := by rw [h]

end Sys2Proof.Machine
end

