-- ==== Sys2Proof/Laws/Dispatch.lean ====
section
/-!
SUPPORT. One lemma per command: the meaning that `exec` calls; and one lemma that says what shapes the meanings have.
-/
namespace Sys2Proof.Machine

theorem exec_frameTick (env : TickEnv) (s : State) : exec (.frameTick env) s = execFrameTick env s := rfl
theorem exec_directWindowEnd (slack : Option Nat) (s : State) : exec (.directWindowEnd slack) s = execDirectWindowEnd slack s := rfl
theorem exec_registerWrite (ini : Nat) (addr : Nat) (v : Word) (s : State) : exec (.registerWrite ini addr v) s = execRegisterWrite ini addr v s := rfl
theorem exec_loReadLatch (ini : Nat) (addr : Nat) (s : State) : exec (.loReadLatch ini addr) s = execLoReadLatch ini addr s := rfl
theorem exec_commitRequest (page : Nat) (alsoCancel : Bool) (s : State) : exec (.commitRequest page alsoCancel) s = execCommitRequest page alsoCancel s := rfl
theorem exec_commitCancel (page : Nat) (s : State) : exec (.commitCancel page) s = execCommitCancel page s := rfl
theorem exec_pageEnableWrite (page : Nat) (enable : Bool) (s : State) : exec (.pageEnableWrite page enable) s = execPageEnableWrite page enable s := rfl
theorem exec_softReset (page : Nat) (enable : Bool) (s : State) : exec (.softReset page enable) s = execSoftReset page enable s := rfl
theorem exec_faultCauseClear (page : Nat) (s : State) : exec (.faultCauseClear page) s = execFaultCauseClear page s := rfl
theorem exec_irqForce (page : Nat) (v : Word) (s : State) : exec (.irqForce page v) s = execIrqForce page v s := rfl
theorem exec_irqEoi (vector : Nat) (s : State) : exec (.irqEoi vector) s = execIrqEoi vector s := rfl
theorem exec_spiRead (addr : Nat) (words : Nat) (s : State) : exec (.spiRead addr words) s = execSpiRead addr words s := rfl
theorem exec_spiWrite (addr : Nat) (words : Nat) (data : List Byte) (crc : Byte) (s : State) : exec (.spiWrite addr words data crc) s = execSpiWrite addr words data crc s := rfl
theorem exec_dmaRun (ch : Nat) (s : State) : exec (.dmaRun ch) s = execDmaRun ch s := rfl
theorem exec_dmaDescriptorDone (ch : Nat) (words : List Byte) (data : List Byte) (s : State) : exec (.dmaDescriptorDone ch words data) s = execDmaDescriptorDone ch words data s := rfl
theorem exec_plaitOpen (ini : Nat) (s : State) : exec (.plaitOpen ini) s = execPlaitOpen ini s := rfl
theorem exec_plaitCapture (ini : Nat) (addr : Nat) (v : Word) (s : State) : exec (.plaitCapture ini addr v) s = execPlaitCapture ini addr v s := rfl
theorem exec_plaitCommitNextFrame (ini : Nat) (allowTier : Bool) (s : State) : exec (.plaitCommitNextFrame ini allowTier) s = execPlaitCommitNextFrame ini allowTier s := rfl
theorem exec_plaitCommitFrameIndex (ini : Nat) (allowTier : Bool) (s : State) : exec (.plaitCommitFrameIndex ini allowTier) s = execPlaitCommitFrameIndex ini allowTier s := rfl
theorem exec_plaitCommitPtpTime (ini : Nat) (allowTier : Bool) (s : State) : exec (.plaitCommitPtpTime ini allowTier) s = execPlaitCommitPtpTime ini allowTier s := rfl
theorem exec_plaitCommitDecision (slot : Nat) (s : State) : exec (.plaitCommitDecision slot) s = execPlaitCommitDecision slot s := rfl
theorem exec_plaitAbort (slot : Nat) (ticket : Nat) (s : State) : exec (.plaitAbort slot ticket) s = execPlaitAbort slot ticket s := rfl
theorem exec_layoutBuild (v : Word) (s : State) : exec (.layoutBuild v) s = execLayoutBuild v s := rfl
theorem exec_objectLate (obj : Nat) (s : State) : exec (.objectLate obj) s = execObjectLate obj s := rfl
theorem exec_objectHold (obj : Nat) (s : State) : exec (.objectHold obj) s = execObjectHold obj s := rfl
theorem exec_felotMessage (net : Nat) (dstIp : Nat) (dstPort : Nat) (srcIp : Nat) (payload : List Byte) (s : State) : exec (.felotMessage net dstIp dstPort srcIp payload) s = execFelotMessage net dstIp dstPort srcIp payload s := rfl
theorem exec_warpDirectPost (gain : Word) (busy : Bool) (s : State) : exec (.warpDirectPost gain busy) s = execWarpDirectPost gain busy s := rfl
theorem exec_corrBankPost (v : Word) (s : State) : exec (.corrBankPost v) s = execCorrBankPost v s := rfl
theorem exec_corrGainPost (v : Word) (s : State) : exec (.corrGainPost v) s = execCorrGainPost v s := rfl
theorem exec_corrMutePost (v : Word) (s : State) : exec (.corrMutePost v) s = execCorrMutePost v s := rfl
theorem exec_corrPreparation (v : Word) (s : State) : exec (.corrPreparation v) s = execCorrPreparation v s := rfl
theorem exec_partitionLate (out : Nat) (part : Nat) (start : Nat) (s : State) : exec (.partitionLate out part start) s = execPartitionLate out part start s := rfl
theorem exec_transitionEnd (out : Nat) (s : State) : exec (.transitionEnd out) s = execTransitionEnd out s := rfl
theorem exec_deferredRelease (node : Nat) (s : State) : exec (.deferredRelease node) s = execDeferredRelease node s := rfl
theorem exec_affinityWaitExpiry (node : Nat) (s : State) : exec (.affinityWaitExpiry node) s = execAffinityWaitExpiry node s := rfl
theorem exec_nodeComplete (node : Nat) (writes : List (Nat × Int)) (s : State) : exec (.nodeComplete node writes) s = execNodeComplete node writes s := rfl
theorem exec_coilSubmit (node : Nat) (s : State) : exec (.coilSubmit node) s = execCoilSubmit node s := rfl
theorem exec_activationLate (node : Nat) (s : State) : exec (.activationLate node) s = execActivationLate node s := rfl
theorem exec_directCostStop (core : Nat) (s : State) : exec (.directCostStop core) s = execDirectCostStop core s := rfl
theorem exec_instructionWrite (core : Nat) (bundle : Nat) (broadcast : Bool) (w : Word) (s : State) : exec (.instructionWrite core bundle broadcast w) s = execInstructionWrite core bundle broadcast w s := rfl
theorem exec_transferComplete (core : Nat) (s : State) : exec (.transferComplete core) s = execTransferComplete core s := rfl
theorem exec_osierWindowAccessRelease (core : Nat) (s : State) : exec (.osierWindowAccessRelease core) s = execOsierWindowAccessRelease core s := rfl
theorem exec_injectParity (core : Nat) (s : State) : exec (.injectParity core) s = execInjectParity core s := rfl
theorem exec_injectResidue (core : Nat) (s : State) : exec (.injectResidue core) s = execInjectResidue core s := rfl
theorem exec_nop (core : Nat) (f : Slots) (s : State) : exec (.nop core f) s = execNop core f s := rfl
theorem exec_br (core : Nat) (f : Slots) (s : State) : exec (.br core f) s = execBr core f s := rfl
theorem exec_call (core : Nat) (f : Slots) (s : State) : exec (.call core f) s = execCall core f s := rfl
theorem exec_jr (core : Nat) (f : Slots) (s : State) : exec (.jr core f) s = execJr core f s := rfl
theorem exec_loop (core : Nat) (f : Slots) (s : State) : exec (.loop core f) s = execLoop core f s := rfl
theorem exec_loopi (core : Nat) (f : Slots) (s : State) : exec (.loopi core f) s = execLoopi core f s := rfl
theorem exec_endl (core : Nat) (f : Slots) (s : State) : exec (.endl core f) s = execEndl core f s := rfl
theorem exec_movsr (core : Nat) (f : Slots) (s : State) : exec (.movsr core f) s = execMovsr core f s := rfl
theorem exec_movrs (core : Nat) (f : Slots) (s : State) : exec (.movrs core f) s = execMovrs core f s := rfl
theorem exec_bexpr (core : Nat) (f : Slots) (s : State) : exec (.bexpr core f) s = execBexpr core f s := rfl
theorem exec_add (core : Nat) (f : Slots) (s : State) : exec (.add core f) s = execAdd core f s := rfl
theorem exec_sub (core : Nat) (f : Slots) (s : State) : exec (.sub core f) s = execSub core f s := rfl
theorem exec_and (core : Nat) (f : Slots) (s : State) : exec (.and core f) s = execAnd core f s := rfl
theorem exec_or (core : Nat) (f : Slots) (s : State) : exec (.or core f) s = execOr core f s := rfl
theorem exec_xor (core : Nat) (f : Slots) (s : State) : exec (.xor core f) s = execXor core f s := rfl
theorem exec_shl (core : Nat) (f : Slots) (s : State) : exec (.shl core f) s = execShl core f s := rfl
theorem exec_shr (core : Nat) (f : Slots) (s : State) : exec (.shr core f) s = execShr core f s := rfl
theorem exec_sar (core : Nat) (f : Slots) (s : State) : exec (.sar core f) s = execSar core f s := rfl
theorem exec_min (core : Nat) (f : Slots) (s : State) : exec (.min core f) s = execMin core f s := rfl
theorem exec_max (core : Nat) (f : Slots) (s : State) : exec (.max core f) s = execMax core f s := rfl
theorem exec_mul (core : Nat) (f : Slots) (s : State) : exec (.mul core f) s = execMul core f s := rfl
theorem exec_addi (core : Nat) (f : Slots) (s : State) : exec (.addi core f) s = execAddi core f s := rfl
theorem exec_cmp (core : Nat) (f : Slots) (s : State) : exec (.cmp core f) s = execCmp core f s := rfl
theorem exec_cmpi (core : Nat) (f : Slots) (s : State) : exec (.cmpi core f) s = execCmpi core f s := rfl
theorem exec_movi (core : Nat) (f : Slots) (s : State) : exec (.movi core f) s = execMovi core f s := rfl
theorem exec_movu (core : Nat) (f : Slots) (s : State) : exec (.movu core f) s = execMovu core f s := rfl
theorem exec_vadd (core : Nat) (f : Slots) (s : State) : exec (.vadd core f) s = execVadd core f s := rfl
theorem exec_vsub (core : Nat) (f : Slots) (s : State) : exec (.vsub core f) s = execVsub core f s := rfl
theorem exec_vaddw (core : Nat) (f : Slots) (s : State) : exec (.vaddw core f) s = execVaddw core f s := rfl
theorem exec_vsubw (core : Nat) (f : Slots) (s : State) : exec (.vsubw core f) s = execVsubw core f s := rfl
theorem exec_vneg (core : Nat) (f : Slots) (s : State) : exec (.vneg core f) s = execVneg core f s := rfl
theorem exec_vabs (core : Nat) (f : Slots) (s : State) : exec (.vabs core f) s = execVabs core f s := rfl
theorem exec_vand (core : Nat) (f : Slots) (s : State) : exec (.vand core f) s = execVand core f s := rfl
theorem exec_vor (core : Nat) (f : Slots) (s : State) : exec (.vor core f) s = execVor core f s := rfl
theorem exec_vxor (core : Nat) (f : Slots) (s : State) : exec (.vxor core f) s = execVxor core f s := rfl
theorem exec_vmin (core : Nat) (f : Slots) (s : State) : exec (.vmin core f) s = execVmin core f s := rfl
theorem exec_vmax (core : Nat) (f : Slots) (s : State) : exec (.vmax core f) s = execVmax core f s := rfl
theorem exec_vscale (core : Nat) (f : Slots) (s : State) : exec (.vscale core f) s = execVscale core f s := rfl
theorem exec_vshli (core : Nat) (f : Slots) (s : State) : exec (.vshli core f) s = execVshli core f s := rfl
theorem exec_vperm (core : Nat) (f : Slots) (s : State) : exec (.vperm core f) s = execVperm core f s := rfl
theorem exec_vbcast (core : Nat) (f : Slots) (s : State) : exec (.vbcast core f) s = execVbcast core f s := rfl
theorem exec_vins (core : Nat) (f : Slots) (s : State) : exec (.vins core f) s = execVins core f s := rfl
theorem exec_vext (core : Nat) (f : Slots) (s : State) : exec (.vext core f) s = execVext core f s := rfl
theorem exec_vmulr (core : Nat) (f : Slots) (s : State) : exec (.vmulr core f) s = execVmulr core f s := rfl
theorem exec_vmulrs (core : Nat) (f : Slots) (s : State) : exec (.vmulrs core f) s = execVmulrs core f s := rfl
theorem exec_vcmul (core : Nat) (f : Slots) (s : State) : exec (.vcmul core f) s = execVcmul core f s := rfl
theorem exec_vcmulj (core : Nat) (f : Slots) (s : State) : exec (.vcmulj core f) s = execVcmulj core f s := rfl
theorem exec_mpy (core : Nat) (f : Slots) (s : State) : exec (.mpy core f) s = execMpy core f s := rfl
theorem exec_mac (core : Nat) (f : Slots) (s : State) : exec (.mac core f) s = execMac core f s := rfl
theorem exec_msu (core : Nat) (f : Slots) (s : State) : exec (.msu core f) s = execMsu core f s := rfl
theorem exec_mpys (core : Nat) (f : Slots) (s : State) : exec (.mpys core f) s = execMpys core f s := rfl
theorem exec_macs (core : Nat) (f : Slots) (s : State) : exec (.macs core f) s = execMacs core f s := rfl
theorem exec_msus (core : Nat) (f : Slots) (s : State) : exec (.msus core f) s = execMsus core f s := rfl
theorem exec_acclr (core : Nat) (f : Slots) (s : State) : exec (.acclr core f) s = execAcclr core f s := rfl
theorem exec_acld (core : Nat) (f : Slots) (s : State) : exec (.acld core f) s = execAcld core f s := rfl
theorem exec_acadd (core : Nat) (f : Slots) (s : State) : exec (.acadd core f) s = execAcadd core f s := rfl
theorem exec_acaddv (core : Nat) (f : Slots) (s : State) : exec (.acaddv core f) s = execAcaddv core f s := rfl
theorem exec_acsubv (core : Nat) (f : Slots) (s : State) : exec (.acsubv core f) s = execAcsubv core f s := rfl
theorem exec_vbf (core : Nat) (f : Slots) (s : State) : exec (.vbf core f) s = execVbf core f s := rfl
theorem exec_acsum (core : Nat) (f : Slots) (s : State) : exec (.acsum core f) s = execAcsum core f s := rfl
theorem exec_acsh (core : Nat) (f : Slots) (s : State) : exec (.acsh core f) s = execAcsh core f s := rfl
theorem exec_acget (core : Nat) (f : Slots) (s : State) : exec (.acget core f) s = execAcget core f s := rfl
theorem exec_acput (core : Nat) (f : Slots) (s : State) : exec (.acput core f) s = execAcput core f s := rfl
theorem exec_acrnd (core : Nat) (f : Slots) (s : State) : exec (.acrnd core f) s = execAcrnd core f s := rfl
theorem exec_acrndb (core : Nat) (f : Slots) (s : State) : exec (.acrndb core f) s = execAcrndb core f s := rfl
theorem exec_actrn (core : Nat) (f : Slots) (s : State) : exec (.actrn core f) s = execActrn core f s := rfl
theorem exec_exp (core : Nat) (f : Slots) (s : State) : exec (.exp core f) s = execExp core f s := rfl
theorem exec_acexp (core : Nat) (f : Slots) (s : State) : exec (.acexp core f) s = execAcexp core f s := rfl
theorem exec_norm (core : Nat) (f : Slots) (s : State) : exec (.norm core f) s = execNorm core f s := rfl
theorem exec_bexp (core : Nat) (f : Slots) (s : State) : exec (.bexp core f) s = execBexp core f s := rfl
theorem exec_frd (core : Nat) (f : Slots) (s : State) : exec (.frd core f) s = execFrd core f s := rfl
theorem exec_fwr (core : Nat) (f : Slots) (s : State) : exec (.fwr core f) s = execFwr core f s := rfl
theorem exec_xrd (core : Nat) (f : Slots) (s : State) : exec (.xrd core f) s = execXrd core f s := rfl
theorem exec_xwr (core : Nat) (f : Slots) (s : State) : exec (.xwr core f) s = execXwr core f s := rfl
theorem exec_ldv (core : Nat) (y : Bool) (move : MoveArgs) (op : BitVec 8) (f : Slots) (s : State) : exec (.ldv core y move op f) s = execLdv core y move op f s := rfl
theorem exec_stv (core : Nat) (y : Bool) (move : MoveArgs) (op : BitVec 8) (f : Slots) (s : State) : exec (.stv core y move op f) s = execStv core y move op f s := rfl
theorem exec_lds (core : Nat) (y : Bool) (move : MoveArgs) (op : BitVec 8) (f : Slots) (s : State) : exec (.lds core y move op f) s = execLds core y move op f s := rfl
theorem exec_sts (core : Nat) (y : Bool) (move : MoveArgs) (op : BitVec 8) (f : Slots) (s : State) : exec (.sts core y move op f) s = execSts core y move op f s := rfl
theorem exec_ldb (core : Nat) (y : Bool) (move : MoveArgs) (op : BitVec 8) (f : Slots) (s : State) : exec (.ldb core y move op f) s = execLdb core y move op f s := rfl
theorem exec_upd (core : Nat) (arg : BitVec 8) (op : BitVec 8) (f : Slots) (s : State) : exec (.upd core arg op f) s = execUpd core arg op f s := rfl
theorem exec_updr (core : Nat) (arg : BitVec 8) (op : BitVec 8) (f : Slots) (s : State) : exec (.updr core arg op f) s = execUpdr core arg op f s := rfl
theorem exec_waitx (core : Nat) (arg : BitVec 8) (op : BitVec 8) (f : Slots) (s : State) : exec (.waitx core arg op f) s = execWaitx core arg op f s := rfl
theorem exec_done (core : Nat) (arg : BitVec 8) (op : BitVec 8) (f : Slots) (s : State) : exec (.done core arg op f) s = execDone core arg op f s := rfl
theorem exec_satclr (core : Nat) (arg : BitVec 8) (op : BitVec 8) (f : Slots) (s : State) : exec (.satclr core arg op f) s = execSatclr core arg op f s := rfl
theorem exec_budgetEpochClose (temps : List Int) (reg : Option (Nat × Nat)) (freqs : List (Nat × Nat)) (s : State) : exec (.budgetEpochClose temps reg freqs) s = execBudgetEpochClose temps reg freqs s := rfl
theorem exec_wakeSpi (env : StartEnv) (s : State) : exec (.wakeSpi env) s = execWakeSpi env s := rfl
theorem exec_wakeGpio (pin : Nat) (env : StartEnv) (s : State) : exec (.wakeGpio pin env) s = execWakeGpio pin env s := rfl
theorem exec_standbyTimerExpiry (env : StartEnv) (s : State) : exec (.standbyTimerExpiry env) s = execStandbyTimerExpiry env s := rfl
theorem exec_overCurrent (ch : Nat) (s : State) : exec (.overCurrent ch) s = execOverCurrent ch s := rfl
theorem exec_short (ch : Nat) (s : State) : exec (.short ch) s = execShort ch s := rfl
theorem exec_driverFault (group : Nat) (s : State) : exec (.driverFault group) s = execDriverFault group s := rfl
theorem exec_driverFaultRecovery (group : Nat) (s : State) : exec (.driverFaultRecovery group) s = execDriverFaultRecovery group s := rfl
theorem exec_loopFault (ch : Nat) (s : State) : exec (.loopFault ch) s = execLoopFault ch s := rfl
theorem exec_recheckStart (ch : Nat) (s : State) : exec (.recheckStart ch) s = execRecheckStart ch s := rfl
theorem exec_recheckCommand (ch : Nat) (s : State) : exec (.recheckCommand ch) s = execRecheckCommand ch s := rfl
theorem exec_recheckEnd (ch : Nat) (s : State) : exec (.recheckEnd ch) s = execRecheckEnd ch s := rfl
theorem exec_channelStart (ch : Nat) (hyst : Nat) (tLoop : Nat) (s : State) : exec (.channelStart ch hyst tLoop) s = execChannelStart ch hyst tLoop s := rfl
theorem exec_channelRampDownDone (ch : Nat) (s : State) : exec (.channelRampDownDone ch) s = execChannelRampDownDone ch s := rfl
theorem exec_lsupWindowEnd (ch : Nat) (sums : Machine.Sums) (overload : Bool) (s : State) : exec (.lsupWindowEnd ch sums overload) s = execLsupWindowEnd ch sums overload s := rfl
theorem exec_verdictChange (ch : Nat) (s : State) : exec (.verdictChange ch) s = execVerdictChange ch s := rfl
theorem exec_baselineCapture (ch : Nat) (s : State) : exec (.baselineCapture ch) s = execBaselineCapture ch s := rfl
theorem exec_acBaselineTest (ch : Nat) (s : State) : exec (.acBaselineTest ch) s = execAcBaselineTest ch s := rfl
theorem exec_acTestCommand (ch : Nat) (s : State) : exec (.acTestCommand ch) s = execAcTestCommand ch s := rfl
theorem exec_clearBaselines (ch : Nat) (s : State) : exec (.clearBaselines ch) s = execClearBaselines ch s := rfl
theorem exec_acTestSilenceStart (ch : Nat) (s : State) : exec (.acTestSilenceStart ch) s = execAcTestSilenceStart ch s := rfl
theorem exec_acTestFirstStart (ch : Nat) (s : State) : exec (.acTestFirstStart ch) s = execAcTestFirstStart ch s := rfl
theorem exec_acPointEnd (ch : Nat) (sums : Machine.Sums) (s : State) : exec (.acPointEnd ch sums) s = execAcPointEnd ch sums s := rfl
theorem exec_acTestEnd (ch : Nat) (s : State) : exec (.acTestEnd ch) s = execAcTestEnd ch s := rfl
theorem exec_acTestAbort (ch : Nat) (s : State) : exec (.acTestAbort ch) s = execAcTestAbort ch s := rfl
theorem exec_portStart (page : Nat) (tx : Bool) (s : State) : exec (.portStart page tx) s = execPortStart page tx s := rfl
theorem exec_leadinEnd (page : Nat) (tx : Bool) (s : State) : exec (.leadinEnd page tx) s = execLeadinEnd page tx s := rfl
theorem exec_portStop (page : Nat) (tx : Bool) (s : State) : exec (.portStop page tx) s = execPortStop page tx s := rfl
theorem exec_portFadeEnd (page : Nat) (tx : Bool) (s : State) : exec (.portFadeEnd page tx) s = execPortFadeEnd page tx s := rfl
theorem exec_leadoutEnd (page : Nat) (tx : Bool) (s : State) : exec (.leadoutEnd page tx) s = execLeadoutEnd page tx s := rfl
theorem exec_maskChangeApply (page : Nat) (tx : Bool) (s : State) : exec (.maskChangeApply page tx) s = execMaskChangeApply page tx s := rfl
theorem exec_receiverLock (page : Nat) (s : State) : exec (.receiverLock page) s = execReceiverLock page s := rfl
theorem exec_receiverLockLoss (page : Nat) (s : State) : exec (.receiverLockLoss page) s = execReceiverLockLoss page s := rfl
theorem exec_portInputFrame (page : Nat) (words : List Nat) (s : State) : exec (.portInputFrame page words) s = execPortInputFrame page words s := rfl
theorem exec_aesInputFrame (index : Nat) (a : Machine.Subframe) (b : Machine.Subframe) (s : State) : exec (.aesInputFrame index a b) s = execAesInputFrame index a b s := rfl
theorem exec_aesCsBlock (index : Nat) (b : Bool) (bytes : List Byte) (s : State) : exec (.aesCsBlock index b bytes) s = execAesCsBlock index b bytes s := rfl
theorem exec_madiInputFrame (index : Nat) (sub : List Machine.Subframe) (s : State) : exec (.madiInputFrame index sub) s = execMadiInputFrame index sub s := rfl
theorem exec_rateMeasure (page : Nat) (cnt : Nat) (t0 : Nat) (t1 : Nat) (s : State) : exec (.rateMeasure page cnt t0 t1) s = execRateMeasure page cnt t0 t1 s := rfl
theorem exec_asrcLock (engine : Nat) (ratio : Nat) (s : State) : exec (.asrcLock engine ratio) s = execAsrcLock engine ratio s := rfl
theorem exec_asrcUnlock (engine : Nat) (range : Bool) (s : State) : exec (.asrcUnlock engine range) s = execAsrcUnlock engine range s := rfl
theorem exec_hostAudioInRead (data : List Byte) (s : State) : exec (.hostAudioInRead data) s = execHostAudioInRead data s := rfl
theorem exec_hostAudioOutDone (err : Bool) (s : State) : exec (.hostAudioOutDone err) s = execHostAudioOutDone err s := rfl
theorem exec_servoMeasurement (offset : Int) (s : State) : exec (.servoMeasurement offset) s = execServoMeasurement offset s := rfl
theorem exec_ptpSync (port : Nat) (domain : Nat) (sender : Nat) (seq : Nat) (twoStep : Bool) (t1 : Nat) (corr : Int) (s : State) : exec (.ptpSync port domain sender seq twoStep t1 corr) s = execPtpSync port domain sender seq twoStep t1 corr s := rfl
theorem exec_ptpFollowUp (port : Nat) (domain : Nat) (sender : Nat) (seq : Nat) (t1 : Nat) (corr : Int) (s : State) : exec (.ptpFollowUp port domain sender seq t1 corr) s = execPtpFollowUp port domain sender seq t1 corr s := rfl
theorem exec_ptpDelayReq (port : Nat) (domain : Nat) (requester : Nat) (seq : Nat) (s : State) : exec (.ptpDelayReq port domain requester seq) s = execPtpDelayReq port domain requester seq s := rfl
theorem exec_ptpDelayResp (port : Nat) (domain : Nat) (sender : Nat) (seq : Nat) (t4 : Nat) (corr : Int) (s : State) : exec (.ptpDelayResp port domain sender seq t4 corr) s = execPtpDelayResp port domain sender seq t4 corr s := rfl
theorem exec_ptpAnnounce (port : Nat) (a : Announce) (s : State) : exec (.ptpAnnounce port a) s = execPtpAnnounce port a s := rfl
theorem exec_ptpManagementSignaling (port : Nat) (frame : List Byte) (buf : Nat) (s : State) : exec (.ptpManagementSignaling port frame buf) s = execPtpManagementSignaling port frame buf s := rfl
theorem exec_announceTimeout (port : Nat) (s : State) : exec (.announceTimeout port) s = execAnnounceTimeout port s := rfl
theorem exec_ptpMessageInterval (port : Nat) (kind : Nat) (s : State) : exec (.ptpMessageInterval port kind) s = execPtpMessageInterval port kind s := rfl
theorem exec_ref10mMeasure (ppb : Int) (s : State) : exec (.ref10mMeasure ppb) s = execRef10mMeasure ppb s := rfl
theorem exec_triggerEdge (k : Nat) (s : State) : exec (.triggerEdge k) s = execTriggerEdge k s := rfl
theorem exec_captureEdge (k : Nat) (rising : Bool) (s : State) : exec (.captureEdge k rising) s = execCaptureEdge k rising s := rfl
theorem exec_tcapPop (k : Nat) (s : State) : exec (.tcapPop k) s = execTcapPop k s := rfl
theorem exec_ethFrameReceive (port : Nat) (frame : List Byte) (fcsOk : Bool) (sfd : Nat) (buf : Nat) (s : State) : exec (.ethFrameReceive port frame fcsOk sfd buf) s = execEthFrameReceive port frame fcsOk sfd buf s := rfl
theorem exec_streamPacketReceive (port : Nat) (packet : RtpPacket) (s : State) : exec (.streamPacketReceive port packet) s = execStreamPacketReceive port packet s := rfl
theorem exec_arpRequest (port : Nat) (target : Nat) (sender : Nat) (mac : Nat) (s : State) : exec (.arpRequest port target sender mac) s = execArpRequest port target sender mac s := rfl
theorem exec_icmpEchoRequest (port : Nat) (sender : Nat) (payload : List Byte) (s : State) : exec (.icmpEchoRequest port sender payload) s = execIcmpEchoRequest port sender payload s := rfl
theorem exec_igmpQuery (port : Nat) (version : Nat) (frame : List Byte) (buf : Nat) (s : State) : exec (.igmpQuery port version frame buf) s = execIgmpQuery port version frame buf s := rfl
theorem exec_igmpReport (port : Nat) (s : State) : exec (.igmpReport port) s = execIgmpReport port s := rfl
theorem exec_linkChange (port : Nat) (up : Bool) (s : State) : exec (.linkChange port up) s = execLinkChange port up s := rfl
theorem exec_gratuitousArp (port : Nat) (s : State) : exec (.gratuitousArp port) s = execGratuitousArp port s := rfl
theorem exec_htxTailWrite (port : Nat) (v : Word) (s : State) : exec (.htxTailWrite port v) s = execHtxTailWrite port v s := rfl
theorem exec_hostFrameSend (port : Nat) (desc : HtxDesc) (s : State) : exec (.hostFrameSend port desc) s = execHostFrameSend port desc s := rfl
theorem exec_txtsPop (port : Nat) (s : State) : exec (.txtsPop port) s = execTxtsPop port s := rfl
theorem exec_patchPost (v : Word) (s : State) : exec (.patchPost v) s = execPatchPost v s := rfl
theorem exec_crossfadeEnd (sink : Nat) (s : State) : exec (.crossfadeEnd sink) s = execCrossfadeEnd sink s := rfl
theorem exec_mixNodePost (v : Word) (s : State) : exec (.mixNodePost v) s = execMixNodePost v s := rfl
theorem exec_generatorFadeEnd (gen : Nat) (s : State) : exec (.generatorFadeEnd gen) s = execGeneratorFadeEnd gen s := rfl
theorem exec_meterClear (v : Word) (s : State) : exec (.meterClear v) s = execMeterClear v s := rfl
theorem exec_meterConfigWrite (meter : Nat) (word : Nat) (v : Word) (s : State) : exec (.meterConfigWrite meter word v) s = execMeterConfigWrite meter word v s := rfl
theorem exec_loudnessStart (meter : Nat) (s : State) : exec (.loudnessStart meter) s = execLoudnessStart meter s := rfl
theorem exec_loudnessStop (meter : Nat) (s : State) : exec (.loudnessStop meter) s = execLoudnessStop meter s := rfl
theorem exec_loudnessReset (meter : Nat) (s : State) : exec (.loudnessReset meter) s = execLoudnessReset meter s := rfl
theorem exec_loudnessBlock (meter : Nat) (s : State) : exec (.loudnessBlock meter) s = execLoudnessBlock meter s := rfl
theorem exec_detectorClear (v : Word) (s : State) : exec (.detectorClear v) s = execDetectorClear v s := rfl
theorem exec_detectorConfigWrite (chain : Nat) (word : Nat) (v : Word) (s : State) : exec (.detectorConfigWrite chain word v) s = execDetectorConfigWrite chain word v s := rfl
theorem exec_captureBlendEnd (chain : Nat) (s : State) : exec (.captureBlendEnd chain) s = execCaptureBlendEnd chain s := rfl
theorem exec_measStart (job : Nat) (s : State) : exec (.measStart job) s = execMeasStart job s := rfl
theorem exec_training (mask : Nat) (s : State) : exec (.training mask) s = execTraining mask s := rfl
theorem exec_trainingDone (failed : Nat) (s : State) : exec (.trainingDone failed) s = execTrainingDone failed s := rfl
theorem exec_mr4Poll (die : Nat) (field : Nat) (above : Bool) (beyond : Bool) (ns : Nat) (s : State) : exec (.mr4Poll die field above beyond ns) s = execMr4Poll die field above beyond ns s := rfl
theorem exec_bankRefresh (ch : Nat) (bank : Nat) (s : State) : exec (.bankRefresh ch bank) s = execBankRefresh ch bank s := rfl
theorem exec_dramRequest (port : Nat) (ini : Nat) (write : Bool) (addr : Nat) (len : Nat) (data : List Byte) (ecc : Nat) (wait : Bool) (exitNs : Nat) (s : State) : exec (.dramRequest port ini write addr len data ecc wait exitNs) s = execDramRequest port ini write addr len data ecc wait exitNs s := rfl
theorem exec_scrubRead (ecc : Nat) (s : State) : exec (.scrubRead ecc) s = execScrubRead ecc s := rfl
theorem exec_idleSelfRefreshEntry (ch : Nat) (s : State) : exec (.idleSelfRefreshEntry ch) s = execIdleSelfRefreshEntry ch s := rfl
theorem exec_weaveBurst (b : Machine.Burst) (wait : Bool) (s : State) : exec (.weaveBurst b wait) s = execWeaveBurst b wait s := rfl
theorem exec_initiatorResetMidBurst (b : Machine.Burst) (done : Nat) (s : State) : exec (.initiatorResetMidBurst b done) s = execInitiatorResetMidBurst b done s := rfl
theorem exec_resetRelease (env : StartEnv) (s : State) : exec (.resetRelease env) s = execResetRelease env s := rfl
theorem exec_startReady (slot0 : Option (List Byte)) (slot1 : Option (List Byte)) (ns : Nat) (s : State) : exec (.startReady slot0 slot1 ns) s = execStartReady slot0 slot1 ns s := rfl
theorem exec_hostLoadGo (len : Nat) (s : State) : exec (.hostLoadGo len) s = execHostLoadGo len s := rfl
theorem exec_startAttemptFail (code : Nat) (s : State) : exec (.startAttemptFail code) s = execStartAttemptFail code s := rfl
theorem exec_bootRetry (env : StartEnv) (s : State) : exec (.bootRetry env) s = execBootRetry env s := rfl
theorem exec_safeHoldEntry (part : Nat) (item : Nat) (s : State) : exec (.safeHoldEntry part item) s = execSafeHoldEntry part item s := rfl
theorem exec_safeHoldRetry (env : StartEnv) (s : State) : exec (.safeHoldRetry env) s = execSafeHoldRetry env s := rfl
theorem exec_startAttemptCommand (env : StartEnv) (s : State) : exec (.startAttemptCommand env) s = execStartAttemptCommand env s := rfl
theorem exec_lifecycleAdvance (target : Nat) (confirm : Nat) (s : State) : exec (.lifecycleAdvance target confirm) s = execLifecycleAdvance target confirm s := rfl
theorem exec_pinReadback (ball : Nat) (same : Bool) (s : State) : exec (.pinReadback ball same) s = execPinReadback ball same s := rfl
theorem exec_selftestSlice (part : Nat) (item : Nat) (window : Nat) (ok : Bool) (last : Bool) (s : State) : exec (.selftestSlice part item window ok last) s = execSelftestSlice part item window ok last s := rfl
theorem exec_bistRun (parts : Nat) (s : State) : exec (.bistRun parts) s = execBistRun parts s := rfl
theorem exec_bistInject (item : Nat) (s : State) : exec (.bistInject item) s = execBistInject item s := rfl
theorem exec_rejoin (ok : Bool) (s : State) : exec (.rejoin ok) s = execRejoin ok s := rfl
theorem exec_faultRecord (page : Nat) (code : Nat) (detail : Nat) (s : State) : exec (.faultRecord page code detail) s = execFaultRecord page code detail s := rfl
theorem exec_sramScrub (ecc : Nat) (s : State) : exec (.sramScrub ecc) s = execSramScrub ecc s := rfl
theorem exec_faultTailWrite (index : Nat) (s : State) : exec (.faultTailWrite index) s = execFaultTailWrite index s := rfl
theorem exec_sanAddr (addr : Nat) (s : State) : exec (.sanAddr addr) s = execSanAddr addr s := rfl
theorem exec_extest (bits : List Bool) (s : State) : exec (.extest bits) s = execExtest bits s := rfl
theorem exec_samplePreload (bits : List Bool) (s : State) : exec (.samplePreload bits) s = execSamplePreload bits s := rfl
theorem exec_gpioSample (pins : Word) (s : State) : exec (.gpioSample pins) s = execGpioSample pins s := rfl
theorem exec_arrayWindowWrite (ini : Nat) (page : Nat) (off : Nat) (data : List (Byte × Bool)) (s : State) : exec (.arrayWindowWrite ini page off data) s = execArrayWindowWrite ini page off data s := rfl
theorem exec_arpReply (port : Nat) (sender : Nat) (mac : Nat) (s : State) : exec (.arpReply port sender mac) s = execArpReply port sender mac s := rfl
theorem exec_senseOverload (chain : Nat) (s : State) : exec (.senseOverload chain) s = execSenseOverload chain s := rfl
theorem exec_portOutputFrame (page : Nat) (s : State) : exec (.portOutputFrame page) s = execPortOutputFrame page s := rfl
theorem exec_setPointSwitchDone (ns : Nat) (s : State) : exec (.setPointSwitchDone ns) s = execSetPointSwitchDone ns s := rfl
theorem exec_bistRunDone (failed : Option (Nat × Nat)) (s : State) : exec (.bistRunDone failed) s = execBistRunDone failed s := rfl
theorem exec_pcieAtomicOp (bar : Nat) (off : Nat) (size : Nat) (op : Nat) (x : Nat) (y : Nat) (s : State) : exec (.pcieAtomicOp bar off size op x y) s = execPcieAtomicOp bar off size op x y s := rfl
theorem exec_arpRefresh (port : Nat) (addr : Nat) (s : State) : exec (.arpRefresh port addr) s = execArpRefresh port addr s := rfl
theorem exec_heartbeat (beat : Heartbeat) (s : State) : exec (.heartbeat beat) s = execHeartbeat beat s := rfl
theorem exec_frameRecordSeal (taps : List (Nat × Int)) (s : State) : exec (.frameRecordSeal taps) s = execFrameRecordSeal taps s := rfl
theorem exec_frameRecord (r : FrameRecord) (s : State) : exec (.frameRecord r) s = execFrameRecord r s := rfl
theorem exec_plaitMirror (frame : Nat) (writes : List (Nat × Word)) (crcOk : Bool) (s : State) : exec (.plaitMirror frame writes crcOk) s = execPlaitMirror frame writes crcOk s := rfl
theorem exec_standbyReport (frame : Nat) (crc : Option Nat) (decisions : List Nat) (request : Bool) (crcOk : Bool) (s : State) : exec (.standbyReport frame crc decisions request crcOk) s = execStandbyReport frame crc decisions request crcOk s := rfl
theorem exec_resyncMessage (items : List ResyncItem) (crcOk : Bool) (s : State) : exec (.resyncMessage items crcOk) s = execResyncMessage items crcOk s := rfl
theorem exec_guardBegin (s : State) : exec .guardBegin s = execGuardBegin s := rfl
theorem exec_directCutoff (s : State) : exec .directCutoff s = execDirectCutoff s := rfl
theorem exec_rateChangeRamp (s : State) : exec .rateChangeRamp s = execRateChangeRamp s := rfl
theorem exec_rateChangeMute (s : State) : exec .rateChangeMute s = execRateChangeMute s := rfl
theorem exec_rateChangeSwitch (s : State) : exec .rateChangeSwitch s = execRateChangeSwitch s := rfl
theorem exec_rateChangeResume (s : State) : exec .rateChangeResume s = execRateChangeResume s := rfl
theorem exec_spiReadTimeout (s : State) : exec .spiReadTimeout s = execSpiReadTimeout s := rfl
theorem exec_spiStatus (s : State) : exec .spiStatus s = execSpiStatus s := rfl
theorem exec_spiClear (s : State) : exec .spiClear s = execSpiClear s := rfl
theorem exec_layoutBuildDone (s : State) : exec .layoutBuildDone s = execLayoutBuildDone s := rfl
theorem exec_healingRebuildDone (s : State) : exec .healingRebuildDone s = execHealingRebuildDone s := rfl
theorem exec_recordPost (s : State) : exec .recordPost s = execRecordPost s := rfl
theorem exec_warpPostAccept (s : State) : exec .warpPostAccept s = execWarpPostAccept s := rfl
theorem exec_warpFadeDone (s : State) : exec .warpFadeDone s = execWarpFadeDone s := rfl
theorem exec_corrPrepDone (s : State) : exec .corrPrepDone s = execCorrPrepDone s := rfl
theorem exec_corrFadeDone (s : State) : exec .corrFadeDone s = execCorrFadeDone s := rfl
theorem exec_nodeDispatch (s : State) : exec .nodeDispatch s = execNodeDispatch s := rfl
theorem exec_heldReleaseEnter (s : State) : exec .heldReleaseEnter s = execHeldReleaseEnter s := rfl
theorem exec_submitHoldRelease (s : State) : exec .submitHoldRelease s = execSubmitHoldRelease s := rfl
theorem exec_nodeActivate (s : State) : exec .nodeActivate s = execNodeActivate s := rfl
theorem exec_nodeDeactivate (s : State) : exec .nodeDeactivate s = execNodeDeactivate s := rfl
theorem exec_regulatorTimeout (s : State) : exec .regulatorTimeout s = execRegulatorTimeout s := rfl
theorem exec_domainTransitionDone (s : State) : exec .domainTransitionDone s = execDomainTransitionDone s := rfl
theorem exec_standbyEnter (s : State) : exec .standbyEnter s = execStandbyEnter s := rfl
theorem exec_clockError (s : State) : exec .clockError s = execClockError s := rfl
theorem exec_clockRecovery (s : State) : exec .clockRecovery s = execClockRecovery s := rfl
theorem exec_holdover (s : State) : exec .holdover s = execHoldover s := rfl
theorem exec_stakeSet (s : State) : exec .stakeSet s = execStakeSet s := rfl
theorem exec_stakeAdd (s : State) : exec .stakeAdd s = execStakeAdd s := rfl
theorem exec_stakeSubtract (s : State) : exec .stakeSubtract s = execStakeSubtract s := rfl
theorem exec_stakeStepRequest (s : State) : exec .stakeStepRequest s = execStakeStepRequest s := rfl
theorem exec_stakeStepApply (s : State) : exec .stakeStepApply s = execStakeStepApply s := rfl
theorem exec_ppsEdge (s : State) : exec .ppsEdge s = execPpsEdge s := rfl
theorem exec_ppsLoss (s : State) : exec .ppsLoss s = execPpsLoss s := rfl
theorem exec_routeFadeDone (s : State) : exec .routeFadeDone s = execRouteFadeDone s := rfl
theorem exec_measAbort (s : State) : exec .measAbort s = execMeasAbort s := rfl
theorem exec_measClear (s : State) : exec .measClear s = execMeasClear s := rfl
theorem exec_measRunEnd (s : State) : exec .measRunEnd s = execMeasRunEnd s := rfl
theorem exec_responseStored (s : State) : exec .responseStored s = execResponseStored s := rfl
theorem exec_setPointHeldStart (s : State) : exec .setPointHeldStart s = execSetPointHeldStart s := rfl
theorem exec_urgencyRaise (s : State) : exec .urgencyRaise s = execUrgencyRaise s := rfl
theorem exec_lockTimeout (s : State) : exec .lockTimeout s = execLockTimeout s := rfl
theorem exec_porstAssert (s : State) : exec .porstAssert s = execPorstAssert s := rfl
theorem exec_sysrstAssert (s : State) : exec .sysrstAssert s = execSysrstAssert s := rfl
theorem exec_selftestWindowHeld (s : State) : exec .selftestWindowHeld s = execSelftestWindowHeld s := rfl
theorem exec_hostLoadTimeout (s : State) : exec .hostLoadTimeout s = execHostLoadTimeout s := rfl
theorem exec_shutdownPin (s : State) : exec .shutdownPin s = execShutdownPin s := rfl
theorem exec_shutdownCommand (s : State) : exec .shutdownCommand s = execShutdownCommand s := rfl
theorem exec_otpRead (s : State) : exec .otpRead s = execOtpRead s := rfl
theorem exec_otpProgram (s : State) : exec .otpProgram s = execOtpProgram s := rfl
theorem exec_otpOperationDone (s : State) : exec .otpOperationDone s = execOtpOperationDone s := rfl
theorem exec_recordErase (s : State) : exec .recordErase s = execRecordErase s := rfl
theorem exec_sliceAbandon (s : State) : exec .sliceAbandon s = execSliceAbandon s := rfl
theorem exec_coverageLapse (s : State) : exec .coverageLapse s = execCoverageLapse s := rfl
theorem exec_heartbeatLoss (s : State) : exec .heartbeatLoss s = execHeartbeatLoss s := rfl
theorem exec_hoopLinkChange (s : State) : exec .hoopLinkChange s = execHoopLinkChange s := rfl
theorem exec_claimTimeout (s : State) : exec .claimTimeout s = execClaimTimeout s := rfl
theorem exec_secondaryClaimTimeout (s : State) : exec .secondaryClaimTimeout s = execSecondaryClaimTimeout s := rfl
theorem exec_yield (s : State) : exec .yield s = execYield s := rfl
theorem exec_rejoinCommand (s : State) : exec .rejoinCommand s = execRejoinCommand s := rfl
theorem exec_revertRequest (s : State) : exec .revertRequest s = execRevertRequest s := rfl
theorem exec_revertHoldExpiry (s : State) : exec .revertHoldExpiry s = execRevertHoldExpiry s := rfl
theorem exec_collectorMismatch (s : State) : exec .collectorMismatch s = execCollectorMismatch s := rfl
theorem exec_freezePin (s : State) : exec .freezePin s = execFreezePin s := rfl
theorem exec_freezeCommand (s : State) : exec .freezeCommand s = execFreezeCommand s := rfl
theorem exec_freezeRelease (s : State) : exec .freezeRelease s = execFreezeRelease s := rfl
theorem exec_freezeLimitExpiry (s : State) : exec .freezeLimitExpiry s = execFreezeLimitExpiry s := rfl
theorem exec_sanData (s : State) : exec .sanData s = execSanData s := rfl
theorem exec_sanRelease (s : State) : exec .sanRelease s = execSanRelease s := rfl
theorem exec_sanStatus (s : State) : exec .sanStatus s = execSanStatus s := rfl
theorem exec_idcode (s : State) : exec .idcode s = execIdcode s := rfl
theorem exec_clamp (s : State) : exec .clamp s = execClamp s := rfl
theorem exec_highz (s : State) : exec .highz s = execHighz s := rfl
theorem exec_bypass (s : State) : exec .bypass s = execBypass s := rfl
theorem exec_tapReset (s : State) : exec .tapReset s = execTapReset s := rfl
theorem exec_pcieLinkDown (s : State) : exec .pcieLinkDown s = execPcieLinkDown s := rfl
theorem exec_gmHoldoverLimit (s : State) : exec .gmHoldoverLimit s = execGmHoldoverLimit s := rfl

/-- The commands that act on a device in reset, standby or freeze too. -/
theorem exec_shape (c : Instr) (s : State) :
    (∃ env, c = .frameTick env) ∨ (actsWhileHeld c = false ∧ ∃ f, exec c s = s.act f) ∨
    (actsWhileHeld c = true ∧ ∃ f, exec c s = s.force f) := by
  cases c with
  | frameTick env => exact .inl ⟨env, rfl⟩
  | directWindowEnd _ => exact .inr (.inl ⟨rfl, _, (exec_directWindowEnd _ s).trans rfl⟩)
  | registerWrite _ _ _ => exact .inr (.inl ⟨rfl, _, (exec_registerWrite _ _ _ s).trans rfl⟩)
  | loReadLatch _ _ => exact .inr (.inl ⟨rfl, _, (exec_loReadLatch _ _ s).trans rfl⟩)
  | commitRequest _ _ => exact .inr (.inl ⟨rfl, _, (exec_commitRequest _ _ s).trans rfl⟩)
  | commitCancel _ => exact .inr (.inl ⟨rfl, _, (exec_commitCancel _ s).trans rfl⟩)
  | pageEnableWrite _ _ => exact .inr (.inl ⟨rfl, _, (exec_pageEnableWrite _ _ s).trans rfl⟩)
  | softReset _ _ => exact .inr (.inl ⟨rfl, _, (exec_softReset _ _ s).trans rfl⟩)
  | faultCauseClear _ => exact .inr (.inl ⟨rfl, _, (exec_faultCauseClear _ s).trans rfl⟩)
  | irqForce _ _ => exact .inr (.inl ⟨rfl, _, (exec_irqForce _ _ s).trans rfl⟩)
  | irqEoi _ => exact .inr (.inl ⟨rfl, _, (exec_irqEoi _ s).trans rfl⟩)
  | spiRead _ _ => exact .inr (.inl ⟨rfl, _, (exec_spiRead _ _ s).trans rfl⟩)
  | spiWrite _ _ _ _ => exact .inr (.inl ⟨rfl, _, (exec_spiWrite _ _ _ _ s).trans rfl⟩)
  | dmaRun _ => exact .inr (.inl ⟨rfl, _, (exec_dmaRun _ s).trans rfl⟩)
  | dmaDescriptorDone _ _ _ => exact .inr (.inl ⟨rfl, _, (exec_dmaDescriptorDone _ _ _ s).trans rfl⟩)
  | plaitOpen _ => exact .inr (.inl ⟨rfl, _, (exec_plaitOpen _ s).trans rfl⟩)
  | plaitCapture _ _ _ => exact .inr (.inl ⟨rfl, _, (exec_plaitCapture _ _ _ s).trans rfl⟩)
  | plaitCommitNextFrame _ _ => exact .inr (.inl ⟨rfl, _, (exec_plaitCommitNextFrame _ _ s).trans rfl⟩)
  | plaitCommitFrameIndex _ _ => exact .inr (.inl ⟨rfl, _, (exec_plaitCommitFrameIndex _ _ s).trans rfl⟩)
  | plaitCommitPtpTime _ _ => exact .inr (.inl ⟨rfl, _, (exec_plaitCommitPtpTime _ _ s).trans rfl⟩)
  | plaitCommitDecision _ => exact .inr (.inl ⟨rfl, _, (exec_plaitCommitDecision _ s).trans rfl⟩)
  | plaitAbort _ _ => exact .inr (.inl ⟨rfl, _, (exec_plaitAbort _ _ s).trans rfl⟩)
  | layoutBuild _ => exact .inr (.inl ⟨rfl, _, (exec_layoutBuild _ s).trans rfl⟩)
  | objectLate _ => exact .inr (.inl ⟨rfl, _, (exec_objectLate _ s).trans rfl⟩)
  | objectHold _ => exact .inr (.inl ⟨rfl, _, (exec_objectHold _ s).trans rfl⟩)
  | felotMessage _ _ _ _ _ => exact .inr (.inl ⟨rfl, _, (exec_felotMessage _ _ _ _ _ s).trans rfl⟩)
  | warpDirectPost _ _ => exact .inr (.inl ⟨rfl, _, (exec_warpDirectPost _ _ s).trans rfl⟩)
  | corrBankPost _ => exact .inr (.inl ⟨rfl, _, (exec_corrBankPost _ s).trans rfl⟩)
  | corrGainPost _ => exact .inr (.inl ⟨rfl, _, (exec_corrGainPost _ s).trans rfl⟩)
  | corrMutePost _ => exact .inr (.inl ⟨rfl, _, (exec_corrMutePost _ s).trans rfl⟩)
  | corrPreparation _ => exact .inr (.inl ⟨rfl, _, (exec_corrPreparation _ s).trans rfl⟩)
  | partitionLate _ _ _ => exact .inr (.inl ⟨rfl, _, (exec_partitionLate _ _ _ s).trans rfl⟩)
  | transitionEnd _ => exact .inr (.inl ⟨rfl, _, (exec_transitionEnd _ s).trans rfl⟩)
  | deferredRelease _ => exact .inr (.inl ⟨rfl, _, (exec_deferredRelease _ s).trans rfl⟩)
  | affinityWaitExpiry _ => exact .inr (.inl ⟨rfl, _, (exec_affinityWaitExpiry _ s).trans rfl⟩)
  | nodeComplete _ _ => exact .inr (.inl ⟨rfl, _, (exec_nodeComplete _ _ s).trans rfl⟩)
  | coilSubmit _ => exact .inr (.inl ⟨rfl, _, (exec_coilSubmit _ s).trans rfl⟩)
  | activationLate _ => exact .inr (.inl ⟨rfl, _, (exec_activationLate _ s).trans rfl⟩)
  | directCostStop _ => exact .inr (.inl ⟨rfl, _, (exec_directCostStop _ s).trans rfl⟩)
  | instructionWrite _ _ _ _ => exact .inr (.inl ⟨rfl, _, (exec_instructionWrite _ _ _ _ s).trans rfl⟩)
  | transferComplete _ => exact .inr (.inl ⟨rfl, _, (exec_transferComplete _ s).trans rfl⟩)
  | osierWindowAccessRelease _ => exact .inr (.inl ⟨rfl, _, (exec_osierWindowAccessRelease _ s).trans rfl⟩)
  | injectParity _ => exact .inr (.inl ⟨rfl, _, (exec_injectParity _ s).trans rfl⟩)
  | injectResidue _ => exact .inr (.inl ⟨rfl, _, (exec_injectResidue _ s).trans rfl⟩)
  | nop _ _ => exact .inr (.inl ⟨rfl, _, (exec_nop _ _ s).trans rfl⟩)
  | br _ _ => exact .inr (.inl ⟨rfl, _, (exec_br _ _ s).trans rfl⟩)
  | call _ _ => exact .inr (.inl ⟨rfl, _, (exec_call _ _ s).trans rfl⟩)
  | jr _ _ => exact .inr (.inl ⟨rfl, _, (exec_jr _ _ s).trans rfl⟩)
  | loop _ _ => exact .inr (.inl ⟨rfl, _, (exec_loop _ _ s).trans rfl⟩)
  | loopi _ _ => exact .inr (.inl ⟨rfl, _, (exec_loopi _ _ s).trans rfl⟩)
  | endl _ _ => exact .inr (.inl ⟨rfl, _, (exec_endl _ _ s).trans rfl⟩)
  | movsr _ _ => exact .inr (.inl ⟨rfl, _, (exec_movsr _ _ s).trans rfl⟩)
  | movrs _ _ => exact .inr (.inl ⟨rfl, _, (exec_movrs _ _ s).trans rfl⟩)
  | bexpr _ _ => exact .inr (.inl ⟨rfl, _, (exec_bexpr _ _ s).trans rfl⟩)
  | add _ _ => exact .inr (.inl ⟨rfl, _, (exec_add _ _ s).trans rfl⟩)
  | sub _ _ => exact .inr (.inl ⟨rfl, _, (exec_sub _ _ s).trans rfl⟩)
  | and _ _ => exact .inr (.inl ⟨rfl, _, (exec_and _ _ s).trans rfl⟩)
  | or _ _ => exact .inr (.inl ⟨rfl, _, (exec_or _ _ s).trans rfl⟩)
  | xor _ _ => exact .inr (.inl ⟨rfl, _, (exec_xor _ _ s).trans rfl⟩)
  | shl _ _ => exact .inr (.inl ⟨rfl, _, (exec_shl _ _ s).trans rfl⟩)
  | shr _ _ => exact .inr (.inl ⟨rfl, _, (exec_shr _ _ s).trans rfl⟩)
  | sar _ _ => exact .inr (.inl ⟨rfl, _, (exec_sar _ _ s).trans rfl⟩)
  | min _ _ => exact .inr (.inl ⟨rfl, _, (exec_min _ _ s).trans rfl⟩)
  | max _ _ => exact .inr (.inl ⟨rfl, _, (exec_max _ _ s).trans rfl⟩)
  | mul _ _ => exact .inr (.inl ⟨rfl, _, (exec_mul _ _ s).trans rfl⟩)
  | addi _ _ => exact .inr (.inl ⟨rfl, _, (exec_addi _ _ s).trans rfl⟩)
  | cmp _ _ => exact .inr (.inl ⟨rfl, _, (exec_cmp _ _ s).trans rfl⟩)
  | cmpi _ _ => exact .inr (.inl ⟨rfl, _, (exec_cmpi _ _ s).trans rfl⟩)
  | movi _ _ => exact .inr (.inl ⟨rfl, _, (exec_movi _ _ s).trans rfl⟩)
  | movu _ _ => exact .inr (.inl ⟨rfl, _, (exec_movu _ _ s).trans rfl⟩)
  | vadd _ _ => exact .inr (.inl ⟨rfl, _, (exec_vadd _ _ s).trans rfl⟩)
  | vsub _ _ => exact .inr (.inl ⟨rfl, _, (exec_vsub _ _ s).trans rfl⟩)
  | vaddw _ _ => exact .inr (.inl ⟨rfl, _, (exec_vaddw _ _ s).trans rfl⟩)
  | vsubw _ _ => exact .inr (.inl ⟨rfl, _, (exec_vsubw _ _ s).trans rfl⟩)
  | vneg _ _ => exact .inr (.inl ⟨rfl, _, (exec_vneg _ _ s).trans rfl⟩)
  | vabs _ _ => exact .inr (.inl ⟨rfl, _, (exec_vabs _ _ s).trans rfl⟩)
  | vand _ _ => exact .inr (.inl ⟨rfl, _, (exec_vand _ _ s).trans rfl⟩)
  | vor _ _ => exact .inr (.inl ⟨rfl, _, (exec_vor _ _ s).trans rfl⟩)
  | vxor _ _ => exact .inr (.inl ⟨rfl, _, (exec_vxor _ _ s).trans rfl⟩)
  | vmin _ _ => exact .inr (.inl ⟨rfl, _, (exec_vmin _ _ s).trans rfl⟩)
  | vmax _ _ => exact .inr (.inl ⟨rfl, _, (exec_vmax _ _ s).trans rfl⟩)
  | vscale _ _ => exact .inr (.inl ⟨rfl, _, (exec_vscale _ _ s).trans rfl⟩)
  | vshli _ _ => exact .inr (.inl ⟨rfl, _, (exec_vshli _ _ s).trans rfl⟩)
  | vperm _ _ => exact .inr (.inl ⟨rfl, _, (exec_vperm _ _ s).trans rfl⟩)
  | vbcast _ _ => exact .inr (.inl ⟨rfl, _, (exec_vbcast _ _ s).trans rfl⟩)
  | vins _ _ => exact .inr (.inl ⟨rfl, _, (exec_vins _ _ s).trans rfl⟩)
  | vext _ _ => exact .inr (.inl ⟨rfl, _, (exec_vext _ _ s).trans rfl⟩)
  | vmulr _ _ => exact .inr (.inl ⟨rfl, _, (exec_vmulr _ _ s).trans rfl⟩)
  | vmulrs _ _ => exact .inr (.inl ⟨rfl, _, (exec_vmulrs _ _ s).trans rfl⟩)
  | vcmul _ _ => exact .inr (.inl ⟨rfl, _, (exec_vcmul _ _ s).trans rfl⟩)
  | vcmulj _ _ => exact .inr (.inl ⟨rfl, _, (exec_vcmulj _ _ s).trans rfl⟩)
  | mpy _ _ => exact .inr (.inl ⟨rfl, _, (exec_mpy _ _ s).trans rfl⟩)
  | mac _ _ => exact .inr (.inl ⟨rfl, _, (exec_mac _ _ s).trans rfl⟩)
  | msu _ _ => exact .inr (.inl ⟨rfl, _, (exec_msu _ _ s).trans rfl⟩)
  | mpys _ _ => exact .inr (.inl ⟨rfl, _, (exec_mpys _ _ s).trans rfl⟩)
  | macs _ _ => exact .inr (.inl ⟨rfl, _, (exec_macs _ _ s).trans rfl⟩)
  | msus _ _ => exact .inr (.inl ⟨rfl, _, (exec_msus _ _ s).trans rfl⟩)
  | acclr _ _ => exact .inr (.inl ⟨rfl, _, (exec_acclr _ _ s).trans rfl⟩)
  | acld _ _ => exact .inr (.inl ⟨rfl, _, (exec_acld _ _ s).trans rfl⟩)
  | acadd _ _ => exact .inr (.inl ⟨rfl, _, (exec_acadd _ _ s).trans rfl⟩)
  | acaddv _ _ => exact .inr (.inl ⟨rfl, _, (exec_acaddv _ _ s).trans rfl⟩)
  | acsubv _ _ => exact .inr (.inl ⟨rfl, _, (exec_acsubv _ _ s).trans rfl⟩)
  | vbf _ _ => exact .inr (.inl ⟨rfl, _, (exec_vbf _ _ s).trans rfl⟩)
  | acsum _ _ => exact .inr (.inl ⟨rfl, _, (exec_acsum _ _ s).trans rfl⟩)
  | acsh _ _ => exact .inr (.inl ⟨rfl, _, (exec_acsh _ _ s).trans rfl⟩)
  | acget _ _ => exact .inr (.inl ⟨rfl, _, (exec_acget _ _ s).trans rfl⟩)
  | acput _ _ => exact .inr (.inl ⟨rfl, _, (exec_acput _ _ s).trans rfl⟩)
  | acrnd _ _ => exact .inr (.inl ⟨rfl, _, (exec_acrnd _ _ s).trans rfl⟩)
  | acrndb _ _ => exact .inr (.inl ⟨rfl, _, (exec_acrndb _ _ s).trans rfl⟩)
  | actrn _ _ => exact .inr (.inl ⟨rfl, _, (exec_actrn _ _ s).trans rfl⟩)
  | exp _ _ => exact .inr (.inl ⟨rfl, _, (exec_exp _ _ s).trans rfl⟩)
  | acexp _ _ => exact .inr (.inl ⟨rfl, _, (exec_acexp _ _ s).trans rfl⟩)
  | norm _ _ => exact .inr (.inl ⟨rfl, _, (exec_norm _ _ s).trans rfl⟩)
  | bexp _ _ => exact .inr (.inl ⟨rfl, _, (exec_bexp _ _ s).trans rfl⟩)
  | frd _ _ => exact .inr (.inl ⟨rfl, _, (exec_frd _ _ s).trans rfl⟩)
  | fwr _ _ => exact .inr (.inl ⟨rfl, _, (exec_fwr _ _ s).trans rfl⟩)
  | xrd _ _ => exact .inr (.inl ⟨rfl, _, (exec_xrd _ _ s).trans rfl⟩)
  | xwr _ _ => exact .inr (.inl ⟨rfl, _, (exec_xwr _ _ s).trans rfl⟩)
  | ldv _ _ _ _ _ => exact .inr (.inl ⟨rfl, _, (exec_ldv _ _ _ _ _ s).trans rfl⟩)
  | stv _ _ _ _ _ => exact .inr (.inl ⟨rfl, _, (exec_stv _ _ _ _ _ s).trans rfl⟩)
  | lds _ _ _ _ _ => exact .inr (.inl ⟨rfl, _, (exec_lds _ _ _ _ _ s).trans rfl⟩)
  | sts _ _ _ _ _ => exact .inr (.inl ⟨rfl, _, (exec_sts _ _ _ _ _ s).trans rfl⟩)
  | ldb _ _ _ _ _ => exact .inr (.inl ⟨rfl, _, (exec_ldb _ _ _ _ _ s).trans rfl⟩)
  | upd _ _ _ _ => exact .inr (.inl ⟨rfl, _, (exec_upd _ _ _ _ s).trans rfl⟩)
  | updr _ _ _ _ => exact .inr (.inl ⟨rfl, _, (exec_updr _ _ _ _ s).trans rfl⟩)
  | waitx _ _ _ _ => exact .inr (.inl ⟨rfl, _, (exec_waitx _ _ _ _ s).trans rfl⟩)
  | done _ _ _ _ => exact .inr (.inl ⟨rfl, _, (exec_done _ _ _ _ s).trans rfl⟩)
  | satclr _ _ _ _ => exact .inr (.inl ⟨rfl, _, (exec_satclr _ _ _ _ s).trans rfl⟩)
  | budgetEpochClose _ _ _ => exact .inr (.inl ⟨rfl, _, (exec_budgetEpochClose _ _ _ s).trans rfl⟩)
  | wakeSpi _ => exact .inr (.inr ⟨rfl, _, (exec_wakeSpi _ s).trans rfl⟩)
  | wakeGpio _ _ => exact .inr (.inr ⟨rfl, _, (exec_wakeGpio _ _ s).trans rfl⟩)
  | standbyTimerExpiry _ => exact .inr (.inr ⟨rfl, _, (exec_standbyTimerExpiry _ s).trans rfl⟩)
  | overCurrent _ => exact .inr (.inl ⟨rfl, _, (exec_overCurrent _ s).trans rfl⟩)
  | short _ => exact .inr (.inl ⟨rfl, _, (exec_short _ s).trans rfl⟩)
  | driverFault _ => exact .inr (.inl ⟨rfl, _, (exec_driverFault _ s).trans rfl⟩)
  | driverFaultRecovery _ => exact .inr (.inl ⟨rfl, _, (exec_driverFaultRecovery _ s).trans rfl⟩)
  | loopFault _ => exact .inr (.inl ⟨rfl, _, (exec_loopFault _ s).trans rfl⟩)
  | recheckStart _ => exact .inr (.inl ⟨rfl, _, (exec_recheckStart _ s).trans rfl⟩)
  | recheckCommand _ => exact .inr (.inl ⟨rfl, _, (exec_recheckCommand _ s).trans rfl⟩)
  | recheckEnd _ => exact .inr (.inl ⟨rfl, _, (exec_recheckEnd _ s).trans rfl⟩)
  | channelStart _ _ _ => exact .inr (.inl ⟨rfl, _, (exec_channelStart _ _ _ s).trans rfl⟩)
  | channelRampDownDone _ => exact .inr (.inl ⟨rfl, _, (exec_channelRampDownDone _ s).trans rfl⟩)
  | lsupWindowEnd _ _ _ => exact .inr (.inl ⟨rfl, _, (exec_lsupWindowEnd _ _ _ s).trans rfl⟩)
  | verdictChange _ => exact .inr (.inl ⟨rfl, _, (exec_verdictChange _ s).trans rfl⟩)
  | baselineCapture _ => exact .inr (.inl ⟨rfl, _, (exec_baselineCapture _ s).trans rfl⟩)
  | acBaselineTest _ => exact .inr (.inl ⟨rfl, _, (exec_acBaselineTest _ s).trans rfl⟩)
  | acTestCommand _ => exact .inr (.inl ⟨rfl, _, (exec_acTestCommand _ s).trans rfl⟩)
  | clearBaselines _ => exact .inr (.inl ⟨rfl, _, (exec_clearBaselines _ s).trans rfl⟩)
  | acTestSilenceStart _ => exact .inr (.inl ⟨rfl, _, (exec_acTestSilenceStart _ s).trans rfl⟩)
  | acTestFirstStart _ => exact .inr (.inl ⟨rfl, _, (exec_acTestFirstStart _ s).trans rfl⟩)
  | acPointEnd _ _ => exact .inr (.inl ⟨rfl, _, (exec_acPointEnd _ _ s).trans rfl⟩)
  | acTestEnd _ => exact .inr (.inl ⟨rfl, _, (exec_acTestEnd _ s).trans rfl⟩)
  | acTestAbort _ => exact .inr (.inl ⟨rfl, _, (exec_acTestAbort _ s).trans rfl⟩)
  | portStart _ _ => exact .inr (.inl ⟨rfl, _, (exec_portStart _ _ s).trans rfl⟩)
  | leadinEnd _ _ => exact .inr (.inl ⟨rfl, _, (exec_leadinEnd _ _ s).trans rfl⟩)
  | portStop _ _ => exact .inr (.inl ⟨rfl, _, (exec_portStop _ _ s).trans rfl⟩)
  | portFadeEnd _ _ => exact .inr (.inl ⟨rfl, _, (exec_portFadeEnd _ _ s).trans rfl⟩)
  | leadoutEnd _ _ => exact .inr (.inl ⟨rfl, _, (exec_leadoutEnd _ _ s).trans rfl⟩)
  | maskChangeApply _ _ => exact .inr (.inl ⟨rfl, _, (exec_maskChangeApply _ _ s).trans rfl⟩)
  | receiverLock _ => exact .inr (.inl ⟨rfl, _, (exec_receiverLock _ s).trans rfl⟩)
  | receiverLockLoss _ => exact .inr (.inl ⟨rfl, _, (exec_receiverLockLoss _ s).trans rfl⟩)
  | portInputFrame _ _ => exact .inr (.inl ⟨rfl, _, (exec_portInputFrame _ _ s).trans rfl⟩)
  | aesInputFrame _ _ _ => exact .inr (.inl ⟨rfl, _, (exec_aesInputFrame _ _ _ s).trans rfl⟩)
  | aesCsBlock _ _ _ => exact .inr (.inl ⟨rfl, _, (exec_aesCsBlock _ _ _ s).trans rfl⟩)
  | madiInputFrame _ _ => exact .inr (.inl ⟨rfl, _, (exec_madiInputFrame _ _ s).trans rfl⟩)
  | rateMeasure _ _ _ _ => exact .inr (.inl ⟨rfl, _, (exec_rateMeasure _ _ _ _ s).trans rfl⟩)
  | asrcLock _ _ => exact .inr (.inl ⟨rfl, _, (exec_asrcLock _ _ s).trans rfl⟩)
  | asrcUnlock _ _ => exact .inr (.inl ⟨rfl, _, (exec_asrcUnlock _ _ s).trans rfl⟩)
  | hostAudioInRead _ => exact .inr (.inl ⟨rfl, _, (exec_hostAudioInRead _ s).trans rfl⟩)
  | hostAudioOutDone _ => exact .inr (.inl ⟨rfl, _, (exec_hostAudioOutDone _ s).trans rfl⟩)
  | servoMeasurement _ => exact .inr (.inl ⟨rfl, _, (exec_servoMeasurement _ s).trans rfl⟩)
  | ptpSync _ _ _ _ _ _ _ => exact .inr (.inl ⟨rfl, _, (exec_ptpSync _ _ _ _ _ _ _ s).trans rfl⟩)
  | ptpFollowUp _ _ _ _ _ _ => exact .inr (.inl ⟨rfl, _, (exec_ptpFollowUp _ _ _ _ _ _ s).trans rfl⟩)
  | ptpDelayReq _ _ _ _ => exact .inr (.inl ⟨rfl, _, (exec_ptpDelayReq _ _ _ _ s).trans rfl⟩)
  | ptpDelayResp _ _ _ _ _ _ => exact .inr (.inl ⟨rfl, _, (exec_ptpDelayResp _ _ _ _ _ _ s).trans rfl⟩)
  | ptpAnnounce _ _ => exact .inr (.inl ⟨rfl, _, (exec_ptpAnnounce _ _ s).trans rfl⟩)
  | ptpManagementSignaling _ _ _ => exact .inr (.inl ⟨rfl, _, (exec_ptpManagementSignaling _ _ _ s).trans rfl⟩)
  | announceTimeout _ => exact .inr (.inl ⟨rfl, _, (exec_announceTimeout _ s).trans rfl⟩)
  | ptpMessageInterval _ _ => exact .inr (.inl ⟨rfl, _, (exec_ptpMessageInterval _ _ s).trans rfl⟩)
  | ref10mMeasure _ => exact .inr (.inl ⟨rfl, _, (exec_ref10mMeasure _ s).trans rfl⟩)
  | triggerEdge _ => exact .inr (.inl ⟨rfl, _, (exec_triggerEdge _ s).trans rfl⟩)
  | captureEdge _ _ => exact .inr (.inl ⟨rfl, _, (exec_captureEdge _ _ s).trans rfl⟩)
  | tcapPop _ => exact .inr (.inl ⟨rfl, _, (exec_tcapPop _ s).trans rfl⟩)
  | ethFrameReceive _ _ _ _ _ => exact .inr (.inl ⟨rfl, _, (exec_ethFrameReceive _ _ _ _ _ s).trans rfl⟩)
  | streamPacketReceive _ _ => exact .inr (.inl ⟨rfl, _, (exec_streamPacketReceive _ _ s).trans rfl⟩)
  | arpRequest _ _ _ _ => exact .inr (.inl ⟨rfl, _, (exec_arpRequest _ _ _ _ s).trans rfl⟩)
  | icmpEchoRequest _ _ _ => exact .inr (.inl ⟨rfl, _, (exec_icmpEchoRequest _ _ _ s).trans rfl⟩)
  | igmpQuery _ _ _ _ => exact .inr (.inl ⟨rfl, _, (exec_igmpQuery _ _ _ _ s).trans rfl⟩)
  | igmpReport _ => exact .inr (.inl ⟨rfl, _, (exec_igmpReport _ s).trans rfl⟩)
  | linkChange _ _ => exact .inr (.inl ⟨rfl, _, (exec_linkChange _ _ s).trans rfl⟩)
  | gratuitousArp _ => exact .inr (.inl ⟨rfl, _, (exec_gratuitousArp _ s).trans rfl⟩)
  | htxTailWrite _ _ => exact .inr (.inl ⟨rfl, _, (exec_htxTailWrite _ _ s).trans rfl⟩)
  | hostFrameSend _ _ => exact .inr (.inl ⟨rfl, _, (exec_hostFrameSend _ _ s).trans rfl⟩)
  | txtsPop _ => exact .inr (.inl ⟨rfl, _, (exec_txtsPop _ s).trans rfl⟩)
  | patchPost _ => exact .inr (.inl ⟨rfl, _, (exec_patchPost _ s).trans rfl⟩)
  | crossfadeEnd _ => exact .inr (.inl ⟨rfl, _, (exec_crossfadeEnd _ s).trans rfl⟩)
  | mixNodePost _ => exact .inr (.inl ⟨rfl, _, (exec_mixNodePost _ s).trans rfl⟩)
  | generatorFadeEnd _ => exact .inr (.inl ⟨rfl, _, (exec_generatorFadeEnd _ s).trans rfl⟩)
  | meterClear _ => exact .inr (.inl ⟨rfl, _, (exec_meterClear _ s).trans rfl⟩)
  | meterConfigWrite _ _ _ => exact .inr (.inl ⟨rfl, _, (exec_meterConfigWrite _ _ _ s).trans rfl⟩)
  | loudnessStart _ => exact .inr (.inl ⟨rfl, _, (exec_loudnessStart _ s).trans rfl⟩)
  | loudnessStop _ => exact .inr (.inl ⟨rfl, _, (exec_loudnessStop _ s).trans rfl⟩)
  | loudnessReset _ => exact .inr (.inl ⟨rfl, _, (exec_loudnessReset _ s).trans rfl⟩)
  | loudnessBlock _ => exact .inr (.inl ⟨rfl, _, (exec_loudnessBlock _ s).trans rfl⟩)
  | detectorClear _ => exact .inr (.inl ⟨rfl, _, (exec_detectorClear _ s).trans rfl⟩)
  | detectorConfigWrite _ _ _ => exact .inr (.inl ⟨rfl, _, (exec_detectorConfigWrite _ _ _ s).trans rfl⟩)
  | captureBlendEnd _ => exact .inr (.inl ⟨rfl, _, (exec_captureBlendEnd _ s).trans rfl⟩)
  | measStart _ => exact .inr (.inl ⟨rfl, _, (exec_measStart _ s).trans rfl⟩)
  | training _ => exact .inr (.inl ⟨rfl, _, (exec_training _ s).trans rfl⟩)
  | trainingDone _ => exact .inr (.inl ⟨rfl, _, (exec_trainingDone _ s).trans rfl⟩)
  | mr4Poll _ _ _ _ _ => exact .inr (.inl ⟨rfl, _, (exec_mr4Poll _ _ _ _ _ s).trans rfl⟩)
  | bankRefresh _ _ => exact .inr (.inl ⟨rfl, _, (exec_bankRefresh _ _ s).trans rfl⟩)
  | dramRequest _ _ _ _ _ _ _ _ _ => exact .inr (.inl ⟨rfl, _, (exec_dramRequest _ _ _ _ _ _ _ _ _ s).trans rfl⟩)
  | scrubRead _ => exact .inr (.inl ⟨rfl, _, (exec_scrubRead _ s).trans rfl⟩)
  | idleSelfRefreshEntry _ => exact .inr (.inl ⟨rfl, _, (exec_idleSelfRefreshEntry _ s).trans rfl⟩)
  | weaveBurst _ _ => exact .inr (.inl ⟨rfl, _, (exec_weaveBurst _ _ s).trans rfl⟩)
  | initiatorResetMidBurst _ _ => exact .inr (.inl ⟨rfl, _, (exec_initiatorResetMidBurst _ _ s).trans rfl⟩)
  | resetRelease _ => exact .inr (.inr ⟨rfl, _, (exec_resetRelease _ s).trans rfl⟩)
  | startReady _ _ _ => exact .inr (.inl ⟨rfl, _, (exec_startReady _ _ _ s).trans rfl⟩)
  | hostLoadGo _ => exact .inr (.inl ⟨rfl, _, (exec_hostLoadGo _ s).trans rfl⟩)
  | startAttemptFail _ => exact .inr (.inl ⟨rfl, _, (exec_startAttemptFail _ s).trans rfl⟩)
  | bootRetry _ => exact .inr (.inl ⟨rfl, _, (exec_bootRetry _ s).trans rfl⟩)
  | safeHoldEntry _ _ => exact .inr (.inl ⟨rfl, _, (exec_safeHoldEntry _ _ s).trans rfl⟩)
  | safeHoldRetry _ => exact .inr (.inl ⟨rfl, _, (exec_safeHoldRetry _ s).trans rfl⟩)
  | startAttemptCommand _ => exact .inr (.inl ⟨rfl, _, (exec_startAttemptCommand _ s).trans rfl⟩)
  | lifecycleAdvance _ _ => exact .inr (.inl ⟨rfl, _, (exec_lifecycleAdvance _ _ s).trans rfl⟩)
  | pinReadback _ _ => exact .inr (.inl ⟨rfl, _, (exec_pinReadback _ _ s).trans rfl⟩)
  | selftestSlice _ _ _ _ _ => exact .inr (.inl ⟨rfl, _, (exec_selftestSlice _ _ _ _ _ s).trans rfl⟩)
  | bistRun _ => exact .inr (.inl ⟨rfl, _, (exec_bistRun _ s).trans rfl⟩)
  | bistInject _ => exact .inr (.inl ⟨rfl, _, (exec_bistInject _ s).trans rfl⟩)
  | rejoin _ => exact .inr (.inl ⟨rfl, _, (exec_rejoin _ s).trans rfl⟩)
  | faultRecord _ _ _ => exact .inr (.inl ⟨rfl, _, (exec_faultRecord _ _ _ s).trans rfl⟩)
  | sramScrub _ => exact .inr (.inl ⟨rfl, _, (exec_sramScrub _ s).trans rfl⟩)
  | faultTailWrite _ => exact .inr (.inl ⟨rfl, _, (exec_faultTailWrite _ s).trans rfl⟩)
  | sanAddr _ => exact .inr (.inr ⟨rfl, _, (exec_sanAddr _ s).trans rfl⟩)
  | extest _ => exact .inr (.inr ⟨rfl, _, (exec_extest _ s).trans rfl⟩)
  | samplePreload _ => exact .inr (.inr ⟨rfl, _, (exec_samplePreload _ s).trans rfl⟩)
  | gpioSample _ => exact .inr (.inl ⟨rfl, _, (exec_gpioSample _ s).trans rfl⟩)
  | arrayWindowWrite _ _ _ _ => exact .inr (.inl ⟨rfl, _, (exec_arrayWindowWrite _ _ _ _ s).trans rfl⟩)
  | arpReply _ _ _ => exact .inr (.inl ⟨rfl, _, (exec_arpReply _ _ _ s).trans rfl⟩)
  | senseOverload _ => exact .inr (.inl ⟨rfl, _, (exec_senseOverload _ s).trans rfl⟩)
  | portOutputFrame _ => exact .inr (.inl ⟨rfl, _, (exec_portOutputFrame _ s).trans rfl⟩)
  | setPointSwitchDone _ => exact .inr (.inl ⟨rfl, _, (exec_setPointSwitchDone _ s).trans rfl⟩)
  | bistRunDone _ => exact .inr (.inl ⟨rfl, _, (exec_bistRunDone _ s).trans rfl⟩)
  | pcieAtomicOp _ _ _ _ _ _ => exact .inr (.inl ⟨rfl, _, (exec_pcieAtomicOp _ _ _ _ _ _ s).trans rfl⟩)
  | arpRefresh _ _ => exact .inr (.inl ⟨rfl, _, (exec_arpRefresh _ _ s).trans rfl⟩)
  | heartbeat _ => exact .inr (.inl ⟨rfl, _, (exec_heartbeat _ s).trans rfl⟩)
  | frameRecordSeal _ => exact .inr (.inl ⟨rfl, _, (exec_frameRecordSeal _ s).trans rfl⟩)
  | frameRecord _ => exact .inr (.inl ⟨rfl, _, (exec_frameRecord _ s).trans rfl⟩)
  | plaitMirror _ _ _ => exact .inr (.inl ⟨rfl, _, (exec_plaitMirror _ _ _ s).trans rfl⟩)
  | standbyReport _ _ _ _ _ => exact .inr (.inl ⟨rfl, _, (exec_standbyReport _ _ _ _ _ s).trans rfl⟩)
  | resyncMessage _ _ => exact .inr (.inl ⟨rfl, _, (exec_resyncMessage _ _ s).trans rfl⟩)
  | guardBegin => exact .inr (.inl ⟨rfl, _, (exec_guardBegin s).trans rfl⟩)
  | directCutoff => exact .inr (.inl ⟨rfl, _, (exec_directCutoff s).trans rfl⟩)
  | rateChangeRamp => exact .inr (.inl ⟨rfl, _, (exec_rateChangeRamp s).trans rfl⟩)
  | rateChangeMute => exact .inr (.inl ⟨rfl, _, (exec_rateChangeMute s).trans rfl⟩)
  | rateChangeSwitch => exact .inr (.inl ⟨rfl, _, (exec_rateChangeSwitch s).trans rfl⟩)
  | rateChangeResume => exact .inr (.inl ⟨rfl, _, (exec_rateChangeResume s).trans rfl⟩)
  | spiReadTimeout => exact .inr (.inl ⟨rfl, _, (exec_spiReadTimeout s).trans rfl⟩)
  | spiStatus => exact .inr (.inl ⟨rfl, _, (exec_spiStatus s).trans rfl⟩)
  | spiClear => exact .inr (.inl ⟨rfl, _, (exec_spiClear s).trans rfl⟩)
  | layoutBuildDone => exact .inr (.inl ⟨rfl, _, (exec_layoutBuildDone s).trans rfl⟩)
  | healingRebuildDone => exact .inr (.inl ⟨rfl, _, (exec_healingRebuildDone s).trans rfl⟩)
  | recordPost => exact .inr (.inl ⟨rfl, _, (exec_recordPost s).trans rfl⟩)
  | warpPostAccept => exact .inr (.inl ⟨rfl, _, (exec_warpPostAccept s).trans rfl⟩)
  | warpFadeDone => exact .inr (.inl ⟨rfl, _, (exec_warpFadeDone s).trans rfl⟩)
  | corrPrepDone => exact .inr (.inl ⟨rfl, _, (exec_corrPrepDone s).trans rfl⟩)
  | corrFadeDone => exact .inr (.inl ⟨rfl, _, (exec_corrFadeDone s).trans rfl⟩)
  | nodeDispatch => exact .inr (.inl ⟨rfl, _, (exec_nodeDispatch s).trans rfl⟩)
  | heldReleaseEnter => exact .inr (.inl ⟨rfl, _, (exec_heldReleaseEnter s).trans rfl⟩)
  | submitHoldRelease => exact .inr (.inl ⟨rfl, _, (exec_submitHoldRelease s).trans rfl⟩)
  | nodeActivate => exact .inr (.inl ⟨rfl, _, (exec_nodeActivate s).trans rfl⟩)
  | nodeDeactivate => exact .inr (.inl ⟨rfl, _, (exec_nodeDeactivate s).trans rfl⟩)
  | regulatorTimeout => exact .inr (.inl ⟨rfl, _, (exec_regulatorTimeout s).trans rfl⟩)
  | domainTransitionDone => exact .inr (.inl ⟨rfl, _, (exec_domainTransitionDone s).trans rfl⟩)
  | standbyEnter => exact .inr (.inl ⟨rfl, _, (exec_standbyEnter s).trans rfl⟩)
  | clockError => exact .inr (.inl ⟨rfl, _, (exec_clockError s).trans rfl⟩)
  | clockRecovery => exact .inr (.inl ⟨rfl, _, (exec_clockRecovery s).trans rfl⟩)
  | holdover => exact .inr (.inl ⟨rfl, _, (exec_holdover s).trans rfl⟩)
  | stakeSet => exact .inr (.inl ⟨rfl, _, (exec_stakeSet s).trans rfl⟩)
  | stakeAdd => exact .inr (.inl ⟨rfl, _, (exec_stakeAdd s).trans rfl⟩)
  | stakeSubtract => exact .inr (.inl ⟨rfl, _, (exec_stakeSubtract s).trans rfl⟩)
  | stakeStepRequest => exact .inr (.inl ⟨rfl, _, (exec_stakeStepRequest s).trans rfl⟩)
  | stakeStepApply => exact .inr (.inl ⟨rfl, _, (exec_stakeStepApply s).trans rfl⟩)
  | ppsEdge => exact .inr (.inl ⟨rfl, _, (exec_ppsEdge s).trans rfl⟩)
  | ppsLoss => exact .inr (.inl ⟨rfl, _, (exec_ppsLoss s).trans rfl⟩)
  | routeFadeDone => exact .inr (.inl ⟨rfl, _, (exec_routeFadeDone s).trans rfl⟩)
  | measAbort => exact .inr (.inl ⟨rfl, _, (exec_measAbort s).trans rfl⟩)
  | measClear => exact .inr (.inl ⟨rfl, _, (exec_measClear s).trans rfl⟩)
  | measRunEnd => exact .inr (.inl ⟨rfl, _, (exec_measRunEnd s).trans rfl⟩)
  | responseStored => exact .inr (.inl ⟨rfl, _, (exec_responseStored s).trans rfl⟩)
  | setPointHeldStart => exact .inr (.inl ⟨rfl, _, (exec_setPointHeldStart s).trans rfl⟩)
  | urgencyRaise => exact .inr (.inl ⟨rfl, _, (exec_urgencyRaise s).trans rfl⟩)
  | lockTimeout => exact .inr (.inl ⟨rfl, _, (exec_lockTimeout s).trans rfl⟩)
  | porstAssert => exact .inr (.inr ⟨rfl, _, (exec_porstAssert s).trans rfl⟩)
  | sysrstAssert => exact .inr (.inr ⟨rfl, _, (exec_sysrstAssert s).trans rfl⟩)
  | selftestWindowHeld => exact .inr (.inl ⟨rfl, _, (exec_selftestWindowHeld s).trans rfl⟩)
  | hostLoadTimeout => exact .inr (.inl ⟨rfl, _, (exec_hostLoadTimeout s).trans rfl⟩)
  | shutdownPin => exact .inr (.inr ⟨rfl, _, (exec_shutdownPin s).trans rfl⟩)
  | shutdownCommand => exact .inr (.inl ⟨rfl, _, (exec_shutdownCommand s).trans rfl⟩)
  | otpRead => exact .inr (.inl ⟨rfl, _, (exec_otpRead s).trans rfl⟩)
  | otpProgram => exact .inr (.inl ⟨rfl, _, (exec_otpProgram s).trans rfl⟩)
  | otpOperationDone => exact .inr (.inl ⟨rfl, _, (exec_otpOperationDone s).trans rfl⟩)
  | recordErase => exact .inr (.inl ⟨rfl, _, (exec_recordErase s).trans rfl⟩)
  | sliceAbandon => exact .inr (.inl ⟨rfl, _, (exec_sliceAbandon s).trans rfl⟩)
  | coverageLapse => exact .inr (.inl ⟨rfl, _, (exec_coverageLapse s).trans rfl⟩)
  | heartbeatLoss => exact .inr (.inl ⟨rfl, _, (exec_heartbeatLoss s).trans rfl⟩)
  | hoopLinkChange => exact .inr (.inl ⟨rfl, _, (exec_hoopLinkChange s).trans rfl⟩)
  | claimTimeout => exact .inr (.inl ⟨rfl, _, (exec_claimTimeout s).trans rfl⟩)
  | secondaryClaimTimeout => exact .inr (.inl ⟨rfl, _, (exec_secondaryClaimTimeout s).trans rfl⟩)
  | yield => exact .inr (.inl ⟨rfl, _, (exec_yield s).trans rfl⟩)
  | rejoinCommand => exact .inr (.inl ⟨rfl, _, (exec_rejoinCommand s).trans rfl⟩)
  | revertRequest => exact .inr (.inl ⟨rfl, _, (exec_revertRequest s).trans rfl⟩)
  | revertHoldExpiry => exact .inr (.inl ⟨rfl, _, (exec_revertHoldExpiry s).trans rfl⟩)
  | collectorMismatch => exact .inr (.inl ⟨rfl, _, (exec_collectorMismatch s).trans rfl⟩)
  | freezePin => exact .inr (.inr ⟨rfl, _, (exec_freezePin s).trans rfl⟩)
  | freezeCommand => exact .inr (.inl ⟨rfl, _, (exec_freezeCommand s).trans rfl⟩)
  | freezeRelease => exact .inr (.inr ⟨rfl, _, (exec_freezeRelease s).trans rfl⟩)
  | freezeLimitExpiry => exact .inr (.inr ⟨rfl, _, (exec_freezeLimitExpiry s).trans rfl⟩)
  | sanData => exact .inr (.inr ⟨rfl, _, (exec_sanData s).trans rfl⟩)
  | sanRelease => exact .inr (.inr ⟨rfl, _, (exec_sanRelease s).trans rfl⟩)
  | sanStatus => exact .inr (.inr ⟨rfl, _, (exec_sanStatus s).trans rfl⟩)
  | idcode => exact .inr (.inr ⟨rfl, _, (exec_idcode s).trans rfl⟩)
  | clamp => exact .inr (.inr ⟨rfl, _, (exec_clamp s).trans rfl⟩)
  | highz => exact .inr (.inr ⟨rfl, _, (exec_highz s).trans rfl⟩)
  | bypass => exact .inr (.inr ⟨rfl, _, (exec_bypass s).trans rfl⟩)
  | tapReset => exact .inr (.inr ⟨rfl, _, (exec_tapReset s).trans rfl⟩)
  | pcieLinkDown => exact .inr (.inl ⟨rfl, _, (exec_pcieLinkDown s).trans rfl⟩)
  | gmHoldoverLimit => exact .inr (.inl ⟨rfl, _, (exec_gmHoldoverLimit s).trans rfl⟩)

end Sys2Proof.Machine
end

