-- ==== Sys2Proof/Laws/Osier.lean ====
section
/-!
SUPPORT. What the issue of a bundle comes to on a core where no rule stops it: the fields of a bank that its write-backs leave alone, and
the write-backs, control flow and counts that the bundle leads to.
-/
namespace Sys2Proof.Machine

/-- The fields of a bank that write-backs do not touch. -/
def Bank.ctlFields (b : Bank) : Option Nat × Nat × List (Nat × Nat) × Nat × Option Nat × Nat × Nat × Option Nat × Nat × Option Bool :=
  (b.node, b.pc, b.loops, b.delay, b.target, b.issued, b.cost, b.stall, b.stalled, b.done)

theorem Bank.put_ctl (b : Bank) (d : Dest) (x : Int) : (b.put d x).ctlFields = b.ctlFields := by
  cases d with
  | lc i => unfold Bank.put; simp only []; split <;> rfl
  | _ => rfl

theorem Bank.take_ctl (b : Bank) (w : WriteBack) : (b.take w).ctlFields = b.ctlFields := by
  unfold Bank.take
  simp only []
  split
  · exact Bank.put_ctl b w.dest w.val
  · split
    · rfl
    · exact Bank.put_ctl b w.dest w.val

theorem Bank.settle_ctl (b : Bank) : b.settle.ctlFields = b.ctlFields := by
  unfold Bank.settle
  simp only []
  rw [foldl_keeps Bank.ctlFields Bank.take Bank.take_ctl]
  rfl

theorem Bank.settle_node (b : Bank) : b.settle.node = b.node := congrArg (·.1) b.settle_ctl
theorem Bank.settle_delay (b : Bank) : b.settle.delay = b.delay := congrArg (·.2.2.2.1) b.settle_ctl
theorem Bank.settle_stall (b : Bank) : b.settle.stall = b.stall := congrArg (·.2.2.2.2.2.2.2.1) b.settle_ctl
theorem Bank.settle_done (b : Bank) : b.settle.done = b.done := congrArg (·.2.2.2.2.2.2.2.2.2) b.settle_ctl

/-- A bank whose control fields are as before keeps the choice of the bank that issues. -/
theorem CoreSt.setActive_inBank1 (c : CoreSt) (b : Bank) (h1 : b.node = c.active.node) (h2 : b.delay = c.active.delay)
    (h3 : b.stall = c.active.stall) : (c.setActive b).inBank1 = c.inBank1 := by
  unfold CoreSt.setActive
  unfold CoreSt.active at h1 h2 h3
  cases hb : c.inBank1 with
  | true =>
    rw [hb] at h1 h2 h3
    simp only [if_true] at h1 h2 h3 ⊢
    unfold CoreSt.inBank1 at hb ⊢
    rw [h1]
    exact hb
  | false =>
    rw [hb] at h1 h2 h3
    simp only [Bool.false_eq_true, if_false] at h1 h2 h3 ⊢
    unfold CoreSt.inBank1 at hb ⊢
    rw [h1, h2, h3]
    exact hb

theorem CoreSt.setActive_active (c : CoreSt) (b : Bank) (h : (c.setActive b).inBank1 = c.inBank1) : (c.setActive b).active = b := by
  unfold CoreSt.active
  rw [h]
  unfold CoreSt.setActive
  cases c.inBank1 <;> rfl

@[simp] theorem Osier.core_setCore (s : State) (k : Nat) (c : CoreSt) : Osier.core (Osier.setCore s k c) k = c := by
  unfold Osier.core Osier.setCore
  exact Tab.get_set_same _ _ _ _

theorem Osier.core_setCore_ne (s : State) {k j : Nat} (c : CoreSt) (h : j ≠ k) : Osier.core (Osier.setCore s k c) j = Osier.core s j := by
  unfold Osier.core Osier.setCore
  exact Tab.get_set_ne _ _ _ h

/-- The core as the bundle finds it: everything due is visible. -/
def Osier.settled (s : State) (k : Nat) : State := Osier.setCore s k ((Osier.core s k).setActive (Osier.core s k).active.settle)

theorem Osier.settled_inBank1 (s : State) (k : Nat) : (Osier.core (Osier.settled s k) k).inBank1 = (Osier.core s k).inBank1 := by
  unfold Osier.settled
  rw [Osier.core_setCore]
  exact CoreSt.setActive_inBank1 _ _ (Bank.settle_node _) (Bank.settle_delay _) (Bank.settle_stall _)

theorem Osier.settled_active (s : State) (k : Nat) : (Osier.core (Osier.settled s k) k).active = (Osier.core s k).active.settle := by
  have h := Osier.settled_inBank1 s k
  unfold Osier.settled at h ⊢
  rw [Osier.core_setCore] at h ⊢
  exact CoreSt.setActive_active _ _ h

/-- A bundle that no rule stops is executed. -/
theorem Osier.issue_ready (s : State) (k : Nat) (i : Bundle) (b : Bank) (h : Osier.ready s k i b) :
    Osier.issue s.begin k i = Osier.execute (Osier.settled s.begin k) k i := by
  have e1 := Osier.settled_inBank1 s.begin k
  have e2 := Osier.settled_active s.begin k
  have hx : ∀ {α : Type} (g : CoreSt → α), (∀ c b, g (CoreSt.setActive c b) = g c) →
      g (Osier.core (Osier.settled s.begin k) k) = g (Osier.core s k) := by
    intro α g hg
    unfold Osier.settled
    rw [Osier.core_setCore, hg]
    rfl
  have ex := hx (·.xfers) (fun c b => by unfold CoreSt.setActive; cases c.inBank1 <;> rfl)
  have ee := hx (·.xferErr) (fun c b => by unfold CoreSt.setActive; cases c.inBank1 <;> rfl)
  have ep := hx (·.injParity) (fun c b => by unfold CoreSt.setActive; cases c.inBank1 <;> rfl)
  have er := hx (·.injResidue) (fun c b => by unfold CoreSt.setActive; cases c.inBank1 <;> rfl)
  have ec : Osier.core s.begin k = Osier.core s k := rfl
  obtain ⟨h1, h2, h3, h4, h5, h6, h7, h8, h9, h10, h11, h12, h13, h14, h15, h16⟩ := h
  rw [ec] at e1 e2
  rw [← h5] at e2
  unfold Osier.issue
  simp only []
  rw [if_neg]
  · rw [show Osier.setCore s.begin k ((Osier.core s.begin k).setActive (Osier.core s.begin k).active.settle) =
      Osier.settled s.begin k from rfl]
    simp only [e1, e2, ex, ee, ep, er]
    rw [if_neg h7, if_neg (by simp [h6]), if_neg, if_neg, if_neg, if_neg, if_neg, if_neg, if_neg]
    · rintro ⟨a, b⟩
      exact Bool.noConfusion (b.symm.trans (h16 a))
    · rintro ⟨a, b⟩
      exact Bool.noConfusion (b.symm.trans (h15 a))
    · rintro ⟨a, c⟩
      have := h14 a
      have e : Osier.xferOf i b (Osier.settled s.begin k) = Osier.xferOf i b s := rfl
      rw [e] at c
      exact Bool.noConfusion (c.symm.trans this)
    · simp [h12, h13]
    · rintro ⟨o, a, c⟩
      exact Bool.noConfusion (c.symm.trans (h11 (by simpa using o) a))
    · rintro ⟨o, ⟨a, c⟩ | ⟨a, c⟩⟩
      · have := h10 (by simpa using o) a; omega
      · have := (h9 a).2; omega
    · rintro (⟨a, c⟩ | ⟨a, c⟩)
      · have := h8 a; simp [this] at c
      · have := (h9 a).1; simp [this] at c
  · rintro (a | a | a | ⟨a, c⟩)
    · have : s.begin.pageUp (Osier.pageOf k) = s.pageUp (Osier.pageOf k) := rfl
      rw [this, h1] at a
      simp at a
    · rw [ec] at a
      simp [a] at h2
    · rw [ec, h3] at a
      simp at a
    · rw [ec] at a c
      have := h4 a
      omega

/-! ### Control flow -/

theorem Bank.setLc_wbs (b : Bank) (l : List WriteBack) (i n : Nat) :
    ({ b with wbs := l } : Bank).setLc i n = { b.setLc i n with wbs := l } := by
  unfold Bank.setLc
  simp only []
  split <;> rfl

theorem Bank.endLevel_wbs (b : Bank) (l : List WriteBack) (pc : Nat) :
    ({ b with wbs := l } : Bank).endLevel pc = ({ (b.endLevel pc).1 with wbs := l }, (b.endLevel pc).2) := by
  obtain ⟨b1, b2, b3, b4, b5, b6, b7, b8, b9, b10, loops, b12, b13, b14, b15, b16, b17, b18, b19, b20⟩ := b
  match loops with
  | [] => rfl
  | [(first, last)] =>
    unfold Bank.endLevel
    by_cases h : last = pc
    · by_cases hl : 0 < BitVec.toNat b6 - 1 <;> simp [h, hl, Bank.setLc]
    · simp [h]
  | (first, last) :: (first', last') :: rest =>
    unfold Bank.endLevel
    by_cases h : last = pc
    · by_cases hl : 0 < BitVec.toNat b7 - 1 <;> simp [h, hl, Bank.setLc]
    · by_cases h2 : last' = pc
      · by_cases hl : 1 < BitVec.toNat b6 <;> simp [h, h2, hl, Bank.setLc]
      · simp [h, h2]

theorem Bank.advance_wbs (b : Bank) (l : List WriteBack) :
    ({ b with wbs := l } : Bank).advance = { b.advance with wbs := l } := by
  have h := Bank.endLevel_wbs { b with delay := b.delay - 1, pc := b.pc + 1 } l b.pc
  have h2 := Bank.endLevel_wbs (({ b with delay := b.delay - 1, pc := b.pc + 1 } : Bank).endLevel b.pc).1 l b.pc
  unfold Bank.advance
  simp only [h]
  split
  · rfl
  · rw [h2]

/-- The flow of a bundle does not look at the write-backs. -/
theorem Osier.flow_wbs (i : Bundle) (b : Bank) (l : List WriteBack) :
    Osier.flow i { b with wbs := l } = { Osier.flow i b with wbs := l } := by
  have e1 : i.loopCount { b with wbs := l } = i.loopCount b := rfl
  have e2 : i.target { b with wbs := l } = i.target b := rfl
  have e3 : i.takes { b with wbs := l } = i.takes b := rfl
  unfold Osier.flow
  rw [e1, e2, e3]
  split
  · rfl
  split
  · unfold Bank.openLevel
    simp only []
    split <;> rfl
  split
  · rfl
  split
  · rfl
  split
  · rfl
  exact Bank.advance_wbs b l

/-! ### What a bundle leaves of its core -/

/-- The fields of a core that moves between local memory and registers do not touch. -/
def CoreSt.kept (c : CoreSt) : Bank × Bank × List Xfer × Bool × Bool × Bool :=
  (c.b0, c.b1, c.xfers, c.xferErr, c.injResidue, c.injParity)

theorem Osier.kept_setCore (s : State) (k j : Nat) (c : CoreSt) (h : c.kept = (Osier.core s k).kept) :
    (Osier.core (Osier.setCore s k c) j).kept = (Osier.core s j).kept := by
  by_cases e : j = k
  · subst e; rw [Osier.core_setCore, h]
  · rw [Osier.core_setCore_ne _ _ e]

theorem Osier.kept_st32 (s : State) (a : Nat) (w : Word) (j : Nat) : Osier.core (s.st32 a w) j = Osier.core s j := by
  have : ∀ (l : List Byte) (s : State) a, (s.stN a l).osier = s.osier := by
    intro l
    induction l with
    | nil => intro s a; rfl
    | cons b l ih => intro s a; exact (ih _ _).trans rfl
  unfold Osier.core State.st32
  rw [this]

theorem Osier.kept_writeWord (s : State) (k : Nat) (y : Bool) (w : Nat) (v : Word) (j : Nat) :
    (Osier.core (Osier.writeWord s k y w v) j).kept = (Osier.core s j).kept := by
  unfold Osier.writeWord
  simp only []
  generalize (if y = true then 0x4000 else 0) + w = key
  rw [Osier.kept_st32]
  split
  · exact Osier.kept_setCore s k j _ rfl
  · rfl

theorem Osier.kept_store (s : State) (k : Nat) (y : Bool) (b : Bank) (m : Move) (p j : Nat) :
    (Osier.core (Osier.store s k y b m p) j).kept = (Osier.core s j).kept := by
  unfold Osier.store
  split
  · exact foldl_keeps (fun s => (Osier.core s j).kept) (fun s (q : Nat × Nat) => Osier.writeWord s k y q.1 (b.vw m.r q.2))
      (fun s q => Osier.kept_writeWord s k y q.1 _ j) _ s
  · split
    · exact Osier.kept_writeWord s k y p _ j
    · rfl

/-- A move slot with operation 0 does nothing. -/
theorem Osier.load_none (s : State) (k : Nat) (y : Bool) (m : Move) (p : Nat) (h : m.isLoad = false) : Osier.load s k y m p = [] := by
  unfold Osier.load
  rw [h]
  rfl

theorem Osier.store_none (s : State) (k : Nat) (y : Bool) (b : Bank) (m : Move) (p : Nat) (h2 : m.op ≠ 2) (h4 : m.op ≠ 4) :
    Osier.store s k y b m p = s := by
  unfold Osier.store
  rw [if_neg h2, if_neg h4]

theorem Coil.costPassed_only (s : State) (k : Nat) : State.coilOnly s (Coil.costPassed s k) := by
  unfold Coil.costPassed
  split
  · split
    · exact State.coilOnly_refl s
    · unfold Coil.overrun
      simp only [if_true]
      exact State.coilOnly_trans (State.coilOnly_trans (State.coilOnly_trans (Coil.setAct_only s _ _) (State.coilOnly_count _ _ _))
        (State.coilOnly_irq _ _ _)) (State.coilOnly_faultD _ _ _ _)
  · exact State.coilOnly_refl s

theorem State.coilOnly_ite {s a b : State} {c : Prop} [Decidable c] (h1 : State.coilOnly s a) (h2 : State.coilOnly s b) :
    State.coilOnly s (if c then a else b) := by
  by_cases h : c
  · rw [if_pos h]; exact h1
  · rw [if_neg h]; exact h2

/-- The counts of a bundle change registers, and through the Coil its own state. -/
theorem Osier.tally_only (s : State) (k : Nat) (one : Bool) : State.coilOnly s (Osier.tally s k one) := by
  have h1 : ∀ a b n, State.coilOnly s (s.wr64 a b n) := fun _ _ _ => rfl
  unfold Osier.tally
  exact State.coilOnly_ite (h1 _ _ _) (State.coilOnly_ite (State.coilOnly_trans (h1 _ _ _) (Coil.costPassed_only _ _)) (h1 _ _ _))

theorem State.coilOnly_osier {s t : State} (h : State.coilOnly s t) : t.osier = s.osier := by rw [h]

theorem CoreSt.kept_inBank1 {c d : CoreSt} (h : c.kept = d.kept) : c.inBank1 = d.inBank1 := by
  have h0 : c.b0 = d.b0 := congrArg (·.1) h
  have h1 : c.b1 = d.b1 := congrArg (·.2.1) h
  unfold CoreSt.inBank1
  rw [h0, h1]

theorem Osier.fabricWrite_only (s : State) (i : Bundle) (b : Bank) : State.coilOnly s (Osier.fabricWrite s i b) := by
  unfold Osier.fabricWrite
  split
  · refine State.coilOnly_foldl _ (fun s l => ?_) lanes s
    exact State.coilOnly_ite rfl (State.coilOnly_refl s)
  · exact State.coilOnly_refl s

theorem Osier.core_of_osier {s t : State} (h : t.osier = s.osier) (k : Nat) : Osier.core t k = Osier.core s k := by
  unfold Osier.core
  rw [h]

/-- The write-backs of a bundle's loads. -/
def Osier.loaded (s : State) (k : Nat) (i : Bundle) : List OW :=
  let b := (Osier.core s k).active
  Osier.load s k false (Move.ofNat i.x) (b.af (Move.ofNat i.x).areg 0) ++
    Osier.load s k true (Move.ofNat i.y) (b.af (4 + (Move.ofNat i.y).areg) 0)

/-- What the slots beside the compute slot write back. -/
def Osier.companions (s : State) (k : Nat) (i : Bundle) : List OW :=
  Osier.loaded s k i ++ i.pointers (Osier.core s k).active ++
    (if i.ctl / 256 = 5 then [(Dest.flag 4, 0, 1)] else [])

/-- The state after the stores of a bundle. -/
def Osier.stored (s : State) (k : Nat) (i : Bundle) : State :=
  let b := (Osier.core s k).active
  Osier.store (Osier.store (Osier.fabricWrite s i b) k false b (Move.ofNat i.x) (b.af (Move.ofNat i.x).areg 0)) k true b
    (Move.ofNat i.y) (b.af (4 + (Move.ofNat i.y).areg) 0)

theorem Osier.kept_stored (s : State) (k : Nat) (i : Bundle) (j : Nat) :
    (Osier.core (Osier.stored s k i) j).kept = (Osier.core s j).kept := by
  unfold Osier.stored
  simp only []
  rw [Osier.kept_store, Osier.kept_store, Osier.core_of_osier (State.coilOnly_osier (Osier.fabricWrite_only _ _ _))]

/-- The core after a bundle, before its end is looked at. -/
def Osier.afterCore (s : State) (k : Nat) (i : Bundle) (ws : List OW) : CoreSt :=
  { (Osier.core (Osier.stored s k i) k).setBank (Osier.core s k).inBank1 (Osier.bankAfter i (Osier.core s k).active ws s.clk.mono) with
    xfers := Osier.xfersAfter (Osier.stored s k i) k i (Osier.core s k).active }

theorem Osier.execute_eq (s : State) (k : Nat) (i : Bundle) : ∃ u ws,
    ws = i.compute (Osier.core s k).active (Osier.core s k).xfers.length ++
      Osier.fabricRead s i (Osier.core s k).active ++ Osier.companions s k i ∧
    State.coilOnly (Osier.setCore (Osier.stored s k i) k (Osier.afterCore s k i ws)) u ∧
    Osier.execute s k i = Osier.conclude u k i (Osier.core s k).inBank1 (Osier.core s k).active.pc :=
  ⟨_, _, rfl, Osier.tally_only _ k _, rfl⟩

theorem Osier.flow_queue (i : Bundle) (b : Bank) (l : List OW) :
    Osier.flow i (b.queue l) = { Osier.flow i b with wbs := (b.queue l).wbs } := Osier.flow_wbs i b _

/-- The bank after a bundle that is not DONE and stays in the instruction memory. -/
theorem Osier.execute_bank (s : State) (k : Nat) (i : Bundle) (hd : i.isDone = false)
    (hp : (Osier.flow i (Osier.core s k).active).pc < 4096) : ∃ ws,
    ws = i.compute (Osier.core s k).active (Osier.core s k).xfers.length ++
      Osier.fabricRead s i (Osier.core s k).active ++ Osier.companions s k i ∧
    Osier.core (Osier.execute s k i) k = Osier.afterCore s k i ws ∧ (Osier.execute s k i).mem = (Osier.stored s k i).mem := by
  obtain ⟨u, ws, hw, hu, he⟩ := Osier.execute_eq s k i
  refine ⟨ws, hw, ?_⟩
  have hc : Osier.core u k = Osier.afterCore s k i ws := by
    rw [Osier.core_of_osier (State.coilOnly_osier hu), Osier.core_setCore]
  have hm : u.mem = (Osier.stored s k i).mem := (State.coilOnly_mem hu).trans rfl
  have hb : (if (Osier.core s k).inBank1 then (Osier.afterCore s k i ws).b1 else (Osier.afterCore s k i ws).b0) =
      Osier.bankAfter i (Osier.core s k).active ws s.clk.mono := by
    unfold Osier.afterCore CoreSt.setBank
    cases (Osier.core s k).inBank1 <;> rfl
  have hpc : (Osier.bankAfter i (Osier.core s k).active ws s.clk.mono).pc = (Osier.flow i (Osier.core s k).active).pc := by
    unfold Osier.bankAfter
    rw [Osier.flow_queue]
  have : Osier.execute s k i = u := by
    rw [he]
    unfold Osier.conclude
    simp only []
    rw [hd, hc, hb, hpc]
    simp only [Bool.false_eq_true, if_false]
    rw [if_neg (by omega)]
  rw [this]
  exact ⟨hc, hm⟩

/-- Empty slots write nothing back and store nothing. -/
theorem Osier.companions_none (s : State) (k : Nat) (i : Bundle) (hx : i.x = 0) (hy : i.y = 0) (hc : i.ctl = 0) :
    Osier.companions s k i = [] ∧ (Osier.stored s k i).mem = s.mem := by
  have hl : Osier.loaded s k i = [] := by
    unfold Osier.loaded
    simp only [hx, hy]
    rw [Osier.load_none s k false (Move.ofNat 0) _ rfl, Osier.load_none s k true (Move.ofNat 0) _ rfl]
    rfl
  refine ⟨?_, ?_⟩
  · unfold Osier.companions
    rw [hl]
    unfold Bundle.pointers
    simp only [hx, hy, hc]
    rfl
  · unfold Osier.stored
    simp only [hx, hy]
    rw [Osier.store_none _ _ _ _ _ _ (by decide) (by decide), Osier.store_none _ _ _ _ _ _ (by decide) (by decide),
      State.coilOnly_mem (Osier.fabricWrite_only _ _ _)]

theorem Osier.advance_simple (b : Bank) (hl : b.loops = []) : b.advance.pc = b.pc + 1 := by
  unfold Bank.advance Bank.endLevel
  simp only [hl]
  rfl

theorem Osier.flow_simple (i : Bundle) (b : Bank) (h : i.isFlow = false) (hd : b.delay = 0) (hl : b.loops = []) :
    (Osier.flow i b).pc = b.pc + 1 := by
  unfold Bundle.isFlow at h
  simp only [Bool.or_eq_false_iff] at h
  obtain ⟨⟨⟨h1, h2⟩, h3⟩, h4⟩ := h
  have h3' : i.op ≠ 6 := by simpa using h3
  unfold Osier.flow
  rw [if_neg (by simp [h2]), if_neg (by simp [h2]), if_neg h3', if_neg (by simp [h1]), if_neg (by simp [hd])]
  exact Osier.advance_simple b hl

/-- A row whose bundle no rule stops runs with the results of its compute slot; FRD adds the channels. -/
theorem Osier.runs_of {s : State} {k : Nat} {f : Slots} {b : Bank} {op : Nat} {c : Instr} {l : List OW} {g : State → State}
    (he : exec c s = s.act g) (hg : ∀ t, g t = Osier.issue t k (Operands.bundle op f)) (h60 : op ≠ 0x60)
    (hl : (Operands.bundle op f).compute b (Osier.core s k).xfers.length = l) : Osier.runs s k f b op c l := by
  intro hr hd hp
  have hrun : s.running = true := State.running_of_pageUp hr.1
  refine completes_act he hrun ?_
  rw [hg, Osier.issue_ready s k _ b hr]
  have e1 : (Osier.core (Osier.settled s.begin k) k).inBank1 = (Osier.core s k).inBank1 := Osier.settled_inBank1 s.begin k
  have e2 : (Osier.core (Osier.settled s.begin k) k).active = b := (Osier.settled_active s.begin k).trans hr.2.2.2.2.1.symm
  have e3 : (Osier.core (Osier.settled s.begin k) k).xfers = (Osier.core s k).xfers := by
    unfold Osier.settled
    rw [Osier.core_setCore]
    unfold CoreSt.setActive
    cases (Osier.core s.begin k).inBank1 <;> rfl
  have hdone : (Operands.bundle op f).isDone = false := by
    unfold Bundle.isDone
    simpa [Operands.bundle] using hd
  obtain ⟨ws, hw, hcore, hmem⟩ := Osier.execute_bank (Osier.settled s.begin k) k (Operands.bundle op f) hdone (by rw [e2]; exact hp)
  have hfr : Osier.fabricRead (Osier.settled s.begin k) (Operands.bundle op f) b = [] := by
    unfold Osier.fabricRead
    exact if_neg h60
  rw [e2, e3, hl, hfr, List.append_nil] at hw
  have hbank : Osier.ranBank s (Osier.execute (Osier.settled s.begin k) k (Operands.bundle op f)) k =
      Osier.bankAfter (Operands.bundle op f) b ws (Osier.settled s.begin k).clk.mono := by
    unfold Osier.ranBank
    rw [hcore]
    unfold Osier.afterCore CoreSt.setBank
    rw [e1, e2]
    cases (Osier.core s k).inBank1 <;> rfl
  refine ⟨Osier.companions (Osier.settled s.begin k) k (Operands.bundle op f),
    (Osier.bankAfter (Operands.bundle op f) b ws (Osier.settled s.begin k).clk.mono).stalled, ?_, ?_⟩
  · rw [hbank]
    unfold Osier.bankAfter
    rw [Osier.flow_queue, hw]
    rfl
  · intro hx hy hc
    have := Osier.companions_none (Osier.settled s.begin k) k _ hx hy hc
    exact ⟨this.1, hmem.trans this.2⟩
end Sys2Proof.Machine
end

