-- ==== Sys2Proof/Certificates/Slice0/Obligations.lean ====
section
/-!
DEFINITION. The statements for the provers. A statement of a family says of each of its commands, named one by one, on which states
and operands it completes, and what the state then holds that its own effect leads to, before the common end of a command
(`State.close`), which has statements of its own.
-/
open Sys2Proof Sys2Proof.Machine

/-- A step takes the command at the front of the queue and runs it on the state with the rest of the queue. -/
def Obligations.StepRunsCommandAtFront : Prop :=
  (∀ (c : Instr) (rest : List Instr) (s : State), s.pending = c :: rest → step s = exec c { s with pending := rest }) ∧
  (∀ (c : Instr) (s : State), step { s with pending := c :: s.pending } = exec c s)

/-- The step on an empty queue (the model's choice, log entry 1): one counter tick and the engines' own progress on a running
device, nothing on another. -/
def Obligations.EmptyQueueStepIsOneCounterTick : Prop :=
  ∀ s : State, s.pending = [] →
    (s.running = false → step s = .next s) ∧
    (s.running = true → ¬ (s.clk.ticking = true ∧ s.nextTickAt ≤ s.clk.stake + s.clk.inc) →
      step s = .next (State.close s (Weave.drain (Memc.drain (Osier.runAll
        { s.begin with clk := { s.clk with
            stake := s.clk.stake + s.clk.incr, mono := s.clk.mono + 4 * nsU, aon := s.clk.aon + 4 * nsU } }))))) ∧
    (s.running = true → s.clk.ticking = true → s.nextTickAt ≤ s.clk.stake + s.clk.inc →
      step s = .next (State.close s (Weave.drain (Memc.drain (Osier.runAll s.begin)))))

/-- The effect of a command is on everything but the queue. -/
def Obligations.CommandsKeepQueue : Prop :=
  ∀ (c : Instr) (s t : State), exec c s = .next t → t.pending = s.pending

/-- No command is refused; only FRAME_TICK stops, and only in surroundings that the manual shuts out (R9, R543). -/
def Obligations.OnlyFloatingClaimStops : Prop :=
  ∀ (c : Instr) (s : State),
    (∃ t, exec c s = .next t) ∨
    (∃ env : TickEnv, c = .frameTick env ∧ s.running = true ∧ s.hoop.role ≠ 0 ∧ env.claimIn = 2 ∧
      exec c s = .fault .outsideLimits)

/-- The invariant `State.settled` is kept by every step from every state that has it. -/
def Obligations.StepKeepsSettled : Prop :=
  ∀ s t : State, s.settled = true → step s = .next t → t.settled = true

/-- Reset has the invariant of `StepKeepsSettled`, and every register at its reset value. -/
def Obligations.ResetIsSettled : Prop :=
  State.reset.settled = true ∧ State.reset.mem = [] ∧ State.reset.pending = [] ∧
  (∀ a, State.reset.rd a = regReset State.reset.variant a ∧ State.reset.ef a = regReset State.reset.variant a) ∧
  State.reset.running = false ∧ (∀ p, State.reset.pageUp p = false) ∧ State.reset.faultN = true

/-- A held device ignores every command but those. -/
def Obligations.HeldDeviceIgnoresCommands : Prop :=
  ∀ (c : Instr) (s : State), s.running = false → actsWhileHeld c = false →
    exec c s = .next (State.close s s.begin) ∧
    (s.settled = true → s.calm = true → exec c s = .next s.begin)

/-- On a calm state in canonical form the end of a command changes the interrupt record alone. -/
def Obligations.CloseOfCalmStateOnlySendsMessages : Prop :=
  ∀ s t : State, t.wf = true → t.calm = true → t.rd Reg.stakeStepCount = s.rd Reg.stakeStepCount →
    State.close s t = State.sealed s t ∧
    (State.close s t).regs = t.regs ∧ (State.close s t).eff = t.eff ∧ (State.close s t).mem = t.mem ∧
    State.close s t = { t with pending := s.pending, ctl := { t.ctl with
      vecPend := t.unmasked t.vectors
      msix := t.ctl.msix ++ (List.range 64).filter (fun v =>
        (t.unmasked t.vectors).testBit v && !t.ctl.vecPend.testBit v) } }

/-- The rows of the page header and of plain register accesses. -/
def Obligations.PageHeaderCommandsAct : Prop :=
  ∀ (s : State) (p : Nat), s.pageUp p = true →
    -- REGISTER_WRITE
    (∀ ini o v, o < 0x800 → o % 4 = 0 → 0x40 ≤ o → s.coil.heldSubmits = [] → s.warp.held = none →
      (∀ u, Page.action s.begin ini none p o v = some u → Completes (.registerWrite ini (p * 0x1000 + o) v) s (fun t => t = u)) ∧
      (∀ r i, Page.action s.begin ini none p o v = none → regAt p o = some (r, i) → w32 r.rw ≠ 0 ∨ w32 r.w1c ≠ 0 →
        Completes (.registerWrite ini (p * 0x1000 + o) v) s (fun t =>
          t = (s.begin.wr (p * 0x1000 + o)
            ((v &&& w32 r.rw) ||| (s.rd (p * 0x1000 + o) &&& ~~~(w32 r.rw) &&& ~~~(v &&& w32 r.w1c)))).unlatch (p * 0x1000 + o)))) ∧
    -- COMMIT_REQUEST: pending for a tick, or applied at once
    (∀ also, (s.ctl.commit p).isNone = true →
      Page.check1 s.begin p (Page.view (Page.withEff s.begin p (s.staging p)) p) = none →
      (s.rdF (Reg.commitMode p) 1 0 = 1 → s.rateOn = true → Completes (.commitRequest p also) s (fun t =>
        t.ctl.commit p = some { values := s.staging p, mode := 1, ready := s.clk.mono + 2 * usU, frame := 0 } ∧
        t = { s.begin with ctl := t.ctl })) ∧
      (s.rdF (Reg.commitMode p) 1 0 = 2 → s.rateOn = true →
        (s.clk.ticking = true → s.clk.nextTick ≤ s.rd64 (Reg.commitFrameLo p) (Reg.commitFrameHi p)) →
        s.clk.stake + 2 * usU ≤ tickAt s.clk.rate (s.rd64 (Reg.commitFrameLo p) (Reg.commitFrameHi p)) →
        Completes (.commitRequest p also) s (fun t =>
          t.ctl.commit p = some { values := s.staging p, mode := 2, ready := 0
                                  frame := s.rd64 (Reg.commitFrameLo p) (Reg.commitFrameHi p) } ∧
          t = { s.begin with ctl := t.ctl })) ∧
      (s.rdF (Reg.commitMode p) 1 0 = 0 ∨ (s.rdF (Reg.commitMode p) 1 0 = 1 ∧ s.rateOn = false) → p ≠ Stake.page →
        (if p = Meas.page then Meas.check2 s else
          Page.check2 s.begin p (Page.view s.begin p) (Page.view (Page.withEff s.begin p (s.staging p)) p)) = none →
        Completes (.commitRequest p also) s (fun t =>
          t = Page.changed (Page.result (Page.withEff s.begin p (s.staging p)) p 1) p (Page.view s.begin p)
            (Page.view (Page.withEff s.begin p (s.staging p)) p)
            (if s.rateOn then s.clk.nextTick else s.clk.frame)))) ∧
    -- COMMIT_CANCEL
    (∀ c, s.ctl.commit p = some c → (s.clk.ticking = true → s.clk.stake + 2 * usU ≤ c.due s) →
      Completes (.commitCancel p) s (fun t => t.ctl.commit p = none ∧ t.rdF (Reg.commit p) 3 2 = 3 ∧
        (∀ a, a ≠ Reg.commit p → t.rd a = s.rd a) ∧ (∀ a, t.ef a = s.ef a))) ∧
    -- PAGE_ENABLE_WRITE
    (∀ b, fixedEnable p = false → p ≠ Hoop.page →
      (s.rateOn = false → Completes (.pageEnableWrite p b) s (fun t =>
        t = Page.setEnabled (Page.setPosts (s.begin.wrF (Reg.pageCtrl p) 0 0 (b2n b)) p []) p b s.clk.frame)) ∧
      (s.rateOn = true → s.rdB (Reg.pageCtrl p) 0 ≠ b → Completes (.pageEnableWrite p b) s (fun t =>
        t.rdB (Reg.pageCtrl p) 0 = b ∧
        Page.enablePosts t p = Page.enablePosts s p ++ [(b, s.clk.mono + 2 * usU)] ∧ t.ctl.enabled = s.ctl.enabled ∧
        (∀ a, a ≠ Reg.pageCtrl p → t.rd a = s.rd a)))) ∧
    -- SOFT_RESET
    (∀ b, Completes (.softReset p b) s (fun t => t = Page.enable (Page.softReset s.begin p false) p b none)) ∧
    (∀ a, a / 0x1000 = p → (Page.clearRegs s p (fun _ => true)).rd a = regReset s.variant a ∧
      (Page.clearRegs s p (fun _ => true)).ef a = regReset s.variant a) ∧
    -- FAULT_CAUSE_CLEAR
    Completes (.faultCauseClear p) s (fun t => t.rd (Reg.faultCause p) = 0 ∧ t.rd (Reg.faultCount p) = 0 ∧
      (p ≠ Memc.page → ∀ a, a ≠ Reg.faultCause p → a ≠ Reg.faultCount p → t.rd a = s.rd a)) ∧
    -- IRQ_FORCE
    (∀ v, Completes (.irqForce p v) s (fun t =>
      t.rd (Reg.irqStatus p) = (s.rd (Reg.irqStatus p) ||| (v &&& w32 (irqMask ((unitOf p).getD 0)))) ∧
      (∀ a, a ≠ Reg.irqStatus p → t.rd a = s.rd a) ∧ (∀ a, t.ef a = s.ef a))) ∧
    -- IRQ_EOI
    (∀ v, p = 2 → v < 64 → s.vecPending v = true → s.vecMasked v = false → Completes (.irqEoi v) s (fun t =>
      t = { s.begin with ctl := { s.begin.ctl with msix := [v] } }))

/-- The rows of register reads, the SPI port, DMA and the array windows. -/
def Obligations.TransportCommandsAct : Prop :=
  ∀ s : State, s.running = true →
    -- LO_READ_LATCH
    (∀ ini p o, s.coil.heldSubmits = [] → s.warp.held = none → o < 0x1000 →
      -- a page that does not answer reads zero
      (s.pageUp p = false → Completes (.loReadLatch ini (p * 0x1000 + o)) s (fun t =>
        t = { s.begin with ctl := { s.begin.ctl with busResp := 0, busData := [0, 0, 0, 0] } })) ∧
      -- an offset other than a capture FIFO's seconds and count, and the latched halves of the Weave's record
      (s.pageUp p = true → ¬ (p = Stake.page ∧ 0x240 ≤ o ∧ o < 0x280 ∧ (o % 16 = 4 ∨ o % 16 = 12)) →
        ¬ (p = 0xF8 ∧ (o = 0x64 ∨ o = 0x6C)) →
        Completes (.loReadLatch ini (p * 0x1000 + o)) s (fun t =>
          t.ctl.busData = leBytes 4 ((s.latched (p * 0x1000 + o)).getD (Page.read s.begin ini p o)).toNat ∧
          (∀ b, b ∈ latchSet (p * 0x1000 + o) → t.latched b = some (Page.read s.begin ini p (b % 0x1000))) ∧
          (∀ b, b ∉ latchSet (p * 0x1000 + o) → t.latched b = s.latched b) ∧
          t = { s.begin with ctl := { s.begin.ctl with busResp := 0, busData := t.ctl.busData, latch := t.ctl.latch } })) ∧
      -- the two halves of the Weave's record stand as the read of its first word latched them
      (p = 0xF8 → s.pageUp p = true → o = 0x64 ∨ o = 0x6C → ∀ w, s.latched (p * 0x1000 + o) = some w →
        Completes (.loReadLatch ini (p * 0x1000 + o)) s (fun t =>
          t = { s.begin with ctl := { s.begin.ctl with busResp := 0, busData := leBytes 4 w.toNat } })) ∧
      -- the seconds of a capture latch the entry, and its count takes the entry off the FIFO
      (p = Stake.page → s.pageUp p = true → 0x240 ≤ o → o < 0x280 → ∀ k, k = (o - 0x240) / 16 →
        (o % 16 = 4 → Completes (.loReadLatch ini (p * 0x1000 + o)) s (fun t =>
          Tab.get (fun _ => 0) t.stake.tcapLatch k = (Tab.get (fun _ => []) s.stake.tcap k).headD 0 ∧
          t.ctl.busData = leBytes 4 (Page.read (Stake.tcapLatch s.begin k) ini p o).toNat ∧ t.stake.tcap = s.stake.tcap)) ∧
        (o % 16 = 12 → Completes (.loReadLatch ini (p * 0x1000 + o)) s (fun t =>
          Tab.get (fun _ => []) t.stake.tcap k = (Tab.get (fun _ => []) s.stake.tcap k).drop 1 ∧
          t.ctl.busData = leBytes 4 (Page.read s.begin ini p o).toNat ∧
          ∀ j, j ≠ k → Tab.get (fun _ => []) t.stake.tcap j = Tab.get (fun _ => []) s.stake.tcap j)))) ∧
    -- SPI_READ
    (∀ a n u l, a % 4 = 0 → n ≤ 1024 → a < 2 ^ 40 →
      (u, l) = (List.range n).foldl (fun (acc : State × List Byte) i =>
        let r := Weave.issue acc.1 { initiator := 1, addr := a + 4 * i, len := 4 }
        if r.ctl.busResp = 0 then (r, acc.2 ++ r.ctl.busData)
        else ({ r with ctl := { r.ctl with spi := { r.ctl.spi with decodeErr := true } } }, acc.2 ++ [0, 0, 0, 0])) (s.begin, []) →
      Completes (.spiRead a n) s (fun t => t = { u with ctl := { u.ctl with spi := { u.ctl.spi with
        miso := (0xA5 : Byte) :: l ++ [BitVec.ofNat 8 (crc8 l)] } } })) ∧
    -- SPI_READ_TIMEOUT, SPI_STATUS, SPI_CLEAR
    Completes .spiReadTimeout s (fun t =>
      t = { s.begin with ctl := { s.begin.ctl with spi := { s.ctl.spi with timeout := true, miso := [0xE1] } } }) ∧
    Completes .spiStatus s (fun t => (∃ b : Byte, t.ctl.spi.miso = [b, BitVec.ofNat 8 (Spi.statusByte s)]) ∧
      t = { s.begin with freeCtr := s.freeCtr + 1
                         ctl := { s.begin.ctl with spi := { s.ctl.spi with miso := t.ctl.spi.miso } } }) ∧
    Completes .spiClear s (fun t => t = { s.begin with ctl := { s.begin.ctl with
      spi := { s.ctl.spi with crcErr := false, timeout := false, decodeErr := false, miso := [] } } }) ∧
    -- SPI_WRITE
    (∀ a n data crc, a % 4 = 0 → n ≤ 1024 → a < 2 ^ 40 →
      (data.length = 4 * n → crc.toNat = crc8 ((0x02 : Byte) :: leBytes 5 a ++ leBytes 2 n ++ data) →
        ∀ u, u = (List.range n).foldl (fun (s : State) i =>
            let r := Weave.issue s { initiator := 1, write := true, addr := a + 4 * i,
                                     data := (slice data (4 * i) 4).map (fun b => (b, true)) }
            if r.ctl.busResp = 0 then r else { r with ctl := { r.ctl with spi := { r.ctl.spi with decodeErr := true } } })
            { s.begin with ctl := { s.begin.ctl with spi := { s.ctl.spi with crcErr := false } } } →
        Completes (.spiWrite a n data crc) s (fun t =>
          t = { u with ctl := { u.ctl with spi := { u.ctl.spi with busy := decide (Spi.heldCount s < Spi.heldCount u) } } })) ∧
      (data.length ≠ 4 * n ∨ crc.toNat ≠ crc8 ((0x02 : Byte) :: leBytes 5 a ++ leBytes 2 n ++ data) →
        Completes (.spiWrite a n data crc) s (fun t =>
          t = ({ s.begin with ctl := { s.begin.ctl with spi := { s.ctl.spi with crcErr := true } } } : State).fault' 1 0x81))) ∧
    -- DMA_RUN
    (∀ k, k < 8 →
      (s.pageUp 1 = true → (Dma.ch s k).running = false → Completes (.dmaRun k) s (fun t => t = Dma.setCh s.begin k
        { running := true, desc := s.rd64 (Reg.dmaDescLo k) (Reg.dmaDescHi k)
          descHost := !inCommon (s.rd64 (Reg.dmaDescLo k) (Reg.dmaDescHi k)) 32 })) ∧
      (s.pageUp 1 = true → (Dma.ch s k).running = true → Completes (.dmaRun k) s (fun t => t = s.begin)) ∧
      (s.pageUp 1 = false → Completes (.dmaRun k) s (fun t => t = s.begin.discard))) ∧
    -- DMA_DESCRIPTOR_DONE
    (∀ k words data s1 d, k < 8 → (Dma.ch s k).running = true → d.length = 32 →
      (if (Dma.ch s k).descHost then (s.begin, words, 0) else Weave.readN s.begin (2 + k) 8 (Dma.ch s k).desc 32) = (s1, d, 0) →
      ((ofLe (slice d 0 4)).testBit 0 = false →
        Completes (.dmaDescriptorDone k words data) s (fun t => t = Dma.setCh s1 k {})) ∧
      ((ofLe (slice d 0 4)).testBit 0 = true →
        ofLe (slice d 4 4) % 4 ≠ 0 ∨ ofLe (slice d 8 8) % 4 ≠ 0 ∨ ofLe (slice d 16 8) % 4 ≠ 0 →
        Completes (.dmaDescriptorDone k words data) s (fun t => t = Dma.fail s1 k (ofLe (slice d 0 4)) 1 ∧ Dma.ch t k = {})) ∧
      (∀ s2 l s3, (ofLe (slice d 0 4)).testBit 0 = true →
        ofLe (slice d 4 4) % 4 = 0 → ofLe (slice d 8 8) % 4 = 0 → ofLe (slice d 16 8) % 4 = 0 →
        ((ofLe (slice d 0 4)).testBit 3 = true → data.length = ofLe (slice d 4 4)) →
        (if (ofLe (slice d 0 4)).testBit 3 then (s1, data, 0)
          else Weave.readN s1 (2 + k) (ofLe (slice d 4 4) / 256 + 2) (ofLe (slice d 8 8)) (ofLe (slice d 4 4))) = (s2, l, 0) →
        (if (ofLe (slice d 0 4)).testBit 4 then
            (if l.isEmpty then s2
              else { s2 with ctl := { s2.ctl with hostWrites := s2.ctl.hostWrites ++ [(ofLe (slice d 16 8), l)] } }, 0)
          else Weave.writeN s2 (2 + k) (ofLe (slice d 4 4) / 256 + 2) (ofLe (slice d 16 8)) l) = (s3, 0) →
        ∀ u, u = (if (ofLe (slice d 0 4)).testBit 1 then
              (Dma.writeBack s3 k (ofLe (slice d 0 4) / 2 % 2 ^ 27 * 2 + at_ 31 1)).irq 1 k
            else Dma.writeBack s3 k (ofLe (slice d 0 4) / 2 % 2 ^ 27 * 2 + at_ 31 1)) →
        ((Dma.ch u k).running = false → Completes (.dmaDescriptorDone k words data) s (fun t => t = u)) ∧
        ((Dma.ch u k).running = true → Completes (.dmaDescriptorDone k words data) s (fun t =>
          t = Dma.setCh u k (if (ofLe (slice d 0 4)).testBit 2 then {}
            else { running := true, desc := ofLe (slice d 24 8), descHost := (ofLe (slice d 0 4)).testBit 5 }))))) ∧
    (∀ k words data, 8 ≤ k ∨ (Dma.ch s k).running = false → Completes (.dmaDescriptorDone k words data) s (fun t => t = s.begin)) ∧
    -- ARRAY_WINDOW_WRITE of one word
    (∀ ini p o b0 b1 b2 b3, p < 256 → o % 4 = 0 → o + 4 ≤ 0x100000 → s.coil.heldSubmits = [] → s.warp.held = none →
      Completes (.arrayWindowWrite ini p o [(b0, true), (b1, true), (b2, true), (b3, true)]) s (fun t =>
        t = Window.write s.begin ini p o (w32 (ofLe [b0, b1, b2, b3]))) ∧
      Completes (.arrayWindowWrite ini p o [(b0, true), (b1, false), (b2, true), (b3, true)]) s (fun t => t = s.begin.discard))

/-- The rows of plaits. -/
def Obligations.PlaitCommandsAct : Prop :=
  ∀ s : State, s.running = true →
    -- PLAIT_OPEN
    (∀ ini k, s.pageUp 3 = true → s.isStandby = false → Plait.openOf s ini = none → 1 ≤ k → k ≤ 15 →
      ((Plait.slot s k).state = .free ∧ (∀ j, 1 ≤ j → j < k → (Plait.slot s j).state ≠ .free)) ∨
      ((∀ j, 1 ≤ j → j ≤ 15 → (Plait.slot s j).state ≠ .free) ∧ (Plait.slot s k).state = .done ∧
        ∀ j, 1 ≤ j → j ≤ 15 → j ≠ k → (Plait.slot s j).state = .done → (Plait.slot s k).finished < (Plait.slot s j).finished) →
      Completes (.plaitOpen ini) s (fun t =>
        Plait.slot t k = { state := .open, owner := ini, ticket := (s.plait.ticket + 1) % 65536 } ∧
        t.plait.ticket = (s.plait.ticket + 1) % 65536 ∧ (∀ j, j ≠ k → Plait.slot t j = Plait.slot s j) ∧
        t = { s.begin with plait := t.plait })) ∧
    -- PLAIT_CAPTURE
    (∀ ini k a v, Plait.openOf s ini = some k → s.coil.heldSubmits = [] → s.warp.held = none → a / 0x1000 ≠ 3 → a % 0x1000 ≠ 0x1C → pagePresent s.variant (a / 0x1000) = true →
      Completes (.plaitCapture ini a v) s (fun t =>
        ((Plait.slot s k).writes.length < 4096 ∧ Plait.poolFree s ≠ 0 →
          (Plait.slot t k).writes = (Plait.slot s k).writes ++ [(a, v)] ∧
          (Plait.slot t k).captured = (Plait.slot s k).captured + 1 ∧ (Plait.slot t k).overfull = (Plait.slot s k).overfull) ∧
        (4096 ≤ (Plait.slot s k).writes.length ∨ Plait.poolFree s = 0 → (Plait.slot t k).overfull = true ∧
          (Plait.slot t k).writes = (Plait.slot s k).writes) ∧
        (∀ j, j ≠ k → Plait.slot t j = Plait.slot s j) ∧ t = { s.begin with plait := t.plait })) ∧
    -- PLAIT_COMMIT_NEXT_FRAME, PLAIT_COMMIT_FRAME_INDEX, PLAIT_COMMIT_PTP_TIME
    (∀ ini k b, s.pageUp 3 = true → Plait.openOf s ini = some k →
      Completes (.plaitCommitNextFrame ini b) s (fun t => t = Plait.setSlot s.begin k
        { Plait.slot s k with mode := 1, allowTier := b, frame := 0 }) ∧
      Completes (.plaitCommitFrameIndex ini b) s (fun t => t = Plait.setSlot s.begin k
        { Plait.slot s k with mode := 2, allowTier := b
                              frame := (Plait.slot s k).targetLo.toNat + (Plait.slot s k).targetHi.toNat * 2 ^ 32 }) ∧
      Completes (.plaitCommitPtpTime ini b) s (fun t => t = Plait.setSlot s.begin k
        { Plait.slot s k with mode := 3, allowTier := b
                              frame := frameCeil s.clk.rate
                                (((Plait.slot s k).targetLo.toNat + (Plait.slot s k).targetHi.toNat * 2 ^ 32) * secU +
                                  (Plait.slot s k).targetNs.toNat * nsU) })) ∧
    -- PLAIT_COMMIT_DECISION, for a rate in force with ticks running
    (∀ k l n, (Plait.slot s k).state = .open → (Plait.slot s k).mode ≠ 0 → s.rateOn = true → s.clk.ticking = true →
      l = Plait.lead s → n = (if (Plait.slot s k).mode = 1 then s.firstTickAfter l else (Plait.slot s k).frame) →
      ((Plait.slot s k).overfull = true →
        Completes (.plaitCommitDecision k) s (fun t => t = Plait.finish s.begin k .abortFull)) ∧
      ((Plait.slot s k).overfull = false → tickAt s.clk.rate n < s.clk.stake + l ∨ n < s.clk.nextTick →
        Completes (.plaitCommitDecision k) s (fun t => t = Plait.finish s.begin k .abortLate)) ∧
      ((Plait.slot s k).overfull = false → s.clk.stake + l ≤ tickAt s.clk.rate n → s.clk.nextTick ≤ n →
        (Plait.conflicts s.begin k (some n) = true →
          Completes (.plaitCommitDecision k) s (fun t => t = Plait.finish s.begin k .abortConflict)) ∧
        (∀ o s1, Plait.conflicts s.begin k (some n) = false → Plait.check4 s.begin k (some n) = .abort o s1 →
          Completes (.plaitCommitDecision k) s (fun t => t = Plait.finish s1 k o)) ∧
        (∀ s1 drop, Plait.conflicts s.begin k (some n) = false → Plait.check4 s.begin k (some n) = .accept s1 drop →
          s1.rateOn = true →
          Completes (.plaitCommitDecision k) s (fun t => ∃ u, t = Hoop.sendPlait u k ∧
            Plait.slot u k = { Plait.slot s1 k with
              state := .pending, frame := n, floating := none, decided := s1.plait.seq + 1, tierDrop := drop
              tierStepped := decide (0 < drop) } ∧
            (∀ j, j ≠ k → Plait.slot u j = Plait.slot s1 j) ∧ u.plait.seq = s1.plait.seq + 1)))) ∧
    -- PLAIT_COMMIT_DECISION, while no rate is in force: an admitted plait of mode 1 applies at once, another is late
    (∀ k, (Plait.slot s k).state = .open → (Plait.slot s k).mode ≠ 0 → (Plait.slot s k).overfull = false → s.rateOn = false →
      ((Plait.slot s k).mode ≠ 1 → Completes (.plaitCommitDecision k) s (fun t => t = Plait.finish s.begin k .abortLate)) ∧
      (∀ s1 drop, (Plait.slot s k).mode = 1 → Plait.conflicts s.begin k (some s.clk.frame) = false →
        Plait.check4 s.begin k (some s.clk.frame) = .accept s1 drop → s1.rateOn = false →
        Completes (.plaitCommitDecision k) s (fun t => ∃ u, t = Plait.applyNow u k ∧
          (Plait.slot u k).state = .pending ∧ (Plait.slot u k).writes = (Plait.slot s1 k).writes))) ∧
    -- PLAIT_ABORT
    (∀ k ticket, s.pageUp 3 = true → 1 ≤ k → k ≤ 15 → ticket < 65536 → (Plait.slot s k).ticket = ticket →
      (Plait.slot s k).state = .open ∨
      ((Plait.slot s k).state = .pending ∧ ((Plait.slot s k).floating.isSome = true ∨ s.clk.ticking = false ∨
        s.clk.stake + 2 * usU ≤ tickAt s.clk.rate (Plait.slot s k).frame)) →
      Completes (.plaitAbort k ticket) s (fun t =>
        (Plait.slot t k).state = .done ∧ (Plait.slot t k).outcome = .abortHost ∧ (Plait.slot t k).writes = [] ∧
        (Plait.slot t k).ticket = ticket ∧ (∀ j, j ≠ k → Plait.slot t j = Plait.slot s j)))

/-- The rows of the frame and of a change of render rate. -/
def Obligations.FrameCommandsAct : Prop :=
  ∀ s : State, s.running = true →
    -- FRAME_TICK
    (∀ env a d, s.rateOn = true → s.clk.ticking = true → Frame.beforeChange s = true → s.hoop.role = 0 ∨ env.claimIn ≠ 2 →
      a = Frame.beginTick s.begin env →
      d = Frame.action2 (Frame.action1 (Frame.present a s.clk.nextTick) s.clk.nextTick (env.claimIn == 1)) s.clk.nextTick env →
      Completes (.frameTick env) s (fun t =>
        t = Frame.action3 d s.clk.nextTick (Scene.interval d) ∧
        a.clk.frame = s.clk.nextTick ∧ a.clk.nextTick = s.clk.nextTick + 1 ∧ a.clk.phase = 0 ∧ a.clk.tickMono = a.clk.mono ∧
        (s.clk.phase ≠ 0 → a.clk.stake = max s.clk.stake s.nextTickAt))) ∧
    (∀ env, s.rateOn = false ∨ s.clk.ticking = false ∨ Frame.beforeChange s = false → s.hoop.role = 0 ∨ env.claimIn ≠ 2 →
      Completes (.frameTick env) s (fun t => t = s.begin)) ∧
    -- DIRECT_CUTOFF
    (s.clk.phase = 0 → s.clk.ticking = true →
      ((Frame.path s).steps = 3 → Completes .directCutoff s (fun t => t = Frame.go (Osier.sync (Coil.cutoff
        (s.begin.toMono (s.clk.tickMono + (Frame.window s - 530) * nsU)) 0)))) ∧
      ((Frame.path s).steps = 5 → Completes .directCutoff s (fun t => t = Frame.go (Osier.sync (Coil.cutoff
        (s.begin.toMono (s.clk.tickMono + (Frame.window s - 100) * nsU)) 1))))) ∧
    -- DIRECT_WINDOW_END
    (∀ slack a b v c r, s.clk.phase = 0 → s.clk.ticking = true → a = Frame.cutoff (Frame.cutoff (Frame.go s.begin)) →
      b = a.toMono (a.clk.tickMono + Frame.windowAt a) →
      v = ({ b with clk := { b.clk with phase := 1 }, hoop := { b.hoop with loaded := (Frame.path b).env.unloaded.isEmpty } } : State) →
      c = (if (Frame.path b).env.unloaded.isEmpty then v else v.fault' 7 0x80) →
      r = Corr.release (Coil.windowEnd (Pstg.present (Port.presentEarly
        (match slack with | some x => Budget.frameSlack c x | none => c)) true s.clk.frame (Frame.path b).env) s.clk.frame) s.clk.frame →
      Completes (.directWindowEnd slack) s (fun t => t.clk.phase = 1 ∧ t = Coil.corrRelease r.1 r.2)) ∧
    (∀ slack, s.clk.phase ≠ 0 ∨ s.clk.ticking = false → Completes (.directWindowEnd slack) s (fun t => t = s.begin)) ∧
    -- GUARD_BEGIN
    (s.clk.ticking = true → s.clk.phase ≠ 2 → Completes .guardBegin s (fun t => t.clk.phase = 2 ∧
      (s.clk.phase = 1 → t.clk.stake = max s.clk.stake (s.nextTickAt - 500 * nsU)))) ∧
    -- RATE_CHANGE_RAMP, RATE_CHANGE_MUTE
    (∀ sec code, s.clk.rateChange = some (sec, code) →
      (s.clk.rateStep = 1 → s.rateOn = true → Completes .rateChangeRamp s (fun t =>
        t.clk.rateStep = 2 ∧ t.clk.rateChange = some (sec, code) ∧ t.clk.stake = max s.clk.stake (sec * secU - 30 * msU) ∧
        t.port.outGain = s.port.outGain.aim s.clk.nextTick (s.clk.nextTick + s.ms 20) 0)) ∧
      (s.clk.rateStep = 2 → Completes .rateChangeMute s (fun t =>
        t.clk.rateStep = 3 ∧ t.clk.rateChange = some (sec, code) ∧ t.clk.stake = max s.clk.stake (sec * secU - 5 * msU) ∧
        t.pstg.muted = true ∧ t.pstg.muteKind = s.pstg.muteKind ||| 2)) ∧
      -- RATE_CHANGE_SWITCH
      (s.ticksHeld = true → Completes .rateChangeSwitch s (fun t => t = s.begin)) ∧
      (∀ a b c, s.clk.rateStep < 4 → s.ticksHeld = false → a = (Frame.windowEnd (Rate.mute (Rate.ramp s.begin)) none).toStake (sec * secU) →
        b = (if a.clk.ticking then (Plait.endPending a .abortLate (fun _ => true)).stopTicks
          else Plait.endPending a .abortLate (fun _ => true)) →
        c = Rate.units { b with clk := { b.clk with rate := code, rateStep := 4, nextTick := sec * rateHz code } } a.clk.rate code
          (sec * rateHz code) →
        (code ≠ 0 → Completes .rateChangeSwitch s (fun t =>
          t = (Pstg.muteAll c 2).startTicks (sec * rateHz code) ∧
          t.clk.ticking = true ∧ t.clk.nextTick = sec * rateHz code ∧ t.clk.firstTick = sec * rateHz code)) ∧
        (code = 0 → ∀ d, d = ({ c with clk := { c.clk with rateChange := none, rateStep := 0 } } : State) →
          Completes .rateChangeSwitch s (fun t => t = if c.stake.softReset then Stake.clearPage d else d))) ∧
      -- RATE_CHANGE_RESUME
      (4 ≤ s.clk.rateStep → s.stake.softReset = false → Completes .rateChangeResume s (fun t =>
        t.clk.rateChange = none ∧ t.clk.rateStep = 0 ∧ t.clk.stake = max s.clk.stake (sec * secU + 100 * msU) ∧
        (s.pstg.muteKind = 2 → t.pstg.muted = false))))

/-- The rows of layouts, healing, objects and Felot. -/
def Obligations.SceneCommandsAct : Prop :=
  ∀ s : State, s.pageUp Scene.page = true →
    -- LAYOUT_BUILD
    (∀ v, s.scene.build = none → Completes (.layoutBuild v) s (fun t =>
      t = { s.begin with scene := { s.scene with
        build := some (1 - Scene.layoutBank s, fld v 1 1)
        validA := s.scene.validA && 1 - Scene.layoutBank s != 0
        validB := s.scene.validB && 1 - Scene.layoutBank s != 1 } })) ∧
    -- LAYOUT_BUILD_DONE
    (∀ b mode, s.scene.build = some (b, mode) → 1 ≤ s.budget.admitted ∨ s.rateOn = false →
      (∀ code idx, Layout.build s.begin b mode = .inl (code, idx) → Completes .layoutBuildDone s (fun t =>
        t.scene = { s.scene with build := none } ∧ t.rd Reg.sceneLayoutStatus = w32 (at_ 16 idx + at_ 8 code) ∧
        bit (t.rd (Reg.irqStatus Scene.page)) 1 = true ∧ t.mem = s.mem ∧
        (∀ a, a ≠ Reg.sceneLayoutStatus → a ≠ Reg.irqStatus Scene.page → t.rd a = s.rd a))) ∧
      (∀ l, Layout.build s.begin b mode = .inr l → Completes .layoutBuildDone s (fun t =>
        t.scene.build = none ∧ (b = 0 → t.scene.validA = true) ∧ (b = 1 → t.scene.validB = true) ∧
        t.mem = (Layout.storePatches (Mesh.store { s.begin with scene := { s.scene with build := none } } b l) b l).mem ∧
        fld (t.rd Reg.sceneLayoutStatus) 15 8 = 0 ∧ fld (t.rd Reg.sceneLayoutStatus) 31 16 = fld (s.rd Reg.sceneLayoutStatus) 31 16 ∧
        bit (t.rd (Reg.irqStatus Scene.page)) 0 = true ∧
        (∀ a, a ≠ Reg.sceneLayoutStatus → a ≠ Reg.irqStatus Scene.page → t.rd a = s.rd a)))) ∧
    -- HEALING_REBUILD_DONE
    (s.scene.rebuild = true → 1 ≤ s.budget.admitted ∨ s.rateOn = false → Completes .healingRebuildDone s (fun t =>
      t = { s.begin with scene := { s.scene with
        rebuild := false
        rebuiltWait := some (Mesh.compute s (Scene.layoutBank s)
          ((Layout.presentList s (Scene.layoutBank s)).filter (fun j => !(Scene.unavailList s).contains j)), Scene.unavailList s) } })) ∧
    -- OBJECT_LATE, OBJECT_HOLD
    (∀ i f, Scene.lateFrame s i = some f → s.rateOn = true →
      (f ≤ s.clk.frame → (Scene.obj s i).late = false → Completes (.objectLate i) s (fun t =>
        Scene.obj t i = { Scene.obj s i with late := true } ∧ (∀ j, j ≠ i → Scene.obj t j = Scene.obj s j) ∧
        bit (t.rd (Reg.irqStatus Scene.page)) 4 = true ∧ (∀ a, a ≠ Reg.irqStatus Scene.page → t.rd a = s.rd a))) ∧
      (f + 50 * rateHz s.clk.rate / 1000 < s.clk.frame → (Scene.obj s i).late = true → (Scene.obj s i).held = false →
        Completes (.objectHold i) s (fun t =>
          Scene.obj t i = { Scene.obj s i with held := true } ∧ (∀ j, j ≠ i → Scene.obj t j = Scene.obj s j) ∧
          bit (t.rd (Reg.irqStatus Scene.page)) 5 = true ∧ (∀ a, a ≠ Reg.irqStatus Scene.page → t.rd a = s.rd a)))) ∧
    -- RECORD_POST
    (∀ l, l = (List.range 8).flatMap (fun k => leBytes 4 (s.rd (Reg.sceneRec k)).toNat) → s.isStandby = false →
      (ObjRecord.ok s.objCapCfg l = true → Completes .recordPost s (fun t =>
        t = { s.begin with scene := { s.scene with
          queue := s.scene.queue ++ [{ record := ObjRecord.parse l, f := if s.rateOn then some s.clk.frame else none
                                       t := none, order := s.scene.order, msg := s.scene.order }]
          order := s.scene.order + 1 } })) ∧
      (ObjRecord.ok s.objCapCfg l = false → Completes .recordPost s (fun t => t = s.begin.fault' Scene.page 0x82 ∧
        t.scene = s.scene))) ∧
    -- FELOT_MESSAGE: nothing on a dead port; a datagram that the tests turn away goes to the host
    (∀ net ip port src l,
      (Net.live s net = false → Completes (.felotMessage net ip port src l) s (fun t => t = s.begin)) ∧
      (Net.live s net = true → Felot.accepts s net ip port src = false → Completes (.felotMessage net ip port src l) s (fun t =>
        t = Eth.datagramToHost (Net.count s.begin net 0) net l ∧ t.scene = s.scene))) ∧
    (∀ net ip port src l, Net.live s net = true → Felot.accepts s net ip port src = true → s.isStandby = false →
      (Felot.malformed l = true → Completes (.felotMessage net ip port src l) s (fun t =>
        t = Felot.count (Net.count s.begin net 0) 5 ∧ t.scene = s.scene)) ∧
      (Felot.malformed l = false → ofLe (slice l 2 2) ≠ s.rdF Reg.sceneFelotSceneId 15 0 →
        Completes (.felotMessage net ip port src l) s (fun t =>
          t = Felot.count (Net.count s.begin net 0) 7 ∧ t.scene = s.scene)) ∧
      (∀ h seen q ns, Felot.malformed l = false → ofLe (slice l 2 2) = s.rdF Reg.sceneFelotSceneId 15 0 →
        q = ofLe (slice l 4 4) → Felot.sequence s q = .inl (h, seen) → ofLe (slice l 0x12 1) = 1 →
        ns = ofLe (slice l 8 6) * 1000000000 + ofLe (slice l 0x0E 4) → ns * nsU ≤ s.clk.stake + secU →
        Felot.queued s < 2048 → ObjRecord.ok s.objCapCfg (slice l 32 32) = true →
        Completes (.felotMessage net ip port src l) s (fun t =>
          t.scene = { s.scene with
            seqH := h, seqSeen := seen, order := s.scene.order + 1
            waitMsgs := if s.rateOn then s.scene.waitMsgs else s.scene.waitMsgs ++ [ns]
            queue := s.scene.queue ++ [{ record := ObjRecord.parse (slice l 32 32)
                                         f := if s.rateOn then some (cdiv (ns * rateHz s.clk.rate) 1000000000) else none
                                         t := some ns, order := s.scene.order, msg := s.scene.order }] })))

/-- The rows of the Warp and of CORR. -/
def Obligations.WarpCorrCommandsAct : Prop :=
  ∀ s : State, s.running = true →
    -- WARP_DIRECT_POST, WARP_POST_ACCEPT
    (∀ g p, s.pageUp Warp.page = true → s.warp.held = none →
      p = ({ ready := s.clk.mono + 2 * usU, a := s.rdF Reg.warpDwNode 25 16, b := s.rdF Reg.warpDwNode 8 0, c := g.toNat } : Post) →
      (s.rateOn = true → Completes (.warpDirectPost g false) s (fun t =>
        t = { s.begin with warp := { s.warp with posts := s.warp.posts ++ [p] } })) ∧
      (s.rateOn = false → Warp.isDirect s p.a = true → p.a < s.objCapCfg → p.b < s.outCapCfg →
        Completes (.warpDirectPost g false) s (fun t =>
          Warp.node t p.a p.b = Ramp.const (signed 32 p.c) ∧
          (∀ i j, j < 512 → p.b < 512 → (i, j) ≠ (p.a, p.b) → Warp.node t i j = Warp.node s i j) ∧ t.regs = s.regs)) ∧
      (s.rateOn = false → Warp.isDirect s p.a = false → Completes (.warpDirectPost g false) s (fun t =>
        t.warp = s.warp ∧ t.rd Reg.warpDwDiscards = satAdd (s.rd Reg.warpDwDiscards) 1 ∧
        fld (t.rd (Reg.faultCause Warp.page)) 7 0 = 0x80)) ∧
      Completes (.warpDirectPost g true) s (fun t => t = { s.begin with warp := { s.warp with held := some p } })) ∧
    (∀ p, s.warp.held = some p → s.rateOn = true → Completes .warpPostAccept s (fun t =>
      t = { s.begin with warp := { s.warp with
        held := none, posts := s.warp.posts ++ [{ p with ready := s.clk.mono + 2 * usU }] } })) ∧
    -- WARP_FADE_DONE, CORR_FADE_DONE
    (s.warp.fadeBusy = true → s.warp.fade.h ≤ s.clk.frame → Completes .warpFadeDone s (fun t =>
      t.warp = { s.warp with fadeBusy := false } ∧ bit (t.rd (Reg.irqStatus Warp.page)) 2 = true ∧
      (∀ a, a ≠ Reg.irqStatus Warp.page → t.rd a = s.rd a))) ∧
    (s.corr.fadeBusy = true → s.corr.fade.h ≤ s.clk.frame → Completes .corrFadeDone s (fun t =>
      t.corr = { s.corr with fadeBusy := false } ∧ bit (t.rd (Reg.irqStatus Corr.page)) 6 = true ∧
      (∀ a, a ≠ Reg.irqStatus Corr.page → t.rd a = s.rd a))) ∧
    (s.pageUp Corr.page = true → ∀ v,
      -- CORR_BANK_POST, CORR_GAIN_POST, CORR_MUTE_POST
      (s.rateOn = true → ∀ p : Nat → Post,
        (∀ k, p k = { ready := s.clk.mono + 2 * usU, a := k, b := s.rdF Reg.corrOutSel 8 0, c := v.toNat }) →
        Completes (.corrBankPost v) s (fun t => t = { s.begin with corr := { s.corr with posts := s.corr.posts ++ [p 0] } }) ∧
        Completes (.corrGainPost v) s (fun t => t = { s.begin with corr := { s.corr with posts := s.corr.posts ++ [p 1] } }) ∧
        Completes (.corrMutePost v) s (fun t => t = { s.begin with corr := { s.corr with posts := s.corr.posts ++ [p 2] } })) ∧
      (s.rateOn = false → s.rdF Reg.corrOutSel 8 0 < s.outCapCfg →
        (Corr.gainOk (signed 16 v.toNat) = true → Completes (.corrGainPost v) s (fun t =>
          t = Corr.setOut s.begin (s.rdF Reg.corrOutSel 8 0)
            { Corr.out s (s.rdF Reg.corrOutSel 8 0) with gain := Ramp.const (gainLin (signed 16 v.toNat)) })) ∧
        Completes (.corrMutePost v) s (fun t =>
          t = Corr.setOut s.begin (s.rdF Reg.corrOutSel 8 0)
            { Corr.out s (s.rdF Reg.corrOutSel 8 0) with mute := Ramp.const (if bit v 0 then 0 else one30) })) ∧
      (s.rateOn = false → s.outCapCfg ≤ s.rdF Reg.corrOutSel 8 0 →
        Completes (.corrBankPost v) s (fun t => (∀ k, Corr.out t k = Corr.out s k) ∧ t.rd Reg.corrDiscards = satAdd (s.rd Reg.corrDiscards) 1 ∧
        fld (t.rd (Reg.faultCause Corr.page)) 7 0 = 0x80)) ∧
      -- CORR_PREPARATION
      (512 < fld v 8 0 + fld v 25 16 → Completes (.corrPreparation v) s (fun t => t = s.begin.fault' Corr.page 0x01)) ∧
      (fld v 8 0 + fld v 25 16 ≤ 512 →
        s.corr.prep.isSome ∨ (s.ef64 Reg.corrDramBaseLo Reg.corrDramBaseHi) % 2 ^ 40 = 0 ∨
          (∃ j, fld v 8 0 ≤ j ∧ j < fld v 8 0 + fld v 25 16 ∧ Corr.bankBusy s (fld v 31 31) j = true) →
        Completes (.corrPreparation v) s (fun t => t = s.begin.fault' Corr.page 0x83)) ∧
      (fld v 8 0 + fld v 25 16 ≤ 512 → s.corr.prep = none → (s.ef64 Reg.corrDramBaseLo Reg.corrDramBaseHi) % 2 ^ 40 ≠ 0 →
        (∀ j, fld v 8 0 ≤ j → j < fld v 8 0 + fld v 25 16 → Corr.bankBusy s (fld v 31 31) j = false) → fld v 25 16 ≠ 0 →
        Completes (.corrPreparation v) s (fun t =>
          t.corr = { s.corr with prep := some (fld v 31 31, fld v 8 0, fld v 25 16), prepAt := 0 } ∧
          bit (t.rd Reg.corrPrepStatus) 0 = true ∧ ∀ a, a ≠ Reg.corrPrepStatus → t.rd a = s.rd a)) ∧
      (fld v 8 0 ≤ 512 → s.corr.prep = none → (s.ef64 Reg.corrDramBaseLo Reg.corrDramBaseHi) % 2 ^ 40 ≠ 0 → fld v 25 16 = 0 →
        Completes (.corrPreparation v) s (fun t => t.corr = s.corr ∧ fld (t.rd Reg.corrPrepStatus) 15 8 = 0 ∧
          bit (t.rd (Reg.irqStatus Corr.page)) 3 = true))) ∧
    -- CORR_PREP_DONE
    (∀ b first count, s.corr.prep = some (b, first, count) → 1 ≤ s.budget.admitted ∨ s.rateOn = false →
      Completes .corrPrepDone s (fun t => t.corr.prep = none ∧ bit (t.rd (Reg.irqStatus Corr.page)) 3 = true ∧
        bit (t.rd Reg.corrPrepStatus) 0 = false ∧
        (∀ j, ¬ (first + s.corr.prepAt ≤ j ∧ j < first + count) → Corr.out t j = Corr.out s j) ∧
        -- the last output, or the only one
        (count = s.corr.prepAt + 1 → ∀ j o, j = first + s.corr.prepAt → o = Corr.out t j →
          (Corr.entryOk s b j = true →
            (b = 0 → o.prepA = true ∧ o.lenA = Corr.lenEntry s b j ∧
              o.tapsA = (List.range (Corr.lenEntry s b j)).map (fun k => s.ldS32 (Corr.tapAddr s b j + 4 * k))) ∧
            (b ≠ 0 → o.prepB = true ∧ o.lenB = Corr.lenEntry s b j ∧
              o.tapsB = (List.range (Corr.lenEntry s b j)).map (fun k => s.ldS32 (Corr.tapAddr s b j + 4 * k)))) ∧
          (Corr.entryOk s b j = false → (b = 0 → o = { Corr.out s j with prepA := false }) ∧
            (b ≠ 0 → o = { Corr.out s j with prepB := false }) ∧ fld (t.rd (Reg.faultCause Corr.page)) 7 0 = 0x82 ∧
            fld (t.rd Reg.corrPrepStatus) 24 16 = j % 512)))) ∧
    (s.corr.prep = none ∨ s.budget.admitted < 1 ∧ s.rateOn = true → Completes .corrPrepDone s (fun t => t = s.begin)) ∧
    -- PARTITION_LATE
    (∀ j p st l1 l2 blk, (∀ a, a ∈ s.coil.acts → a.node ≠ 7680 + 17 * j + p) → (Corr.out s j).blocks = l1 ++ blk :: l2 →
      (∀ x, x ∈ l1 → ¬ (x.p = p ∧ x.start = st)) → blk.p = p → blk.start = st → blk.complete = false → blk.late = false →
      Corr.deadline p st ≤ s.clk.frame → Completes (.partitionLate j p st) s (fun t =>
        (Corr.out t j).blocks = l1 ++ { blk with late := true } :: l2 ∧ (∀ k, k ≠ j → Corr.out t k = Corr.out s k) ∧
        t.rd Reg.corrLateCount = satAdd (s.rd Reg.corrLateCount) 1 ∧ bit (t.rd (Reg.irqStatus Corr.page)) 1 = true ∧
        fld (t.rd (Reg.faultCause Corr.page)) 7 0 = 0x85)) ∧
    -- TRANSITION_END
    (∀ j x, (Corr.out s j).trans = some x → x.endFrame ≤ s.clk.frame → Completes (.transitionEnd j) s (fun t =>
      Corr.out t j = { Corr.out s j with trans := none, iirOld := [] } ∧ (∀ k, k ≠ j → Corr.out t k = Corr.out s k) ∧
      bit (t.rd (Reg.irqStatus Corr.page)) 5 = true ∧ (∀ a, a ≠ Reg.irqStatus Corr.page → t.rd a = s.rd a)))

/-- The rows of the Coil. -/
def Obligations.CoilCommandsAct : Prop :=
  ∀ s : State, s.running = true →
    -- DEFERRED_RELEASE
    (∀ i f, (Coil.node s i).deferred = some f → f ≤ s.clk.frame → s.clk.phase ≠ 0 → (Coil.node s i).active = true →
      (Coil.node s i).counter ≤ 0 →
      (∀ r, (Coil.node s i).prevRelease = some r → Coil.period s i = 0 → r + Coil.phase s i ≤ s.clk.frame) →
      Coil.skips s i s.clk.frame = false → Coil.cost s i ≠ 0 → Completes (.deferredRelease i) s (fun t =>
        State.coilOnly s.begin t ∧ (Coil.node t i).deferred = none ∧ (Coil.node t i).armed = false ∧
        (Coil.node t i).prevRelease = some s.clk.frame ∧ (∀ j, j ≠ i → Coil.node t j = Coil.node s j) ∧
        ∃ a : Act, t.coil.acts = s.coil.acts ++ [a] ∧ a.node = i ∧ a.release = s.clk.frame ∧ a.cls = Coil.cls s i ∧
          (a.state = 0 ↔ 512 ≤ Coil.fill s (Coil.cls s i)))) ∧
    -- NODE_DISPATCH
    (∀ a w, s.clk.phase = 0 → Coil.directReady s = some a → a.cls = 1 →
      w = ((Coil.node s a.node).lastCore == some (Coil.home s a.node) &&
        (Coil.node s a.node).stamp == Tab.get (fun _ => 0) s.coil.coreRuns (Coil.home s a.node)) →
      Completes .nodeDispatch s (fun t =>
      (Osier.core t (Coil.home s a.node)).b1 = Osier.entryBank t { a with state := 2, core := Coil.home s a.node, warm := w, wait := none } ∧
      (Coil.node t a.node).lastCore = some (Coil.home s a.node) ∧ (Osier.core t (Coil.home s a.node)).b0 = (Osier.core s (Coil.home s a.node)).b0 ∧
      (∀ k, k ≠ Coil.home s a.node → Osier.core t k = Osier.core s k) ∧ t.regs = s.regs ∧ t.mem = s.mem)) ∧
    (∀ u a k, s.clk.phase = 1 → u = Coil.startWaits s.begin → Coil.directReady u = none → Coil.pick u [] (Coil.ready u 2) = some (a, k) →
      a.cls = 2 → Completes .nodeDispatch s (fun t =>
        (Osier.core t k).b0.node = some a.node ∧ (Osier.core t k).b0.pc = Coil.entry s a.node ∧
        (Osier.core t k).b1 = (Osier.core s k).b1 ∧ (Coil.node t a.node).lastCore = some k ∧
        (∀ j, j ≠ k → Osier.core t j = Osier.core s j) ∧ t.regs = s.regs ∧ t.mem = s.mem)) ∧
    -- AFFINITY_WAIT_EXPIRY
    (∀ i a c at' b u, s.coil.acts.find? (fun a => a.node = i && a.state = 1 && !a.expired && a.wait.isSome && !Coil.pinned s i) = some a →
      a.wait = some (c, at') → b = ({ a with expired := true } : Act) → u = Coil.setAct (s.begin.toMono at') a b →
      u.clk.mono = max s.clk.mono at' ∧
      (s.clk.phase ≠ 1 → Completes (.affinityWaitExpiry i) s (fun t => t = u)) ∧
      (s.clk.phase = 1 → ∀ r, r = Coil.choose u ((Coil.ready u 2 ++ Coil.ready u 3).takeWhile (fun x => x != b)) b →
        (r = none → Completes (.affinityWaitExpiry i) s (fun t => t = u)) ∧
        (∀ k, r = some k → a.cls ≠ 1 → Completes (.affinityWaitExpiry i) s (fun t =>
          (Osier.core t k).b0.node = some i ∧ (Osier.core t k).b1 = (Osier.core s k).b1 ∧ (Coil.node t i).lastCore = some k ∧
          (∀ j, j ≠ k → Osier.core t j = Osier.core s j) ∧ t.regs = s.regs ∧ t.mem = s.mem)))) ∧
    (∀ i, (∀ a, a ∈ s.coil.acts → a.node = i → a.state = 1 → a.expired = true ∨ a.wait = none ∨ Coil.pinned s i = true) →
      Completes (.affinityWaitExpiry i) s (fun t => t = s.begin)) ∧
    -- NODE_COMPLETE
    (∀ i w a, Coil.running s i = some a →
      (a.cls = 1 → Completes (.nodeComplete i w) s (fun t => State.coilOnly s.begin t ∧ i ∈ t.coil.path.ended ∧
        t.coil.path.missed = s.coil.path.missed)) ∧
      (a.cls ≠ 1 → Coil.isCorr i = false → Coil.edgeCount s i = 0 → Coil.period s i ≠ 0 → (Coil.node s i).armed = false →
        Completes (.nodeComplete i w) s (fun t => State.coilOnly s.begin t ∧ t.coil.acts = s.coil.acts.erase a ∧
          Coil.node t i = { Coil.node s i with lastLate := a.late } ∧ (∀ j, j ≠ i → Coil.node t j = Coil.node s j) ∧ t.regs = s.regs)) ∧
      (a.cls ≠ 1 → Coil.isCorr i = true → Completes (.nodeComplete i w) s (fun t =>
        t.corr = (Corr.complete (Coil.event (Coil.dropAct s.begin a)) ((i - 7680) / 17) (Coil.corrPart i) a.release).corr))) ∧
    (∀ i w, Coil.running s i = none → Completes (.nodeComplete i w) s (fun t => t = s.begin)) ∧
    -- HELD_RELEASE_ENTER
    (∀ a, s.coil.acts.filter (fun a => a.state = 0) = [a] → Coil.fill s a.cls < 512 → Completes .heldReleaseEnter s (fun t =>
      t = { s.begin with coil := { s.coil with acts := s.coil.acts.map (fun x => if x = a then { a with state := 1 } else x) } })) ∧
    -- COIL_SUBMIT, SUBMIT_HOLD_RELEASE
    (∀ i, s.pageUp Coil.page = true → i < 16384 →
      ((∀ e, e ∈ s.coil.heldSubmits → e.1 ≠ 0) → s.coil.heldSubmits ≠ [] ∨ Coil.credit s = 0 → Completes (.coilSubmit i) s (fun t =>
        t = { s.begin with coil := { s.coil with heldSubmits := s.coil.heldSubmits ++ [(0, i)] } })) ∧
      (s.coil.heldSubmits = [] → Coil.credit s ≠ 0 →
        (Coil.node s i).active = false ∨ Coil.cls s i ≠ 3 ∨ Coil.period s i ≠ 0 ∨ Coil.isDevice i = true →
        Completes (.coilSubmit i) s (fun t => t = Coil.creditRise (s.begin.faultD Coil.page 0x85 i) ∧ t.coil.submits = s.coil.submits ∧
          t.coil.acts = s.coil.acts)) ∧
      (s.coil.heldSubmits = [] → Coil.credit s ≠ 0 → (Coil.node s i).active = true → Coil.cls s i = 3 → Coil.period s i = 0 →
        (Coil.node s i).stopping = false → Coil.isDevice i = false → Coil.gateOpen s i = true →
        Completes (.coilSubmit i) s (fun t => State.coilOnly s.begin t ∧ (s.clk.mono + 100 * nsU, i) ∈ t.coil.submits))) ∧
    (∀ u e l, u = (if Coil.credit s = 0 then Coil.creditRise (s.begin.toMono (((s.coil.submits.map (·.1)).min?).getD 0)) else s.begin) →
      u.coil.heldSubmits = e :: l → Coil.credit u ≠ 0 → Completes .submitHoldRelease s (fun t =>
        t = Coil.creditRise (Coil.submitNow { u with coil := { u.coil with heldSubmits := l } } e.2) ∧ t.coil.heldSubmits = l)) ∧
    -- NODE_ACTIVATE, NODE_DEACTIVATE
    (∀ op c, (op, c) = (1, Instr.nodeActivate) ∨ (op, c) = (2, Instr.nodeDeactivate) → s.pageUp Coil.page = true →
      s.rdF Reg.coilNodeSel 30 16 ≠ 0 →
      (∀ n k, Coil.checkPost s.begin op (s.rdF Reg.coilNodeSel 13 0) (s.rdF Reg.coilNodeSel 30 16) = some (n, k) →
        Completes c s (fun t => t.rd Reg.coilErr = w32 (at_ 16 k + n % 16384) ∧ bit (t.rd (Reg.irqStatus Coil.page)) 3 = true ∧
          fld (t.rd (Reg.faultCause Coil.page)) 7 0 = 0x80 ∧ t.coil = s.coil)) ∧
      (Coil.checkPost s.begin op (s.rdF Reg.coilNodeSel 13 0) (s.rdF Reg.coilNodeSel 30 16) = none → s.rateOn = true →
        Completes c s (fun t => t = { s.begin with coil := { s.coil with posts := s.coil.posts ++
          [{ ready := s.clk.mono + 2 * usU, a := op, b := s.rdF Reg.coilNodeSel 13 0, c := s.rdF Reg.coilNodeSel 30 16 }] } }))) ∧
    -- ACTIVATION_LATE
    (∀ i a, s.coil.acts.find? (fun a => a.node = i && a.cls != 1 && !a.late &&
        (match a.deadline with | some d => decide (d ≤ s.clk.frame) | none => false)) = some a → Coil.isCorr i = false →
      (a.state = 2 → Completes (.activationLate i) s (fun t => State.coilOnly s.begin t ∧
        t.coil = { s.coil with acts := s.coil.acts.map (fun x => if x = a then { a with late := true } else x) } ∧
        t.rd Reg.coilLateCount = satAdd (s.rd Reg.coilLateCount) 1 ∧ fld (t.rd (Reg.faultCause Coil.page)) 7 0 = 0x83)) ∧
      (a.state ≠ 2 → Coil.edgeCount s i = 0 → Coil.period s i ≠ 0 → (Coil.node s i).armed = false →
        Completes (.activationLate i) s (fun t => State.coilOnly s.begin t ∧ t.coil.acts = s.coil.acts.erase a ∧
          Coil.node t i = { Coil.node s i with lastLate := true } ∧
          t.rd Reg.coilLateCount = satAdd (s.rd Reg.coilLateCount) 1 ∧ fld (t.rd (Reg.faultCause Coil.page)) 7 0 = 0x83))) ∧
    -- DIRECT_COST_STOP
    (∀ k, (Osier.core s k).b1.node = none ∨ (Osier.core s k).b1.issued < (Osier.core s k).b1.cost →
      Completes (.directCostStop k) s (fun t => t = s.begin)) ∧
    (∀ k a, (Osier.core s k).b1.node.isSome = true → (Osier.core s k).b1.cost ≤ (Osier.core s k).b1.issued →
      s.coil.acts.find? (fun a => a.state = 2 && a.core = k && a.cls = 1) = some a →
      a.node ∉ s.coil.path.ended → a.node ∈ s.coil.path.due0 ++ s.coil.path.due1 → Completes (.directCostStop k) s (fun t =>
        ∃ u, t = Osier.sync u ∧ State.coilOnly s.begin u ∧ a.node ∈ u.coil.path.missed ∧ a.node ∈ u.coil.path.ended ∧
          (∀ x, x ∈ u.coil.acts → x.cls = 1 → x.node ≠ a.node ∨ x.state ≠ 2)))

/-- The scalar, special-register and block-exponent rows. -/
def Obligations.OsierScalarRowsRun : Prop :=
  (∀ (s : State) (k : Nat) (f : Slots) (b : Bank) (d a x c i8 : Nat), d = f.d.toNat → a = f.a.toNat → x = f.b.toNat → c = f.c.toNat →
    i8 = 16 * x + c →
    Osier.runs s k f b 0x10 (.add k f) ((.s d, (b.sw a + b.sw x).toInt, 1) :: flagsAdd (b.sw a) (b.sw x)) ∧
    Osier.runs s k f b 0x11 (.sub k f) ((.s d, (b.sw a - b.sw x).toInt, 1) :: flagsSub (b.sw a) (b.sw x)) ∧
    Osier.runs s k f b 0x12 (.and k f) ((.s d, (b.sw a &&& b.sw x).toInt, 1) :: flagsZN (b.sw a &&& b.sw x).toInt) ∧
    Osier.runs s k f b 0x13 (.or k f) ((.s d, (b.sw a ||| b.sw x).toInt, 1) :: flagsZN (b.sw a ||| b.sw x).toInt) ∧
    Osier.runs s k f b 0x14 (.xor k f) ((.s d, (b.sw a ^^^ b.sw x).toInt, 1) :: flagsZN (b.sw a ^^^ b.sw x).toInt) ∧
    (∀ n, n = (b.sw x).toNat % 64 →
      Osier.runs s k f b 0x15 (.shl k f) ((.s d, (b.sw a <<< n).toInt, 1) :: flagsZN (b.sw a <<< n).toInt) ∧
      Osier.runs s k f b 0x16 (.shr k f) ((.s d, (b.sw a >>> n).toInt, 1) :: flagsZN (b.sw a >>> n).toInt) ∧
      Osier.runs s k f b 0x17 (.sar k f) ((.s d, ((b.sw a).sshiftRight n).toInt, 1) :: flagsZN ((b.sw a).sshiftRight n).toInt)) ∧
    Osier.runs s k f b 0x18 (.min k f) ((.s d, Min.min (b.sw a).toInt (b.sw x).toInt, 1) :: flagsZN (Min.min (b.sw a).toInt (b.sw x).toInt)) ∧
    Osier.runs s k f b 0x19 (.max k f) ((.s d, Max.max (b.sw a).toInt (b.sw x).toInt, 1) :: flagsZN (Max.max (b.sw a).toInt (b.sw x).toInt)) ∧
    Osier.runs s k f b 0x1A (.mul k f) ((.s d, (b.sw a * b.sw x).toInt, 2) :: flagsZN (b.sw a * b.sw x).toInt) ∧
    (∀ m : Word, m = (BitVec.ofNat 8 i8).signExtend 32 →
      Osier.runs s k f b 0x1B (.addi k f) ((.s d, (b.sw a + m).toInt, 1) :: flagsAdd (b.sw a) m) ∧
      Osier.runs s k f b 0x1D (.cmpi k f) (flagsSub (b.sw a) m)) ∧
    Osier.runs s k f b 0x1C (.cmp k f) (flagsSub (b.sw a) (b.sw x)) ∧
    Osier.runs s k f b 0x1E (.movi k f) [(.s d, (BitVec.ofNat 12 (256 * a + i8)).toInt, 1)] ∧
    Osier.runs s k f b 0x1F (.movu k f) [(.s d, (b.sw d <<< 12 ||| BitVec.ofNat 32 (256 * a + i8)).toInt, 1)] ∧
    Osier.runs s k f b 0x07 (.movsr k f) [(.s d, b.special (Osier.core s k).xfers.length i8, 1)] ∧
    (∀ n j, i8 = 4 * n + j → n < 8 → j < 4 →
      Osier.runs s k f b 0x08 (.movrs k f) [(.a n j, (if j = 2 ∧ 16384 < (b.sw a).toNat then 16384 else (b.sw a).toNat : Nat), 2)]) ∧
    (i8 = 0x20 → Osier.runs s k f b 0x08 (.movrs k f) [(.lc 0, (b.sw a).toNat, 2)]) ∧
    (i8 = 0x21 → Osier.runs s k f b 0x08 (.movrs k f) [(.lc 1, (b.sw a).toNat, 2)]) ∧
    (i8 = 0x22 → Osier.runs s k f b 0x08 (.movrs k f) ((List.range 6).map (fun j => (.flag j, b2n ((b.sw a).getLsbD j), 2)))) ∧
    (i8 = 0x23 → Osier.runs s k f b 0x08 (.movrs k f) [(.bexp, ((b.sw a).toNat % 32 : Nat), 2)]) ∧
    Osier.runs s k f b 0x09 (.bexpr k f) [(.s d, (b.bexp : Nat), 1), (.bexp, 31, 1)] ∧
    (∀ h : Nat, (∃ l, l < 4 ∧ h = headroom (b.vi a l)) → (∀ l, l < 4 → h ≤ headroom (b.vi a l)) →
      Osier.runs s k f b 0x58 (.exp k f) [(.s d, (h : Nat), 1)] ∧ Osier.runs s k f b 0x5B (.bexp k f) [(.bexpMin, (h : Nat), 1)]) ∧
    (∀ h : Nat, (∃ l, l < 4 ∧ h = redundant80 (b.acc a l)) → (∀ l, l < 4 → h ≤ redundant80 (b.acc a l)) →
      Osier.runs s k f b 0x59 (.acexp k f) [(.s d, (h : Int) - 17, 3)]) ∧
    (∀ h : Nat → Nat, (∀ l, h l = headroom (b.vi a l)) →
      Osier.runs s k f b 0x5A (.norm k f) ([0, 1, 2, 3].map (fun l => ((Dest.v d l, (b.vw a l <<< h l).toInt, 1) : OW)) ++
        [0, 1, 2, 3].map (fun l => ((Dest.v c l, (h l : Nat), 1) : OW))))) ∧
  -- the flags
  (∀ x y : Word, flagsAdd x y = [(.flag 0, if x + y = 0 then 1 else 0, 1), (.flag 1, if (x + y).msb then 1 else 0, 1),
    (.flag 2, if 2 ^ 32 ≤ x.toNat + y.toNat then 1 else 0, 1),
    (.flag 3, if -2 ^ 31 ≤ x.toInt + y.toInt ∧ x.toInt + y.toInt < 2 ^ 31 then 0 else 1, 1)]) ∧
  (∀ x y : Word, flagsSub x y = [(.flag 0, if x = y then 1 else 0, 1), (.flag 1, if (x - y).msb then 1 else 0, 1),
    (.flag 2, if y.toNat ≤ x.toNat then 1 else 0, 1),
    (.flag 3, if -2 ^ 31 ≤ x.toInt - y.toInt ∧ x.toInt - y.toInt < 2 ^ 31 then 0 else 1, 1)]) ∧
  -- headroom: the places by which a value other than 0 and -1 can be shifted left with its sign kept; 31 for those two
  (∀ v : Int, -2 ^ 31 ≤ v → v < 2 ^ 31 → v ≠ 0 → v ≠ -1 →
    (-2 ^ 31 ≤ v * 2 ^ headroom v ∧ v * 2 ^ headroom v < 2 ^ 31) ∧
    ¬ (-2 ^ 31 ≤ v * 2 ^ (headroom v + 1) ∧ v * 2 ^ (headroom v + 1) < 2 ^ 31)) ∧
  headroom 0 = 31 ∧ headroom (-1) = 31

/-- The vector rows. -/
def Obligations.OsierVectorRowsRun : Prop :=
  (∀ (s : State) (k : Nat) (f : Slots) (b : Bank) (d a x i8 : Nat) (A X : Nat → Int), d = f.d.toNat → a = f.a.toNat → x = f.b.toNat →
    i8 = 16 * x + f.c.toNat → (∀ l, A l = (b.vw a l).toInt) → (∀ l, X l = (b.vw x l).toInt) →
    Osier.runs s k f b 0x20 (.vadd k f) (vecSat d 1 (fun l => A l + X l)) ∧
    Osier.runs s k f b 0x21 (.vsub k f) (vecSat d 1 (fun l => A l - X l)) ∧
    Osier.runs s k f b 0x22 (.vaddw k f) (vecW d 1 (fun l => (b.vw a l + b.vw x l).toInt)) ∧
    Osier.runs s k f b 0x23 (.vsubw k f) (vecW d 1 (fun l => (b.vw a l - b.vw x l).toInt)) ∧
    Osier.runs s k f b 0x24 (.vneg k f) (vecSat d 1 (fun l => -A l)) ∧
    Osier.runs s k f b 0x25 (.vabs k f) (vecSat d 1 (fun l => |A l|)) ∧
    Osier.runs s k f b 0x26 (.vand k f) (vecW d 1 (fun l => (b.vw a l &&& b.vw x l).toInt)) ∧
    Osier.runs s k f b 0x27 (.vor k f) (vecW d 1 (fun l => (b.vw a l ||| b.vw x l).toInt)) ∧
    Osier.runs s k f b 0x28 (.vxor k f) (vecW d 1 (fun l => (b.vw a l ^^^ b.vw x l).toInt)) ∧
    Osier.runs s k f b 0x29 (.vmin k f) (vecW d 1 (fun l => min (A l) (X l))) ∧
    Osier.runs s k f b 0x2A (.vmax k f) (vecW d 1 (fun l => max (A l) (X l))) ∧
    (∀ n : Nat,
      ((b.sw x).toInt = n → Osier.runs s k f b 0x2B (.vscale k f) (vecSat d 1 (fun l => A l * 2 ^ n))) ∧
      ((b.sw x).toInt = -n → 0 < n → Osier.runs s k f b 0x2B (.vscale k f) (vecSat d 1 (fun l => (A l + 2 ^ (n - 1)) / 2 ^ n))) ∧
      ((BitVec.ofNat 8 i8).toInt = n → Osier.runs s k f b 0x2C (.vshli k f) (vecSat d 1 (fun l => A l * 2 ^ n))) ∧
      ((BitVec.ofNat 8 i8).toInt = -n → 0 < n →
        Osier.runs s k f b 0x2C (.vshli k f) (vecSat d 1 (fun l => (A l + 2 ^ (n - 1)) / 2 ^ n)))) ∧
    Osier.runs s k f b 0x2D (.vperm k f) (vecW d 1 (fun l => A (i8 / 4 ^ l % 4))) ∧
    Osier.runs s k f b 0x2E (.vbcast k f) (vecW d 1 (fun _ => (b.sw a).toInt)) ∧
    Osier.runs s k f b 0x2F (.vins k f) [(.v d (i8 % 4), (b.sw a).toInt, 1)] ∧
    Osier.runs s k f b 0x30 (.vext k f) ((.s d, A (i8 % 4), 1) :: flagsZN (A (i8 % 4))) ∧
    Osier.runs s k f b 0x38 (.vmulr k f) (vecSat d 3 (fun l => (A l * X l + 2 ^ 30) / 2 ^ 31)) ∧
    Osier.runs s k f b 0x39 (.vmulrs k f) (vecSat d 3 (fun l => (A l * (b.sw x).toInt + 2 ^ 30) / 2 ^ 31)) ∧
    (∀ R : Nat → Int,
      ((∀ l, R (2 * l) = A (2 * l) * X (2 * l) - A (2 * l + 1) * X (2 * l + 1)) →
        (∀ l, R (2 * l + 1) = A (2 * l) * X (2 * l + 1) + A (2 * l + 1) * X (2 * l)) →
        Osier.runs s k f b 0x3A (.vcmul k f) (vecSat d 3 (fun l => (R l + 2 ^ 30) / 2 ^ 31))) ∧
      ((∀ l, R (2 * l) = A (2 * l) * X (2 * l) + A (2 * l + 1) * X (2 * l + 1)) →
        (∀ l, R (2 * l + 1) = A (2 * l + 1) * X (2 * l) - A (2 * l) * X (2 * l + 1)) →
        Osier.runs s k f b 0x3B (.vcmulj k f) (vecSat d 3 (fun l => (R l + 2 ^ 30) / 2 ^ 31))))) ∧
  -- saturation
  (∀ v : Int, (-2 ^ 31 ≤ v → v < 2 ^ 31 → satS 32 v = v ∧ satClips 32 v = false) ∧
    (v < -2 ^ 31 → satS 32 v = -2 ^ 31 ∧ satClips 32 v = true) ∧ (2 ^ 31 ≤ v → satS 32 v = 2 ^ 31 - 1 ∧ satClips 32 v = true))

/-- The accumulator and extraction rows. -/
def Obligations.OsierAccumulatorRowsRun : Prop :=
  (∀ (s : State) (k : Nat) (f : Slots) (b : Bank) (d a x i8 e : Nat) (A X S : Nat → Int), d = f.d.toNat → a = f.a.toNat → x = f.b.toNat →
    i8 = 16 * x + f.c.toNat → (∀ l, A l = (b.vw a l).toInt) → (∀ l, X l = (b.vw x l).toInt) → (∀ l, S l = (b.sw x).toInt) →
    e = min 48 ((b.sw x).toNat % 64) →
    Osier.runs s k f b 0x40 (.mpy k f) (accSat d (fun l => A l * X l)) ∧
    Osier.runs s k f b 0x41 (.mac k f) (accSat d (fun l => b.acc d l + A l * X l)) ∧
    Osier.runs s k f b 0x42 (.msu k f) (accSat d (fun l => b.acc d l - A l * X l)) ∧
    Osier.runs s k f b 0x43 (.mpys k f) (accSat d (fun l => A l * S l)) ∧
    Osier.runs s k f b 0x44 (.macs k f) (accSat d (fun l => b.acc d l + A l * S l)) ∧
    Osier.runs s k f b 0x45 (.msus k f) (accSat d (fun l => b.acc d l - A l * S l)) ∧
    Osier.runs s k f b 0x46 (.acclr k f) ([0, 1, 2, 3].map (fun l => ((.ac d l, 0, 3) : OW))) ∧
    Osier.runs s k f b 0x47 (.acld k f) ([0, 1, 2, 3].map (fun l => ((.ac d l, A l * 2 ^ 31, 3) : OW))) ∧
    Osier.runs s k f b 0x48 (.acadd k f) (accSat d (fun l => b.acc a l + b.acc x l)) ∧
    Osier.runs s k f b 0x49 (.acaddv k f) (accSat d (fun l => b.acc a l + X l * 2 ^ 31)) ∧
    Osier.runs s k f b 0x4A (.acsubv k f) (accSat d (fun l => b.acc a l - X l * 2 ^ 31)) ∧
    Osier.runs s k f b 0x4B (.vbf k f) ([0, 1, 2, 3].map (fun l => ((.ac d l, (A l + X l) * 2 ^ 31, 3) : OW)) ++
      [0, 1, 2, 3].map (fun l => ((.ac (d + 1) l, (A l - X l) * 2 ^ 31, 3) : OW))) ∧
    Osier.runs s k f b 0x4C (.acsum k f)
      (accSat d (fun l => if l = 0 then b.acc a 0 + b.acc a 1 + b.acc a 2 + b.acc a 3 else 0)) ∧
    (∀ n : Nat,
      ((BitVec.ofNat 8 i8).toInt = n → Osier.runs s k f b 0x4D (.acsh k f) (accSat d (fun l => b.acc a l * 2 ^ n))) ∧
      ((BitVec.ofNat 8 i8).toInt = -n → Osier.runs s k f b 0x4D (.acsh k f) (accSat d (fun l => b.acc a l / 2 ^ n)))) ∧
    (∀ U : Nat → BitVec 80, (∀ l, U l = BitVec.ofInt 80 (b.acc a l)) →
      (i8 = 0 → Osier.runs s k f b 0x4E (.acget k f) (vecW d 3 (fun l => ((U l).extractLsb' 0 32).toInt))) ∧
      (i8 = 1 → Osier.runs s k f b 0x4E (.acget k f) (vecW d 3 (fun l => ((U l).extractLsb' 32 32).toInt))) ∧
      (i8 = 2 → Osier.runs s k f b 0x4E (.acget k f) (vecW d 3 (fun l => ((U l).extractLsb' 64 16).toInt)))) ∧
    (i8 < 3 → Osier.runs s k f b 0x4F (.acput k f) ([0, 1, 2, 3].map (fun l => ((.acPart d l i8, A l, 3) : OW)))) ∧
    (∀ R : Nat → Int, (∀ l, R l = (b.acc a l + 2 ^ (30 + e)) / 2 ^ (31 + e)) →
      Osier.runs s k f b 0x50 (.acrnd k f) (vecSat d 3 R) ∧
      (∀ h : Nat, (∃ l, l < 4 ∧ h = headroom (satS 32 (R l))) → (∀ l, l < 4 → h ≤ headroom (satS 32 (R l))) →
        Osier.runs s k f b 0x51 (.acrndb k f) (vecSat d 3 R ++ ([(.bexpMin, (h : Nat), 3)] : List OW)))) ∧
    Osier.runs s k f b 0x52 (.actrn k f) (vecSat d 3 (fun l => b.acc a l / 2 ^ (31 + e)))) ∧
  -- a part of an accumulator lane replaced
  (∀ (x : Int) (w : Word), -2 ^ 79 ≤ x → x < 2 ^ 79 →
    BitVec.ofInt 80 (accPut x 0 w.toNat) = (BitVec.ofInt 80 x).extractLsb' 32 48 ++ w ∧
    BitVec.ofInt 80 (accPut x 1 w.toNat) = (BitVec.ofInt 80 x).extractLsb' 64 16 ++ w ++ (BitVec.ofInt 80 x).extractLsb' 0 32 ∧
    BitVec.ofInt 80 (accPut x 2 w.toNat) = w.extractLsb' 0 16 ++ (BitVec.ofInt 80 x).extractLsb' 0 64)

/-- The control rows, and where control goes. -/
def Obligations.OsierControlRowsRun : Prop :=
  (∀ (s : State) (k : Nat) (f : Slots) (b : Bank),
    Osier.runs s k f b 0x00 (.nop k f) [] ∧ Osier.runs s k f b 0x01 (.br k f) [] ∧
    Osier.runs s k f b 0x02 (.call k f) [(.s 15, (b.pc + 3 : Nat), 1)] ∧ Osier.runs s k f b 0x03 (.jr k f) [] ∧
    Osier.runs s k f b 0x04 (.loop k f) [] ∧ Osier.runs s k f b 0x05 (.loopi k f) [] ∧ Osier.runs s k f b 0x06 (.endl k f) []) ∧
  (∀ (f : Slots) (b : Bank) (d a i12 i8 : Nat), d = f.d.toNat → a = f.a.toNat → i8 = 16 * f.b.toNat + f.c.toNat → i12 = 256 * a + i8 →
    -- BR, CALL, JR
    (∀ t : Nat → Option Nat, (∀ x, t x = if condHolds b d then some x else none) →
      Osier.flow (Operands.bundle 0x01 f) b = { b with delay := 2, target := t i12, pc := b.pc + 1 } ∧
      Osier.flow (Operands.bundle 0x03 f) b = { b with delay := 2, target := t ((b.sw a).toNat % 4096), pc := b.pc + 1 }) ∧
    Osier.flow (Operands.bundle 0x02 f) b = { b with delay := 2, target := some i12, pc := b.pc + 1 } ∧
    -- LOOP, LOOPI, ENDL
    (∀ op n, (op = 0x04 ∧ n = (b.sw a).toNat) ∨ (op = 0x05 ∧ n = 16 * d + a) →
      (n = 0 → Osier.flow (Operands.bundle op f) b = { b with pc := b.pc + 1 + i8 }) ∧
      (n ≠ 0 → b.loops = [] → Osier.flow (Operands.bundle op f) b =
        { b.setLc 0 n with pc := b.pc + 1, loops := [(b.pc + 1, b.pc + i8)] }) ∧
      (n ≠ 0 → ∀ l, b.loops = [l] → Osier.flow (Operands.bundle op f) b =
        { b.setLc 1 n with pc := b.pc + 1, loops := [(b.pc + 1, b.pc + i8), l] })) ∧
    Osier.flow (Operands.bundle 0x06 f) b = { b with pc := b.pc + 1, loops := b.loops.tail }) ∧
  (∀ (i : Bundle) (b : Bank), i.isFlow = false →
    -- delay slots
    (b.delay = 1 → ∀ x, b.target = some x → Osier.flow i b = { b with delay := 0, target := none, pc := x }) ∧
    (b.delay ≠ 1 ∨ b.target = none →
      -- no body ends here
      ((∀ l, l ∈ b.loops → l.2 ≠ b.pc) → Osier.flow i b = { b with delay := b.delay - 1, pc := b.pc + 1 }) ∧
      -- an outer body ends
      (∀ p, b.loops = [(p, b.pc)] →
        (1 < b.lc0.toNat → Osier.flow i b = { b.setLc 0 (b.lc0.toNat - 1) with delay := b.delay - 1, pc := p }) ∧
        (b.lc0.toNat = 1 → Osier.flow i b = { b.setLc 0 0 with delay := b.delay - 1, pc := b.pc + 1, loops := [] })) ∧
      -- an outer body ends while an inner level that a branch has left is still active
      (∀ p q, b.loops = [q, (p, b.pc)] → q.2 ≠ b.pc → 1 < b.lc0.toNat →
        Osier.flow i b = { b.setLc 0 (b.lc0.toNat - 1) with delay := b.delay - 1, pc := p }) ∧
      -- an inner body ends
      (∀ p q, b.loops = [(p, b.pc), q] →
        (1 < b.lc1.toNat → Osier.flow i b = { b.setLc 1 (b.lc1.toNat - 1) with delay := b.delay - 1, pc := p }) ∧
        (b.lc1.toNat = 1 → q.2 ≠ b.pc → Osier.flow i b = { b.setLc 1 0 with delay := b.delay - 1, pc := b.pc + 1, loops := [q] })) ∧
      -- a loop's count goes to its register, which its write is then the latest of
      (∀ n, (b.setLc 0 n).lc0 = w32 n ∧ (b.setLc 1 n).lc1 = w32 n ∧ (b.setLc 0 n).lc1 = b.lc1 ∧ (b.setLc 1 n).lc0 = b.lc0 ∧
        (b.setLc 0 n).ctlFields = b.ctlFields ∧ (b.setLc 1 n).ctlFields = b.ctlFields))) ∧
  -- conditions
  (∀ (b : Bank) (z n c v sat : Bool), z = b.flags.testBit 0 → n = b.flags.testBit 1 → c = b.flags.testBit 2 → v = b.flags.testBit 3 →
    sat = b.flags.testBit 4 → (List.range 13).map (condHolds b) =
      [true, z, !z, n ^^ v, !(n ^^ v), !z && !(n ^^ v), z || (n ^^ v), c, !c, n, !n, sat, !sat])

/-- The rows of the frame fabric, the transfers and the core's window. -/
def Obligations.OsierFabricTransferWindowRows : Prop :=
  ∀ (s : State) (k : Nat),
    (∀ (f : Slots) (b : Bank) (d a x i8 node : Nat), d = f.d.toNat → a = f.a.toNat → x = f.b.toNat → i8 = 16 * x + f.c.toNat →
      node = b.node.getD 0 → f.ctl.toNat / 256 ≠ 4 →
      -- FRD
      Osier.runs s k f b 0x60 (.frd k f) (vecW d 2 (fun l =>
        if (b.sw a).toNat + l < Coil.ioCount s node then Coil.readChannel s node (Coil.ioFirst s node + ((b.sw a).toNat + l)) else 0)) ∧
      -- FWR
      (Osier.ready s k (Operands.bundle 0x61 f) b → (Osier.flow (Operands.bundle 0x61 f) b).pc < 4096 →
        Completes (.fwr k f) s (fun t => Osier.ran s t k (Operands.bundle 0x61 f) b [] ∧
          (∀ l, l < 4 → (b.sw x).toNat + l < Coil.ioCount s node →
            Tab.get (fun _ => none) t.coil.path.writes (1024 * node + (Coil.ioFirst s node + ((b.sw x).toNat + l))) =
              some (b.vw a l).toInt) ∧
          (∀ q, (∀ l, l < 4 → q ≠ 1024 * node + (Coil.ioFirst s node + ((b.sw x).toNat + l))) →
            Tab.get (fun _ => none) t.coil.path.writes q = Tab.get (fun _ => none) s.coil.path.writes q))) ∧
      -- XRD, XWR
      (∀ op c w, (op = 0x62 ∧ c = Instr.xrd k f ∧ w = false) ∨ (op = 0x63 ∧ c = Instr.xwr k f ∧ w = true) →
        Osier.ready s k (Operands.bundle op f) b → (Osier.flow (Operands.bundle op f) b).pc < 4096 →
        Completes c s (fun t => Osier.ran s t k (Operands.bundle op f) b [] ∧
          ((b.sw (a + 3)).toNat < 16 → (Osier.core t k).xfers = (Osier.core s k).xfers) ∧
          (16 ≤ (b.sw (a + 3)).toNat → ∃ r, (Osier.core t k).xfers = (Osier.core s k).xfers ++ [r] ∧
            r.write = w ∧ r.y = (i8 % 2 == 1) ∧ r.common = (i8 / 2 % 2 == 1) ∧ r.loc = (b.sw a).toNat % 2 ^ 14 / 4 * 4 ∧
            r.ext = (b.sw (a + 1)).toNat / 16 * 16 + (b.sw (a + 2)).toNat % 256 * 2 ^ 32 ∧
            r.bytes = (b.sw (a + 3)).toNat / 16 * 16 ∧ r.node = node)))) ∧
    -- TRANSFER_COMPLETE
    (s.running = true → ∀ r xs ext ini n, (Osier.core s k).xfers = r :: xs → ext = (if r.common then csAddr r.ext else r.ext) →
      ini = 13 + k / 32 → n = r.bytes / 256 + 2 →
      (r.write = false → ∀ s1 l e, Weave.readN s.begin ini n ext r.bytes = (s1, l, e) → (Osier.core s1 k).b0.done = none →
        Completes (.transferComplete k) s (fun t => (Osier.core t k).xfers = (Osier.core s1 k).xfers.drop 1 ∧
          (Osier.core t k).xferErr = ((Osier.core s1 k).xferErr ||
            (e != 0 && (Osier.core s1 k).xfers.head?.map (·.node) == (Osier.core s1 k).b0.node)) ∧
          (e = 0 → ∀ w, w < r.bytes / 4 → t.ld32 (Osier.wordAddr k r.y (r.loc + w)) = w32 (ofLe (slice l (4 * w) 4))) ∧
          (e ≠ 0 → t.mem = s1.mem))) ∧
      (r.write = true → ∀ s1 e, Osier.deliver (if r.y then s.begin else Osier.xRead s.begin k) ini r.deadline r.release r.common 18 ext
          ((List.range (r.bytes / 4)).flatMap (fun w => leBytes 4 (Osier.wordAt s k r.y (r.loc + w)).toNat)) = (s1, e) →
        Completes (.transferComplete k) s (fun t => t = Osier.xferEnd s1 k (e != 0)))) ∧
    (s.running = true → (Osier.core s k).xfers = [] → Completes (.transferComplete k) s (fun t => t = s.begin)) ∧
    -- INSTRUCTION_WRITE
    (∀ n w, n < 0xC00 → k < 128 →
      (s.pageUp (Osier.pageOf k) = true → (Osier.core s k).b1.node = none → Completes (.instructionWrite k n false w) s (fun t =>
        t.ldLe (Osier.win k + 0x20000 + 8 * n) 8 = (Osier.core s k).low.toNat + w.toNat * 2 ^ 32 ∧
        (∀ a, a < Osier.win k + 0x20000 + 8 * n ∨ Osier.win k + 0x20000 + 8 * n + 8 ≤ a → t.ld8 a = s.ld8 a) ∧
        t.osier = s.osier ∧ t.regs = s.regs)) ∧
      (k = 0 → s.pageUp (Osier.pageOf 0) = true → (Osier.core s 0).b1.node = none → Completes (.instructionWrite 0 n true w) s (fun t =>
        ∀ j, j < s.variant.cores → Coil.corePresent s j = true →
          t.ldLe (Osier.win j + 0x20000 + 8 * n) 8 = (Osier.core s j).low.toNat + w.toNat * 2 ^ 32))) ∧
    -- OSIER_WINDOW_ACCESS_RELEASE
    (s.running = true → (Osier.core s k).b1.node = none → ∀ o w, (Osier.core s k).held = [(o, some w)] →
      Completes (.osierWindowAccessRelease k) s (fun t =>
        t = Osier.winWriteNow (Osier.setCore s.begin k { Osier.core s k with held := [] }) k o w ∧ (Osier.core t k).held = [])) ∧
    -- INJECT_PARITY, INJECT_RESIDUE
    (s.pageUp (Osier.pageOf k) = true → k < 128 → s.directControls = true →
      Completes (.injectParity k) s (fun t => t = Osier.setCore s.begin k { Osier.core s k with injParity := true }) ∧
      Completes (.injectResidue k) s (fun t => t = Osier.setCore s.begin k { Osier.core s k with injResidue := true }))

/-- The move rows. -/
def Obligations.OsierMovesRun : Prop :=
  (∀ (s : State) (k : Nat) (y : Bool) (m : MoveArgs) (op : BitVec 8) (f : Slots) (b : Bank) (n p q r : Nat) (i : Nat → Bundle)
    (W : Nat → Word),
    (∀ o, i o = Operands.bundle op.toNat (Operands.withMove f y o m)) → n = (if y then 4 + m.areg.toNat else m.areg.toNat) →
    p = b.af n 0 → p < 0x4000 → q = p / 4 * 4 → r = m.r.toNat → (∀ j, W j = Osier.wordAt s k y j) →
    f.ctl.toNat / 256 ≠ 4 →
    let at' : Dest → Int → Nat → WriteBack := fun d v lat => { due := b.issued + lat, issue := b.issued, dest := d, val := v }
    let runs : Nat → Instr → (State → Prop) → Prop := fun o c P =>
      Osier.ready s k (i o) b → (Osier.flow (i o) b).pc < 4096 → Completes c s (fun t =>
        (Osier.ranBank s t k).pc = (Osier.flow (i o) b).pc ∧ (Osier.ranBank s t k).issued = b.issued + 1 ∧ P t)
    let other : BitVec 14 := if y then f.x else f.y
    -- loads
    (runs 1 (.ldv k y m op f) (fun t =>
        (∀ l, l < 4 → at' (.v r l) (W (q + l)).toInt 2 ∈ (Osier.ranBank s t k).wbs) ∧ (other = 0 → op ≠ 0x61 → t.mem = s.mem)) ∧
      runs 3 (.lds k y m op f) (fun t =>
        at' (.s r) (W p).toInt 2 ∈ (Osier.ranBank s t k).wbs ∧ (other = 0 → op ≠ 0x61 → t.mem = s.mem)) ∧
      runs 5 (.ldb k y m op f) (fun t =>
        (∀ l, l < 4 → at' (.v r l) (W p).toInt 2 ∈ (Osier.ranBank s t k).wbs) ∧ (other = 0 → op ≠ 0x61 → t.mem = s.mem))) ∧
    -- what a word reads as: a free value where a cold dispatch has left it undefined
    (∀ j u : Nat, u = (if y then 0x4000 else 0) + j →
      ((Osier.core s k).undef = false ∨ 0x3C00 ≤ j ∨ Tab.get (fun _ => false) (Osier.core s k).defd u = true →
        W j = s.ld32 (Osier.wordAddr k y j)) ∧
      ((Osier.core s k).undef = true → j < 0x3C00 → Tab.get (fun _ => false) (Osier.core s k).defd u = false →
        W j = Config.coldWord (Osier.core s k).cold k u)) ∧
    -- stores
    runs 2 (.stv k y m op f) (fun t => (∀ l, l < 4 → t.ld32 (Osier.wordAddr k y (q + l)) = b.vw r l) ∧
      (other = 0 → (Osier.core s k).undef = false →
        ∀ a, a < Osier.wordAddr k y q ∨ Osier.wordAddr k y q + 16 ≤ a → t.ld8 a = s.ld8 a)) ∧
    runs 4 (.sts k y m op f) (fun t => t.ld32 (Osier.wordAddr k y p) = b.sw r ∧
      (other = 0 → (Osier.core s k).undef = false →
        ∀ a, a < Osier.wordAddr k y p ∨ Osier.wordAddr k y p + 4 ≤ a → t.ld8 a = s.ld8 a)) ∧
    -- post-modify
    (∀ o c, (o = 1 ∧ c = Instr.ldv k y m op f) ∨ (o = 2 ∧ c = Instr.stv k y m op f) ∨ (o = 3 ∧ c = Instr.lds k y m op f) ∨
        (o = 4 ∧ c = Instr.sts k y m op f) ∨ (o = 5 ∧ c = Instr.ldb k y m op f) →
      f.ctl.toNat / 256 ≠ 1 → f.ctl.toNat / 256 ≠ 2 → ∀ w : Nat, w = (if o = 1 ∨ o = 2 then 4 else 1) →
      runs o c (fun t =>
        (m.mod = 0 → op ≠ 0x08 → (∀ v ∈ (Osier.ranBank s t k).wbs, v ∉ b.wbs → v.dest ≠ .a n 0)) ∧
        (m.mod = 1 → at' (.a n 0) (postModify false p (b.af n 1) (b.af n 2) w).1 1 ∈ (Osier.ranBank s t k).wbs) ∧
        (m.mod = 2 → at' (.a n 0) (postModify false p (b.af n 1) (b.af n 2) (signed 16 (b.af n 3))).1 1 ∈ (Osier.ranBank s t k).wbs) ∧
        (m.mod = 3 → at' (.a n 0) (postModify true p (b.af n 1) (b.af n 2) (signed 16 (b.af n 3))).1 1 ∈ (Osier.ranBank s t k).wbs)))) ∧
  -- the ring
  (∀ (p B L : Nat) (m : Int), B ≤ p → p < B + L → B + L ≤ 0x4000 → -(L : Int) ≤ m → m ≤ L →
    (postModify false p B L m).2 = false ∧ B ≤ (postModify false p B L m).1 ∧ (postModify false p B L m).1 < B + L ∧
    ((postModify false p B L m).1 - (B : Int)) % L = ((p : Int) + m - B) % L) ∧
  (∀ (p B : Nat) (m : Int), postModify false p B 0 m = ((((p : Int) + m) % 0x4000).toNat, false))

/-- The control-slot rows. -/
def Obligations.OsierControlSlotRows : Prop :=
  ∀ (s : State) (k : Nat) (arg op : BitVec 8) (f : Slots) (b : Bank) (c : CoreSt) (i : Nat → Bundle),
    (∀ o, i o = Operands.bundle op.toNat (Operands.withCtl f o arg)) → c = Osier.core s k →
    (let at' : Dest → Int → WriteBack := fun d v => { due := b.issued + 1, issue := b.issued, dest := d, val := v }
     let runs : Nat → Instr → (State → Prop) → Prop := fun o e P =>
      Osier.ready s k (i o) b → (Osier.flow (i o) b).pc < 4096 → Completes e s (fun t =>
        (Osier.ranBank s t k).pc = (Osier.flow (i o) b).pc ∧ (Osier.ranBank s t k).issued = b.issued + 1 ∧
        (Osier.ranBank s t k).stall = none ∧ P t)
     -- UPD, UPDR
     (∀ o e r, (o = 1 ∧ e = Instr.upd k arg op f ∧ r = false) ∨ (o = 2 ∧ e = Instr.updr k arg op f ∧ r = true) → f.x = 0 → f.y = 0 →
      ∀ n n2, n = arg.toNat / 16 % 8 → n2 = arg.toNat % 8 → n ≠ n2 → runs o e (fun t =>
        (arg.getLsbD 7 = true →
          at' (.a n 0) (postModify r (b.af n 0) (b.af n 1) (b.af n 2) (signed 16 (b.af n 3))).1 ∈ (Osier.ranBank s t k).wbs) ∧
        (arg.getLsbD 3 = true →
          at' (.a n2 0) (postModify r (b.af n2 0) (b.af n2 1) (b.af n2 2) (signed 16 (b.af n2 3))).1 ∈ (Osier.ranBank s t k).wbs))) ∧
     -- WAITX, SATCLR
     runs 3 (.waitx k arg op f) (fun _ => True) ∧
     runs 5 (.satclr k arg op f) (fun t => at' (.flag 4) 0 ∈ (Osier.ranBank s t k).wbs)) ∧
    -- WAITX that stalls
    (s.pageUp (Osier.pageOf k) = true → c.active.node.isSome = true → c.active.done = none → c.inBank1 = false →
      b = c.active.settle → (i 3).legal b = true → ¬ (b.issued = 0 ∧ 0xC00 ≤ b.pc ∧ b.node.getD 0 < 7168) →
      (i 3).op ≠ 0x60 → (i 3).op ≠ 0x61 →
      (i 3).ctl / 256 = 3 → (i 3).ctl % 8 < c.xfers.length → b.stall = none → Completes (.waitx k arg op f) s (fun t =>
        Osier.ranBank s t k = { b with stall := some s.clk.mono } ∧ t.regs = s.regs ∧ t.mem = s.mem ∧ t.coil = s.coil ∧
        (∀ j, j ≠ k → Osier.core t j = Osier.core s j) ∧ (Osier.core t k).xfers = c.xfers)) ∧
    -- DONE
    (Osier.ready s k (i 4) b → arg.toNat < 2 → (i 4).op ≠ 0x62 → (i 4).op ≠ 0x63 →
      (c.xfers = [] ∨ c.inBank1 = true → Completes (.done k arg op f) s (fun t => Osier.ranBank s t k = {} ∧
        (∀ a, a ∈ t.coil.acts → some a.node = b.node → a.state = 2 → a.core = k →
          a.posted = true ∧ (arg = 1 → a.late = true)))) ∧
      (c.xfers ≠ [] → c.inBank1 = false → Completes (.done k arg op f) s (fun t => (Osier.ranBank s t k).done = some (arg == 1) ∧
        (Osier.ranBank s t k).node = b.node ∧ (Osier.core t k).xfers = c.xfers))) ∧
    -- the last transfer of a node that has executed DONE
    (s.running = true → ∀ r bad ext l s1, c.xfers = [r] → r.write = false → ext = (if r.common then csAddr r.ext else r.ext) →
      Weave.readN s.begin (13 + k / 32) (r.bytes / 256 + 2) ext r.bytes = (s1, l, 0) → Osier.core s1 k = c → c.b0.done = some bad →
      c.b0.node.isSome = true → c.xferErr = false → Completes (.transferComplete k) s (fun t =>
        (Osier.core t k).b0 = {} ∧ (Osier.core t k).xfers = [] ∧
        (∀ a, a ∈ t.coil.acts → some a.node = c.b0.node → a.state = 2 → a.core = k → a.posted = true)))

/-- Where an Osier core issues nothing, and where it takes a core fault. -/
def Obligations.OsierFaultsAbandonTheNode : Prop :=
  ∀ (s : State) (k : Nat) (i : Bundle) (e : Instr) (c : CoreSt) (b : Bank) (n : Nat),
    exec e s = s.act (fun t => Osier.issue t k i) → s.pageUp (Osier.pageOf k) = true → k < 128 → c = Osier.core s k →
    b = c.active.settle →
    (c.active.node = none ∨ c.active.done.isSome = true ∨ (c.inBank1 = true ∧ c.b1.cost ≤ c.b1.issued) →
      Completes e s (fun t => t = s.begin)) ∧
    (c.active.node = some n → c.active.done = none → (c.inBank1 = true → c.b1.issued < c.b1.cost) →
      ¬ (b.issued = 0 ∧ 0xC00 ≤ b.pc ∧ n < 7168) →
      let faults : Nat → (CoreSt → Prop) → Prop := fun code P => Completes e s (fun t =>
        Osier.ranBank s t k = {} ∧ fld (t.rd (Reg.faultCause (Osier.pageOf k))) 7 0 = code ∧
        bit (t.rd (Reg.irqStatus (Osier.pageOf k))) 0 = true ∧
        t.rd (Reg.osierFaultInfo k) = w32 (at_ 16 n + at_ 12 (b2n c.inBank1) + b.pc % 4096) ∧ t.mem = s.mem ∧ P (Osier.core t k))
      (i.legal b = false → faults 0x81 (fun _ => True)) ∧
      (i.legal b = true →
        (((i.op = 0x60 ∨ i.op = 0x61) ∧ c.inBank1 = false) ∨ ((i.op = 0x62 ∨ i.op = 0x63) ∧ c.inBank1 = true) →
          faults 0x84 (fun _ => True)) ∧
        (((i.op = 0x60 ∨ i.op = 0x61) → c.inBank1 = true) → ((i.op = 0x62 ∨ i.op = 0x63) → c.inBank1 = false ∧ c.xfers.length < 8) →
          (i.ctl / 256 = 3 → c.xfers.length ≤ i.ctl % 8) → c.xferErr = false →
          ((Move.ofNat i.x).inRegion c.inBank1 (b.af (Move.ofNat i.x).areg 0) = false ∨
            (Move.ofNat i.y).inRegion c.inBank1 (b.af (4 + (Move.ofNat i.y).areg) 0) = false → faults 0x82 (fun _ => True)) ∧
          ((Move.ofNat i.x).inRegion c.inBank1 (b.af (Move.ofNat i.x).areg 0) = true →
            (Move.ofNat i.y).inRegion c.inBank1 (b.af (4 + (Move.ofNat i.y).areg) 0) = true →
            ((i.op = 0x62 ∨ i.op = 0x63) → (Osier.xferOf i b s).badRange = true → faults 0x82 (fun _ => True)) ∧
            (((i.op = 0x62 ∨ i.op = 0x63) → (Osier.xferOf i b s).badRange = false) →
              ((Move.ofNat i.x).isLoad = true → c.injParity = true → faults 0x86 (fun d => d.injParity = false)) ∧
              ((Move.ofNat i.x).isLoad = false ∨ c.injParity = false → i.multiplies = true → c.injResidue = true →
                faults 0x80 (fun d => d.injResidue = false)))))))

/-- What becomes visible before a bundle issues. -/
def Obligations.WriteBacksBecomeVisible : Prop :=
  (∀ (b : Bank) (v : WriteBack), v ∈ b.settle.wbs ↔ v ∈ b.wbs ∧ b.issued < v.due) ∧
  (∀ (b : Bank) (w : WriteBack) (l1 l2 : List WriteBack), b.wbs = l1 ++ w :: l2 → w.due ≤ b.issued →
    (∀ v, v ∈ l1 → v.due ≤ b.issued → v.dest.key = w.dest.key → v.issue ≤ w.issue) →
    (∀ v, v ∈ l2 → v.due ≤ b.issued → v.dest.key = w.dest.key → v.issue < w.issue) →
    (Tab.get (fun _ => 0) b.lastW w.dest.key ≤ w.issue + 1 →
      (∀ r l, w.dest = .v r l → b.settle.vw r l = w32 (unsigned 32 w.val)) ∧
      (∀ r, w.dest = .s r → b.settle.sw r = w32 (unsigned 32 w.val)) ∧
      (∀ r l, w.dest = .ac r l → b.settle.acc r l = w.val))) ∧
  (∀ (b : Bank) (r l : Nat),
    ((∀ v, v ∈ b.wbs → v.due ≤ b.issued → v.dest.key = 4 * r + l → v.issue + 1 < Tab.get (fun _ => 0) b.lastW (4 * r + l)) →
      b.settle.vw r l = b.vw r l) ∧
    ((∀ v, v ∈ b.wbs → v.due ≤ b.issued → v.dest.key = 100 + r → v.issue + 1 < Tab.get (fun _ => 0) b.lastW (100 + r)) →
      b.settle.sw r = b.sw r) ∧
    ((∀ v, v ∈ b.wbs → v.due ≤ b.issued → v.dest.key = 200 + 4 * r + l → v.issue + 1 < Tab.get (fun _ => 0) b.lastW (200 + 4 * r + l)) →
      b.settle.acc r l = b.acc r l))

/-- The rows of power and heat. -/
def Obligations.PowerCommandsAct : Prop :=
  (∀ s : State,
    -- BUDGET_EPOCH_CLOSE
    (s.running = true → s.clk.ticking = true → s.clk.frame % frameBase s.clk.rate = 0 → s.clk.frame ≠ s.clk.firstTick →
      ∀ temps reg freqs, Completes (.budgetEpochClose temps reg freqs) s (fun v => ∃ t,
        v = freqs.foldl (fun (s : State) f => if 10 ≤ (Pstg.ch (Pstg.epoch s f.1 f.2) f.1).farRun
          then Pstg.loopFault (Pstg.epoch s f.1 f.2) f.1 else Pstg.epoch s f.1 f.2) t ∧
        (∃ p, t.budget.powers = (p :: s.budget.powers).take 100 ∧
          (∀ mv ma, reg = some (mv, ma) →
            p = (roundDiv ((s.budget.v * ma : Nat) : Int) 100000).toNat + s.efF Reg.budgetRailAllow 15 0)) ∧
        t.budget.slackMin = none ∧
        (∀ k, k < 16 → t.rd (Reg.budgetTemp k) =
          w32 (at_ 31 (b2n (decide (-880 ≤ nth 0 temps k ∧ nth 0 temps k ≤ 2400))) + unsigned 16 (nth 0 temps k))) ∧
        (s.isStandby = false → ∃ x, t.budget.nextTier = some (s.clk.frame + frameBase s.clk.rate, x) ∧
          (∀ y, s.budget.peerTier = some y → x ≤ y)))) ∧
    -- REGULATOR_TIMEOUT
    (s.running = true → Completes .regulatorTimeout s (fun t => t.budget = { s.budget with regFault := true } ∧
      fld (t.rd (Reg.faultCause Budget.page)) 7 0 = 0x80 ∧ bit (t.rd (Reg.irqStatus Budget.page)) 3 = true ∧
      (∀ v, Budget.setV t v = t))) ∧
    -- DOMAIN_TRANSITION_DONE
    (s.running = true → ∀ new, s.budget.transition = some new → Completes .domainTransitionDone s (fun t =>
      t.budget.domains = new ∧ t.budget.transition = none ∧ bit (t.rd (Reg.irqStatus 6)) 4 = true ∧
      ((new.testBit 10 = true → s.budget.domains.testBit 10 = true) → ∀ a d, d = pageDomain (a / 0x1000) → a ≠ Reg.irqStatus 6 →
        (s.budget.domains.testBit d ≠ new.testBit d → t.rd a = regReset s.variant a ∧ t.ef a = regReset s.variant a) ∧
        (s.budget.domains.testBit d = new.testBit d → t.rd a = s.rd a ∧ t.ef a = s.ef a)))) ∧
    -- STANDBY_ENTER
    (s.pageUp 6 = true →
      (fld (s.ef Reg.stakeRenderRate) 2 0 ≠ 0 ∨ s.clk.ticking = true → Completes .standbyEnter s (fun t =>
        fld (t.rd (Reg.faultCause 6)) 7 0 = 0x86 ∧ t.budget = s.budget ∧ t.hoop = { s.hoop with sent := [] })) ∧
      (fld (s.ef Reg.stakeRenderRate) 2 0 = 0 → s.clk.ticking = false → Completes .standbyEnter s (fun t =>
        t.budget.standby = true ∧ t.budget.domains = 1 ∧ t.hoop.claim = false ∧ t.hoop.enables = false ∧ t.memc.sr = 255 ∧
        t.clk.ticking = false ∧ t.budget.wakeDue =
          (if fld (s.rd Reg.budgetStandby) 23 12 = 0 then none else some (s.clk.aon + fld (s.rd Reg.budgetStandby) 23 12 * secU))))) ∧
    -- WAKE_SPI, WAKE_GPIO, STANDBY_TIMER_EXPIRY
    (∀ e : StartEnv,
      (s.budget.standby = true → s.jtag.held = false →
        Completes (.wakeSpi e) s (fun t => ∃ u, u = (s.begin.resetTo 3) ∧ u.budget.standby = false ∧
          t = Boot.begin { u with boot := { u.boot with env := e } } 2) ∧
        (∀ pin, pin < 8 → bit (s.rd Reg.budgetStandby) 1 = true → fld (s.rd Reg.budgetStandby) 11 7 = pin →
          Completes (.wakeGpio pin e) s (fun t => ∃ u, u = (s.begin.resetTo 3) ∧
            t = Boot.begin { u with boot := { u.boot with env := e } } 2)) ∧
        (∀ x, s.budget.wakeDue = some x → Completes (.standbyTimerExpiry e) s (fun t => ∃ u, u = ((s.begin.toAon x).resetTo 3) ∧
          t = Boot.begin { u with boot := { u.boot with env := e } } 2))) ∧
      (s.budget.standby = false → Completes (.wakeSpi e) s (fun t => t = s.begin) ∧
        (∀ pin, Completes (.wakeGpio pin e) s (fun t => t = s.begin)) ∧ Completes (.standbyTimerExpiry e) s (fun t => t = s.begin)))) ∧
  -- the decision of R279
  (∀ (s : State) (a cap m limit n sum : Nat) (slack : Option Nat) (tj : Int), m = min cap (s.efF Reg.budgetTierMax 1 0) →
    limit = s.efF Reg.budgetPowerLimit 15 0 → n = s.budget.powers.length → sum = s.budget.powers.sum →
    tj = (s.efF Reg.budgetTjLimit 15 0 : Nat) →
    (limit * n < sum → Budget.tierFor s a cap slack = (min a m - 1, 1)) ∧
    (sum ≤ limit * n → tj < s.budget.tj → Budget.tierFor s a cap slack = (min a m - 1, 2)) ∧
    (∀ x, slack = some x → s.efF Reg.budgetSlackTargetNs 10 0 ≤ x → sum ≤ limit * n → s.budget.tj ≤ tj →
      (m < a → (Budget.tierFor s a cap slack).1 = m) ∧
      (a < m → 100 * sum ≤ 95 * limit * n → s.budget.tj ≤ tj - (s.efF Reg.budgetTjLimit 31 16 : Nat) → s.budget.holdoff = 0 →
        Budget.tierFor s a cap slack = (a + 1, 0)) ∧
      (a ≤ m → s.budget.holdoff ≠ 0 ∨ a = m → Budget.tierFor s a cap slack = (a, 0))))

/-- The rows of the power stage. `x` is the channel's state before the command. -/
def Obligations.StageCommandsAct : Prop :=
  ∀ s : State, s.running = true →
    (∀ c x, x = Pstg.ch s c →
      -- OVER_CURRENT, in the switching cycle `k`
      (x.switching = true → s.enablesOpen = true → ∀ k run,
        k = x.cycle (Tab.get (fun _ => ({} : Carrier)) s.pstg.carr (c / 8)) (c % 8) s.clk.rate
          (((s.clk.mono - x.mod.since) * Pstg.edgeRate s.clk.rate) / (1000000000 * nsU)) →
        (0 < x.ocRun ∧ k = x.ocCycle ∧ run = x.ocRun) ∨ (0 < x.ocRun ∧ k = x.ocCycle + 1 ∧ run = x.ocRun + 1) ∨
          ((x.ocRun = 0 ∨ (k ≠ x.ocCycle ∧ k ≠ x.ocCycle + 1)) ∧ run = 1) →
        (x.state = 2 → run < 4 → Completes (.overCurrent c) s (fun t => Pstg.ch t c = Pstg.limited s c x k run ∧
          t = { s.begin with pstg := { s.pstg with ch := t.pstg.ch } } ∧ ∀ d, d ≠ c → Pstg.ch t d = Pstg.ch s d)) ∧
        (x.state = 2 → 4 ≤ run → c < s.variant.psChannels → Completes (.overCurrent c) s (fun t =>
          Pstg.ch t c = { (Pstg.limited s c x k 0).resting with
            latched := true, cause := 1, latchAt := s.clk.mono, rechecks := 0, tries := 0 } ∧
          (Lsup.ch t c).change = some (4, s.clk.mono) ∧ bit (t.rd (Reg.irqStatus (Pstg.pageOf (c / 8)))) 0 = true ∧
          fld (t.rd (Reg.faultCause (Pstg.pageOf (c / 8)))) 7 0 = 0x80 ∧ ∀ d, d ≠ c → Pstg.ch t d = Pstg.ch s d)) ∧
        (x.state = 3 → Completes (.overCurrent c) s (fun t =>
          Pstg.ch t c = { Pstg.limited s c x k run with state := 0, ramp := {}, locked := false } ∧
          (Lsup.ch t c).change = some (4, s.clk.mono) ∧ bit (t.rd (Reg.irqStatus (Pstg.pageOf (c / 8)))) 0 = true ∧
          fld (t.rd (Reg.faultCause (Pstg.pageOf (c / 8)))) 7 0 = 0x85 ∧ ∀ d, d ≠ c → Pstg.ch t d = Pstg.ch s d))) ∧
      (x.switching = false ∨ s.enablesOpen = false → Completes (.overCurrent c) s (fun t => t = s.begin)) ∧
      -- SHORT, LOOP_FAULT
      (∀ cmd cause code i,
          (cmd = .short c ∧ c < s.variant.psChannels ∧ s.enablesOpen = true ∧ x.state ≠ 0 ∧ x.state ≠ 3 ∧ cause = 1 ∧ code = 0x80 ∧ i = 0) ∨
          (cmd = .loopFault c ∧ x.state = 2 ∧ x.mode = 2 ∧ cause = 3 ∧ code = 0x82 ∧ i = 2) →
        Completes cmd s (fun t =>
          Pstg.ch t c = { x.resting with latched := true, cause := cause, latchAt := s.clk.mono, rechecks := 0, tries := 0 } ∧
          (Lsup.ch t c).change = some (4, s.clk.mono) ∧ bit (t.rd (Reg.irqStatus (Pstg.pageOf (c / 8)))) i = true ∧
          fld (t.rd (Reg.faultCause (Pstg.pageOf (c / 8)))) 7 0 = code ∧ (∀ d, d ≠ c → Pstg.ch t d = Pstg.ch s d ∧ Lsup.ch t d = Lsup.ch s d))) ∧
      (x.state = 3 → c < s.variant.psChannels → s.enablesOpen = true → Completes (.short c) s (fun t =>
        Pstg.ch t c = { x with state := 0, ramp := {}, locked := false } ∧ (Lsup.ch t c).change = some (4, s.clk.mono) ∧
        bit (t.rd (Reg.irqStatus (Pstg.pageOf (c / 8)))) 0 = true ∧ fld (t.rd (Reg.faultCause (Pstg.pageOf (c / 8)))) 7 0 = 0x85 ∧
        (∀ d, d ≠ c → Pstg.ch t d = Pstg.ch s d ∧ Lsup.ch t d = Lsup.ch s d))) ∧
      (x.state = 0 ∨ s.variant.psChannels ≤ c ∨ s.enablesOpen = false → Completes (.short c) s (fun t => t = s.begin)) ∧
      (x.state ≠ 2 ∨ x.mode ≠ 2 → Completes (.loopFault c) s (fun t => t = s.begin)) ∧
      -- RECHECK_START, RECHECK_COMMAND
      (∀ ms, ms = Pstg.recheckMs s c → ms ≠ 0 → Pstg.canRecheck s c = true → Completes (.recheckStart c) s (fun t =>
        ∃ k, x.rechecks < k ∧ s.clk.mono ≤ x.latchAt + k * ms * msU ∧
          (∀ j, x.rechecks < j → s.clk.mono ≤ x.latchAt + j * ms * msU → k ≤ j) ∧ t.clk.mono = x.latchAt + k * ms * msU ∧
          Pstg.ch t c = Pstg.rechecking s c (t.clk.mono + 300 * msU) { x with rechecks := k } ∧ (Lsup.ch t c).recheck = [])) ∧
      (Pstg.recheckMs s c = 0 ∨ Pstg.canRecheck s c = false → Completes (.recheckStart c) s (fun t => t = s.begin)) ∧
      (s.pageUp (Pstg.pageOf (c / 8)) = true →
        (Pstg.canRecheck s c = true → Completes (.recheckCommand c) s (fun t =>
          Pstg.ch t c = Pstg.rechecking s c (s.clk.mono + 300 * msU) x ∧ (Lsup.ch t c).recheck = [] ∧ t.clk = s.clk)) ∧
        (Pstg.canRecheck s c = false → Completes (.recheckCommand c) s (fun t => t = s.begin))) ∧
      -- RECHECK_END
      (x.state = 3 → ∀ v pass y : Prop, (v ↔ (Lsup.ch s c).recheck.length = 3 ∧ ∀ r ∈ (Lsup.ch s c).recheck, r = 1 ∨ r = 2) →
        (pass ↔ ((x.cause = 3 ∧ x.tries = 1) ∨ v) ∧ Pstg.modeOk s c = true) →
        (y ↔ Pstg.mayStart (Pstg.setCh s c { x with latched := false, cause := 0 }) c) →
        (pass → y → Completes (.recheckEnd c) s (fun t =>
          t.clk.mono = max s.clk.mono x.recheckEnd ∧ bit (t.rd (Reg.irqStatus (Pstg.pageOf (c / 8)))) 4 = true ∧
          Pstg.ch t c = { x with latched := false, cause := 0, state := 1, stopTo := 0, ramp := {}, locked := false, lockRun := 0,
                                 startDue := some (t.clk.mono + msU) })) ∧
        (pass → ¬y → Completes (.recheckEnd c) s (fun t =>
          t.clk.mono = max s.clk.mono x.recheckEnd ∧ bit (t.rd (Reg.irqStatus (Pstg.pageOf (c / 8)))) 4 = true ∧
          Pstg.ch t c = { x.resting with latched := false, cause := 0 })) ∧
        (¬pass → Completes (.recheckEnd c) s (fun t =>
          t.clk.mono = max s.clk.mono x.recheckEnd ∧ fld (t.rd (Reg.faultCause (Pstg.pageOf (c / 8)))) 7 0 = 0x85 ∧
          Pstg.ch t c = { x with state := 0, ramp := {} }))) ∧
      -- CHANNEL_START, CHANNEL_RAMP_DOWN_DONE
      (∀ d h tl, x.startDue = some d → x.state = 1 → s.pstg.muted = false → Pstg.modeOk s c = true →
        Completes (.channelStart c h tl) s (fun t =>
          t.clk.mono = max s.clk.mono d ∧ ∃ y, y = Pstg.ch t c ∧ y.state = 2 ∧ y.startDue = none ∧ y.mode = Pstg.cfgMode s c ∧
            y.early = Pstg.cfgEarly s c ∧ y.lowLat = Pstg.cfgLowLat s c ∧ y.dead = Pstg.cfgDead s c ∧
            y.vfs = Ramp.const (Pstg.cfgVfs s c : Nat) ∧ y.latched = x.latched ∧ y.mod = x.mod.started (y.mode == 2) ∧
            y.ramp = ({} : Ramp).aim s.clk.nextTick (s.clk.nextTick + s.ms (Pstg.rampMs s c)) one30 ∧
            (y.mode = 2 → y.h = h % 2 ^ 31 ∧ y.tLoop = tl % 65536 ∧ y.locked = true) ∧
            (y.mode ≠ 2 → y.h = 0 ∧ y.tLoop = 0 ∧ y.locked = false))) ∧
      (x.state = 2 → x.ramp.h ≤ s.clk.frame →
        (x.stopTo = 1 → Pstg.mayStart s c → Completes (.channelRampDownDone c) s (fun t =>
          Pstg.ch t c = { x with state := 1, stopTo := 0, ramp := {}, locked := false, lockRun := 0
                                 startDue := some (s.clk.mono + msU) })) ∧
        (x.stopTo ≠ 0 → x.stopTo ≠ 1 → Pstg.mayStart s c → Completes (.channelRampDownDone c) s (fun t =>
          Pstg.ch t c = { x.resting with state := 1, startDue := some (s.clk.mono + msU) })) ∧
        (x.stopTo ≠ 0 → ¬Pstg.mayStart s c → Completes (.channelRampDownDone c) s (fun t => Pstg.ch t c = x.resting)))) ∧
    -- DRIVER_FAULT, DRIVER_FAULT_RECOVERY
    (∀ g, g < Pstg.groups s →
      (s.pageUp (Pstg.pageOf g) = true → s.enablesOpen = true → g ∉ s.pstg.drvFault → Completes (.driverFault g) s (fun t =>
        t.pstg.drvFault = s.pstg.drvFault ++ [g] ∧ Pstg.bridge t g = false ∧ bit (t.rd (Reg.irqStatus (Pstg.pageOf g))) 1 = true ∧
        ((∀ c, c / 8 = g → (Pstg.ch s c).state ≠ 3) → fld (t.rd (Reg.faultCause (Pstg.pageOf g))) 7 0 = 0x81) ∧
        ((∃ c, c / 8 = g ∧ (Pstg.ch s c).state = 3) → fld (t.rd (Reg.faultCause (Pstg.pageOf g))) 7 0 = 0x85) ∧
        ∀ c x, x = Pstg.ch s c →
          (c / 8 = g → (Lsup.ch t c).change = some (4, s.clk.mono)) ∧
          (c / 8 = g → x.state ≠ 0 →
            Pstg.ch t c = { x.resting with latched := true, cause := 2, latchAt := s.clk.mono, rechecks := 0, tries := 0 }) ∧
          (c / 8 ≠ g ∨ x.state = 0 → Pstg.ch t c = x) ∧ (c / 8 ≠ g → Lsup.ch t c = Lsup.ch s c))) ∧
      (g ∈ s.pstg.drvFault → Completes (.driverFaultRecovery g) s (fun t =>
        ∃ u, u = { s.begin with pstg := { s.pstg with drvFault := s.pstg.drvFault.filter (· != g) } } ∧
          t.pstg.drvFault = u.pstg.drvFault ∧ g ∉ t.pstg.drvFault ∧
          ∀ c x, x = Pstg.ch s c →
            (c / 8 = g → Pstg.canRecheck u c = true → Pstg.ch t c = Pstg.rechecking s c (s.clk.mono + 300 * msU) x) ∧
            (c / 8 ≠ g ∨ Pstg.canRecheck u c = false → Pstg.ch t c = x)))) ∧
    -- CLOCK_ERROR, CLOCK_RECOVERY
    Completes .clockError s (fun t => t.pstg.muted = true ∧ t.pstg.muteKind = s.pstg.muteKind ||| 1 ∧
      (∀ g, g < Pstg.groups s → bit (t.rd (Reg.irqStatus (Pstg.pageOf g))) 3 = true ∧
        fld (t.rd (Reg.faultCause (Pstg.pageOf g))) 7 0 = 0x83) ∧
      (∀ c x, x = Pstg.ch s c → c < s.variant.psChannels →
        (x.state = 0 → Pstg.ch t c = x) ∧ (x.state = 3 → Pstg.ch t c = { x with state := 0, ramp := {}, redo := true }) ∧
        (x.state = 1 ∨ x.state = 2 → (Pstg.ch t c).state = 1 ∧ (Pstg.ch t c).startDue = none ∧ (Pstg.ch t c).latched = x.latched))) ∧
    (∀ k, k = s.pstg.muteKind &&& 6 →
      (k = s.pstg.muteKind → Completes .clockRecovery s (fun t => t = s.begin)) ∧
      (k ≠ s.pstg.muteKind → k ≠ 0 → Completes .clockRecovery s (fun t => t = { s.begin with pstg := { s.pstg with muteKind := k } })) ∧
      (k ≠ s.pstg.muteKind → k = 0 → Completes .clockRecovery s (fun t => t.pstg.muted = false ∧ t.pstg.muteKind = 0 ∧
        ∃ u, u = { s.begin with pstg := { s.pstg with muted := false, muteKind := 0 } } ∧
          ∀ c x, x = Pstg.ch s c → c < s.variant.psChannels →
            (x.state = 1 → x.startDue = none →
              (Pstg.mayStart u c → (Pstg.ch t c).state = 1 ∧ (Pstg.ch t c).startDue = some (s.clk.mono + msU)) ∧
              (¬Pstg.mayStart u c → Pstg.ch t c = x.resting)) ∧
            (x.redo = true → Pstg.canRecheck u c = true → Pstg.ch t c = Pstg.rechecking s c (s.clk.mono + 300 * msU) x))))

/-- The rows of load supervision. `x` is the channel's supervision state before the command. Verdicts: 1 OK, 2 DRIFT, 3 OPEN, 4
SHORT. -/
def Obligations.SupervisionCommandsAct : Prop :=
  ∀ s : State, s.running = true → ∀ c x, x = Lsup.ch s c →
    -- LSUP_WINDOW_END
    (∀ z ovl v, v = (if ovl then 0 else Lsup.verdict s c (Lsup.winM s.clk.rate) z) →
      (Lsup.reads s c = false → Completes (.lsupWindowEnd c z ovl) s (fun t => t = s.begin)) ∧
      (Lsup.reads s c = true → Completes (.lsupWindowEnd c z ovl) s (fun t => ∃ y, y = Lsup.ch t c ∧
        y.reading = v ∧ y.confirmed = x.confirmed ∧ (v = 0 → y.run = []) ∧ (v ≠ 0 → y.run = (v :: x.run).take 3) ∧
        ((Pstg.ch s c).state = 3 → y.recheck = x.recheck ++ [v]) ∧ (∀ d, d ≠ c → Lsup.ch t d = Lsup.ch s d) ∧ t.pstg = s.pstg ∧
        (∀ cur, cur = (match x.change with | some w => w.1 | none => x.confirmed) →
          (∀ v1 v2 rest, x.run = v1 :: v2 :: rest → v1 ≠ 0 → v2 ≠ 0 →
            (v = 3 ∨ v = 4 → v1 = v → v2 = v → cur ≠ v → y.change = some (v, s.clk.mono + 100 * usU)) ∧
            (v = 1 ∨ v = 2 → cur = 3 ∨ cur = 4 → v1 = 1 ∨ v1 = 2 → v2 = 1 ∨ v2 = 2 → y.change = some (v, s.clk.mono + 100 * usU)) ∧
            (v = 1 ∨ v = 2 → cur < 3 → v1 = v → v2 = v → cur ≠ v → y.change = some (v, s.clk.mono + 100 * usU))) ∧
          (v = 0 ∨ x.run.length < 2 ∨ cur = v ∨ (v = 3 ∨ v = 4) ∧ x.run.take 2 ≠ [v, v] ∨
              (v = 1 ∨ v = 2) ∧ cur < 3 ∧ x.run.take 2 ≠ [v, v] ∨ (v = 1 ∨ v = 2) ∧ (∃ r ∈ x.run.take 2, 3 ≤ r) →
            y.change = x.change)) ∧
        (x.capture = none → y.capture = none ∧ t.lsup.busy = s.lsup.busy ∧ (∀ a, t.rd a = s.rd a ∧ t.ld8 a = s.ld8 a)) ∧
        (∀ l, x.capture = some l →
          (v = 0 ∨ 3 ≤ v → y.capture = none ∧ t.lsup.busy = none ∧ t.lsup.failed = true ∧
            fld (t.rd (Reg.faultCause Lsup.page)) 7 0 = 0x80 ∧ bit (t.rd (Reg.irqStatus Lsup.page)) 5 = true ∧
            bit (t.rd (Reg.irqStatus Lsup.page)) 6 = true ∧ (∀ a, t.ld8 a = s.ld8 a)) ∧
          (v = 1 ∨ v = 2 → l.length < 9 → y.capture = some (l ++ [z]) ∧ (∀ a, t.rd a = s.rd a ∧ t.ld8 a = s.ld8 a)) ∧
          (v = 1 ∨ v = 2 → 9 ≤ l.length → y.capture = none ∧ t.lsup.busy = none ∧ t.lsup.failed = false ∧
            Lsup.baseValid t c = true ∧ bit (t.rd (Reg.irqStatus Lsup.page)) 5 = true ∧
            w32 (Lsup.baseMag t c) = w32 (Lsup.mean (l ++ [z]) (Lsup.winM s.clk.rate) (Lsup.vScale s c) (Lsup.iScale s c)).1 ∧
            (∀ a, a < Lsup.chWin c ∨ Lsup.chWin c + 8 ≤ a → t.ld8 a = s.ld8 a)))))) ∧
    -- VERDICT_CHANGE
    (x.change = none → Completes (.verdictChange c) s (fun t => t = s.begin)) ∧
    (∀ v d, x.change = some (v, d) →
      (s.clk.tickMono < d → Completes (.verdictChange c) s (fun t => t = s.begin)) ∧
      (d ≤ s.clk.tickMono → Completes (.verdictChange c) s (fun t => ∃ u, u = Lsup.setCh s.begin c { x with confirmed := v, change := none } ∧
        t.lsup = u.lsup ∧ Lsup.ch t c = { x with confirmed := v, change := none } ∧ (v ≠ x.confirmed → bit (t.rd (Reg.irqStatus Lsup.page)) 0 = true) ∧
        (v = 2 → x.confirmed ≠ 2 → bit (t.rd (Reg.irqStatus Lsup.page)) 2 = true) ∧
        (3 ≤ v → v ≠ x.confirmed → fld (t.rd (Reg.faultCause Lsup.page)) 7 0 = 0x83) ∧ t.scene.lsupUnavail = Lsup.report u ∧
        (Lsup.report u = s.scene.lsupUnavail → t.scene = s.scene) ∧
        (Lsup.report u ≠ s.scene.lsupUnavail → bit (t.rd (Reg.irqStatus Lsup.page)) 1 = true ∧
          ((∃ j, j < 512 ∧ Scene.unavailable s j ≠ Scene.unavailable { u with scene := t.scene } j) →
            t.scene.healPending = true))))) ∧
    -- BASELINE_CAPTURE, AC_BASELINE_TEST, AC_TEST_COMMAND, CLEAR_BASELINES
    (s.pageUp Lsup.page = true → c < 64 → s.variant.psChannels ≤ c → ∀ cmd, cmd = .baselineCapture c ∨ cmd = .acBaselineTest c ∨
        cmd = .acTestCommand c ∨ cmd = .clearBaselines c → Completes cmd s (fun t => t = s.begin)) ∧
    (s.pageUp Lsup.page = true → c < s.variant.psChannels →
      (s.lsup.busy.isSome = true → ∀ cmd, cmd = .baselineCapture c ∨ cmd = .acBaselineTest c ∨ cmd = .acTestCommand c ∨
          cmd = .clearBaselines c →
        Completes cmd s (fun t => fld (t.rd (Reg.faultCause Lsup.page)) 7 0 = 0x82 ∧ t.lsup = s.lsup ∧ (∀ a, t.ld8 a = s.ld8 a))) ∧
      (s.lsup.busy = none →
        Completes (.baselineCapture c) s (fun t => t.lsup.busy = some c ∧ Lsup.ch t c = { x with capture := some [] } ∧
          ∀ d, d ≠ c → Lsup.ch t d = Lsup.ch s d) ∧
        (∀ cmd kind, (cmd = .acBaselineTest c ∧ kind = 3) ∨ (cmd = .acTestCommand c ∧ kind = 2) →
          (Lsup.acOk s c = true → x.ac = 0 → s.isStandby = false → Completes cmd s (fun t => t.lsup.busy = some c ∧
            Lsup.ch t c = { x with ac := kind, points := [] } ∧ ∀ d, d ≠ c → Lsup.ch t d = Lsup.ch s d)) ∧
          (Lsup.acOk s c = false ∨ x.ac ≠ 0 ∨ s.isStandby = true → Completes cmd s (fun t => fld (t.rd (Reg.faultCause Lsup.page)) 7 0 = 0x82 ∧
            t.lsup = s.lsup))) ∧
        Completes (.clearBaselines c) s (fun t => Lsup.baseValid t c = false ∧ Lsup.acBaseValid t c = false ∧ t.lsup.failed = false ∧
          bit (t.rd (Reg.irqStatus Lsup.page)) 5 = true ∧
          (∀ a, a < Lsup.chWin c ∨ Lsup.chWin c + 0x110 ≤ a → t.ld8 a = s.ld8 a)))) ∧
    -- AC_TEST_SILENCE_START, AC_TEST_FIRST_START
    (∀ t0, (Pstg.ch s c).silentSince = some t0 → s.unitOn Lsup.page = true → Lsup.acOk s c = true → x.ac = 0 → s.isStandby = false →
      (s.efB Reg.lsupAcCtrl 1 = true → t0 + 2 * secU ≤ s.clk.mono →
        (∀ e, x.lastTest = some e → e + s.efF Reg.lsupAcCtrl 31 16 * secU ≤ s.clk.mono) →
        Completes (.acTestSilenceStart c) s (fun t => t = Lsup.setCh (Pstg.setCh s.begin c
          { Pstg.ch s c with mod := { (Pstg.ch s c).mod with stim := some (0, 0) } }) c { x with ac := 1, points := [] })) ∧
      (s.efB Reg.lsupAcCtrl 0 = true → t0 ≤ s.clk.mono → x.startTest = false → (Pstg.ch s c).started = true →
        (Pstg.ch s c).ramp.at s.clk.frame = one30 → Completes (.acTestFirstStart c) s (fun t =>
          Pstg.ch t c = { Pstg.ch s c with mod := { (Pstg.ch s c).mod with stim := some (0, 0) } } ∧ (∀ d, d ≠ c → Lsup.ch t d = Lsup.ch s d) ∧
          Lsup.ch t c = { x with startTest := true, ac := 1, points := [] }))) ∧
    (s.unitOn Lsup.page = false ∨ Lsup.acOk s c = false ∨ x.ac ≠ 0 ∨ s.isStandby = true ∨ (Pstg.ch s c).silentSince = none →
      Completes (.acTestSilenceStart c) s (fun t => t = s.begin) ∧ Completes (.acTestFirstStart c) s (fun t => t = s.begin)) ∧
    -- AC_POINT_END, AC_TEST_END, AC_TEST_ABORT
    (x.ac ≠ 0 → x.points.length < 32 → ((Pstg.ch s c).state = 2 → ∀ z, Completes (.acPointEnd c z) s (fun t =>
        t = Lsup.setCh s.begin c { x with points := x.points ++ [Lsup.value s c (Lsup.pointM s.clk.rate) z] })) ∧
      Completes (.acTestEnd c) s (fun t => t = s.begin)) ∧
    (x.ac ≠ 0 → x.points.length = 32 → Completes (.acTestEnd c) s (fun t =>
      ∃ v, v = Lsup.acResult s c x.points ∧ (Lsup.acBaseValid s c = false → v = 4) ∧
        Lsup.ch t c = { x with ac := 0, points := [], acVerdict := v, curve := x.points.map (fun p => p.getD (0, 0)),
                               lastTest := some s.clk.mono } ∧
        bit (t.rd (Reg.irqStatus Lsup.page)) 3 = true ∧ (v = 2 ∨ v = 3 → bit (t.rd (Reg.irqStatus Lsup.page)) 4 = true) ∧
        (x.ac = 3 → Lsup.acBaseValid t c = true ∧ ∀ k p, x.points[k]? = some (some p) → (Lsup.acBase t c k).1 = p.1 % 2 ^ 32) ∧
        (x.ac ≠ 3 → ∀ a, t.ld8 a = s.ld8 a) ∧ (2 ≤ x.ac → t.lsup.busy = none ∧ t.lsup.failed = false))) ∧
    (x.ac ≠ 0 → (Pstg.ch s c).state ≠ 2 ∨ x.ac = 1 ∧ ((Pstg.ch s c).locked = false ∨ (Pstg.ch s c).silentSince = none) →
      Completes (.acTestAbort c) s (fun t => Lsup.ch t c = { x with ac := 0, points := [], acVerdict := 5 } ∧
        fld (t.rd (Reg.faultCause Lsup.page)) 7 0 = 0x81 ∧ t.rd Reg.lsupAbortCount = satAdd (s.rd Reg.lsupAbortCount) 1 ∧
        bit (t.rd (Reg.irqStatus Lsup.page)) 3 = true ∧ (2 ≤ x.ac → t.lsup.busy = none ∧ t.lsup.failed = true)))

/-- The rows that move a port's directions: `tx` names the transmitter. Clock states: 0 stopped, 1 lead-in, 2 running, 3 lead-out. -/
def Obligations.PortDirectionsAct : Prop :=
  ∀ s : State, s.running = true → ∀ p, Port.kind p ≠ 0 →
    (∀ tx d code own, d = (Port.pg s p).dir tx →
      -- PORT_START
      (code = (if Port.rateField s p tx = 0 then s.clk.rate else Port.rateField s p tx) →
        own = (if Port.kind p = 1 then bit (s.ef (Port.reg p 0x40)) 3 else tx) →
        (d.state = 0 → Port.isOn s p tx = true → Port.madiInactive s p tx = false →
          (own = true → code = 0 → Completes (.portStart p tx) s (fun t => t = s.begin)) ∧
          (own = false ∨ code ≠ 0 → Completes (.portStart p tx) s (fun t =>
            t = { s.begin with port := { s.port with pages := t.port.pages } } ∧ (∀ q, q ≠ p → Port.pg t q = Port.pg s q) ∧
            (Port.kind p = 1 → (Port.pg t p).fmt = s.ef (Port.reg p 0x40) ∧ (Port.pg t p).rate = Port.rateField s p tx ∧
              (Port.pg t p).rx.mask = s.efF (Port.reg p 0x48) 15 0 ∧ (Port.pg t p).tx.mask = s.efF (Port.reg p 0x4C) 15 0) ∧
            (Port.kind p ≠ 1 → (Port.pg t p).dir (!tx) = (Port.pg s p).dir (!tx)) ∧
            ∀ u, u = tx ∨ Port.kind p = 1 → ∃ e, e = (Port.pg t p).dir u ∧ e.stopping = false ∧ e.toSet = [] ∧ e.toClear = [] ∧
              (own = true ∨ (Port.pg s p).locked = true → e.state = 1 ∧ e.waitLock = false ∧ e.leadAt = Port.frameStart s code ∧
                e.frames = 0 ∧ e.fade = []) ∧
              (own = false → (Port.pg s p).locked = false → e.state = ((Port.pg s p).dir u).state ∧ e.waitLock = true)))) ∧
        (d.state ≠ 0 ∨ Port.isOn s p tx = false ∨ Port.madiInactive s p tx = true → Completes (.portStart p tx) s (fun t => t = s.begin))) ∧
      -- LEADIN_END
      (∀ cnt r, cnt = s.efF (Port.reg p 0x50) 15 0 → r = (if d.rateLead then s.ms 20 else Port.rampFrames s p) → d.state = 1 →
        (Port.ownClock (Port.pg s p) p tx = false → d.frames < cnt → Completes (.leadinEnd p tx) s (fun t => t = s.begin)) ∧
        (Port.ownClock (Port.pg s p) p tx = true ∨ cnt ≤ d.frames → Completes (.leadinEnd p tx) s (fun t =>
          (Port.ownClock (Port.pg s p) p tx = true →
            t.clk.stake = max s.clk.stake (d.leadAt + cdiv (cnt * secU) (rateHz (Port.rateCode s p tx)))) ∧
          (Port.ownClock (Port.pg s p) p tx = false → t.clk = s.clk) ∧
          ∀ u, u = tx ∨ Port.kind p = 1 → ((Port.pg t p).dir u).state = 2 ∧ ∀ k, k < Port.chans p →
            Tab.get (fun _ => {}) ((Port.pg t p).dir u).fade k =
              (Tab.get (fun _ => ({} : Ramp)) ((Port.pg s p).dir u).fade k).aim s.clk.frame (s.clk.frame + r) one30))) ∧
      (d.state ≠ 1 → Completes (.leadinEnd p tx) s (fun t => t = s.begin)) ∧
      -- PORT_STOP
      (Port.isOn s p tx = true → Completes (.portStop p tx) s (fun t => t = s.begin)) ∧
      (Port.isOn s p tx = false → Completes (.portStop p tx) s (fun t => (∀ q, q ≠ p → Port.pg t q = Port.pg s q) ∧
        ∀ u e, u = tx ∨ Port.kind p = 1 → e = (Port.pg s p).dir u →
          (e.state = 0 → (Port.pg t p).dir u = { e with waitLock := false }) ∧
          (e.state ≠ 0 → e.stopping = true → (Port.pg t p).dir u = e) ∧
          (e.state ≠ 0 → e.stopping = false → ((Port.pg t p).dir u).stopping = true ∧ ((Port.pg t p).dir u).state = e.state ∧
            ∀ k, k < Port.chans p → Tab.get (fun _ => {}) ((Port.pg t p).dir u).fade k =
              (Tab.get (fun _ => ({} : Ramp)) e.fade k).aim s.clk.frame (s.clk.frame + Port.rampFrames s p) 0))) ∧
      -- PORT_FADE_END, LEADOUT_END
      (d.stopping = true → d.state ≠ 3 → (∀ e ∈ d.fade, e.2.h ≤ s.clk.frame) → Completes (.portFadeEnd p tx) s (fun t =>
        ∀ u, u = tx ∨ Port.kind p = 1 → (Port.pg t p).dir u = { (Port.pg s p).dir u with
          state := 3, leadAt := Port.frameStart s (Port.rateCode s p tx), frames := 0 })) ∧
      (d.stopping = false ∨ d.state = 3 ∨ (∃ e ∈ d.fade, s.clk.frame < e.2.h) → Completes (.portFadeEnd p tx) s (fun t => t = s.begin)) ∧
      (d.state = 3 → d.rateLead = false → Completes (.leadoutEnd p tx) s (fun t =>
        t.clk.stake = max s.clk.stake (d.leadAt + cdiv (s.efF (Port.reg p 0x50) 31 16 * secU) (rateHz (Port.rateCode s p tx))) ∧
        (tx = true ∨ Port.kind p = 1 → (Port.pg t p).outReg = [] ∧ (Port.pg t p).outStd = [] ∧ (Port.pg t p).outPin = []) ∧
        ∀ u, u = tx ∨ Port.kind p = 1 → ((Port.pg t p).dir u).state = 0 ∧ ((Port.pg t p).dir u).stopping = false ∧
          ((Port.pg t p).dir u).fade = [])) ∧
      (d.state ≠ 3 ∨ d.rateLead = true → Completes (.leadoutEnd p tx) s (fun t => t = s.begin)) ∧
      -- MASK_CHANGE_APPLY
      (Port.kind p ≠ 1 → Completes (.maskChangeApply p tx) s (fun t => t = s.begin)) ∧
      (Port.kind p = 1 → Completes (.maskChangeApply p tx) s (fun t => (∀ q, q ≠ p → Port.pg t q = Port.pg s q) ∧
        (Port.pg t p).dir (!tx) = (Port.pg s p).dir (!tx) ∧ ∃ e, e = (Port.pg t p).dir tx ∧ e.state = d.state ∧ ∀ k, k < 16 →
          ((∃ x ∈ d.toSet, x.1 = k ∧ x.2 ≤ s.clk.stake) → e.mask.testBit k = true ∧ (∀ x ∈ e.toSet, x.1 ≠ k) ∧
            (d.state = 2 → d.stopping = false → Tab.get (fun _ => {}) e.fade k =
              { v0 := 0, v1 := one30, s := s.clk.frame, h := s.clk.frame + Port.rampFrames s p })) ∧
          ((∀ x ∈ d.toSet, x.1 = k → s.clk.stake < x.2) → Tab.get (fun _ => ({} : Ramp)) e.fade k = Tab.get (fun _ => {}) d.fade k ∧
            ((∃ x ∈ d.toClear, x.1 = k ∧ x.2 ≤ s.clk.stake) → (Tab.get (fun _ => ({} : Ramp)) d.fade k).h ≤ s.clk.frame →
              e.mask.testBit k = false) ∧
            ((∀ x ∈ d.toClear, x.1 = k → s.clk.stake < x.2) ∨ s.clk.frame < (Tab.get (fun _ => ({} : Ramp)) d.fade k).h →
              e.mask.testBit k = d.mask.testBit k))))) ∧
    -- RECEIVER_LOCK, RECEIVER_LOCK_LOSS
    (∀ x, x = Port.pg s p →
      (Port.receiver s p = false ∨ x.locked = true → Completes (.receiverLock p) s (fun t => t = s.begin)) ∧
      (Port.receiver s p = true → x.locked = false → Completes (.receiverLock p) s (fun t =>
        (Port.pg t p).locked = true ∧ (Port.pg t p).group = 0 ∧ bit (t.rd (Reg.irqStatus p)) 1 = true ∧
        (∀ q, q ≠ p → Port.pg t q = Port.pg s q) ∧
        (x.rx.waitLock = true → (Port.pg t p).rx.state = 1 ∧ (Port.pg t p).rx.waitLock = false ∧
          (Port.pg t p).rx.leadAt = Port.frameStart s (Port.rateCode s p false)) ∧
        (x.rx.waitLock = false → x.rx.state ≠ 2 ∨ x.rx.stopping = true → (Port.pg t p).rx = x.rx ∧ (Port.pg t p).tx = x.tx) ∧
        (x.rx.waitLock = false → x.rx.state = 2 → x.rx.stopping = false → (Port.pg t p).rx.state = 2 ∧ ∀ k, k < Port.chans p →
          Tab.get (fun _ => {}) (Port.pg t p).rx.fade k = ({} : Ramp).aim s.clk.frame (s.clk.frame + Port.rampFrames s p) one30))) ∧
      (x.locked = false → Completes (.receiverLockLoss p) s (fun t => t = s.begin)) ∧
      (x.locked = true → Completes (.receiverLockLoss p) s (fun t =>
        Port.pg t p = { x with locked := false, group := 0, nextTag := none } ∧ bit (t.rd (Reg.irqStatus p)) 1 = true ∧
        (Port.kind p = 3 → fld (t.rd (Reg.faultCause p)) 7 0 = 0x80) ∧ (∀ q, q ≠ p → Port.pg t q = Port.pg s q))))

/-- The rows that bring and take frames, measure rates, convert them, and move host audio. -/
def Obligations.PortFramesAct : Prop :=
  ∀ s : State, s.running = true →
    -- PORT_INPUT_FRAME
    (∀ p x db, x = Port.pg s p → db = Port.dataBits x.fmt → Port.kind p = 1 → ∀ ws,
      (s.pageUp p = true → x.rx.state ≠ 0 → Port.leader x = true ∨ x.locked = true → Completes (.portInputFrame p ws) s (fun t =>
        ∃ f, f.tag = x.nextTag ∧ (Port.leader x = false → f.finish = s.clk.stake) ∧
          f.vals = (List.range (Port.slots x)).map (fun k => signed db (nth 0 ws k) * 2 ^ (32 - db)) ∧
          (Port.pg t p).buf = (x.buf ++ [f]).drop (x.buf.length - 3) ∧ (Port.pg t p).lastIn = f.vals ∧
          (Port.pg t p).nextTag = x.nextTag.map (· + 1) ∧ (Port.pg t p).rx = { x.rx with frames := x.rx.frames + 1 } ∧
          (∀ q, q ≠ p → Port.pg t q = Port.pg s q))) ∧
      (s.pageUp p = false ∨ x.rx.state = 0 ∨ (Port.leader x = false ∧ x.locked = false) →
        Completes (.portInputFrame p ws) s (fun t => t = s.begin))) ∧
    -- AES_INPUT_FRAME, AES_CS_BLOCK
    (∀ i x cfg, i < 8 → x = Port.pg s (0x30 + i) → cfg = s.ef (Reg.aesRxCfg i) → Port.isOn s (0x30 + i) false = true → x.locked = true →
      (x.rx.state ≠ 0 → ∀ w0 v0 u0 e0 w1 v1 u1 e1, Completes (.aesInputFrame i (w0, v0, u0, e0) (w1, v1, u1, e1)) s (fun t =>
        (∀ word, word = (fun w => if bit cfg 2 = true then w / 16 * 16 else w) → (Port.pg t (0x30 + i)).lastIn =
          [if e0 = true ∨ (bit cfg 1 = true ∧ v0 = true) then nth 0 x.lastIn 0 else signed 24 (word w0) * 256,
           if e1 = true ∨ (bit cfg 1 = true ∧ v1 = true) then nth 0 x.lastIn 1 else signed 24 (word w1) * 256]) ∧
        (∃ f, f.aux = [(v0, u0), (v1, u1)] ∧ f.finish = s.clk.stake ∧ f.vals = (Port.pg t (0x30 + i)).lastIn ∧
          (Port.pg t (0x30 + i)).buf = (x.buf ++ [f]).drop (x.buf.length - 3)) ∧
        t.rd (Reg.aesParityCount i) = satAdd (s.rd (Reg.aesParityCount i)) (b2n e0 + b2n e1) ∧
        t.rd (Reg.aesValidityCount i) = satAdd (s.rd (Reg.aesValidityCount i)) (b2n (bit cfg 1 && v0) + b2n (bit cfg 1 && v1)) ∧
        (e0 = true ∨ e1 = true → fld (t.rd (Reg.faultCause (0x30 + i))) 7 0 = 0x81))) ∧
      (∀ b bytes regs, regs = (fun k => if b then Reg.aesRxCsb i k else Reg.aesRxCsa i k) →
        ((nth (0 : Byte) bytes 0).getLsbD 0 = true → crcc ((List.range 23).map (nth 0 bytes)) ≠ (nth (0 : Byte) bytes 23).toNat →
          Completes (.aesCsBlock i b bytes) s (fun t => t.rd (Reg.aesCrccCount i) = satAdd (s.rd (Reg.aesCrccCount i)) 1 ∧
            bit (t.rd (Reg.irqStatus (0x30 + i))) 5 = true ∧ fld (t.rd (Reg.faultCause (0x30 + i))) 7 0 = 0x80 ∧
            ∀ k, k < 6 → t.rd (regs k) = s.rd (regs k))) ∧
        ((nth (0 : Byte) bytes 0).getLsbD 0 = false ∨ crcc ((List.range 23).map (nth 0 bytes)) = (nth (0 : Byte) bytes 23).toNat →
          Completes (.aesCsBlock i b bytes) s (fun t =>
            (∀ k, k < 6 → t.rd (regs k) = w32 (ofLe ((List.range 4).map (fun j => nth 0 bytes (4 * k + j))))) ∧
            ((∃ k, k < 6 ∧ t.rd (regs k) ≠ s.rd (regs k)) → bit (t.rd (Reg.irqStatus (0x30 + i))) 6 = true) ∧
            ((∀ k, k < 6 → t.rd (regs k) = s.rd (regs k)) → t.rd (Reg.irqStatus (0x30 + i)) = s.rd (Reg.irqStatus (0x30 + i))))))) ∧
    -- MADI_INPUT_FRAME
    (∀ i p x chs sub smp, i < 4 → p = 0x38 + i → x = Port.pg s p → chs = Port.carried s p false → Port.isOn s p false = true →
      x.locked = true → x.rx.state ≠ 0 → Port.madiInactive s p false = false →
      smp = (fun (last : List Int) (k j : Nat) =>
        (Port.subSample false (s.efB (Reg.madiCfg i) 2) (nth 0 last k) (nth (0, false, false, false) sub j)).1) →
      Completes (.madiInputFrame i sub) s (fun t =>
        (Port.rateCode s p false < 3 → (Port.pg t p).lastIn = chs.map (fun k => smp x.lastIn k k) ∧
          (Port.pg t p).rx.frames = x.rx.frames + 1) ∧
        (3 ≤ Port.rateCode s p false → (Port.pg t p).rx.frames = x.rx.frames + 2 ∧ ∃ v, v = chs.map (fun k => smp x.lastIn k (2 * k)) ∧
          (Port.pg t p).lastIn = chs.map (fun k => smp v k (2 * k + 1))) ∧
        (Port.pg t p).buf.length = min 4 (x.buf.length + (if 3 ≤ Port.rateCode s p false then 2 else 1)) ∧
        (∀ q, q ≠ p → Port.pg t q = Port.pg s q))) ∧
    -- PORT_OUTPUT_FRAME
    (∀ p x, x = Port.pg s p → Port.kind p ≠ 0 → x.tx.state ≠ 0 →
      (Port.converted s p true = false →
        (Port.ownClock x p true = true → Completes (.portOutputFrame p) s (fun t => t = s.begin)) ∧
        (Port.ownClock x p true = false → Completes (.portOutputFrame p) s (fun t =>
          Port.pg t p = { x with outPin := x.outStd, auxPin := [] } ∧ (∀ q, q ≠ p → Port.pg t q = Port.pg s q)))) ∧
      (Port.converted s p true = true → Port.madiInactive s p true = false → Completes (.portOutputFrame p) s (fun t =>
        (x.tx.state ≠ 2 → (Port.pg t p).outPin = []) ∧
        (x.tx.state = 2 → (Port.pg t p).outPin.length = Port.chans p ∧ ∀ k, k < Port.chans p →
          (∀ e, Asrc.cover s p true k = some e → Asrc.gives s e s.clk.frame = false) → nth 0 (Port.pg t p).outPin k = 0) ∧
        (∀ q, q ≠ p → Port.pg t q = Port.pg s q)))) ∧
    (∀ p, Port.kind p = 0 ∨ (Port.pg s p).tx.state = 0 → Completes (.portOutputFrame p) s (fun t => t = s.begin)) ∧
    -- RATE_MEASURE
    (∀ p cnt t0 t1, Port.kind p = 0 ∨ Port.isOn s p false = false → p ≠ Stake.page →
      Completes (.rateMeasure p cnt t0 t1) s (fun t => t = s.begin)) ∧
    (∀ cnt t0 t1, s.pageUp Stake.page = true → Completes (.rateMeasure Stake.page cnt t0 t1) s (fun t =>
      t = s.begin.wr Reg.stakeWclkInMhz (w32 (satU 32 (s.measuredMhz cnt t0 t1))))) ∧
    (∀ p cnt t0 t1, Port.kind p = 1 → Port.leader (Port.pg s p) = true → Port.isOn s p false = true → Completes (.rateMeasure p cnt t0 t1) s (fun t =>
      t.rd (Port.reg p 0x68) = (if (Port.pg s p).tx.state = 0 then 0 else w32 (rateHz (Port.rateCode s p false) * 1000)))) ∧
    (∀ p cnt t0 t1, Port.kind p ≠ 0 → Port.isOn s p false = true → ¬ (Port.kind p = 1 ∧ Port.leader (Port.pg s p) = true) →
      Completes (.rateMeasure p cnt t0 t1) s (fun t => ∃ mhz cls,
        (cnt < 2 ∨ t1 ≤ t0 ∨ t1 + msU < s.clk.stake → mhz = 0) ∧
        (2 ≤ cnt → t0 < t1 → s.clk.stake ≤ t1 + msU → mhz = (roundDiv (((cnt - 1) * 1000 * secU : Nat) : Int) (t1 - t0)).toNat) ∧
        cls = rateClassOf mhz ∧ t.rd (Port.reg p 0x68) = w32 (satU 32 mhz) ∧
        t.rd (Port.reg p 0x6C) = w32 (cls + 8 * b2n (offNominal mhz cls)) ∧
        (cls = s.rdF (Port.reg p 0x6C) 2 0 → t.port = s.port ∧ t.rd (Reg.irqStatus p) = s.rd (Reg.irqStatus p)) ∧
        (cls ≠ s.rdF (Port.reg p 0x6C) 2 0 → bit (t.rd (Reg.irqStatus p)) 0 = true ∧
          (s.isStandby = false → ∀ e ∈ Asrc.gang s p false, (Asrc.eng t e).locked = false)))) ∧
    -- ASRC_LOCK, ASRC_UNLOCK
    (∀ e r, Asrc.isLeader s e = true → s.unitOn (Asrc.page e) = true → (Asrc.eng s e).locked = false → s.isStandby = false →
      (r < 2 ^ 37 ∨ 2 ^ 43 < r → Completes (.asrcLock e r) s (fun t => t.port = s.port ∧
        fld (t.rd (Reg.faultCause (Asrc.page e))) 7 0 = 0x82)) ∧
      (2 ^ 37 ≤ r → r ≤ 2 ^ 43 → Completes (.asrcLock e r) s (fun t =>
        (∃ pos, ∀ k ∈ Asrc.gangOf s e, s.unitOn (Asrc.page k) = true →
          Asrc.eng t k = { Asrc.eng s k with
            locked := true, pos := pos, narrowAt := s.clk.mono + secU
            fade := (Asrc.eng s k).fade.aim (Asrc.lockFrame s) (Asrc.lockFrame s + s.ms 20) one30 } ∧
          t.rd (Reg.asrcRatioLo k) = w32 r ∧ t.rd (Reg.asrcRatioHi k) = w32 (r / 2 ^ 32) ∧
          bit (t.rd (Reg.irqStatus (Asrc.page k))) 0 = true) ∧
        (∀ k, k ∉ Asrc.gangOf s e ∨ s.unitOn (Asrc.page k) = false → Asrc.eng t k = Asrc.eng s k)))) ∧
    (∀ e rng code, code = (if rng then 0x82 else 0x81) →
      (s.isStandby = true → Completes (.asrcUnlock e rng) s (fun t => t = s.begin)) ∧
      (s.isStandby = false → Completes (.asrcUnlock e rng) s (fun t =>
        ∀ k x, x = Asrc.eng s k →
          (k ∈ Asrc.gangOf s e → x.locked = true →
            Asrc.eng t k = { x with locked := false, fade := x.fade.aim (Asrc.lockFrame s) (Asrc.lockFrame s + s.ms 5) 0 } ∧
            bit (t.rd (Reg.irqStatus (Asrc.page k))) 1 = true ∧ fld (t.rd (Reg.faultCause (Asrc.page k))) 7 0 = code) ∧
          (k ∉ Asrc.gangOf s e ∨ x.locked = false → Asrc.eng t k = x)))) ∧
    -- HOST_AUDIO_IN_READ, HOST_AUDIO_OUT_DONE
    (∀ data k n, k = s.clk.nextTick - 1 - s.efF Reg.hostAudInOffset 11 0 → n = HostAud.channels s false →
      (HostAud.active s false = false ∨ s.rateOn = false → Completes (.hostAudioInRead data) s (fun t => t = s.begin)) ∧
      (HostAud.active s false = true → s.rateOn = true → Completes (.hostAudioInRead data) s (fun t => ∃ l,
        (HostAud.inHost s false = true → l = data) ∧
        (HostAud.inHost s false = false → l = s.ldN (HostAud.slotAddr s false k) (16 + 4 * n)) ∧
        t = { s.begin with port := { s.port with hostIn :=
          (if ofLe (slice l 0 8) = k then some (k, (List.range n).map (fun j => signed 32 (ofLe (slice l (16 + 4 * j) 4)))) else none) } }))) ∧
    (s.port.hostPend = [] → ∀ err, Completes (.hostAudioOutDone err) s (fun t => t = s.begin)) ∧
    (∀ n v rest, s.port.hostPend = (n, v) :: rest →
      Completes (.hostAudioOutDone true) s (fun t => t.port.hostPend = [] ∧ t.rd Reg.hostAudStatus = 1 ∧
        fld (t.rd (Reg.faultCause 1)) 7 0 = 0x80 ∧ (∀ a, t.ld8 a = s.ld8 a) ∧ t.ctl.hostWrites = []) ∧
      Completes (.hostAudioOutDone false) s (fun t => t.port.hostPend = rest ∧ t.rd Reg.hostAudOutPosLo = w32 n ∧
        t.rd Reg.hostAudOutPosHi = w32 (n / 2 ^ 32) ∧ ∃ l, l = leBytes 8 n ++ List.replicate 8 0 ++
          (List.range (HostAud.channels s true)).flatMap (fun j => leBytes 4 (unsigned 32 (nth 0 v j))) ∧
        (HostAud.inHost s true = true → t.ctl.hostWrites = [(HostAud.slotAddr s true n, l)] ∧ ∀ a, t.ld8 a = s.ld8 a) ∧
        (HostAud.inHost s true = false → t.ctl.hostWrites = [] ∧ ∀ a, t.ld8 a =
          if HostAud.slotAddr s true n ≤ a ∧ a < HostAud.slotAddr s true n + l.length then l.getD (a - HostAud.slotAddr s true n) 0
          else s.ld8 a)))

/-- The rows of Stake time. Servo states: 0 free, 1 acquiring, 2 locked, 3 holdover. -/
def Obligations.StakeCommandsAct : Prop :=
  ∀ s : State, s.running = true → ∀ src, src = Stake.src s →
    -- SERVO_MEASUREMENT
    (src = 0 ∨ ((src = 1 ∨ src = 2) ∧ s.stake.fresh = none) ∨ (src = 3 ∧ rateHz (rateClassOf (s.rd Reg.stakeWclkInMhz).toNat) = 0) → ∀ o, Completes (.servoMeasurement o) s (fun t => t = s.begin)) ∧
    (∀ (o v : Int) (a thr : Nat), a = v.natAbs → thr = s.efF Reg.stakeStepThrUs 19 0 → (src = 3 ∧ ∃ hz, hz = rateHz (rateClassOf (s.rd Reg.stakeWclkInMhz).toNat) ∧ hz ≠ 0 ∧ v = Stake.edgeOffset (s.clk.stake + o) hz) ∨ ((src = 1 ∨ src = 2) ∧ s.stake.fresh = some v) →
      (s.stake.stepStage ≠ 0 → Completes (.servoMeasurement o) s (fun t => t.clk = s.clk ∧
        t.stake = { s.stake with lastMeas := s.clk.mono } ∧ t.rd Reg.stakeOffsetNs = Stake.offsetNs v)) ∧
      (s.stake.stepStage = 0 → thr ≠ 0 → thr * usU < a → s.clk.rateChange = none →
        (s.clk.ticking = true → Completes (.servoMeasurement o) s (fun t => t.clk = s.clk ∧ t.stake = { s.stake with
          lastMeas := s.clk.mono, fresh := none, stepStage := 1, stepOp := 3, stepBy := v, stepAt := s.clk.mono })) ∧
        (s.clk.ticking = false → Completes (.servoMeasurement o) s (fun t => t.clk = { s.clk with stake := ((s.clk.stake : Int) - v).toNat } ∧
          t.rd Reg.stakeStepCount = satAdd (s.rd Reg.stakeStepCount) 1 ∧ t.rd Reg.stakeOffsetNs = 0 ∧
          fld (t.rd (Reg.faultCause 0x10)) 7 0 = 0x81 ∧ bit (t.rd (Reg.irqStatus 0x10)) 1 = true))) ∧
      (s.stake.stepStage = 0 → thr = 0 ∨ a ≤ thr * usU ∨ s.clk.rateChange.isSome = true →
        ∀ g, g = (if a ≤ 50 * nsU then s.stake.good + 1 else 0) → Completes (.servoMeasurement o) s (fun t =>
          t.rd Reg.stakeOffsetNs = Stake.offsetNs v ∧ t.stake.lastMeas = s.clk.mono ∧ t.stake.fresh = none ∧
          t.clk = { s.clk with incr := t.clk.incr } ∧
          nominalI - Stake.maxDelta s ≤ t.clk.incr ∧ t.clk.incr ≤ nominalI + Stake.maxDelta s ∧
          (∀ lim i, i = Stake.clampI s s.clk.incr →
            lim = s.efF Reg.stakeSlew 15 0 * nominalI * (s.clk.mono - s.stake.steerAt) / (1000000000 * secU) →
            i - lim ≤ t.clk.incr ∧ t.clk.incr ≤ i + lim) ∧
          (s.stake.servo = 3 → t.stake.servo = 1) ∧
          (s.stake.servo = 2 → t.stake.servo = if usU < a then 1 else 2) ∧
          (s.stake.servo = 1 → t.stake.servo = if 16 ≤ g then 2 else 1) ∧ (t.stake.servo = s.stake.servo → t.stake.good = g) ∧
          (¬ (s.stake.servo = 2 ↔ t.stake.servo = 2) → bit (t.rd (Reg.irqStatus 0x10)) 0 = true)))) ∧
    -- HOLDOVER, PPS_LOSS
    (∀ cmd d, (cmd = .holdover ∧ src ≠ 0 ∧ s.stake.servo ≠ 0 ∧ s.stake.servo ≠ 3 ∧ d = s.stake.lastMeas + 3 * secU) ∨
        (cmd = .ppsLoss ∧ src = 2 ∧ s.stake.servo ≠ 3 ∧ ∃ e, s.stake.lastPps = some e ∧ d = e + 3 * secU / 2) →
      Completes cmd s (fun t => t.clk.mono = max s.clk.mono d ∧ t.stake.servo = 3 ∧ t.stake.holdAt = t.clk.mono ∧
        t.stake.gmExpired = false ∧ (∃ u m lim, u = s.begin.toMono d ∧ m = Stake.clampI u (Stake.meanI u) ∧ t.stake.holdI = some m ∧
          lim = u.efF Reg.stakeSlew 15 0 * nominalI * (u.clk.mono - u.stake.steerAt) / (1000000000 * secU) ∧
          t.clk.incr = max (u.clk.incr - lim) (min (u.clk.incr + lim) m)) ∧
        bit (t.rd (Reg.irqStatus 0x10)) 2 = true ∧ fld (t.rd (Reg.faultCause 0x10)) 7 0 = 0x82)) ∧
    (src = 0 ∨ s.stake.servo = 0 ∨ s.stake.servo = 3 → Completes .holdover s (fun t => t = s.begin)) ∧
    (src ≠ 2 ∨ s.stake.servo = 3 ∨ s.stake.lastPps = none → Completes .ppsLoss s (fun t => t = s.begin)) ∧
    -- STAKE_SET, STAKE_ADD, STAKE_SUBTRACT
    (s.pageUp 0x10 = true → ∀ (cmd : Instr) (op : Nat) (x tg : Int) (ns : Nat), (cmd = .stakeSet ∧ op = 1 ∧ tg = x) ∨ (cmd = .stakeAdd ∧ op = 2 ∧ tg = s.clk.stake + x) ∨
        (cmd = .stakeSubtract ∧ op = 3 ∧ tg = s.clk.stake - x) → ns = (s.rd Reg.stakeSetNs).toNat →
        x = ((s.rd64 Reg.stakeSetSLo Reg.stakeSetSHi * secU + ns * nsU : Nat) : Int) →
      (src = 1 ∨ src = 2 ∨ s.stake.stepStage ≠ 0 ∨ s.clk.rateChange.isSome = true → Completes cmd s (fun t =>
        fld (t.rd (Reg.faultCause 0x10)) 7 0 = 0x85 ∧ t.clk = s.clk ∧ t.stake = s.stake)) ∧
      (src = 0 ∨ src = 3 → s.stake.stepStage = 0 → s.clk.rateChange = none →
        (999999999 < ns ∨ (op ≠ 1 ∧ (tg < 0 ∨ 2 ^ 64 * secU ≤ tg)) → Completes cmd s (fun t =>
          fld (t.rd (Reg.faultCause 0x10)) 7 0 = 0x01 ∧ t.clk = s.clk ∧ t.stake = s.stake)) ∧
        (ns ≤ 999999999 → op = 1 ∨ (0 ≤ tg ∧ tg < 2 ^ 64 * secU) →
          (s.clk.ticking = false → Completes cmd s (fun t => t.clk = { s.clk with stake := tg.toNat } ∧
            t.rd Reg.stakeStepCount = satAdd (s.rd Reg.stakeStepCount) 1 ∧ fld (t.rd (Reg.faultCause 0x10)) 7 0 = 0x81 ∧
            bit (t.rd (Reg.irqStatus 0x10)) 1 = true)) ∧
          (s.clk.ticking = true → Completes cmd s (fun t => t.clk = s.clk ∧
            t.stake = { s.stake with stepStage := 1, stepOp := op, stepBy := x, stepAt := s.clk.mono }))))) ∧
    -- STAKE_STEP_REQUEST, STAKE_STEP_APPLY
    (s.stake.stepStage = 1 → Completes .stakeStepRequest s (fun t => t.stake = { s.stake with stepStage := 2 } ∧ t.clk = s.clk ∧
      t.port.outGain = s.port.outGain.aim s.clk.nextTick (s.clk.nextTick + s.ms 20) 0)) ∧
    (s.stake.stepStage ≠ 1 → Completes .stakeStepRequest s (fun t => t = s.begin)) ∧
    (s.stake.stepStage ≠ 0 → s.stake.stepStage < 4 → s.clk.ticking = true → ∀ a b c d,
      a = Stake.stepRamp s.begin → b = Frame.windowEnd (Stake.stepQuiet (a.toMono (a.stake.stepAt + 20 * msU))) none →
      c = (Plait.endPending (b.toMono (b.stake.stepAt + 25 * msU)) .abortLate (fun _ => true)).stopTicks →
      d = Stake.jump c (if c.stake.stepOp = 1 then c.stake.stepBy else if c.stake.stepOp = 2 then c.clk.stake + c.stake.stepBy
        else c.clk.stake - c.stake.stepBy : Int).toNat →
      Completes .stakeStepApply s (fun t => t.stake.stepStage = 4 ∧ t.clk.ticking = true ∧ t.port.outGain = Ramp.const one30 ∧
        ∃ u, u = Port.restart (Budget.restart (d.startTicks (frameCeil d.clk.rate (d.clk.stake + 1)))) ∧
          t = { u with stake := { u.stake with stepStage := 4 } })) ∧
    (s.stake.stepStage = 0 ∨ 4 ≤ s.stake.stepStage ∨ s.clk.ticking = false → Completes .stakeStepApply s (fun t => t = s.begin)) ∧
    -- PPS_EDGE, REF10M_MEASURE, GM_HOLDOVER_LIMIT
    (src ≠ 2 → Completes .ppsEdge s (fun t => t = s.begin) ∧ (∀ ppb, Completes (.ref10mMeasure ppb) s (fun t => t = s.begin)) ∧
      Completes .gmHoldoverLimit s (fun t => t = s.begin)) ∧
    (src = 2 → s.stake.todWritten = true → s.stake.stepStage ≠ 0 ∨ s.clk.rateChange.isSome = true → Completes .ppsEdge s (fun t =>
      t.clk = s.clk ∧ t.stake.stepWait = some (((s.rd64 Reg.stakeGmTodLo Reg.stakeGmTodHi * secU : Nat) : Int) - s.clk.stake) ∧
      t.stake.todWritten = false ∧ t.stake.lastPps = some s.clk.mono)) ∧
    (src = 2 → s.stake.todWritten = true → s.stake.stepStage = 0 → s.clk.rateChange = none →
      ∀ tod, tod = s.rd64 Reg.stakeGmTodLo Reg.stakeGmTodHi * secU →
      (s.clk.ticking = false → Completes .ppsEdge s (fun t => t.clk.stake = tod ∧ t.stake.todWritten = false ∧
        t.stake.lastPps = some s.clk.mono ∧ fld (t.rd (Reg.faultCause 0x10)) 7 0 = 0x81)) ∧
      (s.clk.ticking = true → Completes .ppsEdge s (fun t => t.clk = s.clk ∧ t.stake = { s.stake with
        todWritten := false, lastPps := some s.clk.mono, lastMeas := s.clk.mono, stepStage := 1, stepOp := 2, stepBy := (tod : Int) - s.clk.stake,
        stepAt := s.clk.mono, servo := if s.stake.servo = 3 then 1 else s.stake.servo
        good := if s.stake.servo = 3 then 0 else s.stake.good, gmExpired := s.stake.servo != 3 && s.stake.gmExpired }))) ∧
    (src = 2 → s.stake.todWritten = false → ∀ o : Int, o = (s.clk.stake : Int) - ((s.clk.stake + secU / 2) / secU * secU : Nat) →
      (100 * usU < o.natAbs → Completes .ppsEdge s (fun t => t.stake = s.stake ∧ t.clk = s.clk ∧
        bit (t.rd (Reg.irqStatus 0x10)) 3 = true ∧ fld (t.rd (Reg.faultCause 0x10)) 7 0 = 0x83)) ∧
      (o.natAbs ≤ 100 * usU → Completes .ppsEdge s (fun t =>
        t = { s.begin with stake := { s.stake with lastPps := some s.clk.mono, fresh := some o } }))) ∧
    (src = 2 → s.efB Reg.stakeSrc 4 = true → ∀ ppb : Int,
      (50000 < ppb.natAbs → Completes (.ref10mMeasure ppb) s (fun t => t.stake = s.stake ∧ t.clk = s.clk ∧
        bit (t.rd (Reg.irqStatus 0x10)) 3 = true ∧ fld (t.rd (Reg.faultCause 0x10)) 7 0 = 0x83)) ∧
      (ppb.natAbs ≤ 50000 → s.stake.stepStage = 0 → s.stake.servo ≠ 3 → Completes (.ref10mMeasure ppb) s (fun t => t.clk = { s.clk with incr := t.clk.incr } ∧
        nominalI - Stake.maxDelta s ≤ t.clk.incr ∧ t.clk.incr ≤ nominalI + Stake.maxDelta s ∧ t.regs = s.regs)) ∧
      (ppb.natAbs ≤ 50000 → s.stake.stepStage ≠ 0 ∨ s.stake.servo = 3 → Completes (.ref10mMeasure ppb) s (fun t => t = s.begin))) ∧
    (s.efB Reg.stakeSrc 4 = false → ∀ ppb, Completes (.ref10mMeasure ppb) s (fun t => t = s.begin)) ∧
    (s.stake.servo ≠ 3 ∨ s.stake.gmExpired = true → Completes .gmHoldoverLimit s (fun t => t = s.begin)) ∧
    (src = 2 → s.stake.servo = 3 → s.stake.gmExpired = false → Completes .gmHoldoverLimit s (fun t => Stake.clockClass t = 187 ∧
      t.clk.mono = max s.clk.mono (s.stake.holdAt + s.efF Reg.stakeGmHoldS 19 0 * secU) ∧ t.stake = { s.stake with gmExpired := true })) ∧
    -- TRIGGER_EDGE
    (∀ k x e, x = Stake.trig s k → e = x.start + x.j * x.period →
      (x.running = false → Completes (.triggerEdge k) s (fun t => t = s.begin)) ∧
      (x.running = true → x.high = false → Completes (.triggerEdge k) s (fun t => t.clk.stake = max s.clk.stake (Trigger.grid e) ∧
        Stake.trig t k = { x with high := true, done := x.done || x.period == 0 } ∧ Stake.ttPin t k = !x.inv ∧
        (x.period = 0 → bit (t.rd (Reg.irqStatus 0x10)) 4 = true) ∧ ∀ j, j ≠ k → Stake.trig t j = Stake.trig s j)) ∧
      (x.running = true → x.high = true → x.reload = false → Completes (.triggerEdge k) s (fun t =>
        t.clk.stake = max s.clk.stake (Trigger.grid (e + x.width)) ∧ Stake.ttPin t k = x.inv ∧
        (x.period = 0 → Stake.trig t k = { x with high := false, running := false }) ∧
        (x.period ≠ 0 → Stake.trig t k = { x with high := false, j := x.j + 1 }) ∧ ∀ j, j ≠ k → Stake.trig t j = Stake.trig s j)) ∧
      (x.running = true → x.high = true → x.reload = true → Completes (.triggerEdge k) s (fun t =>
        (Stake.trig t k).high = false ∧ (Stake.trig t k).reload = false ∧ (Stake.trig t k).inv = s.efB (Reg.stakeTtCtrl k) 1))) ∧
    -- CAPTURE_EDGE, TCAP_POP
    (∀ k rising, ¬(s.rdF (Reg.stakeTcapCtrl k) 1 0 = 3 ∨ (s.rdF (Reg.stakeTcapCtrl k) 1 0 = 1 ∧ rising = true) ∨
        (s.rdF (Reg.stakeTcapCtrl k) 1 0 = 2 ∧ rising = false)) → Completes (.captureEdge k rising) s (fun t => t = s.begin)) ∧
    (s.pageUp 0x10 = true → ∀ k q, k < 4 → q = Tab.get (fun _ => []) s.stake.tcap k →
      (∀ rising sel, sel = s.rdF (Reg.stakeTcapCtrl k) 1 0 → sel = 3 ∨ (sel = 1 ∧ rising = true) ∨ (sel = 2 ∧ rising = false) →
        (q.length < 4 → Completes (.captureEdge k rising) s (fun t => bit (t.rd (Reg.irqStatus 0x10)) 5 = true ∧
          Tab.get (fun _ => []) t.stake.tcap k = q ++ [s.clk.stake / nsU * nsU])) ∧
        (4 ≤ q.length → Completes (.captureEdge k rising) s (fun t => t.stake = s.stake ∧ bit (t.rd (Reg.stakeTcapCtrl k)) 4 = true))) ∧
      Completes (.tcapPop k) s (fun t => Tab.get (fun _ => []) t.stake.tcap k = q.drop 1 ∧
        (∀ j, j ≠ k → Tab.get (fun _ => []) t.stake.tcap j = Tab.get (fun _ => []) s.stake.tcap j) ∧
        t.ctl.busData = leBytes 4 (nanosOf (Tab.get (fun _ => 0) s.stake.tcapLatch k)) ∧ t.regs = s.regs))

/-- The rows of PTP. Port states in the codes of IEEE 1588: 3 DISABLED, 4 LISTENING, 6 MASTER, 7 PASSIVE, 9 SLAVE. -/
def Obligations.PtpCommandsAct : Prop :=
  (∀ s : State, s.running = true → ∀ p x, p < 2 → x = Ptp.port s p →
    -- PTP_SYNC, PTP_FOLLOW_UP, PTP_DELAY_RESP
    (∀ dom sender, Ptp.fromMaster s p dom sender = true → ∀ (seq : Nat) (corr : Int),
      (∀ t1, Completes (.ptpSync p dom sender seq true t1 corr) s (fun t =>
        Ptp.port t p = { x with sync := some (seq, Net.rxStamp s p, corr) } ∧
        t.rd (Reg.netCnt p 0) = satAdd (s.rd (Reg.netCnt p 0)) 1 ∧ t.clk = s.clk)) ∧
      (∀ cmd (t1 t2 : Nat) (c d o : Int), (cmd = .ptpSync p dom sender seq false t1 corr ∧ t2 = Net.rxStamp s p ∧ c = corr) ∨
          (cmd = .ptpFollowUp p dom sender seq t1 corr ∧ ∃ c0, x.sync = some (seq, t2, c0) ∧ c = c0 + corr) →
          d = (t2 : Int) - t1 - c → o = d - x.delay - signed 32 (s.ef (Reg.netAsymNs p)).toNat * nsU →
        Completes cmd s (fun t => (Ptp.port t p).offsets = (o :: x.offsets).take 64 ∧ (Ptp.port t p).msDiff = d ∧
          (Ptp.port t p).sync = none ∧ (Ptp.port t p).delay = x.delay ∧ t.clk = s.clk ∧
          ((Ptp.port s (1 - p)).foreign = none → Stake.src s = 1 → s.stake.selected = p + 1 → t.stake.fresh = some o))) ∧
      (∀ t1, (∀ e, x.sync = some e → e.1 ≠ seq) → Completes (.ptpFollowUp p dom sender seq t1 corr) s (fun t => t.stake = s.stake)) ∧
      (∀ (t3 t4 : Nat), x.req = some (seq, t3) → Completes (.ptpDelayResp p dom sender seq t4 corr) s (fun t =>
        Ptp.port t p = { x with req := none, delay := (x.msDiff + ((t4 : Int) - t3 - corr)).fdiv 2 } ∧ t.clk = s.clk)) ∧
      (∀ t4, (∀ e, x.req = some e → e.1 ≠ seq) → Completes (.ptpDelayResp p dom sender seq t4 corr) s (fun t => t.stake = s.stake))) ∧
    (∀ dom sender, Ptp.fromMaster s p dom sender = false → ∀ seq two t1 corr cmd, cmd = .ptpSync p dom sender seq two t1 corr ∨
      cmd = .ptpFollowUp p dom sender seq t1 corr ∨ cmd = .ptpDelayResp p dom sender seq t1 corr →
      Completes cmd s (fun t => t.stake = s.stake ∧ t.clk = s.clk ∧ t.net.sent = [])) ∧
    -- PTP_DELAY_REQ
    (∀ dom rq seq,
      (Ptp.enabled s p = true → dom = Ptp.domain s → x.state = 6 → Completes (.ptpDelayReq p dom rq seq) s (fun t =>
        t.net.sent = [Ptp.message s p 4 Ptp.group [seq, rq, Net.rxStamp s p]] ∧ t.stake = s.stake)) ∧
      (Ptp.enabled s p = false ∨ dom ≠ Ptp.domain s ∨ x.state ≠ 6 → Completes (.ptpDelayReq p dom rq seq) s (fun t =>
        t.net.sent = [] ∧ t.stake = s.stake))) ∧
    -- PTP_ANNOUNCE, ANNOUNCE_TIMEOUT
    (∀ a : Announce,
      (Ptp.enabled s p = false ∨ a.domain ≠ Ptp.domain s ∨ a.gmId = Otp.clockId s ∨
          (∃ f, x.foreign = some f ∧ f.sender ≠ a.sender ∧ Announce.better f a = true) →
        Completes (.ptpAnnounce p a) s (fun t => t.stake = s.stake)) ∧
      (Ptp.enabled s p = true → a.domain = Ptp.domain s → a.gmId ≠ Otp.clockId s →
        (∀ f, x.foreign = some f → f.sender = a.sender ∨ Announce.better f a = false) →
        Completes (.ptpAnnounce p a) s (fun t => (Ptp.port t p).foreign = some a ∧ (Ptp.port t p).heardAt = s.clk.mono ∧
          t = Ptp.decide_ (Ptp.setPort (Net.count s.begin p 0) p { x with foreign := some a, heardAt := s.clk.mono })))) ∧
    (Ptp.enabled s p = false ∨ (x.foreign = none ∧ (x.state ≠ 4 ∨ x.ready = true)) → Completes (.announceTimeout p) s (fun t => t = s.begin)) ∧
    (Ptp.enabled s p = true → x.foreign ≠ none ∨ (x.state = 4 ∧ x.ready = false) → ∀ d, d = x.heardAt + s.efF Reg.stakePtpIntervals 31 24 * log2Interval (s.efF Reg.stakePtpIntervals 7 0) →
      Completes (.announceTimeout p) s (fun t => t.clk.mono = max s.clk.mono d ∧ (Ptp.port t p).foreign = none ∧
        t = Ptp.decide_ (Ptp.setPort (s.begin.toMono d) p { x with foreign := none, offsets := [], ready := true }))) ∧
    -- PTP_MANAGEMENT_SIGNALING
    (∀ f buf, (Net.live s p = false → Completes (.ptpManagementSignaling p f buf) s (fun t => t = s.begin)) ∧
      (Net.live s p = true →
        (Eth.untag s p f = none → Completes (.ptpManagementSignaling p f buf) s (fun t => t = Net.count s.begin p 0)) ∧
        (∀ g v, Eth.untag s p f = some (g, v) → Completes (.ptpManagementSignaling p f buf) s (fun t =>
          t = Net.toHost (Net.count s.begin p 0) p g v buf)))) ∧
    -- PTP_MESSAGE_INTERVAL
    (Ptp.enabled s p = true →
      (Ptp.requests s p = true → ∀ dst, dst = (if s.efB Reg.stakePtpCfg2 3 then (x.foreign.map (·.addr)).getD 0 else Ptp.group) →
        (Net.resolved s p dst = true → Completes (.ptpMessageInterval p 3) s (fun t =>
          t.net.sent = [Ptp.message s p 3 dst [x.reqSeq]] ∧
          Ptp.port t p = { x with req := some (x.reqSeq, Net.txStamp s p), reqSeq := (x.reqSeq + 1) % 65536 })) ∧
        (Net.resolved s p dst = false → Completes (.ptpMessageInterval p 3) s (fun t =>
          t = Net.ask (Net.count s.begin p 5) p dst))) ∧
      (x.state = 6 →
        Completes (.ptpMessageInterval p 0) s (fun t => Ptp.port t p = { x with annSeq := (x.annSeq + 1) % 65536 } ∧
          t.net.sent = [Ptp.message s p 0 Ptp.group [x.annSeq, s.efF Reg.stakePtpCfg 23 16, Stake.clockClass s, (Ptp.own s).accuracy,
            (Ptp.own s).variance, s.efF Reg.stakePtpCfg 31 24, Otp.clockId s, 0, Stake.timeSource s]]) ∧
        Completes (.ptpMessageInterval p 1) s (fun t =>
          Ptp.port t p = { x with syncSeq := (x.syncSeq + 1) % 65536, syncTx := Net.txStamp s p } ∧
          t.net.sent = [Ptp.message s p 1 Ptp.group [x.syncSeq, b2n (s.efB Reg.stakePtpCfg2 2),
            if s.efB Reg.stakePtpCfg2 2 then 0 else Net.txStamp s p]]) ∧
        (s.efB Reg.stakePtpCfg2 2 = true → Completes (.ptpMessageInterval p 2) s (fun t => t.stake = s.stake ∧
          t.net.sent = [Ptp.message s p 2 Ptp.group [(x.syncSeq + 65535) % 65536, x.syncTx]])) ∧
        (s.efB Reg.stakePtpCfg2 2 = false → Completes (.ptpMessageInterval p 2) s (fun t => t = s.begin)))) ∧
    (∀ kind, Ptp.enabled s p = false ∨ (kind = 3 ∧ Ptp.requests s p = false) ∨ (kind ≠ 3 ∧ x.state ≠ 6) ∨ 3 < kind →
      Completes (.ptpMessageInterval p kind) s (fun t => t = s.begin))) ∧
  -- the decision of R387
  (∀ (s u : State), u = Ptp.decide_ s → ∀ p, p < 2 →
    (Ptp.enabled s p = false → (Ptp.port u p).state = 3) ∧
    (∀ alone, alone = (if s.efB Reg.stakePtpCfg2 4 = true ∨ ((Ptp.port s p).foreign = none ∧ (Ptp.port s p).ready = false) then 4 else 6) →
      Ptp.enabled s p = true →
      (Ptp.best s = none → (Ptp.port u p).state = alone ∧ u.stake.selected = 0) ∧
      (s.efB Reg.stakePtpCfg2 5 = true → u.stake.selected = 0 ∧ ((Ptp.port s p).foreign = none → (Ptp.port u p).state = alone) ∧
        ∀ a, (Ptp.port s p).foreign = some a → (Ptp.port u p).state = if Announce.better a (Ptp.own s) then 7 else 6) ∧
      (∀ q a, Ptp.best s = some (q, a) → s.efB Reg.stakePtpCfg2 5 = false →
        (s.efB Reg.stakePtpCfg2 4 = true ∨ Announce.better a (Ptp.own s) = true → u.stake.selected = q + 1 ∧
          (p = q → (Ptp.port u p).state = 9) ∧
          (p ≠ q → (Ptp.port u p).state = if (Ptp.port s p).foreign.isSome then 7 else 4)) ∧
        (s.efB Reg.stakePtpCfg2 4 = false → Announce.better a (Ptp.own s) = false →
          (Ptp.port u p).state = alone ∧ u.stake.selected = 0))) ∧
    ((Ptp.port u p).state = 6 → (Ptp.port u 0).state ≠ 9 ∧ (Ptp.port u 1).state ≠ 9))

/-- The rows of frames and packets on Ethernet. -/
def Obligations.EthernetFramesAct : Prop :=
  (∀ s : State, s.running = true → ∀ p,
    -- ETH_FRAME_RECEIVE
    (∀ f ok sfd buf,
      (Net.live s p = false → Completes (.ethFrameReceive p f ok sfd buf) s (fun t => t = s.begin)) ∧
      (Net.live s p = true → ∀ u tag, u = Net.count s.begin p 0 → tag = be16 f 14 % 4096 →
        (ok = false ∨ 1518 < f.length → Completes (.ethFrameReceive p f ok sfd buf) s (fun t => t = Net.count u p 3)) ∧
        (ok = true → f.length ≤ 1518 → s.efB (Reg.netCfg p) 3 = true → be16 f 12 = 0x8100 → tag ≠ s.efF (Reg.netCfg p) 15 4 →
          Completes (.ethFrameReceive p f ok sfd buf) s (fun t => t = u)) ∧
        (ok = true → f.length ≤ 1518 → ∀ g v,
          (s.efB (Reg.netCfg p) 3 = true ∧ be16 f 12 = 0x8100 ∧ tag = s.efF (Reg.netCfg p) 15 4 ∧ g = f.take 12 ++ f.drop 16 ∧
              v = some (be16 f 14)) ∨
            ((s.efB (Reg.netCfg p) 3 = false ∨ be16 f 12 ≠ 0x8100) ∧ g = f ∧ v = none) →
          (be16 g 12 = 0x800 → Completes (.ethFrameReceive p f ok sfd buf) s (fun t => t = Net.since (Eth.ipv4 (Net.since u sfd) p g v buf) 0)) ∧
          (be16 g 12 = 0x806 → Completes (.ethFrameReceive p f ok sfd buf) s (fun t => t = Net.since (Eth.arp (Net.since u sfd) p g v buf) 0)) ∧
          (be16 g 12 ≠ 0x800 → be16 g 12 ≠ 0x806 → Completes (.ethFrameReceive p f ok sfd buf) s (fun t => t = Net.since (Net.toHost (Net.since u sfd) p g v buf) 0))))) ∧
    -- HTX_TAIL_WRITE, TXTS_POP
    (s.pageUp (Net.page p) = true → p < 2 →
      (∀ v, Completes (.htxTailWrite p v) s (fun t => t.rd (Reg.netHtxTail p) = w32 (fld v 11 0) ∧
        ∀ a, a ≠ Reg.netHtxTail p → t.rd a = s.rd a)) ∧
      Completes (.txtsPop p) s (fun t => Net.port t p = { Net.port s p with txts := (Net.port s p).txts.drop 1 } ∧
        ∀ q, q ≠ p → Net.port t q = Net.port s q)) ∧
    -- HOST_FRAME_SEND
    (∀ dsc cnt head tail, cnt = fld (s.ef (Reg.netHtxCfg p)) 11 0 → head = s.rdF (Reg.netHtxHead p) 11 0 →
        tail = s.rdF (Reg.netHtxTail p) 11 0 →
      (Net.live s p = false ∨ cnt = 0 ∨ head = tail → Completes (.hostFrameSend p dsc) s (fun t => t = s.begin)) ∧
      (Net.live s p = true → cnt ≠ 0 → head ≠ tail → ∀ d w host len ts tg f, d = Net.htxBase s p + 32 * head → w = s.ld32 (d + 8) →
          host = bit (s.ef (Reg.netHtxCfg p)) 16 →
          (len, ts, tg, f) = (if host then (dsc.len, dsc.tsReq, dsc.tag, dsc.frame.take dsc.len)
            else (fld w 15 0, bit w 16, fld (s.ld32 (d + 12)) 15 0, s.ldN (s.ldLe d 8) (fld w 15 0))) →
        (host = true ∨ (s.isMem d 32 = true ∧ s.isMem (s.ldLe d 8) len = true) → Completes (.hostFrameSend p dsc) s (fun t =>
          t.rd (Reg.netHtxHead p) = w32 ((head + 1) % cnt) ∧ bit (t.rd (Reg.irqStatus (Net.page p))) 2 = true ∧
          (host = false → bit (t.ld32 (d + 8)) 31 = true ∧ fld (t.ld32 (d + 8)) 15 0 = len ∧
            ∀ a, a < d + 8 ∨ d + 12 ≤ a → t.ld8 a = s.ld8 a) ∧
          (host = true → (∃ x, t.ctl.hostWrites = [(d + 8, x)] ∧ x.length = 4) ∧ ∀ a, t.ld8 a = s.ld8 a) ∧
          (∀ max, max = (if be16 f 12 = 0x8100 then 1518 else 1514) →
            (len < 60 ∨ max < len → t.net.sent = [] ∧ t.rd (Reg.netCnt p 2) = satAdd (s.rd (Reg.netCnt p 2)) 1 ∧ t.net.ports = s.net.ports) ∧
            (60 ≤ len → len ≤ max → t.net.sent = [{ port := p, kind := 10, fields := [tg], payload := f }] ∧
              (ts = false → t.net.ports = s.net.ports) ∧
              (ts = true → (Net.port s p).txts.length < 16 →
                (Net.port t p).txts = (Net.port s p).txts ++ [(tg % 65536, Net.txStamp s p)]) ∧
              (ts = true → 16 ≤ (Net.port s p).txts.length → t.net.ports = s.net.ports ∧ bit (t.rd (Reg.netTxtsLevel p)) 8 = true ∧
                t.rd (Reg.netTxtsOverflow p) = satAdd (s.rd (Reg.netTxtsOverflow p)) 1))))) ∧
        (host = false → s.isMem d 32 = false ∨ s.isMem (s.ldLe d 8) len = false → Completes (.hostFrameSend p dsc) s (fun t =>
          fld (t.rd (Reg.faultCause (Net.page p))) 7 0 = 0x80 ∧ t.net.sent = [] ∧ ∀ a, t.ld8 a = s.ld8 a)))) ∧
    -- STREAM_PACKET_RECEIVE
    (∀ k : RtpPacket,
      (Net.live s p = false → Completes (.streamPacketReceive p k) s (fun t => t = s.begin)) ∧
      (Net.live s p = true → s.pageUp Stream.page = false ∨ (∀ e, e < 128 → Stream.matches s p e k = false) →
        (Felot.takes s p k.dst k.dport k.src = true → Completes (.streamPacketReceive p k) s (fun t =>
          t = Felot.take (Net.count s.begin p 0) (Eth.rtpBytes k))) ∧
        (Felot.takes s p k.dst k.dport k.src = false → Completes (.streamPacketReceive p k) s (fun t =>
          t = Eth.datagramToHost (Net.count s.begin p 0) p (Eth.rtpBytes k)))) ∧
      (Net.live s p = true → s.pageUp Stream.page = true → ∀ e x a st, e < 128 → Stream.matches s p e k = true →
          (∀ d, d < e → Stream.matches s p d k = false) → x = Stream.rxs s e → a = Stream.rxAddr e →
          st = (fun j => winBase Stream.page + 0x4000 + 32 * e + 4 * j) →
        ∀ ch len sz bl k0 lim, ch = Stream.channels s a → len = Stream.frames s a s.clk.rate → sz = Stream.bytes (Stream.format s a) →
          bl = Stream.bufLen s.clk.rate → k0 = Stream.frameIndex s.clk.frame k.ts (s.ld32 (a + 8)).toNat →
          lim = (s.clk.frame : Int) - (Stream.dRx s a : Int) →
        Completes (.streamPacketReceive p k) s (fun t => ∃ y, y = Stream.rxs t e ∧ y.last = x.last ∧ y.fade = x.fade ∧
          (p = 0 → y.seqA = some k.seq ∧ y.seqB = x.seqB) ∧ (p = 1 → y.seqB = some k.seq ∧ y.seqA = x.seqA) ∧
          t.ld32 (st p) = satAdd (s.ld32 (st p)) 1 ∧ (∀ b, b < st 0 ∨ st 8 ≤ b → t.ld8 b = s.ld8 b) ∧
          (∀ g, g = (match (if p = 0 then x.seqA else x.seqB) with | some q => (k.seq + 65536 - q - 1) % 65536 | none => 0) →
            (0 < g → g < 0x8000 → t.ld32 (st (2 + p)) = satAdd (s.ld32 (st (2 + p))) g ∧ bit (t.rd (Reg.irqStatus Stream.page)) 2 = true) ∧
            (g = 0 ∨ 0x8000 ≤ g → t.ld32 (st (2 + p)) = s.ld32 (st (2 + p)))) ∧
          (s.rateOn = false → y.buf = x.buf) ∧
          (∀ d, d ≠ e → Stream.rxs t d = Stream.rxs s d) ∧
          (k.payload.length ≠ ch * len * sz → y.buf = x.buf ∧ t.ld32 (st 7) = satAdd (s.ld32 (st 7)) 1) ∧
          (s.rateOn = true → k.payload.length = ch * len * sz → lim + (bl : Int) ≤ k0 + (len : Int) - 1 → y.buf = x.buf ∧
            t.ld32 (st 5) = satAdd (s.ld32 (st 5)) 1 ∧ bit (t.rd (Reg.irqStatus Stream.page)) 1 = true) ∧
          (s.rateOn = true → k.payload.length = ch * len * sz → k0 + (len : Int) - 1 < lim + (bl : Int) →
            (k0 ≤ lim → t.ld32 (st 4) = satAdd (s.ld32 (st 4)) 1 ∧ bit (t.rd (Reg.irqStatus Stream.page)) 1 = true) ∧
            ∀ (i : Nat) (f : Nat), i < len → (f : Int) = k0 + (i : Int) → lim < (f : Int) →
              Tab.get (fun _ => ((0 : Nat), ([] : List (Option Int)))) y.buf (f % bl) =
                if (Tab.get (fun _ => ((0 : Nat), ([] : List (Option Int)))) x.buf (f % bl)).1 = f + 1
                then Tab.get (fun _ => ((0 : Nat), ([] : List (Option Int)))) x.buf (f % bl)
                else (f + 1, (List.range ch).map (fun c => Stream.sample (Stream.format s a) (bit (s.ld32 a) 4)
                  (slice k.payload ((i * ch + c) * sz) sz)))))))) ∧
  -- the rows of R401 that a frame may reach
  (∀ (u : State) p f v buf,
    (∀ op sender mac, op = be16 f 20 → sender = ofBe (slice f 28 4) → mac = ofBe (slice f 22 6) →
      (op = 1 → Net.ip u p ≠ 0 → ofBe (slice f 38 4) = Net.ip u p → Eth.arp u p f v buf = Net.send u p 6 [sender, mac] []) ∧
      (op = 2 → Net.ip u p ≠ 0 → sender = Net.ip u p ∨ ofBe (slice f 38 4) = Net.ip u p → Eth.arp u p f v buf = Net.arpLearn u p sender mac) ∧
      ((op ≠ 1 ∧ op ≠ 2) ∨ Net.ip u p = 0 ∨ (sender ≠ Net.ip u p ∧ ofBe (slice f 38 4) ≠ Net.ip u p) →
        Eth.arp u p f v buf = Net.toHost u p f v buf)) ∧
    (∀ proto, proto = (nth (0 : Byte) f 23).toNat →
      (be16 f 20 % 0x2000 ≠ 0 ∨ (be16 f 20).testBit 13 = true ∨ (proto ≠ 1 ∧ proto ≠ 2 ∧ proto ≠ 17) →
        Eth.ipv4 u p f v buf = Net.toHost u p f v buf) ∧
      (be16 f 20 % 0x2000 = 0 → (be16 f 20).testBit 13 = false → proto = 17 → ∀ src dst dport d,
        src = ofBe (slice f 26 4) → dst = ofBe (slice f 30 4) → dport = be16 f (14 + 4 * ((nth (0 : Byte) f 14).toNat % 16) + 2) →
        d = slice f (14 + 4 * ((nth (0 : Byte) f 14).toNat % 16) + 8) (be16 f (14 + 4 * ((nth (0 : Byte) f 14).toNat % 16) + 4) - 8) →
        (Eth.isPtp u p dport d = true → Eth.ipv4 u p f v buf = Eth.ptpRow u p src d f v buf) ∧
        (Eth.isPtp u p dport d = false → ∀ k, k = Eth.rtp src dst dport d →
          (∀ e, Stream.entryOf u p k = some e → Eth.ipv4 u p f v buf = Stream.place u p e k) ∧
          (Stream.entryOf u p k = none → Felot.takes u p dst dport src = true → Eth.ipv4 u p f v buf = Felot.take u d) ∧
          (Stream.entryOf u p k = none → Felot.takes u p dst dport src = false → Eth.ipv4 u p f v buf = Net.toHost u p f v buf))))) ∧
  -- the host receive ring (R396)
  (∀ (u : State) p f v buf cnt head tail, cnt = fld (u.ef (Reg.netHrxCfg p)) 11 0 → head = u.rdF (Reg.netHrxHead p) 11 0 →
      tail = u.rdF (Reg.netHrxTail p) 11 0 →
    (cnt = 0 ∨ (head + 1) % cnt = tail → ∃ t, t = Net.toHost u p f v buf ∧ t.rd (Reg.netCnt p 2) = satAdd (u.rd (Reg.netCnt p 2)) 1 ∧
      bit (t.rd (Reg.irqStatus (Net.page p))) 1 = true ∧ (∀ a, t.ld8 a = u.ld8 a) ∧ t.ctl = u.ctl) ∧
    (cnt ≠ 0 → (head + 1) % cnt ≠ tail → ∀ d b, d = Net.hrxBase u p + 32 * head →
        b = (if bit (u.ef (Reg.netHrxCfg p)) 16 then buf else u.ldLe d 8) →
      ∃ t dsc, t = Net.toHost u p f v buf ∧ dsc.length = 32 ∧ ofLe (slice dsc 0 8) = b % 2 ^ 64 ∧
        ofLe (slice dsc 24 4) = f.length % 65536 + b2n v.isSome * 2 ^ 16 + 2 ^ 31 ∧
        (bit (u.ef (Reg.netHrxCfg p)) 16 = true → t.ctl.hostWrites = u.ctl.hostWrites ++ [(b, f), (d, dsc)] ∧ (∀ a, t.ld8 a = u.ld8 a)) ∧
        (bit (u.ef (Reg.netHrxCfg p)) 16 = false → u.isMem d 32 = true → u.isMem b f.length = true →
          (∀ a, t.ld8 a = if d ≤ a ∧ a < d + 32 then dsc.getD (a - d) 0 else if b ≤ a ∧ a < b + f.length then f.getD (a - b) 0 else u.ld8 a)) ∧
        (bit (u.ef (Reg.netHrxCfg p)) 16 = true ∨ (u.isMem d 32 = true ∧ u.isMem b f.length = true) →
          t.rd (Reg.netHrxHead p) = w32 ((head + 1) % cnt) ∧ t.rd (Reg.netCnt p 1) = satAdd (u.rd (Reg.netCnt p 1)) 1 ∧
          bit (t.rd (Reg.irqStatus (Net.page p))) 1 = true)))

/-- The rows of a port's own services. -/
def Obligations.PortServicesAct : Prop :=
  ∀ s : State, s.running = true → ∀ p x ip, x = Net.port s p → ip = Net.ip s p →
    -- ARP_REQUEST, ARP_REPLY
    (Net.live s p = false → ∀ cmd a b c d, cmd = .arpRequest p a b c ∨ cmd = .arpReply p a b ∨ cmd = .icmpEchoRequest p a d ∨
      cmd = .gratuitousArp p → Completes cmd s (fun t => t = s.begin)) ∧
    (Net.live s p = true → ∀ tgt who mac,
      (ip ≠ 0 → tgt = ip → Completes (.arpRequest p tgt who mac) s (fun t => t.net.ports = s.net.ports ∧
        t.rd (Reg.netCnt p 0) = satAdd (s.rd (Reg.netCnt p 0)) 1 ∧
        t.net.sent = [Net.ownFrame s p 6 [who, mac]])) ∧
      (ip = 0 ∨ tgt ≠ ip → Completes (.arpRequest p tgt who mac) s (fun t => t = Net.count s.begin p 0)) ∧
      (who = ip → ip ≠ 0 → Completes (.arpReply p who mac) s (fun t => t.net.ports = s.net.ports ∧
        fld (t.rd (Reg.faultCause (Net.page p))) 7 0 = 0x81 ∧ bit (t.rd (Reg.irqStatus (Net.page p))) 4 = true)) ∧
      (who ≠ ip ∨ ip = 0 → Completes (.arpReply p who mac) s (fun t => ∃ l, Net.port t p = { x with arp := l ++ [(who, mac, s.clk.mono)] } ∧
        l.length ≤ 63 ∧ (∀ e ∈ l, e ∈ x.arp ∧ e.1 ≠ who) ∧ (∀ e ∈ x.arp, e.1 ≠ who → x.arp.length ≤ 63 → e ∈ l) ∧
        (∀ q, q ≠ p → Net.port t q = Net.port s q))) ∧
      -- ICMP_ECHO_REQUEST
      (∀ payload : List Byte, ip ≠ 0 →
        (payload.length ≤ 1472 → x.echoAt + secU ≤ s.clk.mono ∨ x.echoes < 100 → Completes (.icmpEchoRequest p who payload) s (fun t =>
          t.net.sent = [{ Net.ownFrame s p 8 [] with dst := who, payload := payload }] ∧
          t.rd (Reg.netCnt p 6) = satAdd (s.rd (Reg.netCnt p 6)) 1 ∧
          (x.echoAt + secU ≤ s.clk.mono → (Net.port t p).echoAt = s.clk.mono ∧ (Net.port t p).echoes = 1) ∧
          (s.clk.mono < x.echoAt + secU → (Net.port t p).echoAt = x.echoAt ∧ (Net.port t p).echoes = x.echoes + 1))) ∧
        (1472 < payload.length ∨ (s.clk.mono < x.echoAt + secU ∧ 100 ≤ x.echoes) → Completes (.icmpEchoRequest p who payload) s (fun t =>
          t.net.sent = [] ∧ t.rd (Reg.netCnt p 6) = s.rd (Reg.netCnt p 6))))) ∧
    (ip = 0 → ∀ who payload, Completes (.icmpEchoRequest p who payload) s (fun t => t = s.begin)) ∧
    -- IGMP_QUERY, IGMP_REPORT
    (∀ v f buf,
      (Net.live s p = false → Completes (.igmpQuery p v f buf) s (fun t => t = s.begin)) ∧
      (Net.live s p = true → Eth.untag s p f = none → Completes (.igmpQuery p v f buf) s (fun t => t = Net.count s.begin p 0)) ∧
      (Net.live s p = true → ∀ g tag u, Eth.untag s p f = some (g, tag) → u = Net.rejoin (Net.count s.begin p 0) p →
        (v < 2 → Completes (.igmpQuery p v f buf) s (fun t => t = Net.toHost u p g tag buf)) ∧
        (2 ≤ v → Completes (.igmpQuery p v f buf) s (fun t => ∃ w, t = Net.toHost w p g tag buf ∧
          Net.port w p = { Net.port u p with
            igmpV2 := x.igmpV2 || v == 2, reports := (Net.port u p).reports ++ (Net.port u p).joined.map (fun g => (g.1, s.clk.mono)) } ∧
          t.net = w.net)))) ∧
    (∀ u, u = Net.rejoin s.begin p → (Net.port u p).joined = Net.groups s p ∧
      (∃ l, (Net.port u p).reports = x.reports ++ l ∧ ∀ g, ((g, s.clk.mono) ∈ l ↔ (g, s.clk.mono + secU) ∈ l) ∧
        ((g, s.clk.mono) ∈ l ↔ (∃ src, (g, src) ∈ Net.groups s p ∧ (g, src) ∉ x.joined) ∨
          (∃ src, (g, src) ∈ x.joined ∧ ∀ h ∈ Net.groups s p, h.1 ≠ g))) ∧
      ((Net.port u p).reports = [] → Completes (.igmpReport p) s (fun t => t = u)) ∧
      (∀ g d rest, (Net.port u p).reports = (g, d) :: rest → Completes (.igmpReport p) s (fun t =>
        (Net.port t p).reports = rest ∧ (Net.port t p).joined = Net.groups s p ∧ t.clk.mono = max s.clk.mono d ∧
        (∀ src, src = ((Net.groups s p).find? (fun e => e.1 == g)).map (·.2) → Net.live s p = true →
          t.net.sent = [Net.ownFrame s p 9 ([g, b2n src.isSome, b2n x.igmpV2] ++ src.getD [])]) ∧
        (Net.live s p = false → t.net.sent = [])))) ∧
    -- LINK_CHANGE
    (∀ up, s.variant.nets ≤ p ∨ x.link = up → Completes (.linkChange p up) s (fun t => t = s.begin)) ∧
    (∀ up, p < s.variant.nets → x.link ≠ up → Completes (.linkChange p up) s (fun t =>
      (Net.port t p).link = up ∧ (Net.port t p).joined = Net.groups s p ∧ bit (t.rd (Reg.irqStatus (Net.page p))) 0 = true ∧
      (∃ u, t = Ptp.decide_ u ∧ (∀ q, Ptp.port u q = Ptp.port s q)) ∧
      (up = false ∨ ip = 0 → t.net.sent = [] ∧ (Net.port t p).grat = x.grat) ∧
      (up = true → ip ≠ 0 → s.unitOn (Net.page p) = true → s.efF (Reg.netCfg p) 1 0 ≠ 0 →
        t.net.sent = [Net.ownFrame s p 7 [ip]] ∧ (Net.port t p).grat = 2 ∧
        (Net.port t p).gratAt = s.clk.mono + secU))) ∧
    -- GRATUITOUS_ARP, ARP_REFRESH
    (x.grat = 0 → Completes (.gratuitousArp p) s (fun t => t = s.begin)) ∧
    (x.grat ≠ 0 → Net.live s p = true → Completes (.gratuitousArp p) s (fun t => t.clk.mono = max s.clk.mono x.gratAt ∧
      Net.port t p = { x with grat := x.grat - 1, gratAt := t.clk.mono + secU } ∧
      t.net.sent = [Net.ownFrame s p 7 [ip]])) ∧
    (∀ a, (∀ e ∈ x.arp, e.1 ≠ a) → Completes (.arpRefresh p a) s (fun t => t = s.begin)) ∧
    (∀ a mac d, x.arp.find? (fun e => e.1 = a) = some (a, mac, d) → Completes (.arpRefresh p a) s (fun t =>
      t.clk.mono = max s.clk.mono (d + 60 * secU) ∧ (∀ e ∈ (Net.port t p).arp, e.1 = a → e = (a, mac, t.clk.mono)) ∧
      (∀ e ∈ x.arp, e.1 ≠ a → e ∈ (Net.port t p).arp) ∧
      (Net.live s p = true → t.net.sent = [Net.ownFrame s p 5 [a]])))

/-- The rows of the Router, the generators, meters and loudness. -/
def Obligations.RoutingCommandsAct : Prop :=
  (∀ s : State, s.running = true →
    -- PATCH_POST, MIX_NODE_POST
    (s.pageUp 0x48 = true → ∀ v cmd kind b c,
      (cmd = .patchPost v ∧ kind = 0 ∧ b = s.rdF Reg.routePatchSink 12 0 ∧ c = fld v 12 0) ∨
      (cmd = .mixNodePost v ∧ kind = 1 ∧ b = 256 * s.rdF Reg.routeMixNode 15 8 + s.rdF Reg.routeMixNode 7 0 ∧ c = v.toNat) →
      (s.rateOn = true → Completes cmd s (fun t => t = { s.begin with route := { s.route with
        posts := s.route.posts ++ [{ ready := s.clk.mono + 2 * usU, a := kind, b := b, c := c }] } })) ∧
      (s.rateOn = false → Completes cmd s (fun t => t = Route.applyPost s.begin kind b c s.clk.frame))) ∧
    -- CROSSFADE_END
    (∀ k x, x = Route.sink s k →
      (x.xfade = none → Completes (.crossfadeEnd k) s (fun t => t = s.begin)) ∧
      (∀ old r, x.xfade = some (old, r) →
        (s.clk.frame < r.h → Completes (.crossfadeEnd k) s (fun t => t = s.begin)) ∧
        (r.h ≤ s.clk.frame → Completes (.crossfadeEnd k) s (fun t => (∀ j, j ≠ k → Route.sink t j = Route.sink s j) ∧
          (x.held = none ∨ x.held = some x.src → Route.sink t k = { src := x.src }) ∧
          (∀ c len, x.held = some c → c ≠ x.src → len = s.ms (s.efF Reg.routeXfade 5 0) →
            (len = 0 → Route.sink t k = { src := c }) ∧
            (len ≠ 0 → Route.sink t k =
              { src := c, xfade := some (x.src, { v0 := 0, v1 := one30, s := s.clk.frame, h := s.clk.frame + len }) })))))) ∧
    -- ROUTE_FADE_DONE, GENERATOR_FADE_END
    (s.route.fadeBusy = true → s.route.fade.h ≤ s.clk.frame → Completes .routeFadeDone s (fun t =>
      t.route = { s.route with fadeBusy := false } ∧ bit (t.rd (Reg.irqStatus 0x48)) 2 = true)) ∧
    (s.route.fadeBusy = false ∨ s.clk.frame < s.route.fade.h → Completes .routeFadeDone s (fun t => t = s.begin)) ∧
    (∀ g x, x = Route.gen s g →
      (x.next = none ∨ s.clk.frame < x.fade.h → Completes (.generatorFadeEnd g) s (fun t => t = s.begin)) ∧
      (x.next = some 0 → x.fade.h ≤ s.clk.frame → Completes (.generatorFadeEnd g) s (fun t => Route.gen t g = { line := x.line })) ∧
      (∀ k, x.next = some k → k ≠ 0 → x.fade.h ≤ s.clk.frame → Completes (.generatorFadeEnd g) s (fun t => ∃ y, y = Route.gen t g ∧
        y.kind = k ∧ y.next = none ∧ y.phase = 0 ∧ y.count = 0 ∧ y.lfsr ≠ 0 ∧ y.line = x.line ∧
        y.fade = { v0 := 0, v1 := one30, s := s.clk.frame + 1, h := s.clk.frame + 1 + s.ms (s.efF Reg.routeRampTime 9 0) }))) ∧
    -- METER_CLEAR, METER_CONFIG_WRITE, LOUDNESS_START, LOUDNESS_STOP, LOUDNESS_RESET
    (s.pageUp 0x49 = true → ∀ v cmd kind b c u,
      (cmd = .meterClear v ∧ kind = 0 ∧ b = fld v 9 0 ∧ c = fld v 20 10 ∧ u = s.begin) ∨
      (∃ m w, cmd = .meterConfigWrite m w v ∧ m < 1024 ∧ w < 4 ∧ kind = 1 ∧ b = 16 * m + 4 * w ∧
        c = (v &&& (if w = 0 then 0x3FFF3FFF else if w = 1 then 0x000103FF else 0)).toNat ∧ u = s.begin.st32 (winBase 0x49 + b) (w32 c)) ∨
      (∃ k, k < 16 ∧ kind = 2 ∧ b = k ∧ u = s.begin ∧
        ((cmd = .loudnessStart k ∧ c = 1) ∨ (cmd = .loudnessStop k ∧ c = 2) ∨ (cmd = .loudnessReset k ∧ c = 3))) →
      (s.rateOn = true → Completes cmd s (fun t => t = { u with meter := { s.meter with
        posts := s.meter.posts ++ [{ ready := s.clk.mono + 2 * usU, a := kind, b := b, c := c }] } })) ∧
      (s.rateOn = false → Completes cmd s (fun t => t = Meter.applyPost u kind b c s.clk.frame))) ∧
    -- LOUDNESS_BLOCK
    (∀ k x h, x = Meter.loud s k → h = rateHz s.clk.rate / 10 →
      (x.ready = [] → Completes (.loudnessBlock k) s (fun t => t = s.begin)) ∧
      (∀ e4 e30 good rest, x.ready = (e4, e30, good) :: rest → Completes (.loudnessBlock k) s (fun t => ∃ y, y = Meter.loud t k ∧
        y = { x with ready := rest, ends := x.ends + 1, blocks := if good then x.blocks ++ [e4] else x.blocks } ∧
        (s.budget.admitted < 3 → t.regs = s.regs) ∧
        (3 ≤ s.budget.admitted → fld (t.rd (Reg.meterLoudStatus k)) 31 8 = satU 24 (s.rdF (Reg.meterLoudStatus k) 31 8 + 1) ∧
          t.rd (Reg.meterLoudMs k) = w32 (unsigned 16 (loudness e30 (30 * h)) * 65536 + unsigned 16 (loudness e4 (4 * h))) ∧
          t.rd (Reg.meterLoudI k) = w32 (unsigned 16 (integrated y.blocks (4 * h)))))))) ∧
  -- posts that take effect at tick `n`
  (∀ (u t : State) k c n, t = Route.applyPost u 0 k c n →
    (Route.isSink u.variant k = false ∨ Route.isSource u.variant c = false → t.route = u.route ∧
      t.rd Reg.routeDiscards = satAdd (u.rd Reg.routeDiscards) 1 ∧ fld (t.rd (Reg.faultCause 0x48)) 7 0 = 0x80 ∧
      bit (t.rd (Reg.irqStatus 0x48)) 1 = true) ∧
    (Route.isSink u.variant k = true → Route.isSource u.variant c = true → (∀ j, j ≠ k → Route.sink t j = Route.sink u j) ∧
      (u.rateOn = false → Route.sink t k = { src := c }) ∧
      (u.rateOn = true → ∀ x len, x = Route.sink u k → len = u.ms (u.efF Reg.routeXfade 5 0) →
        (x.xfade = none → (c = x.src ∨ len = 0 → Route.sink t k = { src := c }) ∧
          (c ≠ x.src → len ≠ 0 → Route.sink t k = { src := c, xfade := some (x.src, { v0 := 0, v1 := one30, s := n, h := n + len }) })) ∧
        (∀ old r, x.xfade = some (old, r) → n < r.h → r.s ≠ n → Route.sink t k = { x with held := some c })))) ∧
  (∀ (u t : State) key g n, t = Route.applyPost u 1 key g n → ∀ r r0, r = Tab.get (fun _ => ({} : Ramp)) t.route.nodes key →
    r0 = Tab.get (fun _ => ({} : Ramp)) u.route.nodes key → t.route.sinks = u.route.sinks ∧
    (u.rateOn = false ∨ r0.at n = signed 32 g → r = Ramp.const (signed 32 g)) ∧
    (u.rateOn = true → r0.at n ≠ signed 32 g →
      r = { v0 := r0.at n, v1 := signed 32 g, s := n, h := n + u.ms (u.efF Reg.routeRampTime 9 0) })) ∧
  (∀ (u t : State) b c n, t = Meter.applyPost u 0 b c n → ∀ q x, x = Meter.pt u q →
    (b ≤ q → q < b + c → q < 1024 → Meter.pt t q = { x with peak := 0, tp := 0, held := 0, hold := 0, clips := 0 }) ∧
    (q < b ∨ b + c ≤ q → Meter.pt t q = x)) ∧
  (∀ (u t : State) m c n x, x = Meter.pt u m → t = Meter.applyPost u 1 (16 * m) c n →
    (Meter.pt t m).cfg0 = w32 c ∧ (Meter.pt t m).cfg1 = x.cfg1 ∧
    (fld (w32 c) 13 0 ≠ fld x.cfg0 13 0 → (Meter.pt t m).win = []) ∧ (fld (w32 c) 13 0 = fld x.cfg0 13 0 → (Meter.pt t m).win = x.win)) ∧
  (∀ (u t : State) k op n, t = Meter.applyPost u 2 k op n →
    (op = 1 → Meter.loud t k = { running := true, start := n }) ∧
    (op = 2 → Meter.loud t k = { Meter.loud u k with running := false }) ∧
    (op = 3 → (Meter.loud t k).start = n ∧ (Meter.loud t k).ends = 0 ∧ (Meter.loud t k).running = (Meter.loud u k).running) ∧
    (op = 1 ∨ op = 3 → t.rd (Reg.meterLoudMs k) = 0x80008000 ∧ t.rd (Reg.meterLoudI k) = 0x8000 ∧ t.rd (Reg.meterLoudStatus k) = 0))

/-- The rows of the capture chains and the measurement service. Job states: 0 idle, 1 waiting, 2 playing, 3 processing. -/
def Obligations.CaptureCommandsAct : Prop :=
  (∀ s : State, s.running = true →
    -- DETECTOR_CLEAR, DETECTOR_CONFIG_WRITE
    (s.pageUp 0x55 = true → ∀ v cmd kind b c u,
      (cmd = .detectorClear v ∧ kind = 0 ∧ b = fld v 7 0 ∧ c = fld v 23 16 ∧ u = s.begin) ∨
      (∃ m w, cmd = .detectorConfigWrite m w v ∧ m < 144 ∧ w < 4 ∧ kind = 1 ∧ b = 16 * m + 4 * w ∧
        c = (v &&& (if w = 0 then 0x3FFF else if w = 1 then 0xFFFFFFFF else if w = 2 then 0xFFFFFF else 0)).toNat ∧
        u = s.begin.st32 (winBase 0x55 + 0x90000 + b) (w32 c)) →
      (s.rateOn = true → Completes cmd s (fun t => t = { u with capt := { s.capt with
        posts := s.capt.posts ++ [{ ready := s.clk.mono + 2 * usU, a := kind, b := b, c := c }] } })) ∧
      (s.rateOn = false → Completes cmd s (fun t => t = Capt.applyPost u kind b c))) ∧
    -- CAPTURE_BLEND_END, SENSE_OVERLOAD
    (∀ c x, x = Capt.ch s c →
      (∀ old r, x.blend = some (old, r) → r.h ≤ s.clk.frame → Completes (.captureBlendEnd c) s (fun t =>
        Capt.ch t c = { x with blend := none } ∧ bit (t.rd (Reg.irqStatus 0x55)) 3 = true ∧ ∀ d, d ≠ c → Capt.ch t d = Capt.ch s d)) ∧
      (x.blend = none ∨ (∃ old r, x.blend = some (old, r) ∧ s.clk.frame < r.h) → Completes (.captureBlendEnd c) s (fun t => t = s.begin)) ∧
      (c < 128 → Capt.alive s c = true → Completes (.senseOverload c) s (fun t => bit (t.rd (Reg.captOvl (c / 32))) (c % 32) = true ∧
        bit (t.rd (Reg.irqStatus 0x55)) 1 = true ∧ s.regsOnly t [Reg.captOvl (c / 32), Reg.irqStatus 0x55])) ∧
      (128 ≤ c ∨ Capt.alive s c = false → Completes (.senseOverload c) s (fun t => t = s.begin))) ∧
    -- MEAS_START, MEAS_ABORT, MEAS_CLEAR
    (s.pageUp 0x54 = true → ∀ m, m = s.meas →
      (∀ j e late, j < 16 → e = s.ldLe (Meas.jobAddr j) 128 →
        late = (!s.rateOn || decide (s.rd64 Reg.measStartLo Reg.measStartHi < s.firstTickAfter (2 * usU))) →
        (∀ c, Meas.refusal s e late = some c → Completes (.measStart j) s (fun t => t.meas = m ∧
          fld (t.rd (Reg.faultCause 0x54)) 7 0 = c ∧ bit (t.rd (Reg.irqStatus 0x54)) 1 = true)) ∧
        (m.state ≠ 0 ∨ Meas.fieldsOk e = false ∨ Meas.mics e = [] ∨ Meas.outputs e = [] → Meas.refusal s e late = some 0x80) ∧
        (late = true → Meas.refusal s e late = some 0x80 ∨ Meas.refusal s e late = some 0x81) ∧
        (Meas.refusal s e late = none → Completes (.measStart j) s (fun t => t = { s.begin with meas := { m with
          state := 1, job := j, entry := e, tones := s.ldLe (winBase 0x54 + 0x1000) 2048
          start := s.rd64 Reg.measStartLo Reg.measStartHi, runs := Meas.runList e, paths := [], abortAt := none, run := 0, todo := [], caps := [] } }))) ∧
      (m.state = 0 ∨ m.abortAt.isSome = true → Completes .measAbort s (fun t => t = s.begin)) ∧
      (m.state = 1 → m.abortAt = none → Completes .measAbort s (fun t => t.meas = { m with state := 0 } ∧
        fld (t.rd (Reg.faultCause 0x54)) 7 0 = 0x83 ∧ bit (t.rd (Reg.irqStatus 0x54)) 1 = true)) ∧
      (m.state ≠ 0 → m.state ≠ 1 → m.abortAt = none → Completes .measAbort s (fun t => t.meas = { m with abortAt := some s.clk.frame } ∧
        fld (t.rd (Reg.faultCause 0x54)) 7 0 = 0x83 ∧ bit (t.rd (Reg.irqStatus 0x54)) 1 = true)) ∧
      (m.state ≠ 0 → Completes .measClear s (fun t => t.meas = m ∧ fld (t.rd (Reg.faultCause 0x54)) 7 0 = 0x80 ∧ ∀ a, t.ld8 a = s.ld8 a)) ∧
      (m.state = 0 → Completes .measClear s (fun t => t.meas = { m with entries := 0, used := 0, todo := [] } ∧ ∀ a, t.ld8 a =
        if winBase 0x54 + 0x2000 ≤ a ∧ a < winBase 0x54 + 0x12000 then memDefault a else s.ld8 a))) ∧
    -- MEAS_RUN_END, RESPONSE_STORED
    (∀ m len p begin_, m = s.meas → len = Meas.runLen m.entry s.clk.rate → p = Meas.period m.entry s.clk.rate →
        begin_ = m.start + Meas.fadeLen m.entry s.clk.rate + m.run * len →
      (m.state ≠ 2 ∨ m.abortAt.isSome = true ∨ m.runs.length ≤ m.run ∨ s.clk.frame < begin_ + len →
        Completes .measRunEnd s (fun t => t = s.begin)) ∧
      (m.state = 2 → m.abortAt = none → m.run < m.runs.length → begin_ + len ≤ s.clk.frame → Completes .measRunEnd s (fun t =>
        t = { s.begin with meas := { m with
          run := m.run + 1, caps := Tab.drop (fun k => k / 16 == m.run) m.caps, todo := m.todo ++ (Meas.mics m.entry).map (fun k =>
            (m.run, begin_ + (if Meas.kind m.entry = 1 then 0 else p), k,
              Meas.average (Tab.get (fun _ => []) m.caps (16 * m.run + k)) (Meas.reps m.entry) p)) } })) ∧
      (m.todo = [] ∨ s.budget.admitted < 3 → Completes .responseStored s (fun t => t = s.begin)) ∧
      (∀ r r0 k avg rest out ix lo n, m.todo = (r, r0, k, avg) :: rest → 3 ≤ s.budget.admitted → k < 16 → out ≤ 0xFFFF →
          out = (if Meas.each m.entry then nth 0xFFFF (nth [] m.runs r) 0 else 0xFFFF) →
          ix = winBase 0x54 + 0x2000 + 32 * m.entries → lo = Meas.base s + Meas.workBytes s + m.used → n = Meas.respBytes m.entry s.clk.rate →
        Completes .responseStored s (fun t => t.meas.todo = rest ∧ t.meas.entries = m.entries + 1 ∧ t.meas.used = m.used + n ∧
          bit (t.rd (Reg.irqStatus 0x54)) 2 = true ∧ fld (t.ld32 ix) 15 0 = out ∧ fld (t.ld32 ix) 19 16 = k ∧
          t.ld32 (ix + 4) = w32 r0 ∧ t.ld32 (ix + 8) = w32 (r0 / 2 ^ 32) ∧ t.ld32 (ix + 12) = w32 m.used ∧
          t.ld32 (ix + 28) = w32 s.clk.rate ∧ (Meas.kind m.entry ≠ 0 → ∀ a, (a < ix ∨ ix + 32 ≤ a) → (a < lo ∨ lo + n ≤ a) → t.ld8 a = s.ld8 a) ∧
          (rest = [] → m.state = 3 → t.meas.state = 0 ∧ (m.abortAt = none → bit (t.rd (Reg.irqStatus 0x54)) 0 = true)) ∧
          (rest ≠ [] ∨ m.state ≠ 3 → t.meas.state = m.state))))) ∧
  -- the average of a run's samples, newest first
  (∀ (l : List Int) reps p i, i < p → nth 0 (Meas.average l reps p) i =
    roundDiv ((List.range reps).foldl (fun a q => a + nth 0 l.reverse (q * p + i)) 0) reps) ∧
  -- posts that take effect
  (∀ (u t : State) b c, t = Capt.applyPost u 0 b c → ∀ k x, x = Capt.ch u k →
    (b ≤ k → k < b + c → k < 144 → Capt.ch t k = { x with peak := 0 }) ∧ (k < b ∨ b + c ≤ k → Capt.ch t k = x)) ∧
  (∀ (u t : State) k c x, x = Capt.ch u k →
    (t = Capt.applyPost u 1 (16 * k) c → (Capt.ch t k).cfg0 = w32 c ∧ (Capt.ch t k).cfg1 = x.cfg1 ∧
      (fld (w32 c) 13 0 ≠ fld x.cfg0 13 0 → (Capt.ch t k).win = []) ∧ (fld (w32 c) 13 0 = fld x.cfg0 13 0 → (Capt.ch t k).win = x.win)) ∧
    (t = Capt.applyPost u 1 (16 * k + 4) c → Capt.ch t k = { x with cfg1 := w32 c }) ∧
    (t = Capt.applyPost u 1 (16 * k + 8) c → Capt.ch t k = { x with cfg2 := w32 c }))

/-- The rows of the memory controller. -/
def Obligations.DramCommandsAct : Prop :=
  ∀ s : State, s.running = true → ∀ m, m = s.memc →
    -- DRAM_REQUEST
    (∀ port ini (wr : Bool) addr len data ecc wait ex n c, n = (if wr then data.length else len) → c = Memc.channel addr →
      (s.pageUp Memc.page = false ∨ Memc.portOk ini port = false ∨ inDram s.variant addr n = false ∨ n = 0 →
        Completes (.dramRequest port ini wr addr len data ecc wait ex) s (fun t => t = s.begin)) ∧
      (s.pageUp Memc.page = true → Memc.portOk ini port = true → inDram s.variant addr n = true → n ≠ 0 →
        (wait = true → Completes (.dramRequest port ini wr addr len data ecc wait ex) s (fun t => (∀ a, t.ld8 a = s.ld8 a) ∧
          (∃ q : DramReq, q.port = port ∧ q.initiator = ini ∧ q.write = wr ∧ q.addr = addr ∧ q.len = n ∧ q.arrival = s.clk.mono ∧
            t.memc.queue.map (fun r => { r with urgency := 0 }) = (m.queue ++ [q]).map (fun r => { r with urgency := 0 })) ∧
          (m.sr.testBit c = true → m.srWhy = 0 → t.memc.sr = m.sr - 2 ^ c))) ∧
        (wait = false → m.queue = [] → Memc.closed s = false → ∀ own, own = (decide (addr < Memc.deviceArea s.variant) || Memc.owns s.variant ini addr) →
          Completes (.dramRequest port ini wr addr len data ecc wait ex) s (fun t => t.memc.queue = [] ∧ t.memc.bytes = m.bytes + n ∧
            (own = true → wr = true → ∀ a, t.ld8 a = if addr ≤ a ∧ a < addr + n then data.getD (a - addr) 0 else s.ld8 a) ∧
            (own = false ∨ wr = false → ∀ a, t.ld8 a = s.ld8 a) ∧
            (own = true → wr = false → t.ctl.busData = s.ldN addr n) ∧ (own = false → wr = false → t.ctl.busData = List.replicate n 0) ∧
            (own = true → t.ctl.busResp = if ecc = 2 ∧ ¬(wr = true ∧ addr % 64 = 0 ∧ n % 64 = 0) then 2 else 0))))) ∧
    -- BANK_REFRESH, URGENCY_RAISE
    (∀ c b p, p = Tab.get (fun _ => 0) m.postponed (16 * c + b) →
      (s.pageUp Memc.page = false ∨ 8 ≤ c ∨ 16 ≤ b ∨ m.sr.testBit c = true ∨ Memc.closed s = true →
        Completes (.bankRefresh c b) s (fun t => t = s.begin)) ∧
      (s.pageUp Memc.page = true → c < 8 → b < 16 → m.sr.testBit c = false → Memc.closed s = false →
        Completes (.bankRefresh c b) s (fun t =>
          (∀ k, k ≠ 16 * c + b → Tab.get (fun _ => 0) t.memc.postponed k = Tab.get (fun _ => 0) m.postponed k) ∧
          (Memc.urgent s c = true → Tab.get (fun _ => 0) t.memc.postponed (16 * c + b) = if p < 8 then p + 1 else p) ∧
          (Memc.urgent s c = true → p < 8 → t.memc.open_ = m.open_) ∧
          (Memc.urgent s c = false → Tab.get (fun _ => 0) t.memc.postponed (16 * c + b) = p - 1 ∧
            Tab.get (fun _ => none) t.memc.open_ (16 * c + b) = none)))) ∧
    (Memc.nextRaise s = none → Completes .urgencyRaise s (fun t => t = s.begin)) ∧
    (∀ d, Memc.nextRaise s = some d → Completes .urgencyRaise s (fun t => t.clk.mono = max s.clk.mono d ∧
      t.memc.queue = m.queue.map (fun q => { q with urgency := max q.urgency (Memc.urgencyAt s q.port (t.clk.mono - q.arrival)) }))) ∧
    -- SCRUB_READ, MR4_POLL
    (∀ ecc, (s.pageUp Memc.page = false ∨ s.efF Reg.memcScrub 7 0 = 0 ∨ Memc.closed s = true →
        Completes (.scrubRead ecc) s (fun t => t = s.begin)) ∧
      (s.pageUp Memc.page = true → s.efF Reg.memcScrub 7 0 ≠ 0 → Memc.closed s = false → Completes (.scrubRead ecc) s (fun t =>
        t.memc.scrubAt = (if (m.scrubAt + 1) * 64 < s.variant.dramBytes then m.scrubAt + 1 else 0) ∧ (∀ a, t.ld8 a = s.ld8 a) ∧
        (ecc = 1 → t.rd Reg.memcEccCe = satAdd (s.rd Reg.memcEccCe) 1 ∧ bit (t.rd (Reg.irqStatus Memc.page)) 0 = true ∧
          fld (t.rd (Reg.faultCause Memc.page)) 7 0 = 0x85 ∧ t.rd Reg.memcEccAddrLo = w32 ((dramBase + m.scrubAt * 64) / 64 * 64)) ∧
        (ecc = 2 → t.rd Reg.memcEccUe = satAdd (s.rd Reg.memcEccUe) 1 ∧ bit (t.rd (Reg.irqStatus Memc.page)) 1 = true ∧
          fld (t.rd (Reg.faultCause Memc.page)) 7 0 = 0x80) ∧
        (ecc ≠ 1 → ecc ≠ 2 → t.regs = s.regs)))) ∧
    (∀ die fd above beyond ns, s.pageUp Memc.page = false ∨ 2 ≤ die ∨ m.switching.isSome = true →
      Completes (.mr4Poll die fd above beyond ns) s (fun t => t = s.begin)) ∧
    (s.pageUp Memc.page = true → m.switching = none → ∀ die fd above beyond ns was now, die < 2 → was = m.hot.testBit die →
      now = (above || (was && decide (Tab.get (fun _ => 0) m.cool die = 0))) → Completes (.mr4Poll die fd above beyond ns) s (fun t =>
        t.memc.hot.testBit die = now ∧ (∀ d, d ≠ die → t.memc.hot.testBit d = m.hot.testBit d) ∧
        Tab.get (fun _ => 0) t.memc.cool die = (if above then 0 else min (Tab.get (fun _ => 0) m.cool die + 1) 2) ∧
        fld (t.rd Reg.memcTemp) (8 * die + 2) (8 * die) = fd % 8 ∧ min ns 500 ≤ (t.rd Reg.memcWindowMaxNs).toNat ∧
        (now ≠ was ∨ beyond = true → bit (t.rd (Reg.irqStatus Memc.page)) 5 = true) ∧
        (beyond = true → fld (t.rd (Reg.faultCause Memc.page)) 7 0 = 0x84))) ∧
    -- SET_POINT_HELD_START, SET_POINT_SWITCH_DONE
    (m.held = none ∨ m.training.isSome = true ∨ m.switching.isSome = true ∨ m.srWhy ≠ 0 →
      Completes .setPointHeldStart s (fun t => t = s.begin)) ∧
    (∀ c bt, m.held = some (c, bt) → m.training = none → m.switching = none → m.srWhy = 0 → Completes .setPointHeldStart s (fun t =>
      t.memc.held = none ∧ Memc.holdEnd s ≤ t.clk.mono ∧ t.memc.fsp = m.fsp ∧ (c = m.fsp → t.memc.switching = none) ∧
      (c ≠ m.fsp → t.memc.switching = some (c, t.clk.mono, bt && !(s.boot.trainValid.testBit c))))) ∧
    (m.switching = none → ∀ ns, Completes (.setPointSwitchDone ns) s (fun t => t = s.begin)) ∧
    (∀ c t0 retrain ns d, m.switching = some (c, t0, retrain) → d = min ns (if retrain then 40015000 else 15000) →
      Completes (.setPointSwitchDone ns) s (fun t => t.memc.fsp = c ∧ t.memc.switching = none ∧ t.clk.mono = max s.clk.mono (t0 + d * nsU) ∧
        t.memc.lastEnd = some t.clk.mono ∧ bit (t.rd (Reg.irqStatus Memc.page)) 3 = true ∧ d ≤ (t.rd Reg.memcWindowMaxNs).toNat ∧
        (retrain = true → t.boot.trainValid.testBit c = true) ∧ (retrain = false → t.boot = s.boot))) ∧
    -- TRAINING, TRAINING_DONE
    (s.pageUp Memc.page = true → ∀ k, k < 16 →
      (Memc.rateSet s = true ∨ m.switching.isSome = true ∨ m.training.isSome = true → Completes (.training k) s (fun t => t.memc = m ∧
        fld (t.rd (Reg.faultCause Memc.page)) 7 0 = 0x83 ∧ bit (t.rd (Reg.irqStatus Memc.page)) 2 = true)) ∧
      (Memc.rateSet s = false → m.switching = none → m.training = none → Completes (.training k) s (fun t =>
        t = { s.begin with memc := { m with training := if k = 0 then none else some k } }))) ∧
    (m.training = none → ∀ f, Completes (.trainingDone f) s (fun t => t = s.begin)) ∧
    (∀ k f, m.training = some k → Completes (.trainingDone f) s (fun t => t.memc.training = none ∧
      bit (t.rd (Reg.irqStatus Memc.page)) 4 = true ∧ (∀ c, c < 4 →
        t.boot.trainValid.testBit c = if k.testBit c then !f.testBit c else s.boot.trainValid.testBit c) ∧
      (m.queue = [] → (∃ c, c < 4 ∧ k.testBit c = true ∧ f.testBit c = true) → fld (t.rd (Reg.faultCause Memc.page)) 7 0 = 0x82))) ∧
    -- IDLE_SELF_REFRESH_ENTRY
    (∀ c us, us = s.efF Reg.memcSrIdleUs 15 0 →
      (s.pageUp Memc.page = false ∨ us = 0 ∨ 8 ≤ c ∨ Memc.closed s = true ∨ m.sr.testBit c = true ∨ (∃ q ∈ m.queue, Memc.channel q.addr = c) →
        Completes (.idleSelfRefreshEntry c) s (fun t => t = s.begin)) ∧
      (s.pageUp Memc.page = true → us ≠ 0 → c < 8 → Memc.closed s = false → m.sr.testBit c = false → (∀ q ∈ m.queue, Memc.channel q.addr ≠ c) →
        Completes (.idleSelfRefreshEntry c) s (fun t => t.memc.sr.testBit c = true ∧ (∀ d, d ≠ c → t.memc.sr.testBit d = m.sr.testBit d) ∧
          t.clk.mono = max s.clk.mono (Tab.get (fun _ => 0) m.lastReq c + us * usU))))

/-- The rows of the Weave and of PCI Express. -/
def Obligations.WeaveCommandsAct : Prop :=
  ∀ s : State, s.running = true →
    -- a standby's own write, and writes that nothing held stands before
    (∀ b, s.isStandby = false → Hoop.ownWrite s b = b.data) ∧
    (∀ b i, s.isStandby = true → i < b.data.length → nth (0, false) (Hoop.ownWrite s b) i =
      ((nth (0, false) b.data i).1, (nth (0, false) b.data i).2 && Hoop.stands s b (b.addr + i))) ∧
    (∀ i a, (∀ e ∈ s.coil.heldSubmits, e.1 ≠ i) → a / 0x1000 ≠ Coil.page → s.warp.held = none ∨ (i ≠ 0 ∧ a / 0x1000 ≠ Warp.page) →
      Weave.behind s i a = s) ∧
    -- WEAVE_BURST: no burst, unmapped, waiting
    (∀ b w, b.ok = false → Completes (.weaveBurst b w) s (fun t => t = s.begin)) ∧
    (∀ b w, b.ok = true → Weave.target s.variant b.initiator b.addr = none →
      Completes (.weaveBurst b w) s (fun t => t = Weave.error s.begin b 1 0)) ∧
    (∀ b x, b.ok = true → Weave.target s.variant b.initiator b.addr = some x → Completes (.weaveBurst b true) s (fun t =>
      t = { s.begin with weave := { s.weave with waiting := s.weave.waiting ++ [b] } })) ∧
    -- WEAVE_BURST: granted at once, or held by a lock
    (∀ b x k, b.ok = true → Weave.target s.variant b.initiator b.addr = some x → s.weave.waiting = [] → k = (Weave.arb s x).lock →
      (∀ i since n, k = some (i, since, n) → i ≠ b.initiator → Completes (.weaveBurst b false) s (fun t =>
        t = { s.begin with weave := { s.weave with waiting := [b] } })) ∧
      (b.locked = false → k = none → 2 ≤ x → x < 6 → (∀ e ∈ s.coil.heldSubmits, e.1 ≠ b.initiator) → (b.initiator = 0 → s.warp.held = none) → ∀ d, d = Hoop.ownWrite s b →
       Completes (.weaveBurst b false) s (fun t =>
        t.weave.waiting = [] ∧ (∀ y, y ≠ x → Weave.arb t y = Weave.arb s y) ∧
        Weave.arb t x = { Weave.arb s x with parked := b.initiator, turn := none, used := 0 } ∧
        (b.targetErr = true → t.ctl.busResp = 2 ∧ t.mem = s.mem ∧ t.rd Reg.weaveTargetErr = satAdd (s.rd Reg.weaveTargetErr) 1) ∧
        (b.targetErr = false → t.ctl.busResp = 0 ∧ t.regs = s.regs ∧
          (b.write = false → t.ctl.busData = s.ldN b.addr b.len ∧ t.mem = s.mem) ∧
          (b.write = true → ∀ a, t.ld8 a = if b.addr ≤ a ∧ a < b.addr + b.data.length ∧ (nth (0, false) d (a - b.addr)).2 = true
            then (nth (0, false) d (a - b.addr)).1 else s.ld8 a)))) ∧
      -- locked sequences
      (b.locked = true → 2 ≤ x → x < 6 → b.targetErr = false → (∀ e ∈ s.coil.heldSubmits, e.1 ≠ b.initiator) → (b.initiator = 0 → s.warp.held = none) → 
        (k = none → (Weave.arb s x).broken ≠ some b.initiator → Weave.lockOf s b.initiator = none →
          Completes (.weaveBurst b false) s (fun t => t.ctl.busResp = 0 ∧
            (Weave.arb t x).lock = if b.final then none else some (b.initiator, s.clk.stake, 1))) ∧
        (∀ since n, k = some (b.initiator, since, n) → (Weave.arb s x).broken ≠ some b.initiator → Weave.lockOf s b.initiator = some x →
          (s.clk.stake < since + 4 * usU → Completes (.weaveBurst b false) s (fun t => t.ctl.busResp = 0 ∧
            (Weave.arb t x).lock = (if b.final ∨ 16 ≤ n then none else some (b.initiator, since, n + 1)) ∧
            (Weave.arb t x).broken = if b.final = false ∧ 16 ≤ n then some b.initiator else (Weave.arb s x).broken)) ∧
          (since + 4 * usU ≤ s.clk.stake → Completes (.weaveBurst b false) s (fun t => t.ctl.busResp = 3 ∧ t.mem = s.mem ∧
            (Weave.arb t x).lock = none ∧ (Weave.arb t x).broken = if b.final then none else some b.initiator))) ∧
        (k = none → (Weave.arb s x).broken = some b.initiator → Completes (.weaveBurst b false) s (fun t => t.ctl.busResp = 3 ∧
          t.mem = s.mem ∧ t.rd Reg.weaveLockBreaks = satAdd (s.rd Reg.weaveLockBreaks) 1 ∧ (Weave.arb t x).lock = none ∧
          (Weave.arb t x).broken = if b.final then none else some b.initiator))) ∧
      (b.locked = true → 6 ≤ x → x < 19 → k = none → Completes (.weaveBurst b false) s (fun t => t.ctl.busResp = 1 ∧ t.mem = s.mem ∧
        (∀ y, (Weave.arb t y).lock = (Weave.arb s y).lock) ∧ t.rd Reg.weaveAddrErr = satAdd (s.rd Reg.weaveAddrErr) 1))) ∧
    -- LOCK_TIMEOUT
    ((∀ y, y < 19 → (Weave.arb s y).lock = none) → Completes .lockTimeout s (fun t => t = s.begin)) ∧
    (∀ x i since n, x < 19 → (Weave.arb s x).lock = some (i, since, n) → (∀ y, y < 19 → y ≠ x → (Weave.arb s y).lock = none) →
      s.weave.waiting = [] → Completes .lockTimeout s (fun t =>
        t.clk.stake = max s.clk.stake (since + 4 * usU) ∧ t.clk = (s.toStake (since + 4 * usU)).clk ∧
        Weave.arb t x = { Weave.arb s x with lock := none, broken := some i } ∧ (∀ y, y ≠ x → Weave.arb t y = Weave.arb s y) ∧
        t = { s.begin with clk := t.clk, weave := { s.weave with arbs := t.weave.arbs } })) ∧
    -- INITIATOR_RESET_MID_BURST
    (∀ b d, b.ok = false ∨ b.beats ≤ d ∨ Weave.target s.variant b.initiator b.addr = none →
      Completes (.initiatorResetMidBurst b d) s (fun t => t = s.begin)) ∧
    (∀ b d x kept, b.ok = true → d < b.beats → Weave.target s.variant b.initiator b.addr = some x → 2 ≤ x → x < 6 → b.targetErr = false →
      (∀ e ∈ s.coil.heldSubmits, e.1 ≠ b.initiator) → (b.initiator = 0 → s.warp.held = none) → ∀ e, e = Hoop.ownWrite s b →
      kept = 16 * d - (if d = 0 then 0 else b.addr % 16) → Completes (.initiatorResetMidBurst b d) s (fun t =>
        (b.write = true → ∀ a, t.ld8 a = if b.addr ≤ a ∧ a < b.addr + b.data.length ∧ a - b.addr < kept ∧
            (nth (0, false) e (a - b.addr)).2 = true then (nth (0, false) e (a - b.addr)).1 else s.ld8 a) ∧
        (b.write = false → t.mem = s.mem) ∧ t.rd Reg.weaveResetBursts = satAdd (s.rd Reg.weaveResetBursts) 1 ∧
        fld (t.rd Reg.weaveRecInfo) 31 28 = 3 ∧ fld (t.rd Reg.weaveRecInfo) 17 13 = b.beats - d ∧
        fld (t.rd (Reg.faultCause 0xF8)) 7 0 = 0x82 ∧ bit (t.rd (Reg.irqStatus 0xF8)) 2 = true ∧
        (∀ y, Weave.lockOf s b.initiator = some y → (Weave.arb t y).lock = none))) ∧
    -- PCIE_LINK_DOWN
    ((∀ b ∈ s.weave.waiting, b.initiator = 0) → Completes .pcieLinkDown s (fun t => t.weave.waiting = [] ∧ t.mem = s.mem ∧
      t.rd Reg.weaveResetBursts = satAdd (s.rd Reg.weaveResetBursts) s.weave.waiting.length ∧
      (∀ y, Weave.lockOf s 0 = some y → (Weave.arb t y).lock = none) ∧ (∀ y, y < 19 → (Weave.arb t y).broken ≠ some 0) ∧
      (s.weave.waiting = [] → t = { s.begin with weave := t.weave }))) ∧
    -- PCIE_ATOMIC_OP
    (∀ bar off size op x y, (size ≠ 4 ∧ size ≠ 8) ∨ off % size ≠ 0 ∨ 2 < op →
      Completes (.pcieAtomicOp bar off size op x y) s (fun t => t = s.begin)) ∧
    (∀ bar off size op x y, size = 4 ∨ size = 8 → off % size = 0 → op ≤ 2 →
      (Pcie.addr s.variant bar off = none → Completes (.pcieAtomicOp bar off size op x y) s (fun t =>
        t.ctl.busResp = 1 ∧ t.mem = s.mem ∧ t.rd Reg.weaveAddrErr = satAdd (s.rd Reg.weaveAddrErr) 1)) ∧
      (∀ a, Pcie.addr s.variant bar off = some a →
        (a < 0x1000000 → Completes (.pcieAtomicOp bar off size op x y) s (fun t => t = s.begin.answer 4 [])) ∧
        (∀ z, Weave.target s.variant 0 a = some z → 2 ≤ z → z < 6 → s.weave.waiting = [] → (Weave.arb s z).lock = none →
          (Weave.arb s z).broken ≠ some 0 → Weave.lockOf s 0 = none →
            (∀ e ∈ s.coil.heldSubmits, e.1 ≠ 0) → s.warp.held = none → Completes (.pcieAtomicOp bar off size op x y) s (fun t =>
            t.ctl.busResp = 0 ∧ t.ctl.busData = s.ldN a size ∧ (Weave.arb t z).lock = none ∧ t.regs = s.regs ∧
            ∀ c, t.ld8 c = if a ≤ c ∧ c < a + size ∧ (s.isStandby = false ∨ Hoop.stands s { initiator := 0 } c = true) then
              nth 0 (leBytes size (Pcie.combine op (8 * size) (s.ldLe a size) x y)) (c - a) else s.ld8 c))))

/-- The rows of reset, start and shutdown. -/
def Obligations.StartCommandsAct : Prop :=
  ∀ s : State, ∀ b, b = s.boot →
    -- PORST_ASSERT, SYSRST_ASSERT
    Completes .porstAssert s (fun t => t.boot.inReset = true ∧ t.boot.phase = 0 ∧ t.running = false ∧ t.faultN = true ∧
      t.mem = [] ∧ (∀ a, t.rd a = regReset s.variant a ∧ t.ef a = regReset s.variant a) ∧ t.clk.ticking = false ∧
      t.plait.slots = [] ∧ t.boot.trainValid = 0 ∧ t.boot.otp = b.otp ∧ t.boot.sector0 = b.sector0 ∧ t.boot.sector1 = b.sector1) ∧
    Completes .sysrstAssert s (fun t => t.boot.inReset = true ∧ t.boot.phase = 0 ∧ t.running = false ∧ t.faultN = true ∧
      (∀ a, t.ld8 a = if dramBase ≤ a then s.ld8 a else 0) ∧ t.rd Reg.bootAttempts = s.rd Reg.bootAttempts ∧
      (∀ a, a ≠ Reg.bootAttempts → t.rd a = regReset s.variant a ∧ t.ef a = regReset s.variant a) ∧ t.clk.ticking = false ∧
      t.boot.train = b.train ∧ t.boot.trainValid = b.trainValid ∧ t.boot.otp = b.otp ∧ t.boot.sector0 = b.sector0 ∧
      t.boot.sector1 = b.sector1) ∧
    -- RESET_RELEASE
    (b.inReset = false → ∀ e, Completes (.resetRelease e) s (fun t => t = s.begin)) ∧
    (b.inReset = true → ∀ e : StartEnv, ∀ k, k = (Boot.validRecord s).isSome →
      (e.pllLock = false → b.safeOrigin = false → Completes (.resetRelease e) s (fun t => t.boot.inReset = false ∧ t.boot.phase = 7 ∧
        t.rd Reg.bootAttempts = satAdd (s.rd Reg.bootAttempts) 1 ∧ fld (t.rd Reg.bootLastErr) 7 0 = 0x88 ∧
        t.clk.mono = s.clk.mono + 3 * msU ∧ t.boot.retryDue = some (t.clk.mono + Boot.delay (b.fails + 1)))) ∧
      (e.pllLock = true → k = true ∨ (e.window % 16 = 15 ∧ e.testFail = none) → Completes (.resetRelease e) s (fun t =>
        t.boot.inReset = false ∧ t.boot.phase = 4 ∧ t.boot.kind = (if k then 1 else 0) ∧ t.variant = Otp.variant s ∧
        t.boot.lc = Otp.lifeCycle s ∧ t.budget.domains = presentDomains (Otp.variant s) ∧ t.clk.mono = s.clk.mono + e.elapsed * nsU ∧
        t.rd Reg.bootAttempts = satAdd (s.rd Reg.bootAttempts) 1)) ∧
      (e.pllLock = true → k = false → e.window % 16 ≠ 15 → Completes (.resetRelease e) s (fun t =>
        t.boot.phase = 3 ∧ t.bist.waiting = true ∧ fld (t.rd (Reg.faultCause 5)) 7 0 = 0x81 ∧ bit (t.rd (Reg.irqStatus 5)) 2 = true)) ∧
      (∀ p i, e.pllLock = true → k = false → e.window % 16 = 15 → e.testFail = some (p, i) → 1 ≤ p → p ≤ 3 →
        Completes (.resetRelease e) s (fun t => t.boot.phase = 8 ∧ t.rd Reg.bistResult = w32 (at_ 28 p + i % 65536)))) ∧
    -- SHUTDOWN_PIN at a frozen device
    (s.fault.frozen = true → b.inReset = false → s.budget.standby = false → Completes .shutdownPin s (fun t =>
      t = { s.begin with fault := { s.fault with heldShutdown := true } })) ∧
    (s.running = true →
      -- SELFTEST_WINDOW_HELD
      (s.bist.waiting = false ∨ b.phase ≠ 3 → Completes .selftestWindowHeld s (fun t =>
        t = { s.begin with bist := { s.bist with window := 15, waiting := false } })) ∧
      (s.bist.waiting = true → b.phase = 3 → b.env.testFail = none → Completes .selftestWindowHeld s (fun t =>
        t.boot.phase = 4 ∧ t.bist.waiting = false ∧ t.bist.window = 15 ∧ fld (t.rd Reg.bistStatus) 3 0 = 7)) ∧
      -- START_READY
      (b.phase ≠ 4 ∨ (b.source = 1 ∧ b.hostGo = none) → ∀ x y n, Completes (.startReady x y n) s (fun t => t = s.begin)) ∧
      (∀ x y n u, b.phase = 4 → (b.source = 1 → b.hostGo.isSome = true) → u = s.begin.pass (n * nsU) →
        (∀ l k code, Start.image u x y = (l, k, some code) → b.safeOrigin = false → Completes (.startReady x y n) s (fun t =>
          t.boot.phase = 7 ∧ t.boot.fails = b.fails + 1 ∧ t.rd Reg.bootLastErr = w32 (at_ 8 b.source + code) ∧
          t.boot.retryDue = some (u.clk.mono + Boot.delay (b.fails + 1)))) ∧
        (∀ img k v s3, Start.image u x y = (img, k, none) → (b.kind = 0 → ∀ i, b.env.testFail ≠ some (4, i)) →
          v = { u with boot := { u.boot with slot := k, phase := 5 }, osier := { u.osier with devLoaded := true } } →
          Start.sections (if b.kind = 0 then v.wrF Reg.bistStatus 3 0 15 else v) img (Img.sections img) = (s3, none) →
          s3.boot.heldShutdown = false → Completes (.startReady x y n) s (fun t =>
            t.boot.phase = 6 ∧ t.boot.fails = 0 ∧ bit (t.rd (Reg.irqStatus 4)) 0 = true ∧ t.hoop.readyAt = s3.clk.mono ∧
            t.rd Reg.bootImageIdLo = w32 (Img.num img 0x18 8) ∧ t.mem = s3.mem ∧ t.eff = s3.eff))) ∧
      -- HOST_LOAD_GO, HOST_LOAD_TIMEOUT, START_ATTEMPT_FAIL
      (s.pageUp 4 = true → ∀ n, n < 2 ^ 25 →
        (b.phase ≠ 4 ∨ b.source ≠ 1 ∨ b.hostGo.isSome = true → Completes (.hostLoadGo n) s (fun t => t = s.begin)) ∧
        (b.phase = 4 → b.source = 1 → b.hostGo = none →
          (0 < n → n ≤ 16777216 → Boot.check s (Boot.hostImage s n) n = none → Completes (.hostLoadGo n) s (fun t =>
            t = { s.begin with boot := { b with hostGo := some n, hostDue := none } })) ∧
          (∀ code, b.safeOrigin = false → (n = 0 ∧ code = 0x81) ∨ (16777216 < n ∧ code = 0x81) ∨
              (0 < n ∧ n ≤ 16777216 ∧ Boot.check s (Boot.hostImage s n) n = some code) → Completes (.hostLoadGo n) s (fun t =>
            t.boot.phase = 7 ∧ t.rd Reg.bootLastErr = w32 (256 + code) ∧ t.boot.hostGo = none)))) ∧
      (b.hostDue = none ∨ b.phase ≠ 4 ∨ b.hostGo.isSome = true → Completes .hostLoadTimeout s (fun t => t = s.begin)) ∧
      (∀ d, b.hostDue = some d → b.phase = 4 → b.hostGo = none → b.safeOrigin = false → Completes .hostLoadTimeout s (fun t =>
        t.boot.phase = 7 ∧ t.clk.mono = max s.clk.mono d ∧ fld (t.rd Reg.bootLastErr) 7 0 = 0x80 ∧ t.boot.fails = b.fails + 1)) ∧
      (∀ code, b.phase = 0 ∨ 5 < b.phase ∨ code < 0x80 ∨ 0x88 < code → Completes (.startAttemptFail code) s (fun t => t = s.begin)) ∧
      (∀ code, 1 ≤ b.phase → b.phase ≤ 5 → 0x80 ≤ code → code ≤ 0x88 → Completes (.startAttemptFail code) s (fun t =>
        t.boot.phase = (if b.safeOrigin then 8 else 7) ∧ t.boot.fails = b.fails + 1 ∧ t.hoop.claim = false ∧ t.clk.ticking = false ∧
        t.rd Reg.bootLastErr = w32 (at_ 8 b.source + code) ∧ t.boot.retryDue = some (s.clk.mono +
          (if b.safeOrigin then 10 * secU else Boot.delay (b.fails + 1))))) ∧
      -- BOOT_RETRY, SAFE_HOLD_RETRY, START_ATTEMPT_COMMAND
      (∀ e, b.retryDue = none ∨ b.phase ≠ 7 → Completes (.bootRetry e) s (fun t => t = s.begin)) ∧
      (∀ e, b.retryDue = none ∨ b.phase ≠ 8 → Completes (.safeHoldRetry e) s (fun t => t = s.begin)) ∧
      (∀ e : StartEnv, e.pllLock = true → e.window % 16 = 15 → e.testFail = none → ∀ P : State → Nat → Prop,
        P = (fun t m => t.boot.phase = 4 ∧ t.boot.kind = 0 ∧ t.boot.source = Boot.sourceOf b.bootCode b.fails ∧
          t.rd Reg.bootAttempts = satAdd (s.rd Reg.bootAttempts) 1 ∧ t.clk.mono = m + e.elapsed * nsU) →
        (∀ d, b.retryDue = some d → b.phase = 7 → Completes (.bootRetry e) s (fun t => P t (max s.clk.mono d))) ∧
        (∀ d, b.retryDue = some d → b.phase = 8 → Completes (.safeHoldRetry e) s (fun t => P t (max s.clk.mono d))) ∧
        (s.pageUp 4 = true → b.phase = 7 ∨ b.phase = 8 ∨ b.phase = 10 → s.jtag.held = false →
          Completes (.startAttemptCommand e) s (fun t => P t s.clk.mono))) ∧
      (∀ e, s.pageUp 4 = true → (b.phase < 7 ∨ b.phase = 9) → Completes (.startAttemptCommand e) s (fun t =>
        t = { s.begin with boot := { b with env := e } })) ∧
      -- SAFE_HOLD_ENTRY
      (∀ p i, b.phase = 6 ∨ (1 ≤ b.phase ∧ b.phase ≤ 5) → Completes (.safeHoldEntry p i) s (fun t =>
        t.boot.phase = 8 ∧ t.boot.retryDue = some (s.clk.mono + 10 * secU) ∧ t.rd Reg.bistResult = w32 (at_ 28 p + i % 65536) ∧
        fld (t.rd (Reg.faultCause 5)) 7 0 = 0x80 ∧ bit (t.rd (Reg.irqStatus 5)) 0 = true ∧ bit (t.rd (Reg.irqStatus 4)) 2 = true ∧
        t.hoop.claim = false ∧ t.clk.ticking = false ∧ t.faultN = true)) ∧
      (∀ p i, b.phase = 0 ∨ 6 < b.phase → Completes (.safeHoldEntry p i) s (fun t => t = s.begin)) ∧
      -- SHUTDOWN_PIN, SHUTDOWN_COMMAND
      (∀ c, c = Instr.shutdownPin ∨ (c = Instr.shutdownCommand ∧ s.pageUp 4 = true) →
        (1 ≤ b.phase → b.phase ≤ 5 → Completes c s (fun t => t = { s.begin with boot := { b with heldShutdown := true } })) ∧
        (b.phase = 6 → Completes c s (fun t => t.boot.phase = 9 ∧ t.boot.shutStep = 2 ∧ t.boot.shutDue = s.clk.mono + 20 * msU ∧
          t.port.outGain.v1 = 0 ∧ t.port.outGain.h = s.clk.frame + s.ms 20 ∧ t.hoop.claim = s.hoop.claim)) ∧
        (b.phase = 7 ∨ b.phase = 8 → Completes c s (fun t => t = { s.begin with boot := { b with
          phase := 9, shutStep := 2, shutDue := s.clk.mono, retryDue := none } })) ∧
        (b.phase = 0 ∨ 9 ≤ b.phase → Completes c s (fun t => t = s.begin))))

/-- The rows of the life cycle, the OTP, the self-test and the GPIOs. -/
def Obligations.SelfTestCommandsAct : Prop :=
  ∀ s : State, s.running = true → ∀ b c, b = s.boot → c = s.bist →
    -- LIFECYCLE_ADVANCE
    (s.pageUp 4 = true → ∀ n k, n < 4 → k < 65536 →
      (∀ ok, ok = decide (n = b.lc + 1 ∧ k = 0x4C43 ∧ (n = 2 → (Otp.inForce s .keyHash).isSome = true) ∧ Otp.conditions s = true) →
        (ok = true → Completes (.lifecycleAdvance n k) s (fun t => Otp.byte t (0x1F + n) = 0xFF ∧
          (∀ a, a ≠ 0x1F + n → Otp.byte t a = Otp.byte s a) ∧
          t = { s.begin with boot := { b with otp := t.boot.otp, otpBusy := true, otpFailed := false } })) ∧
        (ok = false → Completes (.lifecycleAdvance n k) s (fun t => t.boot = b ∧ fld (t.rd (Reg.faultCause 4)) 7 0 = 0x8A)))) ∧
    -- OTP_READ, OTP_PROGRAM, OTP_OPERATION_DONE
    (s.pageUp 4 = true → ∀ a d, a = 4 * fld (s.rd Reg.bootOtpAddr) 8 0 → d = (s.rd Reg.bootOtpData).toNat →
      Completes .otpRead s (fun t => t.rd Reg.bootOtpData = (if 0x400 ≤ a then 0 else
          w32 (ofLe ((List.range 4).map (fun i => Otp.byte s (a + i))))) ∧
        (∀ x, x ≠ Reg.bootOtpData → t.rd x = s.rd x) ∧
        t = { s.begin with regs := t.regs, boot := { b with otpBusy := true, otpFailed := false } }) ∧
      (Otp.refused s a = true → Completes .otpProgram s (fun t => t.boot = { b with otpFailed := true } ∧
        fld (t.rd (Reg.faultCause 4)) 7 0 = 0x8B)) ∧
      (Otp.refused s a = false → Completes .otpProgram s (fun t =>
        (∀ x, Otp.byte t x = if a ≤ x ∧ x < a + 4 then Otp.byte s x ||| BitVec.ofNat 8 (d >>> (8 * (x - a))) else Otp.byte s x) ∧
        t = { s.begin with boot := { b with otp := t.boot.otp, otpBusy := true, otpFailed := false } }))) ∧
    (b.otpBusy = false → Completes .otpOperationDone s (fun t => t = s.begin)) ∧
    (b.otpBusy = true → Completes .otpOperationDone s (fun t =>
      t = { s.begin with regs := t.regs, boot := { b with otpBusy := false } } ∧ bit (t.rd (Reg.irqStatus 4)) 3 = true ∧
      ∀ x, x ≠ Reg.irqStatus 4 → t.rd x = s.rd x)) ∧
    -- RECORD_ERASE
    (∀ f : List Byte → List Byte, f = (fun l => if Flash.blank l = true ∨ Flash.valid s l = true then l else []) →
      (b.erasing = false → Completes .recordErase s (fun t => t = s.begin)) ∧
      (b.erasing = true → Completes .recordErase s (fun t =>
        t = { s.begin with boot := { b with erasing := false, sector0 := f b.sector0, sector1 := f b.sector1 } }))) ∧
    -- PIN_READBACK
    (∀ p same n, n = Tab.get (fun _ => 0) c.mismatch p →
      (b.phase ≠ 6 → Completes (.pinReadback p same) s (fun t => t = s.begin)) ∧
      (b.phase = 6 → Tab.get (fun _ => false) c.inject p = false → same = true ∨ n < 7 → Completes (.pinReadback p same) s (fun t =>
        Tab.get (fun _ => 0) t.bist.mismatch p = (if same then 0 else n + 1) ∧
        (∀ q, q ≠ p → Tab.get (fun _ => 0) t.bist.mismatch q = Tab.get (fun _ => 0) c.mismatch q) ∧
        t = { s.begin with bist := { c with mismatch := t.bist.mismatch } })) ∧
      (b.phase = 6 → Tab.get (fun _ => false) c.inject p = true ∨ (same = false ∧ 7 ≤ n) → Completes (.pinReadback p same) s (fun t =>
        t.boot.phase = 8 ∧ t.rd Reg.bistResult = w32 (at_ 28 5 + p % 65536) ∧ t.faultN = true))) ∧
    -- SELFTEST_SLICE
    (∀ p i w ok last inj, inj = (p == 1 && Tab.get (fun _ => false) c.inject i) →
      (b.phase ≠ 6 ∨ s.budget.admitted < 3 → Completes (.selftestSlice p i w ok last) s (fun t =>
        t = { s.begin with bist := { c with window := w % 16 } })) ∧
      (b.phase = 6 → 3 ≤ s.budget.admitted →
        (w % 16 ≠ 15 → Completes (.selftestSlice p i w ok last) s (fun t =>
          t.rd Reg.bistDeferCount = satAdd (s.rd Reg.bistDeferCount) 1 ∧ (∀ x, x ≠ Reg.bistDeferCount → t.rd x = s.rd x) ∧
          t = { s.begin with regs := t.regs, bist := { c with window := w % 16 } })) ∧
        (w % 16 = 15 → inj = true ∨ ok = false → Completes (.selftestSlice p i w ok last) s (fun t =>
          t.boot.phase = 8 ∧ t.rd Reg.bistResult = w32 (at_ 28 p + i % 65536) ∧ t.faultN = true)) ∧
        (w % 16 = 15 → inj = false → ok = true → Completes (.selftestSlice p i w ok last) s (fun t =>
          t = { s.begin with regs := t.regs, bist := { c with
            window := 15, lapse := false, lastSlice := s.clk.mono, slice := some (p, i), sliceDone := t.bist.sliceDone
            cycleStart := if last then s.clk.mono else c.cycleStart } } ∧
          (last = false → t.regs = s.regs ∧ Tab.get (fun _ => false) t.bist.sliceDone (65536 * p + i) = true) ∧
          (last = true → t.bist.sliceDone = [] ∧ t.rd Reg.bistStatus =
            setFld (s.rd Reg.bistStatus) 15 8 (min 255 ((s.clk.mono - c.cycleStart) / msU))))))) ∧
    -- SLICE_ABANDON, COVERAGE_LAPSE
    (c.slice = none → Completes .sliceAbandon s (fun t => t = s.begin)) ∧
    (∀ p i, c.slice = some (p, i) → Completes .sliceAbandon s (fun t =>
      t.rd Reg.bistAbandonCount = satAdd (s.rd Reg.bistAbandonCount) 1 ∧
      Tab.get (fun _ => false) t.bist.sliceDone (65536 * p + i) = false ∧
      t = { s.begin with regs := t.regs, bist := { c with slice := none, sliceDone := t.bist.sliceDone } })) ∧
    (b.phase ≠ 6 ∨ c.lapse = true → Completes .coverageLapse s (fun t => t = s.begin)) ∧
    (b.phase = 6 → c.lapse = false → Completes .coverageLapse s (fun t =>
      t.clk = (s.toMono (c.lastSlice + 50 * msU)).clk ∧ t.bist = { c with lapse := true } ∧
      t.rd Reg.bistLapseCount = satAdd (s.rd Reg.bistLapseCount) 1 ∧ fld (t.rd (Reg.faultCause 5)) 7 0 = 0x82 ∧
      bit (t.rd (Reg.irqStatus 5)) 1 = true ∧ t.boot = b ∧ t.mem = s.mem)) ∧
    -- BIST_RUN, BIST_RUN_DONE, BIST_INJECT
    (s.pageUp 5 = true →
      (s.directControls = false → ∀ k x, x = Instr.bistRun k ∨ x = Instr.bistInject k → Completes x s (fun t =>
        t.bist = c ∧ fld (t.rd (Reg.faultCause 5)) 7 0 = 0x85)) ∧
      (s.directControls = true →
        (∀ k, k % 16 = 0 → Completes (.bistRun k) s (fun t => t = s.begin)) ∧
        (∀ k, k % 16 ≠ 0 → c.window % 16 ≠ 15 → Completes (.bistRun k) s (fun t =>
          t.rd Reg.bistDeferCount = satAdd (s.rd Reg.bistDeferCount) 1 ∧ t = { s.begin with regs := t.regs })) ∧
        (∀ k, k % 16 ≠ 0 → c.window % 16 = 15 → Completes (.bistRun k) s (fun t =>
          t = { s.begin with bist := { c with running := k % 16 } })) ∧
        (∀ i, Completes (.bistInject i) s (fun t => Tab.get (fun _ => false) t.bist.inject (i % 65536) = true ∧
          t = { s.begin with bist := { c with inject := t.bist.inject } })))) ∧
    (∀ f, c.running = 0 → Completes (.bistRunDone f) s (fun t => t = s.begin)) ∧
    (c.running ≠ 0 → Completes (.bistRunDone none) s (fun t => t.bist = { c with running := 0 } ∧
      bit (t.rd (Reg.irqStatus 5)) 3 = true ∧ t.boot = b ∧
      (c.running % 2 = 1 → s.hoop.peerClaim = true → s.hoop.role ≠ 0 → fld (t.rd (Reg.faultCause 5)) 7 0 = 0x84))) ∧
    (∀ p i, c.running ≠ 0 → Completes (.bistRunDone (some (p, i))) s (fun t =>
      t.boot.phase = 8 ∧ t.rd Reg.bistResult = w32 (at_ 28 p + i % 65536) ∧ bit (t.rd (Reg.irqStatus 5)) 3 = true)) ∧
    -- GPIO_SAMPLE
    (∀ pins, s.pageUp 1 = false → Completes (.gpioSample pins) s (fun t => t = s.begin)) ∧
    (∀ pins, s.pageUp 1 = true → Completes (.gpioSample pins) s (fun t =>
      (∀ i, i < 32 → bit (t.rd Reg.hostGpioIn) i = if bit (s.rd Reg.hostGpioDir) i = true ∧ bit (Gpio.taken s) i = false
        then bit (s.rd Reg.hostGpioOut) i else bit pins i) ∧
      (∀ x, x ≠ Reg.hostGpioIn → t.rd x = s.rd x) ∧ t = { s.begin with regs := t.regs }))

/-- The rows of Hoop pairs. -/
def Obligations.PairCommandsAct : Prop :=
  ∀ s : State, s.running = true → ∀ h g, h = s.hoop → g = s.begin.hoop →
    ∀ O : State → Nat → Prop, O = (fun t code => t.hoop.state =
      (if Hoop.autoResync s = true ∧ h.gaveUp = false ∧ h.mismatch = false then 2 else 4) ∧ fld (t.rd (Reg.faultCause 8)) 7 0 = code ∧ bit (t.rd (Reg.irqStatus 8)) 3 = true) →
    ∀ J : State → Prop, J = (fun t => if h.mismatch then t.hoop.state = 4 ∧ t.hoop.step = 0 else t.hoop.state = 2 ∧ t.hoop.step = 1 ∧
      t.hoop.joinFrame = none ∧ t.hoop.records = [] ∧ t.hoop.cuts = [] ∧ t.rd Reg.hoopResyncCount = satAdd (s.rd Reg.hoopResyncCount) 1) →
    ∀ F : State → Prop, F = (fun t => if h.fails < 2 then J t ∧ t.hoop.fails = h.fails + 1 else t.hoop.state = 4 ∧ t.hoop.step = 0 ∧
      t.hoop.gaveUp = true ∧ fld (t.rd (Reg.faultCause 8)) 7 0 = 0x84 ∧ bit (t.rd (Reg.irqStatus 8)) 6 = true) →
    ∀ E : State → Prop, E = (fun t => t.rd Reg.hoopLinkErr = satAdd (s.rd Reg.hoopLinkErr) 1 ∧
      (∀ x, x ≠ Reg.hoopLinkErr → t.rd x = s.rd x) ∧ t = { s.begin with regs := t.regs }) →
    ∀ H : State → Prop, H = (fun t => t.rd Reg.hoopHandoverFrameLo = w32 (s.firstTickAfter (10 * msU)) ∧
      t = { s.begin with regs := t.regs, hoop := { g with handover := some (s.firstTickAfter (10 * msU)) } }) →
    -- HEARTBEAT, HEARTBEAT_LOSS
    (∀ b, h.link = false ∨ h.role = 0 ∨ s.pageUp 8 = false → Completes (.heartbeat b) s (fun t => t = s.begin)) ∧
    (h.link = true → h.role ≠ 0 → s.pageUp 8 = true →
      (∀ b : Heartbeat, b.crcOk = false → Completes (.heartbeat b) s E) ∧
      (∀ b : Heartbeat, ∀ bad other, b.crcOk = true → bad = decide (b.offset < -500 ∨ 500 < b.offset) →
        other = decide (b.variant ≠ s.variant.code ∨ b.build ≠ s.rd64 Reg.bootImageIdLo Reg.bootImageIdHi) → Completes (.heartbeat b) s (fun t =>
        t.hoop.peer = { role := b.role, state := b.state, id := b.id, variant := b.variant, build := b.build, claim := b.claim,
                        unable := b.unable } ∧
        t.hoop.lastHb = some s.clk.frame ∧ t.hoop.hbLost = false ∧ t.rd Reg.hoopTickOffsetNs = w32 (unsigned 32 b.offset) ∧
        (if b.role = h.role ∧ b.id < Otp.deviceId s ∧ h.refuseClaim = false then t.hoop.role = 2 ∧ t.hoop.refuseClaim = true
          else t.hoop.role = h.role ∧ t.hoop.refuseClaim = h.refuseClaim) ∧
        t.hoop.mismatch = other ∧ t.hoop.offsetBad = bad ∧
        t.hoop.state = (if other = true ∧ (h.state = 2 ∨ h.state = 3) then 4 else if bad = true ∧ h.state = 3 then
          (if Hoop.autoResync s = true ∧ h.gaveUp = false then 2 else 4) else h.state) ∧
        (bad = true → h.state = 3 → other = false → fld (t.rd (Reg.faultCause 8)) 7 0 = 0x86) ∧
        (bad = false → other = true → h.mismatch = false → fld (t.rd (Reg.faultCause 8)) 7 0 = 0x85) ∧
        (h.state = 5 → t.budget.peerTier = b.tier) ∧
        t.hoop.copy = (if h.state = 5 ∧ b.state = 2 then some (h.copy.getD {}) else none)))) ∧
    (h.role = 0 ∨ h.hbLost = true ∨ (∃ f, h.lastHb = some f ∧ s.clk.frame < f + 8) →
      Completes .heartbeatLoss s (fun t => t = s.begin)) ∧
    (h.role ≠ 0 → h.hbLost = false → (∀ f, h.lastHb = some f → f + 8 ≤ s.clk.frame) → Completes .heartbeatLoss s (fun t =>
      t.hoop.hbLost = true ∧ (h.state = 3 → O t 0x82) ∧ (h.state ≠ 3 → t = { s.begin with hoop := { g with hbLost := true } }))) ∧
    -- FRAME_RECORD_SEAL
    (∀ l, h.state ≠ 5 ∨ h.link = false ∨ s.clk.ticking = false ∨ h.lastSeal = some s.clk.nextTick →
      Completes (.frameRecordSeal l) s (fun t => t = s.begin)) ∧
    (∀ l, h.state = 5 → h.link = true → s.clk.ticking = true → h.lastSeal ≠ some s.clk.nextTick → h.role ≠ 0 → s.pageUp 8 = true →
      Completes (.frameRecordSeal l) s (fun t => t.hoop.lastSeal = some s.clk.nextTick ∧
        t.clk = (s.toMono (s.clk.tickMono + usU)).clk ∧ t.regs = s.regs ∧ t.mem = s.mem ∧
        t.port.hostForced = some s.port.hostIn.isSome ∧ ∃ m r, t.hoop.sent = [m] ∧ m.kind = 2 ∧ m.seq = h.seq 2 ∧
          m.frame = s.clk.nextTick ∧ m.record = some r ∧ r.frame = s.clk.nextTick ∧
          r.crc = Hoop.ownCrc s (s.clk.nextTick - 2) ∧ r.hostIn = s.port.hostIn.isSome ∧ r.tier = s.budget.nextTier ∧
          r.handover = h.handover ∧ r.decisions = h.decisions)) ∧
    -- FRAME_RECORD, PLAIT_MIRROR
    (s.isStandby = false ∨ h.link = false → ∀ c, (∃ r, c = Instr.frameRecord r) ∨ (∃ f l ok, c = Instr.plaitMirror f l ok) →
      Completes c s (fun t => t = s.begin)) ∧
    (s.isStandby = true → h.link = true →
      (∀ r : FrameRecord, r.crcOk = false → Completes (.frameRecord r) s E) ∧
      (∀ f l, Completes (.plaitMirror f l false) s E) ∧
      (∀ r : FrameRecord, ∀ same agree l, r.crcOk = true → agree = (List.range 4).all (fun i => nth 0 r.decisions i == nth 0 h.decisions i) →
        l = (if s.clk.nextTick ≤ r.frame then h.records ++ [r] else h.records) →
        same = decide (r.crc = none ∨ Hoop.ownCrc s (r.frame - 2) = none ∨ r.crc = Hoop.ownCrc s (r.frame - 2)) →
        (h.state = 3 ∨ h.state = 4 → same = true → agree = true → Completes (.frameRecord r) s (fun t =>
          t = { s.begin with hoop := { g with records := l } })) ∧
        (h.state = 3 → same = false → agree = true → Completes (.frameRecord r) s (fun t => O t 0x81 ∧
          t.rd Reg.hoopCrcMismatch = satAdd (s.rd Reg.hoopCrcMismatch) 1)) ∧
        (h.state = 3 → same = true → agree = false → Completes (.frameRecord r) s (fun t => O t 0x82 ∧
          t.rd Reg.hoopDiverge = satAdd (s.rd Reg.hoopDiverge) 1)) ∧
        (h.state = 2 → h.step = 1 → Completes (.frameRecord r) s (fun t =>
          t = { s.begin with hoop := { g with step := 2, joinFrame := some r.frame, records := l } })) ∧
        (h.state = 2 → h.step = 6 → same = false → Completes (.frameRecord r) s F) ∧
        (h.state = 2 → h.step ≠ 1 → h.step ≠ 6 → Completes (.frameRecord r) s (fun t =>
          t = { s.begin with hoop := { g with records := l } }))) ∧
      (∀ f l, f < s.clk.nextTick ∨ Plait.pick s = none → Completes (.plaitMirror f l true) s (fun t =>
        (h.state = 3 → O t 0x82) ∧ (h.state ≠ 3 → t = s.begin))) ∧
      (∀ f l k, s.clk.nextTick ≤ f → Plait.pick s = some k → Completes (.plaitMirror f l true) s (fun t =>
        Plait.slot t k = { state := .pending, owner := 11, ticket := (s.plait.ticket + 1) % 65536, writes := l, captured := l.length
                           frame := f, mode := 2, decided := s.plait.seq + 1 } ∧
        (∀ j, j ≠ k → Plait.slot t j = Plait.slot s j) ∧ t = { s.begin with plait := t.plait }))) ∧
    -- STANDBY_REPORT
    (∀ f c d r ok, h.state ≠ 5 ∨ h.link = false → Completes (.standbyReport f c d r ok) s (fun t => t = s.begin)) ∧
    (h.state = 5 → h.link = true → ∀ f c d r,
      Completes (.standbyReport f c d r false) s E ∧
      (h.peer.state = 2 → Completes (.standbyReport f c d r true) s (fun t => t = s.begin)) ∧
      (∀ a b, c = some a → Hoop.ownCrc s f = some b → a ≠ b → h.peer.state ≠ 2 → (∀ i, nth 0 d i = nth 0 h.decisions i) →
        Completes (.standbyReport f c d false true) s (fun t => t.hoop = g ∧ fld (t.rd (Reg.faultCause 8)) 7 0 = 0x81 ∧
          t.rd Reg.hoopCrcMismatch = satAdd (s.rd Reg.hoopCrcMismatch) 1)) ∧
      (c = none ∨ c = Hoop.ownCrc s f → (∀ i, nth 0 d i = nth 0 h.decisions i) → h.peer.state = 3 → s.clk.ticking = true →
        h.handover = none → Completes (.standbyReport f c d true true) s H)) ∧
    -- RESYNC_MESSAGE
    (∀ l ok, h.link = false ∨ h.role = 0 ∨ (ok = true ∧ h.state ≠ 2) → Completes (.resyncMessage l ok) s (fun t => t = s.begin)) ∧
    (h.link = true → h.role ≠ 0 → (∀ l, Completes (.resyncMessage l false) s E) ∧
      (h.state = 2 →
        (∀ l, (∀ x ∈ l, Hoop.itemStep x ≠ h.step) → Completes (.resyncMessage l true) s (fun t => t = s.begin)) ∧
        (∀ a d, h.step = 4 → Completes (.resyncMessage [.region a d] true) s (fun t => t = { s.begin with mem := t.mem } ∧
          ∀ x, t.ld8 x = if a ≤ x ∧ x < a + d.length then nth 0 d (x - a) else s.ld8 x)) ∧
        (∀ a d, h.step = 2 → Hoop.wroteLine s a d.length = true →
          Completes (.resyncMessage [.line a d] true) s (fun t => t = s.begin)) ∧
        (∀ a d, h.step = 2 → Hoop.wroteLine s a d.length = false → Completes (.resyncMessage [.line a d] true) s (fun t =>
          t = { s.begin with mem := t.mem } ∧ ∀ x, t.ld8 x = if a ≤ x ∧ x < a + d.length then nth 0 d (x - a) else s.ld8 x)))) ∧
    -- HOOP_LINK_CHANGE
    (h.role = 0 ∨ s.pageUp 8 = false → Completes .hoopLinkChange s (fun t => t = s.begin)) ∧
    (h.role ≠ 0 → s.pageUp 8 = true →
      (h.link = false → Completes .hoopLinkChange s (fun t => bit (t.rd (Reg.irqStatus 8)) 4 = true ∧
        t = { s.begin with regs := t.regs, hoop := { g with copy := none, link := true, mayClaim := false, lastHb := some s.clk.frame } })) ∧
      (h.link = true → Completes .hoopLinkChange s (fun t => bit (t.rd (Reg.irqStatus 8)) 4 = true ∧
        (h.state ≠ 2 → t.hoop = { g with copy := none, link := false, linkDownAt := s.clk.mono } ∧ fld (t.rd (Reg.faultCause 8)) 7 0 = 0x80) ∧
        (h.state = 2 → t.hoop.link = false ∧ t.hoop.linkDownAt = s.clk.mono ∧ F t)))) ∧
    -- CLAIM_TIMEOUT, SECONDARY_CLAIM_TIMEOUT
    (h.claimDue = none ∨ h.claim = false → Completes .claimTimeout s (fun t => t = s.begin)) ∧
    (∀ d, h.claimDue = some d → h.claim = true →
      ∀ first, first = decide (s.clk.ticking = true ∧ h.loaded = true ∧ s.nextTickAt - s.clk.stake < d - s.clk.aon) →
        (first = true → Completes .claimTimeout s (fun t => t = s.begin)) ∧
        (first = false → Completes .claimTimeout s (fun t => t.hoop.claim = false ∧ t.hoop.enables = false ∧ t.hoop.claimDue = none ∧
          t.clk = (s.pass (d - s.clk.aon)).clk ∧ t.hoop.state = (if h.state = 5 then (if h.link then 4 else 1) else h.state) ∧
          t.fault.stall = (s.fault.stall || s.boot.phase == 6) ∧ t.mem = s.mem))) ∧
    (h.role ≠ 2 ∨ h.link = true ∨ s.boot.phase ≠ 6 ∨ h.claim = true → Completes .secondaryClaimTimeout s (fun t => t = s.begin)) ∧
    (h.role = 2 → h.link = false → s.boot.phase = 6 → h.claim = false → Completes .secondaryClaimTimeout s (fun t =>
      t = { s.begin with clk := (s.toMono (max h.linkDownAt h.readyAt + secU)).clk, hoop := { g with mayClaim := true } })) ∧
    -- YIELD, REJOIN_COMMAND, REVERT_REQUEST, REVERT_HOLD_EXPIRY
    (s.pageUp 8 = true →
      (∀ ok, ok = decide (h.state = 5 ∧ h.link = true ∧ h.peer.state = 3 ∧ s.clk.ticking = true) →
        (ok = false → Completes .yield s (fun t => t.hoop = g ∧ fld (t.rd (Reg.faultCause 8)) 7 0 = 0x87)) ∧
        (ok = true → h.handover = none → Completes .yield s H) ∧
        (ok = true → h.handover ≠ none → Completes .yield s (fun t => t = s.begin))) ∧
      (h.role = 0 ∨ h.state = 5 ∨ h.state = 0 → Completes .rejoinCommand s (fun t => t = s.begin)) ∧
      (h.role ≠ 0 → h.state ≠ 5 → h.state ≠ 0 → Completes .rejoinCommand s (fun t => J t ∧ t.hoop.fails = 0 ∧ t.hoop.gaveUp = false)) ∧
      Completes .revertRequest s (fun t => t = if h.role = 1 ∧ h.state = 3 then { s.begin with hoop := { g with requested := true } }
        else s.begin)) ∧
    (h.holdFrom = none → Completes .revertHoldExpiry s (fun t => t = s.begin)) ∧
    (∀ f, h.holdFrom = some f → Completes .revertHoldExpiry s (fun t => t =
      if h.role = 1 ∧ h.state = 3 ∧ Hoop.revertEn s = true ∧ h.requested = false ∧
        f + fld (s.ef Reg.hoopRevertHold) 9 0 * rateHz s.clk.rate ≤ s.clk.frame
      then { s.begin with hoop := { g with requested := true } } else s.begin)) ∧
    -- REJOIN
    (∀ ok, h.state ≠ 2 ∨ h.step ≤ 1 → Completes (.rejoin ok) s (fun t => t = s.begin)) ∧
    (h.state = 2 →
      (2 ≤ h.step → Completes (.rejoin false) s F) ∧
      (h.step = 2 → Completes (.rejoin true) s (fun t => t = { s.begin with hoop := { g with step := 3 } })) ∧
      (h.step = 3 → (∃ k, k < 16 ∧ Hoop.regionBad s k = true) → Completes (.rejoin true) s F) ∧
      (h.step = 3 → (∀ k, k < 16 → Hoop.regionBad s k = false) → Completes (.rejoin true) s (fun t =>
        t = { s.begin with hoop := { g with step := 4, region := Hoop.nextRegion s 0 } })) ∧
      (h.step = 4 → ∀ k l, k = Hoop.nextRegion s (h.region + 1) →
          l = (if h.region < 16 then h.cuts ++ [(h.region, s.clk.nextTick)] else h.cuts) → Completes (.rejoin true) s (fun t =>
        t = { s.begin with hoop := if k < 16 then { g with region := k, cuts := l } else
          { g with step := 5, cuts := l, settleEnd := s.clk.frame + 65536 + cdiv (rateHz s.clk.rate) 10 } })) ∧
      (h.step = 5 → s.clk.frame < h.settleEnd → Completes (.rejoin true) s (fun t => t = s.begin)) ∧
      (h.step = 5 → h.settleEnd ≤ s.clk.frame → Completes (.rejoin true) s (fun t => t.hoop = { g with step := 6, matchFrom := none } ∧
        t.meter = { s.meter with points := [], loud := [] } ∧
        t = { s.begin with hoop := t.hoop, meter := t.meter, capt := { s.capt with chains := t.capt.chains } })) ∧
      (h.step = 6 → (∀ f, h.matchFrom = some f → s.clk.frame < f + rateHz s.clk.rate) →
        Completes (.rejoin true) s (fun t => t = s.begin)) ∧
      (∀ f, h.step = 6 → h.matchFrom = some f → f + rateHz s.clk.rate ≤ s.clk.frame → Completes (.rejoin true) s (fun t =>
        bit (t.rd (Reg.irqStatus 8)) 2 = true ∧ t = { s.begin with regs := t.regs, hoop := { g with
          state := 3, step := 0, fails := 0, holdFrom := some s.clk.frame, requested := false } }))) ∧
    -- a record's decisions at its tick
    (∀ r : FrameRecord, ∀ t, t = Hoop.applyRecord s r → t.port.hostForced = some r.hostIn ∧
      t.scene.queue.length = s.scene.queue.length + r.records.length ∧
      t.budget.nextTier = (if r.tier.isSome then r.tier else s.budget.nextTier) ∧
      t.hoop.incoming = (if r.handover.isSome then r.handover else h.incoming))

/-- The rows of fault records, freeze, state access and the TAP. -/
def Obligations.FaultCommandsAct : Prop :=
  ∀ s : State, ∀ f g, f = s.fault → g = s.jtag →
    (s.running = true →
      -- FAULT_RECORD
      (∀ p code d, s.pageUp p = false ∨ unitOf p = none ∨ (∃ u, unitOf p = some u ∧ faultClass u code = 0) →
        Completes (.faultRecord p code d) s (fun t => t = s.begin)) ∧
      (∀ p code d u c, unitOf p = some u → c = faultClass u code → c ≠ 0 → s.pageUp p = true →
        (u ≠ 0x60 → u ≠ 4 → ¬ (u = 5 ∧ code = 0x80) → Completes (.faultRecord p code d) s (fun t =>
          fld (t.rd (Reg.faultCause p)) 7 0 = code ∧ t.rd (Reg.faultCount p) = satAdd (s.rd (Reg.faultCount p)) 1 ∧
          bit (t.rd (Reg.irqStatus 7)) 0 = true ∧ t = { s.begin with regs := t.regs, fault := t.fault } ∧
          t.fault.freezeReq = (if 2 ≤ c ∧ bit (s.rd Reg.faultCtrl) 1 = true ∧ s.readoutPermitted = true then some 3 else f.freezeReq) ∧
          (∀ i, s.repeats p code = some i → t.fault.entry i = { f.entry i with repeats := (f.entry i).repeats + 1 } ∧
            t.fault.head = f.head ∧ (∀ j, j ≠ i → t.fault.entry j = f.entry j)) ∧
          (s.repeats p code = none → t.fault.entry f.head = { frame := s.clk.frame, page := p, code := code, cls := c, valid := true,
                                                               detail := d % 65536 } ∧
            (∀ j, j ≠ f.head → t.fault.entry j = f.entry j) ∧ t.fault.newest = some f.head ∧ t.fault.lastAt = s.clk.mono ∧
            t.fault.head = (f.head + 1) % 256 ∧ t.fault.tail = (if f.full then (f.head + 1) % 256 else f.tail) ∧
            t.fault.full = (f.full || decide ((f.head + 1) % 256 = f.tail)) ∧
            (f.full = true → t.rd Reg.faultOverflow = satAdd (s.rd Reg.faultOverflow) 1)))) ∧
        (u = 0x60 → (code = 0x88 ∨ (Osier.core s (p - 0x60)).active.node.isSome = true) → Completes (.faultRecord p code d) s (fun t =>
          fld (t.rd (Reg.faultCause p)) 7 0 = code)) ∧
        (u = 5 → code = 0x80 → 1 ≤ s.boot.phase → s.boot.phase ≤ 6 → Completes (.faultRecord p code d) s (fun t =>
          t.boot.phase = 8 ∧ t.rd Reg.bistResult = w32 (at_ 28 5 + d % 65536))) ∧
        (u = 4 → 1 ≤ s.boot.phase → s.boot.phase ≤ 5 → Completes (.faultRecord p code d) s (fun t =>
          t.boot.phase = (if s.boot.safeOrigin then 8 else 7) ∧ t.rd Reg.bootLastErr = w32 (at_ 8 s.boot.source + code)))) ∧
      -- COLLECTOR_MISMATCH, SRAM_SCRUB, FAULT_TAIL_WRITE, FREEZE_COMMAND
      Completes .collectorMismatch s (fun t => t.fault.collectorFail = true ∧ t.faultN = true ∧
        fld (t.rd (Reg.faultCause 7)) 7 0 = 0x84 ∧ t = { s.begin with regs := t.regs, fault := t.fault }) ∧
      (∀ e, Completes (.sramScrub e) s (fun t => (e ≠ 1 → e ≠ 2 → t = s.begin) ∧ (e = 1 → fld (t.rd (Reg.faultCause 7)) 7 0 = 0x82) ∧
        (e = 2 → fld (t.rd (Reg.faultCause 7)) 7 0 = 0x81) ∧ t = { s.begin with regs := t.regs, fault := t.fault })) ∧
      (s.pageUp 7 = true →
        (∀ i, Completes (.faultTailWrite i) s (fun t => t = { s.begin with fault := { f with
          tail := i % 256, full := f.full && decide (i % 256 = f.tail) } })) ∧
        Completes .freezeCommand s (fun t => t.rd Reg.faultCtrl = s.rd Reg.faultCtrl &&& 6 ∧
          (∀ x, x ≠ Reg.faultCtrl → t.rd x = s.rd x) ∧
          t = { s.begin with regs := t.regs, fault := { f with latch := true, freezeReq := some 2 } }))) ∧
    -- FREEZE_PIN, FREEZE_LIMIT_EXPIRY
    Completes .freezePin s (fun t => t = { s.begin with fault := { f with
      pinLow := true, freezeReq := if f.pinLow = false ∧ s.running = true then some 1 else f.freezeReq } }) ∧
    (f.latchDue = none → Completes .freezeLimitExpiry s (fun t => t = s.begin)) ∧
    (∀ d, f.latchDue = some d → Completes .freezeLimitExpiry s (fun t => t = { s.begin with
      clk := { s.clk with aon := if f.frozen then max s.clk.aon d else s.clk.aon }
      fault := { f with latch := false, latchDue := none } })) ∧
    -- FREEZE_RELEASE
    (f.frozen = false ∨ f.latch = true → Completes .freezeRelease s (fun t => t = { s.begin with fault := { f with pinLow := false } })) ∧
    (∀ snap, f.frozen = true → f.latch = false → snap = (bit (s.rd Reg.faultCtrl) 2 && s.readoutPermitted) →
      Completes .freezeRelease s (fun t => t.fault.frozen = false ∧ t.fault.pinLow = false ∧ t.fault.cause = 0 ∧ t.fault.latchDue = none ∧
        bit (t.rd (Reg.irqStatus 7)) 2 = true ∧ t.clk.stake = s.clk.stake ∧
        (s.memc.queue = [] → Memory.wf s.mem = true →
          (snap = false → t.mem = s.mem) ∧
          (snap = true → (∀ i, i < 0x1000000 → t.ld8 (Freeze.snapBase s.variant + i) = s.ld8 (csAddr i)) ∧
            ∀ a, a < Freeze.snapBase s.variant ∨ Freeze.snapBase s.variant + 0x2000000 ≤ a → t.ld8 a = s.ld8 a)) ∧
        (s.rateOn = false → t.clk.ticking = s.clk.ticking) ∧
        (s.rateOn = true → Stake.src s ≠ 0 → t.fault.releaseWait = 1 ∧ t.clk.ticking = s.clk.ticking) ∧
        (s.rateOn = true → Stake.src s = 0 → s.ticksHeld = false → t.clk.ticking = true ∧
          t.clk.nextTick = frameCeil s.clk.rate (s.clk.stake + 1)) ∧
        (f.heldShutdown = true → s.boot.phase = 6 → t.boot.phase = 9 ∧ t.boot.shutDue = s.clk.mono + 20 * msU))) ∧
    -- SAN_ADDR, SAN_DATA, SAN_RELEASE, SAN_STATUS
    (∀ a, Completes (.sanAddr a) s (fun t => t = { s.begin with jtag := { g with
      ir := 0x40, dr := a % 2 ^ 41, sanAddr := a % 2 ^ 41 / 4 * 4 } })) ∧
    Completes .sanData s (fun t =>
      t = { s.begin with jtag := { g with ir := 0x41, dr := t.jtag.dr, sanAddr := (g.sanAddr + 4) % 2 ^ 41 } } ∧
      (f.frozen = false ∨ s.readoutPermitted = false ∨ 0x10100117000 ≤ g.sanAddr ∨ (0x11000000 ≤ g.sanAddr ∧ g.sanAddr < 2 ^ 40) →
        t.jtag.dr = 2 ^ 32) ∧
      (f.frozen = true → s.readoutPermitted = true →
        (2 ^ 40 ≤ g.sanAddr → g.sanAddr < 2 ^ 40 + 2 ^ 24 → t.jtag.dr = (s.ld32 g.sanAddr).toNat) ∧
        (0x10100000000 ≤ g.sanAddr → g.sanAddr < 0x10100117000 → t.jtag.dr = (San.space s (g.sanAddr - 0x10100000000)).toNat))) ∧
    Completes .sanRelease s (fun t => t = { s.begin with
      jtag := { g with ir := 0x42, dr := 0 }, fault := { f with latch := false, latchDue := none } }) ∧
    Completes .sanStatus s (fun t => t = { s.begin with jtag := { g with
      ir := 0x43, dr := b2n f.frozen + 2 * b2n s.readoutPermitted + 4 * b2n f.latch + 8 * b2n f.pinLow } }) ∧
    -- EXTEST, CLAMP, HIGHZ
    (∀ c ir l bits, (c = Instr.extest bits ∧ ir = 0 ∧ l = bits) ∨ (c = Instr.clamp ∧ ir = 3 ∧ l = g.bsr) ∨
        (c = Instr.highz ∧ ir = 4 ∧ l = g.bsr) →
      (s.boot.inReset = true → Completes c s (fun t => t = { s.begin with jtag := { g with ir := ir, dr := 0, bsr := l } })) ∧
      (s.boot.inReset = false → s.boot.lc = 2 → Completes c s (fun t => t = { s.begin with jtag := { g with ir := 0xFF, dr := 0 } })) ∧
      (s.boot.inReset = false → s.boot.lc ≠ 2 → Completes c s (fun t => t.jtag = { g with ir := ir, dr := 0, bsr := l, held := true } ∧
        t.boot.phase = 10 ∧ t.hoop.claim = false ∧ t.hoop.enables = false ∧ t.clk.ticking = false ∧ t.mem = s.mem ∧
        ∀ k, k < s.variant.psChannels → (Pstg.ch t k).state = 0))) ∧
    -- SAMPLE_PRELOAD, IDCODE, TAP_RESET, BYPASS
    (∀ bits, Completes (.samplePreload bits) s (fun t => t = { s.begin with jtag := { g with ir := 1, dr := 0, bsr := bits } })) ∧
    (∀ c, c = Instr.idcode ∨ c = Instr.tapReset → Completes c s (fun t => t = { s.begin with jtag := { g with
      ir := 2, dr := match s.variant with | .zn5480 => 0x05480B4F | .zn5340 => 0x05340B4F | .zn5220 => 0x05220B4F } })) ∧
    Completes .bypass s (fun t => t = { s.begin with jtag := { g with ir := 0xFF, dr := 0 } })

/-- A requested freeze is entered at the command's end. -/
def Obligations.FreezeRequestsAreCarriedOut : Prop :=
  ∀ (s t : State) (c : Nat), t.fault.freezeReq = some c → t.fault.frozen = false →
    State.calm { t with fault := { t.fault with freezeReq := none } } = true → t.rd Reg.stakeStepCount = s.rd Reg.stakeStepCount →
    ∀ u, u = State.close s t → u.fault.frozen = true ∧ u.fault.cause = c ∧ u.fault.freezeReq = none ∧ u.running = false ∧
      u.hoop.claim = false ∧ u.hoop.enables = false ∧ u.hoop.claimDue = none ∧ u.clk.ticking = false ∧ u.memc.sr = 255 ∧
      u.fault.freezeStake = u.clk.stake ∧ u.fault.freezeFrame = u.clk.frame ∧ u.faultN = true ∧
      u.rd Reg.faultFreezeCount = satAdd (t.rd Reg.faultFreezeCount) 1 ∧
      (∀ k, k < t.variant.psChannels → (Pstg.ch u k).state ≤ 1) ∧
      u.fault.latchDue = (if t.fault.latch = true ∧ fld (t.rd Reg.faultFreezeLimitS) 11 0 ≠ 0
        then some (t.clk.aon + fld (t.rd Reg.faultFreezeLimitS) 11 0 * secU) else t.fault.latchDue) ∧ u.pending = s.pending

/-- The rows of the frame, the registers, the SPI port, DMA and plaits, with no form shut out. -/
def Obligations.FrameAndRegisterCommandsComplete : Prop :=
  ∀ s : State, s.running = true →
    -- FRAME_TICK
    (∀ (env : TickEnv), Frame.outside s env = false → Completes (.frameTick env) s (fun t => t = Frame.tick s.begin env)) ∧
    -- DIRECT_WINDOW_END
    (∀ (slack : Option Nat), Completes (.directWindowEnd slack) s (fun t => t = Frame.windowEnd s.begin slack)) ∧
    -- GUARD_BEGIN
    Completes .guardBegin s (fun t => t = Frame.guard s.begin) ∧
    -- DIRECT_CUTOFF
    Completes .directCutoff s (fun t => t = Frame.cutoff s.begin) ∧
    -- RATE_CHANGE_RAMP
    Completes .rateChangeRamp s (fun t => t = Rate.ramp s.begin) ∧
    -- RATE_CHANGE_MUTE
    Completes .rateChangeMute s (fun t => t = Rate.mute s.begin) ∧
    -- RATE_CHANGE_SWITCH
    Completes .rateChangeSwitch s (fun t => t = Rate.switch s.begin) ∧
    -- RATE_CHANGE_RESUME
    Completes .rateChangeResume s (fun t => t = Rate.resume s.begin) ∧
    -- REGISTER_WRITE
    (∀ (ini : Nat) (addr : Nat) (v : Word),
      Completes (.registerWrite ini addr v) s (fun t => t = Page.write (Weave.behind s.begin ini addr) ini none addr v)) ∧
    -- LO_READ_LATCH
    (∀ (ini : Nat) (addr : Nat),
      Completes (.loReadLatch ini addr) s (fun t =>
        t = Read.answered (Page.access (Weave.behind s.begin ini addr) ini addr))) ∧
    -- COMMIT_REQUEST
    (∀ (page : Nat) (alsoCancel : Bool),
      Completes (.commitRequest page alsoCancel) s (fun t =>
        t = Reg.poke s.begin (Reg.commit page) (w32 (1 + 2 * b2n alsoCancel)))) ∧
    -- COMMIT_CANCEL
    (∀ (page : Nat), Completes (.commitCancel page) s (fun t => t = Reg.poke s.begin (Reg.commit page) 2)) ∧
    -- PAGE_ENABLE_WRITE
    (∀ (page : Nat) (enable : Bool),
      Completes (.pageEnableWrite page enable) s (fun t => t = Reg.poke s.begin (Reg.pageCtrl page) (w32 (b2n enable)))) ∧
    -- SOFT_RESET
    (∀ (page : Nat) (enable : Bool),
      Completes (.softReset page enable) s (fun t => t = Reg.poke s.begin (Reg.pageCtrl page) (w32 (2 + b2n enable)))) ∧
    -- FAULT_CAUSE_CLEAR
    (∀ (page : Nat), Completes (.faultCauseClear page) s (fun t => t = Reg.poke s.begin (Reg.faultCause page) 0x80000000)) ∧
    -- IRQ_FORCE
    (∀ (page : Nat) (v : Word), Completes (.irqForce page v) s (fun t => t = Reg.poke s.begin (Reg.irqForce page) v)) ∧
    -- IRQ_EOI
    (∀ (vector : Nat), Completes (.irqEoi vector) s (fun t => t = Reg.poke s.begin Reg.irqEoi (w32 (vector % 64)))) ∧
    -- SPI_READ
    (∀ (addr : Nat) (words : Nat), Completes (.spiRead addr words) s (fun t => t = Spi.read s.begin addr words)) ∧
    -- SPI_WRITE
    (∀ (addr : Nat) (words : Nat) (data : List Byte) (crc : Byte),
      Completes (.spiWrite addr words data crc) s (fun t => t = Spi.write s.begin addr words data crc)) ∧
    -- DMA_RUN
    (∀ (ch : Nat), Completes (.dmaRun ch) s (fun t => t = Reg.poke s.begin (Reg.dmaCtrl (ch % 8)) 1)) ∧
    -- DMA_DESCRIPTOR_DONE
    (∀ (ch : Nat) (words : List Byte) (data : List Byte),
      Completes (.dmaDescriptorDone ch words data) s (fun t => t = Dma.descriptor s.begin ch words data)) ∧
    -- PLAIT_OPEN
    (∀ (ini : Nat), Completes (.plaitOpen ini) s (fun t => t = Page.write s.begin ini none Reg.plaitOpen 1)) ∧
    -- PLAIT_CAPTURE
    (∀ (ini : Nat) (addr : Nat) (v : Word),
      Completes (.plaitCapture ini addr v) s (fun t => t = Plait.capture (Weave.behind s.begin ini 0x800000) ini addr v)) ∧
    -- PLAIT_COMMIT_NEXT_FRAME
    (∀ (ini : Nat) (allowTier : Bool),
      Completes (.plaitCommitNextFrame ini allowTier) s (fun t =>
        t = Page.write s.begin ini none Reg.plaitCommit (w32 (1 + 16 * b2n allowTier)))) ∧
    -- PLAIT_COMMIT_FRAME_INDEX
    (∀ (ini : Nat) (allowTier : Bool),
      Completes (.plaitCommitFrameIndex ini allowTier) s (fun t =>
        t = Page.write s.begin ini none Reg.plaitCommit (w32 (2 + 16 * b2n allowTier)))) ∧
    -- PLAIT_COMMIT_PTP_TIME
    (∀ (ini : Nat) (allowTier : Bool),
      Completes (.plaitCommitPtpTime ini allowTier) s (fun t =>
        t = Page.write s.begin ini none Reg.plaitCommit (w32 (3 + 16 * b2n allowTier)))) ∧
    -- PLAIT_COMMIT_DECISION
    (∀ (slot : Nat), Completes (.plaitCommitDecision slot) s (fun t => t = Plait.decision s.begin slot)) ∧
    -- PLAIT_ABORT
    (∀ (slot : Nat) (ticket : Nat),
      Completes (.plaitAbort slot ticket) s (fun t =>
        t = Reg.poke s.begin Reg.plaitAbort (w32 (slot % 16 + at_ 16 (ticket % 65536))))) ∧
    -- ARRAY_WINDOW_WRITE
    (∀ (ini : Nat) (page : Nat) (off : Nat) (data : List (Byte × Bool)),
      Completes (.arrayWindowWrite ini page off data) s (fun t => t = Window.bytes s.begin ini page off data)) ∧
    -- SPI_READ_TIMEOUT
    Completes .spiReadTimeout s (fun t => t = Spi.readTimeout s.begin) ∧
    -- SPI_STATUS
    Completes .spiStatus s (fun t => t = Spi.status s.begin) ∧
    -- SPI_CLEAR
    Completes .spiClear s (fun t => t = Spi.clear s.begin)

/-- The rows of the scene, the Warp, CORR and the Coil, with no form shut out. -/
def Obligations.SceneMatrixAndSchedulerCommandsComplete : Prop :=
  ∀ s : State, s.running = true →
    -- LAYOUT_BUILD
    (∀ (v : Word), Completes (.layoutBuild v) s (fun t => t = Reg.poke s.begin Reg.sceneLayoutBuild (v ||| 1))) ∧
    -- OBJECT_LATE
    (∀ (obj : Nat), Completes (.objectLate obj) s (fun t => t = Scene.objectLate s.begin obj)) ∧
    -- OBJECT_HOLD
    (∀ (obj : Nat), Completes (.objectHold obj) s (fun t => t = Scene.objectHold s.begin obj)) ∧
    -- FELOT_MESSAGE
    (∀ (net : Nat) (dstIp : Nat) (dstPort : Nat) (srcIp : Nat) (payload : List Byte),
      Completes (.felotMessage net dstIp dstPort srcIp payload) s (fun t =>
        t = Felot.datagram s.begin net dstIp dstPort srcIp payload)) ∧
    -- LAYOUT_BUILD_DONE
    Completes .layoutBuildDone s (fun t => t = Scene.buildDone s.begin) ∧
    -- HEALING_REBUILD_DONE
    Completes .healingRebuildDone s (fun t => t = Scene.rebuildDone s.begin) ∧
    -- RECORD_POST
    Completes .recordPost s (fun t => t = Reg.poke s.begin Reg.sceneRecPost 1) ∧
    -- WARP_DIRECT_POST
    (∀ (gain : Word) (busy : Bool),
      Completes (.warpDirectPost gain busy) s (fun t => t = Warp.directWrite s.begin gain busy)) ∧
    -- CORR_BANK_POST
    (∀ (v : Word), Completes (.corrBankPost v) s (fun t => t = Reg.poke s.begin Reg.corrOutBank v)) ∧
    -- CORR_GAIN_POST
    (∀ (v : Word), Completes (.corrGainPost v) s (fun t => t = Reg.poke s.begin Reg.corrOutGain v)) ∧
    -- CORR_MUTE_POST
    (∀ (v : Word), Completes (.corrMutePost v) s (fun t => t = Reg.poke s.begin Reg.corrOutMute v)) ∧
    -- CORR_PREPARATION
    (∀ (v : Word), Completes (.corrPreparation v) s (fun t => t = Reg.poke s.begin Reg.corrPrep v)) ∧
    -- PARTITION_LATE
    (∀ (out : Nat) (part : Nat) (start : Nat),
      Completes (.partitionLate out part start) s (fun t => t = Coil.partitionLate s.begin out part start)) ∧
    -- TRANSITION_END
    (∀ (out : Nat), Completes (.transitionEnd out) s (fun t => t = Corr.transitionEnd s.begin out)) ∧
    -- WARP_POST_ACCEPT
    Completes .warpPostAccept s (fun t => t = Warp.accept s.begin) ∧
    -- WARP_FADE_DONE
    Completes .warpFadeDone s (fun t => t = Warp.fadeDone s.begin) ∧
    -- CORR_PREP_DONE
    Completes .corrPrepDone s (fun t => t = Corr.prepDone s.begin) ∧
    -- CORR_FADE_DONE
    Completes .corrFadeDone s (fun t => t = Corr.fadeDone s.begin) ∧
    -- DEFERRED_RELEASE
    (∀ (node : Nat), Completes (.deferredRelease node) s (fun t => t = Coil.deferredRelease s.begin node)) ∧
    -- AFFINITY_WAIT_EXPIRY
    (∀ (node : Nat), Completes (.affinityWaitExpiry node) s (fun t => t = Osier.dispatch (Coil.waitExpiry s.begin node))) ∧
    -- NODE_COMPLETE
    (∀ (node : Nat) (writes : List (Nat × Int)),
      Completes (.nodeComplete node writes) s (fun t => t = Coil.complete s.begin node writes)) ∧
    -- COIL_SUBMIT
    (∀ (node : Nat), Completes (.coilSubmit node) s (fun t => t = Reg.poke s.begin Reg.coilSubmit (w32 (node % 16384)))) ∧
    -- ACTIVATION_LATE
    (∀ (node : Nat), Completes (.activationLate node) s (fun t => t = Coil.late s.begin node)) ∧
    -- DIRECT_COST_STOP
    (∀ (core : Nat), Completes (.directCostStop core) s (fun t => t = Osier.costStop s.begin core)) ∧
    -- NODE_DISPATCH
    Completes .nodeDispatch s (fun t => t = Osier.dispatch (Coil.dispatch s.begin)) ∧
    -- HELD_RELEASE_ENTER
    Completes .heldReleaseEnter s (fun t => t = Coil.heldEnter s.begin) ∧
    -- SUBMIT_HOLD_RELEASE
    Completes .submitHoldRelease s (fun t => t = Coil.submitRelease s.begin) ∧
    -- NODE_ACTIVATE
    Completes .nodeActivate s (fun t => t = Reg.poke s.begin Reg.coilNodeCtrl 1) ∧
    -- NODE_DEACTIVATE
    Completes .nodeDeactivate s (fun t => t = Reg.poke s.begin Reg.coilNodeCtrl 2)

/-- The rows of the Osier cores, with no form shut out. -/
def Obligations.CoreCommandsComplete : Prop :=
  ∀ s : State, s.running = true →
    -- the bundles, by the compute operation or slot operation that names the row
    (∀ (k : Nat) (f : Slots) (op : Nat) (c : Instr), (op, c) ∈ [(0x00, Instr.nop k f), (0x01, Instr.br k f),
        (0x02, Instr.call k f), (0x03, Instr.jr k f), (0x04, Instr.loop k f), (0x05, Instr.loopi k f),
        (0x06, Instr.endl k f), (0x07, Instr.movsr k f), (0x08, Instr.movrs k f), (0x09, Instr.bexpr k f),
        (0x10, Instr.add k f), (0x11, Instr.sub k f), (0x12, Instr.and k f), (0x13, Instr.or k f),
        (0x14, Instr.xor k f), (0x15, Instr.shl k f), (0x16, Instr.shr k f), (0x17, Instr.sar k f),
        (0x18, Instr.min k f), (0x19, Instr.max k f), (0x1A, Instr.mul k f), (0x1B, Instr.addi k f),
        (0x1C, Instr.cmp k f), (0x1D, Instr.cmpi k f), (0x1E, Instr.movi k f), (0x1F, Instr.movu k f),
        (0x20, Instr.vadd k f), (0x21, Instr.vsub k f), (0x22, Instr.vaddw k f), (0x23, Instr.vsubw k f),
        (0x24, Instr.vneg k f), (0x25, Instr.vabs k f), (0x26, Instr.vand k f), (0x27, Instr.vor k f),
        (0x28, Instr.vxor k f), (0x29, Instr.vmin k f), (0x2A, Instr.vmax k f), (0x2B, Instr.vscale k f),
        (0x2C, Instr.vshli k f), (0x2D, Instr.vperm k f), (0x2E, Instr.vbcast k f), (0x2F, Instr.vins k f),
        (0x30, Instr.vext k f), (0x38, Instr.vmulr k f), (0x39, Instr.vmulrs k f), (0x3A, Instr.vcmul k f),
        (0x3B, Instr.vcmulj k f), (0x40, Instr.mpy k f), (0x41, Instr.mac k f), (0x42, Instr.msu k f),
        (0x43, Instr.mpys k f), (0x44, Instr.macs k f), (0x45, Instr.msus k f), (0x46, Instr.acclr k f),
        (0x47, Instr.acld k f), (0x48, Instr.acadd k f), (0x49, Instr.acaddv k f), (0x4A, Instr.acsubv k f),
        (0x4B, Instr.vbf k f), (0x4C, Instr.acsum k f), (0x4D, Instr.acsh k f), (0x4E, Instr.acget k f),
        (0x4F, Instr.acput k f), (0x50, Instr.acrnd k f), (0x51, Instr.acrndb k f), (0x52, Instr.actrn k f),
        (0x58, Instr.exp k f), (0x59, Instr.acexp k f), (0x5A, Instr.norm k f), (0x5B, Instr.bexp k f),
        (0x60, Instr.frd k f), (0x61, Instr.fwr k f), (0x62, Instr.xrd k f), (0x63, Instr.xwr k f)] →
      Completes c s (fun t => t = Osier.issue s.begin k (Operands.bundle op f))) ∧
    -- LDV
    (∀ (core : Nat) (y : Bool) (move : MoveArgs) (op : BitVec 8) (f : Slots),
      Completes (.ldv core y move op f) s (fun t =>
        t = Osier.issue s.begin core (Operands.bundle op.toNat (Operands.withMove f y 1 move)))) ∧
    -- STV
    (∀ (core : Nat) (y : Bool) (move : MoveArgs) (op : BitVec 8) (f : Slots),
      Completes (.stv core y move op f) s (fun t =>
        t = Osier.issue s.begin core (Operands.bundle op.toNat (Operands.withMove f y 2 move)))) ∧
    -- LDS
    (∀ (core : Nat) (y : Bool) (move : MoveArgs) (op : BitVec 8) (f : Slots),
      Completes (.lds core y move op f) s (fun t =>
        t = Osier.issue s.begin core (Operands.bundle op.toNat (Operands.withMove f y 3 move)))) ∧
    -- STS
    (∀ (core : Nat) (y : Bool) (move : MoveArgs) (op : BitVec 8) (f : Slots),
      Completes (.sts core y move op f) s (fun t =>
        t = Osier.issue s.begin core (Operands.bundle op.toNat (Operands.withMove f y 4 move)))) ∧
    -- LDB
    (∀ (core : Nat) (y : Bool) (move : MoveArgs) (op : BitVec 8) (f : Slots),
      Completes (.ldb core y move op f) s (fun t =>
        t = Osier.issue s.begin core (Operands.bundle op.toNat (Operands.withMove f y 5 move)))) ∧
    -- UPD
    (∀ (core : Nat) (arg : BitVec 8) (op : BitVec 8) (f : Slots),
      Completes (.upd core arg op f) s (fun t =>
        t = Osier.issue s.begin core (Operands.bundle op.toNat (Operands.withCtl f 1 arg)))) ∧
    -- UPDR
    (∀ (core : Nat) (arg : BitVec 8) (op : BitVec 8) (f : Slots),
      Completes (.updr core arg op f) s (fun t =>
        t = Osier.issue s.begin core (Operands.bundle op.toNat (Operands.withCtl f 2 arg)))) ∧
    -- WAITX
    (∀ (core : Nat) (arg : BitVec 8) (op : BitVec 8) (f : Slots),
      Completes (.waitx core arg op f) s (fun t =>
        t = Osier.issue s.begin core (Operands.bundle op.toNat (Operands.withCtl f 3 arg)))) ∧
    -- DONE
    (∀ (core : Nat) (arg : BitVec 8) (op : BitVec 8) (f : Slots),
      Completes (.done core arg op f) s (fun t =>
        t = Osier.issue s.begin core (Operands.bundle op.toNat (Operands.withCtl f 4 arg)))) ∧
    -- SATCLR
    (∀ (core : Nat) (arg : BitVec 8) (op : BitVec 8) (f : Slots),
      Completes (.satclr core arg op f) s (fun t =>
        t = Osier.issue s.begin core (Operands.bundle op.toNat (Operands.withCtl f 5 arg)))) ∧
    -- INSTRUCTION_WRITE
    (∀ (core : Nat) (bundle : Nat) (broadcast : Bool) (w : Word),
      Completes (.instructionWrite core bundle broadcast w) s (fun t =>
        t = Window.write s.begin 0 (0x60 + core) ((if broadcast then 0x80000 else 0x20000) + 8 * (bundle % 4096) + 4) w)) ∧
    -- TRANSFER_COMPLETE
    (∀ (core : Nat), Completes (.transferComplete core) s (fun t => t = Osier.transfer s.begin core)) ∧
    -- OSIER_WINDOW_ACCESS_RELEASE
    (∀ (core : Nat), Completes (.osierWindowAccessRelease core) s (fun t => t = Osier.release s.begin core)) ∧
    -- INJECT_PARITY
    (∀ (core : Nat), Completes (.injectParity core) s (fun t => t = Reg.poke s.begin (Reg.osierInject core) 2)) ∧
    -- INJECT_RESIDUE
    (∀ (core : Nat), Completes (.injectResidue core) s (fun t => t = Reg.poke s.begin (Reg.osierInject core) 1))

/-- The rows of the power budget, the power stage and supervision, with no form shut out. -/
def Obligations.PowerStageAndSupervisionCommandsComplete : Prop :=
  ∀ s : State, (s.running = true →
    -- BUDGET_EPOCH_CLOSE
    (∀ (temps : List Int) (reg : Option (Nat × Nat)) (freqs : List (Nat × Nat)),
      Completes (.budgetEpochClose temps reg freqs) s (fun t => t = Epoch.close s.begin temps reg freqs)) ∧
    -- REGULATOR_TIMEOUT
    Completes .regulatorTimeout s (fun t => t = Budget.regulatorTimeout s.begin) ∧
    -- DOMAIN_TRANSITION_DONE
    Completes .domainTransitionDone s (fun t => t = Domain.done s.begin) ∧
    -- STANDBY_ENTER
    Completes .standbyEnter s (fun t => t = Reg.poke s.begin Reg.budgetStandby (s.begin.rd Reg.budgetStandby ||| 1)) ∧
    -- OVER_CURRENT
    (∀ (ch : Nat), Completes (.overCurrent ch) s (fun t => t = Pstg.overCurrent s.begin ch)) ∧
    -- SHORT
    (∀ (ch : Nat), Completes (.short ch) s (fun t => t = Pstg.short s.begin ch)) ∧
    -- DRIVER_FAULT
    (∀ (group : Nat), Completes (.driverFault group) s (fun t => t = Pstg.driverFault s.begin group)) ∧
    -- DRIVER_FAULT_RECOVERY
    (∀ (group : Nat), Completes (.driverFaultRecovery group) s (fun t => t = Pstg.driverRecovery s.begin group)) ∧
    -- LOOP_FAULT
    (∀ (ch : Nat), Completes (.loopFault ch) s (fun t => t = Pstg.loopFault s.begin ch)) ∧
    -- RECHECK_START
    (∀ (ch : Nat), Completes (.recheckStart ch) s (fun t => t = Pstg.recheckStart s.begin ch)) ∧
    -- RECHECK_COMMAND
    (∀ (ch : Nat), Completes (.recheckCommand ch) s (fun t => t = Reg.poke s.begin (Reg.pstgChCmd (ch / 8) (ch % 8)) 1)) ∧
    -- RECHECK_END
    (∀ (ch : Nat), Completes (.recheckEnd ch) s (fun t => t = Pstg.recheckEnd s.begin ch)) ∧
    -- CHANNEL_START
    (∀ (ch : Nat) (hyst : Nat) (tLoop : Nat),
      Completes (.channelStart ch hyst tLoop) s (fun t => t = Pstg.channelStart s.begin ch hyst tLoop)) ∧
    -- CHANNEL_RAMP_DOWN_DONE
    (∀ (ch : Nat), Completes (.channelRampDownDone ch) s (fun t => t = Pstg.rampDownDone s.begin ch)) ∧
    -- CLOCK_ERROR
    Completes .clockError s (fun t => t = Pstg.clockError s.begin) ∧
    -- CLOCK_RECOVERY
    Completes .clockRecovery s (fun t => t = Pstg.clockRecovery s.begin) ∧
    -- LSUP_WINDOW_END
    (∀ (ch : Nat) (sums : Machine.Sums) (overload : Bool),
      Completes (.lsupWindowEnd ch sums overload) s (fun t => t = Lsup.windowEnd s.begin ch sums overload)) ∧
    -- VERDICT_CHANGE
    (∀ (ch : Nat), Completes (.verdictChange ch) s (fun t => t = Lsup.verdictChange s.begin ch)) ∧
    -- BASELINE_CAPTURE
    (∀ (ch : Nat),
      Completes (.baselineCapture ch) s (fun t => t = Reg.poke s.begin Reg.lsupCmd (w32 (ch % 64 + at_ 8 1)))) ∧
    -- AC_BASELINE_TEST
    (∀ (ch : Nat), Completes (.acBaselineTest ch) s (fun t => t = Reg.poke s.begin Reg.lsupCmd (w32 (ch % 64 + at_ 8 2)))) ∧
    -- AC_TEST_COMMAND
    (∀ (ch : Nat), Completes (.acTestCommand ch) s (fun t => t = Reg.poke s.begin Reg.lsupCmd (w32 (ch % 64 + at_ 8 3)))) ∧
    -- CLEAR_BASELINES
    (∀ (ch : Nat), Completes (.clearBaselines ch) s (fun t => t = Reg.poke s.begin Reg.lsupCmd (w32 (ch % 64 + at_ 8 4)))) ∧
    -- AC_TEST_SILENCE_START
    (∀ (ch : Nat), Completes (.acTestSilenceStart ch) s (fun t => t = Lsup.silenceStart s.begin ch)) ∧
    -- AC_TEST_FIRST_START
    (∀ (ch : Nat), Completes (.acTestFirstStart ch) s (fun t => t = Lsup.firstStart s.begin ch)) ∧
    -- AC_POINT_END
    (∀ (ch : Nat) (sums : Machine.Sums), Completes (.acPointEnd ch sums) s (fun t => t = Lsup.acPoint s.begin ch sums)) ∧
    -- AC_TEST_END
    (∀ (ch : Nat), Completes (.acTestEnd ch) s (fun t => t = Lsup.acEnd s.begin ch)) ∧
    -- AC_TEST_ABORT
    (∀ (ch : Nat), Completes (.acTestAbort ch) s (fun t => t = Lsup.acAbort s.begin ch))) ∧
    -- WAKE_SPI
    (∀ (env : StartEnv), Completes (.wakeSpi env) s (fun t => t = Standby.wake s.begin env)) ∧
    -- WAKE_GPIO
    (∀ (pin : Nat) (env : StartEnv), Completes (.wakeGpio pin env) s (fun t => t = Standby.wakeGpio s.begin pin env)) ∧
    -- STANDBY_TIMER_EXPIRY
    (∀ (env : StartEnv), Completes (.standbyTimerExpiry env) s (fun t => t = Standby.timer s.begin env))

/-- The rows of the ports, Stake and PTP, with no form shut out. -/
def Obligations.PortAndClockCommandsComplete : Prop :=
  ∀ s : State, s.running = true →
    -- PORT_START
    (∀ (page : Nat) (tx : Bool), Completes (.portStart page tx) s (fun t => t = Port.start s.begin page tx)) ∧
    -- LEADIN_END
    (∀ (page : Nat) (tx : Bool), Completes (.leadinEnd page tx) s (fun t => t = Port.leadinEnd s.begin page tx)) ∧
    -- PORT_STOP
    (∀ (page : Nat) (tx : Bool), Completes (.portStop page tx) s (fun t => t = Port.stopCmd s.begin page tx)) ∧
    -- PORT_FADE_END
    (∀ (page : Nat) (tx : Bool), Completes (.portFadeEnd page tx) s (fun t => t = Port.fadeEnd s.begin page tx)) ∧
    -- LEADOUT_END
    (∀ (page : Nat) (tx : Bool), Completes (.leadoutEnd page tx) s (fun t => t = Port.leadoutEnd s.begin page tx)) ∧
    -- MASK_CHANGE_APPLY
    (∀ (page : Nat) (tx : Bool), Completes (.maskChangeApply page tx) s (fun t => t = Port.maskApply s.begin page tx)) ∧
    -- RECEIVER_LOCK
    (∀ (page : Nat), Completes (.receiverLock page) s (fun t => t = Port.lock s.begin page)) ∧
    -- RECEIVER_LOCK_LOSS
    (∀ (page : Nat), Completes (.receiverLockLoss page) s (fun t => t = Port.lockLoss s.begin page)) ∧
    -- PORT_INPUT_FRAME
    (∀ (page : Nat) (words : List Nat),
      Completes (.portInputFrame page words) s (fun t => t = Port.inputFrame s.begin page words)) ∧
    -- AES_INPUT_FRAME
    (∀ (index : Nat) (a : Machine.Subframe) (b : Machine.Subframe),
      Completes (.aesInputFrame index a b) s (fun t => t = Port.aesFrame s.begin index a b)) ∧
    -- AES_CS_BLOCK
    (∀ (index : Nat) (b : Bool) (bytes : List Byte),
      Completes (.aesCsBlock index b bytes) s (fun t => t = Port.csBlock s.begin index b bytes)) ∧
    -- MADI_INPUT_FRAME
    (∀ (index : Nat) (sub : List Machine.Subframe),
      Completes (.madiInputFrame index sub) s (fun t => t = Port.madiFrame s.begin index sub)) ∧
    -- RATE_MEASURE
    (∀ (page : Nat) (cnt : Nat) (t0 : Nat) (t1 : Nat),
      Completes (.rateMeasure page cnt t0 t1) s (fun t =>
        t = if page = Stake.page then Stake.wclkMeasure s.begin cnt t0 t1 else Port.measure s.begin page cnt t0 t1)) ∧
    -- ASRC_LOCK
    (∀ (engine : Nat) (ratio : Nat), Completes (.asrcLock engine ratio) s (fun t => t = Asrc.lock s.begin engine ratio)) ∧
    -- ASRC_UNLOCK
    (∀ (engine : Nat) (range : Bool),
      Completes (.asrcUnlock engine range) s (fun t => t = Asrc.unlock s.begin engine range)) ∧
    -- HOST_AUDIO_IN_READ
    (∀ (data : List Byte), Completes (.hostAudioInRead data) s (fun t => t = HostAud.read s.begin data)) ∧
    -- HOST_AUDIO_OUT_DONE
    (∀ (err : Bool), Completes (.hostAudioOutDone err) s (fun t => t = HostAud.done s.begin err)) ∧
    -- PORT_OUTPUT_FRAME
    (∀ (page : Nat), Completes (.portOutputFrame page) s (fun t => t = Port.outputFrame s.begin page)) ∧
    -- SERVO_MEASUREMENT
    (∀ (offset : Int), Completes (.servoMeasurement offset) s (fun t => t = Stake.measurement s.begin offset)) ∧
    -- PTP_SYNC
    (∀ (port : Nat) (domain : Nat) (sender : Nat) (seq : Nat) (twoStep : Bool) (t1 : Nat) (corr : Int),
      Completes (.ptpSync port domain sender seq twoStep t1 corr) s (fun t =>
        t = Ptp.sync (Ptp.received s.begin port domain) port domain sender seq twoStep t1 corr)) ∧
    -- PTP_FOLLOW_UP
    (∀ (port : Nat) (domain : Nat) (sender : Nat) (seq : Nat) (t1 : Nat) (corr : Int),
      Completes (.ptpFollowUp port domain sender seq t1 corr) s (fun t =>
        t = Ptp.followUp (Ptp.received s.begin port domain) port domain sender seq t1 corr)) ∧
    -- PTP_DELAY_REQ
    (∀ (port : Nat) (domain : Nat) (requester : Nat) (seq : Nat),
      Completes (.ptpDelayReq port domain requester seq) s (fun t =>
        t = Ptp.delayReq (Ptp.received s.begin port domain) port domain requester seq)) ∧
    -- PTP_DELAY_RESP
    (∀ (port : Nat) (domain : Nat) (sender : Nat) (seq : Nat) (t4 : Nat) (corr : Int),
      Completes (.ptpDelayResp port domain sender seq t4 corr) s (fun t =>
        t = Ptp.delayResp (Ptp.received s.begin port domain) port domain sender seq t4 corr)) ∧
    -- PTP_ANNOUNCE
    (∀ (port : Nat) (a : Announce),
      Completes (.ptpAnnounce port a) s (fun t => t = Ptp.announce (Ptp.received s.begin port a.domain) port a)) ∧
    -- PTP_MANAGEMENT_SIGNALING
    (∀ (port : Nat) (frame : List Byte) (buf : Nat),
      Completes (.ptpManagementSignaling port frame buf) s (fun t => t = Eth.host s.begin port frame buf)) ∧
    -- ANNOUNCE_TIMEOUT
    (∀ (port : Nat), Completes (.announceTimeout port) s (fun t => t = Ptp.timeout s.begin port)) ∧
    -- PTP_MESSAGE_INTERVAL
    (∀ (port : Nat) (kind : Nat),
      Completes (.ptpMessageInterval port kind) s (fun t => t = Ptp.interval s.begin port kind)) ∧
    -- REF10M_MEASURE
    (∀ (ppb : Int), Completes (.ref10mMeasure ppb) s (fun t => t = Stake.ref10m s.begin ppb)) ∧
    -- TRIGGER_EDGE
    (∀ (k : Nat), Completes (.triggerEdge k) s (fun t => t = Stake.edge s.begin k)) ∧
    -- CAPTURE_EDGE
    (∀ (k : Nat) (rising : Bool), Completes (.captureEdge k rising) s (fun t => t = Stake.capture s.begin k rising)) ∧
    -- TCAP_POP
    (∀ (k : Nat), Completes (.tcapPop k) s (fun t => t = Read.answered (Page.access s.begin 0 (Reg.stakeTcapNs (k % 4))))) ∧
    -- HOLDOVER
    Completes .holdover s (fun t => t = Stake.holdover s.begin) ∧
    -- STAKE_SET
    Completes .stakeSet s (fun t => t = Reg.poke s.begin Reg.stakeSetCtrl 1) ∧
    -- STAKE_ADD
    Completes .stakeAdd s (fun t => t = Reg.poke s.begin Reg.stakeSetCtrl 2) ∧
    -- STAKE_SUBTRACT
    Completes .stakeSubtract s (fun t => t = Reg.poke s.begin Reg.stakeSetCtrl 3) ∧
    -- STAKE_STEP_REQUEST
    Completes .stakeStepRequest s (fun t => t = Stake.stepRamp s.begin) ∧
    -- STAKE_STEP_APPLY
    Completes .stakeStepApply s (fun t => t = Stake.stepApply s.begin) ∧
    -- PPS_EDGE
    Completes .ppsEdge s (fun t => t = Stake.ppsEdge s.begin) ∧
    -- PPS_LOSS
    Completes .ppsLoss s (fun t => t = Stake.ppsLoss s.begin) ∧
    -- GM_HOLDOVER_LIMIT
    Completes .gmHoldoverLimit s (fun t => t = Stake.gmLimit s.begin)

/-- The rows of Ethernet, routing, meters, measurement and capture, with no form shut out. -/
def Obligations.NetworkRoutingAndCaptureCommandsComplete : Prop :=
  ∀ s : State, s.running = true →
    -- ETH_FRAME_RECEIVE
    (∀ (port : Nat) (frame : List Byte) (fcsOk : Bool) (sfd : Nat) (buf : Nat),
      Completes (.ethFrameReceive port frame fcsOk sfd buf) s (fun t => t = Eth.receive s.begin port frame fcsOk sfd buf)) ∧
    -- STREAM_PACKET_RECEIVE
    (∀ (port : Nat) (packet : RtpPacket),
      Completes (.streamPacketReceive port packet) s (fun t => t = Eth.packet s.begin port packet)) ∧
    -- ARP_REQUEST
    (∀ (port : Nat) (target : Nat) (sender : Nat) (mac : Nat),
      Completes (.arpRequest port target sender mac) s (fun t => t = Net.arpRequest s.begin port target sender mac)) ∧
    -- ICMP_ECHO_REQUEST
    (∀ (port : Nat) (sender : Nat) (payload : List Byte),
      Completes (.icmpEchoRequest port sender payload) s (fun t => t = Net.echo s.begin port sender payload)) ∧
    -- IGMP_QUERY
    (∀ (port : Nat) (version : Nat) (frame : List Byte) (buf : Nat),
      Completes (.igmpQuery port version frame buf) s (fun t => t = Eth.query s.begin port version frame buf)) ∧
    -- IGMP_REPORT
    (∀ (port : Nat), Completes (.igmpReport port) s (fun t => t = Net.report s.begin port)) ∧
    -- LINK_CHANGE
    (∀ (port : Nat) (up : Bool), Completes (.linkChange port up) s (fun t => t = Net.linkChange s.begin port up)) ∧
    -- GRATUITOUS_ARP
    (∀ (port : Nat), Completes (.gratuitousArp port) s (fun t => t = Net.gratuitous s.begin port)) ∧
    -- HTX_TAIL_WRITE
    (∀ (port : Nat) (v : Word),
      Completes (.htxTailWrite port v) s (fun t => t = Reg.poke s.begin (Reg.netHtxTail (port % 2)) v)) ∧
    -- HOST_FRAME_SEND
    (∀ (port : Nat) (desc : HtxDesc),
      Completes (.hostFrameSend port desc) s (fun t => t = Net.hostSend s.begin port desc)) ∧
    -- TXTS_POP
    (∀ (port : Nat), Completes (.txtsPop port) s (fun t => t = Reg.poke s.begin (Reg.netTxtsPop (port % 2)) 1)) ∧
    -- ARP_REPLY
    (∀ (port : Nat) (sender : Nat) (mac : Nat),
      Completes (.arpReply port sender mac) s (fun t => t = Net.arpReply s.begin port sender mac)) ∧
    -- ARP_REFRESH
    (∀ (port : Nat) (addr : Nat), Completes (.arpRefresh port addr) s (fun t => t = Net.arpRefresh s.begin port addr)) ∧
    -- PATCH_POST
    (∀ (v : Word), Completes (.patchPost v) s (fun t => t = Reg.poke s.begin Reg.routePatchSrc v)) ∧
    -- CROSSFADE_END
    (∀ (sink : Nat), Completes (.crossfadeEnd sink) s (fun t => t = Route.crossfadeEnd s.begin sink)) ∧
    -- MIX_NODE_POST
    (∀ (v : Word), Completes (.mixNodePost v) s (fun t => t = Reg.poke s.begin Reg.routeMixGain v)) ∧
    -- GENERATOR_FADE_END
    (∀ (gen : Nat), Completes (.generatorFadeEnd gen) s (fun t => t = Route.genFadeEnd s.begin gen)) ∧
    -- METER_CLEAR
    (∀ (v : Word), Completes (.meterClear v) s (fun t => t = Reg.poke s.begin Reg.meterClear v)) ∧
    -- METER_CONFIG_WRITE
    (∀ (meter : Nat) (word : Nat) (v : Word),
      Completes (.meterConfigWrite meter word v) s (fun t =>
        t = Window.write s.begin 0 0x49 (16 * (meter % 1024) + 4 * (word % 4)) v)) ∧
    -- LOUDNESS_START
    (∀ (meter : Nat),
      Completes (.loudnessStart meter) s (fun t => t = Reg.poke s.begin (Reg.meterLoudCtrl (meter % 16)) 1)) ∧
    -- LOUDNESS_STOP
    (∀ (meter : Nat),
      Completes (.loudnessStop meter) s (fun t => t = Reg.poke s.begin (Reg.meterLoudCtrl (meter % 16)) 2)) ∧
    -- LOUDNESS_RESET
    (∀ (meter : Nat),
      Completes (.loudnessReset meter) s (fun t => t = Reg.poke s.begin (Reg.meterLoudCtrl (meter % 16)) 3)) ∧
    -- LOUDNESS_BLOCK
    (∀ (meter : Nat), Completes (.loudnessBlock meter) s (fun t => t = Meter.block s.begin meter)) ∧
    -- ROUTE_FADE_DONE
    Completes .routeFadeDone s (fun t => t = Route.fadeDone s.begin) ∧
    -- DETECTOR_CLEAR
    (∀ (v : Word), Completes (.detectorClear v) s (fun t => t = Reg.poke s.begin Reg.captDetClear v)) ∧
    -- DETECTOR_CONFIG_WRITE
    (∀ (chain : Nat) (word : Nat) (v : Word),
      Completes (.detectorConfigWrite chain word v) s (fun t =>
        t = Window.write s.begin 0 0x55 (0x90000 + 16 * (chain % 144) + 4 * (word % 4)) v)) ∧
    -- CAPTURE_BLEND_END
    (∀ (chain : Nat), Completes (.captureBlendEnd chain) s (fun t => t = Capt.blendEnd s.begin chain)) ∧
    -- MEAS_START
    (∀ (job : Nat), Completes (.measStart job) s (fun t => t = Reg.poke s.begin Reg.measCmd (w32 (1 + at_ 4 (job % 16))))) ∧
    -- SENSE_OVERLOAD
    (∀ (chain : Nat), Completes (.senseOverload chain) s (fun t => t = Capt.overload s.begin chain)) ∧
    -- MEAS_ABORT
    Completes .measAbort s (fun t => t = Reg.poke s.begin Reg.measCmd 2) ∧
    -- MEAS_CLEAR
    Completes .measClear s (fun t => t = Reg.poke s.begin Reg.measCmd 3) ∧
    -- MEAS_RUN_END
    Completes .measRunEnd s (fun t => t = Meas.runEnd s.begin) ∧
    -- RESPONSE_STORED
    Completes .responseStored s (fun t => t = Meas.respStored s.begin)

/-- Absent pages (R4). -/
def Obligations.AbsentPagesReadZero : Prop :=
  ∀ (s : State) (ini p o : Nat), o < 0x1000 →
    (pagePresent s.variant p = false → Page.read s ini p o = 0 ∧ Page.access s ini (p * 0x1000 + o) = (s, 0) ∧
      (s.running = true →
        ∀ u, u = Weave.behind s.begin ini (p * 0x1000 + o) →
        Completes (.loReadLatch ini (p * 0x1000 + o)) s (fun t => t = u.answer 0 [0, 0, 0, 0]) ∧
        ∀ v, Completes (.registerWrite ini (p * 0x1000 + o) v) s (fun t =>
          t.rd Reg.weaveDiscards = satAdd (u.rd Reg.weaveDiscards) 1 ∧
          (∀ a, a ≠ Reg.weaveDiscards → a ≠ Reg.irqStatus 0xF8 → t.rd a = u.rd a) ∧
          t = { u with regs := t.regs } ∧ t.ctl.busResp = 0))) ∧
    (s.pageUp p = true → Page.read s ini p 0 ≠ 0)

/-- Staging and effective copies (R50). -/
def Obligations.StagedRegistersHaveTwoCopies : Prop :=
  ∀ (s : State) (ini p o : Nat) (r : RegInfo) (i : Nat), s.pageUp p = true → regAt p o = some (r, i) → r.staged = true →
    ¬ (0xE1 ≤ p ∧ p ≤ 0xE7 ∧ (o = 0x70 ∨ (0x100 ≤ o ∧ o < 0x180))) →
    (∀ v u, u = Weave.behind s.begin ini (p * 0x1000 + o) → Completes (.registerWrite ini (p * 0x1000 + o) v) s (fun t =>
      t.rd (p * 0x1000 + o) = ((v &&& w32 r.rw) ||| (u.rd (p * 0x1000 + o) &&& ~~~(w32 r.rw) &&& ~~~(v &&& w32 r.w1c))) ∧
      (∀ a, a ≠ p * 0x1000 + o → t.rd a = u.rd a) ∧ (∀ a, t.ef a = s.ef a) ∧
      t = { u with regs := t.regs, ctl := { u.ctl with latch := Tab.erase u.ctl.latch (p * 0x1000 + o) } })) ∧
    Page.read s ini p o = s.rd (p * 0x1000 + o) ∧ Page.read s ini p (o + 0x800) = s.ef (p * 0x1000 + o)

/-- The pending set of a page (R51). -/
def Obligations.CommitsSnapshotTheStagingCopies : Prop :=
  ∀ (s : State) (p : Nat), s.pageUp p = true →
    (s.ctl.commit p = none → s.rateOn = true →
      Page.check1 s.begin p (Page.view (Page.withEff s.begin p (s.staging p)) p) = none →
      s.rdF (Reg.commitMode p) 1 0 = 1 ∨ (s.rdF (Reg.commitMode p) 1 0 = 2 ∧
        (s.clk.ticking = true → s.clk.nextTick ≤ s.rd64 (Reg.commitFrameLo p) (Reg.commitFrameHi p)) ∧
        s.clk.stake + 2 * usU ≤ tickAt s.clk.rate (s.rd64 (Reg.commitFrameLo p) (Reg.commitFrameHi p))) →
      Completes (.commitRequest p false) s (fun t => ∃ c, t.ctl.commit p = some c ∧
        ∀ o r i, regAt p o = some (r, i) → r.staged = true → (o, s.rd (p * 0x1000 + o)) ∈ c.values)) ∧
    (∀ q c, s.ctl.commit q = some c → ∀ ini o v r i, regAt p o = some (r, i) → r.staged = true →
      Completes (.registerWrite ini (p * 0x1000 + o) v) s (fun t => t.ctl.commit q = some c)) ∧
    (∀ c, s.ctl.commit p = some c → Completes (.commitRequest p false) s (fun t =>
      t.ctl.commit p = some c ∧ fld (t.rd (Reg.faultCause p)) 7 0 = 4 ∧ ∀ a, t.ef a = s.ef a))

/-- The summary bits (R57). -/
def Obligations.SummaryBitsFollowTheInterrupts : Prop :=
  ∀ (s : State) (ini p : Nat), s.pageUp 2 = true → p < 2048 →
    (s.pageUp p = true → (bit (Page.read s ini 2 (0x100 + 4 * (p / 32))) (p % 32) = true ↔
      ∃ i, i < 32 ∧ bit (s.rd (Reg.irqStatus p)) i = true ∧ bit (s.rd (Reg.irqEnable p)) i = true)) ∧
    (pagePresent s.variant p = false → bit (Page.read s ini 2 (0x100 + 4 * (p / 32))) (p % 32) = false)

/-- The CRC-8 as the remainder of a polynomial division (R64). -/
def Obligations.CrcEightIsPolynomialDivision : Prop :=
  ∀ l : List Byte, crc8 l < 256 ∧
    crc8 l = (l.flatMap (fun b => (List.range 8).map (fun i => b.getLsbD (7 - i))) ++ List.replicate 8 false).foldl
      (fun r b => if 256 ≤ 2 * r + b2n b then (2 * r + b2n b) ^^^ 0x107 else 2 * r + b2n b) 0

/-- Ramp times (R144). -/
def Obligations.RampTimesLastWholeFrames : Prop :=
  ∀ (s : State) (k : Nat), k * rateHz s.clk.rate ≤ 1000 * s.ms k ∧ 1000 * s.ms k < k * rateHz s.clk.rate + 1000 ∧
    (rateHz s.clk.rate = 44100 → s.ms 10 = 441) ∧ (rateHz s.clk.rate = 48000 → s.ms 10 = 480) ∧ s.ms 0 = 0 ∧
    ∀ (r : Ramp) (n : Nat) (x : Int), (r.aim n (n + s.ms k) x).at (n + s.ms k) = x ∧
      (0 < s.ms k → (r.aim n (n + s.ms k) x).at n = r.at n)

/-- Headroom (R237). -/
def Obligations.HeadroomCountsSignBits : Prop :=
  headroom 0 = 31 ∧ headroom (-1) = 31 ∧ ∀ (w : BitVec 32) (h : Nat), h = headroom w.toInt →
    h ≤ 31 ∧ (∀ i, i < h → w.getLsbD (30 - i) = w.getLsbD 31) ∧ (h < 31 → w.getLsbD (30 - h) ≠ w.getLsbD 31) ∧
    w.toInt.natAbs ≤ 2 ^ (31 - h)

/-- The rows of DRAM, the Weave, start, self-test and the test access port, with no form shut out. -/
def Obligations.MemoryAndStartCommandsComplete : Prop :=
  ∀ s : State, (s.running = true →
    -- TRAINING
    (∀ (mask : Nat), Completes (.training mask) s (fun t => t = Reg.poke s.begin Reg.memcTrain (w32 (mask % 16)))) ∧
    -- TRAINING_DONE
    (∀ (failed : Nat), Completes (.trainingDone failed) s (fun t => t = Memc.trainingDone s.begin failed)) ∧
    -- MR4_POLL
    (∀ (die : Nat) (field : Nat) (above : Bool) (beyond : Bool) (ns : Nat),
      Completes (.mr4Poll die field above beyond ns) s (fun t => t = Memc.mr4 s.begin die field above beyond ns)) ∧
    -- BANK_REFRESH
    (∀ (ch : Nat) (bank : Nat), Completes (.bankRefresh ch bank) s (fun t => t = Memc.bankRefresh s.begin ch bank)) ∧
    -- DRAM_REQUEST
    (∀ (port : Nat) (ini : Nat) (write : Bool) (addr : Nat) (len : Nat) (data : List Byte) (ecc : Nat) (wait : Bool) (exitNs : Nat),
      Completes (.dramRequest port ini write addr len data ecc wait exitNs) s (fun t =>
        t = Memc.request s.begin port ini write addr len data ecc wait exitNs)) ∧
    -- SCRUB_READ
    (∀ (ecc : Nat), Completes (.scrubRead ecc) s (fun t => t = Memc.scrub s.begin ecc)) ∧
    -- IDLE_SELF_REFRESH_ENTRY
    (∀ (ch : Nat), Completes (.idleSelfRefreshEntry ch) s (fun t => t = Memc.idleEntry s.begin ch)) ∧
    -- SET_POINT_SWITCH_DONE
    (∀ (ns : Nat), Completes (.setPointSwitchDone ns) s (fun t => t = Memc.switchDone s.begin ns)) ∧
    -- SET_POINT_HELD_START
    Completes .setPointHeldStart s (fun t => t = Memc.heldStart s.begin) ∧
    -- URGENCY_RAISE
    Completes .urgencyRaise s (fun t => t = Memc.raise s.begin) ∧
    -- WEAVE_BURST
    (∀ (b : Machine.Burst) (wait : Bool), Completes (.weaveBurst b wait) s (fun t => t = Weave.burst s.begin b wait)) ∧
    -- INITIATOR_RESET_MID_BURST
    (∀ (b : Machine.Burst) (done : Nat),
      Completes (.initiatorResetMidBurst b done) s (fun t => t = Weave.resetBurst s.begin b done)) ∧
    -- PCIE_ATOMIC_OP
    (∀ (bar : Nat) (off : Nat) (size : Nat) (op : Nat) (x : Nat) (y : Nat),
      Completes (.pcieAtomicOp bar off size op x y) s (fun t => t = Pcie.atomic s.begin bar off size op x y)) ∧
    -- LOCK_TIMEOUT
    Completes .lockTimeout s (fun t => t = Weave.lockTimeout s.begin) ∧
    -- PCIE_LINK_DOWN
    Completes .pcieLinkDown s (fun t => t = Weave.resetInitiator s.begin 0) ∧
    -- START_READY
    (∀ (slot0 : Option (List Byte)) (slot1 : Option (List Byte)) (ns : Nat),
      Completes (.startReady slot0 slot1 ns) s (fun t => t = Start.run s.begin slot0 slot1 ns)) ∧
    -- HOST_LOAD_GO
    (∀ (len : Nat), Completes (.hostLoadGo len) s (fun t => t = Reg.poke s.begin Reg.bootHostGo (w32 (len % 2 ^ 25)))) ∧
    -- START_ATTEMPT_FAIL
    (∀ (code : Nat), Completes (.startAttemptFail code) s (fun t => t = Boot.attemptFails s.begin code)) ∧
    -- BOOT_RETRY
    (∀ (env : StartEnv), Completes (.bootRetry env) s (fun t => t = Boot.retryDue s.begin 7 env)) ∧
    -- SAFE_HOLD_ENTRY
    (∀ (part : Nat) (item : Nat), Completes (.safeHoldEntry part item) s (fun t => t = Bist.fails s.begin part item)) ∧
    -- SAFE_HOLD_RETRY
    (∀ (env : StartEnv), Completes (.safeHoldRetry env) s (fun t => t = Boot.retryDue s.begin 8 env)) ∧
    -- START_ATTEMPT_COMMAND
    (∀ (env : StartEnv),
      Completes (.startAttemptCommand env) s (fun t => t = Reg.poke (Boot.withEnv s.begin env) Reg.bootCmd 2)) ∧
    -- LIFECYCLE_ADVANCE
    (∀ (target : Nat) (confirm : Nat),
      Completes (.lifecycleAdvance target confirm) s (fun t =>
        t = Reg.poke s.begin Reg.bootCmd (w32 (3 + at_ 8 (target % 4) + at_ 16 (confirm % 65536))))) ∧
    -- PIN_READBACK
    (∀ (ball : Nat) (same : Bool), Completes (.pinReadback ball same) s (fun t => t = Bist.readback s.begin ball same)) ∧
    -- SELFTEST_SLICE
    (∀ (part : Nat) (item : Nat) (window : Nat) (ok : Bool) (last : Bool),
      Completes (.selftestSlice part item window ok last) s (fun t => t = Bist.slice s.begin part item window ok last)) ∧
    -- BIST_RUN
    (∀ (parts : Nat), Completes (.bistRun parts) s (fun t => t = Reg.poke s.begin Reg.bistRun (w32 (parts % 16)))) ∧
    -- BIST_INJECT
    (∀ (item : Nat), Completes (.bistInject item) s (fun t => t = Reg.poke s.begin Reg.bistInject (w32 (item % 65536)))) ∧
    -- GPIO_SAMPLE
    (∀ (pins : Word), Completes (.gpioSample pins) s (fun t => t = Gpio.sample s.begin pins)) ∧
    -- BIST_RUN_DONE
    (∀ (failed : Option (Nat × Nat)), Completes (.bistRunDone failed) s (fun t => t = Bist.runDone s.begin failed)) ∧
    -- SELFTEST_WINDOW_HELD
    Completes .selftestWindowHeld s (fun t => t = Boot.windowHeld s.begin) ∧
    -- HOST_LOAD_TIMEOUT
    Completes .hostLoadTimeout s (fun t => t = Boot.hostTimeout s.begin) ∧
    -- SHUTDOWN_COMMAND
    Completes .shutdownCommand s (fun t => t = Reg.poke s.begin Reg.bootCmd 1) ∧
    -- OTP_READ
    Completes .otpRead s (fun t => t = Reg.poke s.begin Reg.bootOtpCmd 1) ∧
    -- OTP_PROGRAM
    Completes .otpProgram s (fun t => t = Reg.poke s.begin Reg.bootOtpCmd 2) ∧
    -- OTP_OPERATION_DONE
    Completes .otpOperationDone s (fun t => t = Otp.done s.begin) ∧
    -- RECORD_ERASE
    Completes .recordErase s (fun t => t = Boot.erase s.begin) ∧
    -- SLICE_ABANDON
    Completes .sliceAbandon s (fun t => t = Bist.abandon s.begin) ∧
    -- COVERAGE_LAPSE
    Completes .coverageLapse s (fun t => t = Bist.coverage s.begin)) ∧
    -- RESET_RELEASE
    (∀ (env : StartEnv), Completes (.resetRelease env) s (fun t => t = Boot.release s.begin env)) ∧
    -- PORST_ASSERT
    Completes .porstAssert s (fun t => t = State.assertReset s.begin 0) ∧
    -- SYSRST_ASSERT
    Completes .sysrstAssert s (fun t => t = State.assertReset s.begin 1) ∧
    -- SHUTDOWN_PIN
    Completes .shutdownPin s (fun t => t = Shutdown.pin s.begin)

/-- The rows of the pair, faults, the freeze and the debug path, with no form shut out. -/
def Obligations.PairAndFaultCommandsComplete : Prop :=
  ∀ s : State, (s.running = true →
    -- REJOIN
    (∀ (ok : Bool), Completes (.rejoin ok) s (fun t => t = Hoop.rejoinStep s.begin ok)) ∧
    -- HEARTBEAT
    (∀ (beat : Heartbeat), Completes (.heartbeat beat) s (fun t => t = Hoop.heartbeat s.begin beat)) ∧
    -- FRAME_RECORD_SEAL
    (∀ (taps : List (Nat × Int)), Completes (.frameRecordSeal taps) s (fun t => t = Hoop.seal s.begin taps)) ∧
    -- FRAME_RECORD
    (∀ (r : FrameRecord), Completes (.frameRecord r) s (fun t => t = Hoop.frameRecord s.begin r)) ∧
    -- PLAIT_MIRROR
    (∀ (frame : Nat) (writes : List (Nat × Word)) (crcOk : Bool),
      Completes (.plaitMirror frame writes crcOk) s (fun t => t = Hoop.mirror s.begin frame writes crcOk)) ∧
    -- STANDBY_REPORT
    (∀ (frame : Nat) (crc : Option Nat) (decisions : List Nat) (request : Bool) (crcOk : Bool),
      Completes (.standbyReport frame crc decisions request crcOk) s (fun t =>
        t = Hoop.report s.begin frame crc decisions request crcOk)) ∧
    -- RESYNC_MESSAGE
    (∀ (items : List ResyncItem) (crcOk : Bool),
      Completes (.resyncMessage items crcOk) s (fun t => t = Hoop.resync s.begin items crcOk)) ∧
    -- HEARTBEAT_LOSS
    Completes .heartbeatLoss s (fun t => t = Hoop.heartbeatLoss s.begin) ∧
    -- HOOP_LINK_CHANGE
    Completes .hoopLinkChange s (fun t => t = Hoop.linkChange s.begin (!s.begin.hoop.link)) ∧
    -- CLAIM_TIMEOUT
    Completes .claimTimeout s (fun t => t = Claim.timeout s.begin) ∧
    -- SECONDARY_CLAIM_TIMEOUT
    Completes .secondaryClaimTimeout s (fun t => t = Claim.secondary s.begin) ∧
    -- YIELD
    Completes .yield s (fun t => t = Reg.poke s.begin Reg.hoopCmd 1) ∧
    -- REJOIN_COMMAND
    Completes .rejoinCommand s (fun t => t = Reg.poke s.begin Reg.hoopCmd 2) ∧
    -- REVERT_REQUEST
    Completes .revertRequest s (fun t => t = Reg.poke s.begin Reg.hoopCmd 3) ∧
    -- REVERT_HOLD_EXPIRY
    Completes .revertHoldExpiry s (fun t => t = Hoop.holdExpiry s.begin) ∧
    -- FAULT_RECORD
    (∀ (page : Nat) (code : Nat) (detail : Nat),
      Completes (.faultRecord page code detail) s (fun t => t = Fault.detect s.begin page code detail)) ∧
    -- SRAM_SCRUB
    (∀ (ecc : Nat), Completes (.sramScrub ecc) s (fun t => t = Fault.scrub s.begin ecc)) ∧
    -- FAULT_TAIL_WRITE
    (∀ (index : Nat),
      Completes (.faultTailWrite index) s (fun t => t = Reg.poke s.begin Reg.faultRecTail (w32 (index % 256)))) ∧
    -- COLLECTOR_MISMATCH
    Completes .collectorMismatch s (fun t => t = Fault.collector s.begin) ∧
    -- FREEZE_COMMAND
    Completes .freezeCommand s (fun t => t = Reg.poke s.begin Reg.faultCtrl (s.begin.rd Reg.faultCtrl ||| 1))) ∧
    -- SAN_ADDR
    (∀ (addr : Nat), Completes (.sanAddr addr) s (fun t => t = San.addr s.begin addr)) ∧
    -- EXTEST
    (∀ (bits : List Bool), Completes (.extest bits) s (fun t => t = Jtag.extest s.begin 0x00 (some bits))) ∧
    -- SAMPLE_PRELOAD
    (∀ (bits : List Bool), Completes (.samplePreload bits) s (fun t => t = Jtag.sample s.begin bits)) ∧
    -- FREEZE_PIN
    Completes .freezePin s (fun t => t = Freeze.pin s.begin) ∧
    -- FREEZE_RELEASE
    Completes .freezeRelease s (fun t => t = Freeze.released s.begin) ∧
    -- FREEZE_LIMIT_EXPIRY
    Completes .freezeLimitExpiry s (fun t => t = Freeze.limit s.begin) ∧
    -- SAN_DATA
    Completes .sanData s (fun t => t = San.data s.begin) ∧
    -- SAN_RELEASE
    Completes .sanRelease s (fun t => t = San.release s.begin) ∧
    -- SAN_STATUS
    Completes .sanStatus s (fun t => t = San.status s.begin) ∧
    -- IDCODE
    Completes .idcode s (fun t => t = Jtag.idcode s.begin) ∧
    -- CLAMP
    Completes .clamp s (fun t => t = Jtag.extest s.begin 0x03 none) ∧
    -- HIGHZ
    Completes .highz s (fun t => t = Jtag.extest s.begin 0x04 none) ∧
    -- BYPASS
    Completes .bypass s (fun t => t = Jtag.bypass s.begin) ∧
    -- TAP_RESET
    Completes .tapReset s (fun t => t = Jtag.reset s.begin)
end

