-- ==== Sys2Proof/WellFormed.lean ====
section
/-!
DEFINITION. Well-formed commands: operands inside the ranges that the spec's numbering gives them. A command outside them names
nothing that the hardware has; its meaning is then that of the fields it would be cut to, or none.
-/
namespace Sys2Proof

/-- Initiators 0 to 23 (R490). -/
def Operand.initiatorOk (i : Nat) : Bool := decide (i < 24)
/-- Cores 0 to 127 (R1). -/
def Operand.coreOk (k : Nat) : Bool := decide (k < 128)
/-- Nodes 0 to 16,383: the software's, the device's and CORR's (R188). -/
def Operand.nodeOk (i : Nat) : Bool := decide (i < 16384)
/-- Register pages 0x000 to 0x0FF (R42). -/
def Operand.pageOk (p : Nat) : Bool := decide (p < 256)
/-- Pages of serial, AES3 and MADI ports (R336). -/
def Operand.portPageOk (p : Nat) : Bool := decide (0x20 ≤ p ∧ p < 0x3C)
/-- A register's address: a word of one of the pages (R41). -/
def Operand.registerOk (a : Nat) : Bool := decide (a < 0x100000 ∧ a % 4 = 0)
/-- An internal address of 41 bits (R488). -/
def Operand.busOk (a : Nat) : Bool := decide (a < 2 ^ 41)
def Operand.ipOk (a : Nat) : Bool := decide (a < 2 ^ 32)
/-- Network ports A and B (R401). -/
def Operand.netOk (p : Nat) : Bool := decide (p < 2)
/-- A burst: an initiator, and bytes inside one block of 256 (R487). -/
def Operand.burstOk (b : Machine.Burst) : Bool :=
  let n := if b.write then b.data.length else b.len
  Operand.initiatorOk b.initiator && Operand.busOk b.addr && decide (1 ≤ n ∧ b.addr % 256 + n ≤ 256)

/-- Every operand lies in its range. -/
def wellFormed : Instr → Bool
  | .frameTick env => decide (env.claimIn ≤ 2)
  | .directWindowEnd _ => true
  | .guardBegin => true
  | .directCutoff => true
  | .rateChangeRamp => true
  | .rateChangeMute => true
  | .rateChangeSwitch => true
  | .rateChangeResume => true
  | .registerWrite ini addr _ => Operand.initiatorOk ini && Operand.registerOk addr
  | .loReadLatch ini addr => Operand.initiatorOk ini && Operand.registerOk addr
  | .commitRequest page _ => Operand.pageOk page
  | .commitCancel page => Operand.pageOk page
  | .pageEnableWrite page _ => Operand.pageOk page
  | .softReset page _ => Operand.pageOk page
  | .faultCauseClear page => Operand.pageOk page
  | .irqForce page _ => Operand.pageOk page
  | .irqEoi vector => decide (vector < 64)
  | .spiRead addr words => Operand.busOk addr && decide (1 ≤ words ∧ words ≤ 1024)
  | .spiReadTimeout => true
  | .spiWrite addr words data _ => Operand.busOk addr && decide (1 ≤ words ∧ words ≤ 1024) && decide (data.length = 4 * words)
  | .spiStatus => true
  | .spiClear => true
  | .dmaRun ch => decide (ch < 8)
  | .dmaDescriptorDone ch _ _ => decide (ch < 8)
  | .plaitOpen ini => Operand.initiatorOk ini
  | .plaitCapture ini addr _ => Operand.initiatorOk ini && Operand.registerOk addr
  | .plaitCommitNextFrame ini _ => Operand.initiatorOk ini
  | .plaitCommitFrameIndex ini _ => Operand.initiatorOk ini
  | .plaitCommitPtpTime ini _ => Operand.initiatorOk ini
  | .plaitCommitDecision slot => decide (1 ≤ slot ∧ slot ≤ 15)
  | .plaitAbort slot ticket => decide (1 ≤ slot ∧ slot ≤ 15) && decide (ticket < 65536)
  | .layoutBuild _ => true
  | .layoutBuildDone => true
  | .healingRebuildDone => true
  | .objectLate obj => decide (obj < 1024)
  | .objectHold obj => decide (obj < 1024)
  | .recordPost => true
  | .felotMessage net dstIp dstPort srcIp _ => Operand.netOk net && Operand.ipOk dstIp && decide (dstPort < 65536) && Operand.ipOk srcIp
  | .warpDirectPost _ _ => true
  | .warpPostAccept => true
  | .warpFadeDone => true
  | .corrBankPost _ => true
  | .corrGainPost _ => true
  | .corrMutePost _ => true
  | .corrPreparation _ => true
  | .corrPrepDone => true
  | .partitionLate out part _ => decide (out < 512) && decide (part < 17)
  | .transitionEnd out => decide (out < 512)
  | .corrFadeDone => true
  | .deferredRelease node => Operand.nodeOk node
  | .nodeDispatch => true
  | .affinityWaitExpiry node => Operand.nodeOk node
  | .nodeComplete node _ => Operand.nodeOk node
  | .heldReleaseEnter => true
  | .coilSubmit node => Operand.nodeOk node
  | .submitHoldRelease => true
  | .nodeActivate => true
  | .nodeDeactivate => true
  | .activationLate node => Operand.nodeOk node
  | .directCostStop core => Operand.coreOk core
  | .instructionWrite core bundle broadcast _ => Operand.coreOk core && decide (bundle < 4096) && decide (broadcast = false ∨ core = 0)
  | .transferComplete core => Operand.coreOk core
  | .osierWindowAccessRelease core => Operand.coreOk core
  | .injectParity core => Operand.coreOk core
  | .injectResidue core => Operand.coreOk core
  | .nop core _ => Operand.coreOk core
  | .br core _ => Operand.coreOk core
  | .call core _ => Operand.coreOk core
  | .jr core _ => Operand.coreOk core
  | .loop core _ => Operand.coreOk core
  | .loopi core _ => Operand.coreOk core
  | .endl core _ => Operand.coreOk core
  | .movsr core _ => Operand.coreOk core
  | .movrs core _ => Operand.coreOk core
  | .bexpr core _ => Operand.coreOk core
  | .add core _ => Operand.coreOk core
  | .sub core _ => Operand.coreOk core
  | .and core _ => Operand.coreOk core
  | .or core _ => Operand.coreOk core
  | .xor core _ => Operand.coreOk core
  | .shl core _ => Operand.coreOk core
  | .shr core _ => Operand.coreOk core
  | .sar core _ => Operand.coreOk core
  | .min core _ => Operand.coreOk core
  | .max core _ => Operand.coreOk core
  | .mul core _ => Operand.coreOk core
  | .addi core _ => Operand.coreOk core
  | .cmp core _ => Operand.coreOk core
  | .cmpi core _ => Operand.coreOk core
  | .movi core _ => Operand.coreOk core
  | .movu core _ => Operand.coreOk core
  | .vadd core _ => Operand.coreOk core
  | .vsub core _ => Operand.coreOk core
  | .vaddw core _ => Operand.coreOk core
  | .vsubw core _ => Operand.coreOk core
  | .vneg core _ => Operand.coreOk core
  | .vabs core _ => Operand.coreOk core
  | .vand core _ => Operand.coreOk core
  | .vor core _ => Operand.coreOk core
  | .vxor core _ => Operand.coreOk core
  | .vmin core _ => Operand.coreOk core
  | .vmax core _ => Operand.coreOk core
  | .vscale core _ => Operand.coreOk core
  | .vshli core _ => Operand.coreOk core
  | .vperm core _ => Operand.coreOk core
  | .vbcast core _ => Operand.coreOk core
  | .vins core _ => Operand.coreOk core
  | .vext core _ => Operand.coreOk core
  | .vmulr core _ => Operand.coreOk core
  | .vmulrs core _ => Operand.coreOk core
  | .vcmul core _ => Operand.coreOk core
  | .vcmulj core _ => Operand.coreOk core
  | .mpy core _ => Operand.coreOk core
  | .mac core _ => Operand.coreOk core
  | .msu core _ => Operand.coreOk core
  | .mpys core _ => Operand.coreOk core
  | .macs core _ => Operand.coreOk core
  | .msus core _ => Operand.coreOk core
  | .acclr core _ => Operand.coreOk core
  | .acld core _ => Operand.coreOk core
  | .acadd core _ => Operand.coreOk core
  | .acaddv core _ => Operand.coreOk core
  | .acsubv core _ => Operand.coreOk core
  | .vbf core _ => Operand.coreOk core
  | .acsum core _ => Operand.coreOk core
  | .acsh core _ => Operand.coreOk core
  | .acget core _ => Operand.coreOk core
  | .acput core _ => Operand.coreOk core
  | .acrnd core _ => Operand.coreOk core
  | .acrndb core _ => Operand.coreOk core
  | .actrn core _ => Operand.coreOk core
  | .exp core _ => Operand.coreOk core
  | .acexp core _ => Operand.coreOk core
  | .norm core _ => Operand.coreOk core
  | .bexp core _ => Operand.coreOk core
  | .frd core _ => Operand.coreOk core
  | .fwr core _ => Operand.coreOk core
  | .xrd core _ => Operand.coreOk core
  | .xwr core _ => Operand.coreOk core
  | .ldv core _ _ _ _ => Operand.coreOk core
  | .stv core _ _ _ _ => Operand.coreOk core
  | .lds core _ _ _ _ => Operand.coreOk core
  | .sts core _ _ _ _ => Operand.coreOk core
  | .ldb core _ _ _ _ => Operand.coreOk core
  | .upd core _ _ _ => Operand.coreOk core
  | .updr core _ _ _ => Operand.coreOk core
  | .waitx core _ _ _ => Operand.coreOk core
  | .done core _ _ _ => Operand.coreOk core
  | .satclr core _ _ _ => Operand.coreOk core
  | .budgetEpochClose temps _ _ => decide (temps.length = 16)
  | .regulatorTimeout => true
  | .domainTransitionDone => true
  | .standbyEnter => true
  | .wakeSpi _ => true
  | .wakeGpio pin _ => decide (pin < 32)
  | .standbyTimerExpiry _ => true
  | .overCurrent ch => decide (ch < 64)
  | .short ch => decide (ch < 64)
  | .driverFault group => decide (group < 8)
  | .driverFaultRecovery group => decide (group < 8)
  | .clockError => true
  | .clockRecovery => true
  | .loopFault ch => decide (ch < 64)
  | .recheckStart ch => decide (ch < 64)
  | .recheckCommand ch => decide (ch < 64)
  | .recheckEnd ch => decide (ch < 64)
  | .channelStart ch _ _ => decide (ch < 64)
  | .channelRampDownDone ch => decide (ch < 64)
  | .lsupWindowEnd ch _ _ => decide (ch < 64)
  | .verdictChange ch => decide (ch < 64)
  | .baselineCapture ch => decide (ch < 64)
  | .acBaselineTest ch => decide (ch < 64)
  | .acTestCommand ch => decide (ch < 64)
  | .clearBaselines ch => decide (ch < 64)
  | .acTestSilenceStart ch => decide (ch < 64)
  | .acTestFirstStart ch => decide (ch < 64)
  | .acPointEnd ch _ => decide (ch < 64)
  | .acTestEnd ch => decide (ch < 64)
  | .acTestAbort ch => decide (ch < 64)
  | .portStart page _ => Operand.portPageOk page
  | .leadinEnd page _ => Operand.portPageOk page
  | .portStop page _ => Operand.portPageOk page
  | .portFadeEnd page _ => Operand.portPageOk page
  | .leadoutEnd page _ => Operand.portPageOk page
  | .maskChangeApply page _ => Operand.portPageOk page
  | .receiverLock page => Operand.portPageOk page
  | .receiverLockLoss page => Operand.portPageOk page
  | .portInputFrame page _ => Operand.portPageOk page
  | .aesInputFrame index _ _ => decide (index < 8)
  | .aesCsBlock index _ bytes => decide (index < 8) && decide (bytes.length = 24)
  | .madiInputFrame index sub => decide (index < 4) && decide (sub.length = 64)
  | .rateMeasure page _ _ _ => decide (page = 0x10) || Operand.portPageOk page
  | .asrcLock engine _ => decide (engine < 12)
  | .asrcUnlock engine _ => decide (engine < 12)
  | .hostAudioInRead _ => true
  | .hostAudioOutDone _ => true
  | .servoMeasurement _ => true
  | .holdover => true
  | .stakeSet => true
  | .stakeAdd => true
  | .stakeSubtract => true
  | .stakeStepRequest => true
  | .stakeStepApply => true
  | .ptpSync port domain _ seq _ _ _ => Operand.netOk port && decide (domain < 256) && decide (seq < 65536)
  | .ptpFollowUp port domain _ seq _ _ => Operand.netOk port && decide (domain < 256) && decide (seq < 65536)
  | .ptpDelayReq port domain _ seq => Operand.netOk port && decide (domain < 256) && decide (seq < 65536)
  | .ptpDelayResp port domain _ seq _ _ => Operand.netOk port && decide (domain < 256) && decide (seq < 65536)
  | .ptpAnnounce port _ => Operand.netOk port
  | .ptpManagementSignaling port _ _ => Operand.netOk port
  | .announceTimeout port => Operand.netOk port
  | .ptpMessageInterval port kind => Operand.netOk port && decide (kind < 4)
  | .ppsEdge => true
  | .ppsLoss => true
  | .ref10mMeasure _ => true
  | .triggerEdge k => decide (k < 8)
  | .captureEdge k _ => decide (k < 4)
  | .tcapPop k => decide (k < 4)
  | .ethFrameReceive port _ _ _ _ => Operand.netOk port
  | .streamPacketReceive port _ => Operand.netOk port
  | .arpRequest port target sender mac => Operand.netOk port && Operand.ipOk target && Operand.ipOk sender && decide (mac < 2 ^ 48)
  | .icmpEchoRequest port sender _ => Operand.netOk port && Operand.ipOk sender
  | .igmpQuery port _ _ _ => Operand.netOk port
  | .igmpReport port => Operand.netOk port
  | .linkChange port _ => Operand.netOk port
  | .gratuitousArp port => Operand.netOk port
  | .arpRefresh port addr => Operand.netOk port && Operand.ipOk addr
  | .htxTailWrite port _ => Operand.netOk port
  | .hostFrameSend port _ => Operand.netOk port
  | .txtsPop port => Operand.netOk port
  | .patchPost _ => true
  | .crossfadeEnd sink => decide (sink < 0x1300)
  | .mixNodePost _ => true
  | .routeFadeDone => true
  | .generatorFadeEnd gen => decide (gen < 4)
  | .meterClear _ => true
  | .meterConfigWrite meter word _ => decide (meter < 1024) && decide (word < 4)
  | .loudnessStart meter => decide (meter < 16)
  | .loudnessStop meter => decide (meter < 16)
  | .loudnessReset meter => decide (meter < 16)
  | .loudnessBlock meter => decide (meter < 16)
  | .detectorClear _ => true
  | .detectorConfigWrite chain word _ => decide (chain < 144) && decide (word < 4)
  | .captureBlendEnd chain => decide (chain < 144)
  | .measStart job => decide (job < 16)
  | .measAbort => true
  | .measClear => true
  | .measRunEnd => true
  | .responseStored => true
  | .setPointHeldStart => true
  | .training mask => decide (mask < 16)
  | .trainingDone failed => decide (failed < 16)
  | .mr4Poll die _ _ _ _ => decide (die < 2)
  | .bankRefresh ch bank => decide (ch < 8) && decide (bank < 16)
  | .dramRequest port ini _ addr _ _ ecc _ _ => decide (port < 12) && Operand.initiatorOk ini && Operand.busOk addr && decide (ecc ≤ 2)
  | .urgencyRaise => true
  | .scrubRead ecc => decide (ecc ≤ 2)
  | .idleSelfRefreshEntry ch => decide (ch < 8)
  | .weaveBurst b _ => Operand.burstOk b
  | .lockTimeout => true
  | .initiatorResetMidBurst b _ => Operand.burstOk b
  | .porstAssert => true
  | .sysrstAssert => true
  | .resetRelease _ => true
  | .startReady _ _ _ => true
  | .selftestWindowHeld => true
  | .hostLoadGo len => decide (len < 2 ^ 25)
  | .hostLoadTimeout => true
  | .startAttemptFail code => decide (0x80 ≤ code ∧ code ≤ 0x88)
  | .bootRetry _ => true
  | .safeHoldEntry part item => decide (1 ≤ part ∧ part ≤ 5) && decide (item < 65536)
  | .safeHoldRetry _ => true
  | .shutdownPin => true
  | .shutdownCommand => true
  | .startAttemptCommand _ => true
  | .lifecycleAdvance target confirm => decide (target < 4) && decide (confirm < 65536)
  | .otpRead => true
  | .otpProgram => true
  | .otpOperationDone => true
  | .recordErase => true
  | .pinReadback ball _ => decide (ball < 65536)
  | .selftestSlice part item window _ _ => decide (1 ≤ part ∧ part ≤ 5) && decide (item < 65536) && decide (window < 16)
  | .sliceAbandon => true
  | .coverageLapse => true
  | .bistRun parts => decide (parts < 16)
  | .bistInject item => decide (item < 65536)
  | .heartbeat _ => true
  | .heartbeatLoss => true
  | .frameRecordSeal _ => true
  | .frameRecord _ => true
  | .plaitMirror _ _ _ => true
  | .standbyReport _ _ _ _ _ => true
  | .resyncMessage _ _ => true
  | .hoopLinkChange => true
  | .claimTimeout => true
  | .secondaryClaimTimeout => true
  | .yield => true
  | .rejoinCommand => true
  | .revertRequest => true
  | .revertHoldExpiry => true
  | .rejoin _ => true
  | .faultRecord page code detail => Operand.pageOk page && decide (code < 256) && decide (detail < 65536)
  | .collectorMismatch => true
  | .sramScrub ecc => decide (ecc ≤ 2)
  | .faultTailWrite index => decide (index < 256)
  | .freezePin => true
  | .freezeCommand => true
  | .freezeRelease => true
  | .freezeLimitExpiry => true
  | .sanAddr addr => Operand.busOk addr && decide (addr % 4 = 0)
  | .sanData => true
  | .sanRelease => true
  | .sanStatus => true
  | .extest _ => true
  | .samplePreload _ => true
  | .idcode => true
  | .clamp => true
  | .highz => true
  | .bypass => true
  | .tapReset => true
  | .pcieLinkDown => true
  | .gpioSample _ => true
  | .arrayWindowWrite ini page off _ => Operand.initiatorOk ini && Operand.pageOk page && decide (off < 0x100000)
  | .arpReply port sender mac => Operand.netOk port && Operand.ipOk sender && decide (mac < 2 ^ 48)
  | .senseOverload chain => decide (chain < 144)
  | .portOutputFrame page => Operand.portPageOk page
  | .setPointSwitchDone _ => true
  | .bistRunDone _ => true
  | .gmHoldoverLimit => true
  | .pcieAtomicOp bar _ size op _ _ => decide (bar = 0 ∨ bar = 2 ∨ bar = 4) && decide (size = 4 ∨ size = 8) && decide (op ≤ 2)

end Sys2Proof
end

