-- ==== Sys2Proof/Tests/Slice0.lean ====
section
/-!
SUPPORT. Own tests: the checks of `wellFormed`, witnesses for the hypotheses of the statements, and single steps on small states.
-/
open Sys2Proof Sys2Proof.Machine

section Tests
set_option Elab.async false

/-! ### WellFormed: each check refuses an ill-formed term, and accepts a term inside its ranges -/

theorem test_wellFormed_refuses_1 :
    ([.frameTick { claimIn := 3 }, .registerWrite 24 0 0, .registerWrite 0 0x100000 0, .registerWrite 0 2 0,
      .loReadLatch 24 0, .loReadLatch 0 0x100000, .loReadLatch 0 2, .commitRequest 256 false, .commitCancel 256,
      .pageEnableWrite 256 false, .softReset 256 false, .faultCauseClear 256, .irqForce 256 0, .irqEoi 64,
      .spiRead (2 ^ 41) 1, .spiRead 0 0, .spiRead 0 1025, .spiWrite (2 ^ 41) 1 [0, 0, 0, 0] 0, .spiWrite 0 0 [0, 0, 0, 0] 0,
      .spiWrite 0 1025 [0, 0, 0, 0] 0, .spiWrite 0 1 [] 0, .dmaRun 8, .dmaDescriptorDone 8 [] [], .plaitOpen 24,
      .plaitCapture 24 0 0, .plaitCapture 0 0x100000 0, .plaitCapture 0 2 0, .plaitCommitNextFrame 24 false,
      .plaitCommitFrameIndex 24 false, .plaitCommitPtpTime 24 false, .plaitCommitDecision 0, .plaitCommitDecision 16,
      .plaitAbort 0 0, .plaitAbort 16 0, .plaitAbort 1 65536, .objectLate 1024, .objectHold 1024, .felotMessage 2 0 0 0 [],
      .felotMessage 0 (2 ^ 32) 0 0 [], .felotMessage 0 0 65536 0 []] : List Instr).all (fun i => !wellFormed i) = true := by decide +kernel

theorem test_wellFormed_refuses_2 :
    ([.felotMessage 0 0 0 (2 ^ 32) [], .partitionLate 512 0 0, .partitionLate 0 17 0, .transitionEnd 512,
      .deferredRelease 16384, .affinityWaitExpiry 16384, .nodeComplete 16384 [], .coilSubmit 16384, .activationLate 16384,
      .directCostStop 128, .instructionWrite 128 0 false 0, .instructionWrite 0 4096 false 0, .instructionWrite 1 0 true 0,
      .transferComplete 128, .osierWindowAccessRelease 128, .injectParity 128, .injectResidue 128, .nop 128 {}, .br 128 {},
      .call 128 {}, .jr 128 {}, .loop 128 {}, .loopi 128 {}, .endl 128 {}, .movsr 128 {}, .movrs 128 {}, .bexpr 128 {},
      .add 128 {}, .sub 128 {}, .and 128 {}, .or 128 {}, .xor 128 {}, .shl 128 {}, .shr 128 {}, .sar 128 {}, .min 128 {},
      .max 128 {}, .mul 128 {}, .addi 128 {}, .cmp 128 {}] : List Instr).all (fun i => !wellFormed i) = true := by decide +kernel

theorem test_wellFormed_refuses_3 :
    ([.cmpi 128 {}, .movi 128 {}, .movu 128 {}, .vadd 128 {}, .vsub 128 {}, .vaddw 128 {}, .vsubw 128 {}, .vneg 128 {},
      .vabs 128 {}, .vand 128 {}, .vor 128 {}, .vxor 128 {}, .vmin 128 {}, .vmax 128 {}, .vscale 128 {}, .vshli 128 {},
      .vperm 128 {}, .vbcast 128 {}, .vins 128 {}, .vext 128 {}, .vmulr 128 {}, .vmulrs 128 {}, .vcmul 128 {},
      .vcmulj 128 {}, .mpy 128 {}, .mac 128 {}, .msu 128 {}, .mpys 128 {}, .macs 128 {}, .msus 128 {}, .acclr 128 {},
      .acld 128 {}, .acadd 128 {}, .acaddv 128 {}, .acsubv 128 {}, .vbf 128 {}, .acsum 128 {}, .acsh 128 {}, .acget 128 {},
      .acput 128 {}] : List Instr).all (fun i => !wellFormed i) = true := by decide +kernel

theorem test_wellFormed_refuses_4 :
    ([.acrnd 128 {}, .acrndb 128 {}, .actrn 128 {}, .exp 128 {}, .acexp 128 {}, .norm 128 {}, .bexp 128 {}, .frd 128 {},
      .fwr 128 {}, .xrd 128 {}, .xwr 128 {}, .ldv 128 false {} 0 {}, .stv 128 false {} 0 {}, .lds 128 false {} 0 {},
      .sts 128 false {} 0 {}, .ldb 128 false {} 0 {}, .upd 128 0 0 {}, .updr 128 0 0 {}, .waitx 128 0 0 {}, .done 128 0 0 {},
      .satclr 128 0 0 {}, .budgetEpochClose [] none [], .wakeGpio 32 {}, .overCurrent 64, .short 64, .driverFault 8,
      .driverFaultRecovery 8, .loopFault 64, .recheckStart 64, .recheckCommand 64, .recheckEnd 64, .channelStart 64 0 0,
      .channelRampDownDone 64, .lsupWindowEnd 64 (0, 0, 0, 0) false, .verdictChange 64, .baselineCapture 64,
      .acBaselineTest 64, .acTestCommand 64, .clearBaselines 64, .acTestSilenceStart 64] : List Instr).all (fun i => !wellFormed i) = true := by decide +kernel

theorem test_wellFormed_refuses_5 :
    ([.acTestFirstStart 64, .acPointEnd 64 (0, 0, 0, 0), .acTestEnd 64, .acTestAbort 64, .portStart 0x1F false,
      .portStart 0x3C false, .leadinEnd 0x1F false, .leadinEnd 0x3C false, .portStop 0x1F false, .portStop 0x3C false,
      .portFadeEnd 0x1F false, .portFadeEnd 0x3C false, .leadoutEnd 0x1F false, .leadoutEnd 0x3C false,
      .maskChangeApply 0x1F false, .maskChangeApply 0x3C false, .receiverLock 0x1F, .receiverLock 0x3C,
      .receiverLockLoss 0x1F, .receiverLockLoss 0x3C, .portInputFrame 0x1F [], .portInputFrame 0x3C [],
      .aesInputFrame 8 (0, false, false, false) (0, false, false, false), .aesCsBlock 8 false (List.replicate 24 0),
      .aesCsBlock 0 false [], .madiInputFrame 4 (List.replicate 64 (0, false, false, false)), .madiInputFrame 0 [],
      .rateMeasure 0x1F 0 0 0, .rateMeasure 0x3C 0 0 0, .asrcLock 12 0, .asrcUnlock 12 false, .ptpSync 2 0 0 0 false 0 0,
      .ptpSync 0 256 0 0 false 0 0, .ptpSync 0 0 0 65536 false 0 0, .ptpFollowUp 2 0 0 0 0 0, .ptpFollowUp 0 256 0 0 0 0,
      .ptpFollowUp 0 0 0 65536 0 0, .ptpDelayReq 2 0 0 0, .ptpDelayReq 0 256 0 0, .ptpDelayReq 0 0 0 65536] : List Instr).all (fun i => !wellFormed i) = true := by decide +kernel

theorem test_wellFormed_refuses_6 :
    ([.ptpDelayResp 2 0 0 0 0 0, .ptpDelayResp 0 256 0 0 0 0, .ptpDelayResp 0 0 0 65536 0 0, .ptpAnnounce 2 {},
      .ptpManagementSignaling 2 [] 0, .announceTimeout 2, .ptpMessageInterval 2 0, .ptpMessageInterval 0 4, .triggerEdge 8,
      .captureEdge 4 false, .tcapPop 4, .ethFrameReceive 2 [] false 0 0, .streamPacketReceive 2 {}, .arpRequest 2 0 0 0,
      .arpRequest 0 (2 ^ 32) 0 0, .arpRequest 0 0 (2 ^ 32) 0, .arpRequest 0 0 0 (2 ^ 48), .icmpEchoRequest 2 0 [],
      .icmpEchoRequest 0 (2 ^ 32) [], .igmpQuery 2 0 [] 0, .igmpReport 2, .linkChange 2 false, .gratuitousArp 2,
      .arpRefresh 2 0, .arpRefresh 0 (2 ^ 32), .htxTailWrite 2 0, .hostFrameSend 2 {}, .txtsPop 2, .crossfadeEnd 0x1300,
      .generatorFadeEnd 4, .meterConfigWrite 1024 0 0, .meterConfigWrite 0 4 0, .loudnessStart 16, .loudnessStop 16,
      .loudnessReset 16, .loudnessBlock 16, .detectorConfigWrite 144 0 0, .detectorConfigWrite 0 4 0, .captureBlendEnd 144,
      .measStart 16] : List Instr).all (fun i => !wellFormed i) = true := by decide +kernel

theorem test_wellFormed_refuses_7 :
    ([.training 16, .trainingDone 16, .mr4Poll 2 0 false false 0, .bankRefresh 8 0, .bankRefresh 0 16,
      .dramRequest 12 0 false 0 0 [] 0 false 0, .dramRequest 0 24 false 0 0 [] 0 false 0,
      .dramRequest 0 0 false (2 ^ 41) 0 [] 0 false 0, .dramRequest 0 0 false 0 0 [] 3 false 0, .scrubRead 3,
      .idleSelfRefreshEntry 8, .weaveBurst { len := 1, initiator := 24 } false,
      .weaveBurst { len := 1, addr := 2 ^ 41 } false, .weaveBurst { len := 0 } false,
      .weaveBurst { len := 2, addr := 255 } false, .initiatorResetMidBurst { len := 1, initiator := 24 } 0,
      .initiatorResetMidBurst { len := 1, addr := 2 ^ 41 } 0, .initiatorResetMidBurst { len := 0 } 0,
      .initiatorResetMidBurst { len := 2, addr := 255 } 0, .hostLoadGo (2 ^ 25), .startAttemptFail 0x7f,
      .startAttemptFail 0x89, .safeHoldEntry 0 0, .safeHoldEntry 6 0, .safeHoldEntry 1 65536, .lifecycleAdvance 4 0,
      .lifecycleAdvance 0 65536, .pinReadback 65536 false, .selftestSlice 0 0 0 false false,
      .selftestSlice 6 0 0 false false, .selftestSlice 1 65536 0 false false, .selftestSlice 1 0 16 false false, .bistRun 16,
      .bistInject 65536, .faultRecord 256 0 0, .faultRecord 0 256 0, .faultRecord 0 0 65536, .sramScrub 3,
      .faultTailWrite 256, .sanAddr (2 ^ 41)] : List Instr).all (fun i => !wellFormed i) = true := by decide +kernel

theorem test_wellFormed_refuses_8 :
    ([.sanAddr 2, .arrayWindowWrite 24 0 0 [], .arrayWindowWrite 0 256 0 [], .arrayWindowWrite 0 0 0x100000 [],
      .arpReply 2 0 0, .arpReply 0 (2 ^ 32) 0, .arpReply 0 0 (2 ^ 48), .senseOverload 144, .portOutputFrame 0x1F,
      .portOutputFrame 0x3C, .pcieAtomicOp 1 0 4 0 0 0, .pcieAtomicOp 0 0 2 0 0 0, .pcieAtomicOp 0 0 4 3 0 0] : List Instr).all (fun i => !wellFormed i) = true := by decide +kernel

theorem test_wellFormed_accepts_1 :
    ([.frameTick {}, .registerWrite 0 0 0, .loReadLatch 0 0, .commitRequest 0 false, .commitCancel 0,
      .pageEnableWrite 0 false, .softReset 0 false, .faultCauseClear 0, .irqForce 0 0, .irqEoi 0, .spiRead 0 1,
      .spiWrite 0 1 [0, 0, 0, 0] 0, .dmaRun 0, .dmaDescriptorDone 0 [] [], .plaitOpen 0, .plaitCapture 0 0 0,
      .plaitCommitNextFrame 0 false, .plaitCommitFrameIndex 0 false, .plaitCommitPtpTime 0 false, .plaitCommitDecision 1,
      .plaitAbort 1 0, .objectLate 0, .objectHold 0, .felotMessage 0 0 0 0 [], .partitionLate 0 0 0, .transitionEnd 0,
      .deferredRelease 0, .affinityWaitExpiry 0, .nodeComplete 0 [], .coilSubmit 0, .activationLate 0, .directCostStop 0,
      .instructionWrite 0 0 false 0, .transferComplete 0, .osierWindowAccessRelease 0, .injectParity 0, .injectResidue 0,
      .nop 0 {}, .br 0 {}, .call 0 {}, .jr 0 {}, .loop 0 {}, .loopi 0 {}, .endl 0 {}, .movsr 0 {}, .movrs 0 {}, .bexpr 0 {},
      .add 0 {}, .sub 0 {}, .and 0 {}, .or 0 {}, .xor 0 {}, .shl 0 {}, .shr 0 {}, .sar 0 {}, .min 0 {}, .max 0 {}, .mul 0 {},
      .addi 0 {}, .cmp 0 {}] : List Instr).all wellFormed = true := by decide +kernel

theorem test_wellFormed_accepts_2 :
    ([.cmpi 0 {}, .movi 0 {}, .movu 0 {}, .vadd 0 {}, .vsub 0 {}, .vaddw 0 {}, .vsubw 0 {}, .vneg 0 {}, .vabs 0 {},
      .vand 0 {}, .vor 0 {}, .vxor 0 {}, .vmin 0 {}, .vmax 0 {}, .vscale 0 {}, .vshli 0 {}, .vperm 0 {}, .vbcast 0 {},
      .vins 0 {}, .vext 0 {}, .vmulr 0 {}, .vmulrs 0 {}, .vcmul 0 {}, .vcmulj 0 {}, .mpy 0 {}, .mac 0 {}, .msu 0 {},
      .mpys 0 {}, .macs 0 {}, .msus 0 {}, .acclr 0 {}, .acld 0 {}, .acadd 0 {}, .acaddv 0 {}, .acsubv 0 {}, .vbf 0 {},
      .acsum 0 {}, .acsh 0 {}, .acget 0 {}, .acput 0 {}, .acrnd 0 {}, .acrndb 0 {}, .actrn 0 {}, .exp 0 {}, .acexp 0 {},
      .norm 0 {}, .bexp 0 {}, .frd 0 {}, .fwr 0 {}, .xrd 0 {}, .xwr 0 {}, .ldv 0 false {} 0 {}, .stv 0 false {} 0 {},
      .lds 0 false {} 0 {}, .sts 0 false {} 0 {}, .ldb 0 false {} 0 {}, .upd 0 0 0 {}, .updr 0 0 0 {}, .waitx 0 0 0 {},
      .done 0 0 0 {}] : List Instr).all wellFormed = true := by decide +kernel

theorem test_wellFormed_accepts_3 :
    ([.satclr 0 0 0 {}, .budgetEpochClose (List.replicate 16 0) none [], .wakeGpio 0 {}, .overCurrent 0, .short 0,
      .driverFault 0, .driverFaultRecovery 0, .loopFault 0, .recheckStart 0, .recheckCommand 0, .recheckEnd 0,
      .channelStart 0 0 0, .channelRampDownDone 0, .lsupWindowEnd 0 (0, 0, 0, 0) false, .verdictChange 0, .baselineCapture 0,
      .acBaselineTest 0, .acTestCommand 0, .clearBaselines 0, .acTestSilenceStart 0, .acTestFirstStart 0,
      .acPointEnd 0 (0, 0, 0, 0), .acTestEnd 0, .acTestAbort 0, .portStart 0x20 false, .leadinEnd 0x20 false,
      .portStop 0x20 false, .portFadeEnd 0x20 false, .leadoutEnd 0x20 false, .maskChangeApply 0x20 false, .receiverLock 0x20,
      .receiverLockLoss 0x20, .portInputFrame 0x20 [], .aesInputFrame 0 (0, false, false, false) (0, false, false, false),
      .aesCsBlock 0 false (List.replicate 24 0), .madiInputFrame 0 (List.replicate 64 (0, false, false, false)),
      .rateMeasure 0x20 0 0 0, .asrcLock 0 0, .asrcUnlock 0 false, .ptpSync 0 0 0 0 false 0 0, .ptpFollowUp 0 0 0 0 0 0,
      .ptpDelayReq 0 0 0 0, .ptpDelayResp 0 0 0 0 0 0, .ptpAnnounce 0 {}, .ptpManagementSignaling 0 [] 0, .announceTimeout 0,
      .ptpMessageInterval 0 0, .triggerEdge 0, .captureEdge 0 false, .tcapPop 0, .ethFrameReceive 0 [] false 0 0,
      .streamPacketReceive 0 {}, .arpRequest 0 0 0 0, .icmpEchoRequest 0 0 [], .igmpQuery 0 0 [] 0, .igmpReport 0,
      .linkChange 0 false, .gratuitousArp 0, .arpRefresh 0 0, .htxTailWrite 0 0] : List Instr).all wellFormed = true := by decide +kernel

theorem test_wellFormed_accepts_4 :
    ([.hostFrameSend 0 {}, .txtsPop 0, .crossfadeEnd 0, .generatorFadeEnd 0, .meterConfigWrite 0 0 0, .loudnessStart 0,
      .loudnessStop 0, .loudnessReset 0, .loudnessBlock 0, .detectorConfigWrite 0 0 0, .captureBlendEnd 0, .measStart 0,
      .training 0, .trainingDone 0, .mr4Poll 0 0 false false 0, .bankRefresh 0 0, .dramRequest 0 0 false 0 0 [] 0 false 0,
      .scrubRead 0, .idleSelfRefreshEntry 0, .weaveBurst { len := 1 } false, .initiatorResetMidBurst { len := 1 } 0,
      .hostLoadGo 0, .startAttemptFail 0x80, .safeHoldEntry 1 0, .lifecycleAdvance 0 0, .pinReadback 0 false,
      .selftestSlice 1 0 0 false false, .bistRun 0, .bistInject 0, .faultRecord 0 0 0, .sramScrub 0, .faultTailWrite 0,
      .sanAddr 0, .arrayWindowWrite 0 0 0 [], .arpReply 0 0 0, .senseOverload 0, .portOutputFrame 0x20,
      .pcieAtomicOp 0 0 4 0 0 0] : List Instr).all wellFormed = true := by decide +kernel

/-! ### Concrete states on which the hypotheses of the statements hold -/

/-- Ready, ten seconds after its start, no render rate. -/
def Witness.up : State := { State.reset with
  boot := { State.reset.boot with inReset := false, phase := 6, lc := 1 }
  clk := { State.reset.clk with stake := 10 * secU, mono := 10 * secU, aon := 10 * secU } }

/-- Ready at 48 kHz, in the background phase of frame 480,000, with tier 3 admitted. -/
def Witness.on : State := { Witness.up with
  clk := { Witness.up.clk with
    rate := 2, ticking := true, frame := 480000, nextTick := 480001, phase := 1, tickMono := 10 * secU, stake := 10 * secU + 10 * usU
    mono := 10 * secU + 10 * usU }
  budget := { Witness.up.budget with admitted := 3 } }

/-- `on` in the direct window. -/
def Witness.direct : State := { Witness.on with
  clk := { Witness.on.clk with phase := 0, stake := 10 * secU + usU, mono := 10 * secU + usU }
  coil := { Witness.on.coil with path := { Witness.on.coil.path with steps := 3 } } }

/-- A standby in step of a pair, its link up. -/
def Witness.member : State := { Witness.on with
  hoop := { Witness.on.hoop with role := 2, state := 3, link := true, lastHb := some 480000 } }

/-- A frozen device. -/
def Witness.frozen : State := { Witness.on with
  fault := { Witness.on.fault with frozen := true, cause := 1, pinLow := true }
  clk := { Witness.on.clk with ticking := false, phase := 2 } }

theorem witness_states :
    Witness.up.settled = true ∧ Witness.on.settled = true ∧ Witness.member.settled = true ∧ Witness.frozen.settled = true ∧
    Witness.up.calm = true ∧ Witness.on.calm = true ∧ Witness.member.calm = true ∧ Witness.direct.calm = false ∧
    Witness.up.running = true ∧ Witness.on.running = true ∧ Witness.member.running = true ∧ Witness.frozen.running = false ∧
    (∀ p, p < 256 → Witness.up.pageUp p = pagePresent .zn5480 p) := by decide +kernel

/-- A plait owned by the host with one write, its PLAIT_COMMIT mode `m`, in slot `k` of `s`. -/
def Witness.plait (s : State) (k m n : Nat) : State := { s with
  plait := { s.plait with slots := [(k, { state := .open, owner := 0, ticket := 7, writes := [(Reg.routeMixNode, 3)], mode := m, frame := n })] } }

/-- A commit of mode 2 of page 0x48 that waits for frame `n`. -/
def Witness.waiting (s : State) (n : Nat) : State := { s with
  ctl := { s.ctl with commits := [(0x48, some { values := [], mode := 2, ready := 0, frame := n })] } }

/-- COMMIT_MODE of page 0x48 is `m`, its target frame 480,010. -/
def Witness.mode (s : State) (m : Nat) : State := (s.wr (Reg.commitMode 0x48) (w32 m)).wr (Reg.commitFrameLo 0x48) (w32 480010)

/-- The interrupt of a routing fault is pending on vector 5, to which it is steered and which is not masked. -/
def Witness.vector : State :=
  ((Witness.on.irq 0x48 1).wr (Reg.irqEnable 0x48) 2).st32 (winBase 2 + 4 * 0x48) (w32 (5 + 64))

theorem witness_StepRunsCommandAtFront :
    { Witness.up with pending := [.freezePin, .spiClear] }.pending = .freezePin :: [.spiClear] := by decide +kernel

theorem witness_EmptyQueueStepIsOneCounterTick :
    Witness.frozen.pending = [] ∧ Witness.frozen.running = false ∧ Witness.up.pending = [] ∧ Witness.up.running = true ∧
    ¬ (Witness.up.clk.ticking = true ∧ Witness.up.nextTickAt ≤ Witness.up.clk.stake + Witness.up.clk.incr) ∧
    (let s : State := { Witness.on with clk := { Witness.on.clk with stake := Witness.on.nextTickAt - Witness.on.clk.incr } }
     s.running = true ∧ s.clk.ticking = true ∧ s.nextTickAt ≤ s.clk.stake + s.clk.incr) := by decide +kernel

theorem witness_OnlyFloatingClaimStops :
    Witness.member.running = true ∧ Witness.member.hoop.role ≠ 0 ∧
    (match exec (.frameTick { claimIn := 2 }) Witness.member with | .fault .outsideLimits => true | _ => false) = true := by decide +kernel

theorem witness_StepKeepsSettled : Witness.on.settled = true := by decide +kernel

theorem witness_HeldDeviceIgnoresCommands :
    Witness.frozen.running = false ∧ actsWhileHeld (.dmaRun 7) = false ∧ Witness.frozen.settled = true ∧ Witness.frozen.calm = true ∧
    State.reset.running = false ∧ actsWhileHeld (.arpRequest 0 0 0 0) = false := by decide +kernel

theorem witness_CloseOfCalmStateOnlySendsMessages :
    Witness.vector.wf = true ∧ Witness.vector.calm = true ∧ Witness.vector.unmasked Witness.vector.vectors = 32 ∧
    Witness.vector.ctl.vecPend = 0 := by decide +kernel

theorem witness_PageHeaderCommandsAct :
    Witness.on.pageUp 0x48 = true ∧ Witness.on.coil.heldSubmits = [] ∧ Witness.on.warp.held = none ∧
    -- REGISTER_WRITE
    (Page.action Witness.on.begin 0 none 0x48 0x50 3).isSome = true ∧ (Page.action Witness.on.begin 0 none 0x48 0x7FC 3) = none ∧
    (Page.action Witness.on.begin 0 none 0x48 0x40 3) = none ∧
    ((regAt 0x48 0x44).map (fun e => w32 e.1.rw != 0)) = some true ∧
    -- COMMIT_REQUEST
    (Witness.on.ctl.commit 0x48).isNone = true ∧
    Page.check1 Witness.on.begin 0x48 (Page.view (Page.withEff Witness.on.begin 0x48 (Witness.on.staging 0x48)) 0x48) = none ∧
    (Witness.mode Witness.on 1).rdF (Reg.commitMode 0x48) 1 0 = 1 ∧ Witness.on.rateOn = true ∧
    (Witness.mode Witness.on 2).rdF (Reg.commitMode 0x48) 1 0 = 2 ∧
    Witness.on.clk.nextTick ≤ (Witness.mode Witness.on 2).rd64 (Reg.commitFrameLo 0x48) (Reg.commitFrameHi 0x48) ∧
    Witness.on.clk.stake + 2 * usU ≤
      tickAt 2 ((Witness.mode Witness.on 2).rd64 (Reg.commitFrameLo 0x48) (Reg.commitFrameHi 0x48)) ∧
    (Witness.mode Witness.up 1).rateOn = false ∧ 0x48 ≠ Stake.page ∧
    Page.check2 Witness.up.begin 0x48 (Page.view Witness.up.begin 0x48)
      (Page.view (Page.withEff Witness.up.begin 0x48 (Witness.up.staging 0x48)) 0x48) = none ∧
    Meas.check2 Witness.up = none ∧ Witness.up.pageUp Meas.page = true ∧
    Page.check1 Witness.up.begin Meas.page (Page.view (Page.withEff Witness.up.begin Meas.page (Witness.up.staging Meas.page)) Meas.page) = none ∧
    -- COMMIT_CANCEL, at the last frame that is 2 µs away
    ((Witness.waiting Witness.on 480001).ctl.commit 0x48).map (fun c => decide (Witness.on.clk.stake + 2 * usU ≤ c.due Witness.on)) =
      some true ∧
    -- PAGE_ENABLE_WRITE
    fixedEnable 0x48 = false ∧ 0x48 ≠ Hoop.page ∧ Witness.on.rdB (Reg.pageCtrl 0x48) 0 ≠ true ∧
    -- IRQ_EOI
    Witness.vector.vecPending 5 = true ∧ Witness.vector.vecMasked 5 = false := by decide +kernel

theorem witness_TransportCommandsAct :
    Witness.on.running = true ∧ Witness.on.coil.heldSubmits = [] ∧ Witness.on.warp.held = none ∧
    -- LO_READ_LATCH: a page that does not answer, one that does, a capture FIFO, and the Weave's record once it is latched
    Witness.on.pageUp 255 = false ∧ Witness.on.pageUp 0x48 = true ∧ 0x48 ≠ Stake.page ∧ Witness.on.pageUp Stake.page = true ∧
    Witness.on.pageUp 0xF8 = true ∧ (0x24C : Nat) % 16 = 12 ∧ (0x274 : Nat) % 16 = 4 ∧ (0x274 - 0x240) / 16 = 3 ∧
    ({ Witness.on with ctl := { Witness.on.ctl with latch := [(0xF8064, some 5)] } } : State).latched (0xF8 * 0x1000 + 0x64) = some 5 ∧
    (0xFFFFFFFFFC % 4 = 0 ∧ (1024 : Nat) ≤ 1024 ∧ 0xFFFFFFFFFC < 2 ^ 40) ∧
    (BitVec.ofNat 8 (crc8 ((0x02 : Byte) :: leBytes 5 0x1000 ++ leBytes 2 1 ++ [1, 2, 3, 4]))).toNat =
      crc8 ((0x02 : Byte) :: leBytes 5 0x1000 ++ leBytes 2 1 ++ [1, 2, 3, 4]) ∧
    (Dma.ch Witness.on 7).running = false ∧ Witness.on.pageUp 1 = true ∧
    (let s : State := { Witness.up with budget := { Witness.up.budget with domains := 0 } }
     s.running = true ∧ s.pageUp 1 = false) ∧
    (let s : State := { Witness.on with ctl := { Witness.on.ctl with dma := [(7, { running := true, desc := 0, descHost := true })] } }
     let d : Nat → List Byte := fun c => leBytes 4 c ++ leBytes 4 4 ++ leBytes 8 0 ++ leBytes 8 16 ++ leBytes 8 0
     s.running = true ∧ (Dma.ch s 7).running = true ∧ (Dma.ch s 7).descHost = true ∧ (d 1).length = 32 ∧
     (ofLe (slice (d 0) 0 4)).testBit 0 = false ∧ (ofLe (slice (d 25) 0 4)).testBit 0 = true ∧
     (ofLe (slice (d 25) 0 4)).testBit 3 = true ∧ (ofLe (slice (d 25) 0 4)).testBit 4 = true ∧ ofLe (slice (d 25) 4 4) = 4) := by
  decide +kernel

theorem witness_PlaitCommandsAct :
    -- PLAIT_OPEN of a free slot, and of the oldest done one
    Witness.on.pageUp 3 = true ∧ Witness.on.isStandby = false ∧ Witness.on.coil.heldSubmits = [] ∧ Witness.on.warp.held = none ∧
    Plait.openOf Witness.on 0 = none ∧ (Plait.slot Witness.on 1).state = .free ∧
    (let s : State := { Witness.on with plait := { Witness.on.plait with slots := (List.range 16).map (fun k =>
        (k, ({ state := .done, finished := if k = 15 then 1 else 20 + k } : Slot))) } }
     (∀ j, j < 16 → 1 ≤ j → (Plait.slot s j).state ≠ .free ∧ (j ≠ 15 → (Plait.slot s 15).finished < (Plait.slot s j).finished))) ∧
    -- PLAIT_CAPTURE, PLAIT_COMMIT
    Plait.openOf (Witness.plait Witness.on 15 0 0) 0 = some 15 ∧ pagePresent .zn5480 0xFF = false ∧ pagePresent .zn5480 0xF8 = true ∧
    Plait.poolFree (Witness.plait Witness.on 15 0 0) ≠ 0 ∧
    -- PLAIT_COMMIT_DECISION: late, in time and accepted
    (let s := Witness.plait Witness.on 3 1 0
     let n := s.firstTickAfter (Plait.lead s)
     (Plait.slot s 3).state = .open ∧ (Plait.slot s 3).mode ≠ 0 ∧ s.rateOn = true ∧ s.clk.ticking = true ∧
     (Plait.slot s 3).overfull = false ∧ s.clk.stake + Plait.lead s ≤ tickAt s.clk.rate n ∧ s.clk.nextTick ≤ n ∧
     Plait.conflicts s.begin 3 (some n) = false ∧
     (match Plait.check4 s.begin 3 (some n) with | .accept s1 drop => s1.rateOn && drop == 0 | .abort .. => false) = true) ∧
    (let s := Witness.plait Witness.on 3 2 480000
     (Plait.slot s 3).mode ≠ 0 ∧ (Plait.slot s 3).frame < s.clk.nextTick) ∧
    -- overfull, in conflict with a pending one, and refused by its page
    (let s : State := { Witness.on with plait := { Witness.on.plait with slots :=
        [(3, { state := .open, mode := 2, frame := 480010, overfull := true, writes := [(Reg.stakeRenderRate, 7)] }),
         (15, { state := .open, mode := 2, frame := 480010, writes := [(Reg.stakeRenderRate, 7)] }),
         (7, { state := .pending, frame := 480010, writes := [(Reg.stakeRenderRate, 1)] })] } }
     (Plait.slot s 3).overfull = true ∧ s.clk.stake + Plait.lead s ≤ tickAt s.clk.rate 480010 ∧
     Plait.conflicts s.begin 15 (some 480010) = true ∧
     (match Plait.check4 s.begin 15 (some 480011) with | .accept .. => false | .abort .. => true) = true) ∧
    -- while no rate is in force
    (let s := Witness.plait Witness.up 3 1 0
     (Plait.slot s 3).mode = 1 ∧ s.rateOn = false ∧ Plait.conflicts s.begin 3 (some s.clk.frame) = false ∧
     (match Plait.check4 s.begin 3 (some s.clk.frame) with | .accept s1 _ => !s1.rateOn | .abort .. => false) = true) ∧
    -- PLAIT_ABORT
    (Plait.slot (Witness.plait Witness.on 15 0 0) 15).ticket = 7 ∧ (Plait.slot (Witness.plait Witness.on 15 0 0) 15).state = .open := by
  decide +kernel

theorem witness_FrameCommandsAct :
    Witness.on.rateOn = true ∧ Frame.beforeChange Witness.on = true ∧ Witness.on.hoop.role = 0 ∧ Witness.on.clk.phase ≠ 0 ∧
    Witness.up.rateOn = false ∧ Frame.outside Witness.on { claimIn := 1 } = false ∧ Frame.outside Witness.member { claimIn := 0 } = false ∧
    Frame.beforeChange { Witness.on with clk := { Witness.on.clk with rateChange := some (10, 4), rateStep := 1 } } = false ∧
    Witness.direct.clk.phase = 0 ∧ Witness.direct.clk.ticking = true ∧ (Frame.path Witness.direct).steps = 3 ∧
    (Frame.path { Witness.direct with coil := { Witness.direct.coil with path := { Witness.direct.coil.path with steps := 5 } } }).steps = 5 ∧
    Witness.on.clk.ticking = true ∧ Witness.on.clk.phase = 1 ∧ Witness.on.ticksHeld = false ∧
    (let s : Nat → Nat → State := fun step code =>
      { Witness.on with clk := { Witness.on.clk with rateChange := some (11, code), rateStep := step } }
     (s 1 4).clk.rateChange = some (11, 4) ∧ (s 1 4).clk.rateStep = 1 ∧ (s 1 4).rateOn = true ∧ (s 2 4).clk.rateStep = 2 ∧
     (s 3 4).clk.rateStep < 4 ∧ (s 3 4).ticksHeld = false ∧ (s 3 0).stake.softReset = false ∧ 4 ≤ (s 4 4).clk.rateStep ∧
     ({ s 4 4 with pstg := { (s 4 4).pstg with muted := true, muteKind := 2 } } : State).pstg.muteKind = 2 ∧
     ({ s 3 4 with boot := { (s 3 4).boot with phase := 8 } } : State).ticksHeld = true ∧
     ({ s 3 4 with boot := { (s 3 4).boot with phase := 9, shutStep := 3 } } : State).ticksHeld = true) := by decide +kernel

theorem witness_SceneCommandsAct :
    Witness.on.pageUp Scene.page = true ∧ Witness.on.scene.build = none ∧ Witness.on.isStandby = false ∧ 1 ≤ Witness.on.budget.admitted ∧
    Layout.build Witness.on.begin 0 0 = .inl (1, 0) ∧
    -- OBJECT_LATE, OBJECT_HOLD at the first frames at which they act
    (let s : Nat → Bool → State := fun f late => { (Witness.on.st32 (winBase 0x51 + 4) 0) with
        scene := { Witness.on.scene with objs := [(1023, { late := late, last := some ({}, f) })] } }
     (Scene.obj (s 480000 false) 1023).late = false ∧ (Scene.obj (s 470000 true) 1023).late = true ∧
     (Scene.obj (s 470000 true) 1023).held = false ∧ (s 0 false).rateOn = true) ∧
    -- RECORD_POST
    ObjRecord.ok Witness.on.objCapCfg ((List.range 8).flatMap (fun k => leBytes 4 (Witness.on.rd (Reg.sceneRec k)).toNat)) = true ∧
    ObjRecord.ok Witness.on.objCapCfg (leBytes 4 0xFFFF ++ List.replicate 28 0) = false ∧
    -- FELOT_MESSAGE of one record, at the highest time and sequence number
    (let l : List Byte := [1, 0, 0, 0] ++ leBytes 4 0xFFFFFFFF ++ leBytes 6 10 ++ leBytes 4 999999999 ++ [1] ++ List.replicate 45 0
     let s : State := ((Witness.on.wr Reg.sceneFelotNets 1).wr Reg.sceneFelotPort 5000).wr Reg.sceneFelotGroup 0xEF000001
     Felot.accepts s 0 0xEF000001 5000 0x0A000001 = true ∧ s.isStandby = false ∧ Felot.malformed l = false ∧
     Felot.malformed [] = true ∧ ofLe (slice l 2 2) = s.rdF Reg.sceneFelotSceneId 15 0 ∧ ofLe (slice l 0x12 1) = 1 ∧
     (match Felot.sequence s (ofLe (slice l 4 4)) with | .inl _ => true | .inr _ => false) = true ∧
     (ofLe (slice l 8 6) * 1000000000 + ofLe (slice l 0x0E 4)) * nsU ≤ s.clk.stake + secU ∧ Felot.queued s < 2048 ∧
     ObjRecord.ok s.objCapCfg (slice l 32 32) = true) := by decide +kernel

theorem witness_WarpCorrCommandsAct :
    Witness.on.pageUp Warp.page = true ∧ Witness.on.warp.held = none ∧ Witness.up.rateOn = false ∧
    Warp.isDirect Witness.up 0 = false ∧ Warp.isDirect (Witness.up.we (Reg.warpRowDirect 31) 0x80000000) 1023 = true ∧
    1023 < Witness.up.objCapCfg ∧ 511 < Witness.up.outCapCfg ∧ Witness.on.pageUp Corr.page = true ∧
    (let s : State := { Witness.on with
        warp := { Witness.on.warp with held := some {}, fadeBusy := true, fade := { h := 480000 } }
        corr := { Witness.on.corr with fadeBusy := true, fade := { h := 480000 } } }
     s.warp.held = some {} ∧ s.rateOn = true ∧ s.warp.fade.h ≤ s.clk.frame ∧ s.corr.fade.h ≤ s.clk.frame) ∧
    Corr.gainOk (-16384) = true ∧ Corr.gainOk 3072 = true ∧ Corr.gainOk (-32768) = true ∧ Corr.gainOk 3073 = false ∧
    -- CORR_PREPARATION
    (let s := Witness.on.we Reg.corrDramBaseLo 0x80000000
     s.corr.prep = none ∧ (s.ef64 Reg.corrDramBaseLo Reg.corrDramBaseHi) % 2 ^ 40 ≠ 0 ∧
     (∀ j, j < 512 → Corr.bankBusy s 1 j = false) ∧ (Corr.out s 0).bank = 0 ∧
     (fld (0x80000000 + 0x00010000 + 511) 8 0 + fld (0x80000000 + 0x00010000 + 511) 25 16 ≤ 512) ∧
     512 < fld (0x00020000 + 511) 8 0 + fld (0x00020000 + 511) 25 16) ∧
    Corr.entryOk Witness.on 0 511 = true ∧ Corr.entryOk (Witness.on.st32 (Corr.paramAddr 1 511) 0x0C01) 1 511 = false ∧
    -- PARTITION_LATE, TRANSITION_END
    (let s : State := { Witness.on with corr := { Witness.on.corr with outs := [(511, { ({} : CorrOut) with
        blocks := [{ p := 0, start := 1 }, { p := 16, start := 480016 }]
        trans := some { endFrame := 480000 } })] } }
     Corr.deadline 16 480016 ≤ s.clk.frame ∧ (Corr.out s 511).blocks.length = 2 ∧ s.coil.acts = [] ∧
     (Corr.out s 511).trans.map (fun x => decide (x.endFrame ≤ s.clk.frame)) = some true) := by decide +kernel

/-- `s` with node `i` of class `c`, cost 1,000 and period `p`, active, and with one activation of it in state `a`. -/
def Witness.node (s : State) (i c p a : Nat) : State := { ((s.st32 (Coil.win + 32 * i) (w32 (at_ 12 c))).st32 (Coil.win + 32 * i + 4) 1000).st32
    (Coil.win + 32 * i + 12) (w32 p) with
  coil := { s.coil with
    nodes := [(i, { active := true, deferred := some 480000 })]
    acts := [{ node := i, cls := c, state := a, core := 0, release := 479999, deadline := some 480000 }] } }

theorem witness_CoilCommandsAct :
    -- DEFERRED_RELEASE
    (let s := Witness.node Witness.on 7167 2 48 1
     (Coil.node s 7167).deferred = some 480000 ∧ 480000 ≤ s.clk.frame ∧ s.clk.phase ≠ 0 ∧ (Coil.node s 7167).active = true ∧
     (Coil.node s 7167).counter ≤ 0 ∧ (Coil.node s 7167).prevRelease = none ∧
     Coil.skips s 7167 s.clk.frame = false ∧ Coil.cost s 7167 ≠ 0 ∧ Coil.fill s 2 < 512) ∧
    -- NODE_DISPATCH
    (let s := Witness.node Witness.direct 0 1 1 1
     s.clk.phase = 0 ∧ (Coil.directReady s).map (·.node) = some 0) ∧
    (let s := Coil.startWaits (Witness.node Witness.on 0 2 48 1).begin
     Coil.directReady s = none ∧ (Coil.pick s [] (Coil.ready s 2)).map (fun e => (e.1.cls, e.2)) = some (2, 0)) ∧
    -- AFFINITY_WAIT_EXPIRY
    (let a : Act := { node := 9, cls := 2, wait := some (0, Witness.on.clk.mono) }
     let s : State := { Witness.on with coil := { Witness.on.coil with acts := [a] } }
     let u := Coil.setAct (s.begin.toMono Witness.on.clk.mono) a { a with expired := true }
     s.coil.acts.find? (fun a => a.node = 9 && a.state = 1 && !a.expired && a.wait.isSome && !Coil.pinned s 9) = some a ∧
     s.clk.phase = 1 ∧ Witness.direct.clk.phase ≠ 1 ∧
     Coil.choose u ((Coil.ready u 2 ++ Coil.ready u 3).takeWhile (fun x => x != { a with expired := true })) { a with expired := true } = some 0) ∧
    (let s : State := { (Witness.on.st32 (Coil.win + 32 * 9) (w32 (at_ 17 1 + at_ 12 2))) with
        coil := { Witness.on.coil with acts := [{ node := 9, cls := 2, wait := some (0, Witness.on.clk.mono) }] } }
     Coil.pinned s 9 = true) := by decide +kernel

theorem witness_CoilCompletions :
    -- NODE_COMPLETE
    (let s := Witness.node Witness.on 5 2 48 2
     (Coil.running s 5).map (·.cls) = some 2 ∧ Coil.isCorr 5 = false ∧ Coil.edgeCount s 5 = 0 ∧ Coil.period s 5 ≠ 0 ∧
     (Coil.node s 5).armed = false) ∧
    (Coil.running (Witness.node Witness.on 5 1 1 2) 5).map (·.cls) = some 1 ∧
    (Coil.running (Witness.node Witness.on 16383 2 48 2) 16383).map (·.cls) = some 2 ∧ Coil.isCorr 16383 = true ∧ Coil.isCorr 7679 = false ∧
    -- HELD_RELEASE_ENTER
    ((Witness.node Witness.on 5 2 48 0).coil.acts.filter (fun a => a.state = 0)).length = 1 ∧ Coil.fill (Witness.node Witness.on 5 2 48 0) 2 < 512 ∧
    Coil.running Witness.on 5 = none ∧
    -- SUBMIT_HOLD_RELEASE, and a submission behind another initiator's
    (let s : State := { Witness.on with coil := { Witness.on.coil with heldSubmits := [(3, 5)] } }
     s.coil.heldSubmits ≠ [] ∧ (∀ e ∈ s.coil.heldSubmits, e.1 ≠ 0) ∧ Coil.credit s ≠ 0) ∧
    -- COIL_SUBMIT
    Witness.on.pageUp Coil.page = true ∧ Witness.on.coil.heldSubmits = [] ∧ Coil.credit Witness.on = 64 ∧
    (Coil.node Witness.on 16383).active = false ∧
    (let s := Witness.node Witness.on 7167 3 0 2
     (Coil.node s 7167).active = true ∧ Coil.cls s 7167 = 3 ∧ Coil.period s 7167 = 0 ∧ (Coil.node s 7167).stopping = false ∧
     Coil.isDevice 7167 = false ∧ Coil.isDevice 7168 = true ∧ Coil.gateOpen s 7167 = true) ∧
    -- NODE_ACTIVATE, NODE_DEACTIVATE
    (let s := Witness.on.wr Reg.coilNodeSel 0x00010005
     s.rdF Reg.coilNodeSel 30 16 ≠ 0 ∧ (Coil.checkPost s.begin 1 5 1).isSome = true ∧
     (let u := ((Witness.node Witness.on 5 2 48 0).st32 (Coil.win + 32 * 5) (w32 (at_ 12 2 + at_ 14 3))).wr Reg.coilNodeSel 0x00010005
      Coil.checkPost u.begin 2 5 1 = none ∧ u.rateOn = true)) ∧
    -- ACTIVATION_LATE, DIRECT_COST_STOP
    (let s := Witness.node Witness.on 5 2 48 2
     (s.coil.acts.find? (fun a => a.node = 5 && a.cls != 1 && !a.late &&
        (match a.deadline with | some d => decide (d ≤ s.clk.frame) | none => false))).map (·.state) = some 2) ∧
    (let s := Witness.node Witness.direct 5 1 1 2
     (s.coil.acts.find? (fun a => a.state = 2 && a.core = 0 && a.cls = 1)).map (·.node) = some 5 ∧ 5 ∉ s.coil.path.ended) ∧
    (let s : State := { Witness.direct with
        osier := { Witness.direct.osier with cores := [(0, { b1 := { node := some 5, cost := 100, issued := 100 } })] }
        coil := { Witness.direct.coil with path := { Witness.direct.coil.path with due0 := [5] } } }
     (Osier.core s 0).b1.node.isSome = true ∧ (Osier.core s 0).b1.cost ≤ (Osier.core s 0).b1.issued ∧
     5 ∈ s.coil.path.due0 ++ s.coil.path.due1 ∧ 5 ∉ s.coil.path.ended) := by
  decide +kernel

/-- Core 127 of `s` with the bank `b` in its Block bank, or in its Direct bank. -/
def Witness.core (s : State) (direct : Bool) (b : Bank) (c : CoreSt) : State :=
  { s with osier := { s.osier with cores := [(127, if direct then { c with b1 := { b with cost := 100 } } else { c with b0 := b })] } }

/-- A bank of node 5 at bundle 0xBFF, its address registers at the bounds of the bank's range. -/
def Witness.bank (direct : Bool) : Bank :=
  { node := some 5, pc := 0xBFE, a := if direct then [(0, 0x3FFF), (16, 0x3C00)] else [(0, 0x3BFF), (16, 0)], s := [(1, 15), (3, 16)] }

/-- Each compute row of the scalar, vector and accumulator families is ready on core 127, in either bank. -/
theorem witness_OsierComputeRowsRun :
    ([0x00, 0x07, 0x08, 0x09, 0x10, 0x11, 0x12, 0x13, 0x14, 0x15, 0x16, 0x17, 0x18, 0x19, 0x1A, 0x1B, 0x1C, 0x1D, 0x1E, 0x1F,
      0x20, 0x21, 0x22, 0x23, 0x24, 0x25, 0x26, 0x27, 0x28, 0x29, 0x2A, 0x2B, 0x2C, 0x2D, 0x2E, 0x2F, 0x30, 0x38, 0x39, 0x3A, 0x3B,
      0x40, 0x41, 0x42, 0x43, 0x44, 0x45, 0x46, 0x47, 0x48, 0x49, 0x4A, 0x4B, 0x4C, 0x4D, 0x4E, 0x4F, 0x50, 0x51, 0x52,
      0x58, 0x59, 0x5A, 0x5B] : List Nat).all (fun op => [true, false].all (fun direct =>
        decide (let s := Witness.core Witness.on direct (Witness.bank direct) {}
          let c := Osier.core s 127
          let i := Operands.bundle op (if op = 0x5A then { d := 1 } else {})
          let b := c.active.settle
          s.pageUp (Osier.pageOf 127) = true ∧ c.active.node.isSome = true ∧ c.active.done = none ∧
          (c.inBank1 = true → c.b1.issued < c.b1.cost) ∧ i.legal b = true ∧ ¬ (b.issued = 0 ∧ 0xC00 ≤ b.pc ∧ b.node.getD 0 < 7168) ∧
          c.xfers.length < 8 ∧ c.xferErr = false ∧ c.injParity = false ∧ c.injResidue = false ∧ c.inBank1 = direct ∧
          (Osier.flow i b).pc < 4096))) = true := by decide +kernel

theorem witness_OsierScalarRowsRun :
    let s := Witness.core Witness.on false (Witness.bank false) {}
    Osier.ready s 127 (Operands.bundle 0x10 { d := 15, a := 1, b := 1 }) (Osier.core s 127).active.settle ∧
    (0 : Nat) / 256 ≠ 4 ∧ (0x20 : Nat) = 16 * 2 + 0 ∧ (31 : Nat) = 4 * 7 + 3 := by
  dsimp only [Osier.ready]; and_intros <;> decide +kernel

theorem witness_OsierVectorRowsRun :
    let s := Witness.core Witness.on true (Witness.bank true) {}
    Osier.ready s 127 (Operands.bundle 0x3A { d := 15, a := 1, b := 2 }) (Osier.core s 127).active.settle ∧
    (BitVec.ofNat 8 127).toInt = (127 : Nat) ∧ (BitVec.ofNat 8 128).toInt = -((128 : Nat) : Int) ∧ (-2 ^ 31 : Int) - 1 < -2 ^ 31 := by
  dsimp only [Osier.ready]; and_intros <;> decide +kernel

theorem witness_OsierAccumulatorRowsRun :
    let s := Witness.core Witness.on false (Witness.bank false) {}
    Osier.ready s 127 (Operands.bundle 0x51 { d := 7, a := 1, b := 1 }) (Osier.core s 127).active.settle ∧
    headroom (satS 32 ((0 + 2 ^ (30 + 15)) / 2 ^ (31 + 15))) = 31 ∧ (-2 ^ 79 : Int) < 2 ^ 79 := by
  dsimp only [Osier.ready]; and_intros <;> decide +kernel

theorem witness_OsierControlRowsRun :
    let s := Witness.core Witness.on false (Witness.bank false) {}
    Osier.ready s 127 (Operands.bundle 0x05 { d := 1, a := 0, c := 2 }) (Osier.core s 127).active.settle ∧
    (Operands.bundle 0x10 {}).isFlow = false ∧ (Operands.bundle 0x01 {}).isFlow = true := by
  dsimp only [Osier.ready]; and_intros <;> decide +kernel

theorem witness_OsierFabricTransferWindowRows :
    (let s := Witness.core Witness.direct true (Witness.bank true) {}
     Osier.ready s 127 (Operands.bundle 0x60 { a := 1 }) (Osier.core s 127).active.settle ∧
     Osier.ready s 127 (Operands.bundle 0x61 { a := 1, b := 1 }) (Osier.core s 127).active.settle) ∧
    -- XRD, XWR: the shortest transfer, and the shorter that make none
    (let s := Witness.core Witness.on false (Witness.bank false) {}
     Osier.ready s 127 (Operands.bundle 0x62 { a := 0 }) (Osier.core s 127).active.settle ∧
     Osier.ready s 127 (Operands.bundle 0x63 { a := 0 }) (Osier.core s 127).active.settle ∧
     ((Osier.core s 127).active.settle.sw 3).toNat = 16 ∧ ((Osier.core s 127).active.settle.sw 1).toNat = 15) ∧
    -- INSTRUCTION_WRITE, OSIER_WINDOW_ACCESS_RELEASE, INJECT_PARITY, INJECT_RESIDUE
    Witness.on.pageUp (Osier.pageOf 127) = true ∧ (Osier.core Witness.on 127).b1.node = none ∧ 0xBFF < 0xC00 ∧
    Witness.on.directControls = true ∧
    (Osier.core (Witness.core Witness.on false {} { held := [(0, some 5)] }) 127).held = [(0, some 5)] ∧
    -- TRANSFER_COMPLETE of no bytes
    (let s := Witness.core Witness.on false {} { xfers := [{ write := false }] }
     (Osier.core s 127).xfers.length = 1 ∧ (Osier.core s 127).b0.done = none ∧ (Weave.readN s.begin 16 2 0 0).2.2 = 0 ∧
     (Osier.core (Weave.readN s.begin 16 2 0 0).1 127).b0.done = none) := by
  dsimp only [Osier.ready]; and_intros <;> decide +kernel

/-- Each move row is ready with an access at the bounds of the bank's range. -/
theorem witness_OsierMovesRun :
    ([1, 2, 3, 4, 5] : List Nat).all (fun o => [true, false].all (fun direct => [true, false].all (fun y =>
      decide (let s := Witness.core Witness.on direct (Witness.bank direct) {}
        let c := Osier.core s 127
        let b := c.active.settle
        let i := Operands.bundle 0 (Operands.withMove {} y o { r := 15 })
        let p := b.af (if y then 4 else 0) 0
        i.legal b = true ∧ p < 0x4000 ∧ c.undef = false ∧ c.inBank1 = direct ∧
        (Move.ofNat i.x).inRegion direct (b.af (Move.ofNat i.x).areg 0) = true ∧
        (Move.ofNat i.y).inRegion direct (b.af (4 + (Move.ofNat i.y).areg) 0) = true ∧ (Osier.flow i b).pc < 4096)))) = true ∧
    -- the ring at its bounds
    (0x3FFF : Nat) < 0x3FFF + 1 ∧ 0x3FFF + 1 ≤ 0x4000 ∧ (-1 : Int) ≤ 1 := by decide +kernel

theorem witness_OsierControlSlotRows :
    (let s := Witness.core Witness.on false (Witness.bank false) {}
     let b := (Osier.core s 127).active.settle
     Osier.ready s 127 (Operands.bundle 0 (Operands.withCtl {} 1 0x8F)) b ∧ Osier.ready s 127 (Operands.bundle 0 (Operands.withCtl {} 2 0x8F)) b ∧
     Osier.ready s 127 (Operands.bundle 0 (Operands.withCtl {} 3 0)) b ∧ Osier.ready s 127 (Operands.bundle 0 (Operands.withCtl {} 4 1)) b ∧
     Osier.ready s 127 (Operands.bundle 0 (Operands.withCtl {} 5 0)) b ∧ (0x8F / 16 % 8 : Nat) ≠ 0x8F % 8) ∧
    -- WAITX that stalls, and DONE with a transfer outstanding
    (let s := Witness.core Witness.on false (Witness.bank false) { xfers := [{}] }
     let c := Osier.core s 127
     (Operands.bundle 0 (Operands.withCtl {} 3 0)).legal c.active.settle = true ∧
     (Operands.bundle 0 (Operands.withCtl {} 3 0)).ctl % 8 < c.xfers.length ∧ c.active.settle.stall = none ∧ c.inBank1 = false ∧
     Osier.ready s 127 (Operands.bundle 0 (Operands.withCtl {} 4 0)) c.active.settle) ∧
    -- the last transfer of a node that has executed DONE
    (let s := Witness.core Witness.on false { Witness.bank false with done := some false } { xfers := [{}] }
     let s1 := (Weave.readN s.begin 16 2 0 0).1
     Osier.core s1 127 = Osier.core s 127 ∧ (Weave.readN s.begin 16 2 0 0).2.2 = 0 ∧ (Osier.core s 127).b0.done = some false ∧
     (Osier.core s 127).b0.node.isSome = true) := by
  dsimp only [Osier.ready]; and_intros <;> decide +kernel

theorem witness_OsierFaultsAbandonTheNode :
    Witness.on.pageUp (Osier.pageOf 127) = true ∧ (Osier.core Witness.on 127).active.node = none ∧
    (let s := Witness.core Witness.on false (Witness.bank false) { injParity := true, injResidue := true }
     let c := Osier.core s 127
     let b := c.active.settle
     c.active.node = some 5 ∧ c.active.done = none ∧ (Operands.bundle 0xFF {}).legal b = false ∧
     (Operands.bundle 0x60 {}).legal b = true ∧ c.inBank1 = false ∧
     (let i := Operands.bundle 0 (Operands.withMove {} false 3 {})
      i.legal b = true ∧ (Move.ofNat i.x).inRegion false (b.af 0 0) = true ∧ (Move.ofNat i.x).inRegion false 0x3C00 = false ∧
      (Move.ofNat i.x).isLoad = true) ∧
     (Operands.bundle 0x40 {}).multiplies = true ∧
     (Osier.xferOf (Operands.bundle 0x62 {}) { b with s := [(0, 0x3BFC), (3, 32)] } s).badRange = true ∧
     (Osier.xferOf (Operands.bundle 0x62 {}) { b with s := [(0, 0x3BFC), (3, 16)] } s).badRange = false) := by decide +kernel

theorem witness_WriteBacksBecomeVisible :
    (let w : WriteBack := { due := 3, issue := 2, dest := .s 15, val := -1 }
     let b : Bank := { wbs := [{ due := 3, issue := 0, dest := .s 15, val := 1 }, w], issued := 3 }
     b.wbs.length = 2 ∧ w.due ≤ b.issued ∧ Tab.get (fun _ => 0) b.lastW w.dest.key ≤ w.issue + 1 ∧ b.settle.sw 15 = 0xFFFFFFFF) := by
  decide +kernel

/-- `s` with page `p` enabled. -/
def Witness.enable (s : State) (p : Nat) : State := { s with ctl := { s.ctl with enabled := Tab.set (fun _ => false) s.ctl.enabled p true } }

theorem witness_PowerCommandsAct :
    Witness.on.running = true ∧ Witness.on.clk.ticking = true ∧ Witness.on.clk.frame % frameBase Witness.on.clk.rate = 0 ∧
    Witness.on.isStandby = false ∧
    (let s : State := { Witness.on with budget := { Witness.on.budget with transition := some 0x7FF } }
     s.budget.transition = some 0x7FF ∧ (0x7FF).testBit 10 = true ∧ s.budget.domains.testBit 11 ≠ (0x7FF).testBit 11) ∧
    Witness.on.pageUp 6 = true ∧ fld (Witness.up.ef Reg.stakeRenderRate) 2 0 = 0 ∧ Witness.up.clk.ticking = false ∧
    (let s : State := { Witness.up with budget := { Witness.up.budget with standby := true, wakeDue := some (20 * secU) } }
     s.budget.standby = true ∧ s.jtag.held = false ∧ s.budget.wakeDue = some (20 * secU) ∧
     (let w := s.wr Reg.budgetStandby (w32 (2 + 128 * 7))
      bit (w.rd Reg.budgetStandby) 1 = true ∧ fld (w.rd Reg.budgetStandby) 11 7 = 7)) ∧
    -- the decision of R279: over power, over temperature, at the slack target
    (let s : State := { Witness.on with budget := { Witness.on.budget with powers := [100], tj := 800 } }
     let s1 := (s.we Reg.budgetPowerLimit 100).we Reg.budgetTjLimit (w32 (800 + 65536 * 16))
     (s1.efF Reg.budgetPowerLimit 15 0) * s1.budget.powers.length < ({ s1 with budget := { s1.budget with powers := [101] } } : State).budget.powers.sum ∧
     s1.budget.powers.sum ≤ s1.efF Reg.budgetPowerLimit 15 0 * s1.budget.powers.length ∧ s1.budget.tj ≤ (s1.efF Reg.budgetTjLimit 15 0 : Nat) ∧
     (Budget.tierFor s1 2 3 (some 2047)).1 ≤ 3) := by decide +kernel

/-- `s` with the power stage's channel `c` in state `x`, its page enabled and its configuration for mode 2. -/
def Witness.stage (s : State) (c : Nat) (x : PsCh) : State :=
  let t := Witness.enable (Witness.enable ((s.we (Reg.pstgGrpCtrl (c / 8)) 1).we (Reg.pstgChCfg (c / 8) (c % 8)) 2) (Pstg.pageOf (c / 8))) Lsup.page
  { t with pstg := { t.pstg with ch := [(c, x)] } }

theorem witness_StageCommandsAct :
    (Pstg.ch (Witness.stage Witness.on 63 { state := 2, mode := 2 }) 63).state = 2 ∧ 63 < Witness.on.variant.psChannels ∧
    (Pstg.ch (Witness.stage Witness.on 63 { state := 2, mode := 2 }) 63).mode = 2 ∧
    (Pstg.ch (Witness.stage Witness.on 63 { state := 3 }) 63).state = 3 ∧ (Pstg.ch Witness.on 63).state = 0 ∧
    -- RECHECK_START, RECHECK_COMMAND
    (let s := (Witness.stage Witness.on 63 { latched := true }).we (Reg.pstgRecheckMs 7) 1
     Pstg.recheckMs s 63 ≠ 0 ∧ Pstg.canRecheck s 63 = true ∧ s.pageUp (Pstg.pageOf 7) = true) ∧ Pstg.canRecheck Witness.on 63 = false ∧
    -- RECHECK_END
    (let s := Witness.stage Witness.on 63 { state := 3 }
     ({ s with lsup := { s.lsup with ch := [(63, { recheck := [1, 2, 1] })] } } : State).lsup.ch.length = 1 ∧
     (Lsup.ch { s with lsup := { s.lsup with ch := [(63, { recheck := [1, 2, 1] })] } } 63).recheck.length = 3 ∧
     (∀ r ∈ (Lsup.ch { s with lsup := { s.lsup with ch := [(63, { recheck := [1, 2, 1] })] } } 63).recheck, r = 1 ∨ r = 2) ∧
     (Lsup.ch s 63).recheck.length ≠ 3) ∧
    -- CHANNEL_START, CHANNEL_RAMP_DOWN_DONE
    (let s := Witness.stage Witness.on 63 { state := 1, startDue := some 5 }
     (Pstg.ch s 63).startDue = some 5 ∧ (Pstg.ch s 63).state = 1 ∧ s.pstg.muted = false) ∧
    (let s := Witness.stage Witness.on 63 { state := 2, stopTo := 2, ramp := { h := 480000 } }
     (Pstg.ch s 63).ramp.h ≤ s.clk.frame ∧ (Pstg.ch s 63).stopTo = 2) ∧
    -- DRIVER_FAULT, CLOCK_RECOVERY
    7 < Pstg.groups Witness.on ∧ ¬ 8 < Pstg.groups Witness.on ∧ Witness.on.pageUp (Pstg.pageOf 7) = true ∧ 7 ∉ Witness.on.pstg.drvFault ∧
    (let s : State := { Witness.on with pstg := { Witness.on.pstg with muted := true, muteKind := 1, drvFault := [7] } }
     s.pstg.muteKind = 1 ∧ 7 ∈ s.pstg.drvFault) ∧ Witness.on.pstg.muteKind ≠ 1 := by decide +kernel

/-- `s` with channel 63 Running and locked in mode 2, supervised and AC-tested, and its supervision state `x`. -/
def Witness.load (s : State) (x : LsCh) : State :=
  let t := (Witness.stage s 63 { state := 2, mode := 2, locked := true, silentSince := some 0, started := true }).we (Reg.lsupChCfg 63)
    (w32 (2 ^ 31 + 2 ^ 29))
  { t with lsup := { t.lsup with ch := [(63, x)] } }

theorem witness_SupervisionCommandsAct :
    (Lsup.reads Witness.on 63 = false ∧ Lsup.reads (Witness.load Witness.on {}) 63 = true) ∧
    -- LSUP_WINDOW_END: the readings before, in each clause
    ((Lsup.ch (Witness.load Witness.on { run := [3, 3] }) 63).run = [3, 3] ∧ (Lsup.ch (Witness.load Witness.on { run := [3, 3] }) 63).confirmed ≠ 3) ∧
    (Lsup.ch (Witness.load Witness.on { confirmed := 4, run := [1, 2] }) 63).run = [1, 2] ∧
    (Lsup.ch (Witness.load Witness.on { capture := some (List.replicate 9 (0, 0, 0, 0)) }) 63).capture.map (fun l => decide (9 ≤ l.length)) = some true ∧
    (Lsup.ch (Witness.load Witness.on { capture := some (List.replicate 8 (0, 0, 0, 0)) }) 63).capture.map (fun l => decide (l.length < 9)) = some true ∧
    -- VERDICT_CHANGE
    (Lsup.ch (Witness.load Witness.on { change := some (3, Witness.on.clk.tickMono) }) 63).change = some (3, Witness.on.clk.tickMono) ∧
    (Lsup.ch Witness.on 63).change = none ∧
    -- the commands
    Witness.on.pageUp Lsup.page = true ∧ Witness.on.lsup.busy = none ∧ Lsup.acOk (Witness.load Witness.on {}) 63 = true ∧
    Lsup.acOk Witness.on 63 = false ∧ (Lsup.ch (Witness.load Witness.on {}) 63).ac = 0 ∧
    ({ Witness.on with lsup := { Witness.on.lsup with busy := some 0 } } : State).lsup.busy.isSome = true ∧
    -- AC_TEST_SILENCE_START, AC_TEST_FIRST_START
    (let s := (Witness.load Witness.on {}).we Reg.lsupAcCtrl 3
     (Pstg.ch s 63).silentSince = some 0 ∧ s.unitOn Lsup.page = true ∧ s.isStandby = false ∧ s.efB Reg.lsupAcCtrl 1 = true ∧
     0 + 2 * secU ≤ s.clk.mono ∧ (Lsup.ch s 63).lastTest = none ∧ s.efB Reg.lsupAcCtrl 0 = true ∧ (Lsup.ch s 63).startTest = false ∧
     (Pstg.ch s 63).started = true) ∧
    -- AC_POINT_END, AC_TEST_END, AC_TEST_ABORT
    (Lsup.ch (Witness.load Witness.on { ac := 3, points := List.replicate 31 none }) 63).points.length < 32 ∧
    (Lsup.ch (Witness.load Witness.on { ac := 3, points := List.replicate 32 (some (1, 0)) }) 63).points.length = 32 ∧
    (let s : State := { Witness.on with lsup := { Witness.on.lsup with ch := [(63, { ac := 1 })] } }
     (Lsup.ch s 63).ac = 1 ∧ (Pstg.ch s 63).state ≠ 2 ∧ (Pstg.ch s 63).locked = false) := by decide +kernel

/-- `s` with port page `p` enabled with the format `fmt`, in state `x`. -/
def Witness.portPage (s : State) (p : Nat) (fmt : Word) (x : PortPg) : State :=
  let t := Witness.enable (s.we (Port.reg p 0x40) fmt) p
  { t with port := { t.port with pages := [(p, x)] } }

theorem witness_PortDirectionsAct :
    Port.kind 0x20 = 1 ∧ Port.kind 0x2F = 1 ∧ Port.kind 0x30 = 2 ∧ Port.kind 0x37 = 2 ∧ Port.kind 0x38 = 3 ∧ Port.kind 0x3B = 3 ∧
    Port.kind 0x3C = 0 ∧ Port.kind 0x1F = 0 ∧
    -- PORT_START of a follower, a leader and a MADI page
    (let s := Witness.portPage Witness.on 0x2F 0 {}
     ((Port.pg s 0x2F).dir false).state = 0 ∧ Port.isOn s 0x2F false = true ∧ Port.madiInactive s 0x2F false = false ∧
     bit (s.ef (Port.reg 0x2F 0x40)) 3 = false ∧ (Port.pg s 0x2F).locked = false) ∧
    (let s := Witness.portPage Witness.on 0x20 8 {}
     Port.isOn s 0x20 true = true ∧ bit (s.ef (Port.reg 0x20 0x40)) 3 = true ∧ Port.rateField s 0x20 true = 0 ∧ s.clk.rate ≠ 0) ∧
    (let s := Witness.portPage Witness.on 0x3B 3 {}
     Port.isOn s 0x3B true = true ∧ Port.isOn s 0x3B false = true ∧ Port.madiInactive s 0x3B true = false) ∧
    Port.isOn Witness.on 0x30 false = false ∧
    -- LEADIN_END, PORT_FADE_END, LEADOUT_END
    (let s := Witness.portPage Witness.on 0x20 8 { fmt := 8, rx := { state := 1 }, tx := { state := 1 } }
     ((Port.pg s 0x20).dir false).state = 1 ∧ Port.ownClock (Port.pg s 0x20) 0x20 false = true) ∧
    (let s := Witness.portPage Witness.on 0x30 1 { rx := { state := 1, frames := 65535 } }
     Port.ownClock (Port.pg s 0x30) 0x30 false = false ∧ s.efF (Port.reg 0x30 0x50) 15 0 ≤ ((Port.pg s 0x30).dir false).frames) ∧
    (let s := Witness.portPage Witness.on 0x30 0 { tx := { state := 2, stopping := true, fade := [(0, { h := 480000 })] } }
     ((Port.pg s 0x30).dir true).stopping = true ∧ (∀ e ∈ ((Port.pg s 0x30).dir true).fade, e.2.h ≤ s.clk.frame) ∧
     Port.isOn s 0x30 true = false) ∧
    ((Port.pg (Witness.portPage Witness.on 0x30 0 { tx := { state := 3 } }) 0x30).dir true).state = 3 ∧
    -- MASK_CHANGE_APPLY
    (let s := Witness.portPage Witness.on 0x20 8 { rx := { toSet := [(15, Witness.on.clk.stake)], toClear := [(0, Witness.on.clk.stake)], mask := 1 } }
     (∃ x ∈ ((Port.pg s 0x20).dir false).toSet, x.1 = 15 ∧ x.2 ≤ s.clk.stake) ∧
     (∀ x ∈ ((Port.pg s 0x20).dir false).toSet, x.1 = 0 → s.clk.stake < x.2) ∧
     (∃ x ∈ ((Port.pg s 0x20).dir false).toClear, x.1 = 0 ∧ x.2 ≤ s.clk.stake)) ∧
    -- RECEIVER_LOCK, RECEIVER_LOCK_LOSS
    Port.receiver (Witness.portPage Witness.on 0x2F 0 {}) 0x2F = true ∧ (Port.pg (Witness.portPage Witness.on 0x2F 0 {}) 0x2F).locked = false ∧
    Port.receiver (Witness.portPage Witness.on 0x20 8 {}) 0x20 = false ∧
    (Port.pg (Witness.portPage Witness.on 0x3B 1 { locked := true }) 0x3B).locked = true := by decide +kernel

theorem witness_PortFramesAct :
    -- PORT_INPUT_FRAME, AES_INPUT_FRAME, MADI_INPUT_FRAME
    (let s := Witness.portPage Witness.on 0x20 0 { rx := { state := 2 }, locked := true }
     s.pageUp 0x20 = true ∧ (Port.pg s 0x20).rx.state ≠ 0 ∧ (Port.pg s 0x20).locked = true) ∧
    (let s := Witness.portPage Witness.on 0x37 1 { rx := { state := 2 }, locked := true }
     Port.isOn s (0x30 + 7) false = true ∧ (Port.pg s 0x37).locked = true ∧ (Port.pg s 0x37).rx.state ≠ 0) ∧
    (let s := Witness.portPage Witness.on 0x3B 1 { rx := { state := 2 }, locked := true }
     Port.isOn s (0x38 + 3) false = true ∧ (Port.pg s 0x3B).rx.state ≠ 0 ∧ Port.madiInactive s 0x3B false = false ∧
     Port.rateCode s 0x3B false < 3) ∧
    (nth (0 : Byte) (1 :: List.replicate 23 0) 0).getLsbD 0 = true ∧
    crcc ((List.range 23).map (nth 0 ((1 : Byte) :: List.replicate 23 0))) ≠ (nth (0 : Byte) (1 :: List.replicate 23 0) 23).toNat ∧
    (nth (0 : Byte) (List.replicate 24 0) 0).getLsbD 0 = false ∧
    -- PORT_OUTPUT_FRAME, RATE_MEASURE
    (let s := Witness.portPage Witness.on 0x20 0 { tx := { state := 2 } }
     (Port.pg s 0x20).tx.state ≠ 0 ∧ Port.converted s 0x20 true = false ∧ Port.ownClock (Port.pg s 0x20) 0x20 true = false) ∧
    (let s := Witness.portPage (Witness.enable (Witness.on.we (Reg.asrcBind 11) (w32 (2 ^ 31 + 2 ^ 30))) (Asrc.page 11)) 0x20 0 { tx := { state := 2 } }
     (Port.pg s 0x20).tx.state = 2) ∧
    (let s := Witness.portPage Witness.on 0x20 0 {}
     Port.isOn s 0x20 false = true ∧ Port.leader (Port.pg s 0x20) = false) ∧
    -- ASRC_LOCK's bounds, ASRC_UNLOCK
    (2 ^ 37 - 1 < 2 ^ 37 ∧ 2 ^ 43 < 2 ^ 43 + 1 ∧ Witness.on.isStandby = false ∧ Witness.member.isStandby = true) ∧
    -- HOST_AUDIO_IN_READ, HOST_AUDIO_OUT_DONE
    HostAud.active Witness.on false = false ∧
    (let s := Witness.enable (Witness.on.we Reg.hostAudInCfg (w32 (256 + 4095 * 4096))) 1
     HostAud.active s false = true ∧ HostAud.inHost s false = false ∧ s.rateOn = true) ∧
    ({ Witness.on with port := { Witness.on.port with hostPend := [(5, [])] } } : State).port.hostPend = [(5, [])] := by decide +kernel

theorem witness_Asrc :
    (let s := Witness.enable (Witness.on.we (Reg.asrcBind 7) 0x40) (Asrc.page 7)
     Asrc.isLeader s 7 = true ∧ s.unitOn (Asrc.page 7) = true ∧ (Asrc.eng s 7).locked = false ∧ s.isStandby = false) ∧
    (let s := Witness.portPage (Witness.on.we (Reg.asrcBind 0) 0x140) 0x20 0 { tx := { state := 2 } }
     Port.converted s 0x20 true = true ∧ Port.madiInactive s 0x20 true = false ∧ (Port.pg s 0x20).tx.state = 2) ∧
    (let s : State := { (Witness.on.we (Reg.asrcBind 0) 0x40) with port := { Witness.on.port with asrc := [(0, { locked := true })] } }
     0 ∈ Asrc.gangOf s 0 ∧ (Asrc.eng s 0).locked = true) := by decide +kernel

/-- Source `n` of Stake time. -/
def Witness.src (s : State) (n : Nat) : State := s.we Reg.stakeSrc (w32 n)

theorem witness_StakeCommandsAct :
    Stake.src Witness.on = 0 ∧ Stake.src (Witness.src Witness.on 3) = 3 ∧ Witness.on.stake.stepStage = 0 ∧
    -- SERVO_MEASUREMENT, HOLDOVER, PPS_LOSS
    (let s := (Witness.src Witness.on 3).we Reg.stakeStepThrUs 1
     s.efF Reg.stakeStepThrUs 19 0 ≠ 0 ∧ s.efF Reg.stakeStepThrUs 19 0 * usU < (-(usU : Int) - 1).natAbs ∧
     (-(usU : Int)).natAbs ≤ s.efF Reg.stakeStepThrUs 19 0 * usU ∧ s.clk.rateChange = none ∧ s.clk.ticking = true) ∧
    (let s : State := { Witness.src Witness.on 1 with stake := { Witness.on.stake with servo := 2, fresh := some 5 } }
     Stake.src s = 1 ∧ s.stake.fresh = some 5 ∧ s.stake.servo ≠ 0 ∧ s.stake.servo ≠ 3) ∧
    (let s : State := { Witness.src Witness.on 2 with stake := { Witness.on.stake with servo := 2, lastPps := some 5 } }
     Stake.src s = 2 ∧ s.stake.lastPps = some 5) ∧
    -- STAKE_SET, STAKE_ADD, STAKE_SUBTRACT
    Witness.on.pageUp 0x10 = true ∧ (Witness.on.rd Reg.stakeSetNs).toNat ≤ 999999999 ∧
    999999999 < ((Witness.on.wr Reg.stakeSetNs 1000000000).rd Reg.stakeSetNs).toNat ∧
    ((Witness.up.clk.stake : Int) - ((11 * secU : Nat) : Int) < 0) ∧ Witness.up.clk.ticking = false ∧
    -- STAKE_STEP_REQUEST, STAKE_STEP_APPLY
    (let s : State := { Witness.on with stake := { Witness.on.stake with stepStage := 1, stepOp := 3, stepBy := 5 } }
     s.stake.stepStage = 1 ∧ s.stake.stepStage < 4 ∧ s.clk.ticking = true) ∧
    -- PPS_EDGE, REF10M_MEASURE, GM_HOLDOVER_LIMIT
    (let s : State := { Witness.src Witness.on 18 with stake := { Witness.on.stake with servo := 3, todWritten := true } }
     Stake.src s = 2 ∧ s.stake.todWritten = true ∧ s.efB Reg.stakeSrc 4 = true ∧ s.stake.servo = 3 ∧ s.stake.gmExpired = false) ∧
    (let o : Int := (Witness.on.clk.stake : Int) - ((Witness.on.clk.stake + secU / 2) / secU * secU : Nat)
     o.natAbs ≤ 100 * usU) ∧ (50001 : Int).natAbs = 50001 ∧
    -- TRIGGER_EDGE, CAPTURE_EDGE, TCAP_POP
    (let s : State := { Witness.on with stake := { Witness.on.stake with
        trig := [(7, { running := true, high := true, reload := true })], tcap := [(3, [1, 2, 3, 4])] } }
     (Stake.trig s 7).running = true ∧ (Stake.trig s 7).high = true ∧ (Stake.trig s 7).reload = true ∧
     4 ≤ (Tab.get (fun _ => ([] : List Nat)) s.stake.tcap 3).length ∧ (Tab.get (fun _ => ([] : List Nat)) s.stake.tcap 0).length < 4) ∧
    ((Witness.on.wr (Reg.stakeTcapCtrl 3) 3).rdF (Reg.stakeTcapCtrl 3) 1 0 = 3) ∧ Witness.on.rdF (Reg.stakeTcapCtrl 0) 1 0 = 0 := by
  decide +kernel

/-- Network ports A and B are enabled with their links up and PTP enabled on both; A has address 10.0.0.1. -/
def Witness.net (s : State) : State :=
  let t := Witness.enable (Witness.enable ((((s.we (Reg.netCfg 0) 1).we (Reg.netCfg 1) 1).we Reg.stakePtpCfg2 3).we (Reg.netIp 0) 0x0A000001) 0x11) 0x12
  { t with net := { t.net with ports := [(0, { link := true }), (1, { link := true })] } }

theorem witness_PtpCommandsAct :
    Net.live (Witness.net Witness.on) 0 = true ∧ Net.live (Witness.net Witness.on) 1 = true ∧ Net.live Witness.on 0 = false ∧
    Ptp.enabled (Witness.net Witness.on) 1 = true ∧
    (let x : PtpPort := { state := 9, foreign := some { gmId := 1, sender := 65535 }, sync := some (65535, 5, -3), req := some (65535, 9) }
     let s : State := { Witness.net Witness.on with stake := { Witness.on.stake with ptp := [(1, x)], selected := 2 } }
     Ptp.fromMaster s 1 (Ptp.domain s) 65535 = true ∧ Ptp.fromMaster s 0 0 0 = false ∧ (Ptp.port s 1).sync.map (·.1) = some 65535 ∧
     (Ptp.port s 1).req = some (65535, 9) ∧ (Ptp.port s 1).state = 9 ∧ (Ptp.port s 0).foreign = none ∧
     Ptp.best s = some (1, { gmId := 1, sender := 65535 }) ∧ Otp.clockId s ≠ 1 ∧ s.efB Reg.stakePtpCfg2 4 = false) ∧
    (let s : State := { Witness.net Witness.on with stake := { Witness.on.stake with ptp := [(0, { state := 6 })] } }
     (Ptp.port s 0).state = 6 ∧ s.efB Reg.stakePtpCfg2 2 = false ∧ Ptp.best s = none) := by decide +kernel

theorem witness_EthernetFramesAct :
    Net.live (Witness.net Witness.on) 1 = true ∧ Witness.on.pageUp (Net.page 1) = true ∧
    (List.replicate 1518 (0 : Byte)).length ≤ 1518 ∧ (Witness.on.efB (Reg.netCfg 0) 3) = false ∧
    -- ARP for the port's own address; an IPv4 fragment; a PTP datagram; one of no row
    (let f : List Byte := List.replicate 12 0 ++ [8, 6, 0, 1, 8, 0, 6, 4, 0, 1] ++ List.replicate 6 7 ++ [10, 0, 0, 2] ++ List.replicate 6 0 ++ [10, 0, 0, 1]
     be16 f 12 = 0x806 ∧ be16 f 20 = 1 ∧ Net.ip (Witness.net Witness.on) 0 ≠ 0 ∧ ofBe (slice f 38 4) = Net.ip (Witness.net Witness.on) 0 ∧
     ofBe (slice f 28 4) ≠ Net.ip (Witness.net Witness.on) 0) ∧
    (let f : Nat → List Byte := fun port => List.replicate 12 0 ++ [8, 0, 0x45] ++ List.replicate 8 0 ++ [17] ++ List.replicate 6 0 ++ [10, 0, 0, 1] ++
       [0, 0] ++ (leBytes 2 port).reverse ++ [0, 16, 0, 0] ++ [0x0B, 2, 0, 44, 0, 0, 0, 0]
     be16 (f 5) 12 = 0x800 ∧ be16 (f 5) 20 % 0x2000 = 0 ∧ (be16 (f 5) 20).testBit 13 = false ∧ (nth (0 : Byte) (f 5) 23).toNat = 17 ∧
     be16 (f 319) 36 = 319 ∧ Eth.isPtp (Witness.net Witness.on) 0 319 (slice (f 319) 42 8) = true ∧
     Eth.isPtp (Witness.net Witness.on) 0 5 (slice (f 5) 42 8) = false ∧ Stream.entryOf (Witness.net Witness.on) 0 (Eth.rtp 0 0x0A000001 5 []) = none ∧
     Felot.takes (Witness.net Witness.on) 0 0x0A000001 5 0 = false) ∧
    Eth.untag (Witness.net Witness.on) 0 [] = some ([], none) ∧
    -- a tagged frame on a port with a VLAN
    (let s := (Witness.net Witness.on).we (Reg.netCfg 0) (w32 (9 + 16 * 4095))
     s.efB (Reg.netCfg 0) 3 = true ∧ s.efF (Reg.netCfg 0) 15 4 = 4095 ∧
     be16 (List.replicate 12 (0 : Byte) ++ [0x81, 0, 0x0F, 0xFF]) 12 = 0x8100 ∧
     be16 (List.replicate 12 (0 : Byte) ++ [0x81, 0, 0x0F, 0xFF]) 14 % 4096 = 4095) ∧
    -- HOST_FRAME_SEND from DRAM, and with a descriptor outside memory
    (let s := ((((Witness.net Witness.on).we (Reg.netHtxCfg 0) 2048).we (Reg.netHtxBaseHi 0) 0x10).wr (Reg.netHtxTail 0) 1).st32 (dramBase + 8) 60
     fld (s.ef (Reg.netHtxCfg 0)) 11 0 = 2048 ∧ s.rdF (Reg.netHtxHead 0) 11 0 ≠ s.rdF (Reg.netHtxTail 0) 11 0 ∧
     s.isMem (Net.htxBase s 0) 32 = true ∧ Net.htxBase s 0 = dramBase ∧ s.isMem (s.ldLe dramBase 8) 60 = false ∧
     (s.st32 (dramBase + 4) 0x10).isMem ((s.st32 (dramBase + 4) 0x10).ldLe dramBase 8) 60 = true ∧ fld (s.ld32 (dramBase + 8)) 15 0 = 60) ∧
    -- STREAM_PACKET_RECEIVE
    (let a := Stream.rxAddr 127
     let s1 := (((Witness.net Witness.on).st32 a (w32 4)).st32 (a + 0x10) 0xEF000001).st32 (a + 0x18) 5004
     let s : State := { s1 with stream := { s1.stream with rxs := [(127, { on := true })] } }
     let k : RtpPacket := { dst := 0xEF000001, dport := 5004 }
     Stream.matches s 0 127 k = true ∧ s.rateOn = true ∧ s.pageUp Stream.page = true ∧ (∀ d, d < 127 → Stream.matches s 0 d k = false) ∧
     (∀ e, e < 128 → Stream.matches Witness.on 0 e k = false)) ∧
    -- the host receive ring
    (let s := (Witness.net Witness.on).we (Reg.netHrxCfg 0) (w32 (2 + 65536))
     fld (s.ef (Reg.netHrxCfg 0)) 11 0 = 2 ∧ (s.rdF (Reg.netHrxHead 0) 11 0 + 1) % 2 ≠ s.rdF (Reg.netHrxTail 0) 11 0 ∧
     fld (Witness.on.ef (Reg.netHrxCfg 0)) 11 0 = 0) := by decide +kernel

theorem witness_PortServicesAct :
    (let s := Witness.net Witness.on
     Net.live s 0 = true ∧ Net.ip s 0 = 0x0A000001 ∧ Net.ip s 1 = 0 ∧ (Net.port s 0).echoes < 100 ∧ (Net.port s 0).echoAt + secU ≤ s.clk.mono ∧
     (List.replicate 1472 (0 : Byte)).length ≤ 1472 ∧ 1472 < (List.replicate 1473 (0 : Byte)).length ∧ (Net.port s 0).link = true ∧
     s.unitOn (Net.page 0) = true ∧ s.efF (Reg.netCfg 0) 1 0 ≠ 0 ∧ 1 < s.variant.nets ∧ (Net.port s 0).grat = 0 ∧
     (∀ e ∈ (Net.port s 0).arp, e.1 ≠ 5) ∧ Net.groups s 0 = [(0xE0000181, [])] ∧ (Net.port (Net.rejoin s.begin 0) 0).reports ≠ [] ∧
     (Net.port (Net.rejoin s.begin 1) 1).reports = []) ∧
    (let t := Witness.net Witness.on
     let s : State := { t with net := { t.net with ports := [(0, { link := true, grat := 2, arp := [(5, 6, 7)], echoAt := t.clk.mono, echoes := 100 })] } }
     (Net.port s 0).grat ≠ 0 ∧ (Net.port s 0).arp.find? (fun e => e.1 = 5) = some (5, 6, 7) ∧ s.clk.mono < (Net.port s 0).echoAt + secU ∧
     100 ≤ (Net.port s 0).echoes) := by decide +kernel

theorem witness_RoutingCommandsAct :
    Witness.on.pageUp 0x48 = true ∧ Witness.on.pageUp 0x49 = true ∧ (Route.sink Witness.on 0x12FF).xfade = none ∧
    (let s : State := { Witness.on with route := { Witness.on.route with
        sinks := [(0x12FF, { src := 5, xfade := some (4, { h := 480000 }), held := some 6 })]
        fadeBusy := true, fade := { h := 480000 }, gens := [(3, { kind := 1, next := some 2, fade := { h := 480000 } })] } }
     (Route.sink s 0x12FF).xfade = some (4, { h := 480000 }) ∧ (480000 : Nat) ≤ s.clk.frame ∧ (Route.sink s 0x12FF).held = some 6 ∧
     s.route.fadeBusy = true ∧ s.route.fade.h ≤ s.clk.frame ∧ (Route.gen s 3).next = some 2 ∧ (Route.gen s 3).fade.h ≤ s.clk.frame) ∧
    (Route.gen Witness.on 3).next = none ∧
    -- LOUDNESS_BLOCK
    (let s : State := { Witness.on with meter := { Witness.on.meter with loud := [(15, { running := true, start := 480000 - 19200 })] } }
     (Meter.loud s 15).running = true ∧ (Meter.loud s 15).start + (Meter.loud s 15).ends * (rateHz s.clk.rate / 10) + 4 * (rateHz s.clk.rate / 10) ≤ s.clk.frame ∧
     3 ≤ s.budget.admitted) ∧
    -- posts
    Route.isSink .zn5480 0x12FF = true ∧ Route.isSink .zn5480 0x1300 = false ∧ Route.isSource .zn5480 0x1CFF = true ∧
    Route.isSource .zn5480 0x1D00 = false ∧ (Route.sink Witness.on 0).xfade = none := by decide +kernel

theorem witness_CaptureCommandsAct :
    Witness.on.pageUp 0x55 = true ∧ Witness.on.pageUp 0x54 = true ∧ Capt.alive Witness.on 127 = true ∧ Capt.alive Witness.on 128 = false ∧
    (Capt.ch Witness.on 143).blend = none ∧
    (let s : State := { Witness.on with capt := { Witness.on.capt with chains := [(143, { blend := some (0, { h := 480000 }) })] } }
     (Capt.ch s 143).blend = some (0, { h := 480000 })) ∧
    -- MEAS_START
    Meas.refusal Witness.on 0 true = some 0x80 ∧ Witness.on.meas.state = 0 ∧
    (let e := 1 + 65536 * 0 + 2 ^ 32 * (65536 - 768) + 2 ^ 48 * 1 + 2 ^ 64 * 500 + 2 ^ 80 * 50
     Meas.kind e = 1 ∧ (jobBits e 8 0 16, jobBits e 8 16 16, jobBits e 4 16 16) = (500, 50, 1)) ∧
    -- MEAS_ABORT, MEAS_RUN_END, RESPONSE_STORED
    (let s : Nat → State := fun n => { Witness.on with meas := { Witness.on.meas with state := n, runs := [[0]], todo := [(0, 480000, 15, [])] } }
     (s 1).meas.state = 1 ∧ (s 3).meas.state = 3 ∧ (s 2).meas.state = 2 ∧ (s 2).meas.abortAt = none ∧
     (s 2).meas.run < (s 2).meas.runs.length ∧ (s 3).meas.todo = [(0, 480000, 15, [])] ∧ 3 ≤ (s 3).budget.admitted ∧
     (s 2).meas.start + Meas.fadeLen (s 2).meas.entry 2 + 0 * Meas.runLen (s 2).meas.entry 2 + Meas.runLen (s 2).meas.entry 2 ≤ (s 2).clk.frame) := by
  decide +kernel

theorem witness_DramCommandsAct :
    Witness.on.pageUp Memc.page = true ∧ Memc.portOk 0 9 = true ∧ Memc.portOk 23 2 = true ∧ Memc.portOk 12 9 = false ∧
    inDram .zn5480 dramBase 1 = true ∧ inDram .zn5480 (dramBase - 1) 1 = false ∧
    inDram .zn5480 (dramBase + Variant.zn5480.dramBytes - 1) 1 = true ∧ inDram .zn5480 (dramBase + Variant.zn5480.dramBytes - 1) 2 = false ∧
    Witness.on.memc.queue = [] ∧ Memc.closed Witness.on = false ∧
    -- BANK_REFRESH, URGENCY_RAISE
    Witness.on.memc.sr.testBit 7 = false ∧ Memc.urgent Witness.on 7 = false ∧ Memc.nextRaise Witness.on = none ∧
    (let s : State := { Witness.on with memc := { Witness.on.memc with queue := [{ port := 9, addr := dramBase, urgency := 4 }, { port := 9, addr := dramBase }] } }
     (∃ c, c < 8 ∧ Memc.urgent s c = true) ∧ (Memc.nextRaise s).isSome = true) ∧
    -- SCRUB_READ, MR4_POLL
    (Witness.on.we Reg.memcScrub 1).efF Reg.memcScrub 7 0 ≠ 0 ∧
    -- SET_POINT_HELD_START, SET_POINT_SWITCH_DONE, TRAINING, TRAINING_DONE, IDLE_SELF_REFRESH_ENTRY
    (let s : State := { Witness.on with memc := { Witness.on.memc with held := some (3, true) } }
     s.memc.held = some (3, true) ∧ s.memc.training = none ∧ s.memc.switching = none ∧ s.memc.srWhy = 0) ∧
    ({ Witness.on with memc := { Witness.on.memc with switching := some (3, 5, true) } } : State).memc.switching = some (3, 5, true) ∧
    Memc.rateSet Witness.on = false ∧ Memc.rateSet (Witness.on.we Reg.stakeRenderRate 2) = true ∧
    ({ Witness.on with memc := { Witness.on.memc with training := some 15 } } : State).memc.training = some 15 ∧
    (Witness.on.we Reg.memcSrIdleUs 1).efF Reg.memcSrIdleUs 15 0 ≠ 0 := by decide +kernel

theorem witness_WeaveCommandsAct :
    ({ len := 0 } : Burst).ok = false ∧ ({ initiator := 23, len := 256, addr := 2 ^ 40 } : Burst).ok = true ∧
    ({ initiator := 23, len := 256, addr := 2 ^ 40 + 1 } : Burst).ok = false ∧
    Weave.target .zn5480 0 (2 ^ 40) = some 2 ∧ Weave.target .zn5480 0 (2 ^ 40 + 2 ^ 24 - 1) = some 5 ∧ Weave.target .zn5480 0 (2 ^ 40 + 2 ^ 24) = none ∧
    Weave.target .zn5480 0 dramBase = some 15 ∧ Weave.target .zn5480 0 0x11000000 = none ∧
    Witness.on.weave.waiting = [] ∧ (Weave.arb Witness.on 2).lock = none ∧ (Weave.arb Witness.on 2).broken = none ∧ Weave.lockOf Witness.on 0 = none ∧
    (let s : Nat → Nat → State := fun i n => { Witness.on with weave := { Witness.on.weave with
        arbs := [(2, { lock := some (i, Witness.on.clk.stake - 4 * usU + 1, n) })] } }
     (Weave.arb (s 0 16) 2).lock = some (0, Witness.on.clk.stake - 4 * usU + 1, 16) ∧ Weave.lockOf (s 0 16) 0 = some 2 ∧
     (s 0 16).clk.stake < (s 0 16).clk.stake - 4 * usU + 1 + 4 * usU ∧ (∀ y, y < 19 → y ≠ 2 → (Weave.arb (s 1 1) y).lock = none)) ∧
    (Weave.arb { Witness.on with weave := { Witness.on.weave with arbs := [(2, { broken := some 0 })] } } 2).broken = some 0 ∧
    -- INITIATOR_RESET_MID_BURST, PCIE_LINK_DOWN, PCIE_ATOMIC_OP
    ({ len := 17, addr := 2 ^ 40 } : Burst).beats = 2 ∧ ({ len := 17, addr := 2 ^ 40 } : Burst).ok = true ∧
    (let s : State := { Witness.on with weave := { Witness.on.weave with waiting := [{ initiator := 0, len := 1 }] } }
     ∀ b ∈ s.weave.waiting, b.initiator = 0) ∧
    Pcie.addr .zn5480 1 0 = none ∧ Pcie.addr .zn5480 0 0xFFFFFC = some 0xFFFFFC ∧ Pcie.addr .zn5480 2 0x10000000 = some (2 ^ 40) ∧
    (7 : Nat) % 4 ≠ 0 ∧ (2 : Nat) ≤ 2 ∧ ¬ (3 : Nat) ≤ 2 := by decide +kernel

/-- The least start image: one section, a plait that writes GPIO_OUT. -/
def Witness.image : List Byte :=
  leBytes 4 0x49424E5A ++ leBytes 2 1 ++ leBytes 2 256 ++ leBytes 4 512 ++ leBytes 2 1 ++ leBytes 2 0 ++ leBytes 4 7 ++ List.replicate 236 0 ++
  leBytes 2 3 ++ leBytes 2 0 ++ leBytes 4 0x110 ++ leBytes 4 8 ++ leBytes 4 0 ++ leBytes 4 Reg.hostGpioOut ++ leBytes 4 5 ++ List.replicate 232 0

/-- A device in the phase `p` of its start. -/
def Witness.start (p : Nat) : State := { Witness.up with boot := { Witness.up.boot with phase := p } }

theorem witness_StartCommandsAct :
    State.reset.boot.inReset = true ∧ (Boot.validRecord State.reset).isSome = false ∧ Witness.on.boot.inReset = false ∧
    Witness.frozen.fault.frozen = true ∧ Witness.frozen.boot.inReset = false ∧ Witness.frozen.budget.standby = false ∧
    -- SELFTEST_WINDOW_HELD
    (let s : State := { Witness.start 3 with bist := { (Witness.start 3).bist with waiting := true } }
     s.bist.waiting = true ∧ s.boot.phase = 3 ∧ s.boot.env.testFail = none ∧ s.running = true) ∧
    -- START_READY: an image that fails, and one that starts the device
    (let u := (Witness.start 4).begin.pass (5 * nsU)
     Start.image u none none = ([], 1, some 0x80) ∧ u.boot.safeOrigin = false ∧ Start.image u (some Witness.image) none = (Witness.image, 0, none) ∧
     (let v : State := { u with boot := { u.boot with slot := 0, phase := 5 } }
      let r := Start.sections (v.wrF Reg.bistStatus 3 0 15) Witness.image (Img.sections Witness.image)
      r.2 = none ∧ r.1.boot.heldShutdown = false ∧ r.1.rd Reg.hostGpioOut = 5)) ∧
    -- HOST_LOAD_GO, HOST_LOAD_TIMEOUT
    (let s : State := { Witness.start 4 with boot := { (Witness.start 4).boot with source := 1, hostDue := some 5 } }
     s.pageUp 4 = true ∧ s.boot.phase = 4 ∧ s.boot.source = 1 ∧ s.boot.hostGo = none ∧ s.boot.hostDue = some 5 ∧
     Boot.check s (Boot.hostImage s 512) 512 = some 0x81 ∧
     Boot.check (s.stN (csAddr 0) Witness.image) (Boot.hostImage (s.stN (csAddr 0) Witness.image) 512) 512 = none) ∧
    -- BOOT_RETRY, SAFE_HOLD_RETRY, START_ATTEMPT_COMMAND
    (let s : State := { Witness.start 8 with boot := { (Witness.start 8).boot with retryDue := some 5 } }
     s.boot.retryDue = some 5 ∧ s.boot.phase = 8 ∧ s.pageUp 4 = true ∧ s.jtag.held = false) ∧
    (Witness.start 7).pageUp 4 = true ∧ (Witness.start 9).pageUp 4 = true ∧ (Witness.start 10).pageUp 4 = true ∧ (15 : Nat) % 16 = 15 := by
  decide +kernel

theorem witness_SelfTestCommandsAct :
    Witness.on.pageUp 4 = true ∧ Witness.on.pageUp 5 = true ∧ Witness.on.pageUp 1 = true ∧ Otp.conditions Witness.on = true ∧
    (2 = Witness.on.boot.lc + 1 ∧ (Otp.inForce Witness.on .keyHash).isSome = false) ∧ (1 = State.reset.boot.lc + 1) ∧
    Otp.refused Witness.on 0x100 = false ∧ Otp.refused Witness.on 0x24 = true ∧
    ({ Witness.on with boot := { Witness.on.boot with otpBusy := true, erasing := true } } : State).boot.otpBusy = true ∧
    -- PIN_READBACK, SELFTEST_SLICE
    Witness.on.boot.phase = 6 ∧ Tab.get (fun _ => false) Witness.on.bist.inject 65535 = false ∧ 3 ≤ Witness.on.budget.admitted ∧
    (let s : State := { Witness.on with bist := { Witness.on.bist with inject := [(65535, true)], mismatch := [(0, 7), (1, 6)], slice := some (5, 9), running := 15 } }
     Tab.get (fun _ => false) s.bist.inject 65535 = true ∧ 7 ≤ Tab.get (fun _ => 0) s.bist.mismatch 0 ∧ Tab.get (fun _ => 0) s.bist.mismatch 1 < 7 ∧
     s.bist.slice = some (5, 9) ∧ s.bist.running ≠ 0) ∧
    -- COVERAGE_LAPSE, BIST_RUN
    Witness.on.bist.lapse = false ∧ Witness.on.directControls = true ∧ Witness.on.bist.window % 16 = 15 ∧
    ({ Witness.on with boot := { Witness.on.boot with lc := 2 } } : State).directControls = false := by decide +kernel

/-- A member of a pair in the HOOP state `st`, at step `k` of a rejoin. -/
def Witness.pair (st k : Nat) : State := { Witness.member with hoop := { Witness.member.hoop with state := st, step := k } }

theorem witness_PairCommandsAct :
    Witness.member.running = true ∧ Witness.member.hoop.link = true ∧ Witness.member.hoop.role ≠ 0 ∧ Witness.member.pageUp 8 = true ∧
    Witness.on.hoop.role = 0 ∧ ((-501 : Int) < -500 ∧ ¬ (-500 : Int) < -500 ∧ ¬ (500 : Int) < 500) ∧
    -- HEARTBEAT_LOSS
    (let s : State := { Witness.member with hoop := { Witness.member.hoop with lastHb := some 479992 } }
     s.hoop.hbLost = false ∧ s.hoop.lastHb = some 479992 ∧ 479992 + 8 ≤ s.clk.frame ∧ s.clk.frame < 479993 + 8) ∧
    -- FRAME_RECORD_SEAL, FRAME_RECORD, PLAIT_MIRROR, STANDBY_REPORT
    ((Witness.pair 5 0).hoop.state = 5 ∧ (Witness.pair 5 0).clk.ticking = true ∧ (Witness.pair 5 0).hoop.lastSeal ≠ some 480001) ∧
    ((Witness.pair 3 0).isStandby = true ∧ (Witness.pair 4 0).isStandby = true ∧ (Witness.pair 2 1).isStandby = true ∧ (Witness.pair 5 0).isStandby = false) ∧
    (let s : State := { Witness.member with hoop := { Witness.member.hoop with crcs := [(479998, 7)] } }
     Hoop.ownCrc s (480000 - 2) = some 7 ∧ Hoop.ownCrc s 5 = none ∧ (List.range 4).all (fun i => nth 0 ([] : List Nat) i == nth 0 s.hoop.decisions i) = true) ∧
    Plait.pick Witness.member = some 1 ∧ Witness.member.clk.nextTick ≤ 480001 ∧
    (let s : State := { Witness.pair 5 0 with hoop := { (Witness.pair 5 0).hoop with peer := { state := 3 }, crcs := [(479998, 7)] } }
     s.hoop.peer.state = 3 ∧ s.hoop.handover = none ∧ Hoop.ownCrc s 479998 = some 7) ∧
    -- RESYNC_MESSAGE, REJOIN
    Hoop.itemStep (.region 0 []) = 4 ∧ Hoop.itemStep (.line 0 []) = 2 ∧ (Witness.pair 2 4).hoop.step = 4 ∧
    (∀ k, k < 16 → Hoop.regionBad (Witness.pair 2 3) k = false) ∧
    ({ Witness.pair 2 6 with hoop := { (Witness.pair 2 6).hoop with matchFrom := some 432000 } } : State).hoop.matchFrom.map
      (fun f => decide (f + rateHz 2 ≤ Witness.member.clk.frame)) = some true ∧
    -- CLAIM_TIMEOUT, SECONDARY_CLAIM_TIMEOUT, REVERT_HOLD_EXPIRY
    (let s : State := { Witness.member with hoop := { Witness.member.hoop with claim := true, claimDue := some (20 * secU) } }
     s.hoop.claimDue = some (20 * secU) ∧ s.hoop.claim = true ∧ s.hoop.loaded = false) ∧
    (let s : State := { Witness.member with hoop := { Witness.member.hoop with link := false } }
     s.hoop.role = 2 ∧ s.hoop.link = false ∧ s.boot.phase = 6 ∧ s.hoop.claim = false) ∧
    ({ Witness.member with hoop := { Witness.member.hoop with holdFrom := some 5 } } : State).hoop.holdFrom = some 5 := by decide +kernel

theorem witness_FaultCommandsAct :
    faultClass 0xE8 0x83 = 2 ∧ unitOf 0xE8 = some 0xE8 ∧ Witness.on.pageUp 0xE8 = true ∧ faultClass 0xE8 0x80 = 0 ∧ unitOf 0xFF = none ∧
    Witness.on.repeats 0xE8 0x83 = none ∧
    (let s : State := { Witness.on with fault := { Witness.on.fault with
        ring := [(255, { page := 0xE8, code := 0x83, cls := 2, valid := true, repeats := 65534 })], newest := some 255, head := 0, full := true
        lastAt := Witness.on.clk.mono - msU } }
     s.repeats 0xE8 0x83 = some 255 ∧ s.repeats 0xE8 0x80 = none ∧ s.fault.full = true) ∧
    faultClass 0x60 0x88 = 1 ∧ unitOf 0xDF = some 0x60 ∧ faultClass 5 0x80 = 3 ∧ faultClass 4 0x88 = 3 ∧ faultClass 4 0x89 = 0 ∧
    (Witness.start 5).pageUp 4 = true ∧ (Witness.start 5).boot.phase ≤ 5 ∧ Witness.on.pageUp 7 = true ∧
    -- FREEZE_LIMIT_EXPIRY, FREEZE_RELEASE
    (let s : State := { Witness.frozen with fault := { Witness.frozen.fault with latch := true, latchDue := some 5 } }
     s.fault.latchDue = some 5 ∧ s.fault.frozen = true ∧ s.fault.latch = true) ∧
    Witness.frozen.fault.frozen = true ∧ Witness.frozen.fault.latch = false ∧ Witness.frozen.memc.queue = [] ∧ Memory.wf Witness.frozen.mem = true ∧
    Witness.frozen.readoutPermitted = true ∧ Witness.frozen.rateOn = true ∧ Stake.src Witness.frozen = 0 ∧ Witness.frozen.ticksHeld = false ∧
    (bit ((Witness.frozen.wr Reg.faultCtrl 4).rd Reg.faultCtrl) 2 && Witness.frozen.readoutPermitted) = true ∧
    Stake.src (Witness.frozen.we Reg.stakeSrc 1) ≠ 0 ∧
    -- SAN_DATA at the bounds of its ranges, EXTEST
    (let s : Nat → State := fun a => { Witness.frozen with jtag := { Witness.frozen.jtag with sanAddr := a } }
     2 ^ 40 ≤ (s (2 ^ 40 + 2 ^ 24 - 4)).jtag.sanAddr ∧ (s (2 ^ 40 + 2 ^ 24 - 4)).jtag.sanAddr < 2 ^ 40 + 2 ^ 24 ∧ 0x10100000000 ≤ (s 0x10100000000).jtag.sanAddr ∧
     (s 0x10100116FFC).jtag.sanAddr < 0x10100117000 ∧ 0x10100117000 ≤ (s 0x10100117000).jtag.sanAddr) ∧
    State.reset.boot.inReset = true ∧ Witness.on.boot.lc ≠ 2 ∧ ({ Witness.on with boot := { Witness.on.boot with lc := 2 } } : State).boot.lc = 2 := by
  decide +kernel

theorem witness_FreezeRequestsAreCarriedOut :
    (let t : State := { Witness.on with fault := { Witness.on.fault with freezeReq := some 3 } }
     t.fault.freezeReq = some 3 ∧ t.fault.frozen = false ∧ State.calm { t with fault := { t.fault with freezeReq := none } } = true) := by decide +kernel

theorem witness_AbsentPagesReadZero :
    Witness.on.running = true ∧ pagePresent .zn5220 8 = false ∧ pagePresent .zn5480 0xFF = false ∧ Witness.on.pageUp 0xF8 = true ∧ (0xFFC : Nat) < 0x1000 := by decide +kernel

theorem witness_StagedRegistersHaveTwoCopies :
    Witness.on.pageUp 0x48 = true ∧ ((regAt 0x48 0x44).map (fun e => e.1.staged)) = some true ∧ ((regAt 0x48 0x40).map (fun e => e.1.staged)) ≠ some true := by decide +kernel

theorem witness_CommitsSnapshotTheStagingCopies :
    (Witness.mode Witness.on 1).ctl.commit 0x48 = none ∧ (Witness.mode Witness.on 1).rateOn = true ∧
    Page.check1 (Witness.mode Witness.on 1).begin 0x48
      (Page.view (Page.withEff (Witness.mode Witness.on 1).begin 0x48 ((Witness.mode Witness.on 1).staging 0x48)) 0x48) = none ∧
    ((Witness.waiting Witness.on 500000).ctl.commit 0x48).isSome = true := by decide +kernel

theorem witness_SummaryBitsFollowTheInterrupts :
    Witness.on.pageUp 2 = true ∧ bit (Witness.vector.rd (Reg.irqStatus 0x48)) 1 = true ∧ bit (Witness.vector.rd (Reg.irqEnable 0x48)) 1 = true := by decide +kernel

theorem witness_RampTimesLastWholeFrames :
    rateHz (Witness.on.clk.rate) = 48000 ∧ 0 < Witness.on.ms 1 := by decide +kernel

theorem witness_HeadroomCountsSignBits :
    headroom (0x7FFFFFFF#32).toInt = 0 ∧ headroom (0x80000000#32).toInt = 0 ∧
    headroom (1#32).toInt = 30 := by decide +kernel

/-- The completion statements ask for a running device, and FRAME_TICK for one inside its limits. -/
theorem witness_FrameAndRegisterCommandsComplete :
    Witness.up.running = true ∧ Witness.member.running = true ∧ Frame.outside Witness.up {} = false ∧
    Frame.outside Witness.member { claimIn := 1 } = false ∧ Frame.outside Witness.member { claimIn := 2 } = true := by decide +kernel

theorem witness_SceneMatrixAndSchedulerCommandsComplete : Witness.on.running = true ∧ Witness.member.running = true := by decide +kernel
theorem witness_CoreCommandsComplete : Witness.on.running = true ∧ Witness.direct.running = true := by decide +kernel
theorem witness_PowerStageAndSupervisionCommandsComplete : Witness.on.running = true ∧ Witness.up.running = true := by decide +kernel
theorem witness_PortAndClockCommandsComplete : Witness.on.running = true ∧ Witness.member.running = true := by decide +kernel
theorem witness_NetworkRoutingAndCaptureCommandsComplete : Witness.on.running = true ∧ Witness.up.running = true := by decide +kernel
theorem witness_MemoryAndStartCommandsComplete : Witness.on.running = true ∧ Witness.frozen.running = false := by decide +kernel
theorem witness_PairAndFaultCommandsComplete : Witness.member.running = true ∧ Witness.frozen.running = false := by decide +kernel

theorem witness_MeasStart :
    (let e := 1 + 2 ^ 32 * (65536 - 768) + 2 ^ 48 * 1 + 2 ^ 64 * 500 + 2 ^ 80 * 50 + 2 ^ 96 * 1 + 2 ^ 128 * 1
     let t := Witness.on.we Reg.measDramSize 0x00010004
     let s : State := { t with capt := { t.capt with mode := [(0, 1)] } }
     Meas.refusal s e false = none ∧ Meas.refusal s e true = some 0x81 ∧ Meas.refusal (t.we Reg.measDramSize 0) e false = some 0x80 ∧
     Meas.refusal (s.we Reg.measDramSize 0) e false = some 0x82) := by decide +kernel

/-- Four loudspeakers, the last of them 511, at corners of a cube: LAYOUT_BUILD_DONE has a good mesh to store. -/
theorem witness_SceneBuild :
    (let s : State := ([(0, 1, 1, 1), (1, 1, -1, -1), (2, -1, 1, -1), (511, -1, -1, 1)] : List (Nat × Int × Int × Int)).foldl (fun s e =>
        let a := Layout.entry 0 e.1
        (((s.st32 a (BitVec.ofInt 32 (e.2.1 * 65536))).st32 (a + 4) (BitVec.ofInt 32 (e.2.2.1 * 65536))).st32 (a + 8)
          (BitVec.ofInt 32 (e.2.2.2 * 65536))).st32 (a + 12) 1) Witness.on
     Layout.build s.begin 0 0 = .inr [(0, 1, 2), (0, 2, 511), (0, 511, 1), (1, 511, 2)]) := by decide +kernel

/-- An object is late at f_late and held one frame past f_late + F50. -/
theorem witness_SceneLate :
    (let s : Nat → State := fun f => { (Witness.on.st32 (ObjCfg.addr 0 1023 + 4) 0x00050000) with
        scene := { Witness.on.scene with objs := [(1023, { last := some ({}, f) })] } }
     Scene.lateFrame (s 479760) 1023 = some 480000 ∧ (Scene.obj (s 479760) 1023).late = false ∧
     Scene.lateFrame (s 477359) 1023 = some 477599 ∧ 477599 + 50 * rateHz 2 / 1000 + 1 = 480000 ∧ Witness.on.clk.rate = 2) := by decide +kernel

theorem witness_PowerDecisions :
    Witness.on.clk.frame ≠ Witness.on.clk.firstTick ∧
    (let s : Int → Nat → List Nat → State := fun tj h l =>
       ((({ Witness.on with budget := { Witness.on.budget with powers := l, tj := tj, holdoff := h } } : State).we Reg.budgetPowerLimit 100).we
         Reg.budgetTjLimit (w32 (800 + 65536 * 16))).we Reg.budgetTierMax 3
     (s 0 0 []).efF Reg.budgetTierMax 1 0 = 3 ∧ (s 0 0 []).efF Reg.budgetSlackTargetNs 10 0 ≤ 2047 ∧
     -- over power by one, over temperature by one, above the cap, a rise at its bounds, a hold-off, at the cap
     Budget.tierFor (s 800 0 [101]) 3 3 (some 2047) = (2, 1) ∧ Budget.tierFor (s 801 0 [100]) 3 3 (some 2047) = (2, 2) ∧
     (Budget.tierFor (s 800 0 [100]) 3 2 (some 2047)).1 = 2 ∧ Budget.tierFor (s 784 0 [95]) 2 3 (some 2047) = (3, 0) ∧
     Budget.tierFor (s 784 1 [95]) 2 3 (some 2047) = (2, 0) ∧ Budget.tierFor (s 784 0 [95]) 3 3 (some 2047) = (3, 0)) := by decide +kernel

/-- `s` with the claim's enables open. -/
def Witness.claimed (s : State) : State := { s with hoop := { s.hoop with enables := true } }

theorem witness_StageProtection :
    (Witness.claimed Witness.on).enablesOpen = true ∧ Witness.on.enablesOpen = false ∧
    -- OVER_CURRENT: a Running channel in switching cycle 0, at its first, third and fourth cycle in a run; a Recheck channel
    (let s : Nat → Nat → State := fun run at_ => Witness.claimed (Witness.stage Witness.on 63 { state := 2, ocRun := run, ocCycle := at_, mod := { since := Witness.on.clk.mono } })
     let k : State → Nat := fun s => (Pstg.ch s 63).cycle (Tab.get (fun _ => ({} : Carrier)) s.pstg.carr 7) 7 s.clk.rate
       (((s.clk.mono - (Pstg.ch s 63).mod.since) * Pstg.edgeRate s.clk.rate) / (1000000000 * nsU))
     (Pstg.ch (s 0 0) 63).switching = true ∧ k (s 0 0) = 0 ∧ (Pstg.ch (s 0 0) 63).ocRun = 0 ∧ (Pstg.ch (s 3 0) 63).ocRun = 3 ∧
     (Pstg.ch (s 4 0) 63).ocRun = 4 ∧ (Pstg.ch (s 3 5) 63).ocCycle ≠ k (s 3 5)) ∧
    (Pstg.ch (Witness.stage Witness.on 63 { state := 3 }) 63).switching = true ∧ (Pstg.ch Witness.on 63).switching = false ∧
    -- RECHECK_END: it may start in a mode of its own, and not in mode 1 without a rail
    (let s := (Witness.claimed (Witness.stage Witness.on 63 { state := 3, tries := 1, cause := 3 }))
     Pstg.wants s 63 = true ∧ Pstg.cfgMode s 63 = 2 ∧ Pstg.modeOk s 63 = true ∧ (Pstg.ch s 63).cause = 3 ∧ (Pstg.ch s 63).tries = 1) ∧
    (let s := (Witness.claimed (Witness.stage Witness.on 63 { state := 3 })).we (Reg.pstgChCfg 7 7) 1
     Pstg.cfgMode s 63 = 1 ∧ s.efF (Reg.pstgGrpRail 7) 15 0 = 0) ∧
    -- CLOCK_RECOVERY, CHANNEL_RAMP_DOWN_DONE
    (let s := fun (k : Nat) => ({ Witness.on with pstg := { Witness.on.pstg with muted := true, muteKind := k } } : State)
     (s 1).pstg.muteKind &&& 6 = 0 ∧ (s 3).pstg.muteKind &&& 6 = 2 ∧ (s 2).pstg.muteKind &&& 6 = (s 2).pstg.muteKind) ∧
    (Pstg.ch (Witness.stage Witness.on 63 { state := 2, stopTo := 1 }) 63).stopTo = 1 := by decide +kernel

theorem witness_SupervisionTests :
    -- AC_TEST_FIRST_START: the gain has reached 1.0
    (let s := (Witness.load (Witness.stage Witness.on 63 {}) {}).we Reg.lsupAcCtrl 3
     let t : State := { s with pstg := { s.pstg with ch := [(63, { Pstg.ch s 63 with ramp := Ramp.const one30 })] } }
     (Pstg.ch t 63).ramp.at t.clk.frame = one30 ∧ (Pstg.ch t 63).silentSince = some 0 ∧ 0 ≤ t.clk.mono ∧ Lsup.acOk t 63 = true ∧
     (Lsup.ch t 63).ac = 0 ∧ (Pstg.ch t 63).started = true) ∧
    -- LSUP_WINDOW_END: an overload, and a reading that does not complete a run
    (Lsup.ch (Witness.load Witness.on { run := [3] }) 63).run.length < 2 ∧
    (Lsup.ch (Witness.load Witness.on { confirmed := 3, run := [1, 4] }) 63).run.take 2 = [1, 4] ∧
    -- VERDICT_CHANGE before its instant
    (Lsup.ch (Witness.load Witness.on { change := some (3, Witness.on.clk.tickMono + 1) }) 63).change = some (3, Witness.on.clk.tickMono + 1) ∧
    -- a command on a channel that the part lacks
    (let s : State := { Witness.on with variant := .zn5220 }
     s.variant.psChannels ≤ 63 ∧ s.pageUp Lsup.page = true) := by decide +kernel

theorem witness_PortEdges :
    -- PORT_START of a leader without a rate
    (let s := Witness.portPage Witness.up 0x20 8 {}
     Port.isOn s 0x20 true = true ∧ bit (s.ef (Port.reg 0x20 0x40)) 3 = true ∧ Port.rateField s 0x20 true = 0 ∧ s.clk.rate = 0) ∧
    -- LEADIN_END of a receiver before its count, and at the end of a change of rate
    (let s := Witness.portPage (Witness.on.we (Port.reg 0x30 0x50) 2) 0x30 1 { rx := { state := 1, frames := 1, rateLead := true } }
     Port.ownClock (Port.pg s 0x30) 0x30 false = false ∧ ((Port.pg s 0x30).dir false).frames < s.efF (Port.reg 0x30 0x50) 15 0 ∧
     ((Port.pg s 0x30).dir false).rateLead = true) ∧
    -- PORT_FADE_END before the fade has ended
    (let s := Witness.portPage Witness.on 0x30 0 { tx := { state := 2, stopping := true, fade := [(0, { h := 480001 })] } }
     ∃ e ∈ ((Port.pg s 0x30).dir true).fade, s.clk.frame < e.2.h) ∧
    -- LEADOUT_END in a change of rate; MASK_CHANGE_APPLY before its frame sync
    ((Port.pg (Witness.portPage Witness.on 0x20 8 { tx := { state := 3, rateLead := true } }) 0x20).dir true).rateLead = true ∧
    (let s := Witness.portPage Witness.on 0x20 8 { rx := { toSet := [(15, Witness.on.clk.stake + 1)] } }
     ∀ x ∈ ((Port.pg s 0x20).dir false).toSet, x.1 = 15 → s.clk.stake < x.2) ∧
    -- RECEIVER_LOCK of a waiting and of a running direction
    (Port.pg (Witness.portPage Witness.on 0x2F 0 { rx := { waitLock := true } }) 0x2F).rx.waitLock = true ∧
    (Port.pg (Witness.portPage Witness.on 0x2F 0 { rx := { state := 2 } }) 0x2F).rx.state = 2 := by decide +kernel

theorem witness_PortRates :
    -- MADI at a double rate
    (let s := Witness.portPage Witness.on 0x3B 1 { rx := { state := 2 }, locked := true }
     let t : State := { s with clk := { s.clk with rate := 4 } }
     3 ≤ Port.rateCode t 0x3B false ∧ Port.isOn t 0x3B false = true) ∧
    -- PORT_OUTPUT_FRAME of a leader
    (let s := Witness.portPage Witness.on 0x20 8 { fmt := 8, tx := { state := 2 } }
     Port.ownClock (Port.pg s 0x20) 0x20 true = true ∧ Port.converted s 0x20 true = false) ∧
    -- RATE_MEASURE of the word clock, of a leader, of a port whose stamps are old
    Witness.on.pageUp Stake.page = true ∧
    (let s := Witness.portPage Witness.on 0x20 8 { fmt := 8 }
     Port.leader (Port.pg s 0x20) = true ∧ Port.isOn s 0x20 false = true) ∧
    (let s := Witness.portPage Witness.on 0x30 1 {}
     Port.kind 0x30 ≠ 0 ∧ Port.isOn s 0x30 false = true ∧ (1 : Nat) + msU < s.clk.stake) ∧
    -- host audio in host memory
    (let s := Witness.enable (Witness.on.we Reg.hostAudInCfg (w32 (768 + 4095 * 4096))) 1
     HostAud.active s false = true ∧ HostAud.inHost s false = true) := by decide +kernel

theorem witness_StakeSteps :
    -- SERVO_MEASUREMENT under WCLK_IN at 48 kHz, and without a class; during a step; without ticks
    (let s := (Witness.src Witness.on 3).wr Reg.stakeWclkInMhz 48000000
     rateHz (rateClassOf (s.rd Reg.stakeWclkInMhz).toNat) = 48000 ∧ Stake.src s = 3) ∧
    rateHz (rateClassOf ((Witness.src Witness.on 3).rd Reg.stakeWclkInMhz).toNat) = 0 ∧
    (let s : State := { Witness.src Witness.on 1 with stake := { Witness.on.stake with fresh := some (usU : Int), stepStage := 3 } }
     Stake.src s = 1 ∧ s.stake.fresh = some (usU : Int) ∧ s.stake.stepStage ≠ 0 ∧ s.stake.stepStage < 4) ∧
    (let s : State := { Witness.src Witness.up 1 with stake := { Witness.up.stake with fresh := some (usU : Int) } }
     s.clk.ticking = false ∧ s.stake.stepStage = 0 ∧ s.clk.rateChange = none) ∧
    -- PPS_EDGE during a step; REF10M_MEASURE at its bound; GM_HOLDOVER_LIMIT once
    (let s : State := { Witness.src Witness.on 2 with stake := { Witness.on.stake with todWritten := true, stepStage := 1 } }
     Stake.src s = 2 ∧ s.stake.todWritten = true ∧ s.stake.stepStage ≠ 0 ∧ s.efB Reg.stakeSrc 4 = false) ∧
    (50000 : Int).natAbs ≤ 50000 ∧ 50000 < (-50001 : Int).natAbs ∧
    (let s : State := { Witness.src Witness.on 18 with stake := { Witness.on.stake with servo := 3, gmExpired := true } }
     s.stake.gmExpired = true) ∧
    -- PPS_EDGE far from a second
    (let s : State := { Witness.src Witness.on 2 with clk := { Witness.on.clk with stake := 10 * secU + 101 * usU } }
     100 * usU < ((s.clk.stake : Int) - ((s.clk.stake + secU / 2) / secU * secU : Nat)).natAbs ∧ s.stake.todWritten = false) ∧
    -- TRIGGER_EDGE of a single pulse
    (let s : State := { Witness.on with stake := { Witness.on.stake with trig := [(0, { running := true }), (1, { running := true, high := true })] } }
     (Stake.trig s 0).high = false ∧ (Stake.trig s 0).period = 0 ∧ (Stake.trig s 1).reload = false ∧ (Stake.trig s 7).running = false) := by
  decide +kernel

theorem witness_PtpPaths :
    -- PTP_MESSAGE_INTERVAL with a resolved and an unresolved destination
    (let x : PtpPort := { state := 9, foreign := some { gmId := 1, sender := 65535, addr := 0x0A000002 } }
     let s : State := { Witness.net Witness.on with stake := { Witness.on.stake with ptp := [(0, x)], selected := 1 } }
     let h := s.we Reg.stakePtpCfg2 (w32 11)
     Ptp.requests s 0 = true ∧ s.efB Reg.stakePtpCfg2 3 = false ∧ Net.resolved s 0 Ptp.group = true ∧
     Ptp.enabled h 0 = true ∧ h.efB Reg.stakePtpCfg2 3 = true ∧ Ptp.requests h 0 = true ∧ Net.resolved h 0 0x0A000002 = false) ∧
    -- PTP_ANNOUNCE of a better and of a worse master; ANNOUNCE_TIMEOUT of a port that listens
    Announce.better { gmId := 1, sender := 1 } { gmId := 2, sender := 2 } = true ∧ Announce.better { gmId := 2, sender := 2 } { gmId := 1, sender := 1 } = false ∧
    (let s : State := { Witness.net Witness.on with stake := { Witness.on.stake with ptp := [(0, { state := 4 }), (1, { state := 4, ready := true })] } }
     (Ptp.port s 0).state = 4 ∧ (Ptp.port s 0).ready = false ∧ (Ptp.port s 1).ready = true ∧ (Ptp.port s 1).foreign = none) ∧
    -- the decision: slave only, and master only
    ((Witness.net Witness.on).we Reg.stakePtpCfg2 (w32 19)).efB Reg.stakePtpCfg2 4 = true ∧
    ((Witness.net Witness.on).we Reg.stakePtpCfg2 (w32 35)).efB Reg.stakePtpCfg2 5 = true := by decide +kernel

theorem witness_EthernetPaths :
    -- a dead port, a port where Felot is accepted, and a datagram that fails its tests
    Net.live Witness.on 1 = false ∧
    (let s := ((Witness.net Witness.on).wr Reg.sceneFelotNets 2).wr Reg.sceneFelotPort 5000
     let g := s.we (Reg.netIp 1) 0x0A000003
     Net.live g 1 = true ∧ Felot.takes g 1 0x0A000003 5000 7 = true ∧ Felot.takes g 1 0x0A000003 5001 7 = false ∧
     Felot.accepts g 1 0x0A000003 5000 7 = true ∧ g.pageUp Scene.page = true) ∧
    -- the host ring in memory of the device, and one that is full
    (let s := (((Witness.net Witness.on).we (Reg.netHrxCfg 0) 2).we (Reg.netHrxBaseHi 0) 0x10).st32 (dramBase + 4) 0x10
     bit (s.ef (Reg.netHrxCfg 0)) 16 = false ∧ Net.hrxBase s 0 = dramBase ∧ s.isMem dramBase 32 = true ∧ s.isMem (s.ldLe dramBase 8) 1518 = true) ∧
    (let s := ((Witness.net Witness.on).we (Reg.netHrxCfg 0) 2).wr (Reg.netHrxTail 0) 1
     (s.rdF (Reg.netHrxHead 0) 11 0 + 1) % 2 = s.rdF (Reg.netHrxTail 0) 11 0) ∧
    -- sixteen transmit timestamps wait
    (let t := Witness.net Witness.on
     let s : State := { t with net := { t.net with ports := [(0, { link := true, txts := List.replicate 16 (1, 2) })] } }
     16 ≤ (Net.port s 0).txts.length) ∧
    -- an ARP reply
    (let f : List Byte := List.replicate 12 0 ++ [8, 6, 0, 1, 8, 0, 6, 4, 0, 2] ++ List.replicate 6 7 ++ [10, 0, 0, 2] ++ List.replicate 6 0 ++ [10, 0, 0, 1]
     be16 f 20 = 2 ∧ ofBe (slice f 38 4) = Net.ip (Witness.net Witness.on) 0) := by decide +kernel

theorem witness_PortReports :
    (let t := Witness.net Witness.on
     (Net.port (Net.rejoin t.begin 0) 0).reports = [(0xE0000181, t.clk.mono), (0xE0000181, t.clk.mono + secU)] ∧
     (Net.groups t 0).find? (fun e => e.1 == 0xE0000181) = some (0xE0000181, []) ∧ Net.live t 0 = true ∧
     Net.live Witness.on 0 = false ∧ Eth.untag t 0 [] = some ([], none)) ∧
    (let s := (Witness.net Witness.on).we (Reg.netCfg 0) (w32 (9 + 16 * 4095))
     Eth.untag s 0 (List.replicate 12 (0 : Byte) ++ [0x81, 0, 0, 1]) = none) := by decide +kernel

theorem witness_DramCorners :
    -- a channel in self-refresh, a hot die, the last block of the scrub, a waiting request
    (let s : State := { (Witness.on.we Reg.memcScrub 1).we Reg.memcSrIdleUs 1 with memc := { Witness.on.memc with
        sr := 128, hot := 2, cool := [(1, 1)], scrubAt := Variant.zn5480.dramBytes / 64 - 1
        queue := [{ port := 9, addr := dramBase }], postponed := [(127, 8), (0, 7)] } }
     s.memc.sr.testBit 7 = true ∧ s.memc.srWhy = 0 ∧ s.memc.hot.testBit 1 = true ∧ Tab.get (fun _ => 0) s.memc.cool 1 ≠ 0 ∧
     ¬ (s.memc.scrubAt + 1) * 64 < s.variant.dramBytes ∧ (∃ q ∈ s.memc.queue, Memc.channel q.addr = Memc.channel dramBase) ∧
     ¬ Tab.get (fun _ => 0) s.memc.postponed 127 < 8 ∧ Tab.get (fun _ => 0) s.memc.postponed 0 < 8) ∧
    -- set points
    (let s : Option (Nat × Bool) → State := fun h => { Witness.on with memc := { Witness.on.memc with held := h } }
     (s none).memc.held = none ∧ (s (some ((s none).memc.fsp, false))).memc.held = some (Witness.on.memc.fsp, false)) ∧
    ({ Witness.on with memc := { Witness.on.memc with switching := some (3, 5, false) } } : State).memc.switching = some (3, 5, false) ∧
    Memc.owns .zn5480 0 dramBase = Memc.owns Witness.on.variant 0 dramBase := by decide +kernel

theorem witness_WeaveOrder :
    -- held writes before an access
    (let s : State := { Witness.on with coil := { Witness.on.coil with heldSubmits := [(3, 5)] } }
     (∀ e ∈ s.coil.heldSubmits, e.1 ≠ 0) ∧ (2 ^ 40 : Nat) / 0x1000 ≠ Coil.page ∧ s.warp.held = none) ∧
    -- a standby in resynchronisation leaves a region alone
    Witness.on.isStandby = false ∧ Witness.member.isStandby = true ∧
    -- a lock of four microseconds, and of sixteen transfers
    (let s : State := { Witness.on with weave := { Witness.on.weave with arbs := [(2, { lock := some (0, Witness.on.clk.stake - 4 * usU, 15) })] } }
     (Weave.arb s 2).lock = some (0, s.clk.stake - 4 * usU, 15) ∧ s.clk.stake - 4 * usU + 4 * usU ≤ s.clk.stake) ∧
    -- a lock at a target that takes none
    Weave.target .zn5480 0 0x100000 ≠ none ∧ Weave.target .zn5480 0 dramBase = some 15 ∧ (Weave.arb Witness.on 15).lock = none ∧
    -- locks of no one
    (∀ y, y < 19 → (Weave.arb Witness.on y).lock = none) ∧
    -- an initiator's reset after the first beat, from an odd start
    ({ len := 17, addr := 2 ^ 40 + 15 } : Burst).beats = 2 ∧ ({ len := 17, addr := 2 ^ 40 + 15 } : Burst).ok = true := by decide +kernel

/-! ### Single steps on the states above -/

/-- R15: one counter tick is 4 ns at the nominal increment. -/
theorem test_idle_tick :
    (match step Witness.up with | .next t => decide (t.clk.mono = Witness.up.clk.mono + 4 * nsU) | _ => false) = true := by decide +kernel

/-- The queue gives up its front only. -/
theorem test_step_takes_front :
    (match step { Witness.up with pending := [.irqForce 0x48 2, .spiClear] } with
     | .next t => decide (t.pending = [.spiClear] ∧ t.rd (Reg.irqStatus 0x48) = 2) | _ => false) = true := by decide +kernel

/-- R60: software interrupt bits that the unit does not define are not set. -/
theorem test_irqForce_masks :
    (match exec (.irqForce 0x48 0xFFFFFFFF) Witness.up with
     | .next t => decide (t.rd (Reg.irqStatus 0x48) = w32 (irqMask 0x48)) | _ => false) = true := by decide +kernel

/-- A held device ignores a register write and takes the release of its reset. -/
theorem test_reset_release :
    (match exec (.resetRelease {}) State.reset with
     | .next t => decide (t.boot.inReset = false ∧ t.boot.phase = 4 ∧ t.rd Reg.bootAttempts = 1) | _ => false) = true ∧
    (match exec (.registerWrite 0 Reg.hostGpioOut 5) State.reset with
     | .next t => decide (t.rd Reg.hostGpioOut = 0) | _ => false) = true := by decide +kernel

/-- R563: a recorded fault enters the ring and FAULT_CAUSE. -/
theorem test_fault_record :
    (match exec (.faultRecord 0xE8 0x83 7) Witness.on with
     | .next t => decide (t.fault.head = 1 ∧ (t.fault.entry 0).code = 0x83 ∧ fld (t.rd (Reg.faultCause 0xE8)) 7 0 = 0x83) | _ => false) = true := by
  decide +kernel

/-- A frame tick moves the frame index on by one. -/
theorem test_frame_tick :
    (match exec (.frameTick {}) Witness.on with
     | .next t => decide (t.clk.frame = 480001 ∧ t.clk.nextTick = 480002) | _ => false) = true := by decide +kernel

/-- The check value of the CRC-8 with polynomial 0x07 over the digits 1 to 9 (R64's polynomial). -/
theorem test_crc8_check : crc8 [0x31, 0x32, 0x33, 0x34, 0x35, 0x36, 0x37, 0x38, 0x39] = 0xF4 := by decide +kernel

/-- SHA-256 of "abc", the example of FIPS 180-4. -/
theorem test_sha256_abc :
    sha256 [0x61, 0x62, 0x63] = 0xBA7816BF8F01CFEA414140DE5DAE2223B00361A396177A9CB410FF61F20015AD := by decide +kernel

/-- The worked example under R111 (03_scene_and_panning.md): object 17 on speakers 40, 41 and 77, gains to four decimals, for
constant power and for constant sum. -/
theorem test_pan_worked :
    let g := fun p => (Pan.combine p [Pan.source (fun _ => ((0, 465306, 0), (-232653, 402967, 0), (-104296, 389237, 232653)))
      [(40, 41, 77)] (V3.dir f32 (-327680, 1572864, 278528))]).map (fun e => (e.1, (e.2.toQ30.1 * 10000 + 2 ^ 29) / 2 ^ 30))
    g false = [(40, 7389), (41, 3967), (77, 5447)] ∧ g true = [(40, 4397), (41, 2361), (77, 3242)] := by decide +kernel

/-- The worked example under R125: distance gain 0.285358 and a corner of 8,038 Hz at 24.8810 m. -/
theorem test_front_end_worked :
    Obj.distGain 1 256 465306 (-327680, 1572864, 278528) * 1000000 / 2 ^ 30 = 285358 ∧
    (Obj.airCorner 200000 (-327680, 1572864, 278528) 4).toFix 0 = 8038 := by decide +kernel

end Tests
end

section
/-!
PROOFS. The statements on the scope of the manual: which commands can stop (R9, R543), absent pages (R4), and the commands that
carry register reads, SPI transactions, DMA descriptors and array-window writes (R12, R44, R45, R62 to R69).
-/
namespace Sys2Proof.Machine

/-! ### Commands that stop (R9, R543) -/

theorem State.act_next (s : State) (f : State → State) : ∃ t, s.act f = .next t := ⟨_, rfl⟩

theorem State.force_next (s : State) (f : State → State) : ∃ t, s.force f = .next t := ⟨_, rfl⟩

theorem Frame.outside_iff (s : State) (env : TickEnv) : Frame.outside s env = true ↔ s.hoop.role ≠ 0 ∧ env.claimIn = 2 := by
  simp [Frame.outside]

/-- A frame tick stops on a running member of a pair whose claim input floats, and nowhere else. -/
theorem exec_frameTick_cases (env : TickEnv) (s : State) :
    (∃ t, exec (.frameTick env) s = .next t) ∨
    (s.running = true ∧ s.hoop.role ≠ 0 ∧ env.claimIn = 2 ∧ exec (.frameTick env) s = .fault .outsideLimits) := by
  rw [exec_frameTick]
  unfold execFrameTick
  by_cases h : (s.running && Frame.outside s env) = true
  · obtain ⟨hrun, hout⟩ := Bool.and_eq_true_iff.mp h
    obtain ⟨hrole, hclaim⟩ := (Frame.outside_iff s env).mp hout
    exact .inr ⟨hrun, hrole, hclaim, if_pos h⟩
  · rw [if_neg h]
    exact .inl (State.act_next s _)

/-- Settles O4: every command but FRAME_TICK is an effect between the common begin and end of a command, which always answers a next
state. -/
theorem onlyFloatingClaimStops : Obligations.OnlyFloatingClaimStops := by
  intro c s
  obtain ⟨env, rfl⟩ | ⟨-, f, hact⟩ | ⟨-, f, hforce⟩ := exec_shape c s
  · obtain hnext | ⟨hrun, hrole, hclaim, hfault⟩ := exec_frameTick_cases env s
    · exact .inl hnext
    · exact .inr ⟨env, rfl, hrun, hrole, hclaim, hfault⟩
  · exact .inl (hact ▸ State.act_next s f)
  · exact .inl (hforce ▸ State.force_next s f)

/-! ### What a write behind held writes leaves (R147, R203) -/

/-- From `s` to `t` the part and the state of the control units are as they were. -/
def State.ctlKept (s t : State) : Prop := t.variant = s.variant ∧ t.ctl = s.ctl

theorem State.ctlKept.refl (s : State) : State.ctlKept s s := ⟨rfl, rfl⟩

theorem State.ctlKept.trans {s t u : State} (hst : State.ctlKept s t) (htu : State.ctlKept t u) : State.ctlKept s u :=
  ⟨htu.1.trans hst.1, htu.2.trans hst.2⟩

theorem State.coilOnly.ctlKept {s t : State} (h : State.coilOnly s t) : State.ctlKept s t := by
  unfold State.coilOnly at h
  rw [h]
  exact ⟨rfl, rfl⟩

theorem State.ctlKept_foldl {α : Type} (f : State → α → State) (h : ∀ s a, State.ctlKept s (f s a)) (l : List α) (s : State) :
    State.ctlKept s (l.foldl f s) :=
  ⟨foldl_keeps State.variant f (fun s a => (h s a).1) l s, foldl_keeps State.ctl f (fun s a => (h s a).2) l s⟩

theorem Coil.creditRise_only (s : State) : State.coilOnly s (Coil.creditRise s) := by
  unfold Coil.creditRise
  split
  · exact State.coilOnly_irq _ _ _
  · split <;> rfl

theorem Coil.submitNow_only (s : State) (i : Nat) : State.coilOnly s (Coil.submitNow s i) := by
  unfold Coil.submitNow
  simp only []
  split
  · split
    · refine State.coilOnly_trans ?_ (Coil.arm_only _ i 3 _)
      exact State.coilOnly_trans (State.coilOnly_coil s _) (Coil.event_only _)
    · exact State.coilOnly_coil s _
  · exact State.coilOnly_faultD s _ _ _

theorem Coil.submitRelease_ctlKept (s : State) : State.ctlKept s (Coil.submitRelease s) := by
  have hfree : State.ctlKept s
      (if Coil.credit s = 0 then Coil.creditRise (s.toMono (((s.coil.submits.map (·.1)).min?).getD 0)) else s) := by
    split
    · exact .trans ⟨rfl, rfl⟩ (Coil.creditRise_only _).ctlKept
    · exact .refl s
  refine hfree.trans ?_
  unfold Coil.submitRelease
  simp only []
  generalize (if Coil.credit s = 0 then _ else s) = s1
  cases s1.coil.heldSubmits with
  | nil => exact .refl s1
  | cons e rest =>
    simp only []
    split
    · exact .refl s1
    · exact (State.coilOnly_trans (State.coilOnly_coil s1 _)
        (State.coilOnly_trans (Coil.submitNow_only _ e.2) (Coil.creditRise_only _))).ctlKept

theorem Coil.flush_ctlKept (s : State) (ini : Nat) : State.ctlKept s (Coil.flush s ini) := by
  refine State.ctlKept_foldl _ (fun s _ => ?_) _ s
  split
  · exact Coil.submitRelease_ctlKept s
  · exact .refl s

theorem Warp.load_ctlKept (s : State) (i : Nat) (targets : List (Nat × Int)) (l h : Nat) :
    State.ctlKept s (Warp.load s i targets l h) := by
  unfold Warp.load
  refine State.ctlKept.trans (State.ctlKept_foldl _ (fun s j => ?_) _ s) ⟨rfl, rfl⟩
  exact ⟨rfl, rfl⟩

theorem Warp.applyPost_ctlKept (s : State) (row col : Nat) (gain : Int) (l : Nat) :
    State.ctlKept s (Warp.applyPost s row col gain l) := by
  unfold Warp.applyPost
  split
  · exact (State.coilOnly_trans (State.coilOnly_count s _ 1)
      (State.coilOnly_trans (State.coilOnly_irq _ _ _) (State.coilOnly_faultD _ _ _ _))).ctlKept
  · split
    · exact Warp.load_ctlKept s _ _ _ _
    · exact ⟨rfl, rfl⟩

theorem Warp.accept_ctlKept (s : State) : State.ctlKept s (Warp.accept s) := by
  unfold Warp.accept
  cases s.warp.held with
  | none => exact .refl s
  | some p =>
    simp only [Warp.enqueue]
    split
    · exact ⟨rfl, rfl⟩
    · exact .trans ⟨rfl, rfl⟩ (Warp.applyPost_ctlKept _ _ _ _ _)

/-- The held writes that an access waits behind act on neither the part nor the control units. -/
theorem Weave.behind_ctlKept (s : State) (ini a : Nat) : State.ctlKept s (Weave.behind s ini a) := by
  have hcoil : State.ctlKept s (if a = Reg.coilSubmit then s
      else if a / 0x1000 = Coil.page then s.coil.heldSubmits.foldl (fun (s : State) e => Coil.flush s e.1) s
      else Coil.flush s ini) := by
    split
    · exact .refl s
    · split
      · exact State.ctlKept_foldl _ (fun s (e : Nat × Nat) => Coil.flush_ctlKept s e.1) _ s
      · exact Coil.flush_ctlKept s ini
  unfold Weave.behind
  simp only []
  split
  · exact hcoil.trans (Warp.accept_ctlKept _)
  · exact hcoil

/-! ### Absent pages (R4) -/

/-- A page that the variant lacks does not answer. -/
theorem State.pageUp_absent {s : State} {p : Nat} (h : pagePresent s.variant p = false) : s.pageUp p = false := by
  simp [State.pageUp, h]

theorem Page.read_down (s : State) (ini p o : Nat) (down : s.pageUp p = false) : Page.read s ini p o = 0 := by
  unfold Page.read
  rw [if_pos (.inl (by simp [down]))]

theorem Page.access_down (s : State) (ini : Nat) {p o : Nat} (ho : o < 0x1000) (down : s.pageUp p = false) :
    Page.access s ini (p * 0x1000 + o) = (s, 0) := by
  obtain ⟨hp, -⟩ := Page.addr_page (p := p) ho
  simp only [Page.access, hp, down, Bool.not_false, if_true]

theorem Read.answered_zero (s : State) : Read.answered (s, 0) = s.answer 0 [0, 0, 0, 0] := by
  simp [Read.answered, leBytes]

theorem State.discard_regs (s : State) : s.discard = { s with regs := s.discard.regs } := rfl

theorem State.discard_count (s : State) : s.discard.rd Reg.weaveDiscards = satAdd (s.rd Reg.weaveDiscards) 1 :=
  (State.irq_ne _ _ _ (by decide)).trans (State.count_same s _)

theorem State.discard_ne (s : State) {a : Nat} (hcount : a ≠ Reg.weaveDiscards) (hirq : a ≠ Reg.irqStatus 0xF8) :
    s.discard.rd a = s.rd a :=
  (State.irq_ne _ _ _ hirq).trans (State.count_ne s 1 hcount)

/-- PAGE_ID holds the revision 1 in its low byte, whatever unit the page is (R46). -/
theorem Page.read_pageId_ne_zero {s : State} {p : Nat} (ini : Nat) (up : s.pageUp p = true) : Page.read s ini p 0 ≠ 0 := by
  have hval : Page.read s ini p 0 = w32 (at_ 16 ((unitOf p).getD 0) + at_ 8 (p - (unitOf p).getD 0) + 1) := by
    simp [Page.read, Page.header, up]
  intro hzero
  have hmod : (at_ 16 ((unitOf p).getD 0) + at_ 8 (p - (unitOf p).getD 0) + 1) % 2 ^ 32 = 0 := by
    simpa [w32] using congrArg BitVec.toNat (hval.symm.trans hzero)
  simp only [at_, Nat.shiftLeft_eq] at hmod
  omega

/-- Settles O49: no held write of the initiator changes the part, so the page is still absent when the access acts. -/
theorem absentPagesReadZero : Obligations.AbsentPagesReadZero := by
  intro s ini p o ho
  refine ⟨fun absent => ?_, Page.read_pageId_ne_zero ini⟩
  have down := State.pageUp_absent absent
  refine ⟨Page.read_down s ini p o down, Page.access_down s ini ho down, fun hrun u hu => ?_⟩
  obtain ⟨hpart, hctl⟩ : State.ctlKept s.begin u := hu ▸ Weave.behind_ctlKept s.begin ini (p * 0x1000 + o)
  have downU : u.pageUp p = false := State.pageUp_absent (by rw [hpart]; exact absent)
  refine ⟨completes_act (exec_loReadLatch _ _ s) hrun ?_, fun v => completes_act (exec_registerWrite _ _ _ s) hrun ?_⟩
  · rw [← hu, Page.access_down u ini ho downU, Read.answered_zero]
  · rw [← hu, Page.write_absent u ini none p o v ho downU]
    refine ⟨State.discard_count u, fun a => State.discard_ne u, State.discard_regs u, ?_⟩
    show u.ctl.busResp = 0
    rw [hctl]
    rfl

end Sys2Proof.Machine
end

section
/-!
PROOFS. Register reads with their latches (R12), SPI transactions (R62 to R66), DMA descriptors (R67 to R69) and writes to the array
windows (R44, R45).
-/
namespace Sys2Proof.Machine

/-! ### Register reads and their latches (R12) -/

/-- With no write held, an access waits behind nothing. -/
theorem Weave.behind_none (s : State) (ini a : Nat) (hcoil : s.coil.heldSubmits = []) (hwarp : s.warp.held = none) :
    Weave.behind s ini a = s := by
  have hflush : Coil.flush s ini = s := by simp [Coil.flush, hcoil]
  have haccept : Warp.accept s = s := by simp [Warp.accept, hwarp]
  simp [Weave.behind, hcoil, hflush, haccept]

/-- Several writes to a table, each of the value that its key gives: a read of one of the keys gives that value. -/
theorem Tab.get_foldl_set {α : Type} [DecidableEq α] (d f : Nat → α) (l : List Nat) (t : Tab α) (k : Nat) :
    Tab.get d (l.foldl (fun t b => Tab.set d t b (f b)) t) k = if k ∈ l then f k else Tab.get d t k := by
  induction l generalizing t with
  | nil => simp
  | cons b l ih =>
    rw [List.foldl_cons, ih, Tab.get_set]
    by_cases hl : k ∈ l
    · simp [hl]
    · by_cases hb : k = b
      · simp [hb]
      · simp [hl, hb]

/-- The register at offset `o` of page `p` is the seconds or the count of a capture FIFO (R400). -/
def Stake.tcapWord (p o : Nat) : Prop := p = Stake.page ∧ 0x240 ≤ o ∧ o < 0x280 ∧ (o % 16 = 4 ∨ o % 16 = 12)

/-- A read latches the values that its companions have at the read, and answers the latched half where one stands. -/
theorem Page.access_latches (s : State) (ini p o : Nat) (ho : o < 0x1000) (up : s.pageUp p = true) (htcap : ¬ Stake.tcapWord p o)
    (hrec : ¬ (p = 0xF8 ∧ (o = 0x64 ∨ o = 0x6C))) :
    Page.access s ini (p * 0x1000 + o) =
      ({ s with ctl := { s.ctl with latch := (latchSet (p * 0x1000 + o)).foldl (fun t b =>
          Tab.set (fun _ => (none : Option Word)) t b (some (Page.read s ini p (b % 0x1000)))) s.ctl.latch } },
        (s.latched (p * 0x1000 + o)).getD (Page.read s ini p o)) := by
  obtain ⟨hp, hq⟩ := Page.addr_page (p := p) ho
  have h4 : ((p == Stake.page && decide (0x240 ≤ o ∧ o < 0x280)) && o % 0x10 == 4) = false := by
    simpa [Stake.tcapWord] using fun h1 h2 h3 h => htcap ⟨h1, h2, h3, .inl h⟩
  have h12 : ((p == Stake.page && decide (0x240 ≤ o ∧ o < 0x280)) && o % 0x10 == 12) = false := by
    simpa [Stake.tcapWord] using fun h1 h2 h3 h => htcap ⟨h1, h2, h3, .inr h⟩
  have hkeep : (p == 0xF8 && (o == 0x64 || o == 0x6C)) = false := by simpa using hrec
  simp only [Page.access, hp, hq, up, h4, h12, hkeep, Bool.not_true, Bool.false_and, Bool.false_eq_true, if_false]

/-- A half of the Weave's record that is latched stands. -/
theorem Page.access_latchedRecord (s : State) (ini o : Nat) (up : s.pageUp 0xF8 = true) (ho : o = 0x64 ∨ o = 0x6C) {w : Word}
    (hw : s.latched (0xF8 * 0x1000 + o) = some w) : Page.access s ini (0xF8 * 0x1000 + o) = (s, w) := by
  obtain ⟨hp, hq⟩ := Page.addr_page (p := 0xF8) (o := o) (by omega)
  have hpage : (0xF8 == Stake.page) = false := by decide
  have hkeep : (o == 0x64 || o == 0x6C) = true := by simpa using ho
  simp only [Page.access, hp, hq, up, hpage, hkeep, hw, Bool.not_true, Bool.false_and, Bool.false_eq_true, if_false, beq_self_eq_true,
    Bool.true_and, Option.isSome_some, if_true, Option.getD_some]

/-- A read of a capture's seconds latches the FIFO's entry, and a read of its count takes the entry off (R400). -/
theorem Page.access_tcap (s : State) (ini o : Nat) (up : s.pageUp Stake.page = true) (hlo : 0x240 ≤ o) (hhi : o < 0x280) :
    (o % 16 = 4 → Page.access s ini (Stake.page * 0x1000 + o) =
      (Stake.tcapLatch s ((o - 0x240) / 16), Page.read (Stake.tcapLatch s ((o - 0x240) / 16)) ini Stake.page o)) ∧
    (o % 16 = 12 → Page.access s ini (Stake.page * 0x1000 + o) =
      (Stake.tcapPop s ((o - 0x240) / 16), Page.read s ini Stake.page o)) := by
  obtain ⟨hp, hq⟩ := Page.addr_page (p := Stake.page) (o := o) (by omega)
  have hfifo : (Stake.page == Stake.page && decide (0x240 ≤ o ∧ o < 0x280)) = true := by simp [hlo, hhi]
  have h4of12 : (12 == 4) = false := by decide
  refine ⟨fun h4 => ?_, fun h12 => ?_⟩
  · simp only [Page.access, hp, hq, up, hfifo, h4, Bool.not_true, Bool.false_eq_true, if_false, Bool.true_and]
    exact if_pos rfl
  · simp only [Page.access, hp, hq, up, hfifo, h12, h4of12, Bool.not_true, Bool.false_eq_true, if_false, Bool.true_and]
    exact if_pos rfl

/-- LO_READ_LATCH with no write held answers what the access itself gives. -/
theorem completes_loReadLatch {s : State} {ini a : Nat} {P : State → Prop} (hrun : s.running = true)
    (hcoil : s.coil.heldSubmits = []) (hwarp : s.warp.held = none) (h : P (Read.answered (Page.access s.begin ini a))) :
    Completes (.loReadLatch ini a) s P :=
  completes_act (exec_loReadLatch ini a s) hrun (by rwa [Weave.behind_none s.begin ini a hcoil hwarp])

/-! ### The SPI control port (R62 to R66) -/

/-- A word of an SPI read joins the words before it; a refused one reads as zeros and sets the decode error. -/
def Spi.readWord (a : Nat) (acc : State × List Byte) (i : Nat) : State × List Byte :=
  let r := Weave.issue acc.1 { initiator := 1, addr := a + 4 * i, len := 4 }
  if r.ctl.busResp = 0 then (r, acc.2 ++ r.ctl.busData)
  else ({ r with ctl := { r.ctl with spi := { r.ctl.spi with decodeErr := true } } }, acc.2 ++ [0, 0, 0, 0])

/-- A word of an SPI write follows the words before it; a refused one sets the decode error. -/
def Spi.writeWord (a : Nat) (data : List Byte) (s : State) (i : Nat) : State :=
  let r := Weave.issue s { initiator := 1, write := true, addr := a + 4 * i, data := (slice data (4 * i) 4).map (fun b => (b, true)) }
  if r.ctl.busResp = 0 then r else { r with ctl := { r.ctl with spi := { r.ctl.spi with decodeErr := true } } }

/-- A transaction is aligned, of at most 1024 words, and at an address of 40 bits (R65). -/
theorem Spi.transaction_ok {a n : Nat} (h4 : a % 4 = 0) (hn : n ≤ 1024) (ha : a < 2 ^ 40) : ¬ (a % 4 ≠ 0 ∨ 1024 < n ∨ 2 ^ 40 ≤ a) := by
  omega

theorem Spi.read_eq (s : State) {a n : Nat} (h4 : a % 4 = 0) (hn : n ≤ 1024) (ha : a < 2 ^ 40) {u : State} {l : List Byte}
    (hfold : (u, l) = (List.range n).foldl (Spi.readWord a) (s, [])) :
    Spi.read s a n = { u with ctl := { u.ctl with spi := { u.ctl.spi with
      miso := (0xA5 : Byte) :: l ++ [BitVec.ofNat 8 (crc8 l)] } } } := by
  unfold Spi.read
  rw [if_neg (Spi.transaction_ok h4 hn ha)]
  obtain ⟨rfl, rfl⟩ : u = ((List.range n).foldl (Spi.readWord a) (s, [])).1 ∧ l = ((List.range n).foldl (Spi.readWord a) (s, [])).2 :=
    ⟨congrArg Prod.fst hfold, congrArg Prod.snd hfold⟩
  rfl

/-- The CRC that the host sends covers the command, the address, the count and the data (R64). -/
def Spi.crcOf (a n : Nat) (data : List Byte) : Nat := crc8 ((0x02 : Byte) :: leBytes 5 a ++ leBytes 2 n ++ data)

theorem Spi.write_good (s : State) {a n : Nat} {data : List Byte} {crc : Byte} (h4 : a % 4 = 0) (hn : n ≤ 1024) (ha : a < 2 ^ 40)
    (hlen : data.length = 4 * n) (hcrc : crc.toNat = Spi.crcOf a n data) {u : State}
    (hu : u = (List.range n).foldl (Spi.writeWord a data)
      { s with ctl := { s.ctl with spi := { s.ctl.spi with crcErr := false } } }) :
    Spi.write s a n data crc =
      { u with ctl := { u.ctl with spi := { u.ctl.spi with busy := decide (Spi.heldCount s < Spi.heldCount u) } } } := by
  have hgood : (decide (data.length = 4 * n) && crc.toNat == crc8 ((0x02 : Byte) :: leBytes 5 a ++ leBytes 2 n ++ data)) = true :=
    Bool.and_eq_true_iff.mpr ⟨decide_eq_true hlen, beq_iff_eq.mpr hcrc⟩
  unfold Spi.write
  rw [if_neg (Spi.transaction_ok h4 hn ha)]
  simp only [hgood, Bool.not_true, Bool.false_eq_true, if_false]
  rw [hu]
  rfl

theorem Spi.write_bad (s : State) {a n : Nat} {data : List Byte} {crc : Byte} (h4 : a % 4 = 0) (hn : n ≤ 1024) (ha : a < 2 ^ 40)
    (hbad : data.length ≠ 4 * n ∨ crc.toNat ≠ Spi.crcOf a n data) :
    Spi.write s a n data crc =
      ({ s with ctl := { s.ctl with spi := { s.ctl.spi with crcErr := true } } } : State).fault' 1 0x81 := by
  have hgood : (decide (data.length = 4 * n) && crc.toNat == crc8 ((0x02 : Byte) :: leBytes 5 a ++ leBytes 2 n ++ data)) = false := by
    rw [Bool.and_eq_false_iff]
    exact hbad.imp decide_eq_false (fun h => beq_eq_false_iff_ne.mpr h)
  unfold Spi.write
  rw [if_neg (Spi.transaction_ok h4 hn ha)]
  simp only [hgood, Bool.not_false, if_true]

/-! ### DMA channels (R67 to R69) -/

theorem Dma.ch_setCh (s : State) (k : Nat) (x : DmaCh) : Dma.ch (Dma.setCh s k x) k = x := Tab.get_set_same _ _ _ _

theorem Dma.ch_of_ctlKept {s t : State} (h : State.ctlKept s t) (k : Nat) : Dma.ch t k = Dma.ch s k := by
  unfold Dma.ch
  rw [h.2]

/-- DMA_CTRL of a channel lies on the HOST page. -/
theorem Reg.dmaCtrl_eq (k : Nat) : Reg.dmaCtrl k = 1 * 0x1000 + (0x40 + k * 0x20) := by
  unfold Reg.dmaCtrl
  omega

/-- A write to DMA_CTRL of a channel starts or stops it. -/
theorem Page.write_dmaCtrl (s : State) (ini k : Nat) (v : Word) (hk : k < 8) (up : s.pageUp 1 = true) :
    Page.write s ini none (Reg.dmaCtrl k) v = Dma.run s k v := by
  have hact : Page.action s ini none 1 (0x40 + k * 0x20) v = some (Dma.run s k v) := by
    have hreg : 0x40 ≤ 0x40 + k * 0x20 ∧ 0x40 + k * 0x20 < 0x140 ∧ (0x40 + k * 0x20) % 0x20 = 0 := by omega
    simp [Page.action, unitOf, hreg]
  rw [Reg.dmaCtrl_eq, Page.write_at s ini none 1 _ v (by omega) (by omega) up, if_neg (by omega), if_neg (by omega), if_neg (by omega),
    if_neg (by omega), if_neg (by omega), if_neg (by omega), hact]

theorem Dma.run_start (s : State) (k : Nat) (hstop : (Dma.ch s k).running = false) :
    Dma.run s k 1 = Dma.setCh s k
      { running := true, desc := s.rd64 (Reg.dmaDescLo k) (Reg.dmaDescHi k)
        descHost := !inCommon (s.rd64 (Reg.dmaDescLo k) (Reg.dmaDescHi k)) 32 } := by
  have hcond : ¬ ((Tab.get (fun _ => ({} : DmaCh)) s.ctl.dma k).running = true ∧ bit 1 0 = true) := fun h =>
    Bool.false_ne_true (hstop.symm.trans h.1)
  unfold Dma.run
  exact (if_neg hcond).trans rfl

theorem Dma.run_running (s : State) (k : Nat) (hrunning : (Dma.ch s k).running = true) : Dma.run s k 1 = s := by
  unfold Dma.run
  exact if_pos ⟨hrunning, by decide⟩

/-- DMA_RUN of channel `k` is a write of 1 to its DMA_CTRL. -/
theorem completes_dmaRun {s : State} {k : Nat} {P : State → Prop} (hrun : s.running = true) (hk : k < 8)
    (h : P (Page.write s.begin 0 none (Reg.dmaCtrl k) 1)) : Completes (.dmaRun k) s P :=
  completes_act (exec_dmaRun k s) hrun (by rwa [Nat.mod_eq_of_lt hk])

theorem State.wr_ctlKept (s : State) (a : Nat) (v : Word) : State.ctlKept s (s.wr a v) := ⟨rfl, rfl⟩

theorem State.wr64_ctlKept (s : State) (lo hi n : Nat) : State.ctlKept s (s.wr64 lo hi n) := ⟨rfl, rfl⟩

theorem Weave.setArb_ctlKept (s : State) (t : Nat) (x : Arb) : State.ctlKept s (Weave.setArb s t x) := ⟨rfl, rfl⟩

theorem State.weaveEvent_ctlKept (s : State) (type ini target beats : Nat) (write : Bool) (addr : Nat) :
    State.ctlKept s (s.weaveEvent type ini target beats write addr) := by
  unfold State.weaveEvent
  refine .trans ?_ (State.coilOnly_faultD _ _ _ _).ctlKept
  refine .trans ?_ (State.coilOnly_irq _ _ _).ctlKept
  refine .trans (.trans ?_ (State.wr64_ctlKept _ _ _ _)) (State.wr64_ctlKept _ _ _ _)
  exact .trans (State.coilOnly_count s _ 1).ctlKept (State.wr_ctlKept _ _ _)

/-- The reset of an initiator acts on neither the part nor the control units (R501). -/
theorem Weave.endInitiator_ctlKept (s : State) (i : Nat) : State.ctlKept s (Weave.endInitiator s i) := by
  have hevents : ∀ (l : List Burst) (u : State), State.ctlKept u (l.foldl (fun (s : State) b =>
      s.weaveEvent 3 i ((Weave.target s.variant i b.addr).getD 0) b.beats b.write b.addr) u) := fun l u =>
    State.ctlKept_foldl _ (fun s b => State.weaveEvent_ctlKept s _ _ _ _ _ _) l u
  unfold Weave.endInitiator
  refine State.ctlKept.trans ?_ (State.ctlKept_foldl _ (fun s t => ?_) _ _)
  · have hwaiting := fun w l => State.ctlKept.trans (s := s) (t := { s with weave := w }) ⟨rfl, rfl⟩ (hevents l _)
    split
    · exact (hwaiting _ _).trans (Weave.setArb_ctlKept _ _ _)
    · exact hwaiting _ _
  · split
    · exact Weave.setArb_ctlKept _ _ _
    · exact .refl s

/-- A channel that an error stops is at rest. -/
theorem Dma.ch_fail (s : State) (k ctrl e : Nat) : Dma.ch (Dma.fail s k ctrl e) k = {} := by
  unfold Dma.fail
  rw [Dma.ch_of_ctlKept (Weave.endInitiator_ctlKept _ _), Dma.ch_setCh]

section Descriptor

variable {s s1 s2 s3 : State} {k : Nat} {words data d l : List Byte}

/-- A descriptor is 32 bytes that the channel fetches from host memory, or by its own reads (R67). -/
def Dma.fetched (s : State) (k : Nat) (words : List Byte) (s1 : State) (d : List Byte) : Prop :=
  (if (Dma.ch s k).descHost then (s, words, 0) else Weave.readN s (2 + k) 8 (Dma.ch s k).desc 32) = (s1, d, 0)

/-- Count, source and destination of a descriptor are whole words. -/
def Dma.aligned (d : List Byte) : Prop :=
  ofLe (slice d 4 4) % 4 = 0 ∧ ofLe (slice d 8 8) % 4 = 0 ∧ ofLe (slice d 16 8) % 4 = 0

theorem Dma.descriptor_idle (h : 8 ≤ k ∨ (Dma.ch s k).running = false) : Dma.descriptor s k words data = s := by
  unfold Dma.descriptor
  exact if_pos (h.imp_right fun hstop => by simp [hstop])

theorem Dma.descriptor_invalid (hk : k < 8) (hrunning : (Dma.ch s k).running = true) (hlen : d.length = 32)
    (hfetch : Dma.fetched s k words s1 d) (hvalid : (ofLe (slice d 0 4)).testBit 0 = false) :
    Dma.descriptor s k words data = Dma.setCh s1 k {} := by
  unfold Dma.fetched at hfetch
  simp only [Dma.descriptor, Nat.not_le.mpr hk, hrunning, hfetch, hlen, hvalid, Bool.not_true, Bool.not_false, Bool.false_eq_true,
    ne_eq, not_true_eq_false, or_self, if_false, if_true]

theorem Dma.descriptor_misaligned (hk : k < 8) (hrunning : (Dma.ch s k).running = true) (hlen : d.length = 32)
    (hfetch : Dma.fetched s k words s1 d) (hvalid : (ofLe (slice d 0 4)).testBit 0 = true)
    (hodd : ofLe (slice d 4 4) % 4 ≠ 0 ∨ ofLe (slice d 8 8) % 4 ≠ 0 ∨ ofLe (slice d 16 8) % 4 ≠ 0) :
    Dma.descriptor s k words data = Dma.fail s1 k (ofLe (slice d 0 4)) 1 := by
  unfold Dma.fetched at hfetch
  simp only [Dma.descriptor, Nat.not_le.mpr hk, hrunning, hfetch, hlen, hvalid, Bool.not_true, Bool.false_eq_true,
    ne_eq, not_true_eq_false, or_self, if_false]
  exact if_pos hodd

/-- The ctrl of a descriptor carried out is written back with done set, and the channel's interrupt is raised where it asks for it. -/
def Dma.finished (s3 : State) (k ctrl : Nat) : State :=
  if ctrl.testBit 1 then (Dma.writeBack s3 k (ctrl / 2 % 2 ^ 27 * 2 + at_ 31 1)).irq 1 k
  else Dma.writeBack s3 k (ctrl / 2 % 2 ^ 27 * 2 + at_ 31 1)

theorem Dma.descriptor_good (hk : k < 8) (hrunning : (Dma.ch s k).running = true) (hlen : d.length = 32)
    (hfetch : Dma.fetched s k words s1 d) (hvalid : (ofLe (slice d 0 4)).testBit 0 = true) (haligned : Dma.aligned d)
    (hhost : (ofLe (slice d 0 4)).testBit 3 = true → data.length = ofLe (slice d 4 4))
    (hread : (if (ofLe (slice d 0 4)).testBit 3 then (s1, data, 0)
      else Weave.readN s1 (2 + k) (ofLe (slice d 4 4) / 256 + 2) (ofLe (slice d 8 8)) (ofLe (slice d 4 4))) = (s2, l, 0))
    (hwrite : (if (ofLe (slice d 0 4)).testBit 4 then
        (if l.isEmpty then s2
          else { s2 with ctl := { s2.ctl with hostWrites := s2.ctl.hostWrites ++ [(ofLe (slice d 16 8), l)] } }, 0)
      else Weave.writeN s2 (2 + k) (ofLe (slice d 4 4) / 256 + 2) (ofLe (slice d 16 8)) l) = (s3, 0)) :
    Dma.descriptor s k words data =
      if (Dma.ch (Dma.finished s3 k (ofLe (slice d 0 4))) k).running then
        Dma.setCh (Dma.finished s3 k (ofLe (slice d 0 4))) k (if (ofLe (slice d 0 4)).testBit 2 then {}
          else { running := true, desc := ofLe (slice d 24 8), descHost := (ofLe (slice d 0 4)).testBit 5 })
      else Dma.finished s3 k (ofLe (slice d 0 4)) := by
  obtain ⟨hcount, hsrc, hdst⟩ := haligned
  have hdata : ¬ ((ofLe (slice d 0 4)).testBit 3 = true ∧ ¬ data.length = ofLe (slice d 4 4)) := fun h => h.2 (hhost h.1)
  unfold Dma.fetched at hfetch
  simp only [Dma.descriptor, Nat.not_le.mpr hk, hrunning, hfetch, hlen, hvalid, hcount, hsrc, hdst, hdata, hread, hwrite,
    Bool.not_true, Bool.false_eq_true, ne_eq, not_true_eq_false, or_self, if_false]
  rw [← Dma.finished]
  cases hgo : (Dma.ch (Dma.finished s3 k (ofLe (slice d 0 4))) k).running with
  | false => simp
  | true => cases (ofLe (slice d 0 4)).testBit 2 <;> simp

end Descriptor

/-! ### Writes to the array windows (R44, R45) -/

/-- Four bytes from a word's address on are that word, with its strobes. -/
theorem Weave.words_word (a : Nat) (q0 q1 q2 q3 : Byte × Bool) (h4 : a % 4 = 0) :
    Weave.words a [q0, q1, q2, q3] = [(a, [q0, q1, q2, q3])] := by
  simp [Weave.words, h4, cdiv, slice]

/-- A write of one word to a page's window, with no write held, is one word's write at the window's address. -/
theorem Window.bytes_word (s : State) {ini p o : Nat} (q0 q1 q2 q3 : Byte × Bool) (hp : p < 256) (h4 : o % 4 = 0)
    (ho : o + 4 ≤ 0x100000) (hcoil : s.coil.heldSubmits = []) (hwarp : s.warp.held = none) :
    Window.bytes s ini p o [q0, q1, q2, q3] = Weave.wordWrite s ini (winBase p + o) [q0, q1, q2, q3] := by
  have hin : ¬ (256 ≤ p ∨ 0x100000 < o + [q0, q1, q2, q3].length) := by simp; omega
  have hword : (winBase p + o) % 4 = 0 := by unfold winBase; omega
  unfold Window.bytes
  rw [if_neg hin, Weave.words_word _ _ _ _ _ hword, Weave.behind_none s ini _ hcoil hwarp]
  rfl

/-- An address in a page's window names the page and the offset. -/
theorem winBase_at {p o : Nat} (ho : o < 0x100000) :
    ¬ winBase p + o < 0x01000000 ∧ (winBase p + o - 0x01000000) / 0x100000 = p ∧ (winBase p + o) % 0x100000 = o := by
  unfold winBase
  omega

/-- A whole word reaches the window; a word with a strobe missing is discarded and counted. -/
theorem Weave.wordWrite_window (s : State) (ini p o : Nat) (b0 b1 b2 b3 : Byte) (ho : o < 0x100000) :
    Weave.wordWrite s ini (winBase p + o) [(b0, true), (b1, true), (b2, true), (b3, true)] =
      Window.write s ini p o (w32 (ofLe [b0, b1, b2, b3])) := by
  obtain ⟨hregs, hpage, hoff⟩ := winBase_at (p := p) ho
  simp [Weave.wordWrite, hregs, hpage, hoff]

theorem Weave.wordWrite_partial (s : State) (ini a : Nat) (b0 b1 b2 b3 : Byte) :
    Weave.wordWrite s ini a [(b0, true), (b1, false), (b2, true), (b3, true)] = s.discard := by
  simp [Weave.wordWrite]

/-! ### The statement on the commands that carry accesses, clause by clause -/

/-- What LO_READ_LATCH answers for a register that is no capture FIFO's and no latched half of the Weave's record. -/
theorem loReadLatch_latches {s : State} {ini p o : Nat} (hrun : s.running = true) (hcoil : s.coil.heldSubmits = [])
    (hwarp : s.warp.held = none) (ho : o < 0x1000) (up : s.pageUp p = true) (htcap : ¬ Stake.tcapWord p o)
    (hrec : ¬ (p = 0xF8 ∧ (o = 0x64 ∨ o = 0x6C))) :
    Completes (.loReadLatch ini (p * 0x1000 + o)) s (fun t =>
      t.ctl.busData = leBytes 4 ((s.latched (p * 0x1000 + o)).getD (Page.read s.begin ini p o)).toNat ∧
      (∀ b, b ∈ latchSet (p * 0x1000 + o) → t.latched b = some (Page.read s.begin ini p (b % 0x1000))) ∧
      (∀ b, b ∉ latchSet (p * 0x1000 + o) → t.latched b = s.latched b) ∧
      t = { s.begin with ctl := { s.begin.ctl with busResp := 0, busData := t.ctl.busData, latch := t.ctl.latch } }) := by
  refine completes_loReadLatch hrun hcoil hwarp ?_
  rw [Page.access_latches s.begin ini p o ho up htcap hrec]
  refine ⟨rfl, fun b hb => ?_, fun b hb => ?_, rfl⟩
  · exact (Tab.get_foldl_set _ _ _ _ b).trans (if_pos hb)
  · exact (Tab.get_foldl_set _ _ _ _ b).trans (if_neg hb)

/-- What LO_READ_LATCH does at the seconds and at the count of capture FIFO `k`. -/
theorem loReadLatch_tcap {s : State} {ini o k : Nat} (hrun : s.running = true) (hcoil : s.coil.heldSubmits = [])
    (hwarp : s.warp.held = none) (up : s.pageUp Stake.page = true) (hlo : 0x240 ≤ o) (hhi : o < 0x280) (hk : k = (o - 0x240) / 16) :
    (o % 16 = 4 → Completes (.loReadLatch ini (Stake.page * 0x1000 + o)) s (fun t =>
      Tab.get (fun _ => 0) t.stake.tcapLatch k = (Tab.get (fun _ => []) s.stake.tcap k).headD 0 ∧
      t.ctl.busData = leBytes 4 (Page.read (Stake.tcapLatch s.begin k) ini Stake.page o).toNat ∧ t.stake.tcap = s.stake.tcap)) ∧
    (o % 16 = 12 → Completes (.loReadLatch ini (Stake.page * 0x1000 + o)) s (fun t =>
      Tab.get (fun _ => []) t.stake.tcap k = (Tab.get (fun _ => []) s.stake.tcap k).drop 1 ∧
      t.ctl.busData = leBytes 4 (Page.read s.begin ini Stake.page o).toNat ∧
      ∀ j, j ≠ k → Tab.get (fun _ => []) t.stake.tcap j = Tab.get (fun _ => []) s.stake.tcap j)) := by
  subst hk
  obtain ⟨hseconds, hcount⟩ := Page.access_tcap s.begin ini o up hlo hhi
  refine ⟨fun h4 => completes_loReadLatch hrun hcoil hwarp ?_, fun h12 => completes_loReadLatch hrun hcoil hwarp ?_⟩
  · rw [hseconds h4]
    exact ⟨Tab.get_set_same _ _ _ _, rfl, rfl⟩
  · rw [hcount h12]
    exact ⟨Tab.get_set_same _ _ _ _, rfl, fun j hj => Tab.get_set_ne _ _ _ hj⟩

/-- Settles O10: each clause is what the command's own operation gives on the state that the command begins with. -/
theorem transportCommandsAct : Obligations.TransportCommandsAct := by
  intro s hrun
  refine ⟨?loReadLatch, ?spiRead, ?spiReadTimeout, ?spiStatus, ?spiClear, ?spiWrite, ?dmaRun, ?dmaRunningChannel, ?dmaOtherChannel,
    ?arrayWindowWrite⟩
  case loReadLatch =>
    intro ini p o hcoil hwarp ho
    refine ⟨fun down => ?_, fun up htcap hrec => loReadLatch_latches hrun hcoil hwarp ho up htcap hrec, ?_, ?_⟩
    · refine completes_loReadLatch hrun hcoil hwarp ?_
      rw [Page.access_down s.begin ini ho down, Read.answered_zero]
      rfl
    · rintro rfl up hhalf w hw
      refine completes_loReadLatch hrun hcoil hwarp ?_
      rw [Page.access_latchedRecord s.begin ini o up hhalf hw]
      rfl
    · rintro rfl up hlo hhi k hk
      exact loReadLatch_tcap hrun hcoil hwarp up hlo hhi hk
  case spiRead =>
    intro a n u l h4 hn ha hfold
    exact completes_act (exec_spiRead a n s) hrun (Spi.read_eq s.begin h4 hn ha hfold)
  case spiReadTimeout => exact completes_act (exec_spiReadTimeout s) hrun rfl
  case spiStatus => exact completes_act (exec_spiStatus s) hrun ⟨⟨_, rfl⟩, rfl⟩
  case spiClear => exact completes_act (exec_spiClear s) hrun rfl
  case spiWrite =>
    refine fun a n data crc h4 hn ha => ⟨fun hlen hcrc u hu => ?_, fun hbad => ?_⟩ <;>
      refine completes_act (exec_spiWrite a n data crc s) hrun ?_
    · exact Spi.write_good s.begin h4 hn ha hlen hcrc hu
    · exact Spi.write_bad s.begin h4 hn ha hbad
  case dmaRun =>
    refine fun k hk => ⟨fun up hstop => ?_, fun up hrunning => ?_, fun down => ?_⟩ <;> refine completes_dmaRun hrun hk ?_
    · rw [Page.write_dmaCtrl s.begin 0 k 1 hk up, Dma.run_start s.begin k hstop]
      rfl
    · rw [Page.write_dmaCtrl s.begin 0 k 1 hk up, Dma.run_running s.begin k hrunning]
    · rw [Reg.dmaCtrl_eq, Page.write_absent s.begin 0 none 1 _ 1 (by omega) down]
  case dmaRunningChannel =>
    intro k words data s1 d hk hrunning hlen hfetch
    have hexec := fun P => completes_act (P := P) (exec_dmaDescriptorDone k words data s) hrun
    refine ⟨fun hvalid => hexec _ (Dma.descriptor_invalid hk hrunning hlen hfetch hvalid), fun hvalid hodd => hexec _ ?_, ?_⟩
    · have hfail := Dma.descriptor_misaligned (s := s.begin) (data := data) hk hrunning hlen hfetch hvalid hodd
      exact ⟨hfail, hfail ▸ Dma.ch_fail s1 k _ 1⟩
    · intro s2 l s3 hvalid hcount hsrc hdst hhost hread hwrite u hu
      have hgood := Dma.descriptor_good (s := s.begin) hk hrunning hlen hfetch hvalid ⟨hcount, hsrc, hdst⟩ hhost hread hwrite
      obtain rfl : u = Dma.finished s3 k (ofLe (slice d 0 4)) := hu
      refine ⟨fun hstop => hexec _ (hgood.trans (if_neg ?_)), fun hgo => hexec _ (hgood.trans (if_pos hgo))⟩
      simp [hstop]
  case dmaOtherChannel =>
    intro k words data hidle
    exact completes_act (exec_dmaDescriptorDone k words data s) hrun (Dma.descriptor_idle hidle)
  case arrayWindowWrite =>
    refine fun ini p o b0 b1 b2 b3 hp h4 ho hcoil hwarp => ⟨?_, ?_⟩ <;>
      refine completes_act (exec_arrayWindowWrite ini p o _ s) hrun ?_ <;>
      rw [Window.bytes_word s.begin _ _ _ _ hp h4 ho hcoil hwarp]
    · exact Weave.wordWrite_window s.begin ini p o b0 b1 b2 b3 (by omega)
    · exact Weave.wordWrite_partial s.begin ini _ b0 b1 b2 b3

end Sys2Proof.Machine
end

section
/-!
PROOFS. How the queue is served (R20), and that the commands of the frame, the registers, the SPI port, DMA and plaits complete.
-/
namespace Sys2Proof.Machine

/-! ### The queue (R20) -/

theorem step_of_pending {s : State} {c : Instr} {rest : List Instr} (h : s.pending = c :: rest) :
    step s = exec c { s with pending := rest } := by
  unfold step
  rw [h]

/-- Settles O1: the queue's front is taken off and executed, and an update of the queue to itself is no update. -/
theorem stepRunsCommandAtFront : Obligations.StepRunsCommandAtFront :=
  ⟨fun _ _ _ h => step_of_pending h, fun _ _ => step_of_pending rfl⟩

theorem State.force_pending {s t : State} {f : State → State} (h : s.force f = .next t) : t.pending = s.pending := by
  obtain rfl : State.close s (f s.begin) = t := by simpa [State.force] using h
  exact State.close_pending s _

theorem State.act_pending {s t : State} {f : State → State} (h : s.act f = .next t) : t.pending = s.pending :=
  State.force_pending h

/-- A frame tick that no floating claim stops is an effect between the common begin and end of a command. -/
theorem exec_frameTick_inside {s : State} {env : TickEnv} (h : Frame.outside s env = false) :
    exec (.frameTick env) s = s.act (fun t => Frame.tick t env) := by
  rw [exec_frameTick]
  unfold execFrameTick
  rw [h, Bool.and_false, if_neg Bool.false_ne_true]

/-- A frame tick stops, or is an effect between the common begin and end of a command. -/
theorem exec_frameTick_shape (env : TickEnv) (s : State) :
    exec (.frameTick env) s = .fault .outsideLimits ∨ exec (.frameTick env) s = s.act (fun t => Frame.tick t env) := by
  rw [exec_frameTick]
  unfold execFrameTick
  split
  · exact .inl rfl
  · exact .inr rfl

/-- Settles O3: the common end of a command puts back the queue that it began with. -/
theorem commandsKeepQueue : Obligations.CommandsKeepQueue := by
  intro c s t hnext
  obtain ⟨env, rfl⟩ | ⟨-, f, hact⟩ | ⟨-, f, hforce⟩ := exec_shape c s
  · obtain hfault | hact := exec_frameTick_shape env s
    · rw [hfault] at hnext
      cases hnext
    · exact State.act_pending (hact.symm.trans hnext)
  · exact State.act_pending (hact.symm.trans hnext)
  · exact State.force_pending (hforce.symm.trans hnext)

/-! ### Completion -/

/-- Settles O43: each command is its own operation between the common begin and end of a command, and a running device carries it
out. -/
theorem frameAndRegisterCommandsComplete : Obligations.FrameAndRegisterCommandsComplete := fun s hrun =>
  ⟨fun _ hinside => completes_act (exec_frameTick_inside hinside) hrun rfl,
    fun _ => completes_act (exec_directWindowEnd _ s) hrun rfl,
    completes_act (exec_guardBegin s) hrun rfl,
    completes_act (exec_directCutoff s) hrun rfl,
    completes_act (exec_rateChangeRamp s) hrun rfl,
    completes_act (exec_rateChangeMute s) hrun rfl,
    completes_act (exec_rateChangeSwitch s) hrun rfl,
    completes_act (exec_rateChangeResume s) hrun rfl,
    fun _ _ _ => completes_act (exec_registerWrite _ _ _ s) hrun rfl,
    fun _ _ => completes_act (exec_loReadLatch _ _ s) hrun rfl,
    fun _ _ => completes_act (exec_commitRequest _ _ s) hrun rfl,
    fun _ => completes_act (exec_commitCancel _ s) hrun rfl,
    fun _ _ => completes_act (exec_pageEnableWrite _ _ s) hrun rfl,
    fun _ _ => completes_act (exec_softReset _ _ s) hrun rfl,
    fun _ => completes_act (exec_faultCauseClear _ s) hrun rfl,
    fun _ _ => completes_act (exec_irqForce _ _ s) hrun rfl,
    fun _ => completes_act (exec_irqEoi _ s) hrun rfl,
    fun _ _ => completes_act (exec_spiRead _ _ s) hrun rfl,
    fun _ _ _ _ => completes_act (exec_spiWrite _ _ _ _ s) hrun rfl,
    fun _ => completes_act (exec_dmaRun _ s) hrun rfl,
    fun _ _ _ => completes_act (exec_dmaDescriptorDone _ _ _ s) hrun rfl,
    fun _ => completes_act (exec_plaitOpen _ s) hrun rfl,
    fun _ _ _ => completes_act (exec_plaitCapture _ _ _ s) hrun rfl,
    fun _ _ => completes_act (exec_plaitCommitNextFrame _ _ s) hrun rfl,
    fun _ _ => completes_act (exec_plaitCommitFrameIndex _ _ s) hrun rfl,
    fun _ _ => completes_act (exec_plaitCommitPtpTime _ _ s) hrun rfl,
    fun _ => completes_act (exec_plaitCommitDecision _ s) hrun rfl,
    fun _ _ => completes_act (exec_plaitAbort _ _ s) hrun rfl,
    fun _ _ _ _ => completes_act (exec_arrayWindowWrite _ _ _ _ s) hrun rfl,
    completes_act (exec_spiReadTimeout s) hrun rfl,
    completes_act (exec_spiStatus s) hrun rfl,
    completes_act (exec_spiClear s) hrun rfl⟩

end Sys2Proof.Machine
end

section
/-!
PROOFS. What ends a direct window, a mute of the power stage and a ramp of the outputs leave as it is, and the statement on the frame
and on a change of render rate (R20, R21, R29, R30, R38 to R40, R212).
-/
namespace Sys2Proof.Machine

/-! ### What the channels of the power stage touch (R290, R304 to R310) -/

/-- From `s` to `t` only registers, fault records, the power-stage channels and their supervision have changed. -/
def Pstg.channelsOnly (s t : State) : Prop :=
  t = { s with regs := t.regs, fault := t.fault, lsup := t.lsup, pstg := { s.pstg with ch := t.pstg.ch } }

namespace Pstg.channelsOnly

theorem refl (s : State) : Pstg.channelsOnly s s := rfl

theorem trans {s t u : State} (hst : Pstg.channelsOnly s t) (htu : Pstg.channelsOnly t u) : Pstg.channelsOnly s u := by
  unfold Pstg.channelsOnly at hst htu ⊢
  rw [hst] at htu
  exact htu

theorem foldl {α : Type} {f : State → α → State} (h : ∀ s a, Pstg.channelsOnly s (f s a)) (l : List α) (s : State) :
    Pstg.channelsOnly s (l.foldl f s) :=
  List.foldlRecOn l f (motive := Pstg.channelsOnly s) (refl s) fun t ht a _ => ht.trans (h t a)

variable {s t : State} (h : Pstg.channelsOnly s t)
include h

theorem clk : t.clk = s.clk := by rw [h]
theorem stake : t.stake = s.stake := by rw [h]
theorem muted : t.pstg.muted = s.pstg.muted := by rw [h]
theorem muteKind : t.pstg.muteKind = s.pstg.muteKind := by rw [h]

end Pstg.channelsOnly

theorem Pstg.setCh_only (s : State) (c : Nat) (x : PsCh) : Pstg.channelsOnly s (Pstg.setCh s c x) := rfl

theorem Pstg.fault_only (s : State) (p code : Nat) : Pstg.channelsOnly s (s.fault' p code) := by
  unfold Pstg.channelsOnly State.fault'
  rw [State.faultD_eq]

theorem Pstg.outFrame_only (s : State) (c n base : Nat) (sense : List (Int × Int)) :
    Pstg.channelsOnly s (Pstg.outFrame s c n base sense) := by
  unfold Pstg.outFrame
  simp only []
  split <;> rfl

theorem Pstg.present_only (s : State) (early : Bool) (n : Nat) (env : TickEnv) :
    Pstg.channelsOnly s (Pstg.present s early n env) :=
  .foldl (fun s c => Pstg.outFrame_only s c _ _ _) _ s

theorem Pstg.tryStart_only (s : State) (c : Nat) : Pstg.channelsOnly s (Pstg.tryStart s c) := by
  unfold Pstg.tryStart
  simp only []
  split
  · exact .refl s
  · split
    · exact Pstg.fault_only s _ _
    · exact Pstg.setCh_only s c _

theorem Pstg.again_only (s : State) (c : Nat) : Pstg.channelsOnly s (Pstg.again s c) := by
  unfold Pstg.again
  split
  · exact Pstg.setCh_only s c _
  · exact (Pstg.setCh_only s c _).trans (Pstg.tryStart_only _ c)

/-- The channels' part of a mute: one that switches or starts goes Quiet, and a recheck is abandoned (R304, R305). -/
theorem Pstg.muteAll_only (s : State) (kind : Nat) :
    ∃ u, Pstg.channelsOnly s u ∧
      Pstg.muteAll s kind = { u with pstg := { u.pstg with muted := true, muteKind := u.pstg.muteKind ||| kind } } := by
  refine ⟨_, .foldl (fun s c => ?_) (Pstg.chans s) s, rfl⟩
  simp only []
  split
  · exact .refl s
  · split <;> exact Pstg.setCh_only s c _

@[simp] theorem Pstg.muteAll_clk (s : State) (kind : Nat) : (Pstg.muteAll s kind).clk = s.clk := by
  obtain ⟨u, hu, hmute⟩ := Pstg.muteAll_only s kind
  rw [hmute]
  exact hu.clk

@[simp] theorem Pstg.muteAll_muted (s : State) (kind : Nat) : (Pstg.muteAll s kind).pstg.muted = true := rfl

@[simp] theorem Pstg.muteAll_muteKind (s : State) (kind : Nat) :
    (Pstg.muteAll s kind).pstg.muteKind = s.pstg.muteKind ||| kind := by
  obtain ⟨u, hu, hmute⟩ := Pstg.muteAll_only s kind
  rw [hmute]
  exact congrArg (· ||| kind) hu.muteKind

theorem Pstg.unmute_only (s : State) :
    Pstg.channelsOnly { s with pstg := { s.pstg with muted := false, muteKind := 0 } } (Pstg.unmute s) := by
  refine .foldl (fun s c => ?_) _ _
  simp only []
  split
  · exact Pstg.again_only s c
  · split
    · rfl
    · exact Pstg.tryStart_only s c

/-- The end of one ground of a mute touches the mute and, with the last ground, the channels. -/
theorem Pstg.endMute_only (s : State) (kind : Nat) : ∃ muted muteKind,
    Pstg.channelsOnly { s with pstg := { s.pstg with muted := muted, muteKind := muteKind } } (Pstg.endMute s kind) := by
  unfold Pstg.endMute
  simp only []
  split
  · exact ⟨s.pstg.muted, s.pstg.muteKind, .refl s⟩
  · split
    · exact ⟨false, 0, Pstg.unmute_only s⟩
    · exact ⟨s.pstg.muted, _, .refl _⟩

@[simp] theorem Pstg.endMute_clk (s : State) (kind : Nat) : (Pstg.endMute s kind).clk = s.clk := by
  obtain ⟨_, _, honly⟩ := Pstg.endMute_only s kind
  exact honly.clk

@[simp] theorem Pstg.endMute_stake (s : State) (kind : Nat) : (Pstg.endMute s kind).stake = s.stake := by
  obtain ⟨_, _, honly⟩ := Pstg.endMute_only s kind
  exact honly.stake

/-- A mute whose one ground is a change of rate ends with it. -/
theorem Pstg.endMute_rateChange {s : State} (h : s.pstg.muteKind = 2) : (Pstg.endMute s 2).pstg.muted = false := by
  have hlast : Pstg.endMute s 2 = Pstg.unmute s := by
    unfold Pstg.endMute
    rw [h]
    rfl
  rw [hlast]
  exact (Pstg.unmute_only s).muted

/-! ### What the ports touch (R30, R344, R345) -/

/-- From `s` to `t` only the port pages have changed. -/
def Port.pagesOnly (s t : State) : Prop := t = { s with port := { s.port with pages := t.port.pages } }

namespace Port.pagesOnly

theorem refl (s : State) : Port.pagesOnly s s := rfl

theorem trans {s t u : State} (hst : Port.pagesOnly s t) (htu : Port.pagesOnly t u) : Port.pagesOnly s u := by
  unfold Port.pagesOnly at hst htu ⊢
  rw [hst] at htu
  exact htu

theorem foldl {α : Type} {f : State → α → State} (h : ∀ s a, Port.pagesOnly s (f s a)) (l : List α) (s : State) :
    Port.pagesOnly s (l.foldl f s) :=
  List.foldlRecOn l f (motive := Port.pagesOnly s) (refl s) fun t ht a _ => ht.trans (h t a)

end Port.pagesOnly

theorem Port.setPg_only (s : State) (p : Nat) (x : PortPg) : Port.pagesOnly s (Port.setPg s p x) := rfl

theorem Port.mapDirs_only (s : State) (p : Nat) (tx : Bool) (f : PortDir → PortDir) : Port.pagesOnly s (Port.mapDirs s p tx f) :=
  .foldl (fun s _ => Port.setPg_only s p _) _ s

theorem Port.present_only (s : State) (p : Nat) (v : List Int) (aux : List (Bool × Bool)) :
    Port.pagesOnly s (Port.present s p v aux) := by
  unfold Port.present
  simp only []
  split
  · exact .refl s
  · split <;> exact Port.setPg_only s p _

theorem Port.presentEarly_only (s : State) : Port.pagesOnly s (Port.presentEarly s) := by
  refine .foldl (fun s p => ?_) _ s
  simp only []
  split
  · exact Port.present_only s p _ _
  · exact .refl s

theorem Port.leadOut_only (s : State) : Port.pagesOnly s (Port.leadOut s) := by
  refine .foldl (fun s p => ?_) _ s
  simp only []
  split
  · exact Port.mapDirs_only s p _ _
  · exact .refl s

/-! ### The end of the direct window (R21, R29, R31) -/

@[simp] theorem Budget.frameSlack_clk (s : State) (slack : Nat) : (Budget.frameSlack s slack).clk = s.clk := by
  unfold Budget.frameSlack Budget.setV
  simp only []
  split
  · split <;> rfl
  · rfl

@[simp] theorem Corr.setOut_clk (s : State) (j : Nat) (o : CorrOut) : (Corr.setOut s j o).clk = s.clk := rfl

@[simp] theorem Corr.release_clk (s : State) (r : Nat) : (Corr.release s r).1.clk = s.clk := by
  refine foldl_keeps (fun acc : State × List Nat => acc.1.clk) _ (fun acc j => ?_) _ (s, [])
  refine foldl_keeps (fun acc : State × List Nat => acc.1.clk) _ (fun acc p => ?_) _ acc
  simp only [apply_ite Prod.fst, apply_ite State.clk, Corr.setOut_clk, ite_self]

/-- What the end of the direct window presents, arms and releases leaves time and the frame's phase. -/
theorem Frame.windowWork_clk (s : State) (n : Nat) (env : TickEnv) (l : List Nat) :
    (Coil.corrRelease (Corr.release (Coil.windowEnd (Pstg.present (Port.presentEarly s) true n env) n) n).1 l).clk = s.clk := by
  have hports : (Port.presentEarly s).clk = s.clk := by rw [Port.presentEarly_only s]
  rw [State.coilOnly_clk (Coil.corrRelease_only _ l), Corr.release_clk, State.coilOnly_clk (Coil.windowEnd_only _ n),
    (Pstg.present_only _ true n env).clk, hports]

/-- The window has ended, or no tick has begun it. -/
theorem Frame.windowEnd_closed {s : State} (slack : Option Nat) (h : s.clk.phase ≠ 0 ∨ s.clk.ticking = false) :
    Frame.windowEnd s slack = s := by
  unfold Frame.windowEnd
  exact if_pos (h.imp_right fun hstop => by simp [hstop])

/-- While the direct path of a frame runs, nothing has closed its window. -/
theorem Frame.window_open {s : State} (hphase : s.clk.phase = 0) (htick : s.clk.ticking = true) :
    ¬ (s.clk.phase ≠ 0 ∨ (!s.clk.ticking) = true) := by
  simp [hphase, htick]

/-! ### Ticks start (R19, R602) -/

theorem State.startTicks_clk (s : State) (n : Nat) :
    (s.startTicks n).clk = { s.clk with ticking := true, locked := true, nextTick := n, firstTick := n, phase := 2 } := by
  refine foldl_keeps State.clk _ (fun s k => ?_) _ _
  simp only []
  split <;> rfl

/-! ### A measurement aborts (R459) -/

theorem Meas.fail_only (s : State) (code : Nat) : (Meas.fail s code).clk = s.clk ∧ (Meas.fail s code).port = s.port :=
  ⟨State.faultD_clk s _ _ _, State.faultD_port s _ _ _⟩

theorem Meas.abort_only (s : State) : (Meas.abort s).clk = s.clk ∧ (Meas.abort s).port = s.port := by
  unfold Meas.abort
  simp only []
  split
  · exact ⟨rfl, rfl⟩
  · split <;> exact Meas.fail_only _ _

/-! ### The frame, clause by clause -/

/-- FRAME_TICK completes with what the tick leads to, where no floating claim stops it. -/
theorem completes_frameTick {s : State} {env : TickEnv} {P : State → Prop} (hrun : s.running = true)
    (hclaim : s.hoop.role = 0 ∨ env.claimIn ≠ 2) (h : P (Frame.tick s.begin env)) : Completes (.frameTick env) s P := by
  have hinside : Frame.outside s env = false := by
    rw [← Bool.not_eq_true, Frame.outside_iff]
    exact fun hout => hclaim.elim hout.1 (fun hne => hne hout.2)
  exact completes_act (exec_frameTick_inside hinside) hrun h

theorem Frame.tick_due {s : State} {env : TickEnv} (h : Frame.due s = true) :
    Frame.tick s env =
      let d := Frame.action2 (Frame.action1 (Frame.present (Frame.beginTick s env) s.clk.nextTick) s.clk.nextTick (env.claimIn == 1))
        s.clk.nextTick env
      Frame.action3 d s.clk.nextTick (Scene.interval d) := by
  unfold Frame.tick
  rw [h]
  rfl

theorem Frame.tick_notDue {s : State} {env : TickEnv} (h : Frame.due s = false) : Frame.tick s env = s := by
  unfold Frame.tick
  rw [h]
  rfl

/-- Where the window has ended before, a tick moves Stake time to its instant. -/
theorem Frame.beginTick_stake {s : State} {env : TickEnv} (h : s.clk.phase ≠ 0) :
    (Frame.beginTick s env).clk.stake = max s.clk.stake s.nextTickAt := by
  unfold Frame.beginTick
  rw [Frame.windowEnd_closed none (.inl h)]
  exact State.toStake_stake s _

theorem Frame.cutoff_open {s : State} (hphase : s.clk.phase = 0) (htick : s.clk.ticking = true) :
    ((Frame.path s).steps = 3 → Frame.cutoff s =
      Frame.go (Osier.sync (Coil.cutoff (s.toMono (s.clk.tickMono + (Frame.window s - 530) * nsU)) 0))) ∧
    ((Frame.path s).steps = 5 → Frame.cutoff s =
      Frame.go (Osier.sync (Coil.cutoff (s.toMono (s.clk.tickMono + (Frame.window s - 100) * nsU)) 1))) := by
  unfold Frame.cutoff
  rw [if_neg (Frame.window_open hphase htick)]
  exact ⟨fun hsteps => by simp only [hsteps], fun hsteps => by simp only [hsteps]⟩

/-- The guard begins: the window is over, and time stands at `instant`, 500 ns before the next tick. -/
theorem Frame.guard_eq {s : State} {instant : Nat} (hinstant : instant = (Frame.windowEnd s none).nextTickAt - 500 * nsU)
    (htick : s.clk.ticking = true) (hphase : s.clk.phase ≠ 2) :
    Frame.guard s = { (Frame.windowEnd s none).toStake instant with
      clk := { ((Frame.windowEnd s none).toStake instant).clk with phase := 2 } } := by
  have hopen : ¬ ((!s.clk.ticking) = true ∨ s.clk.phase = 2) := by simp [htick, hphase]
  unfold Frame.guard
  rw [if_neg hopen]
  simp -proj only [← hinstant]

theorem Frame.guard_open {s : State} (htick : s.clk.ticking = true) (hphase : s.clk.phase ≠ 2) :
    (Frame.guard s).clk.phase = 2 ∧
    (s.clk.phase = 1 → (Frame.guard s).clk.stake = max s.clk.stake (s.nextTickAt - 500 * nsU)) := by
  obtain ⟨instant, hinstant⟩ : ∃ t, t = (Frame.windowEnd s none).nextTickAt - 500 * nsU := ⟨_, rfl⟩
  rw [Frame.guard_eq hinstant htick hphase]
  refine ⟨rfl, fun hone => ?_⟩
  rw [Frame.windowEnd_closed none (.inl (by simp [hone]))] at hinstant ⊢
  rw [← hinstant]
  exact State.toStake_stake s instant

/-! ### A change of render rate, clause by clause -/

section RateChange

/-! Each part of the change has its `instant`, a variable here: a proof that shows the instant's own sum of numerals would have the
kernel compute with it. -/

variable {s : State} {sec code instant : Nat} (hchange : s.clk.rateChange = some (sec, code))
include hchange

theorem Rate.ramp_due (hinstant : instant = sec * secU - 30 * msU) (hstep : s.clk.rateStep = 1) (hon : s.rateOn = true) :
    (Rate.ramp s).clk.rateStep = 2 ∧ (Rate.ramp s).clk.rateChange = some (sec, code) ∧
    (Rate.ramp s).clk.stake = max s.clk.stake instant ∧
    (Rate.ramp s).port.outGain = s.port.outGain.aim s.clk.nextTick (s.clk.nextTick + s.ms 20) 0 := by
  have hdue : ¬ (s.clk.rateStep ≠ 1 ∨ (!s.rateOn) = true) := by simp [hstep, hon]
  simp only [Rate.ramp, hchange, ← hinstant]
  simp only [if_neg hdue, Meas.abort_only, Port.rampDown, State.toStake_stake]
  refine ⟨trivial, ?_, trivial, ?_⟩
  · rw [State.toStake_eq]
    exact hchange
  · rw [State.toStake_eq]
    rfl

theorem Rate.mute_due (hinstant : instant = sec * secU - 5 * msU) (hstep : s.clk.rateStep = 2) :
    (Rate.mute s).clk.rateStep = 3 ∧ (Rate.mute s).clk.rateChange = some (sec, code) ∧
    (Rate.mute s).clk.stake = max s.clk.stake instant ∧
    (Rate.mute s).pstg.muted = true ∧ (Rate.mute s).pstg.muteKind = s.pstg.muteKind ||| 2 := by
  have hports : ∀ u : State, (if code = 0 then Port.leadOut u else u).clk = u.clk ∧
      (if code = 0 then Port.leadOut u else u).pstg = u.pstg := fun u => by
    split
    · rw [Port.leadOut_only u]
      exact ⟨rfl, rfl⟩
    · exact ⟨rfl, rfl⟩
  simp only [Rate.mute, hchange, ← hinstant]
  simp only [if_neg (not_not.mpr hstep), Pstg.muteAll_clk, Pstg.muteAll_muteKind, Pstg.muteAll_muted, hports, State.toStake_stake]
  refine ⟨trivial, ?_, trivial, trivial, ?_⟩
  · rw [State.toStake_eq]
    exact hchange
  · rw [State.toStake_eq]

theorem Rate.switch_held (hheld : s.ticksHeld = true) : Rate.switch s = s := by
  unfold Rate.switch
  rw [hchange]
  exact if_pos (.inr hheld)

/-- At second S: `a` stands at that instant with the outputs silent, `b` has no tick and no pending plait left, and `c` has every
unit at the new rate. -/
theorem Rate.switch_due {a b c d : State} (hstep : s.clk.rateStep < 4) (hgo : s.ticksHeld = false)
    (ha : a = (Frame.windowEnd (Rate.mute (Rate.ramp s)) none).toStake (sec * secU))
    (hb : b = if a.clk.ticking then (Plait.endPending a .abortLate (fun _ => true)).stopTicks
      else Plait.endPending a .abortLate (fun _ => true))
    (hc : c = Rate.units { b with clk := { b.clk with rate := code, rateStep := 4, nextTick := sec * rateHz code } } a.clk.rate code
      (sec * rateHz code))
    (hd : d = { c with clk := { c.clk with rateChange := none, rateStep := 0 } }) :
    Rate.switch s = if code = 0 then (if c.stake.softReset then Stake.clearPage d else d)
      else (Pstg.muteAll c 2).startTicks (sec * rateHz code) := by
  have hdue : ¬ (4 ≤ s.clk.rateStep ∨ s.ticksHeld = true) := by simp [hstep, hgo]
  unfold Rate.switch
  rw [hchange]
  simp -proj only [if_neg hdue, ← ha, ← hb, hd, hc]

theorem Rate.resume_due (hinstant : instant = sec * secU + 100 * msU) (hstep : 4 ≤ s.clk.rateStep)
    (hreset : s.stake.softReset = false) :
    (Rate.resume s).clk.rateChange = none ∧ (Rate.resume s).clk.rateStep = 0 ∧
    (Rate.resume s).clk.stake = max s.clk.stake instant ∧
    (s.pstg.muteKind = 2 → (Rate.resume s).pstg.muted = false) := by
  have hlater : (s.toStake instant).stake = s.stake ∧ (s.toStake instant).pstg = s.pstg := by
    rw [State.toStake_eq]
    exact ⟨rfl, rfl⟩
  obtain ⟨hstake, hpstg⟩ := hlater
  simp -zeta -proj only [Rate.resume, hchange, ← hinstant]
  simp only [if_neg (Nat.not_lt.mpr hstep), Pstg.endMute_stake, hstake, hreset, Bool.false_eq_true, if_false, Pstg.endMute_clk,
    State.toStake_stake]
  refine ⟨trivial, trivial, trivial, fun hkind => Pstg.endMute_rateChange ?_⟩
  rw [hpstg, hkind]

end RateChange

/-- Settles O12: each command's own operation takes the branch that the clause's conditions name, and what it then changes leaves the
times, phases and levels of which the clause speaks. -/
theorem frameCommandsAct : Obligations.FrameCommandsAct := by
  intro s hrun
  refine ⟨?tick, ?noTick, ?cutoff, ?windowEnd, ?noWindow, ?guard, ?rateChange⟩
  case tick =>
    intro env a d hon htick hbefore hclaim ha hd
    have hdue : Frame.due s.begin = true := by
      show (s.rateOn && s.clk.ticking && Frame.beforeChange s) = true
      simp [hon, htick, hbefore]
    rw [ha] at hd ⊢
    refine completes_frameTick hrun hclaim ⟨?_, rfl, rfl, rfl, rfl, fun hphase => Frame.beginTick_stake (s := s.begin) hphase⟩
    rw [hd]
    exact Frame.tick_due hdue
  case noTick =>
    intro env hnot hclaim
    refine completes_frameTick hrun hclaim (Frame.tick_notDue ?_)
    show (s.rateOn && s.clk.ticking && Frame.beforeChange s) = false
    obtain h | h | h := hnot <;> simp [h]
  case cutoff =>
    intro hphase htick
    obtain ⟨hpoint0, hpoint1⟩ := Frame.cutoff_open (s := s.begin) hphase htick
    exact ⟨fun hsteps => completes_act (exec_directCutoff s) hrun (hpoint0 hsteps),
      fun hsteps => completes_act (exec_directCutoff s) hrun (hpoint1 hsteps)⟩
  case windowEnd =>
    intro slack a b v c r hphase htick ha hb hv hc hr
    have hwork : Frame.windowEnd s.begin slack = Coil.corrRelease r.1 r.2 := by
      unfold Frame.windowEnd
      rw [if_neg (Frame.window_open (s := s.begin) hphase htick)]
      simp -proj only [← ha, ← hb]
      rw [hr, hc, hv]
      cases (Frame.path b).env.unloaded.isEmpty <;> cases slack <;> rfl
    have hclosed : c.clk.phase = 1 := by
      rw [hc, hv]
      split
      · rfl
      · exact congrArg Clock.phase (State.faultD_clk _ _ _ _)
    have hphase1 : (Coil.corrRelease r.1 r.2).clk.phase = 1 := by
      rw [hr, Frame.windowWork_clk, ← hclosed]
      cases slack <;> simp
    exact completes_act (exec_directWindowEnd slack s) hrun ⟨hwork ▸ hphase1, hwork⟩
  case noWindow =>
    exact fun slack hclosed => completes_act (exec_directWindowEnd slack s) hrun (Frame.windowEnd_closed slack hclosed)
  case guard =>
    exact fun htick hphase => completes_act (exec_guardBegin s) hrun (Frame.guard_open (s := s.begin) htick hphase)
  case rateChange =>
    intro sec code hchange
    refine ⟨?ramp, ?mute, ?held, ?switch, ?resume⟩
    case ramp =>
      exact fun hstep hon => completes_act (exec_rateChangeRamp s) hrun (Rate.ramp_due (s := s.begin) hchange rfl hstep hon)
    case mute =>
      exact fun hstep => completes_act (exec_rateChangeMute s) hrun (Rate.mute_due (s := s.begin) hchange rfl hstep)
    case held =>
      exact fun hheld => completes_act (exec_rateChangeSwitch s) hrun (Rate.switch_held (s := s.begin) hchange hheld)
    case switch =>
      intro a b c hstep hgo ha hb hc
      have hswitch := fun d => Rate.switch_due (s := s.begin) (d := d) hchange hstep hgo ha hb hc
      refine ⟨fun hcode => ?_, fun hcode d hd => ?_⟩
      · have hrate : Rate.switch s.begin = (Pstg.muteAll c 2).startTicks (sec * rateHz code) := (hswitch _ rfl).trans (if_neg hcode)
        refine completes_act (exec_rateChangeSwitch s) hrun ⟨hrate, ?_⟩
        rw [hrate, State.startTicks_clk]
        exact ⟨rfl, rfl, rfl⟩
      · exact completes_act (exec_rateChangeSwitch s) hrun ((hswitch d hd).trans (if_pos hcode))
    case resume =>
      exact fun hstep hreset => completes_act (exec_rateChangeResume s) hrun (Rate.resume_due (s := s.begin) hchange rfl hstep hreset)

end Sys2Proof.Machine
end

section
/-!
PROOFS. What the common end of a command keeps, and what it is on a calm state: the canonical forms, no freeze request left over, and
a message for every deliverable vector (R55, R59, R570).
-/
namespace Sys2Proof.Machine

/-! ### The interrupt record (R59) -/

/-- Interrupt messages change the interrupt record alone. -/
theorem Irq.send_eq (s : State) :
    Irq.send s = { s with ctl := { s.ctl with
      vecPend := s.unmasked s.vectors
      msix := s.ctl.msix ++ (List.range 64).filter (fun v => (s.unmasked s.vectors).testBit v && !s.ctl.vecPend.testBit v) } } := by
  unfold Irq.send
  by_cases hsent : s.unmasked s.vectors = s.ctl.vecPend
  · simp [hsent]
  · simp [hsent]

/-- After the messages have gone out, the record of sent vectors holds exactly those that are pending and not masked. -/
theorem Irq.send_vecPend (s : State) : (Irq.send s).ctl.vecPend = (Irq.send s).unmasked (Irq.send s).vectors := by
  rw [Irq.send_eq]
  rfl

/-! ### The invariant of every step -/

theorem Freeze.requested_freezeReq (s : State) : (Freeze.requested s).fault.freezeReq = none := by
  unfold Freeze.requested
  split
  · rfl
  · assumption

theorem State.settled_iff (s : State) :
    s.settled = true ↔ s.wf = true ∧ s.fault.freezeReq = none ∧ s.ctl.vecPend = s.unmasked s.vectors := by
  simp only [State.settled, Bool.and_eq_true, Option.isNone_iff_eq_none, beq_iff_eq, and_assoc]

theorem State.settled_pending (s : State) (q : List Instr) : ({ s with pending := q } : State).settled = s.settled := rfl

/-- Messages sent over tables in canonical form, with no freeze requested, leave a settled state. -/
theorem Irq.send_settled {s : State} (hwf : s.wf = true) (hfreeze : s.fault.freezeReq = none) : (Irq.send s).settled = true := by
  refine (State.settled_iff _).mpr ⟨?_, ?_, Irq.send_vecPend s⟩ <;> rw [Irq.send_eq]
  · exact hwf
  · exact hfreeze

/-- Whatever a command has led to, its common end leaves a settled state. -/
theorem State.close_settled (s t : State) : (State.close s t).settled = true := by
  simp only [State.close, State.settled_pending]
  refine Irq.send_settled (State.wf_canon _) ?_
  rw [State.canon_fault, Freeze.requested_freezeReq]

theorem State.force_settled {s t : State} {f : State → State} (h : s.force f = .next t) : t.settled = true := by
  obtain rfl : State.close s (f s.begin) = t := by simpa [State.force] using h
  exact State.close_settled s _

/-- A command that answers a next state ends as every command does. -/
theorem exec_settled {c : Instr} {s t : State} (hnext : exec c s = .next t) : t.settled = true := by
  obtain ⟨env, rfl⟩ | ⟨-, f, hact⟩ | ⟨-, f, hforce⟩ := exec_shape c s
  · obtain hfault | hact := exec_frameTick_shape env s
    · rw [hfault] at hnext
      cases hnext
    · exact State.force_settled (hact.symm.trans hnext)
  · exact State.force_settled (hact.symm.trans hnext)
  · exact State.force_settled (hforce.symm.trans hnext)

/-- Settles O5: the end of a command and of a running device's own progress leaves a settled state, whatever it began with; only a
device that stands still keeps the state that it has. -/
theorem stepKeepsSettled : Obligations.StepKeepsSettled := by
  intro s t hs hnext
  unfold step at hnext
  split at hnext
  · unfold State.idle at hnext
    split at hnext
    · exact State.force_settled hnext
    · cases hnext
      exact hs
  · exact exec_settled hnext

/-! ### The state after reset (R55, R56, R505) -/

theorem State.pageUp_reset (p : Nat) : State.reset.pageUp p = false := by
  have hrun : State.reset.running = false := rfl
  simp [State.pageUp, hrun]

/-- Settles O6: every table of the state after reset is empty, and the device is held in reset. -/
theorem resetIsSettled : Obligations.ResetIsSettled :=
  ⟨rfl, rfl, rfl, fun _ => ⟨rfl, rfl⟩, rfl, State.pageUp_reset, rfl⟩

/-! ### The end of a command on a calm state -/

theorem foldl_fixed {σ α : Type} {f : σ → α → σ} {s : σ} {l : List α} (h : ∀ a ∈ l, f s a = s) : l.foldl f s = s :=
  List.foldlRecOn l f (motive := (· = s)) rfl fun _ ht a ha => ht ▸ h a ha

theorem Osier.sync_of_synced {s : State} (h : Osier.synced s = true) : Osier.sync s = s := by
  refine foldl_fixed fun k hk => ?_
  have hk := List.all_eq_true.mp h k hk
  simp only [Bool.and_eq_true, Bool.not_eq_true'] at hk
  simp only [hk.1, hk.2, Bool.false_eq_true, if_false]

theorem Coil.creditRise_of_noted {s : State} (h : s.coil.noCredit = decide (Coil.credit s = 0)) : Coil.creditRise s = s := by
  unfold Coil.creditRise
  by_cases hc : Coil.credit s = 0 <;> simp [h, hc]

theorem Ptp.follow_of_all {s : State} (h : ([0, 1] : List Nat).all (fun p => Ptp.enabled s p != ((Ptp.port s p).state == 3)) = true) :
    Ptp.follow s = s := by
  unfold Ptp.follow
  refine if_neg fun hany => ?_
  obtain ⟨p, hp, heq⟩ := List.any_eq_true.mp hany
  have hne := List.all_eq_true.mp h p hp
  simp only [bne, heq, Bool.not_true, Bool.false_eq_true] at hne

theorem Stake.holdSlew_steady {s : State} (h : (s.stake.servo != 3 || s.stake.holdI.all (fun i => s.clk.incr == i)) = true) :
    Stake.holdSlew s = s := by
  unfold Stake.holdSlew
  cases hi : s.stake.holdI with
  | none => rfl
  | some m =>
    refine if_pos ?_
    simpa [hi] using h

theorem Stake.progress_idle {s : State} (hstage : s.stake.stepStage = 0) (hwait : s.stake.stepWait = none) : Stake.progress s = s := by
  simp [Stake.progress, hstage, hwait]

theorem Shutdown.progress_idle (k : Nat) {s : State} (h : s.boot.phase ≠ 9) : Shutdown.progress k s = s := by
  cases k with
  | zero => rfl
  | succ k => exact if_neg fun hdue => h hdue.1

theorem Plait.lost_none {s : State}
    (h : (!s.isStandby || Plait.slots.all (fun k => (Plait.slot s k).state != .open || (Plait.slot s k).owner == 11)) = true) :
    Plait.lost s = s := by
  unfold Plait.lost
  cases hstandby : s.isStandby with
  | false => rfl
  | true =>
    refine foldl_fixed fun k hk => ?_
    rw [hstandby, Bool.not_true, Bool.false_or] at h
    have hk := List.all_eq_true.mp h k hk
    refine if_neg fun hlost => ?_
    simp [hlost.1, hlost.2] at hk

theorem Frame.go_still {s : State} (h : (s.clk.phase != 0 || !s.clk.ticking) = true) : Frame.go s = s := by
  refine if_neg fun hgo => ?_
  simp [hgo.1, hgo.2] at h

/-- On a calm state in canonical form, the end of a command that makes no Stake step only sends messages. -/
theorem State.close_calm {s t : State} (hwf : t.wf = true) (hcalm : t.calm = true)
    (hstep : t.rd Reg.stakeStepCount = s.rd Reg.stakeStepCount) : State.close s t = State.sealed s t := by
  simp only [State.calm, Bool.and_eq_true] at hcalm
  obtain ⟨⟨⟨⟨⟨⟨⟨⟨⟨⟨hgo, hsync⟩, hcredit⟩, hptp⟩, hslew⟩, hstage⟩, hwait⟩, hphase⟩, hfreeze⟩, hrelease⟩, hlost⟩ := hcalm
  have hprogress : Stake.progress t = t := Stake.progress_idle (beq_iff_eq.mp hstage) (Option.isNone_iff_eq_none.mp hwait)
  have hstepped : Hoop.steppedOut t (s.rd Reg.stakeStepCount) = t := if_pos hstep
  have hresume : Freeze.progress t = t := if_neg (bne_iff_ne.mp hrelease)
  have hrequest : Freeze.requested t = t := by
    unfold Freeze.requested
    rw [Option.isNone_iff_eq_none.mp hfreeze]
  simp only [State.close, Frame.go_still hgo, Osier.sync_of_synced hsync, Coil.creditRise_of_noted (beq_iff_eq.mp hcredit),
    Ptp.follow_of_all hptp, Stake.holdSlew_steady hslew, hprogress, Shutdown.progress_idle 8 (bne_iff_ne.mp hphase), hstepped,
    Plait.lost_none hlost, hresume, hrequest, State.canon_of_wf t hwf, State.sealed]

/-- Settles O8: every part of a command's end but the interrupt messages acts only on what a calm state has not. -/
theorem closeOfCalmStateOnlySendsMessages : Obligations.CloseOfCalmStateOnlySendsMessages := by
  intro s t hwf hcalm hstep
  rw [State.close_calm hwf hcalm hstep]
  refine ⟨rfl, ?_, ?_, ?_, ?_⟩ <;> unfold State.sealed <;> rw [Irq.send_eq]

end Sys2Proof.Machine
end

section
/-!
PROOFS. Staged registers: where they lie, what a write to one behind held writes does, and what a read of its two copies gives (R50,
R51).
-/
namespace Sys2Proof.Machine

/-! ### Held writes leave the device as it runs (R147, R203) -/

/-- A record may request a freeze and enters none. -/
theorem State.addRecord_frozen (s : State) (p code cls d : Nat) : (s.addRecord p code cls d).fault.frozen = s.fault.frozen := by
  unfold State.addRecord
  cases s.repeats p code <;> simp only [] <;> repeat' split
  all_goals simp

theorem State.faultD_frozen (s : State) (p code d : Nat) : (s.faultD p code d).fault.frozen = s.fault.frozen := by
  have htick : ((s.wrF (Reg.faultCause p) 7 0 code).faultTick p).fault = s.fault := State.count_fault _ _ _
  unfold State.faultD
  cases unitOf p with
  | none => exact congrArg FaultSt.frozen htick
  | some u =>
    simp only []
    split
    · exact congrArg FaultSt.frozen htick
    · rw [State.addRecord_frozen, htick]

/-- From `s` to `t` neither whether the device is frozen nor a register of the HOOP page has changed. -/
def State.pairKept (s t : State) : Prop := t.fault.frozen = s.fault.frozen ∧ ∀ a, a / 0x1000 = 8 → t.rd a = s.rd a

namespace State.pairKept

theorem refl (s : State) : State.pairKept s s := ⟨rfl, fun _ _ => rfl⟩

theorem trans {s t u : State} (hst : State.pairKept s t) (htu : State.pairKept t u) : State.pairKept s u :=
  ⟨htu.1.trans hst.1, fun a ha => (htu.2 a ha).trans (hst.2 a ha)⟩

theorem foldl {α : Type} {f : State → α → State} (h : ∀ s a, State.pairKept s (f s a)) (l : List α) (s : State) :
    State.pairKept s (l.foldl f s) :=
  List.foldlRecOn l f (motive := State.pairKept s) (refl s) fun t ht a _ => ht.trans (h t a)

end State.pairKept

theorem State.irq_pairKept (s : State) {p : Nat} (i : Nat) (hp : p ≠ 8) : State.pairKept s (s.irq p i) :=
  ⟨rfl, fun a ha => State.irq_ne s p i (by unfold Reg.irqStatus; omega)⟩

theorem State.count_pairKept (s : State) {a : Nat} (n : Nat) (ha : a / 0x1000 ≠ 8) : State.pairKept s (s.count a n) :=
  ⟨congrArg FaultSt.frozen (State.count_fault s a n), fun b hb => State.count_ne s n (by rintro rfl; exact ha hb)⟩

theorem State.faultD_pairKept (s : State) {p : Nat} (code d : Nat) (hp : p ≠ 8) : State.pairKept s (s.faultD p code d) := by
  refine ⟨State.faultD_frozen s p code d, fun a ha => State.faultD_ne s p code d ?_ ?_ ?_ ?_⟩
  · unfold Reg.faultCause
    omega
  · unfold Reg.faultCount
    omega
  · unfold Reg.irqStatus
    omega
  · rintro rfl
    exact absurd ha (by decide)

theorem Coil.bump_pairKept (s : State) (i : Nat) (d : Int) : State.pairKept s (Coil.bump s i d) := by
  unfold Coil.bump
  simp only []
  split
  · exact .trans (t := (Coil.setNode s i _).irq Coil.page 6) (State.irq_pairKept _ 6 (by decide)) (State.faultD_pairKept _ _ _ (by decide))
  · exact .refl s

theorem Coil.armNode_pairKept (s : State) (i : Nat) : State.pairKept s (Coil.armNode s i) := by
  unfold Coil.armNode
  simp only []
  split
  · exact .refl s
  · exact Coil.bump_pairKept s i _

theorem Coil.addAct_pairKept (s : State) (i cause key : Nat) (d : Option Nat) : State.pairKept s (Coil.addAct s i cause key d) := by
  unfold Coil.addAct
  simp only []
  split
  · exact State.count_pairKept { s with coil := _ } 1 (by decide)
  · exact .refl s

theorem Coil.rearm_pairKept (s : State) (i : Nat) : State.pairKept s (Coil.rearm s i) := by
  unfold Coil.rearm
  simp only []
  split
  · exact Coil.armNode_pairKept s i
  · exact .refl s

theorem Coil.doRelease_pairKept (s : State) (i cause key : Nat) : State.pairKept s (Coil.doRelease s i cause key).1 := by
  unfold Coil.doRelease
  simp only []
  split
  · exact .refl s
  · split
    · exact .refl s
    · exact Coil.addAct_pairKept _ i cause key _

theorem Coil.tryRelease_pairKept (s : State) (i cause key : Nat) : State.pairKept s (Coil.tryRelease s i cause key).1 := by
  unfold Coil.tryRelease
  simp only []
  split
  · exact .refl s
  · split
    · split
      · exact .refl s
      · exact Coil.doRelease_pairKept s i cause key
    · exact Coil.doRelease_pairKept s i cause key

theorem Coil.endAtOnce_pairKept (s : State) (i : Nat) : State.pairKept s (Coil.endAtOnce s i) := by
  unfold Coil.endAtOnce
  by_cases hc : Coil.cls s i = 1
  · simp only [if_pos hc]
    split <;> exact .trans (.refl s) (Coil.rearm_pairKept _ i)
  · simp only [if_neg hc]
    split <;> exact Coil.rearm_pairKept s i

theorem Coil.settle_pairKept (f : Nat) (s : State) (cause key : Nat) (l : List (Nat × Option Bool)) :
    State.pairKept s (Coil.settle f s cause key l) := by
  induction f generalizing s l with
  | zero => exact .refl s
  | succ f ih =>
    cases l with
    | nil => exact .refl s
    | cons e rest =>
      obtain ⟨j, sig⟩ := e
      have hbump : State.pairKept s (if sig.isSome then Coil.bump s j (-1) else s) := by
        split
        · exact Coil.bump_pairKept s j _
        · exact .refl s
      unfold Coil.settle
      simp only []
      generalize (if sig.isSome then Coil.bump s j (-1) else s) = s1 at hbump ⊢
      have hlate : State.pairKept s (if sig = some true then Coil.setNode s1 j { Coil.node s1 j with lateIn := true } else s1) := by
        split <;> exact hbump
      generalize (if sig = some true then Coil.setNode s1 j { Coil.node s1 j with lateIn := true } else s1) = s2 at hlate ⊢
      have htry := hlate.trans (Coil.tryRelease_pairKept s2 j cause key)
      cases (Coil.tryRelease s2 j cause key).2 with
      | none => exact htry.trans (ih _ rest)
      | some b => exact (htry.trans (Coil.endAtOnce_pairKept _ j)).trans (ih _ _)

theorem Coil.arm_pairKept (s : State) (i cause key : Nat) : State.pairKept s (Coil.arm s i cause key) :=
  (Coil.armNode_pairKept s i).trans (Coil.settle_pairKept _ _ _ _ _)

theorem Coil.creditRise_pairKept (s : State) : State.pairKept s (Coil.creditRise s) := by
  unfold Coil.creditRise
  split
  · exact State.irq_pairKept { s with coil := _ } 5 (by decide)
  · split <;> exact .refl s

theorem Coil.submitNow_pairKept (s : State) (i : Nat) : State.pairKept s (Coil.submitNow s i) := by
  unfold Coil.submitNow
  simp only []
  split
  · split
    · refine .trans ?_ (Coil.arm_pairKept _ i _ _)
      exact .refl s
    · exact .refl s
  · exact State.faultD_pairKept _ _ _ (by decide)

/-- From `s` to `t` every effective copy and what decides whether a page answers is as it was. -/
def State.pagesKept (s t : State) : Prop := t.eff = s.eff ∧ t.variant = s.variant ∧ ∀ p, t.pageUp p = s.pageUp p

namespace State.pagesKept

theorem refl (s : State) : State.pagesKept s s := ⟨rfl, rfl, fun _ => rfl⟩

theorem trans {s t u : State} (hst : State.pagesKept s t) (htu : State.pagesKept t u) : State.pagesKept s u :=
  ⟨htu.1.trans hst.1, htu.2.1.trans hst.2.1, fun p => (htu.2.2 p).trans (hst.2.2 p)⟩

theorem foldl {α : Type} {f : State → α → State} (h : ∀ s a, State.pagesKept s (f s a)) (l : List α) (s : State) :
    State.pagesKept s (l.foldl f s) :=
  List.foldlRecOn l f (motive := State.pagesKept s) (refl s) fun t ht a _ => ht.trans (h t a)

end State.pagesKept

theorem State.coilOnly.pagesKept {s t : State} (h : State.coilOnly s t) (hfrozen : t.fault.frozen = s.fault.frozen) :
    State.pagesKept s t := by
  unfold State.coilOnly at h
  generalize t.fault = f at h hfrozen
  rw [h]
  refine ⟨rfl, rfl, fun p => ?_⟩
  simp only [State.pageUp, State.running, State.domainOn, hfrozen]

theorem State.irq_pagesKept (s : State) (p i : Nat) : State.pagesKept s (s.irq p i) := ⟨rfl, rfl, fun _ => rfl⟩

theorem State.count_pagesKept (s : State) (a n : Nat) : State.pagesKept s (s.count a n) := by
  unfold State.count
  split <;> exact ⟨rfl, rfl, fun _ => rfl⟩

theorem State.faultCode_pagesKept (s : State) (p code : Nat) : State.pagesKept s (s.fault' p code) :=
  (State.coilOnly_faultD s p code 0).pagesKept (State.faultD_frozen s p code 0)

theorem Coil.creditRise_pagesKept (s : State) : State.pagesKept s (Coil.creditRise s) :=
  (Coil.creditRise_only s).pagesKept (Coil.creditRise_pairKept s).1

theorem Coil.submitRelease_pagesKept (s : State) : State.pagesKept s (Coil.submitRelease s) := by
  have hfree : State.pagesKept s
      (if Coil.credit s = 0 then Coil.creditRise (s.toMono (((s.coil.submits.map (·.1)).min?).getD 0)) else s) := by
    split
    · exact .trans ⟨rfl, rfl, fun _ => rfl⟩ (Coil.creditRise_pagesKept _)
    · exact .refl s
  refine hfree.trans ?_
  unfold Coil.submitRelease
  simp only []
  generalize (if Coil.credit s = 0 then _ else s) = s1
  cases s1.coil.heldSubmits with
  | nil => exact .refl s1
  | cons e rest =>
    simp only []
    split
    · exact .refl s1
    · refine .trans ?_ (Coil.creditRise_pagesKept _)
      exact .trans (t := { s1 with coil := { s1.coil with heldSubmits := rest } }) ⟨rfl, rfl, fun _ => rfl⟩
        ((Coil.submitNow_only _ e.2).pagesKept (Coil.submitNow_pairKept _ e.2).1)

theorem Coil.flush_pagesKept (s : State) (ini : Nat) : State.pagesKept s (Coil.flush s ini) := by
  refine .foldl (fun s _ => ?_) _ s
  split
  · exact Coil.submitRelease_pagesKept s
  · exact .refl s

theorem Warp.load_pagesKept (s : State) (i : Nat) (targets : List (Nat × Int)) (l h : Nat) :
    State.pagesKept s (Warp.load s i targets l h) := by
  unfold Warp.load
  refine State.pagesKept.trans (.foldl (fun s j => ?_) _ s) ⟨rfl, rfl, fun _ => rfl⟩
  exact ⟨rfl, rfl, fun _ => rfl⟩

theorem Warp.applyPost_pagesKept (s : State) (row col : Nat) (gain : Int) (l : Nat) :
    State.pagesKept s (Warp.applyPost s row col gain l) := by
  unfold Warp.applyPost
  split
  · exact ((State.count_pagesKept s _ 1).trans (State.irq_pagesKept _ _ _)).trans (State.faultCode_pagesKept _ _ _)
  · split
    · exact Warp.load_pagesKept s _ _ _ _
    · exact ⟨rfl, rfl, fun _ => rfl⟩

theorem Warp.accept_pagesKept (s : State) : State.pagesKept s (Warp.accept s) := by
  unfold Warp.accept
  cases s.warp.held with
  | none => exact .refl s
  | some p =>
    simp only [Warp.enqueue]
    split
    · exact ⟨rfl, rfl, fun _ => rfl⟩
    · exact .trans (t := { s with warp := { s.warp with held := none } }) ⟨rfl, rfl, fun _ => rfl⟩ (Warp.applyPost_pagesKept _ _ _ _ _)

/-- The held writes that an access waits behind act on no effective copy, and stop or start no page. -/
theorem Weave.behind_pagesKept (s : State) (ini a : Nat) : State.pagesKept s (Weave.behind s ini a) := by
  have hcoil : State.pagesKept s (if a = Reg.coilSubmit then s
      else if a / 0x1000 = Coil.page then s.coil.heldSubmits.foldl (fun (s : State) e => Coil.flush s e.1) s
      else Coil.flush s ini) := by
    split
    · exact .refl s
    · split
      · exact .foldl (fun s (e : Nat × Nat) => Coil.flush_pagesKept s e.1) _ s
      · exact Coil.flush_pagesKept s ini
  unfold Weave.behind
  simp only []
  split
  · exact hcoil.trans (Warp.accept_pagesKept _)
  · exact hcoil

/-! ### Where the staged registers lie (R46, R50) -/

/-- A register that is found is a row of the table, at a place that the row has. -/
theorem findReg_eq_some {l : List RegInfo} {o : Nat} {r : RegInfo} {i : Nat} (h : findReg l o = some (r, i)) :
    r ∈ l ∧ i < r.count ∧ r.off + i * r.stride = o := by
  induction l with
  | nil => cases h
  | cons q l ih =>
    have hrest : findReg l o = some (r, i) → r ∈ q :: l ∧ i < r.count ∧ r.off + i * r.stride = o := fun h =>
      ⟨List.mem_cons_of_mem q (ih h).1, (ih h).2⟩
    simp only [findReg] at h
    generalize (if q.stride = 0 then 0 else (o - q.off) / q.stride) = k at h
    split at h
    · split at h
      next hplace =>
        cases h
        exact ⟨List.mem_cons_self, hplace⟩
      · exact hrest h
    · exact hrest h

/-- The units that have pages. -/
def unitCodes : List Nat :=
  [0x0, 0x1, 0x2, 0x3, 0x4, 0x5, 0x6, 0x7, 0x8, 0x10, 0x11, 0x13, 0x20, 0x30, 0x38, 0x3C, 0x48, 0x49, 0x50, 0x51, 0x52, 0x53, 0x54, 0x55,
    0x58, 0x60, 0xE0, 0xE8, 0xF0, 0xF8]

theorem unitOf_mem {p u : Nat} (h : unitOf p = some u) : u ∈ unitCodes := by
  have hp : p < 256 := by
    by_contra hge
    rw [unitOf_ge (not_lt.mp hge)] at h
    cases h
  have hall : ∀ p < 256, (unitOf p).all (fun u => unitCodes.contains u) = true := by decide +kernel
  simpa [h] using hall p hp

/-- The offsets of unit `u` whose write is an action of the unit. -/
def Page.actsAt (u o : Nat) : Bool :=
  match u with
  | 0x01 => decide (0x40 ≤ o ∧ o < 0x140 ∧ o % 0x20 = 0)
  | 0x02 => o == 0x208
  | 0x03 => o == 0x40 || o == 0x48 || o == 0x4C || o == 0x50 || o == 0x54 || o == 0x58
  | 0x04 => o == 0x50 || o == 0x58 || o == 0x68
  | 0x05 => o == 0x58 || o == 0x5C
  | 0x06 => o == 0xC8
  | 0x07 => o == 0x40 || o == 0x50
  | 0x08 => o == 0x48
  | 0x10 => o == 0x74 || o == 0x88 || o == 0x8C
  | 0x11 => o == 0xA0 || o == 0xC8
  | 0x48 => o == 0x50 || o == 0x58
  | 0x49 => o == 0x40 || decide (0x100 ≤ o ∧ o < 0x300 ∧ o % 0x20 = 0)
  | 0x50 => o == 0x54 || o == 0x6C || o == 0xC0
  | 0x52 => o == 0x50
  | 0x53 => o == 0x64 || o == 0x68 || o == 0x6C || o == 0x70
  | 0x54 => o == 0x4C
  | 0x55 => o == 0x80
  | 0x58 => o == 0x44 || o == 0x64 || o == 0x68
  | 0x60 => o == 0x64
  | 0xE0 => decide (0x200 ≤ o ∧ o < 0x400 ∧ o % 0x40 = 0x2C)
  | 0xE8 => o == 0x48
  | 0xF0 => o == 0x48
  | _ => false

theorem Page.action_none {p u o : Nat} (hu : unitOf p = some u) (h : Page.actsAt u o = false) (s : State) (ini : Nat) (tick : Option Nat)
    (v : Word) : Page.action s ini tick p o v = none := by
  unfold Page.action
  rw [hu]
  unfold Page.actsAt at h
  split <;> simp_all [Plait.write]

/-- The offsets of unit `u` that may read live state. A unit without staged registers counts with all of its offsets, and the group
pages of the power stage as the first one. -/
def Page.liveAt (u o : Nat) : Bool :=
  match u with
  | 0x01 => decide ((0x40 ≤ o ∧ o < 0x140 ∧ o % 0x20 = 0) ∨ o = 0x180 ∨ o = 0x184)
  | 0x06 => decide (o = 0x4C ∨ o = 0x60 ∨ o = 0xC4)
  | 0x08 => decide (o = 0x4C ∨ o = 0x54 ∨ o = 0x80 ∨ o = 0x84)
  | 0x10 => decide (o = 0x110 ∨ o = 0xB4 ∨ (0x40 ≤ o ∧ o < 0x58) ∨ o = 0x78 ∨ o = 0x80 ∨ o = 0x108 ∨ o = 0x10C ∨
      (0x140 ≤ o ∧ o < 0x240 ∧ o % 0x20 = 0x1C) ∨ (0x240 ≤ o ∧ o < 0x280))
  | 0x11 => decide (o = 0x58 ∨ o = 0x5C ∨ o = 0x60 ∨ (0xB0 ≤ o ∧ o < 0xC8))
  | 0x13 => decide (o = 0x64 ∨ o = 0x68)
  | 0x20 => decide (o = 0x60)
  | 0x30 | 0x38 | 0x48 | 0x51 | 0x52 | 0x53 | 0xF8 => false
  | 0x3C => decide (o = 0x48 ∨ o = 0x54)
  | 0x50 => decide (o = 0x58 ∨ o = 0xC4 ∨ (0x140 ≤ o ∧ o < 0x180))
  | 0x54 => decide (o = 0x58 ∨ o = 0x5C)
  | 0x55 => decide (0x100 ≤ o ∧ o < 0x340)
  | 0x58 => decide (o = 0x6C ∨ o = 0x70 ∨ o = 0x88 ∨ o = 0x8C)
  | 0xE0 => decide (o = 0x58 ∨ o = 0x5C ∨ o = 0x60 ∨ o = 0x74 ∨ (0x200 ≤ o ∧ o < 0x400 ∧ 0x28 ≤ o % 0x40))
  | 0xE8 => decide (o = 0x4C ∨ (0x80 ≤ o ∧ o < 0xC0) ∨ (0x400 ≤ o ∧ o < 0x600))
  | 0xF0 => decide (o = 0x44 ∨ o = 0x60)
  | _ => true

/-- A register that only the page of the first power-stage group has, on the page of another. -/
def Pstg.firstOnly (p o : Nat) : Prop := 0xE1 ≤ p ∧ p ≤ 0xE7 ∧ (o = 0x70 ∨ (0x100 ≤ o ∧ o < 0x180))

theorem unitOf_lt {p u : Nat} (h : unitOf p = some u) : p < 256 := by
  by_contra hge
  rw [unitOf_ge (not_lt.mp hge)] at h
  cases h

theorem unitOf_pstg {p : Nat} (h : unitOf p = some 0xE0) : 0xE0 ≤ p ∧ p ≤ 0xE7 := by
  have hall : ∀ p < 256, unitOf p = some 0xE0 → 0xE0 ≤ p ∧ p ≤ 0xE7 := by decide +kernel
  exact hall p (unitOf_lt h) h

section Live

variable {o : Nat} (s : State)

theorem HostPage.read_none (hlive : Page.liveAt 0x01 o = false) : HostPage.read s o = none := by
  have hoff := of_decide_eq_false hlive
  unfold HostPage.read
  repeat rw [if_neg (by omega)]

theorem Budget.read_none (hlive : Page.liveAt 0x06 o = false) : Budget.read s o = none := by
  have hoff := of_decide_eq_false hlive
  unfold Budget.read
  repeat rw [if_neg (by omega)]

theorem Hoop.read_none (hlive : Page.liveAt 0x08 o = false) : Hoop.read s o = none := by
  have hoff := of_decide_eq_false hlive
  unfold Hoop.read
  repeat rw [if_neg (by omega)]

theorem Stream.read_none (hlive : Page.liveAt 0x13 o = false) : Stream.read s o = none := by
  have hoff := of_decide_eq_false hlive
  unfold Stream.read
  repeat rw [if_neg (by omega)]

theorem Scene.read_none (hlive : Page.liveAt 0x50 o = false) : Scene.read s o = none := by
  have hoff := of_decide_eq_false hlive
  unfold Scene.read
  repeat rw [if_neg (by omega)]

theorem Coil.read_none (hlive : Page.liveAt 0x58 o = false) : Coil.read s o = none := by
  have hoff := of_decide_eq_false hlive
  unfold Coil.read
  repeat rw [if_neg (by omega)]

theorem Lsup.read_none (hlive : Page.liveAt 0xE8 o = false) : Lsup.read s o = none := by
  have hoff := of_decide_eq_false hlive
  unfold Lsup.read
  repeat rw [if_neg (by omega)]

theorem Net.read_none (k : Nat) (hlive : Page.liveAt 0x11 o = false) : Net.read s k o = none := by
  have hoff := of_decide_eq_false hlive
  unfold Net.read
  repeat rw [if_neg (by omega)]

theorem Stake.readAll_none (hlive : Page.liveAt 0x10 o = false) : Stake.readAll s o = none := by
  have hoff := of_decide_eq_false hlive
  unfold Stake.readAll Stake.read
  repeat rw [if_neg (by omega)]

theorem Pstg.read_none {p : Nat} (hp : unitOf p = some 0xE0) (hlive : Page.liveAt 0xE0 o = false) (hfirst : ¬ Pstg.firstOnly p o) :
    Pstg.read s (p - 0xE0) o = none := by
  have hoff := of_decide_eq_false hlive
  have hgroup := unitOf_pstg hp
  unfold Pstg.firstOnly at hfirst
  unfold Pstg.read
  rw [if_neg (by omega), if_neg (by omega), if_neg (by omega), if_neg (by omega), if_neg (by omega)]
  split
  · simp only []
    split
    iterate 5 next => omega
    rfl
  · rfl

end Live

theorem Page.live_none {p u o : Nat} (hu : unitOf p = some u) (hlive : Page.liveAt u o = false) (hfirst : ¬ Pstg.firstOnly p o)
    (s : State) (ini : Nat) : Page.live s ini p o = none := by
  unfold Page.live
  rw [hu]
  split
  next h => cases h; cases hlive
  next h => cases h; exact HostPage.read_none s hlive
  next h => cases h; cases hlive
  next h => cases h; cases hlive
  next h => cases h; cases hlive
  next h => cases h; cases hlive
  next h => cases h; exact Budget.read_none s hlive
  next h => cases h; cases hlive
  next h => cases h; exact Hoop.read_none s hlive
  next h => cases h; exact Stake.readAll_none s hlive
  next h => cases h; exact Net.read_none s _ hlive
  next h => cases h; exact Stream.read_none s hlive
  next h => cases h; exact if_neg (of_decide_eq_false hlive)
  next h =>
    cases h
    have hoff := of_decide_eq_false hlive
    rw [if_neg (by omega), if_neg (by omega)]
  next h => cases h; cases hlive
  next h => cases h; exact Scene.read_none s hlive
  next h =>
    cases h
    have hoff := of_decide_eq_false hlive
    rw [if_neg (by omega), if_neg (by omega)]
  next h => cases h; exact if_neg (of_decide_eq_false hlive)
  next h => cases h; exact Coil.read_none s hlive
  next h => cases h; cases hlive
  next h => cases h; exact Pstg.read_none s hu hlive hfirst
  next h => cases h; exact Lsup.read_none s hlive
  next h =>
    cases h
    have hoff := of_decide_eq_false hlive
    rw [if_neg (by omega), if_neg (by omega)]
  next => rfl

/-- Every staged register lies past the page header, its write is no action, and it reads no live state. -/
theorem unitRegs_staged : ∀ u ∈ unitCodes, ∀ r ∈ unitRegs u, r.staged = true → w32 r.rw ≠ 0 ∧ ∀ i < r.count,
    (0x40 ≤ r.off + i * r.stride ∧ r.off + i * r.stride < 0x800 ∧ (r.off + i * r.stride) % 4 = 0) ∧
    Page.actsAt u (r.off + i * r.stride) = false ∧ Page.liveAt u (r.off + i * r.stride) = false := by decide +kernel

/-- The page header has no staged register: one is a row of the page's unit. -/
theorem regAt_staged {p o : Nat} {r : RegInfo} {i : Nat} (h : regAt p o = some (r, i)) (hstaged : r.staged = true) :
    ∃ u, unitOf p = some u ∧ r ∈ unitRegs u ∧ i < r.count ∧ r.off + i * r.stride = o := by
  have hheader : ∀ q ∈ hdrRegs, q.staged = false := by decide
  unfold regAt at h
  cases hu : unitOf p with
  | none => rw [hu] at h; cases h
  | some u =>
    rw [hu] at h
    refine ⟨u, rfl, ?_⟩
    cases hh : findReg hdrRegs o with
    | none => exact findReg_eq_some (by simpa [hh] using h)
    | some q =>
      obtain rfl : q = (r, i) := by simpa [hh] using h
      rw [hheader r (findReg_eq_some hh).1] at hstaged
      cases hstaged

@[simp] theorem State.rd_unlatch (s : State) (a b : Nat) : (s.unlatch a).rd b = s.rd b := rfl

/-- What a direct write leaves in a register that holds a value: the written bits of those that software writes, and the others less
those that a one clears (R49). -/
def RegInfo.stored (r : RegInfo) (old v : Word) : Word := (v &&& w32 r.rw) ||| (old &&& ~~~(w32 r.rw) &&& ~~~(v &&& w32 r.w1c))

theorem Page.store_direct {p o : Nat} {r : RegInfo} {i : Nat} (hreg : regAt p o = some (r, i)) (hwritten : w32 r.rw ≠ 0 ∨ w32 r.w1c ≠ 0)
    (s : State) (v : Word) :
    Page.store s none p o v = (s.wr (p * 0x1000 + o) (r.stored (s.rd (p * 0x1000 + o)) v)).unlatch (p * 0x1000 + o) := by
  have hsome : ¬ (w32 r.rw = 0 ∧ w32 r.w1c = 0) := fun h => hwritten.elim (fun hrw => hrw h.1) (fun hw1c => hw1c h.2)
  unfold Page.store
  rw [hreg]
  simp only []
  rw [if_neg hsome, if_neg (by simp)]
  rfl

section Staged

variable {p o : Nat} {r : RegInfo} {i : Nat} (hreg : regAt p o = some (r, i)) (hstaged : r.staged = true)
include hreg hstaged

/-- Where a staged register lies, and that software writes it. -/
theorem regAt_staged_place : w32 r.rw ≠ 0 ∧ 0x40 ≤ o ∧ o < 0x800 ∧ o % 4 = 0 := by
  obtain ⟨u, hu, hr, hi, rfl⟩ := regAt_staged hreg hstaged
  obtain ⟨hrw, hrow⟩ := unitRegs_staged u (unitOf_mem hu) r hr hstaged
  exact ⟨hrw, (hrow i hi).1⟩

theorem Page.action_staged (s : State) (ini : Nat) (tick : Option Nat) (v : Word) : Page.action s ini tick p o v = none := by
  obtain ⟨u, hu, hr, hi, rfl⟩ := regAt_staged hreg hstaged
  exact Page.action_none hu ((unitRegs_staged u (unitOf_mem hu) r hr hstaged).2 i hi).2.1 s ini tick v

theorem Page.live_staged (hfirst : ¬ Pstg.firstOnly p o) (s : State) (ini : Nat) : Page.live s ini p o = none := by
  obtain ⟨u, hu, hr, hi, rfl⟩ := regAt_staged hreg hstaged
  exact Page.live_none hu ((unitRegs_staged u (unitOf_mem hu) r hr hstaged).2 i hi).2.2 hfirst s ini

/-- A direct write to a staged register stores its writable bits, and unlatches it. -/
theorem Page.write_staged (s : State) (ini : Nat) (v : Word) (up : s.pageUp p = true) :
    Page.write s ini none (p * 0x1000 + o) v =
      (s.wr (p * 0x1000 + o) (r.stored (s.rd (p * 0x1000 + o)) v)).unlatch (p * 0x1000 + o) := by
  obtain ⟨hrw, hlo, hhi, h4⟩ := regAt_staged_place hreg hstaged
  rw [Page.write_at s ini none p o v hhi h4 up, if_neg (by omega), if_neg (by omega), if_neg (by omega), if_neg (by omega),
    if_neg (by omega), if_neg (by omega), Page.action_staged hreg hstaged]
  exact Page.store_direct hreg (.inl hrw) s v

/-- A read at a staged register's offset gives the staging copy. -/
theorem Page.read_staged (hfirst : ¬ Pstg.firstOnly p o) (s : State) (ini : Nat) (up : s.pageUp p = true) :
    Page.read s ini p o = s.rd (p * 0x1000 + o) := by
  obtain ⟨-, hlo, hhi, h4⟩ := regAt_staged_place hreg hstaged
  have hheader : Page.header s p o = none := by
    unfold Page.header
    repeat rw [if_neg (by omega)]
  unfold Page.read
  rw [if_neg (by simp [up, h4]), if_neg (by omega)]
  simp [hheader, Page.live_staged hreg hstaged hfirst, Page.stored, hreg]

/-- A read 0x800 beyond it gives the effective copy. -/
theorem Page.read_effective (s : State) (ini : Nat) (up : s.pageUp p = true) :
    Page.read s ini p (o + 0x800) = s.ef (p * 0x1000 + o) := by
  obtain ⟨-, hlo, hhi, h4⟩ := regAt_staged_place hreg hstaged
  unfold Page.read
  rw [if_neg (by simp [up]; omega), if_pos (by omega), Nat.add_sub_cancel, hreg]
  simp [hstaged]

/-- A staged register is one of those that a commit snapshots. -/
theorem Page.mem_stagedOffsets : o ∈ Page.stagedOffsets p := by
  obtain ⟨u, hu, hr, hi, rfl⟩ := regAt_staged hreg hstaged
  unfold Page.stagedOffsets
  rw [hu]
  exact List.mem_flatMap.mpr ⟨r, hr, by
    rw [if_pos hstaged]
    exact List.mem_map.mpr ⟨i, List.mem_range.mpr hi, rfl⟩⟩

end Staged

/-- Settles O50: the held writes that a write waits behind touch neither the effective copies nor whether the page answers; then the
page stores the writable bits, since no action and no live state stands at a staged register. -/
theorem stagedRegistersHaveTwoCopies : Obligations.StagedRegistersHaveTwoCopies := by
  intro s ini p o r i up hreg hstaged hfirst
  refine ⟨fun v u hu => ?_, Page.read_staged hreg hstaged hfirst s ini up, Page.read_effective hreg hstaged s ini up⟩
  obtain ⟨heff, hpart, hup⟩ : State.pagesKept s.begin u := hu ▸ Weave.behind_pagesKept s.begin ini (p * 0x1000 + o)
  refine completes_act (exec_registerWrite _ _ _ s) (State.running_of_pageUp up) ?_
  rw [← hu, Page.write_staged hreg hstaged u ini v ((hup p).trans up)]
  refine ⟨(State.rd_unlatch _ _ _).trans (State.rd_wr_same _ _ _), fun a ha => (State.rd_unlatch _ _ _).trans (State.rd_wr_ne _ _ ha),
    fun a => ?_, rfl⟩
  show Tab.get (regReset u.variant) u.eff a = Tab.get (regReset s.variant) s.eff a
  rw [heff, hpart]
  rfl

end Sys2Proof.Machine
end

section
/-!
PROOFS. Writes to the page header (R46), and what a request for a commit and its cancel come to (R51 to R53).
-/
namespace Sys2Proof.Machine

/-! ### Writes to the page header (R46) -/

section Header

variable {s : State} {p : Nat} (up : s.pageUp p = true)
include up

theorem Page.write_ctrl (ini : Nat) (v : Word) : Page.write s ini none (Reg.pageCtrl p) v = Page.ctrl s p v none :=
  (Page.write_at s ini none p 0x08 v (by omega) (by omega) up).trans rfl

theorem Page.write_irqForce (ini : Nat) (v : Word) : Page.write s ini none (Reg.irqForce p) v =
    s.wr (Reg.irqStatus p) (s.rd (Reg.irqStatus p) ||| (v &&& w32 (irqMask ((unitOf p).getD 0)))) :=
  (Page.write_at s ini none p 0x18 v (by omega) (by omega) up).trans rfl

theorem Page.write_commit (ini : Nat) (v : Word) : Page.write s ini none (Reg.commit p) v = Page.commitWrite s p v :=
  (Page.write_at s ini none p 0x1C v (by omega) (by omega) up).trans rfl

theorem Page.write_faultCause (ini : Nat) (v : Word) : Page.write s ini none (Reg.faultCause p) v = Page.causeClear s p v :=
  (Page.write_at s ini none p 0x2C v (by omega) (by omega) up).trans rfl

/-- Past the header, a write acts or is stored. -/
theorem Page.write_unit (ini o : Nat) (v : Word) (hlo : 0x40 ≤ o) (hhi : o < 0x800) (h4 : o % 4 = 0) :
    Page.write s ini none (p * 0x1000 + o) v = (Page.action s ini none p o v).getD (Page.store s none p o v) := by
  rw [Page.write_at s ini none p o v hhi h4 up, if_neg (by omega), if_neg (by omega), if_neg (by omega), if_neg (by omega),
    if_neg (by omega), if_neg (by omega)]
  cases Page.action s ini none p o v <;> rfl

end Header

/-! ### Commits (R51 to R53) -/

/-- The word that COMMIT_REQUEST writes asks for a commit, and for a cancel where the row says so. -/
theorem bit_commitWord (also : Bool) : bit (w32 (1 + 2 * b2n also)) 0 = true ∧ bit (w32 (1 + 2 * b2n also)) 1 = also := by
  cases also <;> decide

section Commit

variable {s : State} {p : Nat}

theorem Page.cancel_none (h : s.ctl.commit p = none) : Page.cancel s p = s := by
  unfold Page.cancel
  rw [h]

theorem Page.commitWrite_request (also : Bool) (h : also = true → s.ctl.commit p = none) :
    Page.commitWrite s p (w32 (1 + 2 * b2n also)) = Page.request s p := by
  obtain ⟨hcommit, hcancel⟩ := bit_commitWord also
  unfold Page.commitWrite
  simp only [hcommit, hcancel, if_true]
  split
  next halso => rw [Page.cancel_none (h halso)]
  next => rfl

/-- With a commit pending, a request is refused with code 0x04. -/
theorem Page.request_pending {c : PendCommit} (h : s.ctl.commit p = some c) : Page.request s p = s.fault' p 0x04 :=
  if_pos (by rw [h]; rfl)

section Passed

variable (hnone : s.ctl.commit p = none) (hcheck : Page.check1 s p (Page.view (Page.withEff s p (s.staging p)) p) = none)
include hnone hcheck

/-- Mode 1 with a rate in force: the snapshot waits for the first tick at least 2 us later. -/
theorem Page.request_nextFrame (hmode : s.rdF (Reg.commitMode p) 1 0 = 1) (hon : s.rateOn = true) :
    Page.request s p = Page.setCommit s p (some { values := s.staging p, mode := 1, ready := s.postReady, frame := 0 }) := by
  unfold State.staging at hcheck ⊢
  simp [Page.request, hnone, hmode, hcheck, hon]

/-- Mode 2: the snapshot waits for a frame that is not reached and at least 2 us away. -/
theorem Page.request_frameIndex (hmode : s.rdF (Reg.commitMode p) 1 0 = 2) (hon : s.rateOn = true)
    (hreach : s.clk.ticking = true → s.clk.nextTick ≤ s.rd64 (Reg.commitFrameLo p) (Reg.commitFrameHi p))
    (hfar : s.clk.stake + 2 * usU ≤ tickAt s.clk.rate (s.rd64 (Reg.commitFrameLo p) (Reg.commitFrameHi p))) :
    Page.request s p = Page.setCommit s p (some
      { values := s.staging p, mode := 2, ready := 0, frame := s.rd64 (Reg.commitFrameLo p) (Reg.commitFrameHi p) }) := by
  have hintime : ¬ ((!s.rateOn) = true ∨
      (s.clk.ticking = true ∧ s.rd64 (Reg.commitFrameLo p) (Reg.commitFrameHi p) < s.clk.nextTick) ∨
      tickAt s.clk.rate (s.rd64 (Reg.commitFrameLo p) (Reg.commitFrameHi p)) < s.clk.stake + 2 * usU) := by
    rintro (h | ⟨htick, h⟩ | h)
    · simp [hon] at h
    · exact absurd (hreach htick) (Nat.not_le.mpr h)
    · exact absurd hfar (Nat.not_le.mpr h)
  unfold State.staging at hcheck ⊢
  simp only [Page.request, hnone, hmode, hcheck, if_neg hintime]
  simp

/-- Mode 0, and mode 1 while no rate is in force: the snapshot is judged and applied at once. -/
theorem Page.request_atOnce (hmode : s.rdF (Reg.commitMode p) 1 0 = 0 ∨ (s.rdF (Reg.commitMode p) 1 0 = 1 ∧ s.rateOn = false))
    (hp : p ≠ Stake.page)
    (hcheck2 : (if p = Meas.page then Meas.check2 s else
      Page.check2 s p (Page.view s p) (Page.view (Page.withEff s p (s.staging p)) p)) = none) :
    Page.request s p = Page.changed (Page.result (Page.withEff s p (s.staging p)) p 1) p (Page.view s p)
      (Page.view (Page.withEff s p (s.staging p)) p) (if s.rateOn then s.clk.nextTick else s.clk.frame) := by
  have happly : Page.applyCommit s p (s.staging p) = (Page.result (Page.withEff s p (s.staging p)) p 1, true) := by
    simp only [Page.applyCommit, hcheck2]
  have hnotNext : ¬ (s.rdF (Reg.commitMode p) 1 0 = 1 ∧ s.rateOn = true) := by
    rintro ⟨h1, hon⟩
    obtain h0 | ⟨-, hoff⟩ := hmode
    · omega
    · simp [hoff] at hon
  have hmode' : s.rdF (Reg.commitMode p) 1 0 ≠ 3 ∧ s.rdF (Reg.commitMode p) 1 0 ≠ 2 := by omega
  unfold State.staging at hcheck happly ⊢
  simp only [Page.request, hnone, hcheck, happly, hmode', if_neg hnotNext, hp]
  simp

end Passed

/-- A cancel drops a pending commit whose tick is at least 2 us away (R46). -/
theorem Page.cancel_early {c : PendCommit} (h : s.ctl.commit p = some c)
    (hearly : s.clk.ticking = true → s.clk.stake + 2 * usU ≤ c.due s) :
    Page.cancel s p = Page.result (Page.setCommit s p none) p 3 := by
  unfold Page.cancel
  rw [h]
  exact if_neg fun hlate => absurd (hearly hlate.1) (Nat.not_le.mpr hlate.2)

end Commit

/-! ### Completion of the rows of a commit -/

section CommitRows

variable {s : State} {p : Nat} {P : State → Prop} (up : s.pageUp p = true)
include up

theorem completes_commitRequest (also : Bool) (hcancel : also = true → s.ctl.commit p = none) (h : P (Page.request s.begin p)) :
    Completes (.commitRequest p also) s P := by
  refine completes_act (exec_commitRequest p also s) (State.running_of_pageUp up) ?_
  rwa [Reg.poke, Page.write_commit (s := s.begin) up, Page.commitWrite_request (s := s.begin) also hcancel]

theorem completes_commitCancel (h : P (Page.cancel s.begin p)) : Completes (.commitCancel p) s P := by
  have hword : bit 2 0 = false ∧ bit 2 1 = true := by decide
  refine completes_act (exec_commitCancel p s) (State.running_of_pageUp up) ?_
  rw [Reg.poke, Page.write_commit (s := s.begin) up]
  unfold Page.commitWrite
  rwa [if_pos hword.2, if_neg (Bool.eq_false_iff.mp hword.1)]

end CommitRows

/-- Settles O51: a request that waits keeps the staging copies in the pending set; a write to a staged register only stores a value; and
a request while one is pending only records its code. -/
theorem commitsSnapshotTheStagingCopies : Obligations.CommitsSnapshotTheStagingCopies := by
  intro s p up
  refine ⟨fun hnone hon hcheck hmode => ?snapshot, fun q c hpending ini o v r i hreg hstaged => ?keeps, fun c hpending => ?refused⟩
  case snapshot =>
    have hset : ∃ c, c.values = s.staging p ∧ Page.request s.begin p = Page.setCommit s.begin p (some c) := by
      obtain h1 | ⟨h2, hreach, hfar⟩ := hmode
      · exact ⟨_, rfl, Page.request_nextFrame (s := s.begin) hnone hcheck h1 hon⟩
      · exact ⟨_, rfl, Page.request_frameIndex (s := s.begin) hnone hcheck h2 hon hreach hfar⟩
    obtain ⟨c, hvalues, hrequest⟩ := hset
    refine completes_commitRequest up false (fun h => by cases h) ⟨c, ?_, fun o r i hreg hstaged => ?_⟩
    · rw [hrequest, Page.commit_setCommit]
    · rw [hvalues]
      exact List.mem_map.mpr ⟨o, Page.mem_stagedOffsets hreg hstaged, rfl⟩
  case keeps =>
    obtain ⟨-, hctl⟩ := Weave.behind_ctlKept s.begin ini (p * 0x1000 + o)
    obtain ⟨-, -, hup⟩ := Weave.behind_pagesKept s.begin ini (p * 0x1000 + o)
    refine completes_act (exec_registerWrite _ _ _ s) (State.running_of_pageUp up) ?_
    rw [Page.write_staged hreg hstaged _ ini v ((hup p).trans up)]
    show Ctl.commit (Weave.behind s.begin ini (p * 0x1000 + o)).ctl q = some c
    rw [hctl]
    exact hpending
  case refused =>
    refine completes_commitRequest up false (fun h => by cases h) ?_
    rw [Page.request_pending (s := s.begin) hpending]
    refine ⟨?_, State.faultD_cause s.begin p 4 0 (by decide), fun a => ?_⟩
    · rw [State.faultCode_ctl]
      exact hpending
    · unfold State.ef
      rw [State.faultCode_eff, State.faultCode_variant]
      rfl

end Sys2Proof.Machine
end

section
/-!
PROOFS. The interrupt summary as the IRQ page reads it (R57), and the CRC-8 as a polynomial division (R64).
-/
namespace Sys2Proof.Machine

/-! ### The interrupt summary (R57) -/

theorem b2n_eq (b : Bool) : b2n b = b.toNat := by cases b <;> rfl

/-- A sum of bits at rising places is below the next place, and its bits are those. -/
theorem foldl_at_bits (f : Nat → Bool) (m : Nat) :
    (List.range m).foldl (fun n i => n + at_ i (b2n (f i))) 0 < 2 ^ m ∧
    ∀ j, Nat.testBit ((List.range m).foldl (fun n i => n + at_ i (b2n (f i))) 0) j = (decide (j < m) && f j) := by
  induction m with
  | zero => exact ⟨Nat.one_pos, fun j => by simp⟩
  | succ m ih =>
    obtain ⟨hlt, hbits⟩ := ih
    rw [List.range_succ, List.foldl_append]
    generalize (List.range m).foldl (fun n i => n + at_ i (b2n (f i))) 0 = n at hlt hbits
    have hsum : [m].foldl (fun n i => n + at_ i (b2n (f i))) n = 2 ^ m * (f m).toNat + n := by
      simp only [List.foldl_cons, List.foldl_nil, at_, b2n_eq, Nat.shiftLeft_eq]
      ring
    rw [hsum]
    refine ⟨?_, fun j => ?_⟩
    · have : (f m).toNat ≤ 1 := Bool.toNat_le (f m)
      rw [pow_succ]
      nlinarith
    · rw [Nat.testBit_two_pow_mul_add _ hlt, hbits]
      obtain hj | rfl | hj := lt_trichotomy j m
      · simp [hj, Nat.lt_succ_of_lt hj]
      · cases f j <;> simp
      · obtain ⟨k, hk⟩ : ∃ k, j - m = k + 1 := ⟨j - m - 1, by omega⟩
        have hge : ¬ j < m + 1 := by omega
        cases f m <;> simp [hge, Nat.not_lt_of_gt hj, hk, Nat.testBit_succ]

theorem bit_w32 (n : Nat) {i : Nat} (h : i < 32) : bit (w32 n) i = n.testBit i := by
  rw [bit, w32, BitVec.getLsbD_ofNat, decide_eq_true h, Bool.true_and]

/-- A read of an IRQ_SUMMARY register gives the summary bits of its 32 pages. -/
theorem Page.read_irqSummary (s : State) (ini p : Nat) (up : s.pageUp 2 = true) (hp : p < 2048) :
    bit (Page.read s ini 2 (0x100 + 4 * (p / 32))) (p % 32) = s.summary p := by
  have hheader : Page.header s 2 (0x100 + 4 * (p / 32)) = none := by
    unfold Page.header
    repeat rw [if_neg (by omega)]
  have hlive : Page.live s ini 2 (0x100 + 4 * (p / 32)) =
      some (w32 ((List.range 32).foldl (fun n i => n + at_ i (b2n (s.summary (32 * (p / 32) + i)))) 0)) := by
    have hrow : (0x100 + 4 * (p / 32) - 0x100) / 4 = p / 32 := by omega
    show Irq.read s _ = _
    unfold Irq.read
    rw [if_pos (by omega), hrow]
  unfold Page.read
  rw [if_neg (by simp [up, Nat.add_mod]), if_neg (by omega), hheader]
  simp only [hlive]
  rw [bit_w32 _ (Nat.mod_lt _ (by decide)), (foldl_at_bits _ 32).2, decide_eq_true (Nat.mod_lt _ (by decide)), Bool.true_and,
    Nat.div_add_mod]

/-- A word is not zero where one of its bits is 1. -/
theorem word_ne_zero_iff (w : Word) : w ≠ 0 ↔ ∃ i, i < 32 ∧ bit w i = true := by
  constructor
  · intro h
    by_contra hnone
    refine h (BitVec.eq_of_getLsbD_eq fun i hi => ?_)
    have hbit : ¬ w.getLsbD i = true := fun hb => hnone ⟨i, hi, hb⟩
    simpa using hbit
  · rintro ⟨i, -, hb⟩ rfl
    simp [bit] at hb

/-- Settles O52: the register's bit is the page's summary bit, which an absent page has not. -/
theorem summaryBitsFollowTheInterrupts : Obligations.SummaryBitsFollowTheInterrupts := by
  intro s ini p up hp
  rw [Page.read_irqSummary s ini p up hp]
  refine ⟨fun upP => ?_, fun absent => ?_⟩
  · unfold State.summary
    rw [upP, Bool.true_and, bne_iff_ne, word_ne_zero_iff]
    simp only [bit, BitVec.getLsbD_and, Bool.and_eq_true]
  · rw [State.summary, State.pageUp_absent absent, Bool.false_and]

/-! ### The CRC-8 (R64) -/

/-- The step of the CRC on a remainder of eight bits. -/
def Crc8.shift (r : Nat) : Nat := if r.testBit 7 then (r <<< 1) % 2 ^ 8 ^^^ 7 else (r <<< 1) % 2 ^ 8

/-- One step of the long division by x^8 + x^2 + x + 1. -/
def Crc8.divide (r : Nat) (b : Bool) : Nat := if 256 ≤ 2 * r + b2n b then (2 * r + b2n b) ^^^ 0x107 else 2 * r + b2n b

/-- The bits of a byte, most significant first. -/
def Crc8.bits (b : Byte) : List Bool := (List.range 8).map (fun i => b.getLsbD (7 - i))

/-- The number that bits spell, most significant first. -/
def Crc8.value (l : List Bool) : Nat := l.foldl (fun n b => 2 * n + b2n b) 0

theorem Crc8.shift_lt (r : Nat) : Crc8.shift r < 256 := by
  have h : (r <<< 1) % 2 ^ 8 < 2 ^ 8 := Nat.mod_lt _ (by decide)
  unfold Crc8.shift
  split
  · exact Nat.xor_lt_two_pow (n := 8) h (by decide)
  · exact h

theorem Crc8.shift_iterate_lt {r : Nat} (h : r < 256) (k : Nat) : Crc8.shift^[k] r < 256 := by
  cases k with
  | zero => exact h
  | succ k =>
    rw [Function.iterate_succ_apply']
    exact Crc8.shift_lt _

/-- A step of the division shifts the remainder and takes the next bit of the message in. -/
theorem Crc8.divide_eq : ∀ r < 256, ∀ b, Crc8.divide r b = Crc8.shift r ^^^ b2n b := by decide +kernel

/-- Bits that have been taken in are shifted with the remainder. -/
theorem Crc8.shift_xor (x : Nat) {y : Nat} (hy : y < 128) : Crc8.shift (x ^^^ y) = Crc8.shift x ^^^ 2 * y := by
  have hbit : y.testBit 7 = false := Nat.testBit_lt_two_pow hy
  have hdouble : (y <<< 1) % 2 ^ 8 = 2 * y := by
    rw [Nat.shiftLeft_eq]
    omega
  unfold Crc8.shift
  rw [Nat.testBit_xor, hbit, Bool.xor_false, Nat.shiftLeft_xor_distrib, Nat.xor_mod_two_pow, hdouble]
  split
  · rw [Nat.xor_assoc, Nat.xor_comm (2 * y), Nat.xor_assoc]
  · rfl

theorem Crc8.value_append (l : List Bool) (b : Bool) : Crc8.value (l ++ [b]) = 2 * Crc8.value l + b2n b := by
  simp [Crc8.value]

theorem Crc8.value_lt (l : List Bool) : Crc8.value l < 2 ^ l.length := by
  induction l using List.reverseRecOn with
  | nil => exact Nat.one_pos
  | append_singleton l b ih =>
    have hb : b2n b ≤ 1 := by cases b <;> decide
    rw [Crc8.value_append, List.length_append, List.length_singleton, pow_succ]
    omega

theorem Crc8.double_xor (v : Nat) (b : Bool) : 2 * v ^^^ b2n b = 2 * v + b2n b := by
  cases b
  · simp [b2n]
  · exact Nat.eq_of_testBit_eq fun i => by cases i <;> simp [b2n, Nat.testBit_succ]

/-- Up to eight bits divided shift the remainder as often, and stand in its low places. -/
theorem Crc8.foldl_divide {r : Nat} (hr : r < 256) (l : List Bool) (hl : l.length ≤ 8) :
    l.foldl Crc8.divide r = Crc8.shift^[l.length] r ^^^ Crc8.value l := by
  induction l using List.reverseRecOn with
  | nil => simp [Crc8.value]
  | append_singleton l b ih =>
    rw [List.length_append, List.length_singleton] at hl
    have hvalue : Crc8.value l < 128 := lt_of_lt_of_le (Crc8.value_lt l) (Nat.pow_le_pow_right (n := 2) (by decide) (by omega : l.length ≤ 7))
    have hlt : Crc8.shift^[l.length] r ^^^ Crc8.value l < 256 :=
      Nat.xor_lt_two_pow (n := 8) (Crc8.shift_iterate_lt hr _) (by omega)
    rw [List.foldl_append, ih (by omega), List.foldl_cons, List.foldl_nil, Crc8.divide_eq _ hlt, Crc8.shift_xor _ hvalue, Nat.xor_assoc,
      Crc8.double_xor, ← Crc8.value_append, List.length_append, List.length_singleton, Function.iterate_succ_apply']

theorem Crc8.value_bits : ∀ b : Byte, Crc8.value (Crc8.bits b) = b.toNat := by decide +kernel

theorem Crc8.crcByte_eq {c : Nat} (hc : c < 256) (b : Byte) : crcByte 8 0x07 c b.toNat = Crc8.shift^[8] (c ^^^ b.toNat) := by
  have hlt : c ^^^ b.toNat < 2 ^ 8 := Nat.xor_lt_two_pow hc b.isLt
  have hsteps := List.foldl_const Crc8.shift (c ^^^ b.toNat) (List.range 8)
  rw [List.length_range] at hsteps
  rw [← hsteps, crcByte]
  simp only [Nat.sub_self, Nat.shiftLeft_zero, Nat.mod_eq_of_lt hlt]
  rfl

/-- The remainder of the message so far, shifted by eight places, is the CRC so far. -/
theorem Crc8.shift_foldl_divide (l : List Byte) {r : Nat} (hr : r < 256) :
    (l.flatMap Crc8.bits).foldl Crc8.divide r < 256 ∧
    Crc8.shift^[8] ((l.flatMap Crc8.bits).foldl Crc8.divide r) = l.foldl (fun c b => crcByte 8 0x07 c b.toNat) (Crc8.shift^[8] r) := by
  induction l generalizing r with
  | nil => exact ⟨hr, rfl⟩
  | cons b l ih =>
    have hbyte : (Crc8.bits b).foldl Crc8.divide r = Crc8.shift^[8] r ^^^ b.toNat := by
      rw [Crc8.foldl_divide hr _ (by simp [Crc8.bits]), Crc8.value_bits]
      simp [Crc8.bits]
    rw [List.flatMap_cons, List.foldl_append, hbyte, List.foldl_cons, Crc8.crcByte_eq (Crc8.shift_iterate_lt hr 8)]
    exact ih (Nat.xor_lt_two_pow (n := 8) (Crc8.shift_iterate_lt hr 8) b.isLt)

/-- Settles O53: eight zero bits behind the message shift its remainder eight times more, which makes it the CRC. -/
theorem crcEightIsPolynomialDivision : Obligations.CrcEightIsPolynomialDivision := by
  intro l
  obtain ⟨hlt, hcrc⟩ := Crc8.shift_foldl_divide l (r := 0) (by decide)
  have hzeros : (l.flatMap Crc8.bits ++ List.replicate 8 false).foldl Crc8.divide 0 =
      Crc8.shift^[8] ((l.flatMap Crc8.bits).foldl Crc8.divide 0) := by
    have hvalue : Crc8.value (List.replicate 8 false) = 0 := by decide
    rw [List.foldl_append, Crc8.foldl_divide hlt _ (by simp), hvalue, Nat.xor_zero, List.length_replicate]
  have hinit : Crc8.shift^[8] 0 = 0 := by decide
  rw [hinit] at hcrc
  have hcrc8 : crc8 l = (l.flatMap Crc8.bits ++ List.replicate 8 false).foldl Crc8.divide 0 := by rw [hzeros, hcrc]; rfl
  refine ⟨?_, hcrc8⟩
  rw [hcrc8, hzeros]
  exact Crc8.shift_iterate_lt hlt 8

end Sys2Proof.Machine
end

section
/-!
PROOFS. Register writes, enables, soft resets, cause clears, forced and ended interrupts, and the statement on the rows of the page header
(R46, R49, R51 to R53, R56, R59, R602).
-/
namespace Sys2Proof.Machine

/-! ### Enables (R46, R602) -/

/-- The words that PAGE_ENABLE_WRITE and SOFT_RESET write. -/
theorem bit_enableWord (b : Bool) : bit (w32 (b2n b)) 0 = b ∧ bit (w32 (b2n b)) 1 = false := by cases b <;> decide
theorem bit_resetWord (b : Bool) : bit (w32 (2 + b2n b)) 0 = b ∧ bit (w32 (2 + b2n b)) 1 = true := by cases b <;> decide

section Enable

variable {s : State} {p : Nat} (hfree : fixedEnable p = false) (hhoop : p ≠ Hoop.page)
include hfree hhoop

/-- While no rate is in force an enable takes effect at once. -/
theorem Page.enable_atOnce (b : Bool) (hoff : s.rateOn = false) :
    Page.enable s p b none = Page.setEnabled (Page.setPosts (s.wrF (Reg.pageCtrl p) 0 0 (b2n b)) p []) p b s.clk.frame := by
  simp [Page.enable, hfree, hhoop, hoff]

/-- With a rate in force, an enable that changes waits for a tick at least 2 us later. -/
theorem Page.enable_later (b : Bool) (hon : s.rateOn = true) (hchange : s.rdB (Reg.pageCtrl p) 0 ≠ b) :
    Page.enable s p b none =
      Page.setPosts (s.wrF (Reg.pageCtrl p) 0 0 (b2n b)) p (Page.enablePosts s p ++ [(b, s.postReady)]) := by
  simp [Page.enable, hfree, hhoop, hon, hchange]

end Enable

@[simp] theorem Page.enablePosts_setPosts (s : State) (p : Nat) (l : List (Bool × Nat)) : Page.enablePosts (Page.setPosts s p l) p = l :=
  Tab.get_set_same _ _ _ _

@[simp] theorem State.rd_setPosts (s : State) (p : Nat) (l : List (Bool × Nat)) (a : Nat) : (Page.setPosts s p l).rd a = s.rd a := rfl

section HeaderRows

variable {s : State} {p : Nat} {P : State → Prop} (up : s.pageUp p = true)
include up

theorem completes_pageEnableWrite (b : Bool) (h : P (Page.enable s.begin p b none)) : Completes (.pageEnableWrite p b) s P := by
  obtain ⟨hbit, hreset⟩ := bit_enableWord b
  refine completes_act (exec_pageEnableWrite p b s) (State.running_of_pageUp up) ?_
  rw [Reg.poke, Page.write_ctrl (s := s.begin) up, Page.ctrl]
  simpa only [hreset, hbit, Bool.false_eq_true, if_false] using h

theorem completes_softReset (b : Bool) (h : P (Page.enable (Page.softReset s.begin p false) p b none)) :
    Completes (.softReset p b) s P := by
  obtain ⟨hbit, hreset⟩ := bit_resetWord b
  refine completes_act (exec_softReset p b s) (State.running_of_pageUp up) ?_
  rw [Reg.poke, Page.write_ctrl (s := s.begin) up, Page.ctrl]
  simpa only [hreset, hbit, if_true, Option.isSome_none] using h

theorem completes_faultCauseClear (h : P (Page.causeClear s.begin p 0x80000000)) : Completes (.faultCauseClear p) s P := by
  refine completes_act (exec_faultCauseClear p s) (State.running_of_pageUp up) ?_
  rwa [Reg.poke, Page.write_faultCause (s := s.begin) up]

theorem completes_irqForce (v : Word) (h : P (s.begin.wr (Reg.irqStatus p)
    (s.rd (Reg.irqStatus p) ||| (v &&& w32 (irqMask ((unitOf p).getD 0)))))) : Completes (.irqForce p v) s P := by
  refine completes_act (exec_irqForce p v s) (State.running_of_pageUp up) ?_
  rwa [Reg.poke, Page.write_irqForce (s := s.begin) up]

/-- REGISTER_WRITE past the header, with no write held, acts or is stored. -/
theorem completes_registerWrite {o : Nat} (ini : Nat) (v : Word) (hlo : 0x40 ≤ o) (hhi : o < 0x800) (h4 : o % 4 = 0)
    (hcoil : s.coil.heldSubmits = []) (hwarp : s.warp.held = none)
    (h : P ((Page.action s.begin ini none p o v).getD (Page.store s.begin none p o v))) :
    Completes (.registerWrite ini (p * 0x1000 + o) v) s P := by
  refine completes_act (exec_registerWrite _ _ _ s) (State.running_of_pageUp up) ?_
  rwa [Weave.behind_none s.begin ini _ hcoil hwarp, Page.write_unit (s := s.begin) up ini o v hlo hhi h4]

end HeaderRows

/-! ### Soft resets, causes and interrupts (R46, R56, R59) -/

/-- The registers and the copies that a clear of a page picks read their reset values. -/
theorem Page.rd_clearRegs (s : State) (p : Nat) (pick : Nat → Bool) (a : Nat) :
    (Page.clearRegs s p pick).rd a = if (a / 0x1000 == p && pick (a % 0x1000)) then regReset s.variant a else s.rd a := 
  Tab.get_drop (regReset s.variant) (fun a => a / 0x1000 == p && pick (a % 0x1000)) s.regs a

theorem Page.ef_clearRegs (s : State) (p : Nat) (pick : Nat → Bool) (a : Nat) :
    (Page.clearRegs s p pick).ef a = if (a / 0x1000 == p && pick (a % 0x1000)) then regReset s.variant a else s.ef a := 
  Tab.get_drop (regReset s.variant) (fun a => a / 0x1000 == p && pick (a % 0x1000)) s.eff a

theorem unitOf_memc {p : Nat} (h : unitOf p = some 0xF0) : p = Memc.page := by
  have hall : ∀ p < 256, unitOf p = some 0xF0 → p = Memc.page := by decide +kernel
  exact hall p (unitOf_lt h) h

/-- MEMC's part of a cause clear zeroes registers of its own that are not the cause or the count. -/
theorem Memc.rd_causeClear (s : State) {a : Nat} (ha : a ≤ Reg.faultCount Memc.page) : (Memc.causeClear s).rd a = s.rd a := by
  unfold Reg.faultCount Memc.page at ha
  have hports : ∀ (l : List Nat) (u : State), (l.foldl (fun (s : State) k => s.wr (Reg.memcPortMax k) 0) u).rd a = u.rd a := fun l u =>
    foldl_keeps (fun s : State => s.rd a) _ (fun s k => State.rd_wr_ne s _ (by unfold Reg.memcPortMax; omega)) l u
  unfold Memc.causeClear
  rw [hports]
  exact State.rd_wr_ne s _ (by unfold Reg.memcWindowMaxNs; omega)

/-- A cause clear zeroes the cause and the count, and on a page other than MEMC's nothing else (R46). -/
theorem Page.causeClear_regs (s : State) (p : Nat) :
    (Page.causeClear s p 0x80000000).rd (Reg.faultCause p) = 0 ∧ (Page.causeClear s p 0x80000000).rd (Reg.faultCount p) = 0 ∧
    (p ≠ Memc.page → ∀ a, a ≠ Reg.faultCause p → a ≠ Reg.faultCount p → (Page.causeClear s p 0x80000000).rd a = s.rd a) := by
  have hclear : bit 0x80000000 31 = true := by decide
  have hne : Reg.faultCause p ≠ Reg.faultCount p := by unfold Reg.faultCause Reg.faultCount; omega
  have hcause : ((s.wr (Reg.faultCause p) 0).wr (Reg.faultCount p) 0).rd (Reg.faultCause p) = 0 :=
    (State.rd_wr_ne _ _ hne).trans (State.rd_wr_same _ _ _)
  unfold Page.causeClear
  simp only [hclear, Bool.not_true, Bool.false_eq_true, if_false]
  split
  next hmemc =>
    obtain rfl := unitOf_memc hmemc
    rw [Memc.rd_causeClear _ (by decide), Memc.rd_causeClear _ (le_refl _)]
    exact ⟨hcause, State.rd_wr_same _ _ _, fun h => absurd rfl h⟩
  next =>
    exact ⟨hcause, State.rd_wr_same _ _ _, fun _ a hc hn => (State.rd_wr_ne _ _ hn).trans (State.rd_wr_ne _ _ hc)⟩

/-- An end of interrupt sends a deliverable vector's message again (R59). -/
theorem completes_irqEoi {s : State} {v : Nat} (up : s.pageUp 2 = true) (hv : v < 64) (hpend : s.vecPending v = true)
    (hmask : s.vecMasked v = false) :
    Completes (.irqEoi v) s (fun t => t = { s.begin with ctl := { s.begin.ctl with msix := [v] } }) := by
  have hword : fld (w32 (v % 64)) 5 0 = v := by
    simp only [fld, w32, BitVec.toNat_ofNat, Nat.shiftRight_zero]
    omega
  have hwrite : Page.write s.begin 0 none Reg.irqEoi (w32 (v % 64)) = Irq.eoi s.begin (fld (w32 (v % 64)) 5 0) :=
    (Page.write_unit (s := s.begin) (p := 2) up 0 0x208 _ (by omega) (by omega) (by omega)).trans rfl
  have hdeliver : s.begin.vecPending v = true ∧ (!s.begin.vecMasked v) = true := ⟨hpend, congrArg (!·) hmask⟩
  refine completes_act (exec_irqEoi v s) (State.running_of_pageUp up) ?_
  rw [Reg.poke, hwrite, hword]
  exact if_pos hdeliver

/-- Settles O9: each row's word on the page header leads to the operation that the clause names, on the state that the command begins
with. -/
theorem pageHeaderCommandsAct : Obligations.PageHeaderCommandsAct := by
  intro s p up
  refine ⟨?write, ?commit, ?cancel, ?enable, ?reset, ?cleared, ?cause, ?force, ?eoi⟩
  case write =>
    intro ini o v hhi h4 hlo hcoil hwarp
    refine ⟨fun u hact => ?_, fun r i hact hreg hwritten => ?_⟩ <;>
      refine completes_registerWrite up ini v hlo hhi h4 hcoil hwarp ?_
    · rw [hact]
      rfl
    · rw [hact, Option.getD_none, Page.store_direct hreg hwritten]
      rfl
  case commit =>
    intro also hnone hcheck
    have hnone' : s.begin.ctl.commit p = none := Option.isNone_iff_eq_none.mp hnone
    refine ⟨fun hmode hon => ?_, fun hmode hon hreach hfar => ?_, fun hmode hp hcheck2 => ?_⟩ <;>
      refine completes_commitRequest up also (fun _ => hnone') ?_
    · rw [Page.request_nextFrame (s := s.begin) hnone' hcheck hmode hon]
      exact ⟨Page.commit_setCommit _ _ _, rfl⟩
    · rw [Page.request_frameIndex (s := s.begin) hnone' hcheck hmode hon hreach hfar]
      exact ⟨Page.commit_setCommit _ _ _, rfl⟩
    · rw [Page.request_atOnce (s := s.begin) hnone' hcheck hmode hp hcheck2]
      rfl
  case cancel =>
    intro c hpending hearly
    refine completes_commitCancel up ?_
    rw [Page.cancel_early (s := s.begin) hpending hearly]
    refine ⟨Page.commit_setCommit s.begin p none, ?_, fun a ha => State.rd_wr_ne _ _ ha, fun a => rfl⟩
    unfold State.rdF Page.result State.wrF
    rw [State.rd_wr_same, fld_setFld _ _ _ _ (by decide) (by decide)]
    rfl
  case enable =>
    intro b hfree hhoop
    refine ⟨fun hoff => ?_, fun hon hchange => ?_⟩ <;> refine completes_pageEnableWrite up b ?_
    · exact Page.enable_atOnce (s := s.begin) hfree hhoop b hoff
    · rw [Page.enable_later (s := s.begin) hfree hhoop b hon hchange]
      refine ⟨?_, Page.enablePosts_setPosts _ _ _, rfl, fun a ha => (State.rd_setPosts _ _ _ _).trans (State.rd_wr_ne _ _ ha)⟩
      rw [State.rdB, State.rd_setPosts, State.wrF, State.rd_wr_same, b2n_eq]
      exact bit_setBit _ 0 b (by decide)
  case reset => exact fun b => completes_softReset up b rfl
  case cleared =>
    intro a ha
    rw [Page.rd_clearRegs, Page.ef_clearRegs]
    simp [ha]
  case cause => exact completes_faultCauseClear up (Page.causeClear_regs s.begin p)
  case force =>
    exact fun v => completes_irqForce up v ⟨State.rd_wr_same _ _ _, fun a ha => State.rd_wr_ne _ _ ha, fun _ => rfl⟩
  case eoi =>
    rintro v rfl hv hpend hmask
    exact completes_irqEoi up hv hpend hmask

end Sys2Proof.Machine
end

section
/-!
PROOFS. What the operations on plait slots do to their slot and to the others, and the statement on plaits (R70 to R78, R511, R602).
-/
namespace Sys2Proof.Machine

/-! ### Slots -/

@[simp] theorem Plait.slot_setSlot_same (s : State) (k : Nat) (x : Slot) : Plait.slot (Plait.setSlot s k x) k = x :=
  Tab.get_set_same _ _ _ _

theorem Plait.slot_setSlot_ne (s : State) {k j : Nat} (x : Slot) (h : j ≠ k) : Plait.slot (Plait.setSlot s k x) j = Plait.slot s j :=
  Tab.get_set_ne _ _ _ h

theorem Plait.slots_finish (s : State) (k : Nat) (o : Outcome) : (Plait.finish s k o).plait.slots =
    Tab.set Plait.slotDefault s.plait.slots k
      { Plait.slot s k with state := .done, outcome := o, writes := [], floating := none, finished := s.plait.seq + 1 } := rfl

theorem Plait.slot_finish_same (s : State) (k : Nat) (o : Outcome) : Plait.slot (Plait.finish s k o) k =
    { Plait.slot s k with state := .done, outcome := o, writes := [], floating := none, finished := s.plait.seq + 1 } := by
  rw [Plait.slot, Plait.slots_finish]
  exact Tab.get_set_same _ _ _ _

theorem Plait.slot_finish_ne (s : State) {k j : Nat} (o : Outcome) (h : j ≠ k) : Plait.slot (Plait.finish s k o) j = Plait.slot s j := by
  rw [Plait.slot, Plait.slots_finish]
  exact Tab.get_set_ne _ _ _ h

/-- A write to a register of the PLAIT page that acts. -/
theorem Page.write_plait {s t : State} (up : s.pageUp 3 = true) (ini o : Nat) (v : Word) (hlo : 0x40 ≤ o) (hhi : o < 0x800)
    (h4 : o % 4 = 0) (h : Plait.write s ini o v = some t) : Page.write s ini none (3 * 0x1000 + o) v = t := by
  have haction : Page.action s ini none 3 o v = some t := Eq.trans rfl h
  rw [Page.write_unit up ini o v hlo hhi h4, haction]
  rfl

/-! ### The slot that an open takes (R72) -/

/-- One step of the search for the done slot whose outcome came first: `f` orders the outcomes. -/
def Plait.older (f : Nat → Nat) (best : Option Nat) (k : Nat) : Option Nat :=
  match best with
  | none => some k
  | some b => if f k < f b then some k else best

theorem Plait.pick_eq (s : State) : Plait.pick s =
    (Plait.slots.find? (fun k => (Plait.slot s k).state == .free)).orElse (fun _ =>
      (Plait.slots.filter (fun k => (Plait.slot s k).state == .done)).foldl (Plait.older fun k => (Plait.slot s k).finished) none) :=
  rfl

/-- The search ends at the one slot that comes before all others. -/
theorem Plait.foldl_older {f : Nat → Nat} {k : Nat} (l : List Nat) (best : Option Nat) (hmem : k ∈ l ∨ best = some k)
    (hlist : ∀ j ∈ l, j ≠ k → f k < f j) (hbest : ∀ b, best = some b → b ≠ k → f k < f b) :
    l.foldl (Plait.older f) best = some k := by
  induction l generalizing best with
  | nil => simpa using hmem
  | cons x l ih =>
    have hx : x ≠ k → f k < f x := hlist x List.mem_cons_self
    refine ih _ ?_ (fun j hj => hlist j (List.mem_cons_of_mem _ hj)) ?_ <;> cases best with
    | none => grind [Plait.older]
    | some b => grind [Plait.older]

theorem Plait.mem_slots {k : Nat} : k ∈ Plait.slots ↔ 1 ≤ k ∧ k ≤ 15 := by
  unfold Plait.slots rangeFrom
  rw [List.mem_map]
  constructor
  · rintro ⟨i, hi, rfl⟩
    have := List.mem_range.mp hi
    omega
  · intro h
    exact ⟨k - 1, List.mem_range.mpr (by omega), by omega⟩

/-- The lowest-numbered free slot is taken. -/
theorem Plait.pick_free {s : State} {k : Nat} (hlo : 1 ≤ k) (hhi : k ≤ 15) (hfree : (Plait.slot s k).state = .free)
    (hfirst : ∀ j, 1 ≤ j → j < k → (Plait.slot s j).state ≠ .free) : Plait.pick s = some k := by
  have hfind : Plait.slots.find? (fun k => (Plait.slot s k).state == .free) = some k := by
    unfold Plait.slots rangeFrom
    rw [List.find?_map, Option.map_eq_some_iff]
    refine ⟨k - 1, List.find?_range_eq_some.mpr ⟨?_, List.mem_range.mpr (by omega), fun j hj => ?_⟩, by omega⟩
    · simpa [show 1 + (k - 1) = k by omega] using hfree
    · simpa using hfirst (1 + j) (by omega) (by omega)
  rw [Plait.pick_eq, hfind]
  rfl

/-- With no slot free, the done slot whose outcome came first is taken. -/
theorem Plait.pick_done {s : State} {k : Nat} (hlo : 1 ≤ k) (hhi : k ≤ 15)
    (hnone : ∀ j, 1 ≤ j → j ≤ 15 → (Plait.slot s j).state ≠ .free) (hdone : (Plait.slot s k).state = .done)
    (hfirst : ∀ j, 1 ≤ j → j ≤ 15 → j ≠ k → (Plait.slot s j).state = .done → (Plait.slot s k).finished < (Plait.slot s j).finished) :
    Plait.pick s = some k := by
  have hfind : Plait.slots.find? (fun k => (Plait.slot s k).state == .free) = none := by
    refine List.find?_eq_none.mpr fun j hj => ?_
    obtain ⟨h1, h15⟩ := Plait.mem_slots.mp hj
    simpa using hnone j h1 h15
  rw [Plait.pick_eq, hfind]
  refine Plait.foldl_older _ none (.inl (List.mem_filter.mpr ⟨Plait.mem_slots.mpr ⟨hlo, hhi⟩, by simpa using hdone⟩)) ?_ (by simp)
  intro j hj hne
  obtain ⟨hmem, hstate⟩ := List.mem_filter.mp hj
  obtain ⟨h1, h15⟩ := Plait.mem_slots.mp hmem
  exact hfirst j h1 h15 hne (by simpa using hstate)

/-- Slot `k` is taken by `ini` with the next ticket. -/
def Plait.opened (s : State) (ini k : Nat) : State :=
  let s1 := Plait.setSlot s k { state := .open, owner := ini, ticket := (s.plait.ticket + 1) % 65536 }
  { s1 with plait := { s1.plait with ticket := (s.plait.ticket + 1) % 65536 } }

/-- An open of an initiator that has no open plait, on a device that is no standby. -/
theorem Plait.open_pick {s : State} {ini k : Nat} (hstandby : s.isStandby = false) (hnone : Plait.openOf s ini = none)
    (hpick : Plait.pick s = some k) : Plait.open_ s ini = Plait.opened s ini k := by
  simp [Plait.open_, hstandby, hnone, hpick, Plait.opened]

theorem Plait.slots_opened (s : State) (ini k : Nat) : (Plait.opened s ini k).plait.slots = Tab.set Plait.slotDefault s.plait.slots k
    { state := .open, owner := ini, ticket := (s.plait.ticket + 1) % 65536 } := rfl

theorem Plait.slot_opened_same (s : State) (ini k : Nat) :
    Plait.slot (Plait.opened s ini k) k = { state := .open, owner := ini, ticket := (s.plait.ticket + 1) % 65536 } := by
  rw [Plait.slot, Plait.slots_opened]
  exact Tab.get_set_same _ _ _ _

theorem Plait.slot_opened_ne (s : State) (ini : Nat) {k j : Nat} (h : j ≠ k) : Plait.slot (Plait.opened s ini k) j = Plait.slot s j := by
  rw [Plait.slot, Plait.slots_opened]
  exact Tab.get_set_ne _ _ _ h

/-! ### Capture, commit and abort (R73, R74, R78) -/

section Open

variable {s : State} {ini k : Nat} (hopen : Plait.openOf s ini = some k)
include hopen

theorem Plait.capture_open {a : Nat} (v : Word) (hpage : a / 0x1000 ≠ 3) (hcommit : a % 0x1000 ≠ 0x1C)
    (hpresent : pagePresent s.variant (a / 0x1000) = true) : Plait.capture s ini a v =
      Plait.setSlot s k (if 4096 ≤ (Plait.slot s k).writes.length ∨ Plait.poolFree s = 0 then { Plait.slot s k with overfull := true }
        else { Plait.slot s k with writes := (Plait.slot s k).writes ++ [(a, v)], captured := (Plait.slot s k).captured + 1 }) := by
  simp only [Plait.capture, hopen, hpage, hcommit, hpresent, or_self, if_false, Bool.not_true, Bool.false_eq_true]
  split <;> rfl

theorem Plait.commit_open {v : Word} (hmode : fld v 1 0 ≠ 0) : Plait.commit s ini v =
    Plait.setSlot s k { Plait.slot s k with
      mode := fld v 1 0, allowTier := bit v 4
      frame := if fld v 1 0 = 2 then (Plait.slot s k).targetLo.toNat + (Plait.slot s k).targetHi.toNat * 2 ^ 32
        else if fld v 1 0 = 3 then frameCeil s.clk.rate
          (((Plait.slot s k).targetLo.toNat + (Plait.slot s k).targetHi.toNat * 2 ^ 32) * secU + (Plait.slot s k).targetNs.toNat * nsU)
        else 0 } := by
  simp only [Plait.commit, hopen, hmode, if_false]

end Open

/-- The word of a PLAIT_COMMIT row. -/
theorem commitWord_fields {m : Nat} (hm : m < 4) (b : Bool) : fld (w32 (m + 16 * b2n b)) 1 0 = m ∧ bit (w32 (m + 16 * b2n b)) 4 = b := by
  have hall : ∀ m < 4, ∀ b, fld (w32 (m + 16 * b2n b)) 1 0 = m ∧ bit (w32 (m + 16 * b2n b)) 4 = b := by decide
  exact hall m hm b

/-- The word that PLAIT_ABORT writes: the slot and the ticket. -/
theorem abortWord_fields {k ticket : Nat} (hk : k ≤ 15) (ht : ticket < 65536) :
    fld (w32 (k % 16 + at_ 16 (ticket % 65536))) 3 0 = k ∧ fld (w32 (k % 16 + at_ 16 (ticket % 65536))) 31 16 = ticket := by
  simp only [fld, w32, at_, BitVec.toNat_ofNat, Nat.shiftLeft_eq, Nat.shiftRight_eq_div_pow]
  omega

/-- An open plait, or a pending one whose tick is 2 us away, ends ABORT_HOST at a write of its slot and ticket. -/
theorem Plait.abort_ends {s : State} {k : Nat} {v : Word} (hk : fld v 3 0 = k) (h0 : k ≠ 0) (hticket : (Plait.slot s k).ticket = fld v 31 16)
    (hends : (Plait.slot s k).state = .open ∨ ((Plait.slot s k).state = .pending ∧
      ((Plait.slot s k).floating.isSome = true ∨ s.clk.ticking = false ∨
        s.clk.stake + 2 * usU ≤ tickAt s.clk.rate (Plait.slot s k).frame))) :
    Plait.abort s v = Plait.finish s k .abortHost := by
  subst hk
  unfold Plait.abort
  simp only [h0, hticket, ne_eq, not_true_eq_false, or_self, if_false, Bool.not_eq_true']
  obtain hopen | ⟨hpending, hfar⟩ := hends
  · exact if_pos hopen
  · rw [if_neg (by rw [hpending]; decide), if_pos ⟨hpending, hfar⟩]

/-! ### The decision (R74, R75, R511) -/

/-- The plait in slot `k` is pending for frame `n`: the next in decision order, with the drop of the tier that its checks gave. -/
def Plait.accepted (s : State) (k n drop : Nat) : State :=
  let s1 := Plait.setSlot s k { Plait.slot s k with
    state := .pending, frame := n, floating := none, decided := s.plait.seq + 1, tierDrop := drop, tierStepped := decide (0 < drop) }
  { s1 with plait := { s1.plait with seq := s.plait.seq + 1 } }

theorem Plait.slots_accepted (s : State) (k n drop : Nat) : (Plait.accepted s k n drop).plait.slots =
    Tab.set Plait.slotDefault s.plait.slots k { Plait.slot s k with
      state := .pending, frame := n, floating := none, decided := s.plait.seq + 1, tierDrop := drop, tierStepped := decide (0 < drop) } :=
  rfl

theorem Plait.slot_accepted_same (s : State) (k n drop : Nat) : Plait.slot (Plait.accepted s k n drop) k = { Plait.slot s k with
    state := .pending, frame := n, floating := none, decided := s.plait.seq + 1, tierDrop := drop, tierStepped := decide (0 < drop) } := by
  rw [Plait.slot, Plait.slots_accepted]
  exact Tab.get_set_same _ _ _ _

theorem Plait.slot_accepted_ne (s : State) {k j : Nat} (n drop : Nat) (h : j ≠ k) :
    Plait.slot (Plait.accepted s k n drop) j = Plait.slot s j := by
  rw [Plait.slot, Plait.slots_accepted]
  exact Tab.get_set_ne _ _ _ h

section Decision

variable {s : State} {k : Nat} (hopen : (Plait.slot s k).state = .open) (hmode : (Plait.slot s k).mode ≠ 0)
include hopen hmode

theorem Plait.decision_overfull (hfull : (Plait.slot s k).overfull = true) :
    Plait.decision s k = Plait.finish s k .abortFull := by
  simp [Plait.decision, hopen, hmode, hfull]

section Running

variable {n : Nat} (hon : s.rateOn = true) (htick : s.clk.ticking = true)
  (hn : n = if (Plait.slot s k).mode = 1 then s.firstTickAfter (Plait.lead s) else (Plait.slot s k).frame)
  (hfull : (Plait.slot s k).overfull = false)
include hon htick hn hfull

theorem Plait.decision_late (hlate : tickAt s.clk.rate n < s.clk.stake + Plait.lead s ∨ n < s.clk.nextTick) :
    Plait.decision s k = Plait.finish s k .abortLate := by
  simp [Plait.decision, hopen, hmode, hon, htick, hfull, ← hn, hlate]

variable (hearly : s.clk.stake + Plait.lead s ≤ tickAt s.clk.rate n) (hreach : s.clk.nextTick ≤ n)
include hearly hreach

theorem Plait.decision_inTime : Plait.decision s k =
    if Plait.conflicts s k (some n) then Plait.finish s k .abortConflict
    else match Plait.check4 s k (some n) with
      | .abort o s1 => Plait.finish s1 k o
      | .accept s1 drop => if !s1.rateOn then Plait.applyNow (Plait.accepted s1 k n drop) k else Hoop.sendPlait (Plait.accepted s1 k n drop) k := by
  have hnotLate : ¬ (tickAt s.clk.rate n < s.clk.stake + Plait.lead s ∨ n < s.clk.nextTick) := by omega
  simp [Plait.decision, hopen, hmode, hon, htick, hfull, ← hn, hnotLate]
  rfl

end Running

section NoRate

variable (hoff : s.rateOn = false) (hfull : (Plait.slot s k).overfull = false)
include hoff hfull

/-- While no rate is in force, a plait for a frame is late. -/
theorem Plait.decision_noFrames (h1 : (Plait.slot s k).mode ≠ 1) : Plait.decision s k = Plait.finish s k .abortLate := by
  simp [Plait.decision, hopen, hmode, hoff, hfull, h1]

end NoRate

end Decision

/-- While no rate is in force, an accepted plait of mode 1 applies at once (R511). -/
theorem Plait.decision_atOnce {s s1 : State} {k drop : Nat} (hopen : (Plait.slot s k).state = .open)
    (hoff : s.rateOn = false) (hfull : (Plait.slot s k).overfull = false) (h1 : (Plait.slot s k).mode = 1)
    (hclear : Plait.conflicts s k (some s.clk.frame) = false) (haccept : Plait.check4 s k (some s.clk.frame) = .accept s1 drop)
    (hoff1 : s1.rateOn = false) : Plait.decision s k = Plait.applyNow (Plait.accepted s1 k s.clk.frame drop) k := by
  have hoff2 : (Plait.accepted s1 k s.clk.frame drop).rateOn = false := hoff1
  simp [Plait.decision, hopen, hoff, hfull, h1, hclear, haccept]
  exact if_pos hoff2

/-! ### The rows -/

section Rows

variable {s : State} {P : State → Prop} (up : s.pageUp 3 = true)
include up

theorem completes_plaitOpen (ini : Nat) (h : P (Plait.open_ s.begin ini)) : Completes (.plaitOpen ini) s P := by
  refine completes_act (exec_plaitOpen ini s) (State.running_of_pageUp up) ?_
  have hwrite : Page.write s.begin ini none Reg.plaitOpen 1 = Plait.open_ s.begin ini :=
    Page.write_plait (s := s.begin) up ini 0x40 1 (by omega) (by omega) (by omega) rfl
  rwa [hwrite]

theorem Page.write_plaitCommit (ini : Nat) (v : Word) : Page.write s.begin ini none Reg.plaitCommit v = Plait.commit s.begin ini v :=
  Page.write_plait (s := s.begin) up ini 0x54 v (by omega) (by omega) (by omega) rfl

theorem completes_plaitAbort (k ticket : Nat) (h : P (Plait.abort s.begin (w32 (k % 16 + at_ 16 (ticket % 65536))))) :
    Completes (.plaitAbort k ticket) s P := by
  refine completes_act (exec_plaitAbort k ticket s) (State.running_of_pageUp up) ?_
  have hwrite : ∀ v, Page.write s.begin 0 none Reg.plaitAbort v = Plait.abort s.begin v := fun v =>
    Page.write_plait (s := s.begin) up 0 0x58 v (by omega) (by omega) (by omega) rfl
  rwa [Reg.poke, hwrite]

end Rows

/-- Settles O11: each row comes to the plait operation that its clause names, by the slot that the operation picks. -/
theorem plaitCommandsAct : Obligations.PlaitCommandsAct := by
  intro s hrun
  refine ⟨?opens, ?capture, ?commits, ?decides, ?noRate, ?aborts⟩
  case opens =>
    intro ini k up hstandby hnone hlo hhi hslot
    have hpick : Plait.pick s = some k := by
      obtain ⟨hfree, hfirst⟩ | ⟨hfull, hdone, hfirst⟩ := hslot
      · exact Plait.pick_free hlo hhi hfree hfirst
      · exact Plait.pick_done hlo hhi hfull hdone hfirst
    refine completes_plaitOpen up ini ?_
    rw [Plait.open_pick (s := s.begin) hstandby hnone hpick]
    exact ⟨Plait.slot_opened_same s.begin ini k, rfl, fun j hj => Plait.slot_opened_ne s.begin ini hj, rfl⟩
  case capture =>
    intro ini k a v hopen hcoil hwarp hpage hcommit hpresent
    refine completes_act (exec_plaitCapture ini a v s) hrun ?_
    rw [Weave.behind_none s.begin ini _ hcoil hwarp, Plait.capture_open (s := s.begin) hopen v hpage hcommit hpresent]
    refine ⟨fun ⟨hroom, hpool⟩ => ?_, fun hfull => ?_, fun j hj => Plait.slot_setSlot_ne s.begin _ hj, rfl⟩ <;>
      rw [Plait.slot_setSlot_same]
    · rw [if_neg (show ¬ (4096 ≤ (Plait.slot s.begin k).writes.length ∨ Plait.poolFree s.begin = 0) from
        not_or.mpr ⟨Nat.not_le.mpr hroom, hpool⟩)]
      exact ⟨rfl, rfl, rfl⟩
    · rw [if_pos (show 4096 ≤ (Plait.slot s.begin k).writes.length ∨ Plait.poolFree s.begin = 0 from hfull)]
      exact ⟨rfl, rfl⟩
  case commits =>
    intro ini k b up hopen
    refine ⟨completes_act (exec_plaitCommitNextFrame ini b s) hrun ?_, completes_act (exec_plaitCommitFrameIndex ini b s) hrun ?_,
      completes_act (exec_plaitCommitPtpTime ini b s) hrun ?_⟩
    all_goals rw [Page.write_plaitCommit up]
    · obtain ⟨hmode, htier⟩ := commitWord_fields (m := 1) (by omega) b
      rw [Plait.commit_open (s := s.begin) hopen (by rw [hmode]; decide), hmode, htier, if_neg (by decide), if_neg (by decide)]
      rfl
    · obtain ⟨hmode, htier⟩ := commitWord_fields (m := 2) (by omega) b
      rw [Plait.commit_open (s := s.begin) hopen (by rw [hmode]; decide), hmode, htier, if_pos rfl]
      rfl
    · obtain ⟨hmode, htier⟩ := commitWord_fields (m := 3) (by omega) b
      rw [Plait.commit_open (s := s.begin) hopen (by rw [hmode]; decide), hmode, htier, if_neg (by decide), if_pos rfl]
      rfl
  case decides =>
    rintro k l n hopen hmode hon htick rfl hn
    refine ⟨fun hfull => ?_, fun hfull hlate => ?_, fun hfull hearly hreach => ?_⟩
    · exact completes_act (exec_plaitCommitDecision k s) hrun (Plait.decision_overfull (s := s.begin) hopen hmode hfull)
    · exact completes_act (exec_plaitCommitDecision k s) hrun
        (Plait.decision_late (s := s.begin) hopen hmode hon htick hn hfull hlate)
    · have hdecision := Plait.decision_inTime (s := s.begin) hopen hmode hon htick hn hfull hearly hreach
      refine ⟨fun hclash => ?_, fun o s1 hclear habort => ?_, fun s1 drop hclear haccept hon1 => ?_⟩ <;>
        refine completes_act (exec_plaitCommitDecision k s) hrun ?_ <;> rw [hdecision]
      · rw [if_pos hclash]
      · rw [hclear, habort]
        rfl
      · rw [hclear, haccept]
        refine ⟨Plait.accepted s1 k n drop, ?_, Plait.slot_accepted_same s1 k n drop, fun j hj => Plait.slot_accepted_ne s1 n drop hj, rfl⟩
        simp only [hon1, Bool.not_true, Bool.false_eq_true, if_false]
  case noRate =>
    intro k hopen hmode hfull hoff
    refine ⟨fun h1 => ?_, fun s1 drop h1 hclear haccept hoff1 => ?_⟩ <;>
      refine completes_act (exec_plaitCommitDecision k s) hrun ?_
    · exact Plait.decision_noFrames (s := s.begin) hopen hmode hoff hfull h1
    · refine ⟨Plait.accepted s1 k s.clk.frame drop, Plait.decision_atOnce (s := s.begin) hopen hoff hfull h1 hclear haccept hoff1, ?_⟩
      rw [Plait.slot_accepted_same]
      exact ⟨rfl, rfl⟩
  case aborts =>
    rintro k ticket up hlo hhi ht rfl hends
    obtain ⟨hslot, hticket⟩ := abortWord_fields hhi ht
    refine completes_plaitAbort up k _ ?_
    rw [Plait.abort_ends (s := s.begin) hslot (by omega) hticket.symm hends, Plait.slot_finish_same]
    exact ⟨rfl, rfl, rfl, rfl, fun j hj => Plait.slot_finish_ne s.begin _ hj⟩

end Sys2Proof.Machine
end

section
/-!
PROOFS. What holding the pins, a failed attempt, a failed self-test and a reset leave as it is, and what they bring (R56, R515, R532).
-/
namespace Sys2Proof.Machine

/-! ### Registers past the page headers -/

/-- Register `a` stands past its page's header and is not FAULT's count of lost records: records, causes and interrupts of any page leave
it as it is. -/
def Reg.plain (a : Nat) : Bool := decide (0x40 ≤ a % 0x1000) && a != Reg.faultOverflow

section Plain

variable {a : Nat} (h : Reg.plain a = true)
include h

theorem Reg.plain_place : 0x40 ≤ a % 0x1000 ∧ a ≠ Reg.faultOverflow := by
  simpa [Reg.plain] using h

theorem Reg.plain_ne_irqStatus (p : Nat) : a ≠ Reg.irqStatus p := by
  obtain ⟨hplace, -⟩ := Reg.plain_place h
  unfold Reg.irqStatus
  omega

theorem State.rd_irq_plain (s : State) (p i : Nat) : (s.irq p i).rd a = s.rd a := State.rd_wr_ne _ _ (Reg.plain_ne_irqStatus h p)

theorem State.rd_faultD_plain (s : State) (p code d : Nat) : (s.faultD p code d).rd a = s.rd a := by
  obtain ⟨hplace, hoverflow⟩ := Reg.plain_place h
  exact State.faultD_ne _ _ _ _ (by unfold Reg.faultCause; omega) (by unfold Reg.faultCount; omega) (Reg.plain_ne_irqStatus h 7) hoverflow

theorem State.rd_fault_plain (s : State) (p code : Nat) : (s.fault' p code).rd a = s.rd a := State.rd_faultD_plain h s p code 0

end Plain

/-! ### The pins are held (R515, R532) -/

theorem Pstg.allOff_only (s : State) : ∃ x, Pstg.allOff s = { s with pstg := x } := by
  refine List.foldlRecOn (motive := fun t => ∃ x, t = { s with pstg := x }) (Pstg.chans s) (fun s c => Pstg.off s c 0) ⟨s.pstg, rfl⟩ ?_
  rintro _ ⟨x, rfl⟩ c -
  exact ⟨_, rfl⟩

theorem Port.zero_only (s : State) : ∃ x, Port.zero s = { s with port := x } := by
  have hpages := Port.pagesOnly.foldl (f := fun s p => Port.setPg s p
    { (Port.pg s p) with outReg := [], outStd := [], outPin := [], auxReg := [], auxPin := [] }) (fun s p => Port.setPg_only s p _)
    (Tab.keys s.port.pages) s
  unfold Port.zero
  rw [hpages]
  exact ⟨_, rfl⟩

theorem Claim.release_claim (s : State) : (Claim.release s).hoop.claim = false := by
  unfold Claim.release
  simp only []
  split <;> rfl

theorem Claim.release_only (s : State) :
    Claim.release s = { s with regs := (Claim.release s).regs, hoop := (Claim.release s).hoop } := by
  unfold Claim.release
  simp only []
  split <;> rfl

theorem Claim.rd_release (s : State) {a : Nat} (h : a ≠ Reg.irqStatus 8) : (Claim.release s).rd a = s.rd a := by
  unfold Claim.release
  simp only []
  split
  · exact State.rd_wr_ne _ _ h
  · rfl

/-- What stands after the pins of `s` are held: `t` has no ticks and no claim, and is as `s` in what a start works with. -/
structure Boot.PinsHeld (s t : State) : Prop where
  boot : t.boot = s.boot
  bist : t.bist = s.bist
  fault : t.fault = s.fault
  mono : t.clk.mono = s.clk.mono
  ticking : t.clk.ticking = false
  claim : t.hoop.claim = false
  regs : ∀ a, a ≠ Reg.irqStatus 8 → t.rd a = s.rd a

theorem Boot.holdPins_held (s : State) : Boot.PinsHeld s (Boot.holdPins s) := by
  obtain ⟨x, hoff⟩ := Pstg.allOff_only s
  obtain ⟨y, hzero⟩ := Port.zero_only { s with pstg := x }
  unfold Boot.holdPins
  rw [hoff, hzero]
  have hclaim := Claim.release_claim { s with pstg := x, port := y }
  have honly := Claim.release_only { s with pstg := x, port := y }
  have hregs : ∀ a, a ≠ Reg.irqStatus 8 → (Claim.release { s with pstg := x, port := y }).rd a = s.rd a := fun a ha =>
    Claim.rd_release _ ha
  generalize Claim.release _ = u at hclaim honly hregs
  exact {
    ticking := rfl, claim := hclaim, regs := hregs
    boot := by show u.boot = _; rw [honly]
    bist := by show u.bist = _; rw [honly]
    fault := by show u.fault = _; rw [honly]
    mono := by show u.clk.mono = _; rw [honly] }

/-- What stands after a Safe-Hold of `s` begins. -/
structure Boot.Holds (s t : State) : Prop where
  phase : t.boot.phase = 8
  retryDue : t.boot.retryDue = some (s.clk.mono + 10 * secU)
  hostGo : t.boot.hostGo = none
  fails : t.boot.fails = s.boot.fails
  inReset : t.boot.inReset = s.boot.inReset
  bist : t.bist = s.bist
  mono : t.clk.mono = s.clk.mono
  ticking : t.clk.ticking = false
  claim : t.hoop.claim = false
  faultN : t.faultN = true
  raised : bit (t.rd (Reg.irqStatus 4)) 2 = true
  regs : ∀ a, a ≠ Reg.irqStatus 4 → a ≠ Reg.irqStatus 8 → t.rd a = s.rd a

theorem Boot.enterHold_holds (s : State) : Boot.Holds s (Boot.enterHold s) := by
  have held := Boot.holdPins_held s
  have hfails : (Boot.holdPins s).boot.fails = s.boot.fails := congrArg BootSt.fails held.boot
  have hreset : (Boot.holdPins s).boot.inReset = s.boot.inReset := congrArg BootSt.inReset held.boot
  unfold Boot.enterHold
  generalize Boot.holdPins s = u at held hfails hreset
  exact {
    phase := rfl, hostGo := rfl, bist := held.bist, mono := held.mono, ticking := held.ticking, claim := held.claim
    retryDue := congrArg (fun m => some (m + 10 * secU)) held.mono
    fails := hfails
    inReset := hreset
    faultN := by simp [State.faultN]
    raised := State.irq_bit u 4 2 (by decide)
    regs := fun a h4 h8 => (State.rd_wr_ne _ _ h4).trans (held.regs a h8) }

/-! ### A self-test part fails (R532) -/

/-- What stands after self-test part `part` failed on `item`. -/
structure Boot.TestFailed (s : State) (part item : Nat) (t : State) : Prop where
  phase : t.boot.phase = 8
  retryDue : t.boot.retryDue = some (s.clk.mono + 10 * secU)
  ticking : t.clk.ticking = false
  claim : t.hoop.claim = false
  faultN : t.faultN = true
  result : t.rd Reg.bistResult = w32 (at_ 28 part + item % 65536)
  cause : fld (t.rd (Reg.faultCause 5)) 7 0 = 0x80
  bistRaised : bit (t.rd (Reg.irqStatus 5)) 0 = true
  bootRaised : bit (t.rd (Reg.irqStatus 4)) 2 = true

theorem Boot.safeHold_failed (s : State) (part item : Nat) : Boot.TestFailed s part item (Boot.safeHold s part item) := by
  have held := Boot.enterHold_holds (Bist.record s part item)
  have hclk : (Bist.record s part item).clk = s.clk := State.faultD_clk s 5 0x80 item
  have hcause : (Bist.record s part item).rd (Reg.faultCause 5) = (s.faultD 5 0x80 item).rd (Reg.faultCause 5) :=
    (State.rd_wr_ne _ _ (by decide)).trans (State.rd_wr_ne _ _ (by decide))
  have hraised : (Bist.record s part item).rd (Reg.irqStatus 5) = ((s.faultD 5 0x80 item).irq 5 0).rd (Reg.irqStatus 5) :=
    State.rd_wr_ne _ _ (by decide)
  rw [Boot.safeHold]
  exact {
    phase := held.phase, ticking := held.ticking, claim := held.claim, faultN := held.faultN, bootRaised := held.raised
    retryDue := by rw [held.retryDue, hclk]
    result := (held.regs _ (by decide) (by decide)).trans (State.rd_wr_same _ _ _)
    cause := by
      rw [held.regs _ (by decide) (by decide), hcause]
      exact State.faultD_cause s 5 0x80 item (by decide)
    bistRaised := by
      rw [held.regs _ (by decide) (by decide), hraised]
      exact State.irq_bit _ 5 0 (by decide) }

theorem Boot.failTest_failed (s : State) (part item : Nat) : Boot.TestFailed s part item (Boot.failTest s part item) := by
  obtain ⟨hphase, hretry, htick, hclaim, hfault, hresult, hcause, hbist, hboot⟩ :=
    Boot.safeHold_failed { s.irq 4 1 with boot := { s.boot with fails := s.boot.fails + 1 } } part item
  exact ⟨hphase, hretry, htick, hclaim, hfault, hresult, hcause, hbist, hboot⟩

/-! ### An attempt fails (R515, R532) -/

/-- What stands after the attempt of `s` failed with `code`: Boot-Wait, or Safe-Hold again. -/
structure Boot.Failed (s : State) (code : Nat) (t : State) : Prop where
  phase : t.boot.phase = if s.boot.safeOrigin then 8 else 7
  retryDue : t.boot.retryDue = some (s.clk.mono + if s.boot.safeOrigin then 10 * secU else Boot.delay (s.boot.fails + 1))
  fails : t.boot.fails = s.boot.fails + 1
  hostGo : t.boot.hostGo = none
  inReset : t.boot.inReset = s.boot.inReset
  mono : t.clk.mono = s.clk.mono
  ticking : t.clk.ticking = false
  claim : t.hoop.claim = false
  lastErr : t.rd Reg.bootLastErr = w32 (at_ 8 s.boot.source + code)
  attempts : t.rd Reg.bootAttempts = s.rd Reg.bootAttempts

/-- An attempt that was not made from Safe-Hold leads to Boot-Wait, with the delay of its failure. -/
theorem Boot.Failed.waits {s t : State} {code : Nat} (failed : Boot.Failed s code t) (horigin : s.boot.safeOrigin = false) :
    t.boot.phase = 7 ∧ t.boot.retryDue = some (s.clk.mono + Boot.delay (s.boot.fails + 1)) := by
  have hnot : ¬ s.boot.safeOrigin = true := by rw [horigin]; decide
  exact ⟨failed.phase.trans (if_neg hnot), by rw [failed.retryDue, if_neg hnot]⟩

/-- The failure of an attempt as its records have it, before the pins are held. -/
def Boot.noted (s : State) (code : Nat) : State :=
  let s1 := ((s.fault' Boot.page code).irq Boot.page 1).wr Reg.bootLastErr (w32 (at_ 8 s.boot.source + code))
  { s1 with boot := { s1.boot with fails := s.boot.fails + 1 } }

theorem Boot.fail_eq (s : State) (code : Nat) : Boot.fail s code =
    if s.boot.safeOrigin then Boot.enterHold (Boot.noted s code)
    else { Boot.holdPins (Boot.noted s code) with boot := { (Boot.holdPins (Boot.noted s code)).boot with
      phase := 7, retryDue := some ((Boot.holdPins (Boot.noted s code)).clk.mono + Boot.delay (s.boot.fails + 1))
      hostDue := none, hostGo := none } } := rfl

theorem Boot.noted_boot (s : State) (code : Nat) : (Boot.noted s code).boot = { s.boot with fails := s.boot.fails + 1 } :=
  congrArg (fun b : BootSt => { b with fails := s.boot.fails + 1 }) (State.faultD_boot s 4 code 0)

theorem Boot.noted_clk (s : State) (code : Nat) : (Boot.noted s code).clk = s.clk := State.faultD_clk s 4 code 0

theorem Boot.rd_noted (s : State) (code a : Nat) : (Boot.noted s code).rd a =
    (((s.fault' Boot.page code).irq Boot.page 1).wr Reg.bootLastErr (w32 (at_ 8 s.boot.source + code))).rd a := rfl

theorem Boot.noted_lastErr (s : State) (code : Nat) : (Boot.noted s code).rd Reg.bootLastErr = w32 (at_ 8 s.boot.source + code) := by
  rw [Boot.rd_noted, State.rd_wr_same]

theorem Boot.noted_attempts (s : State) (code : Nat) : (Boot.noted s code).rd Reg.bootAttempts = s.rd Reg.bootAttempts := by
  have hplain : Reg.plain Reg.bootAttempts = true := by decide
  rw [Boot.rd_noted, State.rd_wr_ne _ _ (by decide), State.rd_irq_plain hplain, State.rd_fault_plain hplain]

theorem Boot.fail_failed (s : State) (code : Nat) : Boot.Failed s code (Boot.fail s code) := by
  have hboot := Boot.noted_boot s code
  have hclk := Boot.noted_clk s code
  have hlast := Boot.noted_lastErr s code
  have hattempts := Boot.noted_attempts s code
  rw [Boot.fail_eq]
  generalize Boot.noted s code = u at hboot hclk hlast hattempts
  split
  next horigin =>
    have held := Boot.enterHold_holds u
    exact {
      hostGo := held.hostGo, ticking := held.ticking, claim := held.claim
      phase := by rw [held.phase, if_pos horigin]
      retryDue := by rw [held.retryDue, hclk, if_pos horigin]
      fails := by rw [held.fails, hboot]
      inReset := by rw [held.inReset, hboot]
      mono := by rw [held.mono, hclk]
      lastErr := (held.regs _ (by decide) (by decide)).trans hlast
      attempts := (held.regs _ (by decide) (by decide)).trans hattempts }
  next horigin =>
    have held := Boot.holdPins_held u
    exact {
      hostGo := rfl, ticking := held.ticking, claim := held.claim
      phase := by rw [if_neg horigin]
      retryDue := by
        rw [held.mono, hclk, if_neg horigin]
      fails := by
        show (Boot.holdPins u).boot.fails = _
        rw [held.boot, hboot]
      inReset := by
        show (Boot.holdPins u).boot.inReset = _
        rw [held.boot, hboot]
      mono := by
        show (Boot.holdPins u).clk.mono = _
        rw [held.mono, hclk]
      lastErr := (held.regs _ (by decide)).trans hlast
      attempts := (held.regs _ (by decide)).trans hattempts }

end Sys2Proof.Machine
end

section
/-!
PROOFS. What a reset keeps, and what a start attempt comes to up to the load of its image (R56, R505 to R509, R514, R515).
-/
namespace Sys2Proof.Machine

/-! ### Resets (R56, R515) -/

theorem Tab.get_filter {α : Type} [DecidableEq α] (d : Nat → α) (q : Nat → Bool) (t : Tab α) (k : Nat) :
    Tab.get d (t.filter fun e => q e.1) k = if q k then Tab.get d t k else d k := by
  have hdrop := Tab.get_drop d (fun k => !q k) t k
  unfold Tab.drop at hdrop
  simp only [Bool.not_not] at hdrop
  rw [hdrop]
  cases q k <;> rfl

theorem Tab.get_congr {α : Type} {d d' : Nat → α} (t : Tab α) {k : Nat} (h : d k = d' k) : Tab.get d t k = Tab.get d' t k := by
  induction t with
  | nil => exact h
  | cons e t ih =>
    unfold Tab.get
    rw [ih]

/-- The registers that a reset keeps: all of the pages that a retry leaves on, and the count of attempts in AON. -/
def Reset.keeps (level a : Nat) : Bool :=
  (level == 2 && (a / 0x1000 == 1 || a / 0x1000 == 2 || a / 0x1000 == 4 || a / 0x1000 == 5 || a / 0x1000 == 7)) ||
    (decide (1 ≤ level) && a == Reg.bootAttempts)

theorem State.rd_resetTo (s : State) (level a : Nat) :
    (s.resetTo level).rd a = if Reset.keeps level a then s.rd a else regReset s.variant a :=
  Tab.get_filter (regReset s.variant) (Reset.keeps level) s.regs a

theorem State.ef_resetTo (s : State) (level a : Nat) :
    (s.resetTo level).ef a = if Reset.keeps level a then s.ef a else regReset s.variant a :=
  Tab.get_filter (regReset s.variant) (Reset.keeps level) s.eff a

/-- A reset by PORST_N keeps no memory. -/
theorem State.mem_resetTo_porst (s : State) : (s.resetTo 0).mem = [] := List.filter_eq_nil_iff.mpr fun _ _ h => Bool.false_ne_true h

/-- A reset by SYSRST_N keeps DRAM and the common store. -/
theorem State.ld8_resetTo_sysrst (s : State) (a : Nat) : (s.resetTo 1).ld8 a = if dramBase ≤ a then s.ld8 a else 0 := by
  have hkeeps : (s.resetTo 1).mem = s.mem.filter fun e => decide (dramBase ≤ e.1) := by
    refine List.filter_congr fun e _ => ?_
    simp
  unfold State.ld8
  rw [hkeeps, Tab.get_filter memDefault (fun a => decide (dramBase ≤ a)) s.mem a]
  simp [memDefault]

/-! ### An attempt begins (R506 to R508) -/

/-- The attempt is counted, and its kind and source are chosen. -/
def Boot.attempted (s : State) (kind : Nat) : State :=
  let s1 := s.count Reg.bootAttempts 1
  { s1 with
    boot := { s1.boot with phase := 1, kind := kind, source := Boot.sourceOf s1.boot.bootCode s1.boot.fails, retryDue := none }
    bist := { s1.bist with window := s.boot.env.window % 16, waiting := false } }

/-- The PLLs have locked, and the OTP names the variant and the life cycle. -/
def Boot.identified (s : State) (kind : Nat) : State :=
  let s3 := (Boot.attempted s kind).pass (s.boot.env.elapsed * nsU)
  let v := Otp.variant s3
  let s4 : State := { s3 with
    variant := v
    boot := { s3.boot with phase := 3, lc := Otp.lifeCycle s3, fieldDebug := (Otp.record s3 .fieldDebug).getD 0 % 2 == 1 }
    budget := { s3.budget with domains := presentDomains v } }
  let role := Boot.hoopRole s4
  { s4 with hoop := { s4.hoop with role := role, state := if role = 0 then 0 else 1, peerClaim := s.boot.env.claimIn } }

section Begin

variable {s : State}

theorem Boot.begin_noLock (kind : Nat) (h : s.boot.env.pllLock = false) :
    Boot.begin s kind = Boot.fail ((Boot.attempted s kind).pass (3 * msU)) 0x88 := by
  unfold Boot.begin
  simp only [h]
  rfl

variable (h : s.boot.env.pllLock = true)
include h

/-- A quick start consumes the shutdown record. -/
theorem Boot.begin_quick : Boot.begin s 1 = Boot.load
    ((Boot.validRecord (Boot.identified s 1)).elim (Boot.identified s 1) (Boot.consume (Boot.identified s 1))) := by
  unfold Boot.begin
  simp only [h]
  split
  next hlock => cases hlock
  next =>
    split
    next k hrecord =>
      have hk : Boot.validRecord (Boot.identified s 1) = some k := hrecord
      rw [hk, Option.elim]
      rfl
    next hrecord =>
      have hnone : Boot.validRecord (Boot.identified s 1) = none := hrecord
      rw [hnone, Option.elim]
      rfl

theorem Boot.begin_full : Boot.begin s 0 =
    Boot.test (if s.boot.env.badBank then (Memc.trained (Boot.identified s 0) 15 s.boot.env.trainFail).fault' Bist.page 0x81
      else Memc.trained (Boot.identified s 0) 15 s.boot.env.trainFail) := by
  unfold Boot.begin
  simp only [h]
  rfl

end Begin

/-- The registers of a reset do not depend on the variant, but for BUDGET's domains. -/
theorem regReset_bootAttempts (v w : Variant) : regReset v Reg.bootAttempts = regReset w Reg.bootAttempts := by
  cases v <;> cases w <;> rfl

theorem Boot.attempted_attempts (s : State) (kind : Nat) :
    (Boot.attempted s kind).rd Reg.bootAttempts = satAdd (s.rd Reg.bootAttempts) 1 := State.count_same s Reg.bootAttempts

theorem Boot.identified_attempts (s : State) (kind : Nat) :
    (Boot.identified s kind).rd Reg.bootAttempts = satAdd (s.rd Reg.bootAttempts) 1 :=
  (Tab.get_congr _ (regReset_bootAttempts _ _)).trans (Boot.attempted_attempts s kind)

/-- From `s` to `t` an attempt has gone on: what changed is registers, but not the count of attempts, fault records, trainings and
records in flash. -/
def Boot.sameAttempt (s t : State) : Prop :=
  t = { s with regs := t.regs, fault := t.fault, freeCtr := t.freeCtr
               boot := { s.boot with sector0 := t.boot.sector0, sector1 := t.boot.sector1, train := t.boot.train
                                     trainValid := t.boot.trainValid } } ∧
  t.rd Reg.bootAttempts = s.rd Reg.bootAttempts

namespace Boot.sameAttempt

theorem refl (s : State) : Boot.sameAttempt s s := ⟨rfl, rfl⟩

theorem trans {s t u : State} (hst : Boot.sameAttempt s t) (htu : Boot.sameAttempt t u) : Boot.sameAttempt s u := by
  refine ⟨?_, htu.2.trans hst.2⟩
  have h := htu.1
  rw [hst.1] at h
  exact h

theorem foldl {α : Type} {f : State → α → State} (h : ∀ s a, Boot.sameAttempt s (f s a)) (l : List α) (s : State) :
    Boot.sameAttempt s (l.foldl f s) :=
  List.foldlRecOn l f (motive := Boot.sameAttempt s) (refl s) fun t ht a _ => ht.trans (h t a)

end Boot.sameAttempt

theorem State.wr_sameAttempt (s : State) {a : Nat} (v : Word) (h : Reg.bootAttempts ≠ a) : Boot.sameAttempt s (s.wr a v) :=
  ⟨rfl, State.rd_wr_ne _ _ h⟩

theorem State.irq_sameAttempt (s : State) (p i : Nat) : Boot.sameAttempt s (s.irq p i) :=
  State.wr_sameAttempt s _ (Reg.plain_ne_irqStatus (by decide) p)

theorem State.faultD_sameAttempt (s : State) (p code d : Nat) : Boot.sameAttempt s (s.faultD p code d) := by
  refine ⟨?_, State.rd_faultD_plain (by decide) s p code d⟩
  rw [State.faultD_eq]

/-- A training records its failures, and stores what it found. -/
theorem Memc.trained_sameAttempt (s : State) (mask failed : Nat) : Boot.sameAttempt s (Memc.trained s mask failed) := by
  refine .foldl (fun s c => ?_) _ s
  split
  · exact .refl s
  · split
    · have hrecord : Boot.sameAttempt s { s with boot := { s.boot with trainValid := s.boot.trainValid &&& (15 - 2 ^ c) } } := ⟨rfl, rfl⟩
      exact (hrecord.trans (State.faultD_sameAttempt _ _ _ _)).trans (State.irq_sameAttempt _ _ _)
    · exact ⟨rfl, rfl⟩

theorem Boot.consume_sameAttempt (s : State) (k : Nat) : Boot.sameAttempt s (Boot.consume s k) := by
  unfold Boot.consume Boot.setSector
  simp only []
  split <;> exact ⟨rfl, rfl⟩

/-- What stands when the attempt of the given kind that begins at `s` waits for its image. -/
structure Boot.Loading (s : State) (kind : Nat) (t : State) : Prop where
  phase : t.boot.phase = 4
  kind_eq : t.boot.kind = kind
  source : t.boot.source = Boot.sourceOf s.boot.bootCode s.boot.fails
  inReset : t.boot.inReset = s.boot.inReset
  variant : t.variant = Otp.variant s
  lc : t.boot.lc = Otp.lifeCycle s
  domains : t.budget.domains = presentDomains (Otp.variant s)
  mono : t.clk.mono = s.clk.mono + s.boot.env.elapsed * nsU
  attempts : t.rd Reg.bootAttempts = satAdd (s.rd Reg.bootAttempts) 1

/-- An attempt that goes on from its identification to the load. -/
theorem Boot.load_loading {s t : State} {kind : Nat} (h : Boot.sameAttempt (Boot.identified s kind) t) :
    Boot.Loading s kind (Boot.load t) := by
  obtain ⟨honly, hattempts⟩ := h
  exact {
    phase := rfl
    kind_eq := by show t.boot.kind = _; rw [honly]; rfl
    source := by show t.boot.source = _; rw [honly]; rfl
    inReset := by show t.boot.inReset = _; rw [honly]; rfl
    variant := by show t.variant = _; rw [honly]; rfl
    lc := by show t.boot.lc = _; rw [honly]; rfl
    domains := by show t.budget.domains = _; rw [honly]; rfl
    mono := by show t.clk.mono = _; rw [honly]; rfl
    attempts := hattempts.trans (Boot.identified_attempts s kind) }

/-! ### The self-test of a full start (R508, R526, R528) -/

/-- The result of parts 1 to 3 is reduced while the peer holds the claim. -/
def Boot.testNoted (s : State) : State :=
  let reduced := s.hoop.peerClaim && s.hoop.role != 0
  let s1 := s.wr Reg.bistStatus (setBit (setFld (s.rd Reg.bistStatus) 3 0 7) 5 reduced)
  if reduced then s1.fault' Bist.page 0x84 else s1

theorem Boot.testNoted_sameAttempt (s : State) : Boot.sameAttempt s (Boot.testNoted s) := by
  have hstatus := State.wr_sameAttempt s
    (setBit (setFld (s.rd Reg.bistStatus) 3 0 7) 5 (s.hoop.peerClaim && s.hoop.role != 0)) (a := Reg.bistStatus) (by decide)
  unfold Boot.testNoted
  simp only []
  split
  · exact hstatus.trans (State.faultD_sameAttempt _ _ _ _)
  · exact hstatus

/-- A field below a bit that is set keeps its value. -/
theorem fld_setBit_above (w : Word) {hi lo i : Nat} (b : Bool) (h : hi < i) (hlo : lo ≤ hi) : fld (setBit w i b) hi lo = fld w hi lo := by
  unfold fld setBit setFld w32
  apply Nat.eq_of_testBit_eq
  intro j
  simp only [Nat.testBit_mod_two_pow, Nat.testBit_shiftRight, BitVec.testBit_toNat, BitVec.getLsbD_or, BitVec.getLsbD_and,
    BitVec.getLsbD_not, BitVec.getLsbD_ofNat, Nat.testBit_shiftLeft, Nat.testBit_two_pow_sub_one]
  by_cases hj : j < hi + 1 - lo
  · have hbelow : ¬ i ≤ lo + j := by omega
    by_cases h32 : lo + j < 32
    · simp [hj, hbelow, h32]
    · simp [BitVec.getLsbD_of_ge w (lo + j) (by omega), h32]
  · simp [hj]

theorem Boot.testNoted_status (s : State) : fld ((Boot.testNoted s).rd Reg.bistStatus) 3 0 = 7 := by
  have hplain : Reg.plain Reg.bistStatus = true := by decide
  have hstatus : (Boot.testNoted s).rd Reg.bistStatus =
      setBit (setFld (s.rd Reg.bistStatus) 3 0 7) 5 (s.hoop.peerClaim && s.hoop.role != 0) := by
    unfold Boot.testNoted
    simp only []
    split
    · rw [State.rd_fault_plain hplain, State.rd_wr_same]
    · rw [State.rd_wr_same]
  rw [hstatus]
  exact (fld_setBit_above _ _ (by decide) (by decide)).trans (fld_setFld _ 3 0 7 (by decide) (by decide))

theorem Boot.testDone_passed {s : State} (h : s.boot.env.testFail = none) : Boot.testDone s = Boot.load (Boot.testNoted s) := by
  unfold Boot.testDone
  simp only [h]
  rfl

theorem Boot.testDone_failed {s : State} {part item : Nat} (h : s.boot.env.testFail = some (part, item)) (hpart : part ≤ 3) :
    Boot.testDone s = Boot.failTest ((Boot.testNoted s).wrF Reg.bistStatus 3 0 (7 - 2 ^ (part - 1))) part item := by
  unfold Boot.testDone
  simp only [h]
  exact if_pos hpart

/-- What a full start reaches before its self-test. -/
theorem Boot.begin_test {s : State} (h : s.boot.env.pllLock = true) :
    ∃ t, Boot.sameAttempt (Boot.identified s 0) t ∧ Boot.begin s 0 = Boot.test t := by
  have htrained := Memc.trained_sameAttempt (Boot.identified s 0) 15 s.boot.env.trainFail
  refine ⟨_, ?_, Boot.begin_full h⟩
  split
  · exact htrained.trans (State.faultD_sameAttempt _ _ _ _)
  · exact htrained

section FullStart

variable {s : State} (h : s.boot.env.pllLock = true)
include h

theorem Boot.begin_full_loading (hwindow : s.boot.env.window % 16 = 15) (hpass : s.boot.env.testFail = none) :
    Boot.Loading s 0 (Boot.begin s 0) := by
  obtain ⟨t, ht, hbegin⟩ := Boot.begin_test h
  have hholds : t.bist.window % 16 = 15 := by
    rw [ht.1]
    show s.boot.env.window % 16 % 16 = 15
    omega
  have hnoFail : t.boot.env.testFail = none := by rw [ht.1]; exact hpass
  rw [hbegin, Boot.test, if_pos hholds, Boot.testDone_passed hnoFail]
  exact Boot.load_loading (ht.trans (Boot.testNoted_sameAttempt t))

theorem Boot.begin_full_waits (hwindow : s.boot.env.window % 16 ≠ 15) :
    (Boot.begin s 0).boot.phase = 3 ∧ (Boot.begin s 0).bist.waiting = true ∧
    fld ((Boot.begin s 0).rd (Reg.faultCause 5)) 7 0 = 0x81 ∧ bit ((Boot.begin s 0).rd (Reg.irqStatus 5)) 2 = true := by
  obtain ⟨t, ht, hbegin⟩ := Boot.begin_test h
  have hlapses : t.bist.window % 16 ≠ 15 := by
    rw [ht.1]
    show s.boot.env.window % 16 % 16 ≠ 15
    omega
  have hphase : t.boot.phase = 3 := by rw [ht.1]; rfl
  have hcause : ((t.fault' 5 0x81).irq 5 2).rd (Reg.faultCause 5) = (t.fault' 5 0x81).rd (Reg.faultCause 5) :=
    State.irq_ne _ _ _ (by decide)
  rw [hbegin, Boot.test, if_neg hlapses]
  refine ⟨?_, rfl, ?_, State.irq_bit (t.fault' 5 0x81) 5 2 (by decide)⟩
  · exact (congrArg BootSt.phase (State.faultD_boot t 5 0x81 0)).trans hphase
  · exact (congrArg (fld · 7 0) hcause).trans (State.faultD_cause t 5 0x81 0 (by decide))

theorem Boot.begin_full_failed {part item : Nat} (hwindow : s.boot.env.window % 16 = 15)
    (hfail : s.boot.env.testFail = some (part, item)) (hpart : part ≤ 3) :
    (Boot.begin s 0).boot.phase = 8 ∧ (Boot.begin s 0).rd Reg.bistResult = w32 (at_ 28 part + item % 65536) := by
  obtain ⟨t, ht, hbegin⟩ := Boot.begin_test h
  have hholds : t.bist.window % 16 = 15 := by
    rw [ht.1]
    show s.boot.env.window % 16 % 16 = 15
    omega
  have hfail' : t.boot.env.testFail = some (part, item) := by rw [ht.1]; exact hfail
  rw [hbegin, Boot.test, if_pos hholds, Boot.testDone_failed hfail' hpart]
  have failed := Boot.failTest_failed ((Boot.testNoted t).wrF Reg.bistStatus 3 0 (7 - 2 ^ (part - 1))) part item
  exact ⟨failed.phase, failed.result⟩

end FullStart

theorem Boot.begin_quick_loading {s : State} (h : s.boot.env.pllLock = true) : Boot.Loading s 1 (Boot.begin s 1) := by
  rw [Boot.begin_quick h]
  refine Boot.load_loading ?_
  cases Boot.validRecord (Boot.identified s 1) with
  | none => exact .refl _
  | some k => exact Boot.consume_sameAttempt _ k

/-- The word of an attempt's failure holds its code. -/
theorem fld_errWord (source : Nat) {code : Nat} (h : code < 256) : fld (w32 (at_ 8 source + code)) 7 0 = code := by
  simp only [fld, w32, at_, BitVec.toNat_ofNat, Nat.shiftLeft_eq, Nat.shiftRight_zero]
  omega

/-- An attempt without a lock of the PLLs fails with 0x88 after 3 ms. -/
theorem Boot.begin_noLock_failed {s : State} (kind : Nat) (h : s.boot.env.pllLock = false) (horigin : s.boot.safeOrigin = false) :
    (Boot.begin s kind).boot.inReset = s.boot.inReset ∧ (Boot.begin s kind).boot.phase = 7 ∧
    (Boot.begin s kind).rd Reg.bootAttempts = satAdd (s.rd Reg.bootAttempts) 1 ∧
    fld ((Boot.begin s kind).rd Reg.bootLastErr) 7 0 = 0x88 ∧ (Boot.begin s kind).clk.mono = s.clk.mono + 3 * msU ∧
    (Boot.begin s kind).boot.retryDue = some ((Boot.begin s kind).clk.mono + Boot.delay (s.boot.fails + 1)) := by
  rw [Boot.begin_noLock kind h]
  have failed := Boot.fail_failed ((Boot.attempted s kind).pass (3 * msU)) 0x88
  have horigin' : ((Boot.attempted s kind).pass (3 * msU)).boot.safeOrigin = false := horigin
  obtain ⟨hphase, hretry⟩ := failed.waits horigin'
  refine ⟨failed.inReset, hphase, failed.attempts.trans (Boot.attempted_attempts s kind), ?_, failed.mono, ?_⟩
  · rw [failed.lastErr]
    exact fld_errWord _ (by decide)
  · rw [hretry, failed.mono]
    rfl

/-! ### The release of a reset (R505 to R507) -/

theorem Boot.validRecord_congr {s t : State} (hotp : t.boot.otp = s.boot.otp) (h0 : t.boot.sector0 = s.boot.sector0)
    (h1 : t.boot.sector1 = s.boot.sector1) : Boot.validRecord t = Boot.validRecord s := by
  have hbyte : Otp.byte t = Otp.byte s := by
    funext a
    rw [Otp.byte, Otp.byte, hotp]
  have hid : Otp.deviceId t = Otp.deviceId s := by rw [Otp.deviceId, Otp.deviceId, Otp.num, Otp.num, hbyte]
  have hvalid : Flash.valid t = Flash.valid s := by
    funext l
    rw [Flash.valid, Flash.valid, hid]
  rw [Boot.validRecord, Boot.validRecord, hvalid, h0, h1]

/-- The state that leaves reset, with its straps sampled. -/
def Boot.released (s : State) (e : StartEnv) : State := Boot.sample { s with boot := { s.boot with inReset := false, env := e } }

theorem Boot.release_eq {s : State} (e : StartEnv) (h : s.boot.inReset = true) :
    Boot.release s e = Boot.begin (Boot.released s e) (if (Boot.validRecord s).isSome then 1 else 0) := by
  have hrecord : Boot.validRecord (Boot.released s e) = Boot.validRecord s := Boot.validRecord_congr rfl rfl rfl
  rw [← hrecord]
  exact if_neg (by rw [h]; decide)

theorem Boot.release_idle {s : State} (e : StartEnv) (h : s.boot.inReset = false) : Boot.release s e = s := if_pos (by rw [h]; rfl)

/-! ### Retries (R515, R529, R532) -/

/-- A retry waits for its image under the conditions of a full start. -/
theorem Boot.retry_loading {s : State} (h : s.boot.env.pllLock = true) (hwindow : s.boot.env.window % 16 = 15)
    (hpass : s.boot.env.testFail = none) : (Boot.retry s).boot.phase = 4 ∧ (Boot.retry s).boot.kind = 0 ∧
      (Boot.retry s).boot.source = Boot.sourceOf s.boot.bootCode s.boot.fails ∧
      (Boot.retry s).rd Reg.bootAttempts = satAdd (s.rd Reg.bootAttempts) 1 ∧
      (Boot.retry s).clk.mono = s.clk.mono + s.boot.env.elapsed * nsU := by
  have loading : Boot.Loading (s.resetTo 2) 0 (Boot.retry s) := Boot.begin_full_loading (s := s.resetTo 2) h hwindow hpass
  have hkeeps : (s.resetTo 2).rd Reg.bootAttempts = s.rd Reg.bootAttempts := by
    rw [State.rd_resetTo, if_pos (by decide)]
  exact ⟨loading.phase, loading.kind_eq, loading.source, loading.attempts.trans (by rw [hkeeps]), loading.mono⟩

/-- The state in which the delay ends at `d`. -/
def Boot.delayed (s : State) (e : StartEnv) (d : Nat) : State := { s.toMono d with boot := { s.boot with env := e } }

theorem Boot.retryDue_now {s : State} {phase d : Nat} (e : StartEnv) (hdue : s.boot.retryDue = some d) (hphase : s.boot.phase = phase) :
    Boot.retryDue s phase e = Boot.retry (Boot.delayed s e d) := by
  unfold Boot.retryDue
  rw [hdue]
  exact if_pos hphase

theorem Boot.retryDue_idle {s : State} {phase : Nat} (e : StartEnv) (h : s.boot.retryDue = none ∨ s.boot.phase ≠ phase) :
    Boot.retryDue s phase e = s := by
  unfold Boot.retryDue
  split
  next d hdue =>
    obtain hnone | hphase := h
    · rw [hdue] at hnone
      cases hnone
    · exact if_neg hphase
  next => rfl

theorem Boot.attemptCmd_retries {s : State} {e : StartEnv} (h : s.boot.phase = 7 ∨ s.boot.phase = 8 ∨ s.boot.phase = 10)
    (hheld : s.jtag.held = false) : Boot.attemptCmd s e =
      Boot.retry { s with boot := { s.boot with env := e, safeOrigin := s.boot.phase == 8 } } :=
  if_pos ⟨h, by rw [hheld]; rfl⟩

theorem Boot.attemptCmd_idle {s : State} {e : StartEnv} (h : ¬ (s.boot.phase = 7 ∨ s.boot.phase = 8 ∨ s.boot.phase = 10)) :
    Boot.attemptCmd s e = s := if_neg fun h' => h h'.1

end Sys2Proof.Machine
end

section
/-!
PROOFS. The end of a start attempt, the load by the host and requests to shut down, and the statement on reset, start and shutdown
(R56, R505 to R518, R528 to R532, R572).
-/
namespace Sys2Proof.Machine

/-! ### The image and Ready (R508, R513, R518) -/

/-- A passage of time leaves the start as it is. -/
theorem State.pass_boot (s : State) (d : Nat) : (s.pass d).boot = s.boot := by
  have hclk : ∀ c : Clock, ({ s with clk := c } : State).boot = s.boot := fun _ => rfl
  exact hclk _

section Run

variable {s u : State} {x y : Option (List Byte)} {ns : Nat} (hphase : s.boot.phase = 4)
  (hgo : s.boot.source = 1 → s.boot.hostGo.isSome = true) (hpass : u = s.pass (ns * nsU))
include hphase hgo hpass

theorem Start.run_fails {l : List Byte} {k code : Nat} (himage : Start.image u x y = (l, k, some code)) :
    Start.run s x y ns = Boot.fail { u with boot := { u.boot with slot := k } } code := by
  have hruns : ¬ (s.boot.phase ≠ 4 ∨ (s.boot.source = 1 ∧ s.boot.hostGo = none)) := by
    rintro (h | ⟨h1, hnone⟩)
    · exact h hphase
    · simpa [hnone] using hgo h1
  unfold Start.run
  rw [if_neg hruns]
  simp only [← hpass, himage]

/-- A good image whose sections all act leads to Ready. -/
theorem Start.run_ready {img : List Byte} {k : Nat} {v s3 : State} (himage : Start.image u x y = (img, k, none))
    (htest : s.boot.kind = 0 → ∀ i, s.boot.env.testFail ≠ some (4, i))
    (hv : v = { u with boot := { u.boot with slot := k, phase := 5 }, osier := { u.osier with devLoaded := true } })
    (hsections : Start.sections (if s.boot.kind = 0 then v.wrF Reg.bistStatus 3 0 15 else v) img (Img.sections img) = (s3, none)) :
    Start.run s x y ns = Start.ready s3 img := by
  have hruns : ¬ (s.boot.phase ≠ 4 ∨ (s.boot.source = 1 ∧ s.boot.hostGo = none)) := by
    rintro (h | ⟨h1, hnone⟩)
    · exact h hphase
    · simpa [hnone] using hgo h1
  have hboot : u.boot = s.boot := by rw [hpass, State.pass_boot]
  have hkind : u.boot.kind = s.boot.kind := by rw [hboot]
  have henv : u.boot.env = s.boot.env := by rw [hboot]
  rw [hv, ← hkind] at hsections
  rw [← hkind, ← henv] at htest
  unfold Start.run
  rw [if_neg hruns]
  simp only [← hpass, himage]
  split
  next item hfail =>
    split at hfail
    next hfull =>
      split at hfail
      next i hitem => exact absurd hitem (htest hfull i)
      next => cases hfail
    next => cases hfail
  next =>
    split
    next t code hfail => cases hsections.symm.trans hfail
    next t hdone =>
      obtain rfl : s3 = t := congrArg Prod.fst (hsections.symm.trans hdone)
      rfl

end Run

theorem Start.run_idle {s : State} (x y : Option (List Byte)) (ns : Nat) (h : s.boot.phase ≠ 4 ∨ (s.boot.source = 1 ∧ s.boot.hostGo = none)) :
    Start.run s x y ns = s := if_pos h

/-- What Ready records in registers. -/
def Start.recorded (s : State) (img : List Byte) : State :=
  ((s.wr64 Reg.bootImageIdLo Reg.bootImageIdHi (Img.num img 0x18 8)).wr Reg.bootStartTimeMs
    (w32 (satU 16 ((s.clk.mono - s.boot.releaseAt) / msU)))).irq Boot.page 0

theorem Start.rd_recorded_imageId (s : State) (img : List Byte) :
    (Start.recorded s img).rd Reg.bootImageIdLo = w32 (Img.num img 0x18 8) := by
  unfold Start.recorded State.wr64
  rw [State.irq_ne _ _ _ (by decide), State.rd_wr_ne _ _ (by decide), State.rd_wr_ne _ _ (by decide), State.rd_wr_same]

theorem Start.recorded_raised (s : State) (img : List Byte) : bit ((Start.recorded s img).rd (Reg.irqStatus 4)) 0 = true := by
  unfold Start.recorded
  exact State.irq_bit _ 4 0 (by decide)

/-- The device is Ready, with no failure counted (R508, R515). -/
theorem Start.ready_facts {s : State} (img : List Byte) (h : s.boot.heldShutdown = false) :
    (Start.ready s img).boot.phase = 6 ∧ (Start.ready s img).boot.fails = 0 ∧
    bit ((Start.ready s img).rd (Reg.irqStatus 4)) 0 = true ∧ (Start.ready s img).hoop.readyAt = s.clk.mono ∧
    (Start.ready s img).rd Reg.bootImageIdLo = w32 (Img.num img 0x18 8) ∧ (Start.ready s img).mem = s.mem ∧
    (Start.ready s img).eff = s.eff := by
  unfold Start.ready
  simp only []
  split
  next hheld => exact absurd (show s.boot.heldShutdown = true from hheld) (by rw [h]; decide)
  next => exact ⟨rfl, rfl, Start.recorded_raised s img, rfl, Start.rd_recorded_imageId s img, rfl, rfl⟩

/-! ### The window of the self-test (R528) -/

/-- The window holds, and no start waits for it. -/
def Boot.windowSet (s : State) : State := { s with bist := { s.bist with window := 15, waiting := false } }

/-! ### The load by the host (R514) -/

/-- A write to a unit register that acts. -/
theorem Page.write_acts {s t : State} {p : Nat} (up : s.pageUp p = true) (ini o : Nat) (v : Word) (hlo : 0x40 ≤ o) (hhi : o < 0x800)
    (h4 : o % 4 = 0) (h : Page.action s ini none p o v = some t) : Page.write s ini none (p * 0x1000 + o) v = t := by
  rw [Page.write_unit up ini o v hlo hhi h4, h]
  rfl

theorem Boot.go_idle {s : State} (n : Nat) (h : s.boot.phase ≠ 4 ∨ s.boot.source ≠ 1 ∨ s.boot.hostGo.isSome = true) : Boot.go s n = s :=
  if_pos h

section Go

variable {s : State} {n : Nat} (hphase : s.boot.phase = 4) (hsource : s.boot.source = 1) (hnone : s.boot.hostGo = none)
include hphase hsource hnone

theorem Boot.go_takes (h0 : 0 < n) (hmax : n ≤ 16777216) (hgood : Boot.check s (Boot.hostImage s n) n = none) :
    Boot.go s n = { s with boot := { s.boot with hostGo := some n, hostDue := none } } := by
  have hlength : ¬ (n = 0 ∨ 16777216 < n) := by omega
  unfold Boot.go
  rw [if_neg (by simp [hphase, hsource, hnone]), if_neg hlength, hgood]

theorem Boot.go_fails {code : Nat} (h : (n = 0 ∧ code = 0x81) ∨ (16777216 < n ∧ code = 0x81) ∨
    (0 < n ∧ n ≤ 16777216 ∧ Boot.check s (Boot.hostImage s n) n = some code)) : Boot.go s n = Boot.fail s code := by
  unfold Boot.go
  rw [if_neg (by simp [hphase, hsource, hnone])]
  obtain ⟨hzero, rfl⟩ | ⟨hlong, rfl⟩ | ⟨h0, hmax, hbad⟩ := h
  · exact if_pos (.inl hzero)
  · exact if_pos (.inr hlong)
  · rw [if_neg (show ¬ (n = 0 ∨ 16777216 < n) by omega), hbad]

end Go

theorem completes_hostLoadGo {s : State} {n : Nat} {P : State → Prop} (up : s.pageUp 4 = true) (hn : n < 2 ^ 25)
    (h : P (Boot.go s.begin n)) : Completes (.hostLoadGo n) s P := by
  have hword : fld (w32 (n % 2 ^ 25)) 24 0 = n := by
    simp only [fld, w32, BitVec.toNat_ofNat, Nat.shiftRight_zero]
    omega
  have hwrite : ∀ v, Page.write s.begin 0 none Reg.bootHostGo v = Boot.go s.begin (fld v 24 0) := fun v =>
    Page.write_acts (s := s.begin) (p := 4) up 0 0x58 v (by omega) (by omega) (by omega) rfl
  refine completes_act (exec_hostLoadGo n s) (State.running_of_pageUp up) ?_
  rwa [Reg.poke, hwrite, hword]

theorem Boot.hostTimeout_idle {s : State} (h : s.boot.hostDue = none ∨ s.boot.phase ≠ 4 ∨ s.boot.hostGo.isSome = true) :
    Boot.hostTimeout s = s := by
  unfold Boot.hostTimeout
  split
  next d hdue =>
    refine if_neg ?_
    rintro ⟨hphase, hnone⟩
    simp [hdue, hphase, hnone] at h
  next => rfl

theorem Boot.hostTimeout_fails {s : State} {d : Nat} (hdue : s.boot.hostDue = some d) (hphase : s.boot.phase = 4)
    (hnone : s.boot.hostGo = none) : Boot.hostTimeout s = Boot.fail (s.toMono d) 0x80 := by
  unfold Boot.hostTimeout
  rw [hdue]
  exact if_pos ⟨hphase, hnone⟩

/-! ### Requests to shut down (R529, R572) -/

theorem Pstg.rampDown_only (l : List Nat) (s : State) (goal n : Nat) :
    ∃ x, l.foldl (fun s c => Pstg.rampDown s c goal n) s = { s with pstg := x } := by
  refine List.foldlRecOn (motive := fun t => ∃ x, t = { s with pstg := x }) l _ ⟨s.pstg, rfl⟩ ?_
  rintro _ ⟨x, rfl⟩ c -
  unfold Pstg.rampDown
  simp only []
  split
  · exact ⟨_, rfl⟩
  · split
    · exact ⟨x, rfl⟩
    · split <;> exact ⟨_, rfl⟩

theorem Shutdown.request_starting {s : State} (hlo : 1 ≤ s.boot.phase) (hhi : s.boot.phase ≤ 5) :
    Shutdown.request s = { s with boot := { s.boot with heldShutdown := true } } := if_pos ⟨hlo, hhi⟩

/-- At Ready the ramps begin. -/
theorem Shutdown.request_ready {s : State} (h : s.boot.phase = 6) :
    ∃ x, Shutdown.request s = { Port.rampDown s s.clk.frame with
      pstg := x, boot := { s.boot with phase := 9, shutStep := 2, shutDue := s.clk.mono + 20 * msU, heldShutdown := false } } := by
  obtain ⟨x, hramp⟩ := Pstg.rampDown_only (Pstg.chans (Port.rampDown s s.clk.frame)) (Port.rampDown s s.clk.frame) 2 s.clk.frame
  refine ⟨x, ?_⟩
  unfold Shutdown.request
  simp only []
  rw [if_neg (by omega), if_pos h, hramp]
  rfl

theorem Shutdown.request_waiting {s : State} (h : s.boot.phase = 7 ∨ s.boot.phase = 8) : Shutdown.request s =
    { s with boot := { s.boot with phase := 9, shutStep := 2, shutDue := s.clk.mono, retryDue := none } } := by
  unfold Shutdown.request
  simp only []
  rw [if_neg (by omega), if_neg (by omega), if_pos h]

theorem Shutdown.request_ignored {s : State} (h : s.boot.phase = 0 ∨ 9 ≤ s.boot.phase) : Shutdown.request s = s := by
  unfold Shutdown.request
  simp only []
  rw [if_neg (by omega), if_neg (by omega), if_neg (by omega)]

/-- A request by the pin or by a command, at a device that runs. -/
theorem completes_shutdown {s : State} {c : Instr} {P : State → Prop} (hrun : s.running = true)
    (hc : c = Instr.shutdownPin ∨ (c = Instr.shutdownCommand ∧ s.pageUp 4 = true)) (h : P (Shutdown.request s.begin)) :
    Completes c s P := by
  obtain rfl | ⟨rfl, up⟩ := hc
  · have hpin : Shutdown.pin s.begin = Shutdown.request s.begin := if_pos hrun
    exact completes_force (exec_shutdownPin s) (hpin ▸ h)
  · have hwrite : Page.write s.begin 0 none Reg.bootCmd 1 = Shutdown.request s.begin :=
      Page.write_acts (s := s.begin) (p := 4) up 0 0x50 1 (by omega) (by omega) (by omega) rfl
    refine completes_act (exec_shutdownCommand s) hrun ?_
    rwa [Reg.poke, hwrite]

theorem completes_startAttemptCommand {s : State} {P : State → Prop} (e : StartEnv) (up : s.pageUp 4 = true)
    (h : P (Boot.attemptCmd (Boot.withEnv s.begin e) e)) : Completes (.startAttemptCommand e) s P := by
  have hwrite : Page.write (Boot.withEnv s.begin e) 0 none Reg.bootCmd 2 = Boot.attemptCmd (Boot.withEnv s.begin e) e :=
    Page.write_acts (s := Boot.withEnv s.begin e) (p := 4) up 0 0x50 2 (by omega) (by omega) (by omega) rfl
  refine completes_act (exec_startAttemptCommand e s) (State.running_of_pageUp up) ?_
  rwa [Reg.poke, hwrite]

end Sys2Proof.Machine
end

section
/-!
PROOFS. The statement on reset, start and shutdown.
-/
namespace Sys2Proof.Machine

/-- Settles O38: each row comes to a reset, to a begun or failed attempt, to Safe-Hold or to a request, by the phase that the device is
in. -/
theorem startCommandsAct : Obligations.StartCommandsAct := by
  rintro s _ rfl
  refine ⟨?porst, ?sysrst, fun hout e => ?released, fun hreset e k hk => ⟨?noLock, ?loads, ?waits, ?fails⟩, ?frozenPin, fun hrun =>
    ⟨?noWait, ?waited, ?readyIdle, ?ready, ?hostLoad, ?timeoutIdle, ?timeout, ?failIdle, ?fail, ?retryIdle, ?holdIdle, ?retries,
      ?commandIdle, ?hold, ?holdEntryIdle, ?shutdown⟩⟩
  case porst =>
    refine completes_force (exec_porstAssert s) ⟨rfl, rfl, rfl, rfl, State.mem_resetTo_porst s.begin, fun a => ⟨?_, ?_⟩,
      rfl, rfl, rfl, rfl, rfl, rfl⟩
    · exact State.rd_resetTo s.begin 0 a
    · exact State.ef_resetTo s.begin 0 a
  case sysrst =>
    have hkeeps : ∀ a, a ≠ Reg.bootAttempts → Reset.keeps 1 a = false := fun a ha => by simp [Reset.keeps, ha]
    refine completes_force (exec_sysrstAssert s) ⟨rfl, rfl, rfl, rfl, State.ld8_resetTo_sysrst s.begin, ?_, fun a ha => ⟨?_, ?_⟩,
      rfl, rfl, rfl, rfl, rfl, rfl⟩
    · exact (State.rd_resetTo s.begin 1 _).trans (if_pos (by decide))
    · exact (State.rd_resetTo s.begin 1 a).trans (if_neg (by rw [hkeeps a ha]; decide))
    · exact (State.ef_resetTo s.begin 1 a).trans (if_neg (by rw [hkeeps a ha]; decide))
  case released => exact completes_force (exec_resetRelease e s) (Boot.release_idle (s := s.begin) e hout)
  case noLock =>
    intro hlock horigin
    refine completes_force (exec_resetRelease e s) ?_
    rw [Boot.release_eq (s := s.begin) e hreset]
    exact Boot.begin_noLock_failed (s := Boot.released s.begin e) _ hlock horigin
  case loads =>
    intro hlock hgo
    refine completes_force (exec_resetRelease e s) ?_
    have hk' : (Boot.validRecord s.begin).isSome = k := by rw [hk]; exact congrArg _ (Boot.validRecord_congr rfl rfl rfl)
    rw [Boot.release_eq (s := s.begin) e hreset, hk']
    have loading : Boot.Loading (Boot.released s.begin e) (if k then 1 else 0) (Boot.begin (Boot.released s.begin e) (if k then 1 else 0)) := by
      cases k with
      | true => exact Boot.begin_quick_loading (s := Boot.released s.begin e) hlock
      | false =>
        obtain ⟨hwindow, htest⟩ := hgo.resolve_left (by decide)
        exact Boot.begin_full_loading (s := Boot.released s.begin e) hlock hwindow htest
    exact ⟨loading.inReset, loading.phase, loading.kind_eq, loading.variant, loading.lc, loading.domains, loading.mono, loading.attempts⟩
  case waits =>
    intro hlock hquick hwindow
    refine completes_force (exec_resetRelease e s) ?_
    rw [Boot.release_eq (s := s.begin) e hreset, (Boot.validRecord_congr rfl rfl rfl : Boot.validRecord s.begin = Boot.validRecord s), ← hk,
      hquick]
    exact Boot.begin_full_waits (s := Boot.released s.begin e) hlock hwindow
  case fails =>
    intro p i hlock hquick hwindow htest _ hpart
    refine completes_force (exec_resetRelease e s) ?_
    rw [Boot.release_eq (s := s.begin) e hreset, (Boot.validRecord_congr rfl rfl rfl : Boot.validRecord s.begin = Boot.validRecord s), ← hk,
      hquick]
    exact Boot.begin_full_failed (s := Boot.released s.begin e) hlock hwindow htest hpart
  case frozenPin =>
    intro hfrozen hout hon
    have hheld : ¬ s.begin.running = true := by simp [State.running, hfrozen]
    refine completes_force (exec_shutdownPin s) ?_
    unfold Shutdown.pin
    rw [if_neg hheld]
    exact if_pos ⟨hfrozen, by rw [State.begin_boot, hout]; rfl, by rw [State.begin_budget, hon]; rfl⟩
  case noWait =>
    intro h
    refine completes_act (exec_selftestWindowHeld s) hrun (if_neg ?_)
    rintro ⟨hwaits, hphase⟩
    obtain hnot | hother := h
    · exact Bool.false_ne_true (hnot.symm.trans hwaits)
    · exact hother hphase
  case waited =>
    intro hwaits hphase htest
    have hheld : Boot.windowHeld s.begin = Boot.load (Boot.testNoted (Boot.windowSet s.begin)) :=
      (if_pos ⟨hwaits, hphase⟩).trans (Boot.testDone_passed (s := Boot.windowSet s.begin) htest)
    have hbist : (Boot.testNoted (Boot.windowSet s.begin)).bist = (Boot.windowSet s.begin).bist := by
      rw [(Boot.testNoted_sameAttempt (Boot.windowSet s.begin)).1]
    refine completes_act (exec_selftestWindowHeld s) hrun ?_
    rw [hheld]
    exact ⟨rfl, congrArg BistSt.waiting hbist, congrArg BistSt.window hbist, Boot.testNoted_status _⟩
  case readyIdle => exact fun h x y n => completes_act (exec_startReady x y n s) hrun (Start.run_idle (s := s.begin) x y n h)
  case ready =>
    intro x y n u hphase hgo hu
    refine ⟨fun l k code himage horigin => ?_, fun img k v s3 himage htest hv hsections hheld => ?_⟩ <;>
      refine completes_act (exec_startReady x y n s) hrun ?_
    · rw [Start.run_fails (s := s.begin) hphase hgo hu himage]
      have hboot : u.boot = s.boot := by rw [hu, State.pass_boot, State.begin_boot]
      have failed := Boot.fail_failed { u with boot := { u.boot with slot := k } } code
      obtain ⟨hwaits, hretry⟩ := failed.waits (show u.boot.safeOrigin = false by rw [hboot]; exact horigin)
      rw [← hboot]
      exact ⟨hwaits, failed.fails, failed.lastErr, hretry⟩
    · rw [Start.run_ready (s := s.begin) hphase hgo hu himage htest hv hsections]
      exact Start.ready_facts img hheld
  case hostLoad =>
    intro up n hn
    refine ⟨fun h => completes_hostLoadGo up hn (Boot.go_idle (s := s.begin) n h), fun hphase hsource hnone => ⟨fun h0 hmax hgood => ?_,
      fun code horigin hbad => ?_⟩⟩
    · have hgood' : Boot.check s.begin (Boot.hostImage s.begin n) n = none := hgood
      exact completes_hostLoadGo up hn (Boot.go_takes (s := s.begin) hphase hsource hnone h0 hmax hgood')
    · refine completes_hostLoadGo up hn ?_
      rw [Boot.go_fails (s := s.begin) hphase hsource hnone hbad]
      have failed := Boot.fail_failed s.begin code
      have hword : at_ 8 s.boot.source + code = 256 + code := by rw [hsource]; rfl
      exact ⟨(failed.waits horigin).1, failed.lastErr.trans (congrArg w32 hword), failed.hostGo⟩
  case timeoutIdle => exact fun h => completes_act (exec_hostLoadTimeout s) hrun (Boot.hostTimeout_idle (s := s.begin) h)
  case timeout =>
    intro d hdue hphase hnone horigin
    refine completes_act (exec_hostLoadTimeout s) hrun ?_
    rw [Boot.hostTimeout_fails (s := s.begin) hdue hphase hnone]
    have failed := Boot.fail_failed (s.begin.toMono d) 0x80
    have hboot : (s.begin.toMono d).boot = s.boot := (State.pass_boot s.begin _).trans rfl
    have hcode : fld ((Boot.fail (s.begin.toMono d) 0x80).rd Reg.bootLastErr) 7 0 = 0x80 := by
      rw [failed.lastErr]
      exact fld_errWord _ (by decide)
    exact ⟨(failed.waits (by rw [hboot]; exact horigin)).1, failed.mono.trans (State.toMono_mono s.begin d), hcode,
      failed.fails.trans (by rw [hboot])⟩
  case failIdle =>
    intro code h
    exact completes_act (exec_startAttemptFail code s) hrun (if_neg (by rw [State.begin_boot]; omega))
  case fail =>
    intro code hlo hhi hcode hmax
    have hfail : Boot.attemptFails s.begin code = Boot.fail s.begin code := if_pos ⟨hlo, hhi, hcode, hmax⟩
    refine completes_act (exec_startAttemptFail code s) hrun ?_
    rw [hfail]
    have failed := Boot.fail_failed s.begin code
    exact ⟨failed.phase, failed.fails, failed.claim, failed.ticking, failed.lastErr, failed.retryDue⟩
  case retryIdle => exact fun e h => completes_act (exec_bootRetry e s) hrun (Boot.retryDue_idle (s := s.begin) e h)
  case holdIdle => exact fun e h => completes_act (exec_safeHoldRetry e s) hrun (Boot.retryDue_idle (s := s.begin) e h)
  case retries =>
    rintro e hlock hwindow htest _ rfl
    have hretries : ∀ u : State, u.boot.env = e → u.boot.bootCode = s.boot.bootCode → u.boot.fails = s.boot.fails →
        u.rd Reg.bootAttempts = s.rd Reg.bootAttempts → (Boot.retry u).boot.phase = 4 ∧ (Boot.retry u).boot.kind = 0 ∧
          (Boot.retry u).boot.source = Boot.sourceOf s.boot.bootCode s.boot.fails ∧
          (Boot.retry u).rd Reg.bootAttempts = satAdd (s.rd Reg.bootAttempts) 1 ∧
          (Boot.retry u).clk.mono = u.clk.mono + e.elapsed * nsU := by
      rintro u rfl hcode hfails hattempts
      rw [← hcode, ← hfails, ← hattempts]
      exact Boot.retry_loading hlock hwindow htest
    have hdelayed : ∀ d, (Boot.delayed s.begin e d).clk.mono = max s.clk.mono d := State.toMono_mono s.begin
    refine ⟨fun d hdue hphase => ?_, fun d hdue hphase => ?_, fun up hphase hheld => ?_⟩
    · refine completes_act (exec_bootRetry e s) hrun ?_
      rw [Boot.retryDue_now (s := s.begin) e hdue hphase, ← hdelayed]
      exact hretries _ rfl rfl rfl rfl
    · refine completes_act (exec_safeHoldRetry e s) hrun ?_
      rw [Boot.retryDue_now (s := s.begin) e hdue hphase, ← hdelayed]
      exact hretries _ rfl rfl rfl rfl
    · refine completes_startAttemptCommand e up ?_
      rw [Boot.attemptCmd_retries (s := Boot.withEnv s.begin e) hphase hheld]
      exact hretries _ rfl rfl rfl rfl
  case commandIdle =>
    intro e up hphase
    exact completes_startAttemptCommand e up (Boot.attemptCmd_idle (s := Boot.withEnv s.begin e) (by
      show ¬ (s.boot.phase = 7 ∨ s.boot.phase = 8 ∨ s.boot.phase = 10)
      omega))
  case hold =>
    intro p i hphase
    have hfails : Boot.TestFailed s.begin p i (Bist.fails s.begin p i) := by
      unfold Bist.fails
      split
      · exact Boot.safeHold_failed s.begin p i
      next hready =>
        rw [if_pos (show 1 ≤ s.begin.boot.phase ∧ s.begin.boot.phase ≤ 5 from hphase.resolve_left hready)]
        exact Boot.failTest_failed s.begin p i
    exact completes_act (exec_safeHoldEntry p i s) hrun ⟨hfails.phase, hfails.retryDue, hfails.result, hfails.cause, hfails.bistRaised,
      hfails.bootRaised, hfails.claim, hfails.ticking, hfails.faultN⟩
  case holdEntryIdle =>
    intro p i hphase
    refine completes_act (exec_safeHoldEntry p i s) hrun ?_
    unfold Bist.fails
    rw [if_neg (by rw [State.begin_boot]; omega), if_neg (by rw [State.begin_boot]; omega)]
  case shutdown =>
    intro c hc
    refine ⟨fun hlo hhi => completes_shutdown hrun hc (Shutdown.request_starting (s := s.begin) hlo hhi), fun hready => ?_,
      fun hwaits => completes_shutdown hrun hc (Shutdown.request_waiting (s := s.begin) hwaits),
      fun hother => completes_shutdown hrun hc (Shutdown.request_ignored (s := s.begin) hother)⟩
    obtain ⟨x, hrequest⟩ := Shutdown.request_ready (s := s.begin) hready
    refine completes_shutdown hrun hc ?_
    rw [hrequest]
    exact ⟨rfl, rfl, rfl, rfl, rfl, rfl⟩

end Sys2Proof.Machine
end

section
/-!
PROOFS. How a member of a Hoop pair leaves the lockstep and rejoins (R537, R550, R554 to R556).
-/
namespace Sys2Proof.Machine

/-! ### The Coil of a member that rejoins (R219, R555) -/

/-- From `s` to `t` only the Coil's work and fault records have changed, and no register of the HOOP page. -/
def State.coilApart (s t : State) : Prop := State.coilOnly s t ∧ State.pairKept s t

namespace State.coilApart

theorem refl (s : State) : State.coilApart s s := ⟨State.coilOnly_refl s, .refl s⟩

theorem trans {s t u : State} (hst : State.coilApart s t) (htu : State.coilApart t u) : State.coilApart s u :=
  ⟨State.coilOnly_trans hst.1 htu.1, hst.2.trans htu.2⟩

theorem foldl {α : Type} {f : State → α → State} (h : ∀ s a, State.coilApart s (f s a)) (l : List α) (s : State) :
    State.coilApart s (l.foldl f s) :=
  List.foldlRecOn l f (motive := State.coilApart s) (refl s) fun t ht a _ => ht.trans (h t a)

theorem coil (s : State) (c : CoilSt) : State.coilApart s { s with coil := c } := ⟨rfl, rfl, fun _ _ => rfl⟩

end State.coilApart

theorem Coil.restart_apart (s : State) : State.coilApart s (Coil.restart s) := by
  have hsetNode : ∀ t i x, State.coilApart t (Coil.setNode t i x) := fun t i x => .coil t _
  unfold Coil.restart
  simp only []
  refine .trans (.trans (.trans (.coil s _) (.foldl (fun t i => ?_) _ _))
    (.coil _ _)) (.foldl (fun t i => ⟨Coil.release_only t i 1 _, Coil.settle_pairKept _ t 1 _ _⟩) _ _)
  split
  · exact hsetNode t i _
  · split
    · exact (hsetNode t i _).trans ⟨Coil.armNode_only _ i, Coil.armNode_pairKept _ i⟩
    · exact hsetNode t i _

/-! ### What a change of the lockstep leaves as it is -/

/-- From `h` to `h'` only the place in the lockstep and the rejoin have changed. -/
def HoopSt.placeOnly (h h' : HoopSt) : Prop :=
  h' = { h with state := h'.state, step := h'.step, joinFrame := h'.joinFrame, region := h'.region, matchFrom := h'.matchFrom
                holdFrom := h'.holdFrom, requested := h'.requested, joinWait := h'.joinWait, records := h'.records, cuts := h'.cuts
                fails := h'.fails, gaveUp := h'.gaveUp }

/-- From `s` to `t` only the pair's state, the Coil's work, and records in registers have changed: of the registers of the HOOP page
past its header only the count of rejoins. -/
def State.hoopOnly (s t : State) : Prop :=
  t = { s with regs := t.regs, coil := t.coil, fault := t.fault, budget := { s.budget with steps := t.budget.steps }, hoop := t.hoop } ∧
  ∀ a, a / 0x1000 = 8 → Reg.plain a = true → a ≠ Reg.hoopResyncCount → t.rd a = s.rd a

/-- The same, and of the pair's state only the place in the lockstep. -/
def State.placeOnly (s t : State) : Prop := State.hoopOnly s t ∧ HoopSt.placeOnly s.hoop t.hoop

namespace State.hoopOnly

theorem refl (s : State) : State.hoopOnly s s := ⟨rfl, fun _ _ _ _ => rfl⟩

theorem hoop (s : State) (h : HoopSt) : State.hoopOnly s { s with hoop := h } := ⟨rfl, fun _ _ _ _ => rfl⟩

theorem trans {s t u : State} (hst : State.hoopOnly s t) (htu : State.hoopOnly t u) : State.hoopOnly s u := by
  refine ⟨?_, fun a h8 hplain hcount => (htu.2 a h8 hplain hcount).trans (hst.2 a h8 hplain hcount)⟩
  have h := htu.1
  rw [hst.1] at h
  exact h

theorem eff {s t : State} (h : State.hoopOnly s t) : t.eff = s.eff := by rw [h.1]
theorem variant {s t : State} (h : State.hoopOnly s t) : t.variant = s.variant := by rw [h.1]
theorem peerTier {s t : State} (h : State.hoopOnly s t) : t.budget.peerTier = s.budget.peerTier := by rw [h.1]

end State.hoopOnly

namespace State.placeOnly

theorem refl (s : State) : State.placeOnly s s := ⟨.refl s, rfl⟩

theorem trans {s t u : State} (hst : State.placeOnly s t) (htu : State.placeOnly t u) : State.placeOnly s u := by
  refine ⟨hst.1.trans htu.1, ?_⟩
  have h := htu.2
  unfold HoopSt.placeOnly at h ⊢
  rw [hst.2] at h
  exact h

/-- A change of the pair's state that is one of the place only. -/
theorem hoop {s : State} {h : HoopSt} (hplace : HoopSt.placeOnly s.hoop h) : State.placeOnly s { s with hoop := h } := ⟨.hoop s h, hplace⟩

end State.placeOnly

theorem State.coilApart.placeOnly {s t : State} (h : State.coilApart s t) : State.placeOnly s t := by
  have honly := h.1
  unfold State.coilOnly at honly
  have hhoop : t.hoop = s.hoop := by rw [honly]
  refine ⟨⟨?_, fun a h8 _ _ => h.2.2 a h8⟩, ?_⟩
  · rw [hhoop]
    exact honly
  · rw [hhoop]
    rfl

theorem State.irq_placeOnly (s : State) (p i : Nat) : State.placeOnly s (s.irq p i) :=
  ⟨⟨rfl, fun _ _ hplain _ => State.rd_irq_plain hplain s p i⟩, rfl⟩

theorem State.fault_placeOnly (s : State) (p code : Nat) : State.placeOnly s (s.fault' p code) := by
  have honly : s.fault' p code = _ := State.faultD_eq s p code 0
  have hhoop : (s.fault' p code).hoop = s.hoop := State.faultD_hoop s p code 0
  refine ⟨⟨?_, fun a _ hplain _ => State.rd_fault_plain hplain s p code⟩, ?_⟩
  · rw [honly]
  · rw [hhoop]
    rfl

theorem State.resyncCount_placeOnly (s : State) : State.placeOnly s (s.count Reg.hoopResyncCount 1) :=
  ⟨⟨rfl, fun _ _ _ hcount => State.count_ne s 1 hcount⟩, rfl⟩

/-! ### Out of the lockstep, and a rejoin (R537, R555) -/

/-- The member keeps out of the lockstep. -/
def HoopSt.left (h : HoopSt) : HoopSt :=
  { h with state := 4, step := 0, joinWait := 0, matchFrom := none, holdFrom := none, requested := false }

/-- The member is at step 1 of a rejoin. -/
def HoopSt.begun (h : HoopSt) : HoopSt :=
  { h with state := 2, step := 1, joinFrame := none, region := 0, matchFrom := none, holdFrom := none, requested := false
           joinWait := 0, records := [], cuts := [] }

theorem Hoop.leaveStep_hoop (s : State) : (Hoop.leaveStep s).hoop = s.hoop.left := by
  unfold Hoop.leaveStep
  simp only []
  split
  · rfl
  · split <;> rfl

theorem Hoop.leaveStep_placeOnly (s : State) : State.placeOnly s (Hoop.leaveStep s) := by
  have hleft : State.placeOnly s { s with hoop := s.hoop.left } := .hoop rfl
  unfold Hoop.leaveStep
  simp only []
  split
  · exact hleft.trans (State.irq_placeOnly _ _ _)
  · split
    · exact hleft.trans (State.irq_placeOnly _ _ _)
    · exact hleft

/-- A rejoin of a member whose peer fits. -/
def Hoop.begun (s : State) : State := Coil.restart (({ s with hoop := s.hoop.begun } : State).count Reg.hoopResyncCount 1)

theorem Hoop.startRejoin_eq {s : State} (h : s.hoop.mismatch = false) : Hoop.startRejoin s =
    if s.hoop.state = 1 ∨ s.hoop.state = 5 then (Hoop.begun s).irq Hoop.page 0 else Hoop.begun s :=
  if_neg (by rw [h]; decide)

theorem Hoop.startRejoin_mismatch {s : State} (h : s.hoop.mismatch = true) : Hoop.startRejoin s = Hoop.leaveStep s := if_pos h

theorem Hoop.begun_hoop (s : State) : (Hoop.begun s).hoop = s.hoop.begun := by
  obtain ⟨honly, -⟩ := Coil.restart_apart (({ s with hoop := s.hoop.begun } : State).count Reg.hoopResyncCount 1)
  rw [Hoop.begun, honly]
  rfl

theorem Hoop.begun_placeOnly (s : State) : State.placeOnly s (Hoop.begun s) := by
  have hbegun : State.placeOnly s { s with hoop := s.hoop.begun } := .hoop rfl
  exact (hbegun.trans (State.resyncCount_placeOnly _)).trans (Coil.restart_apart _).placeOnly

theorem Hoop.begun_resyncCount (s : State) : (Hoop.begun s).rd Reg.hoopResyncCount = satAdd (s.rd Reg.hoopResyncCount) 1 :=
  ((Coil.restart_apart _).2.2 _ (by decide)).trans (State.count_same _ _)

/-- A header register of the page is as it was. -/
theorem Hoop.begun_header (s : State) {a : Nat} (h8 : a / 0x1000 = 8) (hcount : a ≠ Reg.hoopResyncCount) : (Hoop.begun s).rd a = s.rd a :=
  ((Coil.restart_apart _).2.2 _ h8).trans (State.count_ne _ _ hcount)

theorem Hoop.startRejoin_placeOnly (s : State) : State.placeOnly s (Hoop.startRejoin s) := by
  cases h : s.hoop.mismatch with
  | true =>
    rw [Hoop.startRejoin_mismatch h]
    exact Hoop.leaveStep_placeOnly s
  | false =>
    rw [Hoop.startRejoin_eq h]
    split
    · exact (Hoop.begun_placeOnly s).trans (State.irq_placeOnly _ _ _)
    · exact Hoop.begun_placeOnly s

/-- The place that a rejoin of `s` leads to. -/
theorem Hoop.startRejoin_hoop (s : State) :
    (Hoop.startRejoin s).hoop = if s.hoop.mismatch then s.hoop.left else s.hoop.begun := by
  cases h : s.hoop.mismatch with
  | true =>
    rw [Hoop.startRejoin_mismatch h, Hoop.leaveStep_hoop]
    rfl
  | false =>
    rw [Hoop.startRejoin_eq h]
    split <;> exact Hoop.begun_hoop s

theorem Hoop.startRejoin_resyncCount {s : State} (h : s.hoop.mismatch = false) :
    (Hoop.startRejoin s).rd Reg.hoopResyncCount = satAdd (s.rd Reg.hoopResyncCount) 1 := by
  rw [Hoop.startRejoin_eq h]
  split
  · exact (State.irq_ne _ _ _ (by decide)).trans (Hoop.begun_resyncCount s)
  · exact Hoop.begun_resyncCount s

/-- A member that is out of step, or rejoins, raises no interrupt by rejoining; nor does the page's cause change. -/
theorem Hoop.startRejoin_header {s : State} {a : Nat} (h8 : a / 0x1000 = 8) (hcount : a ≠ Reg.hoopResyncCount)
    (h : a ≠ Reg.irqStatus 8 ∨ s.hoop.state = 2 ∨ s.hoop.state = 4) : (Hoop.startRejoin s).rd a = s.rd a := by
  cases hmismatch : s.hoop.mismatch with
  | true =>
    rw [Hoop.startRejoin_mismatch hmismatch]
    unfold Hoop.leaveStep
    simp only []
    split
    · exact State.irq_ne _ _ _ (h.resolve_right (by omega))
    · split
      · exact State.irq_ne _ _ _ (h.resolve_right (by omega))
      · rfl
  | false =>
    rw [Hoop.startRejoin_eq hmismatch]
    split
    · exact (State.irq_ne _ _ _ (h.resolve_right (by omega))).trans (Hoop.begun_header s h8 hcount)
    · exact Hoop.begun_header s h8 hcount

/-! ### What a rejoin, its failure and a fall out of step come to, by the state that they count from -/

/-- A rejoin has begun, counted from `s`. -/
def Hoop.joined (s t : State) : Prop :=
  if s.hoop.mismatch then t.hoop.state = 4 ∧ t.hoop.step = 0 else t.hoop.state = 2 ∧ t.hoop.step = 1 ∧
    t.hoop.joinFrame = none ∧ t.hoop.records = [] ∧ t.hoop.cuts = [] ∧ t.rd Reg.hoopResyncCount = satAdd (s.rd Reg.hoopResyncCount) 1

/-- A rejoin has failed, counted from `s`. -/
def Hoop.joinFailed (s t : State) : Prop :=
  if s.hoop.fails < 2 then Hoop.joined s t ∧ t.hoop.fails = s.hoop.fails + 1 else t.hoop.state = 4 ∧ t.hoop.step = 0 ∧
    t.hoop.gaveUp = true ∧ fld (t.rd (Reg.faultCause 8)) 7 0 = 0x84 ∧ bit (t.rd (Reg.irqStatus 8)) 6 = true

/-- The standby of `s` has fallen out of step with `code`. -/
def Hoop.fellOut (s t : State) (code : Nat) : Prop :=
  t.hoop.state = (if Hoop.autoResync s = true ∧ s.hoop.gaveUp = false ∧ s.hoop.mismatch = false then 2 else 4) ∧
  fld (t.rd (Reg.faultCause 8)) 7 0 = code ∧ bit (t.rd (Reg.irqStatus 8)) 3 = true

theorem Hoop.startRejoin_joined {s u : State} (hmismatch : u.hoop.mismatch = s.hoop.mismatch)
    (hcount : u.rd Reg.hoopResyncCount = s.rd Reg.hoopResyncCount) : Hoop.joined s (Hoop.startRejoin u) := by
  unfold Hoop.joined
  rw [Hoop.startRejoin_hoop, ← hmismatch, ← hcount]
  cases h : u.hoop.mismatch with
  | true => exact ⟨rfl, rfl⟩
  | false => exact ⟨rfl, rfl, rfl, rfl, rfl, Hoop.startRejoin_resyncCount h⟩

/-- The third failure in succession ends the rejoins. -/
def Hoop.gaveUp (s : State) : State :=
  { s with hoop := { s.hoop with state := 4, step := 0, fails := 0, gaveUp := true } }

theorem Hoop.failRejoin_again {s : State} (h : s.hoop.fails < 2) :
    Hoop.failRejoin s = Hoop.startRejoin { s with hoop := { s.hoop with fails := s.hoop.fails + 1 } } := by
  unfold Hoop.failRejoin
  simp only []
  exact if_neg (by omega)

theorem Hoop.failRejoin_ends {s : State} (h : ¬ s.hoop.fails < 2) :
    Hoop.failRejoin s = ((Hoop.gaveUp s).fault' Hoop.page 0x84).irq Hoop.page 6 := by
  unfold Hoop.failRejoin
  simp only []
  exact if_pos (by omega)

theorem Hoop.failRejoin_placeOnly (s : State) : State.placeOnly s (Hoop.failRejoin s) := by
  by_cases h : s.hoop.fails < 2
  · rw [Hoop.failRejoin_again h]
    exact State.placeOnly.trans (t := { s with hoop := { s.hoop with fails := s.hoop.fails + 1 } }) (.hoop rfl)
      (Hoop.startRejoin_placeOnly _)
  · rw [Hoop.failRejoin_ends h]
    exact (State.placeOnly.trans (t := Hoop.gaveUp s) (.hoop rfl) (State.fault_placeOnly _ _ _)).trans
      (State.irq_placeOnly _ _ _)

theorem Hoop.failRejoin_failed {s u : State} (hfails : u.hoop.fails = s.hoop.fails) (hmismatch : u.hoop.mismatch = s.hoop.mismatch)
    (hcount : u.rd Reg.hoopResyncCount = s.rd Reg.hoopResyncCount) : Hoop.joinFailed s (Hoop.failRejoin u) := by
  unfold Hoop.joinFailed
  rw [← hfails]
  split
  next h =>
    rw [Hoop.failRejoin_again h]
    refine ⟨Hoop.startRejoin_joined (u := { u with hoop := { u.hoop with fails := u.hoop.fails + 1 } }) hmismatch hcount, ?_⟩
    rw [Hoop.startRejoin_hoop]
    split <;> rfl
  next h =>
    have hhoop : (((Hoop.gaveUp u).fault' Hoop.page 0x84).irq Hoop.page 6).hoop = (Hoop.gaveUp u).hoop := State.faultD_hoop _ _ _ _
    have hcause : (((Hoop.gaveUp u).fault' Hoop.page 0x84).irq Hoop.page 6).rd (Reg.faultCause 8) =
        ((Hoop.gaveUp u).fault' Hoop.page 0x84).rd (Reg.faultCause 8) := State.irq_ne _ _ _ (by decide)
    rw [Hoop.failRejoin_ends h, hhoop, hcause]
    exact ⟨rfl, rfl, rfl, State.faultD_cause _ 8 0x84 0 (by decide), State.irq_bit _ 8 6 (by decide)⟩

/-- The member of `s` is out of step, with its fault recorded. -/
def Hoop.outNoted (s : State) (code : Nat) : State :=
  (({ s with hoop := { s.hoop with state := 4, holdFrom := none, requested := false } } : State).fault' Hoop.page code).irq Hoop.page 3

theorem Hoop.outNoted_hoop (s : State) (code : Nat) :
    (Hoop.outNoted s code).hoop = { s.hoop with state := 4, holdFrom := none, requested := false } :=
  State.faultD_hoop { s with hoop := { s.hoop with state := 4, holdFrom := none, requested := false } } 8 code 0

theorem Hoop.outNoted_eff (s : State) (code : Nat) : (Hoop.outNoted s code).eff = s.eff :=
  State.faultD_eff { s with hoop := { s.hoop with state := 4, holdFrom := none, requested := false } } 8 code 0

theorem Hoop.outNoted_variant (s : State) (code : Nat) : (Hoop.outNoted s code).variant = s.variant :=
  State.faultD_variant { s with hoop := { s.hoop with state := 4, holdFrom := none, requested := false } } 8 code 0

theorem Hoop.outNoted_placeOnly (s : State) (code : Nat) : State.placeOnly s (Hoop.outNoted s code) :=
  (State.placeOnly.trans (t := { s with hoop := { s.hoop with state := 4, holdFrom := none, requested := false } })
    (.hoop rfl) (State.fault_placeOnly _ _ _)).trans (State.irq_placeOnly _ _ _)

theorem Hoop.autoResync_congr {s t : State} (heff : t.eff = s.eff) (hvariant : t.variant = s.variant) :
    Hoop.autoResync t = Hoop.autoResync s := by
  unfold Hoop.autoResync State.efB State.ef
  rw [heff, hvariant]

theorem Hoop.outOfStep_idle {s : State} (code : Nat) (h : s.hoop.state ≠ 3) : Hoop.outOfStep s code = s := if_pos h

theorem Hoop.outOfStep_eq {s : State} (code : Nat) (h : s.hoop.state = 3) : Hoop.outOfStep s code =
    if Hoop.autoResync s = true ∧ s.hoop.gaveUp = false then Hoop.startRejoin (Hoop.outNoted s code) else Hoop.outNoted s code := by
  have hauto := Hoop.autoResync_congr (Hoop.outNoted_eff s code) (Hoop.outNoted_variant s code)
  have hgave : (Hoop.outNoted s code).hoop.gaveUp = s.hoop.gaveUp := by rw [Hoop.outNoted_hoop]
  have hgo : Hoop.outOfStep s code = if Hoop.autoResync (Hoop.outNoted s code) = true ∧ (!(Hoop.outNoted s code).hoop.gaveUp) = true then
      Hoop.startRejoin (Hoop.outNoted s code) else Hoop.outNoted s code := if_neg (not_not.mpr h)
  rw [hgo, hauto, hgave]
  simp only [Bool.not_eq_true']

theorem Hoop.outOfStep_placeOnly (s : State) (code : Nat) : State.placeOnly s (Hoop.outOfStep s code) := by
  by_cases h : s.hoop.state = 3
  · rw [Hoop.outOfStep_eq code h]
    split
    · exact (Hoop.outNoted_placeOnly s code).trans (Hoop.startRejoin_placeOnly _)
    · exact Hoop.outNoted_placeOnly s code
  · rw [Hoop.outOfStep_idle code h]
    exact .refl s

theorem Hoop.outOfStep_fellOut {s u : State} {code : Nat} (hcode : code < 256) (hstate : u.hoop.state = 3)
    (hgave : u.hoop.gaveUp = s.hoop.gaveUp) (hmismatch : u.hoop.mismatch = s.hoop.mismatch) (heff : u.eff = s.eff)
    (hvariant : u.variant = s.variant) : Hoop.fellOut s (Hoop.outOfStep u code) code := by
  have hcause : fld ((Hoop.outNoted u code).rd (Reg.faultCause 8)) 7 0 = code := by
    have hirq : (Hoop.outNoted u code).rd (Reg.faultCause 8) =
        (({ u with hoop := { u.hoop with state := 4, holdFrom := none, requested := false } } : State).fault' 8 code).rd (Reg.faultCause 8) :=
      State.irq_ne _ _ _ (by decide)
    rw [hirq]
    exact State.faultD_cause _ 8 code 0 hcode
  have hirq : bit ((Hoop.outNoted u code).rd (Reg.irqStatus 8)) 3 = true := by
    unfold Hoop.outNoted
    exact State.irq_bit _ 8 3 (by decide)
  unfold Hoop.fellOut
  rw [Hoop.outOfStep_eq code hstate, Hoop.autoResync_congr heff hvariant, hgave]
  have hout : (Hoop.outNoted u code).hoop.state = 4 := by rw [Hoop.outNoted_hoop]
  split
  next h =>
    rw [Hoop.startRejoin_header (by decide) (by decide) (.inr (.inr hout)), Hoop.startRejoin_header (by decide) (by decide) (.inr (.inr hout)),
      Hoop.startRejoin_hoop, Hoop.outNoted_hoop, hmismatch]
    refine ⟨?_, hcause, hirq⟩
    cases s.hoop.mismatch with
    | true => simp [HoopSt.left]
    | false => simp [h, HoopSt.begun]
  next h =>
    rw [if_neg (fun h' => h ⟨h'.1, h'.2.1⟩)]
    exact ⟨hout, hcause, hirq⟩

end Sys2Proof.Machine
end

section
/-!
PROOFS. A heartbeat and its loss (R536, R537, R539, R545, R550, R555).
-/
namespace Sys2Proof.Machine

/-! ### The parts of a heartbeat -/

/-- The peer is noted, with the offset of its tick. -/
def Hoop.heard (s : State) (b : Heartbeat) : State :=
  let peer : PeerSt := { role := b.role, state := b.state, id := b.id, variant := b.variant, build := b.build
                         claim := b.claim, unable := b.unable }
  ({ s with hoop := { s.hoop with peer := peer, lastHb := some s.clk.frame, hbLost := false } } : State).wr Reg.hoopTickOffsetNs
    (w32 (unsigned 32 b.offset))

/-- Of two members with one role, that with the higher identity becomes a secondary that claims no more. -/
def Hoop.judgeRole (equal : Bool) (s : State) : State :=
  if equal ∧ !s.hoop.refuseClaim then
    ({ s with hoop := { s.hoop with role := 2, refuseClaim := true } } : State).fault' Hoop.page 0x85 else s

/-- A mismatch is noted, with its fault when it is new. -/
def Hoop.noteImage (differ : Bool) (s : State) : State :=
  if differ ∧ !s.hoop.mismatch then ({ s with hoop := { s.hoop with mismatch := true } } : State).fault' Hoop.page 0x85
  else { s with hoop := { s.hoop with mismatch := differ } }

/-- A member whose image or variant differs leaves the lockstep. -/
def Hoop.judgeImage (differ : Bool) (s : State) : State :=
  if differ ∧ ((Hoop.noteImage differ s).hoop.state = 2 ∨ (Hoop.noteImage differ s).hoop.state = 3) then
    Hoop.leaveStep (Hoop.noteImage differ s) else Hoop.noteImage differ s

/-- Whether the offset lies out of its range is noted. -/
def Hoop.noteOffset (bad : Bool) (s : State) : State := { s with hoop := { s.hoop with offsetBad := bad } }

/-- An offset out of its range puts a standby out of step. -/
def Hoop.judgeOffset (bad : Bool) (s : State) : State :=
  if !bad then Hoop.noteOffset bad s
  else if s.hoop.state = 3 then Hoop.outOfStep (Hoop.noteOffset bad s) 0x86
  else if !s.hoop.offsetBad ∧ (Hoop.noteOffset bad s).isStandby then (Hoop.noteOffset bad s).fault' Hoop.page 0x86
  else Hoop.noteOffset bad s

/-- The active takes the peer's tier, and copies to a peer that rejoins. -/
def Hoop.judgeCopy (b : Heartbeat) (s : State) : State :=
  if s.hoop.state = 5 then
    { s with budget := { s.budget with peerTier := b.tier }
             hoop := { s.hoop with copy := if b.state = 2 then some (s.hoop.copy.getD {}) else none } }
  else { s with hoop := { s.hoop with copy := none } }

section Parts

variable {s : State} {b : Heartbeat}

theorem Hoop.heartbeat_idle (h : s.hoop.link = false ∨ s.hoop.role = 0 ∨ s.pageUp 8 = false) : Hoop.heartbeat s b = s :=
  if_pos (by
    unfold Hoop.page
    simpa using h)

variable (hlink : s.hoop.link = true) (hrole : s.hoop.role ≠ 0) (up : s.pageUp 8 = true)
include hlink hrole up

theorem Hoop.heartbeat_awake : ¬ ((!s.hoop.link) = true ∨ s.hoop.role = 0 ∨ (!s.pageUp Hoop.page) = true) := by
  have up' : s.pageUp Hoop.page = true := up
  simp [hlink, hrole, up']

theorem Hoop.heartbeat_badCrc (hcrc : b.crcOk = false) : Hoop.heartbeat s b = s.count Reg.hoopLinkErr 1 := by
  unfold Hoop.heartbeat
  rw [if_neg (Hoop.heartbeat_awake hlink hrole up), if_pos (by rw [hcrc]; rfl)]

theorem Hoop.heartbeat_parts (hcrc : b.crcOk = true) : Hoop.heartbeat s b =
    Hoop.judgeCopy b (Hoop.judgeOffset (decide (b.offset < -500 ∨ 500 < b.offset))
      (Hoop.judgeImage (decide (b.variant ≠ s.variant.code) || decide (b.build ≠ s.rd64 Reg.bootImageIdLo Reg.bootImageIdHi))
        (Hoop.judgeRole (decide (b.role = s.hoop.role) && decide (b.id < Otp.deviceId s)) (Hoop.heard s b)))) := by
  unfold Hoop.heartbeat
  rw [if_neg (Hoop.heartbeat_awake hlink hrole up), if_neg (by rw [hcrc]; decide)]
  rfl

end Parts

/-! ### What each part comes to -/

section Judged

variable (s : State)

theorem Hoop.judgeRole_only (equal : Bool) : State.hoopOnly s (Hoop.judgeRole equal s) := by
  unfold Hoop.judgeRole
  split
  · exact (State.hoopOnly.hoop s _).trans (State.fault_placeOnly _ _ _).1
  · exact .refl s

theorem Hoop.judgeRole_hoop (equal : Bool) : (Hoop.judgeRole equal s).hoop =
    if equal = true ∧ s.hoop.refuseClaim = false then { s.hoop with role := 2, refuseClaim := true } else s.hoop := by
  unfold Hoop.judgeRole
  simp only [Bool.not_eq_true']
  split
  · exact State.faultD_hoop _ _ _ _
  · rfl

theorem Hoop.noteImage_only (differ : Bool) : State.hoopOnly s (Hoop.noteImage differ s) := by
  unfold Hoop.noteImage
  split
  · exact (State.hoopOnly.hoop s _).trans (State.fault_placeOnly _ _ _).1
  · exact .hoop s _

theorem Hoop.noteImage_hoop (differ : Bool) : (Hoop.noteImage differ s).hoop = { s.hoop with mismatch := differ } := by
  unfold Hoop.noteImage
  split
  next h => exact (State.faultD_hoop _ _ _ _).trans (by rw [h.1])
  next => rfl

theorem Hoop.judgeImage_only (differ : Bool) : State.hoopOnly s (Hoop.judgeImage differ s) := by
  unfold Hoop.judgeImage
  split
  · exact (Hoop.noteImage_only s differ).trans (Hoop.leaveStep_placeOnly _).1
  · exact Hoop.noteImage_only s differ

theorem Hoop.judgeImage_hoop (differ : Bool) : (Hoop.judgeImage differ s).hoop =
    if differ = true ∧ (s.hoop.state = 2 ∨ s.hoop.state = 3) then ({ s.hoop with mismatch := differ } : HoopSt).left
    else { s.hoop with mismatch := differ } := by
  unfold Hoop.judgeImage
  rw [Hoop.noteImage_hoop]
  split
  · rw [Hoop.leaveStep_hoop, Hoop.noteImage_hoop]
  · exact Hoop.noteImage_hoop s differ

/-- A new mismatch is recorded. -/
theorem Hoop.judgeImage_cause (h : s.hoop.mismatch = false) : fld ((Hoop.judgeImage true s).rd (Reg.faultCause 8)) 7 0 = 0x85 := by
  have hnoted : fld ((Hoop.noteImage true s).rd (Reg.faultCause 8)) 7 0 = 0x85 := by
    unfold Hoop.noteImage
    rw [if_pos ⟨rfl, by rw [h]; rfl⟩]
    exact State.faultD_cause _ 8 0x85 0 (by decide)
  have hleft : ∀ t : State, (Hoop.leaveStep t).rd (Reg.faultCause 8) = t.rd (Reg.faultCause 8) := by
    intro t
    unfold Hoop.leaveStep
    simp only []
    split
    · exact State.irq_ne _ _ _ (by decide)
    · split
      · exact State.irq_ne _ _ _ (by decide)
      · rfl
  unfold Hoop.judgeImage
  split
  · rw [hleft]
    exact hnoted
  · exact hnoted

theorem Hoop.judgeOffset_inStep (h : s.hoop.state = 3) : Hoop.judgeOffset true s = Hoop.outOfStep (Hoop.noteOffset true s) 0x86 :=
  if_pos h

/-- The offset is noted, and the member keeps its place but for a standby in step. -/
theorem Hoop.judgeOffset_other {bad : Bool} (h : ¬ (bad = true ∧ s.hoop.state = 3)) :
    State.placeOnly (Hoop.noteOffset bad s) (Hoop.judgeOffset bad s) ∧ (Hoop.judgeOffset bad s).hoop.state = s.hoop.state := by
  unfold Hoop.judgeOffset
  split
  · exact ⟨.refl _, rfl⟩
  next hbad =>
    rw [Bool.not_eq_true', Bool.not_eq_false] at hbad
    rw [if_neg fun h3 => h ⟨hbad, h3⟩]
    split
    · have hhoop : ((Hoop.noteOffset bad s).fault' Hoop.page 0x86).hoop = (Hoop.noteOffset bad s).hoop := State.faultD_hoop _ _ _ _
      exact ⟨State.fault_placeOnly _ _ _, by rw [hhoop]; rfl⟩
    · exact ⟨.refl _, rfl⟩

theorem Hoop.judgeOffset_place (bad : Bool) : State.placeOnly (Hoop.noteOffset bad s) (Hoop.judgeOffset bad s) := by
  by_cases h : bad = true ∧ s.hoop.state = 3
  · obtain ⟨rfl, hstate⟩ := h
    rw [Hoop.judgeOffset_inStep s hstate]
    exact Hoop.outOfStep_placeOnly _ _
  · exact (Hoop.judgeOffset_other s h).1

theorem Hoop.judgeOffset_fellOut (h : s.hoop.state = 3) : Hoop.fellOut s (Hoop.judgeOffset true s) 0x86 := by
  rw [Hoop.judgeOffset_inStep s h]
  exact Hoop.outOfStep_fellOut (u := Hoop.noteOffset true s) (by decide) h rfl rfl rfl rfl

theorem Hoop.judgeOffset_state (bad : Bool) : (Hoop.judgeOffset bad s).hoop.state = (if bad = true ∧ s.hoop.state = 3 then
    (if Hoop.autoResync s = true ∧ s.hoop.gaveUp = false ∧ s.hoop.mismatch = false then 2 else 4) else s.hoop.state) := by
  split
  next h =>
    obtain ⟨rfl, hstate⟩ := h
    exact (Hoop.judgeOffset_fellOut s hstate).1
  next h => exact (Hoop.judgeOffset_other s h).2

theorem Hoop.judgeCopy_hoop (b : Heartbeat) : (Hoop.judgeCopy b s).hoop =
    { s.hoop with copy := if s.hoop.state = 5 ∧ b.state = 2 then some (s.hoop.copy.getD {}) else none } := by
  unfold Hoop.judgeCopy
  split
  next h => simp [h]
  next h => simp [h]

theorem Hoop.judgeCopy_rd (b : Heartbeat) (a : Nat) : (Hoop.judgeCopy b s).rd a = s.rd a := by
  unfold Hoop.judgeCopy
  split <;> rfl

theorem Hoop.judgeCopy_peerTier (b : Heartbeat) (h : s.hoop.state = 5) : (Hoop.judgeCopy b s).budget.peerTier = b.tier := by
  unfold Hoop.judgeCopy
  rw [if_pos h]

end Judged

/-! ### A heartbeat and its loss as a whole -/

/-- What a change of the place keeps of what a heartbeat notes. -/
theorem HoopSt.placeOnly.noted {h h' : HoopSt} (hplace : HoopSt.placeOnly h h') :
    h'.peer = h.peer ∧ h'.lastHb = h.lastHb ∧ h'.hbLost = h.hbLost ∧ h'.role = h.role ∧ h'.refuseClaim = h.refuseClaim ∧
    h'.mismatch = h.mismatch ∧ h'.offsetBad = h.offsetBad ∧ h'.copy = h.copy := by
  unfold HoopSt.placeOnly at hplace
  rw [hplace]
  exact ⟨rfl, rfl, rfl, rfl, rfl, rfl, rfl, rfl⟩

theorem Hoop.judgeImage_place (s : State) (differ : Bool) :
    HoopSt.placeOnly { s.hoop with mismatch := differ } (Hoop.judgeImage differ s).hoop := by
  rw [Hoop.judgeImage_hoop]
  split <;> rfl

section Heard

variable (s : State) (b : Heartbeat) (equal differ bad : Bool)

/-- A heartbeat, once its parts have been judged. -/
def Hoop.judged : State :=
  Hoop.judgeCopy b (Hoop.judgeOffset bad (Hoop.judgeImage differ (Hoop.judgeRole equal (Hoop.heard s b))))

/-- What a heartbeat notes. -/
theorem Hoop.judged_noted :
    (Hoop.judged s b equal differ bad).hoop.peer = { role := b.role, state := b.state, id := b.id, variant := b.variant, build := b.build
                                                     claim := b.claim, unable := b.unable } ∧
    (Hoop.judged s b equal differ bad).hoop.lastHb = some s.clk.frame ∧ (Hoop.judged s b equal differ bad).hoop.hbLost = false ∧
    (if equal = true ∧ s.hoop.refuseClaim = false then
      (Hoop.judged s b equal differ bad).hoop.role = 2 ∧ (Hoop.judged s b equal differ bad).hoop.refuseClaim = true
      else (Hoop.judged s b equal differ bad).hoop.role = s.hoop.role ∧
        (Hoop.judged s b equal differ bad).hoop.refuseClaim = s.hoop.refuseClaim) ∧
    (Hoop.judged s b equal differ bad).hoop.mismatch = differ ∧ (Hoop.judged s b equal differ bad).hoop.offsetBad = bad := by
  have hrole := Hoop.judgeRole_hoop (Hoop.heard s b) equal
  obtain ⟨peer2, last2, lost2, role2, refuse2, mismatch2, -, -⟩ :=
    (Hoop.judgeImage_place (Hoop.judgeRole equal (Hoop.heard s b)) differ).noted
  obtain ⟨peer3, last3, lost3, role3, refuse3, mismatch3, offset3, -⟩ :=
    (Hoop.judgeOffset_place (Hoop.judgeImage differ (Hoop.judgeRole equal (Hoop.heard s b))) bad).2.noted
  simp only [Hoop.judged, Hoop.judgeCopy_hoop, peer3, last3, lost3, role3, refuse3, mismatch3, offset3, Hoop.noteOffset, peer2, last2, lost2,
    role2, refuse2, mismatch2, hrole]
  have hrefuse : (Hoop.heard s b).hoop.refuseClaim = s.hoop.refuseClaim := rfl
  rw [hrefuse]
  split <;> exact ⟨rfl, rfl, rfl, ⟨rfl, rfl⟩, trivial, trivial⟩

/-- The place before the offset is judged. -/
theorem Hoop.judgeImage_state (u : State) : (Hoop.judgeImage differ (Hoop.judgeRole equal u)).hoop.state =
      (if differ = true ∧ (u.hoop.state = 2 ∨ u.hoop.state = 3) then 4 else u.hoop.state) ∧
    (Hoop.judgeImage differ (Hoop.judgeRole equal u)).hoop.gaveUp = u.hoop.gaveUp ∧
    (Hoop.judgeImage differ (Hoop.judgeRole equal u)).hoop.mismatch = differ ∧
    (Hoop.judgeImage differ (Hoop.judgeRole equal u)).hoop.copy = u.hoop.copy := by
  have hrole : (Hoop.judgeRole equal u).hoop.state = u.hoop.state ∧ (Hoop.judgeRole equal u).hoop.gaveUp = u.hoop.gaveUp ∧
      (Hoop.judgeRole equal u).hoop.copy = u.hoop.copy := by
    rw [Hoop.judgeRole_hoop]
    split <;> exact ⟨rfl, rfl, rfl⟩
  obtain ⟨hstate, hgave, hcopy⟩ := hrole
  rw [Hoop.judgeImage_hoop, hstate]
  split
  · exact ⟨rfl, hgave, rfl, hcopy⟩
  · exact ⟨hstate, hgave, rfl, hcopy⟩

/-- The place that a heartbeat leads to. -/
theorem Hoop.judged_state : (Hoop.judged s b equal differ bad).hoop.state =
    (if differ = true ∧ (s.hoop.state = 2 ∨ s.hoop.state = 3) then 4 else if bad = true ∧ s.hoop.state = 3 then
      (if Hoop.autoResync s = true ∧ s.hoop.gaveUp = false then 2 else 4) else s.hoop.state) := by
  obtain ⟨hstate, hgave, hmismatch, -⟩ := Hoop.judgeImage_state equal differ (Hoop.heard s b)
  have hauto : Hoop.autoResync (Hoop.judgeImage differ (Hoop.judgeRole equal (Hoop.heard s b))) = Hoop.autoResync s := by
    have honly := (Hoop.judgeRole_only (Hoop.heard s b) equal).trans (Hoop.judgeImage_only _ differ)
    exact Hoop.autoResync_congr honly.eff honly.variant
  have heard : (Hoop.heard s b).hoop.state = s.hoop.state ∧ (Hoop.heard s b).hoop.gaveUp = s.hoop.gaveUp := ⟨rfl, rfl⟩
  rw [Hoop.judged, Hoop.judgeCopy_hoop]
  simp only [Hoop.judgeOffset_state, hstate, hgave, hmismatch, hauto, heard]
  cases differ <;> grind

theorem Hoop.judged_offset : (Hoop.judged s b equal differ bad).rd Reg.hoopTickOffsetNs = w32 (unsigned 32 b.offset) := by
  have hplain : Reg.plain Reg.hoopTickOffsetNs = true := by decide
  have hbefore := (Hoop.judgeRole_only (Hoop.heard s b) equal).trans (Hoop.judgeImage_only _ differ)
  have hoffset := (Hoop.judgeOffset_place (Hoop.judgeImage differ (Hoop.judgeRole equal (Hoop.heard s b))) bad).1
  have hnoted : ∀ u : State, (Hoop.noteOffset bad u).rd Reg.hoopTickOffsetNs = u.rd Reg.hoopTickOffsetNs := fun _ => rfl
  rw [Hoop.judged, Hoop.judgeCopy_rd, hoffset.2 _ (by decide) hplain (by decide), hnoted, hbefore.2 _ (by decide) hplain (by decide), Hoop.heard,
    State.rd_wr_same]

/-- An offset that puts a standby out of step is recorded. -/
theorem Hoop.judged_offsetCause (h : s.hoop.state = 3) :
    fld ((Hoop.judged s b equal false true).rd (Reg.faultCause 8)) 7 0 = 0x86 := by
  obtain ⟨hstate, -⟩ := Hoop.judgeImage_state equal false (Hoop.heard s b)
  rw [Hoop.judged, Hoop.judgeCopy_rd]
  exact (Hoop.judgeOffset_fellOut _ (hstate.trans h)).2.1

/-- A new mismatch is recorded. -/
theorem Hoop.judged_imageCause (h : s.hoop.mismatch = false) :
    fld ((Hoop.judged s b equal true false).rd (Reg.faultCause 8)) 7 0 = 0x85 := by
  have hmismatch : (Hoop.judgeRole equal (Hoop.heard s b)).hoop.mismatch = false := by
    rw [Hoop.judgeRole_hoop]
    split <;> exact h
  rw [Hoop.judged, Hoop.judgeCopy_rd]
  exact Hoop.judgeImage_cause _ hmismatch

/-- A member is the active after a heartbeat as before it. -/
theorem Hoop.judgeOffset_active :
    (Hoop.judgeOffset bad (Hoop.judgeImage differ (Hoop.judgeRole equal (Hoop.heard s b)))).hoop.state = 5 ↔ s.hoop.state = 5 := by
  have hstate := Hoop.judged_state s b equal differ bad
  rw [Hoop.judged, Hoop.judgeCopy_hoop] at hstate
  simp only [] at hstate
  rw [hstate]
  split
  · omega
  · split
    · split <;> omega
    · rfl

theorem Hoop.judged_peerTier (h : s.hoop.state = 5) : (Hoop.judged s b equal differ bad).budget.peerTier = b.tier :=
  Hoop.judgeCopy_peerTier _ b ((Hoop.judgeOffset_active s b equal differ bad).mpr h)

theorem Hoop.judged_copy : (Hoop.judged s b equal differ bad).hoop.copy =
    if s.hoop.state = 5 ∧ b.state = 2 then some (s.hoop.copy.getD {}) else none := by
  obtain ⟨-, -, -, hcopy⟩ := Hoop.judgeImage_state equal differ (Hoop.heard s b)
  obtain ⟨-, -, -, -, -, -, -, hoffset⟩ :=
    (Hoop.judgeOffset_place (Hoop.judgeImage differ (Hoop.judgeRole equal (Hoop.heard s b))) bad).2.noted
  have hkept : (Hoop.judgeOffset bad (Hoop.judgeImage differ (Hoop.judgeRole equal (Hoop.heard s b)))).hoop.copy = s.hoop.copy :=
    hoffset.trans hcopy
  rw [Hoop.judged, Hoop.judgeCopy_hoop]
  simp only [Hoop.judgeOffset_active, hkept]

end Heard

theorem Hoop.heartbeatLoss_idle {s : State}
    (h : s.hoop.role = 0 ∨ s.hoop.hbLost = true ∨ ∃ f, s.hoop.lastHb = some f ∧ s.clk.frame < f + 8) : Hoop.heartbeatLoss s = s := by
  unfold Hoop.heartbeatLoss
  refine if_pos ?_
  obtain hrole | hlost | ⟨f, hlast, hf⟩ := h
  · exact .inl hrole
  · exact .inr (.inl hlost)
  · refine .inr (.inr ?_)
    rw [hlast]
    simpa using hf

theorem Hoop.heartbeatLoss_lost {s : State} (hrole : s.hoop.role ≠ 0) (hlost : s.hoop.hbLost = false)
    (h : ∀ f, s.hoop.lastHb = some f → f + 8 ≤ s.clk.frame) :
    Hoop.heartbeatLoss s = Hoop.outOfStep { s with hoop := { s.hoop with hbLost := true } } 0x82 := by
  unfold Hoop.heartbeatLoss
  refine if_neg ?_
  rintro (h0 | h1 | h2)
  · exact hrole h0
  · exact Bool.false_ne_true (hlost.symm.trans h1)
  · cases hlast : s.hoop.lastHb with
    | none => simp [hlast] at h2
    | some f =>
      have := h f hlast
      simp [hlast] at h2
      omega

end Sys2Proof.Machine
end

section
/-!
PROOFS. Frame records, reports, mirrored plaits, resync messages and the link of a Hoop pair (R81, R544, R545, R547 to R550, R555).
-/
namespace Sys2Proof.Machine

/-! ### The seal (R545, R547) -/

theorem Hoop.seal_idle {s : State} (l : List (Nat × Int)) (h : s.hoop.state ≠ 5 ∨ s.hoop.link = false ∨ s.clk.ticking = false ∨
    s.hoop.lastSeal = some s.clk.nextTick) : Hoop.seal s l = s :=
  if_pos (by simpa using h)

/-- From `s` to `t` only the sealed streams, taps and ratios have changed. -/
def State.sealsOnly (s t : State) : Prop :=
  t = { s with stream := t.stream, capt := t.capt, port := { s.port with asrc := t.port.asrc } }

theorem State.sealsOnly.trans {s t u : State} (hst : State.sealsOnly s t) (htu : State.sealsOnly t u) : State.sealsOnly s u := by
  unfold State.sealsOnly at hst htu ⊢
  rw [hst] at htu
  exact htu

theorem State.sealsOnly.foldl {α : Type} {f : State → α → State} (h : ∀ s a, State.sealsOnly s (f s a)) (l : List α) (s : State) :
    State.sealsOnly s (l.foldl f s) :=
  List.foldlRecOn l f (motive := State.sealsOnly s) rfl fun t ht a _ => ht.trans (h t a)

/-- The streams, taps and ratios of a record stand on the active. -/
def Hoop.sealedTaken (s : State) (r : FrameRecord) : State :=
  r.ratios.foldl (fun s e => Asrc.setEng s e.1 { Asrc.eng s e.1 with told := e.2.1 })
    (r.taps.foldl (fun s e => Capt.setCh s e.1 { Capt.ch s e.1 with active := some e.2 })
      (r.streams.foldl (fun s e => Stream.setRx s e.1 { Stream.rxs s e.1 with forced := some e.2 }) s))

theorem Hoop.sealedTaken_only (s : State) (r : FrameRecord) : State.sealsOnly s (Hoop.sealedTaken s r) := by
  unfold Hoop.sealedTaken
  refine ((State.sealsOnly.foldl (fun t e => ?_) _ s).trans (.foldl (fun t e => ?_) _ _)).trans (.foldl (fun t e => ?_) _ _) <;> rfl

/-- What the sealed decisions touch on the active itself. -/
theorem Hoop.sealed_only (s : State) (r : FrameRecord) : ∃ x y z,
    Hoop.sealed s r = { s with
      stream := x, capt := y, port := { s.port with asrc := z, hostForced := some r.hostIn }
      hoop := { s.hoop with lastSeal := some r.frame, sealOrder := s.scene.order
                            copy := s.hoop.copy.map (fun c => if c.step = 1 then { step := 2, from_ := r.frame } else c) } } := by
  have hsealed : Hoop.sealed s r = { Hoop.sealedTaken s r with
      port := { (Hoop.sealedTaken s r).port with hostForced := some r.hostIn }
      hoop := { (Hoop.sealedTaken s r).hoop with
        lastSeal := some r.frame, sealOrder := s.scene.order
        copy := (Hoop.sealedTaken s r).hoop.copy.map (fun c => if c.step = 1 then { step := 2, from_ := r.frame } else c) } } := rfl
  rw [hsealed, Hoop.sealedTaken_only s r]
  exact ⟨_, _, _, rfl⟩

/-- A message leaves with the sequence count of its type. -/
theorem Hoop.sendMsg_leaves {s : State} (m : HoopSent) (hlink : s.hoop.link = true) (hrole : s.hoop.role ≠ 0) (up : s.pageUp 8 = true) :
    Hoop.sendMsg s m = { s with hoop := { s.hoop with
      seqs := Tab.set (fun _ => 0) s.hoop.seqs m.kind ((s.hoop.seq m.kind + 1) % 2 ^ 32)
      sent := s.hoop.sent ++ [{ m with seq := s.hoop.seq m.kind }] } } := by
  have up' : s.pageUp Hoop.page = true := up
  exact if_neg (by simp [hlink, hrole, up'])

/-- What the active's seal leaves, and the message that it sends. -/
theorem Hoop.seal_sends {s : State} (l : List (Nat × Int)) (hstate : s.hoop.state = 5) (hlink : s.hoop.link = true)
    (htick : s.clk.ticking = true) (hnew : s.hoop.lastSeal ≠ some s.clk.nextTick) (hrole : s.hoop.role ≠ 0) (up : s.pageUp 8 = true)
    (hsent : s.hoop.sent = []) : (Hoop.seal s l).hoop.lastSeal = some s.clk.nextTick ∧
      (Hoop.seal s l).clk = (s.toMono (s.clk.tickMono + usU)).clk ∧ (Hoop.seal s l).regs = s.regs ∧ (Hoop.seal s l).mem = s.mem ∧
      (Hoop.seal s l).port.hostForced = some s.port.hostIn.isSome ∧ ∃ m r, (Hoop.seal s l).hoop.sent = [m] ∧ m.kind = 2 ∧
        m.seq = s.hoop.seq 2 ∧ m.frame = s.clk.nextTick ∧ m.record = some r ∧ r.frame = s.clk.nextTick ∧
        r.crc = Hoop.ownCrc s (s.clk.nextTick - 2) ∧ r.hostIn = s.port.hostIn.isSome ∧ r.tier = s.budget.nextTier ∧
        r.handover = s.hoop.handover ∧ r.decisions = s.hoop.decisions := by
  have hseal : Hoop.seal s l = Hoop.sendMsg (Hoop.sealed (s.toMono (s.clk.tickMono + usU))
      (Hoop.record (s.toMono (s.clk.tickMono + usU)) (s.toMono (s.clk.tickMono + usU)).clk.nextTick l))
      { kind := 2, frame := (s.toMono (s.clk.tickMono + usU)).clk.nextTick
        record := some (Hoop.record (s.toMono (s.clk.tickMono + usU)) (s.toMono (s.clk.tickMono + usU)).clk.nextTick l) } :=
    if_neg (by simp [hstate, hlink, htick, hnew])
  have hclk : ∃ c, s.toMono (s.clk.tickMono + usU) = { s with clk := c } ∧ c.nextTick = s.clk.nextTick := ⟨_, rfl, rfl⟩
  obtain ⟨c, hu, hnext⟩ := hclk
  rw [hseal, hu]
  obtain ⟨x, y, z, hsealed⟩ := Hoop.sealed_only { s with clk := c } (Hoop.record { s with clk := c } c.nextTick l)
  have hlink' : (Hoop.sealed { s with clk := c } (Hoop.record { s with clk := c } c.nextTick l)).hoop.link = true := by
    rw [hsealed]
    exact hlink
  have hrole' : (Hoop.sealed { s with clk := c } (Hoop.record { s with clk := c } c.nextTick l)).hoop.role ≠ 0 := by
    rw [hsealed]
    exact hrole
  have up' : (Hoop.sealed { s with clk := c } (Hoop.record { s with clk := c } c.nextTick l)).pageUp 8 = true := by
    rw [hsealed]
    exact up
  rw [Hoop.sendMsg_leaves _ hlink' hrole' up', hsealed]
  refine ⟨congrArg some hnext, rfl, rfl, rfl, rfl, _, _, congrArg (· ++ _) hsent, rfl, rfl, hnext, rfl, hnext, ?_, rfl, rfl, rfl, rfl⟩
  show Hoop.ownCrc s (c.nextTick - 2) = _
  rw [hnext]

end Sys2Proof.Machine
end

section
/-!
PROOFS. Frame records, mirrored plaits and the standby's report (R81, R547 to R550).
-/
namespace Sys2Proof.Machine

/-! ### The comparison of CRCs and decisions (R548 to R550) -/

/-- Whether the CRCs of frame `f` differ, where both are known. -/
def Hoop.crcVerdict (s : State) (f : Nat) (crc : Option Nat) : Option Bool :=
  match crc, Hoop.ownCrc s f with
  | some a, some b => some (a ≠ b)
  | _, _ => none

/-- Whether the peer's decisions differ. -/
def Hoop.strays (s : State) (d : List Nat) : Bool := (List.range 4).any (fun i => nth 0 d i ≠ nth 0 s.hoop.decisions i)

/-- What a difference, counted at `a`, makes of a member that does not rejoin. -/
def Hoop.mismatched (s : State) (a code : Nat) : State :=
  if s.hoop.state = 3 then Hoop.outOfStep (s.count a 1) code else (s.count a 1).fault' Hoop.page code

/-- The CRC of frame `f` is the peer's, as far as both are known. -/
def Hoop.sameCrc (s : State) (f : Nat) (crc : Option Nat) : Prop :=
  crc = none ∨ Hoop.ownCrc s f = none ∨ crc = Hoop.ownCrc s f

theorem Hoop.crcVerdict_same {s : State} {f : Nat} {crc : Option Nat} (h : Hoop.sameCrc s f crc) :
    Hoop.crcVerdict s f crc ≠ some true := by
  unfold Hoop.crcVerdict
  split
  next a b own =>
    rw [Hoop.sameCrc, own] at h
    simpa using h
  next => exact Option.some_ne_none _ |>.symm

theorem Hoop.crcVerdict_other {s : State} {f : Nat} {crc : Option Nat} (h : ¬ Hoop.sameCrc s f crc) :
    Hoop.crcVerdict s f crc = some true := by
  cases crc with
  | none => exact absurd (.inl rfl) h
  | some a =>
    cases hown : Hoop.ownCrc s f with
    | none => exact absurd (.inr (.inl hown)) h
    | some b =>
      have hne : a ≠ b := by
        rintro rfl
        exact h (.inr (.inr hown.symm))
      simp [Hoop.crcVerdict, hown, hne]

theorem Hoop.strays_iff (s : State) (d : List Nat) :
    Hoop.strays s d = !(List.range 4).all (fun i => nth 0 d i == nth 0 s.hoop.decisions i) := by
  rw [Hoop.strays, List.not_all_eq_any_not]
  congr 1
  funext i
  simp only [decide_not, beq_eq_decide]

theorem Hoop.strays_none {s : State} {d : List Nat} (h : ∀ i, nth 0 d i = nth 0 s.hoop.decisions i) : Hoop.strays s d = false := by
  rw [Hoop.strays_iff, Bool.not_eq_false', List.all_eq_true]
  exact fun i _ => beq_iff_eq.mpr (h i)

section Compare

variable {s : State} {f : Nat} {crc : Option Nat} {d : List Nat}

theorem Hoop.compare_lockstep (h : s.hoop.state ≠ 2) : Hoop.compare s f crc d =
    if Hoop.strays s d then
      Hoop.mismatched (if Hoop.crcVerdict s f crc = some true then Hoop.mismatched s Reg.hoopCrcMismatch 0x81 else s) Reg.hoopDiverge 0x82
    else if Hoop.crcVerdict s f crc = some true then Hoop.mismatched s Reg.hoopCrcMismatch 0x81 else s := if_neg h

theorem Hoop.compare_agree (h : s.hoop.state ≠ 2) (hcrc : Hoop.sameCrc s f crc) (hd : Hoop.strays s d = false) :
    Hoop.compare s f crc d = s := by
  rw [Hoop.compare_lockstep h, hd, if_neg (by decide), if_neg (Hoop.crcVerdict_same hcrc)]

theorem Hoop.compare_crc (h : s.hoop.state ≠ 2) (hcrc : ¬ Hoop.sameCrc s f crc) (hd : Hoop.strays s d = false) :
    Hoop.compare s f crc d = Hoop.mismatched s Reg.hoopCrcMismatch 0x81 := by
  rw [Hoop.compare_lockstep h, hd, if_neg (by decide), if_pos (Hoop.crcVerdict_other hcrc)]

theorem Hoop.compare_strays (h : s.hoop.state ≠ 2) (hcrc : Hoop.sameCrc s f crc) (hd : Hoop.strays s d = true) :
    Hoop.compare s f crc d = Hoop.mismatched s Reg.hoopDiverge 0x82 := by
  rw [Hoop.compare_lockstep h, if_pos hd, if_neg (Hoop.crcVerdict_same hcrc)]

/-- A member that rejoins is compared in step 6 only. -/
theorem Hoop.compare_joining (h : s.hoop.state = 2) (h6 : s.hoop.step ≠ 6) : Hoop.compare s f crc d = s :=
  (if_pos h).trans (if_neg h6)

theorem Hoop.compare_joinFails (h : s.hoop.state = 2) (h6 : s.hoop.step = 6) (hcrc : ¬ Hoop.sameCrc s f crc) :
    Hoop.compare s f crc d = Hoop.failRejoin s := by
  have hstep : Hoop.compare s f crc d = match Hoop.crcVerdict s f crc with
      | some true => Hoop.failRejoin s
      | some false => { s with hoop := { s.hoop with matchFrom := some (s.hoop.matchFrom.getD s.clk.frame) } }
      | none => s := (if_pos h).trans (if_pos h6)
  rw [hstep, Hoop.crcVerdict_other hcrc]

end Compare

/-- A standby in step leaves it by a difference, which is counted. -/
theorem Hoop.mismatched_fellOut {s u : State} {a code : Nat} (hcode : code < 256) (h8 : a / 0x1000 = 8) (hplain : Reg.plain a = true)
    (hcount : a ≠ Reg.hoopResyncCount) (hstate : u.hoop.state = 3) (hgave : u.hoop.gaveUp = s.hoop.gaveUp)
    (hmismatch : u.hoop.mismatch = s.hoop.mismatch) (heff : u.eff = s.eff) (hvariant : u.variant = s.variant) :
    Hoop.fellOut s (Hoop.mismatched u a code) code ∧ (Hoop.mismatched u a code).rd a = satAdd (u.rd a) 1 := by
  have hout : Hoop.mismatched u a code = Hoop.outOfStep (u.count a 1) code := if_pos hstate
  rw [hout]
  refine ⟨Hoop.outOfStep_fellOut (u := u.count a 1) hcode hstate hgave hmismatch heff hvariant, ?_⟩
  rw [(Hoop.outOfStep_placeOnly (u.count a 1) code).1.2 a h8 hplain hcount, State.count_same]

/-- Another member records a difference, and counts it. -/
theorem Hoop.mismatched_noted {s : State} {a code : Nat} (hcode : code < 256) (hplain : Reg.plain a = true) (hstate : s.hoop.state ≠ 3) :
    (Hoop.mismatched s a code).hoop = s.hoop ∧ fld ((Hoop.mismatched s a code).rd (Reg.faultCause 8)) 7 0 = code ∧
    (Hoop.mismatched s a code).rd a = satAdd (s.rd a) 1 := by
  have hnoted : Hoop.mismatched s a code = (s.count a 1).fault' 8 code := if_neg hstate
  rw [hnoted, State.rd_fault_plain hplain, State.count_same]
  exact ⟨State.faultD_hoop (s.count a 1) 8 code 0, State.faultD_cause _ 8 code 0 hcode, rfl⟩

/-! ### A frame record on the standby (R550) -/

theorem Hoop.frameRecord_idle {s : State} (r : FrameRecord) (h : s.isStandby = false ∨ s.hoop.link = false) : Hoop.frameRecord s r = s :=
  if_pos (by simpa using h)

/-- The member keeps record `r` until its tick. -/
def Hoop.kept (s : State) (r : FrameRecord) : State :=
  { s with hoop := { s.hoop with records := if s.clk.nextTick ≤ r.frame then s.hoop.records ++ [r] else s.hoop.records } }

section Record

variable {s : State} {r : FrameRecord} (hstandby : s.isStandby = true) (hlink : s.hoop.link = true)
include hstandby hlink

theorem Hoop.frameRecord_badCrc (hcrc : r.crcOk = false) : Hoop.frameRecord s r = s.count Reg.hoopLinkErr 1 := by
  unfold Hoop.frameRecord
  rw [if_neg (by simp [hstandby, hlink]), if_pos (by rw [hcrc]; rfl)]

variable (hcrc : r.crcOk = true)
include hcrc

theorem Hoop.frameRecord_compared (h : ¬ (s.hoop.state = 2 ∧ s.hoop.step = 1)) :
    Hoop.frameRecord s r = Hoop.compare (Hoop.kept s r) (r.frame - 2) r.crc r.decisions := by
  unfold Hoop.frameRecord
  rw [if_neg (by simp [hstandby, hlink]), if_neg (by rw [hcrc]; decide)]
  simp only []
  rw [if_neg h]
  rfl

/-- The first record that a rejoin receives takes it to step 2. -/
theorem Hoop.frameRecord_joins (hstate : s.hoop.state = 2) (hstep : s.hoop.step = 1) : Hoop.frameRecord s r =
    Hoop.kept { s with hoop := { s.hoop with step := 2, joinFrame := some r.frame } } r := by
  unfold Hoop.frameRecord
  rw [if_neg (by simp [hstandby, hlink]), if_neg (by rw [hcrc]; decide)]
  simp only []
  rw [if_pos ⟨hstate, hstep⟩]
  exact Hoop.compare_joining (s := Hoop.kept { s with hoop := { s.hoop with step := 2, joinFrame := some r.frame } } r) hstate
    (show (2 : Nat) ≠ 6 by decide)

end Record

/-! ### A mirrored plait (R81) -/

theorem Hoop.mirror_idle {s : State} (f : Nat) (l : List (Nat × Word)) (ok : Bool) (h : s.isStandby = false ∨ s.hoop.link = false) :
    Hoop.mirror s f l ok = s := if_pos (by simpa using h)

/-- The slot that a mirrored plait takes. -/
def Hoop.mirrorSlot (s : State) (f : Nat) (l : List (Nat × Word)) : Slot :=
  { state := .pending, owner := 11, ticket := (s.plait.ticket + 1) % 65536, writes := l, captured := l.length
    frame := f, mode := 2, decided := s.plait.seq + 1 }

section Mirror

variable {s : State} {f : Nat} {l : List (Nat × Word)} (hstandby : s.isStandby = true) (hlink : s.hoop.link = true)
include hstandby hlink

theorem Hoop.mirror_badCrc : Hoop.mirror s f l false = s.count Reg.hoopLinkErr 1 := by
  unfold Hoop.mirror
  rw [if_neg (by simp [hstandby, hlink]), if_pos (by decide)]

theorem Hoop.mirror_missing (h : f < s.clk.nextTick ∨ Plait.pick s = none) : Hoop.mirror s f l true = Hoop.outOfStep s 0x82 := by
  unfold Hoop.mirror
  rw [if_neg (by simp [hstandby, hlink]), if_neg (by decide)]
  by_cases hlate : f < s.clk.nextTick
  · exact if_pos hlate
  · rw [if_neg hlate, h.resolve_left hlate]

theorem Hoop.mirror_taken {k : Nat} (hf : s.clk.nextTick ≤ f) (hk : Plait.pick s = some k) :
    Plait.slot (Hoop.mirror s f l true) k = Hoop.mirrorSlot s f l ∧
    (∀ j, j ≠ k → Plait.slot (Hoop.mirror s f l true) j = Plait.slot s j) ∧
    Hoop.mirror s f l true = { s with plait := (Hoop.mirror s f l true).plait } := by
  have hslots : Hoop.mirror s f l true = { Plait.setSlot s k (Hoop.mirrorSlot s f l) with
      plait := { (Plait.setSlot s k (Hoop.mirrorSlot s f l)).plait with ticket := (s.plait.ticket + 1) % 65536, seq := s.plait.seq + 1 } } := by
    unfold Hoop.mirror
    rw [if_neg (by simp [hstandby, hlink]), if_neg (by decide), if_neg (by omega), hk]
    rfl
  rw [hslots]
  exact ⟨Plait.slot_setSlot_same s k (Hoop.mirrorSlot s f l), fun j hj => Plait.slot_setSlot_ne s (Hoop.mirrorSlot s f l) hj, rfl⟩

end Mirror

/-! ### A planned handover, and the standby's report (R550, R557) -/

theorem Hoop.handOver_named {s : State} (h : s.hoop.handover = none) : Hoop.handOver s =
    ({ s with hoop := { s.hoop with handover := some (s.firstTickAfter (10 * msU)) } } : State).wr64 Reg.hoopHandoverFrameLo
      Reg.hoopHandoverFrameHi (s.firstTickAfter (10 * msU)) := by
  unfold Hoop.handOver
  rw [if_neg (by rw [h]; decide)]

theorem Hoop.handOver_idle {s : State} (h : s.hoop.handover ≠ none) : Hoop.handOver s = s :=
  if_pos (Option.isSome_iff_ne_none.mpr h)

theorem State.rd_wr64_lo (s : State) {lo hi : Nat} (n : Nat) (h : lo ≠ hi) : (s.wr64 lo hi n).rd lo = w32 n :=
  (State.rd_wr_ne _ _ h).trans (State.rd_wr_same _ _ _)

theorem Hoop.report_idle {s : State} (f : Nat) (c : Option Nat) (d : List Nat) (r ok : Bool) (h : s.hoop.state ≠ 5 ∨ s.hoop.link = false) :
    Hoop.report s f c d r ok = s := if_pos (by simpa using h)

section Report

variable {s : State} {f : Nat} {c : Option Nat} {d : List Nat} (hstate : s.hoop.state = 5) (hlink : s.hoop.link = true)
include hstate hlink

theorem Hoop.report_badCrc (r : Bool) : Hoop.report s f c d r false = s.count Reg.hoopLinkErr 1 := by
  unfold Hoop.report
  rw [if_neg (by simp [hstate, hlink]), if_pos (by decide)]

/-- What a standby that rejoins reports is not counted. -/
theorem Hoop.report_joining (r : Bool) (hpeer : s.hoop.peer.state = 2) : Hoop.report s f c d r true = s := by
  unfold Hoop.report
  rw [if_neg (by simp [hstate, hlink]), if_neg (by decide)]
  simp only []
  rw [if_pos hpeer, if_neg (by omega)]

theorem Hoop.report_compared (hpeer : s.hoop.peer.state ≠ 2) : Hoop.report s f c d false true = Hoop.compare s f c d := by
  unfold Hoop.report
  rw [if_neg (by simp [hstate, hlink]), if_neg (by decide)]
  simp only []
  rw [if_neg hpeer, if_neg (by simp)]

theorem Hoop.report_asks (hpeer : s.hoop.peer.state = 3) (htick : s.clk.ticking = true) (h : Hoop.compare s f c d = s) :
    Hoop.report s f c d true true = Hoop.handOver s := by
  unfold Hoop.report
  rw [if_neg (by simp [hstate, hlink]), if_neg (by decide)]
  simp only []
  rw [if_neg (show s.hoop.peer.state ≠ 2 by omega), h, if_pos ⟨trivial, hpeer, htick⟩]

end Report

end Sys2Proof.Machine
end

section
/-!
PROOFS. The link, the claim and the commands of a Hoop pair, and the steps of a rejoin (R540 to R543, R550, R554 to R558).
-/
namespace Sys2Proof.Machine

/-! ### Resync messages (R555) -/

theorem Hoop.resync_idle {s : State} (l : List ResyncItem) (ok : Bool)
    (h : s.hoop.link = false ∨ s.hoop.role = 0 ∨ (ok = true ∧ s.hoop.state ≠ 2)) : Hoop.resync s l ok = s := by
  unfold Hoop.resync
  split
  · rfl
  next hlink =>
    obtain hdown | hrole | ⟨rfl, hstate⟩ := h
    · exact absurd (.inl (by rw [hdown]; rfl)) hlink
    · exact absurd (.inr hrole) hlink
    · rw [if_neg (by decide), if_pos hstate]

section Resync

variable {s : State} (hlink : s.hoop.link = true) (hrole : s.hoop.role ≠ 0)
include hlink hrole

theorem Hoop.resync_badCrc (l : List ResyncItem) : Hoop.resync s l false = s.count Reg.hoopLinkErr 1 := by
  unfold Hoop.resync
  rw [if_neg (by simp [hlink, hrole]), if_pos (by decide)]

variable (hstate : s.hoop.state = 2)
include hstate

theorem Hoop.resync_items (l : List ResyncItem) : Hoop.resync s l true =
    l.foldl (fun s x => if Hoop.itemStep x = s.hoop.step then Hoop.applyItem s x else s) s := by
  unfold Hoop.resync
  rw [if_neg (by simp [hlink, hrole]), if_neg (by decide), if_neg (not_not.mpr hstate)]

/-- Items of other steps do nothing. -/
theorem Hoop.resync_otherStep {l : List ResyncItem} (h : ∀ x ∈ l, Hoop.itemStep x ≠ s.hoop.step) : Hoop.resync s l true = s := by
  rw [Hoop.resync_items hlink hrole hstate]
  refine List.foldlRecOn (motive := fun t => t = s) l _ rfl ?_
  rintro _ rfl x hx
  exact if_neg (h x hx)

theorem Hoop.resync_item {x : ResyncItem} (h : Hoop.itemStep x = s.hoop.step) : Hoop.resync s [x] true = Hoop.applyItem s x := by
  rw [Hoop.resync_items hlink hrole hstate]
  exact if_pos h

end Resync

/-- Bytes stored change memory alone. -/
theorem State.stN_only (l : List Byte) (s : State) (a : Nat) : s.stN a l = { s with mem := (s.stN a l).mem } := by
  induction l generalizing s a with
  | nil => rfl
  | cons b l ih => exact ih (s.st8 a b) (a + 1)

/-! ### The link (R544) -/

theorem Hoop.linkChange_idle {s : State} (up : Bool) (h : s.hoop.role = 0 ∨ s.pageUp 8 = false) : Hoop.linkChange s up = s :=
  if_pos (by
    unfold Hoop.page
    simp only [Bool.not_eq_true']
    tauto)

/-- A bit that is set stays set when another is set. -/
theorem bit_setBit_keeps (w : Word) {i j : Nat} (h : bit w j = true) : bit (setBit w i true) j = true := by
  by_cases hij : j = i
  · subst hij
    exact bit_setBit w j true (by
      by_contra h32
      rw [bit, BitVec.getLsbD_of_ge w j (by omega)] at h
      exact Bool.false_ne_true h)
  · have hj : j < 32 := by
      by_contra h32
      rw [bit, BitVec.getLsbD_of_ge w j (by omega)] at h
      exact Bool.false_ne_true h
    unfold bit at h ⊢
    unfold setBit setFld w32
    simp [h, hj]

theorem State.irq_keeps (s : State) (p i : Nat) {j : Nat} (h : bit (s.rd (Reg.irqStatus p)) j = true) :
    bit ((s.irq p i).rd (Reg.irqStatus p)) j = true := by
  unfold State.irq
  rw [State.rd_wr_same]
  exact bit_setBit_keeps _ h

/-- A member whose rejoin fails keeps the interrupts that its page has raised. -/
theorem Hoop.failRejoin_keeps {s : State} {j : Nat} (hstate : s.hoop.state = 2) (h : bit (s.rd (Reg.irqStatus 8)) j = true) :
    bit ((Hoop.failRejoin s).rd (Reg.irqStatus 8)) j = true := by
  by_cases hfails : s.hoop.fails < 2
  · have hheader := Hoop.startRejoin_header (s := { s with hoop := { s.hoop with fails := s.hoop.fails + 1 } }) (a := Reg.irqStatus 8)
      (by decide) (by decide) (.inr (.inl hstate))
    rw [Hoop.failRejoin_again hfails, hheader]
    exact h
  · rw [Hoop.failRejoin_ends hfails]
    refine State.irq_keeps _ 8 6 ?_
    have hfault : ((Hoop.gaveUp s).fault' Hoop.page 0x84).rd (Reg.irqStatus 8) = s.rd (Reg.irqStatus 8) :=
      State.faultD_ne _ 8 _ _ (by decide) (by decide) (by decide) (by decide)
    rw [hfault]
    exact h

/-- The link of `s` has gone down. -/
def Hoop.unlinked (s : State) : State :=
  (({ s with hoop := { s.hoop with copy := none, link := false, linkDownAt := s.clk.mono } } : State).irq Hoop.page 4).fault' Hoop.page 0x80

theorem Hoop.unlinked_hoop (s : State) : (Hoop.unlinked s).hoop = { s.hoop with copy := none, link := false, linkDownAt := s.clk.mono } :=
  State.faultD_hoop (({ s with hoop := { s.hoop with copy := none, link := false, linkDownAt := s.clk.mono } } : State).irq 8 4) 8 0x80 0

theorem Hoop.unlinked_raised (s : State) : bit ((Hoop.unlinked s).rd (Reg.irqStatus 8)) 4 = true := by
  have hfault : (Hoop.unlinked s).rd (Reg.irqStatus 8) =
      (({ s with hoop := { s.hoop with copy := none, link := false, linkDownAt := s.clk.mono } } : State).irq 8 4).rd (Reg.irqStatus 8) :=
    State.faultD_ne _ 8 _ _ (by decide) (by decide) (by decide) (by decide)
  rw [hfault]
  exact State.irq_bit { s with hoop := { s.hoop with copy := none, link := false, linkDownAt := s.clk.mono } } 8 4 (by decide)

theorem Hoop.unlinked_resyncCount (s : State) : (Hoop.unlinked s).rd Reg.hoopResyncCount = s.rd Reg.hoopResyncCount :=
  (State.rd_fault_plain (by decide) _ _ _).trans (State.irq_ne _ _ _ (by decide))

section Link

variable {s : State} (hrole : s.hoop.role ≠ 0) (up : s.pageUp 8 = true)
include hrole up

theorem Hoop.linkChange_awake {b : Bool} (h : s.hoop.link ≠ b) :
    ¬ (s.hoop.role = 0 ∨ (!s.pageUp Hoop.page) = true ∨ s.hoop.link = b) := by
  have up' : s.pageUp Hoop.page = true := up
  simp [hrole, up', h]

theorem Hoop.linkChange_up (hlink : s.hoop.link = false) : Hoop.linkChange s true = ({ s with hoop := { s.hoop with
    copy := none, link := true, mayClaim := false, lastHb := some s.clk.frame } } : State).irq Hoop.page 4 := by
  unfold Hoop.linkChange
  rw [if_neg (Hoop.linkChange_awake hrole up (by rw [hlink]; decide))]
  simp only [Bool.not_true, Bool.and_false]
  rfl

theorem Hoop.linkChange_down (hlink : s.hoop.link = true) : Hoop.linkChange s false =
    if s.hoop.state = 2 then Hoop.failRejoin (Hoop.unlinked s) else Hoop.unlinked s := by
  have hstate : (Hoop.unlinked s).hoop.state = s.hoop.state := by rw [Hoop.unlinked_hoop]
  rw [← hstate]
  unfold Hoop.linkChange
  rw [if_neg (Hoop.linkChange_awake hrole up (by rw [hlink]; decide))]
  simp only [Bool.not_false, Bool.and_true]
  rfl

end Link

/-! ### The claim's timers (R541, R543) -/

theorem Claim.timeout_idle {s : State} (h : s.hoop.claimDue = none ∨ s.hoop.claim = false) : Claim.timeout s = s := by
  unfold Claim.timeout
  split
  · rfl
  next d hd => exact if_pos (.inl (by rw [h.resolve_left (by rw [hd]; exact Option.some_ne_none d)]; rfl))

/-- The tick comes first. -/
theorem Claim.timeout_first {s : State} {d : Nat} (hd : s.hoop.claimDue = some d)
    (h : s.clk.ticking = true ∧ s.hoop.loaded = true ∧ s.nextTickAt - s.clk.stake < d - s.clk.aon) : Claim.timeout s = s := by
  unfold Claim.timeout
  rw [hd]
  exact if_pos (.inr h)

/-- The claim is released when its timer expires in `u`, and a device at Ready notes a stall where `stalls`. -/
def Claim.expired (u : State) (stalls : Bool) : State :=
  { Claim.release u with
    hoop := { (Claim.release u).hoop with
      claimDue := none, joinWait := if (Claim.release u).hoop.state = 4 then 2 else (Claim.release u).hoop.joinWait }
    fault := { (Claim.release u).fault with
      stall := (Claim.release u).fault.stall || stalls, stallPending := (Claim.release u).fault.stallPending || stalls } }

theorem Claim.timeout_expires {s : State} {d : Nat} (hd : s.hoop.claimDue = some d) (hclaim : s.hoop.claim = true)
    (h : ¬ (s.clk.ticking = true ∧ s.hoop.loaded = true ∧ s.nextTickAt - s.clk.stake < d - s.clk.aon)) :
    Claim.timeout s = Claim.expired (s.pass (d - s.clk.aon)) (s.boot.phase = 6 && !s.fault.frozen && !s.budget.standby) := by
  unfold Claim.timeout
  rw [hd]
  exact if_neg (by simpa [hclaim] using h)

theorem Claim.release_hoop (s : State) : (Claim.release s).hoop.claim = false ∧ (Claim.release s).hoop.enables = false ∧
    (Claim.release s).hoop.state = if s.hoop.state = 5 then (if s.hoop.link then 4 else 1) else s.hoop.state := by
  unfold Claim.release
  simp only []
  split <;> exact ⟨rfl, rfl, rfl⟩

theorem Claim.expired_facts (u : State) (stalls : Bool) : (Claim.expired u stalls).hoop.claim = false ∧
    (Claim.expired u stalls).hoop.enables = false ∧ (Claim.expired u stalls).hoop.claimDue = none ∧
    (Claim.expired u stalls).clk = u.clk ∧
    (Claim.expired u stalls).hoop.state = (if u.hoop.state = 5 then (if u.hoop.link then 4 else 1) else u.hoop.state) ∧
    (Claim.expired u stalls).fault.stall = (u.fault.stall || stalls) ∧ (Claim.expired u stalls).mem = u.mem := by
  obtain ⟨hclaim, henables, hstate⟩ := Claim.release_hoop u
  have honly := Claim.release_only u
  have hclk : (Claim.release u).clk = u.clk := by rw [honly]
  have hfault : (Claim.release u).fault = u.fault := by rw [honly]
  have hmem : (Claim.release u).mem = u.mem := by rw [honly]
  exact ⟨hclaim, henables, rfl, hclk, hstate, by rw [← hfault]; rfl, hmem⟩

theorem Claim.secondary_idle {s : State} (h : s.hoop.role ≠ 2 ∨ s.hoop.link = true ∨ s.boot.phase ≠ 6 ∨ s.hoop.claim = true) :
    Claim.secondary s = s := if_pos h

/-- A secondary may claim from instant `t` on. -/
def Claim.mayFrom (s : State) (t : Nat) : State :=
  { s with clk := (s.toMono t).clk, hoop := { s.hoop with mayClaim := true } }

theorem Claim.secondary_eq (s : State) : Claim.secondary s =
    if s.hoop.role ≠ 2 ∨ s.hoop.link = true ∨ s.boot.phase ≠ 6 ∨ s.hoop.claim = true then s
    else Claim.mayFrom s (max s.hoop.linkDownAt s.hoop.readyAt + secU) := by
  have hlater : ∀ t, ({ s.toMono t with hoop := { (s.toMono t).hoop with mayClaim := true } } : State) = Claim.mayFrom s t := by
    intro t
    have hclk : s.toMono t = { s with clk := (s.toMono t).clk } := rfl
    unfold Claim.mayFrom
    generalize (s.toMono t).clk = c at hclk
    rw [hclk]
  rw [← hlater]
  rfl

theorem Claim.secondary_may {s : State} (hrole : s.hoop.role = 2) (hlink : s.hoop.link = false) (hphase : s.boot.phase = 6)
    (hclaim : s.hoop.claim = false) : Claim.secondary s = Claim.mayFrom s (max s.hoop.linkDownAt s.hoop.readyAt + secU) := by
  rw [Claim.secondary_eq]
  exact if_neg (by simp [hrole, hlink, hphase, hclaim])

/-! ### Commands of the page (R557, R558) -/

/-- A word written to HOOP_CMD acts. -/
theorem Hoop.poke_cmd {s : State} (up : s.pageUp 8 = true) (v : Word) : Reg.poke s Reg.hoopCmd v = Hoop.cmd s v :=
  Page.write_acts (p := 8) up 0 0x48 v (by decide) (by decide) (by decide) rfl

theorem Hoop.rejoinCmd_idle {s : State} (h : s.hoop.role = 0 ∨ s.hoop.state = 5 ∨ s.hoop.state = 0) : Hoop.rejoinCmd s = s := if_pos h

theorem Hoop.rejoinCmd_joins {s : State} (hrole : s.hoop.role ≠ 0) (hactive : s.hoop.state ≠ 5) (hoff : s.hoop.state ≠ 0) :
    Hoop.rejoinCmd s = Hoop.startRejoin { s with hoop := { s.hoop with gaveUp := false, fails := 0 } } := if_neg (by tauto)

/-- The hold of a revert (R558) has passed. -/
theorem Hoop.holdExpiry_asks {s : State} {f : Nat} (h : s.hoop.holdFrom = some f) : Hoop.holdExpiry s =
    if s.hoop.role = 1 ∧ s.hoop.state = 3 ∧ Hoop.revertEn s = true ∧ s.hoop.requested = false ∧
      f + fld (s.ef Reg.hoopRevertHold) 9 0 * rateHz s.clk.rate ≤ s.clk.frame then Hoop.ask s else s := by
  unfold Hoop.holdExpiry
  rw [h]
  simp only [Bool.not_eq_true']
  rfl

/-! ### The steps of a rejoin (R555, R556) -/

theorem Hoop.rejoinStep_idle {s : State} (ok : Bool) (h : s.hoop.state ≠ 2 ∨ s.hoop.step ≤ 1) : Hoop.rejoinStep s ok = s := if_pos h

/-- Step 6 ends once the CRCs have matched for a second. -/
def Hoop.matchedFor (s : State) : State :=
  match s.hoop.matchFrom with
  | none => s
  | some f =>
    if s.clk.frame < f + rateHz s.clk.rate then s
    else
      ({ s with hoop := { s.hoop with
          state := 3, step := 0, fails := 0, holdFrom := some s.clk.frame, requested := false } } : State).irq Hoop.page 2

/-- What the end of step `k` leads to. -/
def Hoop.stepDone (s : State) : Nat → State
  | 2 => { s with hoop := { s.hoop with step := 3 } }
  | 3 =>
    if (List.range 16).any (Hoop.regionBad s) then Hoop.failRejoin s
    else { s with hoop := { s.hoop with step := 4, region := Hoop.nextRegion s 0 } }
  | 4 =>
    let cuts := if s.hoop.region < 16 then s.hoop.cuts ++ [(s.hoop.region, s.clk.nextTick)] else s.hoop.cuts
    let k := Hoop.nextRegion s (s.hoop.region + 1)
    if k < 16 then { s with hoop := { s.hoop with region := k, cuts := cuts } }
    else { s with hoop := { s.hoop with step := 5, cuts := cuts, settleEnd := s.clk.frame + 65536 + cdiv (rateHz s.clk.rate) 10 } }
  | 5 =>
    if s.clk.frame < s.hoop.settleEnd then s
    else
      { s with
        hoop := { s.hoop with step := 6, matchFrom := none }
        meter := { s.meter with points := [], loud := [] }
        capt := { s.capt with
          chains := Tab.mapVals (fun _ => ({} : Chain)) (fun _ x => { x with peak := 0, win := [], env := 0, above := false }) s.capt.chains } }
  | _ => Hoop.matchedFor s

section Step

variable {s : State} (hstate : s.hoop.state = 2)
include hstate

theorem Hoop.rejoinStep_fails (hstep : 2 ≤ s.hoop.step) : Hoop.rejoinStep s false = Hoop.failRejoin s := by
  unfold Hoop.rejoinStep
  simp only []
  rw [if_neg (by omega), if_pos (by decide)]

theorem Hoop.rejoinStep_done {k : Nat} (hstep : s.hoop.step = k) (hk : 2 ≤ k) : Hoop.rejoinStep s true = Hoop.stepDone s k := by
  have hdone : Hoop.rejoinStep s true = Hoop.stepDone s s.hoop.step := by
    unfold Hoop.rejoinStep Hoop.stepDone
    simp only []
    rw [if_neg (by omega), if_neg (by decide)]
    rfl
  exact hdone.trans (congrArg (Hoop.stepDone s) hstep)

end Step

theorem Hoop.stepDone_regionBad {s : State} (h : ∃ k, k < 16 ∧ Hoop.regionBad s k = true) : Hoop.stepDone s 3 = Hoop.failRejoin s := by
  obtain ⟨k, hk, hbad⟩ := h
  exact if_pos (List.any_eq_true.mpr ⟨k, List.mem_range.mpr hk, hbad⟩)

theorem Hoop.stepDone_regionsGood {s : State} (h : ∀ k, k < 16 → Hoop.regionBad s k = false) : Hoop.stepDone s 3 =
    { s with hoop := { s.hoop with step := 4, region := Hoop.nextRegion s 0 } } := by
  refine if_neg fun hany => ?_
  obtain ⟨k, hk, hbad⟩ := List.any_eq_true.mp hany
  exact Bool.false_ne_true ((h k (List.mem_range.mp hk)).symm.trans hbad)

/-- The CRCs have not matched for a second. -/
theorem Hoop.stepDone_unmatched {s : State} (h : ∀ f, s.hoop.matchFrom = some f → s.clk.frame < f + rateHz s.clk.rate) :
    Hoop.stepDone s 6 = s := by
  show Hoop.matchedFor s = s
  unfold Hoop.matchedFor
  split
  · rfl
  next f hf => exact if_pos (h f hf)

theorem Hoop.stepDone_matched {s : State} {f : Nat} (hf : s.hoop.matchFrom = some f) (h : f + rateHz s.clk.rate ≤ s.clk.frame) :
    Hoop.stepDone s 6 = ({ s with hoop := { s.hoop with
      state := 3, step := 0, fails := 0, holdFrom := some s.clk.frame, requested := false } } : State).irq Hoop.page 2 := by
  show Hoop.matchedFor s = _
  unfold Hoop.matchedFor
  rw [hf]
  exact if_neg (by omega)

end Sys2Proof.Machine
end

section
/-!
PROOFS. The active's decisions at their tick on the standby (R547).
-/
namespace Sys2Proof.Machine

/-- From `s` to `t` the host's input, the queue of object records, the tier that waits and the pair's state are as they were. -/
structure State.decisionsKept (s t : State) : Prop where
  hostForced : t.port.hostForced = s.port.hostForced
  queue : t.scene.queue = s.scene.queue
  nextTier : t.budget.nextTier = s.budget.nextTier
  hoop : t.hoop = s.hoop

namespace State.decisionsKept

theorem refl (s : State) : State.decisionsKept s s := ⟨rfl, rfl, rfl, rfl⟩

theorem trans {s t u : State} (hst : State.decisionsKept s t) (htu : State.decisionsKept t u) : State.decisionsKept s u :=
  ⟨htu.hostForced.trans hst.hostForced, htu.queue.trans hst.queue, htu.nextTier.trans hst.nextTier, htu.hoop.trans hst.hoop⟩

theorem foldl {α : Type} {f : State → α → State} (h : ∀ s a, State.decisionsKept s (f s a)) (l : List α) (s : State) :
    State.decisionsKept s (l.foldl f s) :=
  List.foldlRecOn l f (motive := State.decisionsKept s) (refl s) fun t ht a _ => ht.trans (h t a)

theorem ite {s t u : State} {c : Prop} [Decidable c] (ht : State.decisionsKept s t) (hu : State.decisionsKept s u) :
    State.decisionsKept s (if c then t else u) := by
  split
  · exact ht
  · exact hu

theorem thenIf {s t u : State} {c : Prop} [Decidable c] (ht : State.decisionsKept s t) (hu : State.decisionsKept t u) :
    State.decisionsKept s (if c then u else t) := .ite (ht.trans hu) ht

theorem thenUnless {s t u : State} {c : Prop} [Decidable c] (ht : State.decisionsKept s t) (hu : State.decisionsKept t u) :
    State.decisionsKept s (if c then t else u) := .ite ht (ht.trans hu)

end State.decisionsKept

theorem State.wr_decisionsKept (s : State) (a : Nat) (w : Word) : State.decisionsKept s (s.wr a w) := ⟨rfl, rfl, rfl, rfl⟩

theorem State.irq_decisionsKept (s : State) (p i : Nat) : State.decisionsKept s (s.irq p i) := State.wr_decisionsKept s _ _

theorem State.count_decisionsKept (s : State) (a n : Nat) : State.decisionsKept s (s.count a n) :=
  .ite (.refl s) (State.wr_decisionsKept s _ _)

theorem State.faultD_decisionsKept (s : State) (p code d : Nat) : State.decisionsKept s (s.faultD p code d) :=
  ⟨by rw [State.faultD_port], by rw [State.faultD_scene], by rw [State.faultD_eq], State.faultD_hoop s p code d⟩

/-! ### Verdicts and ratios (R322, R368) -/

theorem Lsup.evaluate_decisionsKept (s : State) : State.decisionsKept s (Lsup.evaluate s) := by
  have hheal : ∀ t u : State, State.decisionsKept u (Scene.healIfChanged t u) := fun t u => .ite ⟨rfl, rfl, rfl, rfl⟩ (.refl u)
  have hreport : ∀ l, State.decisionsKept s { s with scene := { s.scene with lsupUnavail := l } } := fun _ => ⟨rfl, rfl, rfl, rfl⟩
  unfold Lsup.evaluate
  simp only []
  split
  · exact .refl s
  · exact (((hreport _).trans (State.count_decisionsKept _ _ _)).trans (State.irq_decisionsKept _ _ _)).trans (hheal s _)

theorem Lsup.verdictChange_decisionsKept (s : State) (c : Nat) : State.decisionsKept s (Lsup.verdictChange s c) := by
  have hset : ∀ x, State.decisionsKept s (Lsup.setCh s c x) := fun _ => ⟨rfl, rfl, rfl, rfl⟩
  unfold Lsup.verdictChange
  simp only []
  split
  · exact .refl s
  · exact .ite (.refl s) (((((hset _).thenUnless (State.irq_decisionsKept _ _ _)).thenIf (State.irq_decisionsKept _ _ _)).thenIf
      (State.faultD_decisionsKept _ _ _ _)).trans (Lsup.evaluate_decisionsKept _))

theorem Asrc.setEng_decisionsKept (s : State) (e : Nat) (x : AsrcEng) : State.decisionsKept s (Asrc.setEng s e x) := ⟨rfl, rfl, rfl, rfl⟩

theorem Asrc.unlockOne_decisionsKept (s : State) (e code n : Nat) : State.decisionsKept s (Asrc.unlockOne s e code n) := by
  unfold Asrc.unlockOne
  exact .ite (.refl s) (((Asrc.setEng_decisionsKept s e _).trans (State.irq_decisionsKept _ _ _)).trans (State.faultD_decisionsKept _ _ _ _))

theorem Asrc.lockAt_decisionsKept (s : State) (e r pos n : Nat) : State.decisionsKept s (Asrc.lockAt s e r pos n) :=
  .foldl (fun t k => .ite (.refl t) ((((Asrc.setEng_decisionsKept t k _).trans (State.wr_decisionsKept _ _ _)).trans
    (State.wr_decisionsKept _ _ _)).trans (State.irq_decisionsKept _ _ _))) _ s

theorem Asrc.follow_decisionsKept (s : State) (e r pos n : Nat) : State.decisionsKept s (Asrc.follow s e r pos n) := by
  unfold Asrc.follow
  refine .ite (.foldl (fun t k => Asrc.unlockOne_decisionsKept t k _ _) _ s) (.ite (.foldl (fun t k => ?_) _ s)
    (Asrc.lockAt_decisionsKept s e r pos n))
  exact ((Asrc.setEng_decisionsKept t k _).trans (State.wr_decisionsKept _ _ _)).trans (State.wr_decisionsKept _ _ _)

/-! ### The parts of a record -/

/-- The latch decisions of the inputs stand. -/
def Hoop.recordInputs (s : State) (r : FrameRecord) : State :=
  { s with port := { s.port with
      forced := r.inputs.foldl (fun t e => Tab.set (fun _ => (none : Option (Nat × Nat))) t e.1 (some e.2)) s.port.forced
      hostForced := some r.hostIn } }

/-- The streams, taps, gains and hysteresis stand. -/
def Hoop.recordLevels (s : State) (r : FrameRecord) : State :=
  let s2 := r.streams.foldl (fun s e => Stream.setRx s e.1 { Stream.rxs s e.1 with forced := some e.2 }) s
  let s3 := r.taps.foldl (fun s e => Capt.setCh s e.1 { Capt.ch s e.1 with active := some e.2 }) s2
  let s3h := r.hyst.foldl (fun s e => Pstg.setCh s e.1 { Pstg.ch s e.1 with peerH := some e.2 }) s3
  let s4 := r.plGains.foldl (fun s e => Pstg.setCh s e.1 { Pstg.ch s e.1 with gPl := e.2 }) s3h
  { s4 with pstg := { s4.pstg with gSag := r.sagGains.foldl (fun t e => Tab.set (fun _ => one30) t e.1 e.2) s4.pstg.gSag } }

/-- The verdicts stand. -/
def Hoop.recordVerdicts (s : State) (r : FrameRecord) : State :=
  r.verdicts.foldl (fun s e => Lsup.verdictChange (Lsup.setCh s e.1 { Lsup.ch s e.1 with change := some (e.2, 0) }) e.1) s

/-- The object records queue up. -/
def Hoop.recordQueued (s : State) (r : FrameRecord) : State := r.records.foldl (fun s e => Scene.enqueue s e.1 (some e.2) none 0) s

/-- The ratios are followed. -/
def Hoop.recordRatios (s : State) (r : FrameRecord) : State := r.ratios.foldl (fun s e => Asrc.follow s e.1 e.2.1 e.2.2 r.frame) s

/-- The tier waits for its epoch. -/
def Hoop.recordTier (s : State) (r : FrameRecord) : State :=
  match r.tier with | some t => { s with budget := { s.budget with nextTier := some t } } | none => s

/-- The tick of a planned handover is named. -/
def Hoop.recordHandover (s : State) (r : FrameRecord) : State :=
  match r.handover with
  | some h => ({ s with hoop := { s.hoop with incoming := some h } } : State).wr64 Reg.hoopHandoverFrameLo Reg.hoopHandoverFrameHi h
  | none => s

section Parts

variable (s : State) (r : FrameRecord)

theorem Hoop.applyRecord_parts : Hoop.applyRecord s r = Hoop.recordHandover (Hoop.recordTier (Hoop.recordRatios (Hoop.recordQueued
    (Hoop.recordVerdicts (Hoop.recordLevels (Hoop.recordInputs s r) r) r) r) r) r) r := rfl

theorem Hoop.recordLevels_kept : State.decisionsKept s (Hoop.recordLevels s r) := by
  have hstream : ∀ (t : State) e x, State.decisionsKept t (Stream.setRx t e x) := fun _ _ _ => ⟨rfl, rfl, rfl, rfl⟩
  have hcapt : ∀ (t : State) c x, State.decisionsKept t (Capt.setCh t c x) := fun _ _ _ => ⟨rfl, rfl, rfl, rfl⟩
  have hpstg : ∀ (t : State) c x, State.decisionsKept t (Pstg.setCh t c x) := fun _ _ _ => ⟨rfl, rfl, rfl, rfl⟩
  have hsag : ∀ (t : State) l, State.decisionsKept t { t with pstg := { t.pstg with gSag := l } } := fun _ _ => ⟨rfl, rfl, rfl, rfl⟩
  unfold Hoop.recordLevels
  simp only []
  exact ((((State.decisionsKept.foldl (fun t e => hstream t _ _) _ s).trans (.foldl (fun t e => hcapt t _ _) _ _)).trans
    (.foldl (fun t e => hpstg t _ _) _ _)).trans (.foldl (fun t e => hpstg t _ _) _ _)).trans (hsag _ _)

theorem Hoop.recordVerdicts_kept : State.decisionsKept s (Hoop.recordVerdicts s r) := by
  have hset : ∀ (t : State) c x, State.decisionsKept t (Lsup.setCh t c x) := fun _ _ _ => ⟨rfl, rfl, rfl, rfl⟩
  exact .foldl (fun t e => (hset t _ _).trans (Lsup.verdictChange_decisionsKept _ _)) _ s

theorem Hoop.recordRatios_kept : State.decisionsKept s (Hoop.recordRatios s r) :=
  .foldl (fun t _ => Asrc.follow_decisionsKept t _ _ _ _) _ s

/-- Each record joins the queue. -/
theorem Hoop.recordQueued_facts : (Hoop.recordQueued s r).port = s.port ∧ (Hoop.recordQueued s r).budget = s.budget ∧
    (Hoop.recordQueued s r).hoop = s.hoop ∧ (Hoop.recordQueued s r).scene.queue.length = s.scene.queue.length + r.records.length := by
  unfold Hoop.recordQueued
  generalize r.records = l
  induction l generalizing s with
  | nil => exact ⟨rfl, rfl, rfl, rfl⟩
  | cons e l ih =>
    obtain ⟨hport, hbudget, hhoop, hlength⟩ := ih (Scene.enqueue s e.1 (some e.2) none 0)
    refine ⟨hport, hbudget, hhoop, hlength.trans ?_⟩
    simp only [Scene.enqueue, List.length_append, List.length_cons, List.length_nil]
    omega

theorem Hoop.recordTier_facts : (Hoop.recordTier s r).port = s.port ∧ (Hoop.recordTier s r).scene = s.scene ∧
    (Hoop.recordTier s r).hoop = s.hoop ∧
    (Hoop.recordTier s r).budget.nextTier = if r.tier.isSome then r.tier else s.budget.nextTier := by
  unfold Hoop.recordTier
  cases r.tier <;> exact ⟨rfl, rfl, rfl, rfl⟩

theorem Hoop.recordHandover_facts : (Hoop.recordHandover s r).port = s.port ∧ (Hoop.recordHandover s r).scene = s.scene ∧
    (Hoop.recordHandover s r).budget = s.budget ∧
    (Hoop.recordHandover s r).hoop.incoming = if r.handover.isSome then r.handover else s.hoop.incoming := by
  unfold Hoop.recordHandover
  cases r.handover <;> exact ⟨rfl, rfl, rfl, rfl⟩

/-- What a record leaves on the standby. -/
theorem Hoop.applyRecord_facts : (Hoop.applyRecord s r).port.hostForced = some r.hostIn ∧
    (Hoop.applyRecord s r).scene.queue.length = s.scene.queue.length + r.records.length ∧
    (Hoop.applyRecord s r).budget.nextTier = (if r.tier.isSome then r.tier else s.budget.nextTier) ∧
    (Hoop.applyRecord s r).hoop.incoming = if r.handover.isSome then r.handover else s.hoop.incoming := by
  have hbefore := (Hoop.recordLevels_kept (Hoop.recordInputs s r) r).trans (Hoop.recordVerdicts_kept _ r)
  obtain ⟨port1, budget1, hoop1, length1⟩ := Hoop.recordQueued_facts (Hoop.recordVerdicts (Hoop.recordLevels (Hoop.recordInputs s r) r) r) r
  have hratios := Hoop.recordRatios_kept (Hoop.recordQueued (Hoop.recordVerdicts (Hoop.recordLevels (Hoop.recordInputs s r) r) r) r) r
  rw [Hoop.applyRecord_parts]
  generalize Hoop.recordRatios (Hoop.recordQueued (Hoop.recordVerdicts (Hoop.recordLevels (Hoop.recordInputs s r) r) r) r) r = u at hratios ⊢
  obtain ⟨port2, scene2, hoop2, tier2⟩ := Hoop.recordTier_facts u r
  obtain ⟨port3, scene3, budget3, incoming3⟩ := Hoop.recordHandover_facts (Hoop.recordTier u r) r
  rw [port3, scene3, budget3, incoming3, port2, scene2, hoop2, tier2, hratios.hostForced, hratios.queue, hratios.nextTier, hratios.hoop, port1,
    budget1, hoop1, length1, hbefore.hostForced, hbefore.queue, hbefore.nextTier, hbefore.hoop]
  exact ⟨rfl, rfl, rfl, rfl⟩

end Parts

end Sys2Proof.Machine
end

section
/-!
PROOFS. The commands of a Hoop pair act as R81 and R536 to R558 say (O40).
-/
namespace Sys2Proof.Machine

/-! ### Results by the state before the command -/

theorem State.begin_firstTickAfter (s : State) (d : Nat) : s.begin.firstTickAfter d = s.firstTickAfter d := rfl

/-- A message whose CRC fails is counted, and nothing else. -/
theorem Hoop.linkErr_counted (s : State) : (s.begin.count Reg.hoopLinkErr 1).rd Reg.hoopLinkErr = satAdd (s.rd Reg.hoopLinkErr) 1 ∧
    (∀ x, x ≠ Reg.hoopLinkErr → (s.begin.count Reg.hoopLinkErr 1).rd x = s.rd x) ∧
    s.begin.count Reg.hoopLinkErr 1 = { s.begin with regs := (s.begin.count Reg.hoopLinkErr 1).regs } :=
  ⟨State.count_same s.begin _, fun _ hx => State.count_ne s.begin 1 hx, rfl⟩

/-- The tick of the handover is named, and nothing else. -/
theorem Hoop.handOver_begin {s : State} (h : s.hoop.handover = none) :
    (Hoop.handOver s.begin).rd Reg.hoopHandoverFrameLo = w32 (s.firstTickAfter (10 * msU)) ∧
    Hoop.handOver s.begin = { s.begin with
      regs := (Hoop.handOver s.begin).regs, hoop := { s.begin.hoop with handover := some (s.firstTickAfter (10 * msU)) } } := by
  rw [Hoop.handOver_named (s := s.begin) h, State.begin_firstTickAfter]
  generalize s.firstTickAfter (10 * msU) = f
  exact ⟨State.rd_wr64_lo _ f (by decide), rfl⟩

/-- A link that comes up is noted. -/
theorem Hoop.linkUp_begin {s : State} (hrole : s.hoop.role ≠ 0) (up : s.pageUp 8 = true) (hlink : s.hoop.link = false) :
    bit ((Hoop.linkChange s.begin true).rd (Reg.irqStatus 8)) 4 = true ∧ Hoop.linkChange s.begin true = { s.begin with
      regs := (Hoop.linkChange s.begin true).regs
      hoop := { s.begin.hoop with copy := none, link := true, mayClaim := false, lastHb := some s.clk.frame } } := by
  rw [Hoop.linkChange_up (s := s.begin) hrole up hlink]
  exact ⟨State.irq_bit _ 8 4 (by decide), rfl⟩

/-- A link that goes down is recorded, and fails a rejoin in progress. -/
theorem Hoop.linkDown_begin {s : State} (hrole : s.hoop.role ≠ 0) (up : s.pageUp 8 = true) (hlink : s.hoop.link = true) :
    bit ((Hoop.linkChange s.begin false).rd (Reg.irqStatus 8)) 4 = true ∧
    (s.hoop.state ≠ 2 → (Hoop.linkChange s.begin false).hoop = { s.begin.hoop with copy := none, link := false, linkDownAt := s.clk.mono } ∧
      fld ((Hoop.linkChange s.begin false).rd (Reg.faultCause 8)) 7 0 = 0x80) ∧
    (s.hoop.state = 2 → (Hoop.linkChange s.begin false).hoop.link = false ∧
      (Hoop.linkChange s.begin false).hoop.linkDownAt = s.clk.mono ∧ Hoop.joinFailed s (Hoop.linkChange s.begin false)) := by
  have hchange := Hoop.linkChange_down (s := s.begin) hrole up hlink
  have hhoop := Hoop.unlinked_hoop s.begin
  have hraised := Hoop.unlinked_raised s.begin
  by_cases hstate : s.hoop.state = 2
  · have hfailed : Hoop.linkChange s.begin false = Hoop.failRejoin (Hoop.unlinked s.begin) := hchange.trans (if_pos hstate)
    have hplace := (Hoop.failRejoin_placeOnly (Hoop.unlinked s.begin)).2
    have hjoins : (Hoop.unlinked s.begin).hoop.state = 2 := by
      rw [hhoop]
      exact hstate
    rw [hfailed]
    refine ⟨Hoop.failRejoin_keeps hjoins hraised, fun h => absurd hstate h, fun _ => ⟨?_, ?_, ?_⟩⟩
    · rw [hplace, hhoop]
    · rw [hplace, hhoop]
      rfl
    · exact Hoop.failRejoin_failed (by rw [hhoop]; rfl) (by rw [hhoop]; rfl) (Hoop.unlinked_resyncCount s.begin)
  · have hdown : Hoop.linkChange s.begin false = Hoop.unlinked s.begin := hchange.trans (if_neg hstate)
    rw [hdown]
    exact ⟨hraised, fun _ => ⟨hhoop, State.faultD_cause _ 8 0x80 0 (by decide)⟩, fun h => absurd h hstate⟩

/-- A standby in step that hears no heartbeat leaves it. -/
theorem Hoop.lost_begin (s : State) (h : s.hoop.state = 3) :
    Hoop.fellOut s (Hoop.outOfStep { s.begin with hoop := { s.begin.hoop with hbLost := true } } 0x82) 0x82 :=
  Hoop.outOfStep_fellOut (u := { s.begin with hoop := { s.begin.hoop with hbLost := true } }) (by decide) h rfl rfl rfl rfl

/-- The claim's timer has expired on a device that runs. -/
theorem Claim.expired_begin {s : State} (hrun : s.running = true) (d : Nat) {t : State}
    (ht : t = Claim.expired (s.begin.pass d) (s.begin.boot.phase = 6 && !s.begin.fault.frozen && !s.begin.budget.standby)) :
    t.hoop.claim = false ∧ t.hoop.enables = false ∧ t.hoop.claimDue = none ∧ t.clk = (s.pass d).clk ∧
    t.hoop.state = (if s.hoop.state = 5 then (if s.hoop.link then 4 else 1) else s.hoop.state) ∧
    t.fault.stall = (s.fault.stall || s.boot.phase == 6) ∧ t.mem = s.mem := by
  have hpass : ∃ c, s.begin.pass d = { s.begin with clk := c } ∧ (s.pass d).clk = c := ⟨_, rfl, rfl⟩
  obtain ⟨c, hpass, hclk⟩ := hpass
  obtain ⟨hfrozen, hstandby⟩ : s.fault.frozen = false ∧ s.budget.standby = false := by
    unfold State.running at hrun
    simp only [Bool.and_eq_true, Bool.not_eq_true'] at hrun
    exact ⟨hrun.2, hrun.1.2⟩
  have hfacts := Claim.expired_facts (s.begin.pass d) (s.begin.boot.phase = 6 && !s.begin.fault.frozen && !s.begin.budget.standby)
  obtain ⟨hclaim, henables, hdue, hc, hstate, hstall, hmem⟩ := hfacts
  rw [← ht] at hclaim henables hdue hc hstate hstall hmem
  rw [hpass] at hc hstate hstall hmem
  refine ⟨hclaim, henables, hdue, hc.trans hclk.symm, hstate, hstall.trans ?_, hmem⟩
  show (s.fault.stall || (s.boot.phase = 6 && !s.fault.frozen && !s.budget.standby)) = _
  rw [hfrozen, hstandby]
  simp only [Bool.not_false, Bool.and_true, beq_eq_decide]

/-- A command of the page acts on a device that runs. -/
theorem completes_hoopCmd {c : Instr} {s : State} {P : State → Prop} (v : Word) (hc : exec c s = s.act (fun t => Reg.poke t Reg.hoopCmd v))
    (up : s.pageUp 8 = true) (h : P (Hoop.cmd s.begin v)) : Completes c s P := by
  refine completes_act hc (State.running_of_pageUp up) ?_
  rw [Hoop.poke_cmd (s := s.begin) up]
  exact h

/-- A command for a rejoin begins one, whatever has failed before. -/
theorem Hoop.rejoinCmd_begin {s : State} (hrole : s.hoop.role ≠ 0) (hactive : s.hoop.state ≠ 5) (hoff : s.hoop.state ≠ 0) :
    Hoop.joined s (Hoop.rejoinCmd s.begin) ∧ (Hoop.rejoinCmd s.begin).hoop.fails = 0 ∧ (Hoop.rejoinCmd s.begin).hoop.gaveUp = false := by
  rw [Hoop.rejoinCmd_joins (s := s.begin) hrole hactive hoff]
  refine ⟨Hoop.startRejoin_joined (u := { s.begin with hoop := { s.begin.hoop with gaveUp := false, fails := 0 } }) rfl rfl, ?_, ?_⟩ <;>
    rw [Hoop.startRejoin_hoop] <;> split <;> rfl

theorem Claim.secondary_begin {s : State} (hrole : s.hoop.role = 2) (hlink : s.hoop.link = false) (hphase : s.boot.phase = 6)
    (hclaim : s.hoop.claim = false) : Claim.secondary s.begin = { s.begin with
      clk := (s.toMono (max s.hoop.linkDownAt s.hoop.readyAt + secU)).clk, hoop := { s.begin.hoop with mayClaim := true } } := by
  have hfrom : ∀ t, Claim.mayFrom s.begin t = { s.begin with clk := (s.toMono t).clk, hoop := { s.begin.hoop with mayClaim := true } } :=
    fun _ => rfl
  rw [← hfrom]
  exact Claim.secondary_may (s := s.begin) hrole hlink hphase hclaim

/-- Settles O40: one case for each message, timer and command of the pair, each read off the rule of its function. -/
theorem pairCommandsAct : Obligations.PairCommandsAct := by
  unfold Obligations.PairCommandsAct
  rintro s hrun _ _ rfl rfl O rfl J rfl F rfl E rfl H rfl
  have hwr : s.begin.hoop.state = s.hoop.state := rfl
  refine ⟨?beatIdle, ?beat, ?lossIdle, ?loss, ?sealIdle, ?seals, ?standbyIdle, ?standby, ?reportIdle, ?report, ?resyncIdle, ?resync,
    ?linkIdle, ?link, ?claimIdle, ?claim, ?secondaryIdle, ?secondary, ?commands, ?holdIdle, ?hold, ?rejoinIdle, ?rejoin, ?record⟩
  case beatIdle => exact fun b h => completes_act (exec_heartbeat b s) hrun (Hoop.heartbeat_idle (s := s.begin) h)
  case beat =>
    intro hlink hrole up
    refine ⟨fun b hcrc => ?_, fun b bad other hcrc hbad hother => ?_⟩ <;> refine completes_act (exec_heartbeat b s) hrun ?_
    · rw [Hoop.heartbeat_badCrc (s := s.begin) hlink hrole up hcrc]
      exact Hoop.linkErr_counted s
    · have hjudged : Hoop.heartbeat s.begin b =
          Hoop.judged s.begin b (decide (b.role = s.hoop.role) && decide (b.id < Otp.deviceId s)) other bad := by
        have hother' := hother.trans (Bool.decide_or _ _)
        rw [Hoop.heartbeat_parts (s := s.begin) hlink hrole up hcrc, hbad, hother']
        rfl
      rw [hjudged]
      generalize hequal : (decide (b.role = s.hoop.role) && decide (b.id < Otp.deviceId s)) = equal
      obtain ⟨hpeer, hlast, hlost, hroles, hmismatch, hoffset⟩ := Hoop.judged_noted s.begin b equal other bad
      refine ⟨hpeer, hlast, hlost, Hoop.judged_offset s.begin b equal other bad, ?_, hmismatch, hoffset,
        Hoop.judged_state s.begin b equal other bad, ?_, ?_, Hoop.judged_peerTier s.begin b equal other bad,
        Hoop.judged_copy s.begin b equal other bad⟩
      · have hequals : equal = true ∧ s.hoop.refuseClaim = false ↔
            b.role = s.hoop.role ∧ b.id < Otp.deviceId s ∧ s.hoop.refuseClaim = false := by
          rw [← hequal, Bool.and_eq_true, decide_eq_true_eq, decide_eq_true_eq, and_assoc]
        simp only [← hequals]
        exact hroles
      · rintro hbad' h3 hother'
        rw [hbad', hother']
        exact Hoop.judged_offsetCause s.begin b equal h3
      · rintro hbad' hother' hnew
        rw [hbad', hother']
        exact Hoop.judged_imageCause s.begin b equal hnew
  case lossIdle => exact fun h => completes_act (exec_heartbeatLoss s) hrun (Hoop.heartbeatLoss_idle (s := s.begin) h)
  case loss =>
    intro hrole hlost hlast
    refine completes_act (exec_heartbeatLoss s) hrun ?_
    rw [Hoop.heartbeatLoss_lost (s := s.begin) hrole hlost hlast]
    refine ⟨?_, Hoop.lost_begin s, fun h => Hoop.outOfStep_idle _ h⟩
    rw [(Hoop.outOfStep_placeOnly _ _).2]
  case sealIdle => exact fun l h => completes_act (exec_frameRecordSeal l s) hrun (Hoop.seal_idle (s := s.begin) l h)
  case seals =>
    intro l hstate hlink htick hnew hrole up
    exact completes_act (exec_frameRecordSeal l s) hrun (Hoop.seal_sends (s := s.begin) l hstate hlink htick hnew hrole up rfl)
  case standbyIdle =>
    rintro h c (⟨r, rfl⟩ | ⟨f, l, ok, rfl⟩)
    · exact completes_act (exec_frameRecord r s) hrun (Hoop.frameRecord_idle (s := s.begin) r h)
    · exact completes_act (exec_plaitMirror f l ok s) hrun (Hoop.mirror_idle (s := s.begin) f l ok h)
  case standby =>
    intro hstandby hlink
    refine ⟨fun r hcrc => ?_, fun f l => ?_, fun r same agree l hcrc hagree hl hsame => ?_, fun f l hmissing => ?_, fun f l k hf hk => ?_⟩
    · refine completes_act (exec_frameRecord r s) hrun ?_
      rw [Hoop.frameRecord_badCrc (s := s.begin) hstandby hlink hcrc]
      exact Hoop.linkErr_counted s
    · refine completes_act (exec_plaitMirror f l false s) hrun ?_
      rw [Hoop.mirror_badCrc (s := s.begin) hstandby hlink]
      exact Hoop.linkErr_counted s
    · have hkept : Hoop.kept s.begin r = { s.begin with hoop := { s.begin.hoop with records := l } } := by
        rw [hl]
        rfl
      have hcrcs : Hoop.sameCrc (Hoop.kept s.begin r) (r.frame - 2) r.crc ↔ same = true := by
        rw [hsame, decide_eq_true_eq]
        rfl
      have hstrays : Hoop.strays (Hoop.kept s.begin r) r.decisions = !agree := by
        rw [Hoop.strays_iff, hagree]
        rfl
      have hcompared : ¬ (s.hoop.state = 2 ∧ s.hoop.step = 1) → Hoop.frameRecord s.begin r =
          Hoop.compare (Hoop.kept s.begin r) (r.frame - 2) r.crc r.decisions :=
        fun h => Hoop.frameRecord_compared (s := s.begin) hstandby hlink hcrc h
      refine ⟨fun hstate hs ha => ?agrees, fun hstate hs ha => ?crcDiffers, fun hstate hs ha => ?strays, fun hstate hstep => ?joins,
        fun hstate hstep hs => ?joinFails, fun hstate h1 h6 => ?joining⟩ <;> refine completes_act (exec_frameRecord r s) hrun ?_
      case agrees =>
        rw [hcompared (by omega), Hoop.compare_agree (s := Hoop.kept s.begin r) (show s.hoop.state ≠ 2 by omega) (hcrcs.mpr hs)
          (by rw [hstrays, ha]; rfl)]
        exact hkept
      case crcDiffers =>
        rw [hcompared (by omega), Hoop.compare_crc (s := Hoop.kept s.begin r) (show s.hoop.state ≠ 2 by omega) (fun h => by simp [hcrcs.mp h] at hs)
          (by rw [hstrays, ha]; rfl)]
        exact Hoop.mismatched_fellOut (u := Hoop.kept s.begin r) (by decide) (by decide) (by decide) (by decide) hstate rfl rfl rfl rfl
      case strays =>
        rw [hcompared (by omega), Hoop.compare_strays (s := Hoop.kept s.begin r) (show s.hoop.state ≠ 2 by omega) (hcrcs.mpr hs)
          (by rw [hstrays, ha]; rfl)]
        exact Hoop.mismatched_fellOut (u := Hoop.kept s.begin r) (by decide) (by decide) (by decide) (by decide) hstate rfl rfl rfl rfl
      case joins =>
        rw [Hoop.frameRecord_joins (s := s.begin) hstandby hlink hcrc hstate hstep, hl]
        rfl
      case joinFails =>
        rw [hcompared (by omega), Hoop.compare_joinFails (s := Hoop.kept s.begin r) (show s.hoop.state = 2 from hstate) hstep
          (fun h => by simp [hcrcs.mp h] at hs)]
        exact Hoop.failRejoin_failed rfl rfl rfl
      case joining =>
        rw [hcompared (by omega), Hoop.compare_joining (s := Hoop.kept s.begin r) (show s.hoop.state = 2 from hstate) h6]
        exact hkept
    · refine completes_act (exec_plaitMirror f l true s) hrun ?_
      rw [Hoop.mirror_missing (s := s.begin) hstandby hlink hmissing]
      exact ⟨fun h => Hoop.outOfStep_fellOut (u := s.begin) (by decide) h rfl rfl rfl rfl, fun h => Hoop.outOfStep_idle _ h⟩
    · exact completes_act (exec_plaitMirror f l true s) hrun (Hoop.mirror_taken (s := s.begin) hstandby hlink hf hk)
  case reportIdle => exact fun f c d r ok h => completes_act (exec_standbyReport f c d r ok s) hrun (Hoop.report_idle (s := s.begin) f c d r ok h)
  case report =>
    intro hstate hlink f c d r
    have hcompared : s.begin.hoop.state ≠ 2 := by
      rw [hwr]
      omega
    refine ⟨?_, fun hpeer => ?_, fun a b hc hown hab hpeer hd => ?_, fun hc hd hpeer htick hnone => ?_⟩ <;>
      refine completes_act (exec_standbyReport _ _ _ _ _ s) hrun ?_
    · rw [Hoop.report_badCrc (s := s.begin) hstate hlink]
      exact Hoop.linkErr_counted s
    · exact Hoop.report_joining (s := s.begin) hstate hlink r hpeer
    · have hother : ¬ Hoop.sameCrc s.begin f c := by
        have hown' : Hoop.ownCrc s.begin f = some b := hown
        unfold Hoop.sameCrc
        rw [hc, hown']
        simpa using hab
      rw [Hoop.report_compared (s := s.begin) hstate hlink hpeer, Hoop.compare_crc hcompared hother (Hoop.strays_none hd)]
      exact Hoop.mismatched_noted (s := s.begin) (by decide) (by decide) (by rw [hwr]; omega)
    · rw [Hoop.report_asks (s := s.begin) hstate hlink hpeer htick
        (Hoop.compare_agree hcompared (hc.imp_right .inr) (Hoop.strays_none hd))]
      exact Hoop.handOver_begin hnone
  case resyncIdle => exact fun l ok h => completes_act (exec_resyncMessage l ok s) hrun (Hoop.resync_idle (s := s.begin) l ok h)
  case resync =>
    intro hlink hrole
    refine ⟨fun l => ?_, fun hstate => ⟨fun l h => ?_, fun a d hstep => ?_, fun a d hstep hwrote => ?_, fun a d hstep hwrote => ?_⟩⟩ <;>
      refine completes_act (exec_resyncMessage _ _ s) hrun ?_
    · rw [Hoop.resync_badCrc (s := s.begin) hlink hrole]
      exact Hoop.linkErr_counted s
    · exact Hoop.resync_otherStep (s := s.begin) hlink hrole hstate h
    · rw [Hoop.resync_item (x := .region a d) (s := s.begin) hlink hrole hstate hstep.symm]
      exact ⟨State.stN_only d s.begin a, State.ld8_stN d s.begin a⟩
    · rw [Hoop.resync_item (x := .line a d) (s := s.begin) hlink hrole hstate hstep.symm]
      exact if_pos hwrote
    · have hline : Hoop.applyItem s.begin (.line a d) = s.begin.stN a d := if_neg (by
        have hwrote' : Hoop.wroteLine s.begin a d.length = false := hwrote
        rw [hwrote']
        decide)
      rw [Hoop.resync_item (x := .line a d) (s := s.begin) hlink hrole hstate hstep.symm, hline]
      exact ⟨State.stN_only d s.begin a, State.ld8_stN d s.begin a⟩
  case linkIdle => exact fun h => completes_act (exec_hoopLinkChange s) hrun (Hoop.linkChange_idle (s := s.begin) _ h)
  case link =>
    intro hrole up
    refine ⟨fun hlink => ?_, fun hlink => ?_⟩ <;> refine completes_act (exec_hoopLinkChange s) hrun ?_
    · have hup : (!s.begin.hoop.link) = true := by
        show (!s.hoop.link) = true
        rw [hlink]
        rfl
      rw [hup]
      exact Hoop.linkUp_begin hrole up hlink
    · have hdown : (!s.begin.hoop.link) = false := by
        show (!s.hoop.link) = false
        rw [hlink]
        rfl
      rw [hdown]
      exact Hoop.linkDown_begin hrole up hlink
  case claimIdle => exact fun h => completes_act (exec_claimTimeout s) hrun (Claim.timeout_idle (s := s.begin) h)
  case claim =>
    rintro d hdue hclaim tickFirst hfirst
    refine ⟨fun h => ?_, fun h => ?_⟩ <;> refine completes_act (exec_claimTimeout s) hrun ?_
    · exact Claim.timeout_first (s := s.begin) hdue (of_decide_eq_true (hfirst.symm.trans h))
    · exact Claim.expired_begin hrun _ (Claim.timeout_expires (s := s.begin) hdue hclaim (of_decide_eq_false (hfirst.symm.trans h)))
  case secondaryIdle => exact fun h => completes_act (exec_secondaryClaimTimeout s) hrun (Claim.secondary_idle (s := s.begin) h)
  case secondary =>
    intro hrole hlink hphase hclaim
    exact completes_act (exec_secondaryClaimTimeout s) hrun (Claim.secondary_begin hrole hlink hphase hclaim)
  case commands =>
    intro up
    refine ⟨fun ok hok => ⟨fun h => ?_, fun h hnone => ?_, fun h hnamed => ?_⟩, fun h => ?_, fun hrole hactive hoff => ?_, ?_⟩
    · refine completes_hoopCmd 1 (exec_yield s) up ?_
      have hrefused : Hoop.cmd s.begin 1 = s.begin.fault' 8 0x87 := if_neg (of_decide_eq_false (hok.symm.trans h))
      rw [hrefused]
      exact ⟨State.faultD_hoop s.begin 8 0x87 0, State.faultD_cause s.begin 8 0x87 0 (by decide)⟩
    · refine completes_hoopCmd 1 (exec_yield s) up ?_
      have hyields : Hoop.cmd s.begin 1 = Hoop.handOver s.begin := if_pos (of_decide_eq_true (hok.symm.trans h))
      rw [hyields]
      exact Hoop.handOver_begin hnone
    · refine completes_hoopCmd 1 (exec_yield s) up ?_
      have hyields : Hoop.cmd s.begin 1 = Hoop.handOver s.begin := if_pos (of_decide_eq_true (hok.symm.trans h))
      exact hyields.trans (Hoop.handOver_idle (s := s.begin) hnamed)
    · exact completes_hoopCmd 2 (exec_rejoinCommand s) up (Hoop.rejoinCmd_idle (s := s.begin) h)
    · exact completes_hoopCmd 2 (exec_rejoinCommand s) up (Hoop.rejoinCmd_begin hrole hactive hoff)
    · exact completes_hoopCmd 3 (exec_revertRequest s) up rfl
  case holdIdle =>
    intro h
    refine completes_act (exec_revertHoldExpiry s) hrun ?_
    unfold Hoop.holdExpiry
    rw [show s.begin.hoop.holdFrom = none from h]
  case hold => exact fun f h => completes_act (exec_revertHoldExpiry s) hrun (Hoop.holdExpiry_asks (s := s.begin) h)
  case rejoinIdle => exact fun ok h => completes_act (exec_rejoin ok s) hrun (Hoop.rejoinStep_idle (s := s.begin) ok h)
  case rejoin =>
    intro hstate
    have hdone : ∀ k, s.hoop.step = k → 2 ≤ k → Hoop.rejoinStep s.begin true = Hoop.stepDone s.begin k :=
      fun k => Hoop.rejoinStep_done (s := s.begin) hstate
    refine ⟨fun h2 => ?fails, fun h2 => ?second, fun h3 hbad => ?regionBad, fun h3 hgood => ?regionsGood, fun h4 k l hk hl => ?region,
      fun h5 hbefore => ?settling, fun h5 hafter => ?settled, fun h6 h => ?unmatched, fun f h6 hf h => ?matched⟩ <;>
      refine completes_act (exec_rejoin _ s) hrun ?_
    case fails =>
      rw [Hoop.rejoinStep_fails (s := s.begin) hstate h2]
      exact Hoop.failRejoin_failed rfl rfl rfl
    case second =>
      rw [hdone 2 h2 (by decide)]
      rfl
    case regionBad =>
      rw [hdone 3 h3 (by decide), Hoop.stepDone_regionBad (s := s.begin) hbad]
      exact Hoop.failRejoin_failed rfl rfl rfl
    case regionsGood =>
      rw [hdone 3 h3 (by decide)]
      exact Hoop.stepDone_regionsGood (s := s.begin) hgood
    case region =>
      rw [hdone 4 h4 (by decide), hk, hl, apply_ite (fun h => ({ s.begin with hoop := h } : State))]
      rfl
    case settling =>
      rw [hdone 5 h5 (by decide)]
      exact if_pos hbefore
    case settled =>
      have hsettled : Hoop.stepDone s.begin 5 = _ := if_neg (show ¬ s.clk.frame < s.hoop.settleEnd by omega)
      rw [hdone 5 h5 (by decide), hsettled]
      exact ⟨rfl, rfl, rfl⟩
    case unmatched =>
      rw [hdone 6 h6 (by decide)]
      exact Hoop.stepDone_unmatched (s := s.begin) h
    case matched =>
      rw [hdone 6 h6 (by decide), Hoop.stepDone_matched (s := s.begin) hf h]
      exact ⟨State.irq_bit _ 8 2 (by decide), rfl⟩
  case record =>
    rintro r t rfl
    exact Hoop.applyRecord_facts s r

end Sys2Proof.Machine
end

section
/-!
PROOFS. The statements on the scene: layout builds and healing rebuilds (R88, R89, R98), late and held objects (R123), records posted by
registers (R120, R133) and Felot messages (R127 to R131); and that the commands of the scene, the Warp, CORR and the Coil complete.
-/
namespace Sys2Proof.Machine

/-! ### Completion -/

/-- Settles O44: each command is its own operation between the common begin and end of a command, and a running device carries it
out. -/
theorem sceneMatrixAndSchedulerCommandsComplete : Obligations.SceneMatrixAndSchedulerCommandsComplete := fun s hrun =>
  ⟨fun _ => completes_act (exec_layoutBuild _ s) hrun rfl,
    fun _ => completes_act (exec_objectLate _ s) hrun rfl,
    fun _ => completes_act (exec_objectHold _ s) hrun rfl,
    fun _ _ _ _ _ => completes_act (exec_felotMessage _ _ _ _ _ s) hrun rfl,
    completes_act (exec_layoutBuildDone s) hrun rfl,
    completes_act (exec_healingRebuildDone s) hrun rfl,
    completes_act (exec_recordPost s) hrun rfl,
    fun _ _ => completes_act (exec_warpDirectPost _ _ s) hrun rfl,
    fun _ => completes_act (exec_corrBankPost _ s) hrun rfl,
    fun _ => completes_act (exec_corrGainPost _ s) hrun rfl,
    fun _ => completes_act (exec_corrMutePost _ s) hrun rfl,
    fun _ => completes_act (exec_corrPreparation _ s) hrun rfl,
    fun _ _ _ => completes_act (exec_partitionLate _ _ _ s) hrun rfl,
    fun _ => completes_act (exec_transitionEnd _ s) hrun rfl,
    completes_act (exec_warpPostAccept s) hrun rfl,
    completes_act (exec_warpFadeDone s) hrun rfl,
    completes_act (exec_corrPrepDone s) hrun rfl,
    completes_act (exec_corrFadeDone s) hrun rfl,
    fun _ => completes_act (exec_deferredRelease _ s) hrun rfl,
    fun _ => completes_act (exec_affinityWaitExpiry _ s) hrun rfl,
    fun _ _ => completes_act (exec_nodeComplete _ _ s) hrun rfl,
    fun _ => completes_act (exec_coilSubmit _ s) hrun rfl,
    fun _ => completes_act (exec_activationLate _ s) hrun rfl,
    fun _ => completes_act (exec_directCostStop _ s) hrun rfl,
    completes_act (exec_nodeDispatch s) hrun rfl,
    completes_act (exec_heldReleaseEnter s) hrun rfl,
    completes_act (exec_submitHoldRelease s) hrun rfl,
    completes_act (exec_nodeActivate s) hrun rfl,
    completes_act (exec_nodeDeactivate s) hrun rfl⟩

/-! ### Stores of a mesh and of its patches (R88, R93, R95) -/

/-- From `s` to `t` only memory has changed. -/
def State.memOnly (s t : State) : Prop := t = { s with mem := t.mem }

namespace State.memOnly

theorem refl (s : State) : State.memOnly s s := rfl

theorem trans {s t u : State} (hst : State.memOnly s t) (htu : State.memOnly t u) : State.memOnly s u := by
  unfold State.memOnly at hst htu ⊢
  rw [hst] at htu
  exact htu

theorem foldl {α : Type} {f : State → α → State} (h : ∀ s a, State.memOnly s (f s a)) (l : List α) (s : State) :
    State.memOnly s (l.foldl f s) :=
  List.foldlRecOn l f (motive := State.memOnly s) (refl s) fun t ht a _ => ht.trans (h t a)

theorem stN (l : List Byte) (s : State) (a : Nat) : State.memOnly s (s.stN a l) := State.stN_only l s a

variable {s t : State} (h : State.memOnly s t)
include h

theorem scene : t.scene = s.scene := by rw [h]
theorem rd (a : Nat) : t.rd a = s.rd a := by rw [h]; rfl

end State.memOnly

theorem Mesh.store_memOnly (s : State) (b : Nat) (l : List Tri) : State.memOnly s (Mesh.store s b l) :=
  (State.memOnly.stN _ s _).trans (.foldl (fun t _ => .stN _ t _) _ _)

theorem Patch.store_memOnly (s : State) (b j status : Nat) (l : List Tri) : State.memOnly s (Patch.store s b j status l) :=
  (State.memOnly.stN _ s _).trans (.foldl (fun t _ => .stN _ t _) _ _)

theorem Layout.storePatches_memOnly (s : State) (b : Nat) (mesh : List Tri) : State.memOnly s (Layout.storePatches s b mesh) :=
  .foldl (fun t j => Patch.store_memOnly t b j _ _) _ s

/-! ### Layout builds and healing rebuilds (R88, R89, R98) -/

/-- A word written to SCENE_LAYOUT_BUILD acts. -/
theorem Scene.poke_layoutBuild {s : State} (up : s.pageUp Scene.page = true) (v : Word) :
    Reg.poke s Reg.sceneLayoutBuild v = Scene.buildWrite s v :=
  Page.write_acts (p := Scene.page) up 0 0x54 v (by decide) (by decide) (by decide) rfl

/-- A build word with bit 0 set asks for a build, in the mode that it had. -/
theorem Scene.buildWord (v : Word) : bit (v ||| 1) 0 = true ∧ fld (v ||| 1) 1 1 = fld v 1 1 := by
  unfold bit fld
  exact ⟨by simp, by simp [Nat.shiftRight_or_distrib]⟩

/-- With no build running, one starts on the bank that is not in force, which is no longer valid. -/
theorem Scene.buildWrite_starts {s : State} (up : s.pageUp Scene.page = true) (hidle : s.scene.build = none) {w : Word}
    (hask : bit w 0 = true) : Scene.buildWrite s w = { s with scene := { s.scene with
      build := some (1 - Scene.layoutBank s, fld w 1 1)
      validA := s.scene.validA && 1 - Scene.layoutBank s != 0
      validB := s.scene.validB && 1 - Scene.layoutBank s != 1 } } := by
  unfold Scene.buildWrite
  rw [if_neg (by simp [up]), if_neg (by simp [hask, hidle])]

/-- The state in which no build runs any more. -/
def Scene.buildEnded (s : State) : State := { s with scene := { s.scene with build := none } }

/-- The state with the built mesh and its patches stored. -/
def Scene.meshStored (s : State) (b : Nat) (l : List Tri) : State :=
  Layout.storePatches (Mesh.store (Scene.buildEnded s) b l) b l

/-- The state in which bank `b` is valid, too. -/
def Scene.validated (s : State) (b : Nat) : State :=
  { s with scene := { s.scene with validA := s.scene.validA || b = 0, validB := s.scene.validB || b = 1 } }

theorem Scene.validated_rd (s : State) (b a : Nat) : (Scene.validated s b).rd a = s.rd a := rfl

theorem Scene.meshStored_memOnly (s : State) (b : Nat) (l : List Tri) :
    State.memOnly (Scene.buildEnded s) (Scene.meshStored s b l) :=
  (Mesh.store_memOnly _ b l).trans (Layout.storePatches_memOnly _ b l)

/-- Where tier 1 is admitted, or no rate is in force, nothing is shed that a build waits for (R89). -/
theorem Scene.not_shed {s : State} (h : 1 ≤ s.budget.admitted ∨ s.rateOn = false) : ¬ (s.budget.admitted < 1 ∧ s.rateOn = true) := by
  rintro ⟨hless, hon⟩
  obtain htier | hoff := h
  · omega
  · simp [hon] at hoff

section BuildDone

variable {s : State} {b mode : Nat} (hrunning : s.scene.build = some (b, mode)) (hadmitted : 1 ≤ s.budget.admitted ∨ s.rateOn = false)
include hrunning hadmitted

theorem Scene.buildDone_bad {code idx : Nat} (h : Layout.build s b mode = .inl (code, idx)) : Scene.buildDone s =
    ((Scene.buildEnded s).wr Reg.sceneLayoutStatus (w32 (at_ 16 idx + at_ 8 code))).irq Scene.page 1 := by
  unfold Scene.buildDone
  simp only [hrunning, if_neg (Scene.not_shed hadmitted), h]
  rfl

theorem Scene.buildDone_good {l : List Tri} (h : Layout.build s b mode = .inr l) : Scene.buildDone s =
    ((Scene.validated (Scene.meshStored s b l) b).wr Reg.sceneLayoutStatus
      ((Scene.validated (Scene.meshStored s b l) b).rd Reg.sceneLayoutStatus &&& 0xFFFF0000)).irq Scene.page 0 := by
  unfold Scene.buildDone
  simp only [hrunning, if_neg (Scene.not_shed hadmitted), h, Scene.validated, Scene.meshStored, Scene.buildEnded]

end BuildDone

/-- A status word written with an interrupt of the scene: both stand, and no other register has changed. -/
theorem Scene.statusRaised (s : State) (w : Word) {i : Nat} (hi : i < 32) :
    ((s.wr Reg.sceneLayoutStatus w).irq Scene.page i).rd Reg.sceneLayoutStatus = w ∧
    bit (((s.wr Reg.sceneLayoutStatus w).irq Scene.page i).rd (Reg.irqStatus Scene.page)) i = true ∧
    ∀ a, a ≠ Reg.sceneLayoutStatus → a ≠ Reg.irqStatus Scene.page →
      ((s.wr Reg.sceneLayoutStatus w).irq Scene.page i).rd a = s.rd a := by
  refine ⟨?_, State.irq_bit _ _ _ hi, fun a hstatus hirq => ?_⟩
  · rw [State.irq_ne _ _ _ (by decide), State.rd_wr_same]
  · rw [State.irq_ne _ _ _ hirq, State.rd_wr_ne _ _ hstatus]

/-- The upper half of a word holds no code of the lower half. -/
theorem fld_upperHalf (w : Word) : fld (w &&& 0xFFFF0000) 15 8 = 0 ∧ fld (w &&& 0xFFFF0000) 31 16 = fld w 31 16 := by
  have hmask : (0xFFFF0000 : Word).toNat = 0xFFFF0000 := rfl
  unfold fld
  rw [BitVec.toNat_and, hmask, Nat.shiftRight_and_distrib, Nat.shiftRight_and_distrib]
  refine ⟨?_, ?_⟩
  · exact (Nat.and_mod_two_pow).trans (Nat.and_zero _)
  · exact (Nat.and_mod_two_pow).trans (Nat.and_two_pow_sub_one_eq_mod _ 16 |>.trans (Nat.mod_mod _ _))

/-- What the end of a good build leaves of a state `u` with the mesh and its patches stored. -/
theorem Scene.built_facts (u : State) (b : Nat) {t : State} (ht : t = ((Scene.validated u b).wr Reg.sceneLayoutStatus
      ((Scene.validated u b).rd Reg.sceneLayoutStatus &&& 0xFFFF0000)).irq Scene.page 0) :
    t.scene.build = u.scene.build ∧ (b = 0 → t.scene.validA = true) ∧ (b = 1 → t.scene.validB = true) ∧ t.mem = u.mem ∧
    fld (t.rd Reg.sceneLayoutStatus) 15 8 = 0 ∧
    fld (t.rd Reg.sceneLayoutStatus) 31 16 = fld (u.rd Reg.sceneLayoutStatus) 31 16 ∧
    bit (t.rd (Reg.irqStatus Scene.page)) 0 = true ∧
    ∀ a, a ≠ Reg.sceneLayoutStatus → a ≠ Reg.irqStatus Scene.page → t.rd a = u.rd a := by
  obtain ⟨hstatus, hirq, hrest⟩ := Scene.statusRaised (Scene.validated u b)
    ((Scene.validated u b).rd Reg.sceneLayoutStatus &&& 0xFFFF0000) (i := 0) (by decide)
  obtain ⟨hcode, hindex⟩ := fld_upperHalf (u.rd Reg.sceneLayoutStatus)
  rw [Scene.validated_rd] at hstatus
  subst ht
  refine ⟨rfl, ?_, ?_, rfl, ?_, ?_, hirq, hrest⟩
  · rintro rfl
    exact Bool.or_true _
  · rintro rfl
    exact Bool.or_true _
  · exact (congrArg (fld · 15 8) hstatus).trans hcode
  · exact (congrArg (fld · 31 16) hstatus).trans hindex

theorem Scene.rebuildDone_waits {s : State} (hruns : s.scene.rebuild = true) (hadmitted : 1 ≤ s.budget.admitted ∨ s.rateOn = false) :
    Scene.rebuildDone s = { s with scene := { s.scene with
      rebuild := false
      rebuiltWait := some (Mesh.compute s (Scene.layoutBank s)
        ((Layout.presentList s (Scene.layoutBank s)).filter (fun j => !(Scene.unavailList s).contains j)), Scene.unavailList s) } } :=
  if_pos ⟨hruns, hadmitted.imp_right (by simp [·])⟩

/-! ### Late and held objects (R123) -/

/-- A mark on an object, with an interrupt of the scene, leaves every other object and every other register as they are. -/
theorem Scene.marked_facts (s : State) (i : Nat) (x : ObjPan) {k : Nat} (hk : k < 32) {t : State}
    (ht : t = (Scene.setObj s i x).irq Scene.page k) :
    Scene.obj t i = x ∧ (∀ j, j ≠ i → Scene.obj t j = Scene.obj s j) ∧
    bit (t.rd (Reg.irqStatus Scene.page)) k = true ∧ (∀ a, a ≠ Reg.irqStatus Scene.page → t.rd a = s.rd a) := by
  subst ht
  exact ⟨Tab.get_set_same _ _ _ _, fun j hj => Tab.get_set_ne _ _ _ hj, State.irq_bit _ _ _ hk, fun a ha => State.irq_ne _ _ _ ha⟩

theorem Scene.objectLate_marks {s : State} {i f : Nat} (hlate : Scene.lateFrame s i = some f) (hon : s.rateOn = true)
    (hdue : f ≤ s.clk.frame) (hnew : (Scene.obj s i).late = false) :
    Scene.objectLate s i = (Scene.setObj s i { Scene.obj s i with late := true }).irq Scene.page 4 := by
  unfold Scene.objectLate
  rw [hlate]
  exact if_pos ⟨hdue, by simp [hnew], hon⟩

theorem Scene.objectHold_marks {s : State} {i f : Nat} (hlate : Scene.lateFrame s i = some f) (hon : s.rateOn = true)
    (hdue : f + Scene.f50 s < s.clk.frame) (hmarked : (Scene.obj s i).late = true) (hnew : (Scene.obj s i).held = false) :
    Scene.objectHold s i = (Scene.setObj s i { Scene.obj s i with held := true }).irq Scene.page 5 := by
  unfold Scene.objectHold
  rw [hlate]
  exact if_pos ⟨hdue, hmarked, by simp [hnew], hon⟩

/-! ### Records of the register path (R120, R133) -/

/-- A post on a device that is no standby acts at the current frame. -/
theorem Scene.poke_recPost {s : State} (up : s.pageUp Scene.page = true) (hactive : s.isStandby = false) :
    Reg.poke s Reg.sceneRecPost 1 = Scene.recordPost s s.clk.frame := by
  refine Page.write_acts (p := Scene.page) up 0 0xC0 1 (by decide) (by decide) (by decide) ?_
  have hact : Page.action s 0 none Scene.page 0xC0 1 =
      some (if !bit 1 0 ∨ s.isStandby then s else Scene.recordPost s s.clk.frame) := rfl
  rw [hact, if_neg (by simp [hactive, bit])]

/-- The record that the registers hold, byte by byte. -/
def Scene.posted (s : State) : List Byte := (List.range 8).flatMap (fun k => leBytes 4 (s.rd (Reg.sceneRec k)).toNat)

theorem Scene.recordPost_good {s : State} (f : Nat) (h : ObjRecord.ok s.objCapCfg (Scene.posted s) = true) : Scene.recordPost s f =
    Scene.enqueue s (ObjRecord.parse (Scene.posted s)) (if s.rateOn then some f else none) none s.scene.order :=
  if_neg (by
    show ¬ (!ObjRecord.ok s.objCapCfg (Scene.posted s)) = true
    simp [h])

theorem Scene.recordPost_bad {s : State} (f : Nat) (h : ObjRecord.ok s.objCapCfg (Scene.posted s) = false) :
    Scene.recordPost s f = s.fault' Scene.page 0x82 :=
  if_pos (by
    show (!ObjRecord.ok s.objCapCfg (Scene.posted s)) = true
    simp [h])

/-! ### The Felot stream (R127 to R132) -/

/-- A frame counted by a net port leaves every register of another offset as it is. -/
theorem Net.rd_count (s : State) (p k : Nat) {a : Nat} (h : a ≠ Reg.netCnt p k) : (Net.count s p k).rd a = s.rd a :=
  State.count_ne s 1 h

theorem Net.count_scene (s : State) (p k : Nat) : (Net.count s p k).scene = s.scene := State.count_scene s _ 1

theorem Felot.count_scene (s : State) (k : Nat) : (Felot.count s k).scene = s.scene := by
  have hcounted : (s.count (Reg.sceneFelotCnt k) 1).scene = s.scene := State.count_scene s _ 1
  unfold Felot.count
  simp only []
  split <;> exact hcounted

/-- The datagram's own count leaves the registers of R127 as they are. -/
theorem Felot.accepts_counted (s : State) (net ip port src : Nat) :
    Felot.accepts (Net.count s net 0) net ip port src = Felot.accepts s net ip port src := by
  have hkeep : ∀ a, a % 0x1000 < 0x100 → (Net.count s net 0).rd a = s.rd a := fun a ha =>
    Net.rd_count s net 0 (by unfold Reg.netCnt; omega)
  have hnets := hkeep Reg.sceneFelotNets (by decide)
  have hport := hkeep Reg.sceneFelotPort (by decide)
  have hgroup := hkeep Reg.sceneFelotGroup (by decide)
  have hsrc := hkeep Reg.sceneFelotSrc (by decide)
  have hef : ∀ a, (Net.count s net 0).ef a = s.ef a := fun _ => rfl
  simp only [Felot.accepts, State.rdB, State.rdF, hnets, hport, hgroup, hsrc, hef]

theorem Felot.takes_counted {s : State} (up : s.pageUp Scene.page = true) (net ip port src : Nat) :
    Felot.takes (Net.count s net 0) net ip port src = Felot.accepts s net ip port src := by
  have hup : (Net.count s net 0).pageUp Scene.page = true := up
  rw [Felot.takes, hup, Bool.true_and, Felot.accepts_counted]

theorem Felot.datagram_dead {s : State} {net : Nat} (h : Net.live s net = false) (ip port src : Nat) (l : List Byte) :
    Felot.datagram s net ip port src l = s :=
  if_pos (by simp [h])

section Datagram

variable {s : State} {net ip port src : Nat} (hlive : Net.live s net = true) (up : s.pageUp Scene.page = true)
include hlive up

theorem Felot.datagram_host (h : Felot.accepts s net ip port src = false) (l : List Byte) :
    Felot.datagram s net ip port src l = Eth.datagramToHost (Net.count s net 0) net l := by
  unfold Felot.datagram
  simp only []
  rw [if_neg (by simp [hlive]), Felot.takes_counted up, h]
  rfl

theorem Felot.datagram_taken (h : Felot.accepts s net ip port src = true) (hactive : s.isStandby = false) (l : List Byte) :
    Felot.datagram s net ip port src l = Felot.message (Net.count s net 0) l := by
  have hstandby : (Net.count s net 0).isStandby = false := hactive
  unfold Felot.datagram
  simp only []
  rw [if_neg (by simp [hlive]), Felot.takes_counted up, if_pos h, Felot.take, if_neg (by simp [hstandby])]

end Datagram

theorem State.scene_ite {c : Prop} [Decidable c] {s t u : State} (ht : t.scene = s.scene) (hu : u.scene = s.scene) :
    (if c then t else u).scene = s.scene := by
  split
  · exact ht
  · exact hu

/-- What goes to the host changes nothing of the scene. -/
theorem Net.toHost_scene (s : State) (p : Nat) (frame : List Byte) (vlan : Option Nat) (buf : Nat) :
    (Net.toHost s p frame vlan buf).scene = s.scene := by
  have hstored : ∀ (host : Bool) c (l m : List Byte) a b,
      (if host then ({ s with ctl := c } : State) else (s.stN a l).stN b m).scene = s.scene := fun host c l m a b =>
    State.scene_ite rfl ((State.memOnly.stN l s a).trans (.stN m _ b)).scene
  unfold Net.toHost
  refine State.scene_ite (Net.count_scene s p 2) (State.scene_ite (State.faultCode_scene s _ _) ?_)
  exact (Net.count_scene _ p 1).trans (hstored _ _ _ _ _ _)

theorem Eth.datagramToHost_scene (s : State) (p : Nat) (l : List Byte) : (Eth.datagramToHost s p l).scene = s.scene :=
  Net.toHost_scene _ p _ none _

/-- The frame of time `t` (R131). -/
def Felot.frameOf (s : State) (t : Nat) : Nat := cdiv (t * rateHz s.clk.rate) 1000000000

/-- The state that a message of an acceptable sequence leaves: H and the history are updated, and it is counted. -/
def Felot.accepted (s : State) (h : Option Nat) (seen : List Nat) : State :=
  Felot.count { s with scene := { s.scene with seqH := h, seqSeen := seen } } 0

/-- The time `t` of an accepted message is kept for the first tick while no rate is in force; one whose frame has passed is late. -/
def Felot.timed (s : State) (t : Nat) : State :=
  if !s.rateOn then { s with scene := { s.scene with waitMsgs := s.scene.waitMsgs ++ [t] } }
  else if Felot.frameOf s t ≤ s.clk.frame then Felot.count s 3 else s

/-- Record `k` of a message with time `t`, frame `f` and number `msg` joins the queue, or is counted as bad. -/
def Felot.recordTaken (l : List Byte) (t f msg : Nat) (s : State) (k : Nat) : State :=
  if ObjRecord.ok s.objCapCfg (slice l (32 + 32 * k) 32) then
    Scene.enqueue s (ObjRecord.parse (slice l (32 + 32 * k) 32)) (if s.rateOn then some f else none) (some t) msg
  else (Felot.count s 8).fault' Scene.page 0x82

theorem Felot.recordTaken_good {s : State} {l : List Byte} {k : Nat} (t f msg : Nat)
    (h : ObjRecord.ok s.objCapCfg (slice l (32 + 32 * k) 32) = true) : Felot.recordTaken l t f msg s k =
    Scene.enqueue s (ObjRecord.parse (slice l (32 + 32 * k) 32)) (if s.rateOn then some f else none) (some t) msg := if_pos h

theorem Felot.accepted_scene (s : State) (h : Option Nat) (seen : List Nat) :
    (Felot.accepted s h seen).scene = { s.scene with seqH := h, seqSeen := seen } := Felot.count_scene _ 0

theorem Felot.timed_scene (s : State) (t : Nat) : (Felot.timed s t).scene =
    { s.scene with waitMsgs := if s.rateOn then s.scene.waitMsgs else s.scene.waitMsgs ++ [t] } := by
  unfold Felot.timed
  by_cases hon : s.rateOn = true
  · rw [if_neg (by simp [hon]), if_pos hon]
    exact State.scene_ite (Felot.count_scene s 3) rfl
  · rw [if_pos (by simp [hon]), if_neg hon]

/-- What becomes of the time of a message is apart from the rate in force and the capacity for objects. -/
theorem Felot.timed_rate (s : State) (t : Nat) :
    (Felot.timed s t).rateOn = s.rateOn ∧ (Felot.timed s t).objCapCfg = s.objCapCfg := by
  unfold Felot.timed
  split
  · exact ⟨rfl, rfl⟩
  · split <;> exact ⟨rfl, rfl⟩

theorem Felot.message_malformed {s : State} {l : List Byte} (h : Felot.malformed l = true) : Felot.message s l = Felot.count s 5 :=
  if_pos h

section Message

variable {s : State} {l : List Byte} (hformed : Felot.malformed l = false)
include hformed

theorem Felot.message_otherScene (h : ofLe (slice l 2 2) ≠ s.rdF Reg.sceneFelotSceneId 15 0) :
    Felot.message s l = Felot.count s 7 := by
  unfold Felot.message
  rw [if_neg (by simp [hformed]), if_pos h]

/-- A message of an acceptable sequence, not early and with room, is accepted: each of its records is looked at in turn. -/
theorem Felot.message_accepted {h : Option Nat} {seen : List Nat} {n t : Nat} (hid : ofLe (slice l 2 2) = s.rdF Reg.sceneFelotSceneId 15 0)
    (hseq : Felot.sequence s (ofLe (slice l 4 4)) = .inl (h, seen)) (hn : n = ofLe (slice l 0x12 1))
    (ht : t = ofLe (slice l 8 6) * 1000000000 + ofLe (slice l 0x0E 4)) (hpos : 0 < n) (hearly : t * nsU ≤ s.clk.stake + secU)
    (hroom : Felot.queued s + n ≤ 2048) :
    Felot.message s l = (List.range n).foldl (Felot.recordTaken l t (Felot.frameOf s t) (Felot.accepted s h seen).scene.order)
      (Felot.timed (Felot.accepted s h seen) t) := by
  unfold Felot.message
  rw [if_neg (by simp [hformed]), if_neg (not_not.mpr hid), hseq]
  subst hn ht
  refine (if_neg (by omega)).trans ((if_neg (by omega)).trans ?_)
  exact congrArg (List.foldl _ · _) (if_neg (by omega))

/-- A good message of one record takes its place in the sequence, and its record joins the queue with the frame of its time. -/
theorem Felot.message_single {h : Option Nat} {seen : List Nat} {t : Nat} (hid : ofLe (slice l 2 2) = s.rdF Reg.sceneFelotSceneId 15 0)
    (hseq : Felot.sequence s (ofLe (slice l 4 4)) = .inl (h, seen)) (hone : ofLe (slice l 0x12 1) = 1)
    (ht : t = ofLe (slice l 8 6) * 1000000000 + ofLe (slice l 0x0E 4)) (hearly : t * nsU ≤ s.clk.stake + secU)
    (hroom : Felot.queued s < 2048) (hrecord : ObjRecord.ok s.objCapCfg (slice l 32 32) = true) :
    (Felot.message s l).scene = { s.scene with
      seqH := h, seqSeen := seen, order := s.scene.order + 1
      waitMsgs := if s.rateOn then s.scene.waitMsgs else s.scene.waitMsgs ++ [t]
      queue := s.scene.queue ++ [{ record := ObjRecord.parse (slice l 32 32)
                                   f := if s.rateOn then some (cdiv (t * rateHz s.clk.rate) 1000000000) else none
                                   t := some t, order := s.scene.order, msg := s.scene.order }] } := by
  obtain ⟨hrate, hcap⟩ := Felot.timed_rate (Felot.accepted s h seen) t
  have hrange : List.range 1 = [0] := rfl
  rw [Felot.message_accepted hformed hid hseq hone.symm ht Nat.one_pos hearly hroom, hrange, List.foldl_cons, List.foldl_nil,
    Felot.recordTaken_good _ _ _ (hcap ▸ hrecord), hrate]
  simp only [Scene.enqueue, Felot.timed_scene, Felot.accepted_scene]
  rfl

end Message

/-! ### The statement on the scene -/

/-- A message that the tests of R127 let pass, on a device that is no standby, acts on the state with the frame counted. -/
theorem completes_felotMessage {s : State} {net ip port src : Nat} {l : List Byte} {P : State → Prop}
    (up : s.pageUp Scene.page = true) (hlive : Net.live s net = true) (haccepts : Felot.accepts s net ip port src = true)
    (hactive : s.isStandby = false) (h : P (Felot.message (Net.count s.begin net 0) l)) :
    Completes (.felotMessage net ip port src l) s P := by
  refine completes_act (exec_felotMessage net ip port src l s) (State.running_of_pageUp up) ?_
  rwa [Felot.datagram_taken (s := s.begin) hlive up haccepts hactive]

/-- Settles O13: each row comes to its operation of the scene, in the branch that the clause's conditions name. -/
theorem sceneCommandsAct : Obligations.SceneCommandsAct := by
  unfold Obligations.SceneCommandsAct
  intro s up
  have hrun := State.running_of_pageUp up
  refine ⟨?layoutBuild, ?layoutBuildDone, ?healingRebuildDone, ?objects, ?recordPost, ?felotPassed, ?felotTaken⟩
  case layoutBuild =>
    intro v hidle
    obtain ⟨hask, hmode⟩ := Scene.buildWord v
    refine completes_act (exec_layoutBuild v s) hrun ?_
    rw [Scene.poke_layoutBuild (s := s.begin) up, Scene.buildWrite_starts (s := s.begin) up hidle hask, hmode]
    rfl
  case layoutBuildDone =>
    intro b mode hbuild hadmitted
    refine ⟨fun code idx hbad => ?_, fun l hgood => ?_⟩ <;> refine completes_act (exec_layoutBuildDone s) hrun ?_
    · obtain ⟨hstatus, hirq, hrest⟩ := Scene.statusRaised (Scene.buildEnded s.begin) (w32 (at_ 16 idx + at_ 8 code))
        (i := 1) (by decide)
      rw [Scene.buildDone_bad (s := s.begin) hbuild hadmitted hbad]
      exact ⟨rfl, hstatus, hirq, rfl, hrest⟩
    · have hstored := Scene.meshStored_memOnly s.begin b l
      obtain ⟨hbuilt, hvalidA, hvalidB, hmem, hcode, hindex, hirq, hrest⟩ := Scene.built_facts (Scene.meshStored s.begin b l) b
        (Scene.buildDone_good (s := s.begin) hbuild hadmitted hgood)
      refine ⟨hbuilt.trans (congrArg SceneSt.build hstored.scene), hvalidA, hvalidB, hmem.trans ?_, hcode, ?_, hirq,
        fun a hstatus hother => (hrest a hstatus hother).trans (hstored.rd a)⟩
      · exact congrArg (fun u => (Layout.storePatches (Mesh.store u b l) b l).mem) (rfl : Scene.buildEnded s.begin = _)
      · rw [hindex, hstored.rd]
        rfl
  case healingRebuildDone =>
    intro hruns hadmitted
    exact completes_act (exec_healingRebuildDone s) hrun (Scene.rebuildDone_waits (s := s.begin) hruns hadmitted)
  case objects =>
    intro i f hlate hon
    refine ⟨fun hdue hnew => ?_, fun hdue hmarked hnew => ?_⟩
    · exact completes_act (exec_objectLate i s) hrun
        (Scene.marked_facts s.begin i _ (by decide) (Scene.objectLate_marks (s := s.begin) hlate hon hdue hnew))
    · exact completes_act (exec_objectHold i s) hrun
        (Scene.marked_facts s.begin i _ (by decide) (Scene.objectHold_marks (s := s.begin) hlate hon hdue hmarked hnew))
  case recordPost =>
    rintro l rfl hactive
    refine ⟨fun hgood => ?_, fun hbad => ?_⟩ <;> refine completes_act (exec_recordPost s) hrun ?_ <;>
      rw [Scene.poke_recPost (s := s.begin) up hactive]
    · exact Scene.recordPost_good (s := s.begin) _ hgood
    · rw [Scene.recordPost_bad (s := s.begin) _ hbad]
      exact ⟨rfl, State.faultCode_scene _ _ _⟩
  case felotPassed =>
    intro net ip port src l
    refine ⟨fun hdead => ?_, fun hlive hother => ?_⟩ <;> refine completes_act (exec_felotMessage net ip port src l s) hrun ?_
    · exact Felot.datagram_dead (s := s.begin) hdead ip port src l
    · rw [Felot.datagram_host (s := s.begin) hlive up hother]
      exact ⟨rfl, (Eth.datagramToHost_scene _ net l).trans (Net.count_scene _ net 0)⟩
  case felotTaken =>
    intro net ip port src l hlive haccepts hactive
    have hcounted := Net.count_scene s.begin net 0
    have hid : (Net.count s.begin net 0).rdF Reg.sceneFelotSceneId 15 0 = s.rdF Reg.sceneFelotSceneId 15 0 := by
      unfold State.rdF
      rw [Net.rd_count _ _ _ (by unfold Reg.netCnt Reg.sceneFelotSceneId; omega)]
      rfl
    refine ⟨fun hbad => ?_, fun hformed hother => ?_, fun h seen q ns hformed hscene hq hseq hone hns hearly hroom hrecord => ?_⟩ <;>
      refine completes_felotMessage up hlive haccepts hactive ?_
    · rw [Felot.message_malformed hbad]
      exact ⟨rfl, (Felot.count_scene _ 5).trans hcounted⟩
    · rw [Felot.message_otherScene hformed (hid ▸ hother)]
      exact ⟨rfl, (Felot.count_scene _ 7).trans hcounted⟩
    · subst hq
      exact Felot.message_single hformed (hscene.trans hid.symm) hseq hone hns hearly hroom hrecord

end Sys2Proof.Machine
end

section
/-!
PROOFS. Ramp times and the values of a ramp at its ends (R142, R144).
-/
namespace Sys2Proof.Machine

/-! ### Ramp times (R144) -/

/-- The ramp time is the product of time and rate, divided with the remainder rounded up. -/
theorem State.ms_eq (s : State) (k : Nat) : s.ms k = (k * rateHz s.clk.rate + 999) / 1000 := by
  unfold State.ms msFrames cdiv
  rw [if_neg (by decide), Nat.add_sub_assoc (by decide)]

theorem State.ms_zero (s : State) : s.ms 0 = 0 := by
  rw [State.ms_eq, Nat.zero_mul]

/-! ### A ramp at its ends (R142) -/

theorem Ramp.at_end (r : Ramp) {n : Nat} (h : r.h ≤ n) : r.at n = r.v1 := if_pos h

theorem Ramp.at_start (r : Ramp) {n : Nat} (hstart : n ≤ r.s) (hruns : n < r.h) : r.at n = r.v0 :=
  (if_neg (Nat.not_le.mpr hruns)).trans (if_pos hstart)

/-- Settles O54: the ramp time is a quotient rounded up, and an aimed ramp has its old value at its start and its target at its end. -/
theorem rampTimesLastWholeFrames : Obligations.RampTimesLastWholeFrames := by
  unfold Obligations.RampTimesLastWholeFrames
  intro s k
  have hframes := State.ms_eq s k
  refine ⟨by omega, by omega, fun h44 => ?_, fun h48 => ?_, State.ms_zero s, fun r n x => ⟨?_, fun hruns => ?_⟩⟩
  · rw [State.ms_eq, h44]
  · rw [State.ms_eq, h48]
  · exact Ramp.at_end _ (Nat.le_refl _)
  · exact Ramp.at_start _ (Nat.le_refl n) (Nat.lt_add_of_pos_right hruns)

end Sys2Proof.Machine
end

section
/-!
PROOFS. Registers that a command writes with an interrupt or a fault code beside them, and fields of a word apart from one that is
written.
-/
namespace Sys2Proof.Machine

/-! ### Fields and registers -/

/-- A field of a word keeps its value where the bits written stand apart from it. -/
theorem fld_setFld_apart (w : Word) {hi lo hi' lo' : Nat} (v : Nat) (h : hi < lo' ∨ hi' < lo) (hlo : lo ≤ hi) (hlo' : lo' ≤ hi') :
    fld (setFld w hi' lo' v) hi lo = fld w hi lo := by
  unfold fld setFld w32
  apply Nat.eq_of_testBit_eq
  intro i
  simp only [Nat.testBit_mod_two_pow, Nat.testBit_shiftRight, BitVec.testBit_toNat, BitVec.getLsbD_or, BitVec.getLsbD_and,
    BitVec.getLsbD_not, BitVec.getLsbD_ofNat, Nat.testBit_shiftLeft, Nat.testBit_two_pow_sub_one]
  by_cases hin : i < hi + 1 - lo
  · have happart : ¬ (lo' ≤ lo + i ∧ lo + i - lo' < hi' + 1 - lo') := by omega
    by_cases h32 : lo + i < 32
    · by_cases hle : lo' ≤ lo + i
      · have hpast : ¬ lo + i - lo' < hi' + 1 - lo' := fun hlt => happart ⟨hle, hlt⟩
        simp [hin, h32, hle, hpast]
      · simp [hin, h32, hle]
    · simp [BitVec.getLsbD_of_ge w (lo + i) (by omega), h32]
  · simp [hin]

/-- The lowest bit as a field: a write of 1 sets it, a write of 0 clears it. -/
theorem bit_setFld_lowest (w : Word) : bit (setFld w 0 0 1) 0 = true ∧ bit (setFld w 0 0 0) 0 = false :=
  ⟨bit_setBit w 0 true (by decide), bit_setBit w 0 false (by decide)⟩

/-- An interrupt raised after a register was written, seen from both. -/
theorem State.wr_irq_facts (s : State) {a p i : Nat} (w : Word) (hplain : Reg.plain a = true) (hi : i < 32) :
    ((s.wr a w).irq p i).rd a = w ∧ bit (((s.wr a w).irq p i).rd (Reg.irqStatus p)) i = true :=
  ⟨(State.rd_irq_plain hplain _ p i).trans (State.rd_wr_same s a w), State.irq_bit _ _ _ hi⟩

/-- A discard that is counted, raised as an interrupt and recorded with a code, seen in the count and in the cause. -/
theorem State.discarded_facts (s : State) {a p i code : Nat} (hplain : Reg.plain a = true) (hcode : code < 256) :
    (((s.count a 1).irq p i).fault' p code).rd a = satAdd (s.rd a) 1 ∧
    fld ((((s.count a 1).irq p i).fault' p code).rd (Reg.faultCause p)) 7 0 = code := by
  refine ⟨?_, State.faultD_cause _ p code 0 hcode⟩
  rw [State.rd_fault_plain hplain, State.rd_irq_plain hplain, State.count_same]

/-- What an interrupt alone leaves: its own bit is set, and no other register changes. -/
theorem State.irq_facts (s : State) (p : Nat) {i : Nat} (hi : i < 32) :
    bit ((s.irq p i).rd (Reg.irqStatus p)) i = true ∧ ∀ a, a ≠ Reg.irqStatus p → (s.irq p i).rd a = s.rd a :=
  ⟨State.irq_bit s p i hi, fun _ => State.irq_ne s p i⟩

end Sys2Proof.Machine
end

section
/-!
PROOFS. The Warp's direct posts and its output fade (R147, R148, R152, R601).
-/
namespace Sys2Proof.Machine

/-! ### Nodes -/

theorem Warp.node_setNode_same (s : State) (i j : Nat) (r : Ramp) : Warp.node (Warp.setNode s i j r) i j = r := Tab.get_set_same _ _ _ _

theorem Warp.node_setNode_ne (s : State) {i j row col : Nat} (r : Ramp) (hj : j < 512) (hcol : col < 512) (h : (i, j) ≠ (row, col)) :
    Warp.node (Warp.setNode s row col r) i j = Warp.node s i j :=
  Tab.get_set_ne _ _ _ fun hkey => h (Prod.ext_iff.mpr ⟨by omega, by omega⟩)

/-! ### Direct posts (R147, R148) -/

/-- The post of `gain` to the node that WARP_DW_NODE names. -/
def Warp.directPost (s : State) (gain : Word) : Post :=
  { ready := s.clk.mono + 2 * usU, a := s.rdF Reg.warpDwNode 25 16, b := s.rdF Reg.warpDwNode 8 0, c := gain.toNat }

section Direct

variable {s : State} (up : s.pageUp Warp.page = true) (hnone : s.warp.held = none)

include hnone in
theorem Warp.accept_none : Warp.accept s = s := by
  unfold Warp.accept
  rw [hnone]

include up hnone

/-- A direct write that finds no post on its way comes to the queue. -/
theorem Warp.directWrite_ready (gain : Word) : Warp.directWrite s gain false = Warp.enqueue s (Warp.directPost s gain) := by
  have hwrite : Warp.post s gain = Warp.enqueue s (Warp.directPost s gain) := by
    unfold Warp.post
    rw [if_neg (by simp [up])]
    simp only [Warp.accept_none hnone]
    rfl
  have hpoke : Reg.poke s Reg.warpDwGain gain = Warp.post s gain :=
    Page.write_acts (p := Warp.page) up 0 0x50 gain (by decide) (by decide) (by decide) rfl
  unfold Warp.directWrite
  simp only [Warp.accept_none hnone, Bool.false_eq_true, if_false]
  exact hpoke.trans hwrite

theorem Warp.directWrite_busy (gain : Word) : Warp.directWrite s gain true =
    { s with warp := { s.warp with held := some (Warp.directPost s gain) } } := by
  unfold Warp.directWrite Warp.hold
  simp only [Warp.accept_none hnone, if_true]
  rw [if_neg (by simp [up])]
  rfl

end Direct

theorem Warp.enqueue_queued {s : State} (hon : s.rateOn = true) (p : Post) :
    Warp.enqueue s p = { s with warp := { s.warp with posts := s.warp.posts ++ [p] } } := if_pos hon

theorem Warp.enqueue_atOnce {s : State} (hoff : s.rateOn = false) (p : Post) :
    Warp.enqueue s p = Warp.applyPost s p.a p.b (signed 32 p.c) s.clk.frame := if_neg (by simp [hoff])

/-- Without a render rate a post within the capacity steps its node. -/
theorem Warp.applyPost_steps {s : State} {row col : Nat} (hoff : s.rateOn = false) (hdirect : Warp.isDirect s row = true)
    (hrow : row < s.objCapCfg) (hcol : col < s.outCapCfg) (gain : Int) (l : Nat) :
    Warp.applyPost s row col gain l = Warp.setNode s row col (Ramp.const gain) := by
  unfold Warp.applyPost
  rw [if_neg (by simp [hdirect, hrow, hcol]), if_neg (by simp [hoff])]

/-- A post to a row that is no direct row is discarded. -/
theorem Warp.applyPost_discards {s : State} {row : Nat} (h : Warp.isDirect s row = false) (col : Nat) (gain : Int) (l : Nat) :
    Warp.applyPost s row col gain l = ((s.count Reg.warpDwDiscards 1).irq Warp.page 1).fault' Warp.page 0x80 :=
  if_pos (by simp [h])

/-- A held post that the Warp takes while a rate is in force joins the queue, ready 2 µs later. -/
theorem Warp.accept_queued {s : State} {p : Post} (hheld : s.warp.held = some p) (hon : s.rateOn = true) :
    Warp.accept s = { s with warp := { s.warp with
      held := none, posts := s.warp.posts ++ [{ p with ready := s.clk.mono + 2 * usU }] } } := by
  unfold Warp.accept
  rw [hheld]
  exact Warp.enqueue_queued (s := { s with warp := { s.warp with held := none } }) hon _

/-! ### The output fade (R152) -/

theorem Warp.fadeDone_ended {s : State} (hbusy : s.warp.fadeBusy = true) (hend : s.warp.fade.h ≤ s.clk.frame) :
    Warp.fadeDone s = ({ s with warp := { s.warp with fadeBusy := false } } : State).irq Warp.page 2 := if_pos ⟨hbusy, hend⟩

end Sys2Proof.Machine
end

section
/-!
PROOFS. CORR's posts, late partitions, and the ends of its transitions and of its fade (R166, R170 to R172, R177, R601).
-/
namespace Sys2Proof.Machine

/-! ### Outputs -/

theorem Corr.out_setOut_same (s : State) (j : Nat) (o : CorrOut) : Corr.out (Corr.setOut s j o) j = o := Tab.get_set_same _ _ _ _

theorem Corr.out_setOut_ne (s : State) {j k : Nat} (o : CorrOut) (h : k ≠ j) : Corr.out (Corr.setOut s j o) k = Corr.out s k :=
  Tab.get_set_ne _ _ _ h

/-- An output set to what it is leaves every output as it is. -/
theorem Corr.out_setOut_self (s : State) (j k : Nat) : Corr.out (Corr.setOut s j (Corr.out s j)) k = Corr.out s k := by
  obtain rfl | h := eq_or_ne k j
  · exact Corr.out_setOut_same s k _
  · exact Corr.out_setOut_ne s _ h

/-- Outputs are read from CORR's own state. -/
theorem Corr.out_congr {s t : State} (h : t.corr = s.corr) (k : Nat) : Corr.out t k = Corr.out s k := by
  unfold Corr.out
  rw [h]

/-! ### Posts (R170, R172, R601) -/

/-- The post of kind `kind` and value `v` to the output that CORR_OUT_SEL names. -/
def Corr.directPost (s : State) (kind : Nat) (v : Word) : Post :=
  { ready := s.clk.mono + 2 * usU, a := kind, b := s.rdF Reg.corrOutSel 8 0, c := v.toNat }

section Poke

variable {s : State} (up : s.pageUp Corr.page = true) (v : Word)
include up

/-- The three post registers, by the kind of the post. -/
theorem Corr.poke_post : Reg.poke s Reg.corrOutBank v = Corr.post s 0 v ∧ Reg.poke s Reg.corrOutGain v = Corr.post s 1 v ∧
    Reg.poke s Reg.corrOutMute v = Corr.post s 2 v :=
  ⟨Page.write_acts (p := Corr.page) up 0 0x64 v (by decide) (by decide) (by decide) rfl,
    Page.write_acts (p := Corr.page) up 0 0x68 v (by decide) (by decide) (by decide) rfl,
    Page.write_acts (p := Corr.page) up 0 0x6C v (by decide) (by decide) (by decide) rfl⟩

theorem Corr.poke_prep : Reg.poke s Reg.corrPrep v = Corr.prepWrite s v :=
  Page.write_acts (p := Corr.page) up 0 0x70 v (by decide) (by decide) (by decide) rfl

theorem Corr.post_queued (hon : s.rateOn = true) (kind : Nat) :
    Corr.post s kind v = { s with corr := { s.corr with posts := s.corr.posts ++ [Corr.directPost s kind v] } } := by
  unfold Corr.post
  simp only []
  rw [if_neg (by simp [up]), if_pos hon]
  rfl

theorem Corr.post_atOnce (hoff : s.rateOn = false) (kind : Nat) :
    Corr.post s kind v = Corr.applyPost s kind (s.rdF Reg.corrOutSel 8 0) v.toNat s.clk.frame := by
  unfold Corr.post
  simp only []
  rw [if_neg (by simp [up]), if_neg (by simp [hoff])]

end Poke

section Effect

variable {s : State} (hoff : s.rateOn = false) {j : Nat}
include hoff

theorem Corr.rampFor_steps (r : Ramp) (x : Int) (len n : Nat) : Corr.rampFor s r x len n = Ramp.const x := if_neg (by simp [hoff])

theorem Corr.gainEffect_steps (hj : j < s.outCapCfg) {v : Nat} (hgain : Corr.gainOk (signed 16 v) = true) (n : Nat) :
    Corr.gainEffect s j v n = Corr.setOut s j { Corr.out s j with gain := Ramp.const (gainLin (signed 16 v)) } := by
  unfold Corr.gainEffect
  simp only [Corr.rampFor_steps hoff]
  rw [if_neg (by simp [hj, hgain])]

theorem Corr.muteEffect_steps (hj : j < s.outCapCfg) (v n : Nat) : Corr.muteEffect s j v n =
    Corr.setOut s j { Corr.out s j with mute := Ramp.const (if v % 2 = 1 then 0 else one30) } := by
  unfold Corr.muteEffect
  simp only [Corr.rampFor_steps hoff]
  rw [if_neg (by omega)]

theorem Corr.unposted_idle (o : CorrOut) (n : Nat) : Corr.unposted s o n = o := by
  unfold Corr.unposted
  cases o.trans with
  | none => rfl
  | some x => exact if_neg (by simp [hoff])

/-- A bank post past the capacity is discarded. -/
theorem Corr.bankEffect_discards (hj : s.outCapCfg ≤ j) (bank n : Nat) :
    Corr.bankEffect s j bank n = Corr.discardPost (Corr.setOut s j (Corr.out s j)) := by
  unfold Corr.bankEffect
  simp only [Corr.unposted_idle hoff]
  exact if_pos (.inl hj)

end Effect

theorem Corr.discardPost_corr (s : State) : (Corr.discardPost s).corr = s.corr := by
  unfold Corr.discardPost
  rw [State.faultCode_corr, State.irq_corr, State.count_corr]

theorem word_mod_two (v : Word) : v.toNat % 2 = 1 ↔ bit v 0 = true := by
  unfold bit
  rw [← BitVec.testBit_toNat, Nat.testBit_zero, decide_eq_true_iff]

/-! ### Late partitions (R166) -/

/-- The state with output `j` as `o`, and a late block of it counted, raised and recorded. -/
def Corr.lateNoted (s : State) (j : Nat) (o : CorrOut) : State :=
  (((Corr.setOut s j o).count Reg.corrLateCount 1).irq Corr.page 1).faultD Corr.page 0x85 j

theorem Corr.lateNoted_facts (s : State) (j : Nat) (o : CorrOut) :
    Corr.out (Corr.lateNoted s j o) j = o ∧ (∀ k, k ≠ j → Corr.out (Corr.lateNoted s j o) k = Corr.out s k) ∧
    (Corr.lateNoted s j o).rd Reg.corrLateCount = satAdd (s.rd Reg.corrLateCount) 1 ∧
    bit ((Corr.lateNoted s j o).rd (Reg.irqStatus Corr.page)) 1 = true ∧
    fld ((Corr.lateNoted s j o).rd (Reg.faultCause Corr.page)) 7 0 = 0x85 := by
  unfold Corr.lateNoted
  have hcorr : ((((Corr.setOut s j o).count Reg.corrLateCount 1).irq Corr.page 1).faultD Corr.page 0x85 j).corr =
      (Corr.setOut s j o).corr := by
    rw [State.faultD_corr, State.irq_corr, State.count_corr]
  refine ⟨?_, fun k hk => ?_, ?_, ?_, State.faultD_cause _ _ _ _ (by decide)⟩
  · exact (Corr.out_congr hcorr j).trans (Corr.out_setOut_same s j o)
  · exact (Corr.out_congr hcorr k).trans (Corr.out_setOut_ne s o hk)
  · rw [State.rd_faultD_plain (by decide), State.rd_irq_plain (by decide)]
    exact State.count_same _ _
  · rw [State.faultD_ne _ _ _ _ (by decide) (by decide) (by decide) (by decide)]
    exact State.irq_bit _ _ _ (by decide)

/-- A block still awaited at its deadline, behind blocks that are others, is marked. -/
theorem Corr.partitionLate_marks {s : State} {j p start : Nat} {l1 l2 : List PartBlock} {blk : PartBlock}
    (hblocks : (Corr.out s j).blocks = l1 ++ blk :: l2) (hothers : ∀ x, x ∈ l1 → ¬ (x.p = p ∧ x.start = start)) (hp : blk.p = p)
    (hstart : blk.start = start) (hcomplete : blk.complete = false) (hlate : blk.late = false)
    (hdue : Corr.deadline p start ≤ s.clk.frame) : Corr.partitionLate s j p start =
      Corr.lateNoted s j { Corr.out s j with blocks := l1 ++ { blk with late := true } :: l2 } := by
  have hbefore : l1.findIdx? (fun b => b.p = p && b.start = start && !b.complete && !b.late) = none :=
    List.findIdx?_eq_none_iff.mpr fun x hx => by
      have hother : (decide (x.p = p) && decide (x.start = start)) = false := by simpa using hothers x hx
      rw [hother, Bool.false_and, Bool.false_and]
  have hfound : (l1 ++ blk :: l2).findIdx? (fun b => b.p = p && b.start = start && !b.complete && !b.late) = some l1.length := by
    rw [List.findIdx?_append, hbefore, List.findIdx?_cons, if_pos (by simp [hp, hstart, hcomplete, hlate])]
    simp
  have hmarked : (l1 ++ blk :: l2).modify l1.length (fun b => { b with late := true }) = l1 ++ { blk with late := true } :: l2 := by
    rw [List.modify_eq_take_drop, List.take_left, List.drop_left]
    rfl
  unfold Corr.partitionLate
  simp only [hblocks, hfound, hmarked]
  exact if_neg (Nat.not_lt.mpr hdue)

/-- While no activation computes the partition, its lateness is CORR's alone. -/
theorem Coil.partitionLate_noAct {s : State} {j p : Nat} (h : ∀ a, a ∈ s.coil.acts → a.node ≠ 7680 + 17 * j + p) (start : Nat) :
    Coil.partitionLate s j p start = Corr.partitionLate s j p start := by
  unfold Coil.partitionLate
  rw [List.find?_eq_none.mpr fun a ha => by simp [h a ha]]

/-! ### Transitions and the enable fade (R171, R177) -/

theorem Corr.transitionEnd_ends {s : State} {j : Nat} {x : Transition} (htrans : (Corr.out s j).trans = some x)
    (hend : x.endFrame ≤ s.clk.frame) :
    Corr.transitionEnd s j = (Corr.setOut s j { Corr.out s j with trans := none, iirOld := [] }).irq Corr.page 5 := by
  unfold Corr.transitionEnd
  simp only [htrans]
  exact if_pos hend

theorem Corr.fadeDone_ended {s : State} (hbusy : s.corr.fadeBusy = true) (hend : s.corr.fade.h ≤ s.clk.frame) :
    Corr.fadeDone s = ({ s with corr := { s.corr with fadeBusy := false } } : State).irq Corr.page 6 := if_pos ⟨hbusy, hend⟩

end Sys2Proof.Machine
end

section
/-!
PROOFS. The preparation of filter banks: its command, the work on one output, and its end (R174 to R176).
-/
namespace Sys2Proof.Machine

/-! ### CORR_PREPARATION (R175, R176) -/

theorem mem_rangeFrom (lo n j : Nat) : j ∈ rangeFrom lo n ↔ lo ≤ j ∧ j < lo + n := by
  unfold rangeFrom
  simp only [List.mem_map, List.mem_range]
  exact ⟨fun ⟨i, hi, hj⟩ => by omega, fun h => ⟨j - lo, by omega, by omega⟩⟩

section Write

variable {s : State} (up : s.pageUp Corr.page = true) {w : Word}
include up

theorem Corr.prepWrite_beyond (h : 512 < fld w 8 0 + fld w 25 16) : Corr.prepWrite s w = s.fault' Corr.page 0x01 := by
  unfold Corr.prepWrite
  simp only []
  rw [if_neg (by simp [up]), if_pos h]

/-- The write is refused while a preparation runs, without a DRAM base, and where a bank of the range is in use. -/
theorem Corr.prepWrite_refused (hrange : fld w 8 0 + fld w 25 16 ≤ 512) (h : s.corr.prep.isSome ∨ Corr.base s = 0 ∨
      ∃ j, fld w 8 0 ≤ j ∧ j < fld w 8 0 + fld w 25 16 ∧ Corr.bankBusy s (fld w 31 31) j = true) :
    Corr.prepWrite s w = s.fault' Corr.page 0x83 := by
  have hany : s.corr.prep.isSome ∨ Corr.base s = 0 ∨
      (rangeFrom (fld w 8 0) (fld w 25 16)).any (Corr.bankBusy s (fld w 31 31)) = true := by
    refine h.imp id (.imp id fun ⟨j, hlo, hhi, hbusy⟩ => ?_)
    exact List.any_eq_true.mpr ⟨j, (mem_rangeFrom _ _ j).mpr ⟨hlo, hhi⟩, hbusy⟩
  unfold Corr.prepWrite
  simp only []
  rw [if_neg (by simp [up]), if_neg (Nat.not_lt.mpr hrange)]
  exact if_pos hany

/-- A write that nothing stands against starts the preparation; one of no outputs is done at once. -/
theorem Corr.prepWrite_accepted (hrange : fld w 8 0 + fld w 25 16 ≤ 512) (hidle : s.corr.prep = none) (hbase : Corr.base s ≠ 0)
    (hfree : ∀ j, fld w 8 0 ≤ j → j < fld w 8 0 + fld w 25 16 → Corr.bankBusy s (fld w 31 31) j = false) :
    Corr.prepWrite s w =
      if fld w 25 16 = 0 then (s.wr Reg.corrPrepStatus (setFld (s.rd Reg.corrPrepStatus) 15 8 0)).irq Corr.page 3
      else ({ s with corr := { s.corr with prep := some (fld w 31 31, fld w 8 0, fld w 25 16), prepAt := 0 } } : State).wr
        Reg.corrPrepStatus (setFld (setFld (s.rd Reg.corrPrepStatus) 15 8 0) 0 0 1) := by
  have hnot : ¬ (s.corr.prep.isSome ∨ Corr.base s = 0 ∨
      (rangeFrom (fld w 8 0) (fld w 25 16)).any (Corr.bankBusy s (fld w 31 31)) = true) := by
    rintro (hsome | hzero | hany)
    · simp [hidle] at hsome
    · exact hbase hzero
    · obtain ⟨j, hj, hbusy⟩ := List.any_eq_true.mp hany
      obtain ⟨hlo, hhi⟩ := (mem_rangeFrom _ _ j).mp hj
      simp [hfree j hlo hhi] at hbusy
  unfold Corr.prepWrite
  simp only []
  rw [if_neg (by simp [up]), if_neg (Nat.not_lt.mpr hrange)]
  exact if_neg hnot

end Write

/-! ### The spectra of one output (R174, R181) -/

/-- From `s` to `t` no output has changed but in the block exponents of output `j`. -/
def Corr.exponentsOnly (j : Nat) (s t : State) : Prop :=
  (∃ e, Corr.out t j = { Corr.out s j with exps := e }) ∧ ∀ k, k ≠ j → Corr.out t k = Corr.out s k

theorem Corr.exponentsOnly_refl (j : Nat) (s : State) : Corr.exponentsOnly j s s := ⟨⟨_, rfl⟩, fun _ _ => rfl⟩

theorem Corr.exponentsOnly_trans {j : Nat} {s t u : State} (hst : Corr.exponentsOnly j s t) (htu : Corr.exponentsOnly j t u) :
    Corr.exponentsOnly j s u := by
  obtain ⟨⟨e, hout⟩, hother⟩ := hst
  obtain ⟨⟨e', hout'⟩, hother'⟩ := htu
  refine ⟨⟨e', ?_⟩, fun k hk => (hother' k hk).trans (hother k hk)⟩
  rw [hout', hout]

theorem Corr.putWords_memOnly (s : State) (a : Nat) (ws : List Word) : State.memOnly s (Corr.putWords s a ws) :=
  .foldl (fun t _ => .stN _ t _) _ s

theorem State.memOnly.corr {s t : State} (h : State.memOnly s t) : t.corr = s.corr := by rw [h]

theorem Corr.prepSpectrum_exponentsOnly (s : State) (b j : Nat) (taps : List Int) (p : Nat) :
    Corr.exponentsOnly j s (Corr.prepSpectrum s b j taps p) := by
  unfold Corr.prepSpectrum
  have hout := Corr.out_congr (Corr.putWords_memOnly (Corr.setOut s j { Corr.out s j with
    exps := Tab.set (fun _ => 0) (Corr.out s j).exps (32 * b + p)
      (Config.fftExp ((taps.drop (Corr.partD p)).take (Corr.partB p))) }) (Corr.specAddr s b j p)
    (Corr.spectrum ((taps.drop (Corr.partD p)).take (Corr.partB p)) (Corr.partB p))).corr
  exact ⟨⟨_, (hout j).trans (Corr.out_setOut_same s j _)⟩, fun k hk => (hout k).trans (Corr.out_setOut_ne s _ hk)⟩

/-! ### One output (R174, R175) -/

/-- The taps that memory holds for bank `b` of output `j`, as many as its parameter entry names. -/
def Corr.tapsHeld (s : State) (b j : Nat) : List Int :=
  (List.range (Corr.lenEntry s b j)).map (fun k => s.ldS32 (Corr.tapAddr s b j + 4 * k))

/-- Output `j` with bank `b` prepared from memory. -/
def Corr.prepared (s : State) (b j : Nat) : CorrOut :=
  if b = 0 then { Corr.out s j with prepA := true, tapsA := Corr.tapsHeld s b j, lenA := Corr.lenEntry s b j }
  else { Corr.out s j with prepB := true, tapsB := Corr.tapsHeld s b j, lenB := Corr.lenEntry s b j }

/-- Output `j` with bank `b` not prepared. -/
def Corr.unprepared (s : State) (b j : Nat) : CorrOut :=
  if b = 0 then { Corr.out s j with prepA := false } else { Corr.out s j with prepB := false }

section One

variable {s : State} {b j : Nat}

theorem Corr.prepOne_good (h : Corr.entryOk s b j = true) :
    Corr.exponentsOnly j (Corr.setOut s j (Corr.prepared s b j)) (Corr.prepOne s b j) := by
  unfold Corr.prepOne
  simp only []
  rw [if_pos h]
  exact List.foldlRecOn _ _ (motive := Corr.exponentsOnly j _) (Corr.exponentsOnly_refl j _) fun t ht p _ =>
    Corr.exponentsOnly_trans ht (Corr.prepSpectrum_exponentsOnly t b j _ p)

/-- CORR_PREP_STATUS names the failed output `j` and counts it. -/
def Corr.failStatus (st : Word) (j : Nat) : Word := setFld (setFld st 24 16 j) 15 8 (satU 8 (fld st 15 8 + 1))

theorem Corr.prepOne_bad (h : Corr.entryOk s b j = false) : Corr.prepOne s b j =
    ((Corr.setOut s j (Corr.unprepared s b j)).wr Reg.corrPrepStatus (Corr.failStatus (s.rd Reg.corrPrepStatus) j)).faultD
      Corr.page 0x82 j := by
  unfold Corr.prepOne
  simp only []
  rw [if_neg (by simp [h])]
  rfl

/-- The output whose entry is good holds what memory holds for the bank. -/
theorem Corr.prepOne_good_out (h : Corr.entryOk s b j = true) {o : CorrOut} (ho : o = Corr.out (Corr.prepOne s b j) j) :
    (b = 0 → o.prepA = true ∧ o.lenA = Corr.lenEntry s b j ∧ o.tapsA = Corr.tapsHeld s b j) ∧
    (b ≠ 0 → o.prepB = true ∧ o.lenB = Corr.lenEntry s b j ∧ o.tapsB = Corr.tapsHeld s b j) := by
  obtain ⟨⟨e, hout⟩, -⟩ := Corr.prepOne_good h
  rw [Corr.out_setOut_same] at hout
  subst ho
  rw [hout]
  unfold Corr.prepared
  refine ⟨fun hb => ?_, fun hb => ?_⟩
  · rw [if_pos hb]
    exact ⟨rfl, rfl, rfl⟩
  · rw [if_neg hb]
    exact ⟨rfl, rfl, rfl⟩

/-- The output whose entry is out of range is not prepared, and is named with a code. -/
theorem Corr.prepOne_bad_facts (h : Corr.entryOk s b j = false) :
    Corr.out (Corr.prepOne s b j) j = Corr.unprepared s b j ∧
    fld ((Corr.prepOne s b j).rd (Reg.faultCause Corr.page)) 7 0 = 0x82 ∧
    fld ((Corr.prepOne s b j).rd Reg.corrPrepStatus) 24 16 = j % 512 := by
  rw [Corr.prepOne_bad h]
  refine ⟨?_, State.faultD_cause _ _ _ _ (by decide), ?_⟩
  · rw [Corr.out_congr (State.faultD_corr _ _ _ _)]
    exact Corr.out_setOut_same s j _
  · rw [State.rd_faultD_plain (by decide), State.rd_wr_same]
    exact (fld_setFld_apart _ _ (by decide) (by decide) (by decide)).trans (fld_setFld _ 24 16 j (by decide) (by decide))

/-- The preparation of one output leaves the others as they are. -/
theorem Corr.prepOne_out_ne {k : Nat} (hk : k ≠ j) : Corr.out (Corr.prepOne s b j) k = Corr.out s k := by
  cases h : Corr.entryOk s b j with
  | true =>
    obtain ⟨-, hother⟩ := Corr.prepOne_good h
    exact (hother k hk).trans (Corr.out_setOut_ne s _ hk)
  | false =>
    rw [Corr.prepOne_bad h, Corr.out_congr (State.faultD_corr _ _ _ _)]
    exact Corr.out_setOut_ne s _ hk

end One

/-! ### The end (R174, R175) -/

/-- The end of a preparation whose outputs are done, in the state `u`. -/
def Corr.prepEnded (u : State) : State :=
  let t := (({ u with corr := { u.corr with prep := none, prepAt := 0 } } : State).wrF Reg.corrPrepStatus 0 0 0).irq Corr.page 3
  if 0 < fld (t.rd Reg.corrPrepStatus) 15 8 then t.irq Corr.page 4 else t

/-- The outputs from `lo` on, `m` of them, prepared one after the other. -/
def Corr.prepRange (s : State) (b lo m : Nat) : State := (rangeFrom lo m).foldl (fun s j => Corr.prepOne s b j) s

theorem Corr.prepRange_one (s : State) (b lo : Nat) : Corr.prepRange s b lo 1 = Corr.prepOne s b lo := rfl

/-- Outputs that the range does not name stay as they are. -/
theorem Corr.prepRange_out_apart (s : State) (b lo m : Nat) {k : Nat} (hk : ¬ (lo ≤ k ∧ k < lo + m)) :
    Corr.out (Corr.prepRange s b lo m) k = Corr.out s k := by
  refine List.foldlRecOn _ _ (motive := fun t => Corr.out t k = Corr.out s k) rfl fun t ht j hj => ?_
  have hne : k ≠ j := fun heq => hk (heq ▸ (mem_rangeFrom lo m j).mp hj)
  exact (Corr.prepOne_out_ne hne).trans ht

/-- From `u` to `t` the end of a preparation is reported: busy clears, prep_done is raised, and the outputs, the cause and the number of
the failed output stay. -/
structure Corr.prepReported (u t : State) : Prop where
  ended : t.corr.prep = none
  raised : bit (t.rd (Reg.irqStatus Corr.page)) 3 = true
  idle : bit (t.rd Reg.corrPrepStatus) 0 = false
  outs : t.corr.outs = u.corr.outs
  cause : t.rd (Reg.faultCause Corr.page) = u.rd (Reg.faultCause Corr.page)
  failed : fld (t.rd Reg.corrPrepStatus) 24 16 = fld (u.rd Reg.corrPrepStatus) 24 16

theorem Corr.prepReported.out {u t : State} (h : Corr.prepReported u t) (k : Nat) : Corr.out t k = Corr.out u k :=
  congrArg (Tab.get Corr.outDefault · k) h.outs

theorem Corr.prepReported.irq {u t : State} (h : Corr.prepReported u t) : Corr.prepReported u (t.irq Corr.page 4) := by
  have hstatus : (t.irq Corr.page 4).rd Reg.corrPrepStatus = t.rd Reg.corrPrepStatus := State.rd_irq_plain (by decide) t _ _
  refine ⟨h.ended, ?_, hstatus ▸ h.idle, h.outs, (State.irq_ne t _ _ (by decide)).trans h.cause, hstatus ▸ h.failed⟩
  unfold State.irq
  rw [State.rd_wr_same]
  exact bit_setBit_keeps _ h.raised

theorem Corr.prepEnded_reported (u : State) : Corr.prepReported u (Corr.prepEnded u) := by
  have hdone : Corr.prepReported u
      ((({ u with corr := { u.corr with prep := none, prepAt := 0 } } : State).wrF Reg.corrPrepStatus 0 0 0).irq Corr.page 3) := by
    obtain ⟨hstatus, hraised⟩ := State.wr_irq_facts ({ u with corr := { u.corr with prep := none, prepAt := 0 } } : State)
      (a := Reg.corrPrepStatus) (p := Corr.page) (i := 3) (setFld (u.rd Reg.corrPrepStatus) 0 0 0) (by decide) (by decide)
    obtain ⟨-, hclear⟩ := bit_setFld_lowest (u.rd Reg.corrPrepStatus)
    refine ⟨rfl, hraised, (congrArg (bit · 0) hstatus).trans hclear, rfl, ?_, (congrArg (fld · 24 16) hstatus).trans ?_⟩
    · exact (State.irq_ne _ _ _ (by decide)).trans (State.rd_wr_ne _ _ (by decide))
    · exact fld_setFld_apart _ 0 (by decide) (by decide) (by decide)
  unfold Corr.prepEnded
  simp only []
  split
  · exact hdone.irq
  · exact hdone

section Done

variable {s : State} {b first count : Nat} (hprep : s.corr.prep = some (b, first, count))
include hprep

/-- What the end prepares is what the preparation has left: from the next output on, the rest of the range. -/
theorem Corr.prepDone_reported (hrun : 1 ≤ s.budget.admitted ∨ s.rateOn = false) :
    Corr.prepReported (Corr.prepRange s b (first + s.corr.prepAt) (count - s.corr.prepAt)) (Corr.prepDone s) := by
  have hon : Corr.prepOn s count = { Corr.prepRange s b (first + s.corr.prepAt) (count - s.corr.prepAt) with
      corr := { (Corr.prepRange s b (first + s.corr.prepAt) (count - s.corr.prepAt)).corr with
        prepAt := s.corr.prepAt + (count - s.corr.prepAt) } } := by
    unfold Corr.prepOn Corr.prepRange
    simp only [hprep, Nat.min_eq_right (Nat.sub_le count s.corr.prepAt)]
  have hdone : Corr.prepDone s = Corr.prepEnded (Corr.prepRange s b (first + s.corr.prepAt) (count - s.corr.prepAt)) := by
    unfold Corr.prepDone
    simp only [hprep]
    rw [if_neg (Scene.not_shed hrun), hon]
    rfl
  rw [hdone]
  exact Corr.prepEnded_reported _

/-- Where one output is left, the end prepares that one. -/
theorem Corr.prepDone_last (hrun : 1 ≤ s.budget.admitted ∨ s.rateOn = false) (hlast : count = s.corr.prepAt + 1) :
    Corr.prepReported (Corr.prepOne s b (first + s.corr.prepAt)) (Corr.prepDone s) := by
  have hone : count - s.corr.prepAt = 1 := by omega
  have hreport := Corr.prepDone_reported hprep hrun
  rwa [hone, Corr.prepRange_one] at hreport

theorem Corr.prepDone_shed (h : s.budget.admitted < 1 ∧ s.rateOn = true) : Corr.prepDone s = s := by
  unfold Corr.prepDone
  simp only [hprep]
  exact if_pos h

end Done

theorem Corr.prepDone_idle {s : State} (h : s.corr.prep = none) : Corr.prepDone s = s := by
  unfold Corr.prepDone
  rw [h]

end Sys2Proof.Machine
end

section
/-!
PROOFS. The statement on the commands of the Warp and of CORR (R147 to R177).
-/
namespace Sys2Proof.Machine

/-! ### Results by the state before the command -/

/-- A direct write to the Warp that finds no post on its way. -/
theorem completes_warpDirectPost {s : State} {gain : Word} {P : State → Prop} (up : s.pageUp Warp.page = true)
    (hnone : s.warp.held = none) (h : P (Warp.enqueue s.begin (Warp.directPost s gain))) :
    Completes (.warpDirectPost gain false) s P := by
  refine completes_act (exec_warpDirectPost gain false s) (State.running_of_pageUp up) ?_
  rwa [Warp.directWrite_ready (s := s.begin) up hnone]

section Completion

variable {s : State} {v : Word} {P : State → Prop} (up : s.pageUp Corr.page = true)
include up

theorem completes_corrBankPost (h : P (Corr.post s.begin 0 v)) : Completes (.corrBankPost v) s P := by
  obtain ⟨hbank, -, -⟩ := Corr.poke_post (s := s.begin) up v
  exact completes_act (exec_corrBankPost v s) (State.running_of_pageUp up) (hbank ▸ h)

theorem completes_corrGainPost (h : P (Corr.post s.begin 1 v)) : Completes (.corrGainPost v) s P := by
  obtain ⟨-, hgain, -⟩ := Corr.poke_post (s := s.begin) up v
  exact completes_act (exec_corrGainPost v s) (State.running_of_pageUp up) (hgain ▸ h)

theorem completes_corrMutePost (h : P (Corr.post s.begin 2 v)) : Completes (.corrMutePost v) s P := by
  obtain ⟨-, -, hmute⟩ := Corr.poke_post (s := s.begin) up v
  exact completes_act (exec_corrMutePost v s) (State.running_of_pageUp up) (hmute ▸ h)

theorem completes_corrPreparation (h : P (Corr.prepWrite s.begin v)) : Completes (.corrPreparation v) s P :=
  completes_act (exec_corrPreparation v s) (State.running_of_pageUp up) (Corr.poke_prep (s := s.begin) up v ▸ h)

end Completion

/-- Settles O14: each row comes to its operation of the Warp or of CORR, in the branch that the clause's conditions name. That
a preparation also ends while no rate is in force, whatever tier is admitted, is the model's choice: R174 names the tier only. -/
theorem warpCorrCommandsAct : Obligations.WarpCorrCommandsAct := by
  unfold Obligations.WarpCorrCommandsAct
  intro s hrun
  refine ⟨?directPost, ?postAccept, ?warpFade, ?corrFade, ?corrRegisters, ?prepDone, ?prepWaits, ?late, ?transition⟩
  case directPost =>
    intro g p up hnone hp
    obtain rfl : p = Warp.directPost s g := hp
    refine ⟨fun hon => ?_, fun hoff hdirect hrow hcol => ?_, fun hoff hother => ?_, ?_⟩
    · exact completes_warpDirectPost up hnone (Warp.enqueue_queued (s := s.begin) hon _)
    · refine completes_warpDirectPost up hnone ?_
      rw [Warp.enqueue_atOnce (s := s.begin) hoff, Warp.applyPost_steps (s := s.begin) hoff hdirect hrow hcol]
      exact ⟨Warp.node_setNode_same _ _ _ _, fun i j hj hb hne => Warp.node_setNode_ne _ _ hj hb hne, rfl⟩
    · refine completes_warpDirectPost up hnone ?_
      rw [Warp.enqueue_atOnce (s := s.begin) hoff, Warp.applyPost_discards (s := s.begin) hother]
      obtain ⟨hcount, hcause⟩ := State.discarded_facts s.begin (a := Reg.warpDwDiscards) (p := Warp.page) (i := 1) (code := 0x80)
        (by decide) (by decide)
      refine ⟨?_, hcount, hcause⟩
      rw [State.faultCode_warp, State.irq_warp, State.count_warp]
      rfl
    · exact completes_act (exec_warpDirectPost g true s) hrun (Warp.directWrite_busy (s := s.begin) up hnone g)
  case postAccept =>
    exact fun p hheld hon => completes_act (exec_warpPostAccept s) hrun (Warp.accept_queued (s := s.begin) hheld hon)
  case warpFade =>
    intro hbusy hend
    refine completes_act (exec_warpFadeDone s) hrun ?_
    rw [Warp.fadeDone_ended (s := s.begin) hbusy hend]
    exact ⟨rfl, State.irq_facts _ _ (by decide)⟩
  case corrFade =>
    intro hbusy hend
    refine completes_act (exec_corrFadeDone s) hrun ?_
    rw [Corr.fadeDone_ended (s := s.begin) hbusy hend]
    exact ⟨rfl, State.irq_facts _ _ (by decide)⟩
  case corrRegisters =>
    intro up v
    refine ⟨?queued, ?steps, ?discarded, ?beyond, ?refused, ?starts, ?empty⟩
    case queued =>
      intro hon p hp
      have hposted (kind : Nat) : Corr.post s.begin kind v =
          { s.begin with corr := { s.corr with posts := s.corr.posts ++ [p kind] } } := by
        rw [hp kind]
        exact Corr.post_queued (s := s.begin) up v hon kind
      exact ⟨completes_corrBankPost up (hposted 0), completes_corrGainPost up (hposted 1), completes_corrMutePost up (hposted 2)⟩
    case steps =>
      intro hoff hj
      refine ⟨fun hgain => completes_corrGainPost up ?_, completes_corrMutePost up ?_⟩
      · exact (Corr.post_atOnce (s := s.begin) up v hoff 1).trans (Corr.gainEffect_steps (s := s.begin) hoff hj hgain _)
      · refine (Corr.post_atOnce (s := s.begin) up v hoff 2).trans ((Corr.muteEffect_steps (s := s.begin) hoff hj _ _).trans ?_)
        simp only [word_mod_two]
        rfl
    case discarded =>
      intro hoff hj
      refine completes_corrBankPost up ?_
      have hpost : Corr.post s.begin 0 v = Corr.discardPost (Corr.setOut s.begin _ (Corr.out s.begin (s.rdF Reg.corrOutSel 8 0))) :=
        (Corr.post_atOnce (s := s.begin) up v hoff 0).trans (Corr.bankEffect_discards (s := s.begin) hoff hj _ _)
      rw [hpost]
      exact ⟨fun k => (Corr.out_congr (Corr.discardPost_corr _) k).trans (Corr.out_setOut_self s.begin _ k),
        State.discarded_facts _ (by decide) (by decide)⟩
    case beyond =>
      exact fun h => completes_corrPreparation up (Corr.prepWrite_beyond (s := s.begin) up h)
    case refused =>
      exact fun hrange h => completes_corrPreparation up (Corr.prepWrite_refused (s := s.begin) up hrange h)
    case starts =>
      intro hrange hidle hbase hfree hcount
      refine completes_corrPreparation up ?_
      rw [Corr.prepWrite_accepted (s := s.begin) up hrange hidle hbase hfree, if_neg hcount]
      obtain ⟨hbusy, -⟩ := bit_setFld_lowest (setFld (s.rd Reg.corrPrepStatus) 15 8 0)
      refine ⟨rfl, ?_, fun a ha => State.rd_wr_ne _ _ ha⟩
      rw [State.rd_wr_same]
      exact hbusy
    case empty =>
      intro hfirst hidle hbase hcount
      refine completes_corrPreparation up ?_
      rw [Corr.prepWrite_accepted (s := s.begin) up (by omega) hidle hbase (fun j hlo hhi => by omega), if_pos hcount]
      obtain ⟨hstatus, hraised⟩ := State.wr_irq_facts s.begin (a := Reg.corrPrepStatus) (p := Corr.page) (i := 3)
        (setFld (s.rd Reg.corrPrepStatus) 15 8 0) (by decide) (by decide)
      refine ⟨rfl, ?_, hraised⟩
      exact (congrArg (fld · 15 8) hstatus).trans (fld_setFld _ 15 8 0 (by decide) (by decide))
  case prepDone =>
    intro b first count hprep hadmitted
    have hreport := Corr.prepDone_reported (s := s.begin) hprep hadmitted
    refine completes_act (exec_corrPrepDone s) hrun
      ⟨hreport.ended, hreport.raised, hreport.idle, fun j hj => ?_, fun hlast j o hj ho => ?_⟩
    · refine (hreport.out j).trans (Corr.prepRange_out_apart s.begin b _ _ fun hin => hj ?_)
      obtain ⟨hlo, hhi⟩ := hin
      exact ⟨hlo, by omega⟩
    · subst hj
      have hreport := Corr.prepDone_last (s := s.begin) hprep hadmitted hlast
      replace ho := ho.trans (hreport.out _)
      refine ⟨fun hgood => Corr.prepOne_good_out (s := s.begin) hgood ho, fun hbad => ?_⟩
      obtain ⟨hout, hcause, hfailed⟩ := Corr.prepOne_bad_facts (s := s.begin) hbad
      replace ho := ho.trans hout
      exact ⟨fun hb => ho.trans (if_pos hb), fun hb => ho.trans (if_neg hb), (congrArg (fld · 7 0) hreport.cause).trans hcause,
        hreport.failed.trans hfailed⟩
  case prepWaits =>
    intro h
    refine completes_act (exec_corrPrepDone s) hrun ?_
    cases hprep : s.corr.prep with
    | none => exact Corr.prepDone_idle (s := s.begin) hprep
    | some x => exact Corr.prepDone_shed (s := s.begin) hprep (h.resolve_left (by simp [hprep]))
  case late =>
    intro j p st l1 l2 blk hacts hblocks hothers hp hstart hcomplete hlate hdue
    refine completes_act (exec_partitionLate j p st s) hrun ?_
    rw [Coil.partitionLate_noAct (s := s.begin) hacts,
      Corr.partitionLate_marks (s := s.begin) hblocks hothers hp hstart hcomplete hlate hdue]
    obtain ⟨hout, hrest⟩ := Corr.lateNoted_facts s.begin j { Corr.out s j with blocks := l1 ++ { blk with late := true } :: l2 }
    exact ⟨congrArg CorrOut.blocks hout, hrest⟩
  case transition =>
    intro j x htrans hend
    refine completes_act (exec_transitionEnd j s) hrun ?_
    rw [Corr.transitionEnd_ends (s := s.begin) htrans hend]
    exact ⟨Corr.out_setOut_same _ j _, fun k hk => Corr.out_setOut_ne _ _ hk, State.irq_facts _ _ (by decide)⟩

end Sys2Proof.Machine
end

section
/-!
PROOFS. What the Coil's releases leave of its own state: activations, submissions, misses and ends (R192, R193, R201, R213).
-/
namespace Sys2Proof.Machine

/-! ### Nodes -/

@[simp] theorem Coil.node_setNode_same (s : State) (i : Nat) (x : NodeSt) : Coil.node (Coil.setNode s i x) i = x :=
  Tab.get_set_same _ _ _ _

theorem Coil.node_setNode_ne (s : State) {i j : Nat} (x : NodeSt) (h : j ≠ i) : Coil.node (Coil.setNode s i x) j = Coil.node s j :=
  Tab.get_set_ne _ _ _ h

theorem Coil.node_congr {s t : State} (h : t.coil.nodes = s.coil.nodes) (i : Nat) : Coil.node t i = Coil.node s i :=
  congrArg (Tab.get Coil.nodeDefault · i) h

/-! ### What a release can do to the Coil's own state -/

/-- From `s` to `t` the Coil has at most released nodes: no activation has begun to run, no end of a Direct node was forgotten, and the
submissions and the misses are as they were. -/
structure Coil.released (s t : State) : Prop where
  submits : t.coil.submits = s.coil.submits
  held : t.coil.heldSubmits = s.coil.heldSubmits
  missed : t.coil.path.missed = s.coil.path.missed
  ended : ∀ i, i ∈ s.coil.path.ended → i ∈ t.coil.path.ended
  runs : ∀ a, a ∈ t.coil.acts → a.state = 2 → a ∈ s.coil.acts

namespace Coil.released

theorem refl (s : State) : Coil.released s s := ⟨rfl, rfl, rfl, fun _ h => h, fun _ h _ => h⟩

theorem trans {s t u : State} (hst : Coil.released s t) (htu : Coil.released t u) : Coil.released s u where
  submits := htu.submits.trans hst.submits
  held := htu.held.trans hst.held
  missed := htu.missed.trans hst.missed
  ended i h := htu.ended i (hst.ended i h)
  runs a h h2 := hst.runs a (htu.runs a h h2) h2

theorem foldl {α : Type} {f : State → α → State} (h : ∀ s a, Coil.released s (f s a)) (l : List α) (s : State) :
    Coil.released s (l.foldl f s) :=
  List.foldlRecOn l f (motive := Coil.released s) (refl s) fun t ht a _ => ht.trans (h t a)

/-- A change outside the Coil's own state. -/
theorem of_coil {s t : State} (h : t.coil = s.coil) : Coil.released s t := by
  refine ⟨?_, ?_, ?_, ?_, ?_⟩ <;> rw [h]
  · exact fun _ h => h
  · exact fun _ h _ => h

theorem setNode (s : State) (i : Nat) (x : NodeSt) : Coil.released s (Coil.setNode s i x) :=
  ⟨rfl, rfl, rfl, fun _ h => h, fun _ h _ => h⟩

theorem bump (s : State) (i : Nat) (d : Int) : Coil.released s (Coil.bump s i d) := by
  unfold Coil.bump
  simp only []
  split
  · exact (setNode s i _).trans (of_coil (State.faultD_coil _ _ _ _))
  · exact setNode s i _

theorem armNode (s : State) (i : Nat) : Coil.released s (Coil.armNode s i) := by
  unfold Coil.armNode
  simp only []
  split
  · exact (setNode s i _).trans (setNode _ i _)
  · exact (bump s i _).trans (setNode _ i _)

end Coil.released

/-- A release adds one activation, which is ready or held for space, and touches nothing else of the Coil. -/
theorem Coil.addAct_coil (s : State) (i cause key : Nat) (d : Option Nat) : ∃ a : Act,
    (Coil.addAct s i cause key d).coil = { s.coil with acts := s.coil.acts ++ [a] } ∧ a.node = i ∧ a.release = s.clk.frame ∧
    a.cls = Coil.cls s i ∧ (a.state = 0 ↔ 512 ≤ Coil.fill s (Coil.cls s i)) ∧ a.state ≠ 2 := by
  unfold Coil.addAct
  by_cases h : 512 ≤ Coil.fill s (Coil.cls s i)
  · simp only [h, decide_true, if_true, State.count_coil]
    exact ⟨_, rfl, rfl, rfl, rfl, by simp, by simp⟩
  · simp only [h, decide_false, Bool.false_eq_true, if_false]
    exact ⟨_, rfl, rfl, rfl, rfl, by simp, by simp⟩

namespace Coil.released

theorem addAct (s : State) (i cause key : Nat) (d : Option Nat) : Coil.released s (Coil.addAct s i cause key d) := by
  obtain ⟨a, hcoil, -, -, -, -, hwaits⟩ := Coil.addAct_coil s i cause key d
  refine ⟨?_, ?_, ?_, ?_, ?_⟩ <;> rw [hcoil]
  · exact fun _ h => h
  · intro b hb hruns
    rcases List.mem_append.mp hb with h | h
    · exact h
    · exact absurd (List.mem_singleton.mp h ▸ hruns) hwaits

theorem rearm (s : State) (i : Nat) : Coil.released s (Coil.rearm s i) := by
  unfold Coil.rearm
  simp only []
  split
  · exact armNode s i
  · exact refl s

theorem doRelease (s : State) (i cause key : Nat) : Coil.released s (Coil.doRelease s i cause key).1 := by
  unfold Coil.doRelease
  simp only []
  split
  · exact (setNode s i _).trans (setNode _ i _)
  · split
    · exact (setNode s i _).trans (setNode _ i _)
    · exact ((setNode s i _).trans (addAct _ i cause key _)).trans (setNode _ i _)

theorem tryRelease (s : State) (i cause key : Nat) : Coil.released s (Coil.tryRelease s i cause key).1 := by
  unfold Coil.tryRelease
  simp only []
  split
  · exact refl s
  · split
    · split
      · exact setNode s i _
      · exact doRelease s i cause key
    · exact doRelease s i cause key

/-- A Direct node has ended in its frame. -/
theorem ends (s : State) (i : Nat) : Coil.released s
    { s with coil := { s.coil with path := { s.coil.path with ended := s.coil.path.ended ++ [i] } } } :=
  ⟨rfl, rfl, rfl, fun _ h => List.mem_append_left _ h, fun _ h _ => h⟩

theorem endAtOnce (s : State) (i : Nat) : Coil.released s (Coil.endAtOnce s i) := by
  unfold Coil.endAtOnce
  by_cases hc : Coil.cls s i = 1
  · simp only [if_pos hc]
    split
    · exact ((ends s i).trans (rearm _ i)).trans (setNode _ i _)
    · exact (ends s i).trans (rearm _ i)
  · simp only [if_neg hc]
    split
    · exact (rearm s i).trans (setNode _ i _)
    · exact rearm s i

theorem settle (f : Nat) (s : State) (cause key : Nat) (l : List (Nat × Option Bool)) :
    Coil.released s (Coil.settle f s cause key l) := by
  induction f generalizing s l with
  | zero => exact refl s
  | succ f ih =>
    cases l with
    | nil => exact refl s
    | cons e rest =>
      obtain ⟨j, sig⟩ := e
      have hbump : Coil.released s (if sig.isSome then Coil.bump s j (-1) else s) := by
        split
        · exact bump s j _
        · exact refl s
      unfold Coil.settle
      simp only []
      generalize (if sig.isSome then Coil.bump s j (-1) else s) = s1 at hbump ⊢
      have hlate : Coil.released s (if sig = some true then Coil.setNode s1 j { Coil.node s1 j with lateIn := true } else s1) := by
        split
        · exact hbump.trans (setNode s1 j _)
        · exact hbump
      generalize (if sig = some true then Coil.setNode s1 j { Coil.node s1 j with lateIn := true } else s1) = s2 at hlate ⊢
      have htry := hlate.trans (tryRelease s2 j cause key)
      cases (Coil.tryRelease s2 j cause key).2 with
      | none => exact htry.trans (ih _ rest)
      | some b => exact (htry.trans (endAtOnce _ j)).trans (ih _ _)

theorem arm (s : State) (i cause key : Nat) : Coil.released s (Coil.arm s i cause key) :=
  (armNode s i).trans (settle _ _ _ _ _)

theorem finish (s : State) (i : Nat) (late : Bool) (cause key : Nat) : Coil.released s (Coil.finish s i late cause key) :=
  (((setNode s i _).trans (settle _ _ _ _ _)).trans (rearm _ i)).trans (settle _ _ _ _ _)

theorem event (s : State) : Coil.released s (Coil.event s) := ⟨rfl, rfl, rfl, fun _ h => h, fun _ h _ => h⟩

theorem resumed (s : State) (k : Nat) : Coil.released s (Coil.resumed s k) := by
  unfold Coil.resumed
  split
  · exact ⟨rfl, rfl, rfl, fun _ h => h, fun _ h _ => h⟩
  · exact refl s

theorem missStep (s : State) : Coil.released s s.missStep := by
  unfold State.missStep
  split
  · exact refl s
  · exact of_coil rfl

theorem writeChannel (s : State) (i ch : Nat) (v : Int) : Coil.released s (Coil.writeChannel s i ch v) :=
  ⟨rfl, rfl, rfl, fun _ h => h, fun _ h _ => h⟩

end Coil.released

theorem Coil.creditRise_coil (s : State) : ∃ b, (Coil.creditRise s).coil = { s.coil with noCredit := b } := by
  unfold Coil.creditRise
  split
  · exact ⟨_, rfl⟩
  · split <;> exact ⟨_, rfl⟩

theorem Coil.released.creditRise (s : State) : Coil.released s (Coil.creditRise s) := by
  obtain ⟨b, h⟩ := Coil.creditRise_coil s
  refine ⟨?_, ?_, ?_, ?_, ?_⟩ <;> rw [h]
  · exact fun _ h => h
  · exact fun _ h _ => h

end Sys2Proof.Machine
end

section
/-!
PROOFS. The Coil's releases, dispatches and affinity waits, each in the branch that the state names (R192 to R201).
-/
namespace Sys2Proof.Machine

/-! ### Releases of one node (R192, R193, R196, R202) -/

theorem Coil.settle_nil (f : Nat) (s : State) (cause key : Nat) : Coil.settle f s cause key [] = s := by
  cases f <;> rfl

/-- A node whose release completes nothing at once is all that the event works off. -/
theorem Coil.release_single {s t : State} {i cause key : Nat} (h : Coil.tryRelease s i cause key = (t, none)) :
    Coil.release s i cause key = t := by
  show Coil.settle (131071 + 1) s cause key [(i, none)] = t
  simp [Coil.settle, h]

theorem Coil.release_unarmed {s : State} {i : Nat} (h : (Coil.node s i).armed = false) (cause key : Nat) :
    Coil.release s i cause key = s :=
  Coil.release_single (by simp [Coil.tryRelease, h])

/-- An armed node whose counter and interval allow it is released. -/
theorem Coil.tryRelease_ready {s : State} {i : Nat} (hactive : (Coil.node s i).active = true) (harmed : (Coil.node s i).armed = true)
    (hcounter : (Coil.node s i).counter ≤ 0)
    (hgap : ∀ r, (Coil.node s i).prevRelease = some r → Coil.period s i = 0 → r + Coil.phase s i ≤ s.clk.frame) (cause key : Nat) :
    Coil.tryRelease s i cause key = Coil.doRelease s i cause key := by
  unfold Coil.tryRelease
  simp only []
  rw [if_neg (by simp [hactive, harmed, hcounter])]
  cases hprev : (Coil.node s i).prevRelease with
  | none => rfl
  | some r =>
    refine if_neg ?_
    rintro ⟨hperiod, hsoon⟩
    exact absurd (hgap r hprev hperiod) (by omega)

/-- The release of a node that is neither skipped nor without cost: the node is at rest until it is armed again, and an activation
joins. -/
theorem Coil.doRelease_joins {s : State} {i : Nat} (hskip : Coil.skips s i s.clk.frame = false) (hcost : Coil.cost s i ≠ 0)
    (cause key : Nat) : ∃ t, Coil.doRelease s i cause key = (t, none) ∧ (Coil.node t i).deferred = none ∧
      (Coil.node t i).armed = false ∧ (Coil.node t i).prevRelease = some s.clk.frame ∧ (∀ j, j ≠ i → Coil.node t j = Coil.node s j) ∧
      ∃ a : Act, t.coil.acts = s.coil.acts ++ [a] ∧ a.node = i ∧ a.release = s.clk.frame ∧ a.cls = Coil.cls s i ∧
        (a.state = 0 ↔ 512 ≤ Coil.fill s (Coil.cls s i)) := by
  unfold Coil.doRelease
  simp only [hskip, Bool.false_eq_true, if_false, if_neg hcost]
  generalize (if Coil.cls s i = 1 ∨ Coil.deadlineF s i = 0 then none else some (s.clk.frame + Coil.deadlineF s i)) = due
  generalize hx : ({ Coil.node s i with armed := false, deferred := none, prevRelease := some s.clk.frame, skipped := false } : NodeSt) = x
  obtain ⟨a, hcoil, hnode, hrelease, hcls, hheld, -⟩ := Coil.addAct_coil (Coil.setNode s i x) i cause key due
  have hat : ∀ j, Coil.node (Coil.addAct (Coil.setNode s i x) i cause key due) j = Coil.node (Coil.setNode s i x) j :=
    Coil.node_congr (by rw [hcoil])
  refine ⟨_, rfl, ?_, ?_, ?_, fun j hj => ?_, a, congrArg CoilSt.acts hcoil, hnode, hrelease, hcls, hheld⟩
  · rw [Coil.node_setNode_same, hat, Coil.node_setNode_same, ← hx]
  · rw [Coil.node_setNode_same, hat, Coil.node_setNode_same, ← hx]
  · rw [Coil.node_setNode_same, hat, Coil.node_setNode_same, ← hx]
  · rw [Coil.node_setNode_ne _ _ hj, hat, Coil.node_setNode_ne _ _ hj]

/-- The deferred release of a node whose frame has come. -/
theorem Coil.deferredRelease_due {s : State} {i f : Nat} (hdeferred : (Coil.node s i).deferred = some f) (hdue : f ≤ s.clk.frame)
    (hphase : s.clk.phase ≠ 0) (hactive : (Coil.node s i).active = true) : Coil.deferredRelease s i =
      Coil.release (Coil.setNode (Coil.event s) i { Coil.node s i with armed := true, deferred := none }) i 1 f := by
  unfold Coil.deferredRelease
  simp only [hdeferred]
  exact if_neg (by simp [hactive, hphase]; omega)

/-- What the deferred release of a node leads to where nothing holds it back. -/
theorem Coil.deferredRelease_joins {s : State} {i f : Nat} (hdeferred : (Coil.node s i).deferred = some f) (hdue : f ≤ s.clk.frame)
    (hphase : s.clk.phase ≠ 0) (hactive : (Coil.node s i).active = true) (hcounter : (Coil.node s i).counter ≤ 0)
    (hgap : ∀ r, (Coil.node s i).prevRelease = some r → Coil.period s i = 0 → r + Coil.phase s i ≤ s.clk.frame)
    (hskip : Coil.skips s i s.clk.frame = false) (hcost : Coil.cost s i ≠ 0) {t : State} (ht : t = Coil.deferredRelease s i) :
    State.coilOnly s t ∧ (Coil.node t i).deferred = none ∧ (Coil.node t i).armed = false ∧
    (Coil.node t i).prevRelease = some s.clk.frame ∧ (∀ j, j ≠ i → Coil.node t j = Coil.node s j) ∧
    ∃ a : Act, t.coil.acts = s.coil.acts ++ [a] ∧ a.node = i ∧ a.release = s.clk.frame ∧ a.cls = Coil.cls s i ∧
      (a.state = 0 ↔ 512 ≤ Coil.fill s (Coil.cls s i)) := by
  rw [Coil.deferredRelease_due hdeferred hdue hphase hactive] at ht
  generalize hx : ({ Coil.node s i with armed := true, deferred := none } : NodeSt) = x at ht
  generalize hu : Coil.setNode (Coil.event s) i x = u at ht
  have hnode : Coil.node u i = x := by rw [← hu, Coil.node_setNode_same]
  have hskip' : Coil.skips u i u.clk.frame = false := by
    rw [← hskip]
    unfold Coil.skips Coil.closed
    rw [hnode, ← hx, ← hu]
    rfl
  obtain ⟨v, hrelease, hfreed, hrest, hprev, hothers, a, hacts, ha⟩ :=
    Coil.doRelease_joins (s := u) (i := i) hskip' (by rw [← hu]; exact hcost) 1 f
  have hready := Coil.tryRelease_ready (s := u) (i := i) (by rw [hnode, ← hx]; exact hactive) (by rw [hnode, ← hx])
    (by rw [hnode, ← hx]; exact hcounter) (by rw [hnode, ← hx, ← hu]; exact hgap) 1 f
  obtain rfl : t = v := ht.trans (Coil.release_single (hready.trans hrelease))
  subst hu
  refine ⟨?_, hfreed, hrest, hprev, fun j hj => (hothers j hj).trans (Coil.node_setNode_ne _ _ hj), a, hacts, ha⟩
  exact ht ▸ State.coilOnly_trans (Coil.setNode_only (Coil.event s) i x) (Coil.release_only _ i 1 f)

/-! ### Dispatch (R197 to R201) -/

/-- A Direct node starts in its home core's shadow bank; it keeps what has run there in mind. -/
theorem Coil.place_direct {s : State} {a : Act} (k : Nat) (hcls : a.cls = 1) {w : Bool}
    (hw : w = ((Coil.node s a.node).lastCore == some k && (Coil.node s a.node).stamp == Tab.get (fun _ => 0) s.coil.coreRuns k)) :
    Coil.place s a k = (Coil.setNode (Coil.setAct s a { a with state := 2, core := k, warm := w, wait := none }) a.node
      { Coil.node s a.node with lastCore := some k, stamp := Tab.get (fun _ => 0) s.coil.coreRuns k },
      some { a with state := 2, core := k, warm := w, wait := none }) := by
  subst hw
  unfold Coil.place
  simp only [hcls, if_true]

/-- Entry of a Direct node touches bank 1 of its core alone. -/
theorem Osier.enter_direct {s : State} {a : Act} (hcls : a.cls = 1) :
    Osier.enter s a = Osier.setCore s a.core { Osier.core s a.core with b1 := Osier.entryBank s a } := if_pos hcls

/-- Entry of a Block or Service node touches bank 0 of its core, and the free values that a cold one begins with. -/
theorem Osier.enter_background {s : State} {a : Act} (hcls : a.cls ≠ 1) : ∃ c n, Osier.enter s a =
    Osier.setCore { s with freeCtr := n } a.core c ∧ c.b0 = Osier.entryBank s a ∧ c.b1 = (Osier.core s a.core).b1 := by
  unfold Osier.enter
  simp only [if_neg hcls]
  split
  · exact ⟨_, s.freeCtr, rfl, rfl, rfl⟩
  · exact ⟨_, s.freeCtr + 1, rfl, rfl, rfl⟩

/-- A Block or Service node starts on core `k`: its bank 0 takes the node's entry registers, and nothing else of the cores changes. -/
theorem Osier.dispatch_background {s : State} {a : Act} (k : Nat) (hcls : a.cls ≠ 1) {t : State}
    (ht : t = Osier.dispatch (Coil.place s a k)) :
    (Osier.core t k).b0.node = some a.node ∧ (Osier.core t k).b0.pc = Coil.entry s a.node ∧ (Osier.core t k).b1 = (Osier.core s k).b1 ∧
    (Coil.node t a.node).lastCore = some k ∧ (∀ j, j ≠ k → Osier.core t j = Osier.core s j) ∧ t.regs = s.regs ∧ t.mem = s.mem := by
  unfold Coil.place at ht
  simp only [if_neg hcls] at ht
  generalize hb : ({ a with state := 2, core := k, warm := _, wait := none } : Act) = b at ht
  generalize hu : ({ Coil.setNode (Coil.setAct s a b) a.node _ with coil := _ } : State) = u at ht
  have hcore : b.core = k := by rw [← hb]
  have hnode : b.node = a.node := by rw [← hb]
  obtain ⟨c, n, henter, hb0, hb1⟩ := Osier.enter_background (s := u) (a := b) (by rw [← hb]; exact hcls)
  obtain rfl : t = Osier.setCore { u with freeCtr := n } b.core c := ht.trans henter
  subst hu
  rw [hcore, Osier.core_setCore, hb0, hb1, hcore]
  refine ⟨congrArg some hnode, congrArg (Coil.entry s) hnode, rfl, ?_, fun j hj => Osier.core_setCore_ne _ c hj, rfl, rfl⟩
  exact congrArg NodeSt.lastCore (Coil.node_setNode_same (Coil.setAct s a b) a.node _)

/-- A Direct node starts on its home core: its entry registers stand in bank 1 there, and nothing else of the cores changes. -/
theorem Osier.dispatch_direct {s : State} {a b : Act} {k : Nat} {w : Bool} (hcls : a.cls = 1)
    (hw : w = ((Coil.node s a.node).lastCore == some k && (Coil.node s a.node).stamp == Tab.get (fun _ => 0) s.coil.coreRuns k))
    (hb : b = { a with state := 2, core := k, warm := w, wait := none }) {t : State} (ht : t = Osier.dispatch (Coil.place s a k)) :
    (Osier.core t k).b1 = Osier.entryBank t b ∧ (Coil.node t a.node).lastCore = some k ∧
    (Osier.core t k).b0 = (Osier.core s k).b0 ∧ (∀ j, j ≠ k → Osier.core t j = Osier.core s j) ∧ t.regs = s.regs ∧ t.mem = s.mem := by
  rw [Coil.place_direct k hcls hw, ← hb] at ht
  generalize hx : ({ Coil.node s a.node with lastCore := some k, stamp := Tab.get (fun _ => 0) s.coil.coreRuns k } : NodeSt) = x at ht
  have hcore : b.core = k := by rw [hb]
  have henter := Osier.enter_direct (s := Coil.setNode (Coil.setAct s a b) a.node x) (a := b) (by rw [hb]; exact hcls)
  rw [hcore] at henter
  obtain rfl := ht.trans henter
  rw [Osier.core_setCore]
  refine ⟨rfl, ?_, rfl, fun j hj => Osier.core_setCore_ne _ _ hj, rfl, rfl⟩
  refine (congrArg NodeSt.lastCore (Coil.node_setNode_same (Coil.setAct s a b) a.node x)).trans ?_
  rw [← hx]

theorem Coil.startWaits_off {s : State} (h : s.clk.phase ≠ 1) : Coil.startWaits s = s := if_pos h

theorem Coil.startWaits_coil (s : State) : ∃ c, Coil.startWaits s = { s with coil := c } := by
  unfold Coil.startWaits
  split <;> exact ⟨_, rfl⟩

/-- A Direct node that may start is the next dispatch. -/
theorem Coil.dispatch_direct {s : State} {a : Act} (hphase : s.clk.phase = 0) (h : Coil.directReady s = some a) :
    Coil.dispatch s = Coil.place s a (Coil.home s a.node) := by
  unfold Coil.dispatch
  rw [Coil.startWaits_off (by omega)]
  simp only [h]

/-- In the background phase, with no Direct node to start, the next dispatch is the Block node that R199 picks. -/
theorem Coil.dispatch_block {s : State} {a : Act} {k : Nat} (hphase : s.clk.phase = 1)
    (hdirect : Coil.directReady (Coil.startWaits s) = none)
    (hpick : Coil.pick (Coil.startWaits s) [] (Coil.ready (Coil.startWaits s) 2) = some (a, k)) :
    Coil.dispatch s = Coil.place (Coil.startWaits s) a k := by
  have hon : (Coil.startWaits s).clk.phase = 1 := by
    unfold Coil.startWaits
    rw [if_neg (by simp [hphase])]
    exact hphase
  unfold Coil.dispatch
  simp only [hdirect, hpick, hon]
  simp

/-! ### Affinity waits (R199) -/

/-- The activation of node `i` whose wait runs out: it is ready, its wait has begun and is not over, and the node is not pinned. -/
def Coil.waitOf (s : State) (i : Nat) : Option Act :=
  s.coil.acts.find? (fun a => a.node = i && a.state = 1 && !a.expired && a.wait.isSome && !Coil.pinned s i)

theorem Coil.waitOf_node {s : State} {i : Nat} {a : Act} (h : Coil.waitOf s i = some a) : a.node = i := by
  have hfound := List.find?_some h
  simp only [Bool.and_eq_true, decide_eq_true_eq] at hfound
  obtain ⟨⟨⟨⟨hnode, -⟩, -⟩, -⟩, -⟩ := hfound
  exact hnode

theorem Coil.waitOf_none {s : State} {i : Nat} (h : ∀ a, a ∈ s.coil.acts → a.node = i → a.state = 1 → a.expired = true ∨ a.wait = none ∨
    Coil.pinned s i = true) : Coil.waitOf s i = none := by
  refine List.find?_eq_none.mpr fun a ha hfound => ?_
  simp only [Bool.and_eq_true, decide_eq_true_eq, Bool.not_eq_true'] at hfound
  obtain ⟨⟨⟨⟨hnode, hready⟩, hlive⟩, hwait⟩, hfree⟩ := hfound
  rcases h a ha hnode hready with hover | hnone | hpinned
  · exact Bool.false_ne_true (hlive.symm.trans hover)
  · rw [hnone] at hwait
    exact Bool.false_ne_true hwait
  · exact Bool.false_ne_true (hfree.symm.trans hpinned)

theorem Coil.waitExpiry_idle {s : State} {i : Nat} (h : Coil.waitOf s i = none) : Coil.waitExpiry s i = (s, none) := by
  unfold Coil.waitOf at h
  unfold Coil.waitExpiry
  rw [h]

section Wait

variable {s u : State} {i c at' : Nat} {a b : Act} (hfind : Coil.waitOf s i = some a) (hwait : a.wait = some (c, at'))
  (hb : b = { a with expired := true }) (hu : u = Coil.setAct (s.toMono at') a b)
include hfind hwait hb hu

/-- Outside the background phase the node stays ready, with its wait over. -/
theorem Coil.waitExpiry_stays (hphase : s.clk.phase ≠ 1) : Coil.waitExpiry s i = (u, none) := by
  subst hb hu
  unfold Coil.waitOf at hfind
  unfold Coil.waitExpiry
  rw [hfind]
  simp only [hwait]
  exact if_pos hphase

/-- In the background phase the node goes to the core that R199 chooses, if there is one. -/
theorem Coil.waitExpiry_chooses (hphase : s.clk.phase = 1) {r : Option Nat}
    (hr : r = Coil.choose u ((Coil.ready u 2 ++ Coil.ready u 3).takeWhile (fun x => x != b)) b) :
    Coil.waitExpiry s i = r.elim (u, none) (Coil.place u b) := by
  subst hb hu
  unfold Coil.waitOf at hfind
  unfold Coil.waitExpiry
  have hdue : (a.wait.map (·.2)).getD 0 = at' := by rw [hwait]; rfl
  rw [hfind]
  simp only [hdue]
  rw [if_neg (fun h => h hphase), ← hr]
  cases r <;> rfl

end Wait

end Sys2Proof.Machine
end

section
/-!
PROOFS. Completions, held releases, submissions, node posts, lateness and misses of the Coil, each in the branch that the state names
(R201 to R217).
-/
namespace Sys2Proof.Machine

/-! ### Completions (R201, R213) -/

theorem State.coilOnly_corr {s t : State} (h : State.coilOnly s t) : t.corr = s.corr := by rw [h]

theorem Coil.writeChannel_only (s : State) (i ch : Nat) (v : Int) : State.coilOnly s (Coil.writeChannel s i ch v) := rfl

theorem Coil.succs_none {s : State} {i : Nat} (h : Coil.edgeCount s i = 0) : Coil.succs s i = [] := by
  unfold Coil.succs
  rw [h]
  exact ite_self _

/-- The completion of a node that is periodic, has no edges and is not armed marks its lateness alone. -/
theorem Coil.finish_plain {s : State} {i : Nat} (hedges : Coil.edgeCount s i = 0) (hperiod : Coil.period s i ≠ 0)
    (harmed : (Coil.node s i).armed = false) (late : Bool) (cause key : Nat) :
    Coil.finish s i late cause key = Coil.setNode s i { Coil.node s i with lastLate := late } := by
  generalize hu : Coil.setNode s i { Coil.node s i with lastLate := late } = u
  have hsignals : Coil.signals u i late = [] := by
    subst hu
    exact congrArg (List.map _) (Coil.succs_none hedges)
  have hrearm : Coil.rearm u i = u := by
    subst hu
    exact if_neg fun h => hperiod h.2.1
  unfold Coil.finish
  simp only [hu, hsignals, Coil.settle_nil, hrearm]
  refine Coil.release_unarmed ?_ cause key
  rw [← hu, Coil.node_setNode_same]
  exact harmed

theorem Coil.complete_idle {s : State} {i : Nat} (h : Coil.running s i = none) (w : List (Nat × Int)) : Coil.complete s i w = s := by
  unfold Coil.complete
  rw [h]

section Running

variable {s : State} {i : Nat} {a : Act} (hrun : Coil.running s i = some a) (w : List (Nat × Int))
include hrun

/-- A Direct node that completes has ended in its frame, and misses none. -/
theorem Coil.complete_direct (hcls : a.cls = 1) {t : State} (ht : t = Coil.complete s i w) :
    State.coilOnly s t ∧ i ∈ t.coil.path.ended ∧ t.coil.path.missed = s.coil.path.missed := by
  unfold Coil.complete at ht
  simp only [hrun, if_pos hcls] at ht
  generalize hv : ((w.filter (fun w => !a.posted && Coil.inIo s i w.1)).foldl (fun s w => Coil.writeChannel s i w.1 w.2)
    (Coil.resumed (Coil.event (Coil.dropAct s a)) a.core)) = v at ht
  have honly : State.coilOnly s v := by
    rw [← hv]
    refine State.coilOnly_trans (State.coilOnly_trans ?_ (Coil.resumed_only _ _))
      (State.coilOnly_foldl _ (fun t (x : Nat × Int) => Coil.writeChannel_only t i x.1 x.2) _ _)
    exact State.coilOnly_trans (Coil.dropAct_only s a) (Coil.event_only _)
  have hmissed : v.coil.path.missed = s.coil.path.missed := by
    rw [← hv]
    exact ((Coil.released.resumed _ _).trans
      (.foldl (fun t (x : Nat × Int) => .writeChannel t i x.1 x.2) _ _)).missed
  generalize hz : ({ v with coil := { v.coil with path := { v.coil.path with ended := v.coil.path.ended ++ [i] } } } : State) = z at ht
  have hfinish := Coil.released.finish z i a.late 0 a.core
  refine ⟨?_, ?_, ?_⟩
  · rw [ht]
    refine State.coilOnly_trans honly (State.coilOnly_trans ?_ (Coil.finish_only z i a.late 0 a.core))
    rw [← hz]
    exact State.coilOnly_coil v _
  · rw [ht]
    refine hfinish.ended i ?_
    rw [← hz]
    exact List.mem_append_right _ (List.mem_singleton_self i)
  · rw [ht, hfinish.missed, ← hmissed, ← hz]

/-- A Block or Service node of software completes without more ado. -/
theorem Coil.complete_software (hcls : a.cls ≠ 1) (hcorr : Coil.isCorr i = false) :
    Coil.complete s i w = Coil.finish (Coil.event (Coil.dropAct s a)) i a.late 0 a.core := by
  unfold Coil.complete
  simp only [hrun, if_neg hcls, hcorr, Bool.false_eq_true, if_false]

/-- A node of CORR delivers its block. -/
theorem Coil.complete_corr (hcls : a.cls ≠ 1) (hcorr : Coil.isCorr i = true) : (Coil.complete s i w).corr =
    (Corr.complete (Coil.event (Coil.dropAct s a)) ((i - 7680) / 17) (Coil.corrPart i) a.release).corr := by
  unfold Coil.complete
  simp only [hrun, if_neg hcls, hcorr, if_true]
  exact State.coilOnly_corr (Coil.finish_only _ i a.late 0 a.core)

end Running

/-- The end of an activation of a node that is periodic, has no edges and is not armed: it leaves, and the node shows its lateness. -/
theorem Coil.ended_plain {s : State} {i : Nat} (hedges : Coil.edgeCount s i = 0) (hperiod : Coil.period s i ≠ 0)
    (harmed : (Coil.node s i).armed = false) (a : Act) (late : Bool) (cause key : Nat) {t : State}
    (ht : t = Coil.finish (Coil.event (Coil.dropAct s a)) i late cause key) :
    State.coilOnly s t ∧ t.coil.acts = s.coil.acts.erase a ∧ Coil.node t i = { Coil.node s i with lastLate := late } ∧
    (∀ j, j ≠ i → Coil.node t j = Coil.node s j) ∧ t.regs = s.regs ∧ (∀ x, t.rd x = s.rd x) := by
  rw [Coil.finish_plain (s := Coil.event (Coil.dropAct s a)) hedges hperiod harmed] at ht
  subst ht
  exact ⟨rfl, rfl, Coil.node_setNode_same _ i _, fun j hj => Coil.node_setNode_ne (Coil.event (Coil.dropAct s a)) _ hj, rfl,
    fun _ => rfl⟩

/-! ### Held releases (R202) -/

/-- The one release that is held enters its list where there is room. -/
theorem Coil.heldEnter_one {s : State} {a : Act} (hheld : s.coil.acts.filter (fun a => a.state = 0) = [a])
    (hroom : Coil.fill s a.cls < 512) : Coil.heldEnter s = Coil.setAct s a { a with state := 1 } := by
  unfold Coil.heldEnter
  rw [hheld, List.mergeSort_singleton]
  exact if_pos hroom

/-! ### Submissions (R203) -/

theorem Coil.poke_submit {s : State} (up : s.pageUp Coil.page = true) {i : Nat} (hi : i < 16384) :
    Reg.poke s Reg.coilSubmit (w32 (i % 16384)) = Coil.submit s 0 i := by
  have hnode : fld (w32 (i % 16384)) 13 0 = i := by
    unfold fld w32
    rw [BitVec.toNat_ofNat]
    simp
    omega
  have hwrite := Page.write_acts (p := Coil.page) up 0 0x68 (w32 (i % 16384)) (by decide) (by decide) (by decide) rfl
  rw [hnode] at hwrite
  exact hwrite

theorem Coil.flush_foreign {s : State} {ini : Nat} (h : ∀ e, e ∈ s.coil.heldSubmits → e.1 ≠ ini) : Coil.flush s ini = s := by
  have hnone : s.coil.heldSubmits.any (fun e => e.1 == ini) = false := by
    simpa using h
  unfold Coil.flush
  exact List.foldlRecOn (motive := fun t => t = s) _ _ rfl (fun t ht _ _ => by subst ht; rw [hnone]; rfl)

/-- With no credit, or behind a submission that is held, a submission is held. -/
theorem Coil.submit_held {s : State} {ini : Nat} (hforeign : ∀ e, e ∈ s.coil.heldSubmits → e.1 ≠ ini)
    (hfull : s.coil.heldSubmits ≠ [] ∨ Coil.credit s = 0) (i : Nat) : Coil.submit s ini i =
      { s with coil := { s.coil with heldSubmits := s.coil.heldSubmits ++ [(ini, i)] } } := by
  unfold Coil.submit
  simp only [Coil.flush_foreign hforeign]
  exact if_pos hfull

theorem Coil.submit_now {s : State} (hnone : s.coil.heldSubmits = []) (hcredit : Coil.credit s ≠ 0) (ini i : Nat) :
    Coil.submit s ini i = Coil.creditRise (Coil.submitNow s i) := by
  unfold Coil.submit
  simp only [Coil.flush_foreign (s := s) (ini := ini) (by simp [hnone])]
  exact if_neg (by simp [hnone, hcredit])

/-- A submission of a node that is no active triggered Service node of software is discarded with a code. -/
theorem Coil.submitNow_discards {s : State} {i : Nat} (h : (Coil.node s i).active = false ∨ Coil.cls s i ≠ 3 ∨ Coil.period s i ≠ 0 ∨
    Coil.isDevice i = true) : Coil.submitNow s i = s.faultD Coil.page 0x85 i := by
  refine if_neg ?_
  rintro ⟨hactive, hcls, hperiod, -, hsoft⟩
  rcases h with h | h | h | h
  · exact Bool.false_ne_true (h.symm.trans hactive)
  · exact h hcls
  · exact h hperiod
  · simp [h] at hsoft

/-- A submission of an active triggered Service node enters the queue. -/
theorem Coil.submitNow_queues {s : State} {i : Nat} (hactive : (Coil.node s i).active = true) (hcls : Coil.cls s i = 3)
    (hperiod : Coil.period s i = 0) (hstays : (Coil.node s i).stopping = false) (hsoft : Coil.isDevice i = false)
    (hgate : Coil.gateOpen s i = true) : (s.clk.mono + 100 * nsU, i) ∈ (Coil.submitNow s i).coil.submits := by
  unfold Coil.submitNow
  simp only []
  rw [if_pos (by simp [hactive, hcls, hperiod, hstays, hsoft]), if_pos hgate, (Coil.released.arm _ i 3 _).submits]
  exact List.mem_append_right _ (List.mem_singleton_self _)

/-- A submission leaves those that the Weave holds. -/
theorem Coil.submitNow_held (s : State) (i : Nat) : (Coil.submitNow s i).coil.heldSubmits = s.coil.heldSubmits := by
  unfold Coil.submitNow
  simp only []
  split
  · split
    · exact (Coil.released.arm _ i 3 _).held
    · rfl
  · rw [State.faultD_coil]

/-- The state from which a held submission is accepted: with no credit, once the oldest entry leaves. -/
theorem Coil.submitRelease_accepts {s u : State} {e : Nat × Nat} {l : List (Nat × Nat)}
    (hu : u = if Coil.credit s = 0 then Coil.creditRise (s.toMono (((s.coil.submits.map (·.1)).min?).getD 0)) else s)
    (hheld : u.coil.heldSubmits = e :: l) (hcredit : Coil.credit u ≠ 0) : Coil.submitRelease s =
      Coil.creditRise (Coil.submitNow { u with coil := { u.coil with heldSubmits := l } } e.2) := by
  unfold Coil.submitRelease
  simp only [← hu, hheld]
  exact if_neg hcredit

/-! ### Posts (R217) -/

theorem Coil.poke_nodeCtrl {s : State} (up : s.pageUp Coil.page = true) :
    Reg.poke s Reg.coilNodeCtrl 1 = Coil.post s 1 ∧ Reg.poke s Reg.coilNodeCtrl 2 = Coil.post s 2 :=
  ⟨Page.write_acts (p := Coil.page) up 0 0x64 1 (by decide) (by decide) (by decide) rfl,
    Page.write_acts (p := Coil.page) up 0 0x64 2 (by decide) (by decide) (by decide) rfl⟩

section Post

variable {s : State} {op : Nat} (hop : op = 1 ∨ op = 2) (hcount : s.rdF Reg.coilNodeSel 30 16 ≠ 0)
include hop hcount

theorem Coil.post_refused {n k : Nat}
    (h : Coil.checkPost s op (s.rdF Reg.coilNodeSel 13 0) (s.rdF Reg.coilNodeSel 30 16) = some (n, k)) :
    Coil.post s op = Coil.refuse s n k := by
  unfold Coil.post
  simp only []
  rw [if_neg (by omega), if_neg (by omega), if_neg hcount, h]

theorem Coil.post_queued (h : Coil.checkPost s op (s.rdF Reg.coilNodeSel 13 0) (s.rdF Reg.coilNodeSel 30 16) = none)
    (hon : s.rateOn = true) : Coil.post s op = { s with coil := { s.coil with posts := s.coil.posts ++
      [{ ready := s.clk.mono + 2 * usU, a := op, b := s.rdF Reg.coilNodeSel 13 0, c := s.rdF Reg.coilNodeSel 30 16 }] } } := by
  unfold Coil.post
  simp only []
  rw [if_neg (by omega), if_neg (by omega), if_neg hcount, h]
  exact if_pos hon

end Post

/-- An interrupt of a page that a fault code follows stays raised. -/
theorem State.bit_irq_faultD (s : State) {p i : Nat} (code d : Nat) (hi : i < 32) (hp : p ≠ 7) :
    bit (((s.irq p i).faultD p code d).rd (Reg.irqStatus p)) i = true := by
  rw [State.faultD_ne, State.irq_bit _ _ _ hi]
  all_goals simp only [Reg.irqStatus, Reg.faultCause, Reg.faultCount, Reg.faultOverflow, ne_eq]
  all_goals omega

theorem Coil.refuse_facts (s : State) (n k : Nat) {t : State} (ht : t = Coil.refuse s n k) :
    t.rd Reg.coilErr = w32 (at_ 16 k + n % 16384) ∧ bit (t.rd (Reg.irqStatus Coil.page)) 3 = true ∧
    fld (t.rd (Reg.faultCause Coil.page)) 7 0 = 0x80 ∧ t.coil = s.coil := by
  subst ht
  refine ⟨?_, State.bit_irq_faultD _ _ _ (by decide) (by decide), State.faultD_cause _ _ _ _ (by decide), State.faultD_coil _ _ _ _⟩
  refine (State.rd_faultD_plain (by decide) _ _ _ _).trans ((State.rd_irq_plain (by decide) _ _ _).trans ?_)
  exact State.rd_wr_same _ _ _

/-! ### Lateness (R214) -/

/-- The activation of node `i` whose deadline frame has come. -/
def Coil.overdue (s : State) (i : Nat) : Option Act :=
  s.coil.acts.find? (fun a => a.node = i && a.cls != 1 && !a.late &&
    (match a.deadline with | some d => decide (d ≤ s.clk.frame) | none => false))

/-- A late activation counted, raised as an interrupt and recorded. -/
def Coil.lateNoted (s : State) (i : Nat) : State := ((s.count Reg.coilLateCount 1).irq Coil.page 1).faultD Coil.page 0x83 i

theorem Coil.lateNoted_coil (s : State) (i : Nat) : (Coil.lateNoted s i).coil = s.coil :=
  (State.faultD_coil _ _ _ _).trans (State.count_coil s Reg.coilLateCount 1)

theorem Coil.lateNoted_only (s : State) (i : Nat) : State.coilOnly s (Coil.lateNoted s i) :=
  State.coilOnly_trans (State.coilOnly_count s _ 1) (State.coilOnly_trans (State.coilOnly_irq _ _ _) (State.coilOnly_faultD _ _ _ _))

theorem Coil.lateNoted_facts (s : State) (i : Nat) : (Coil.lateNoted s i).rd Reg.coilLateCount = satAdd (s.rd Reg.coilLateCount) 1 ∧
    fld ((Coil.lateNoted s i).rd (Reg.faultCause Coil.page)) 7 0 = 0x83 := by
  refine ⟨?_, State.faultD_cause _ _ _ _ (by decide)⟩
  exact (State.rd_faultD_plain (by decide) _ _ _ _).trans ((State.rd_irq_plain (by decide) _ _ _).trans (State.count_same s _))

theorem Coil.overdue_node {s : State} {i : Nat} {a : Act} (h : Coil.overdue s i = some a) : a.node = i := by
  have hfound := List.find?_some h
  simp only [Bool.and_eq_true, decide_eq_true_eq] at hfound
  obtain ⟨⟨⟨hnode, -⟩, -⟩, -⟩ := hfound
  exact hnode

theorem Coil.late_of_overdue {s : State} {i : Nat} {a : Act} (h : Coil.overdue s i = some a) : Coil.late s i = Coil.lateAct s a := by
  have hlate : Coil.late s i = match Coil.overdue s i with
    | some a => Coil.lateAct s a
    | none => s := rfl
  rw [hlate, h]

theorem State.coilOnly_edgeCount {s t : State} (h : State.coilOnly s t) (i : Nat) : Coil.edgeCount t i = Coil.edgeCount s i := by
  rw [h]
  rfl

theorem State.coilOnly_period {s t : State} (h : State.coilOnly s t) (i : Nat) : Coil.period t i = Coil.period s i := by
  rw [h]
  rfl

section Overdue

variable {s : State} {i : Nat} {a : Act} (hfind : Coil.overdue s i = some a) (hcorr : Coil.isCorr i = false)
include hfind hcorr

/-- A running activation is marked late. -/
theorem Coil.late_running (hruns : a.state = 2) : Coil.late s i = Coil.setAct (Coil.lateNoted s i) a { a with late := true } := by
  rw [Coil.late_of_overdue hfind]
  unfold Coil.lateAct
  simp only [hruns, if_true, Coil.overdue_node hfind, hcorr, Bool.false_eq_true, if_false]
  rfl

/-- One that waits completes at once, as late. -/
theorem Coil.late_waiting (hwaits : a.state ≠ 2) : Coil.late s i =
    Coil.finish (Coil.event (Coil.dropAct (Coil.lateNoted s i) a)) i true 1 (Coil.lateNoted s i).clk.frame := by
  rw [Coil.late_of_overdue hfind]
  unfold Coil.lateAct
  simp only [if_neg hwaits, Coil.overdue_node hfind, hcorr, Bool.false_eq_true, if_false]
  simp [Coil.lateNoted]

end Overdue

/-! ### Misses (R212, R213) -/

theorem Coil.mem_reach {s : State} {l : List Nat} {x : Nat} (f : Nat) {from_ : List Nat} (h : x ∈ from_) :
    x ∈ Coil.reach s l f from_ := by
  induction f generalizing from_ with
  | zero => exact h
  | succ f ih =>
    unfold Coil.reach
    simp only []
    split
    · exact h
    · exact ih (List.mem_dedup.mpr (List.mem_append_left _ h))

/-- A miss of node `i` takes it and what lies downstream of it out of the frame before anything is released. -/
theorem Coil.miss_due {s : State} {i : Nat} (hruns : i ∉ s.coil.path.ended) (hdue : i ∈ s.coil.path.due0 ++ s.coil.path.due1) :
    ∃ hit down, i ∈ hit ∧ i ∈ down ∧ Coil.released { s with coil := { s.coil with
      path := { s.coil.path with ended := s.coil.path.ended ++ down, missed := s.coil.path.missed ++ hit }
      acts := s.coil.acts.filter (fun a => !(a.cls = 1 && down.contains a.node)) } } (Coil.miss s i) := by
  have hnot : s.coil.path.ended.contains i = false := by simpa using hruns
  unfold Coil.miss
  simp only [hnot, Bool.false_eq_true, if_false]
  generalize hhit : (Coil.reach s _ _ [i]).filter (fun j => !(s.coil.path.ended.contains j)) = hit
  generalize hdown : hit.filter (fun j => (s.coil.path.due0 ++ s.coil.path.due1).contains j) = down
  have hin : i ∈ hit := by
    rw [← hhit]
    exact List.mem_filter.mpr ⟨Coil.mem_reach _ (List.mem_singleton_self i), by rw [hnot]; rfl⟩
  have hin' : i ∈ down := by
    rw [← hdown]
    exact List.mem_filter.mpr ⟨hin, by simpa using hdue⟩
  refine ⟨hit, down, hin, hin', .trans ?_ (.settle _ _ _ _ _)⟩
  refine .trans ?_ (.event _)
  refine .trans ?_ (.missStep _)
  refine .trans ?_ (.of_coil (State.faultD_coil _ _ _ _))
  refine .trans ?_ (.of_coil (State.irq_coil _ _ _))
  refine .trans ?_ (.of_coil (State.count_coil _ _ _))
  exact .trans (.foldl (fun t k => .resumed t k) _ _) (.foldl (fun t j => .setNode t j _) _ _)

/-- A Direct node due in the frame that misses it: it is missed, it has ended, and no activation of it runs. -/
theorem Coil.miss_facts {s : State} {i : Nat} (hruns : i ∉ s.coil.path.ended) (hdue : i ∈ s.coil.path.due0 ++ s.coil.path.due1) :
    i ∈ (Coil.miss s i).coil.path.missed ∧ i ∈ (Coil.miss s i).coil.path.ended ∧
    (∀ x, x ∈ (Coil.miss s i).coil.acts → x.cls = 1 → x.node ≠ i ∨ x.state ≠ 2) := by
  obtain ⟨hit, down, hhit, hdown, h⟩ := Coil.miss_due hruns hdue
  refine ⟨?_, h.ended i (List.mem_append_right _ hdown), fun x hx hcls => ?_⟩
  · rw [h.missed]
    exact List.mem_append_right _ hhit
  · rw [or_iff_not_imp_right]
    intro hstate hnode
    have hkept := (List.mem_filter.mp (h.runs x hx (not_not.mp hstate))).2
    rw [← hnode] at hdown
    simp [hcls, hdown] at hkept

theorem Coil.overrun_only (s : State) (i : Nat) : State.coilOnly s (Coil.overrun s i false) :=
  State.coilOnly_trans (State.coilOnly_count s _ 1) (State.coilOnly_irq _ _ _)

theorem Coil.overrun_coil (s : State) (i : Nat) : (Coil.overrun s i false).coil = s.coil :=
  State.count_coil s Reg.coilOverrunCount 1

/-- Below its declared cost, or with no Direct node, a core goes on. -/
theorem Osier.costStop_below {s : State} {k : Nat}
    (h : (Osier.core s k).b1.node = none ∨ (Osier.core s k).b1.issued < (Osier.core s k).b1.cost) : Osier.costStop s k = s := by
  refine if_neg ?_
  rintro ⟨hnode, hcost⟩
  rcases h with h | h
  · simp [h] at hnode
  · omega

/-- A Direct node due in the frame that has issued its declared cost is stopped: it misses the frame. -/
theorem Osier.costStop_due {s : State} {k : Nat} {a : Act} (hnode : (Osier.core s k).b1.node.isSome = true)
    (hcost : (Osier.core s k).b1.cost ≤ (Osier.core s k).b1.issued)
    (hfind : s.coil.acts.find? (fun a => a.state = 2 && a.core = k && a.cls = 1) = some a) (hruns : a.node ∉ s.coil.path.ended)
    (hdue : a.node ∈ s.coil.path.due0 ++ s.coil.path.due1) : ∃ u, Osier.costStop s k = Osier.sync u ∧ State.coilOnly s u ∧
      a.node ∈ u.coil.path.missed ∧ a.node ∈ u.coil.path.ended ∧
      (∀ x, x ∈ u.coil.acts → x.cls = 1 → x.node ≠ a.node ∨ x.state ≠ 2) := by
  have hstop : Osier.costStop s k = Osier.sync (Coil.costStop s k) := if_pos ⟨hnode, hcost⟩
  refine ⟨Coil.miss (Coil.overrun s a.node false) a.node, ?_, ?_, Coil.miss_facts ?_ ?_⟩
  · rw [hstop]
    unfold Coil.costStop
    rw [hfind]
  · exact State.coilOnly_trans (Coil.overrun_only s a.node) (Coil.miss_only _ a.node)
  · rw [Coil.overrun_coil]
    exact hruns
  · rw [Coil.overrun_coil]
    exact hdue

end Sys2Proof.Machine
end

section
/-!
PROOFS. The statement on the commands of the Coil (R192 to R217).
-/
namespace Sys2Proof.Machine

/-- Settles O15: each row comes to its operation of the Coil, in the branch that the clause's conditions name. -/
theorem coilCommandsAct : Obligations.CoilCommandsAct := by
  unfold Obligations.CoilCommandsAct
  intro s hrun
  refine ⟨?deferred, ?direct, ?background, ?wait, ?noWait, ?complete, ?notRunning, ?held, ?submit, ?submitRelease, ?posts, ?late,
    ?belowCost, ?costStop⟩
  case deferred =>
    intro i f hdeferred hdue hphase hactive hcounter hgap hskip hcost
    exact completes_act (exec_deferredRelease i s) hrun
      (Coil.deferredRelease_joins (s := s.begin) hdeferred hdue hphase hactive hcounter hgap hskip hcost rfl)
  case direct =>
    intro a w hphase hready hcls hw
    refine completes_act (f := fun t => Osier.dispatch (Coil.dispatch t)) rfl hrun ?_
    rw [Coil.dispatch_direct (s := s.begin) hphase hready]
    exact Osier.dispatch_direct (s := s.begin) hcls hw rfl rfl
  case background =>
    intro u a k hphase hu hdirect hpick hcls
    subst hu
    refine completes_act (f := fun t => Osier.dispatch (Coil.dispatch t)) rfl hrun ?_
    rw [Coil.dispatch_block (s := s.begin) hphase hdirect hpick]
    have hstarts := Osier.dispatch_background (s := Coil.startWaits s.begin) (a := a) k (by omega) rfl
    obtain ⟨c, hwaits⟩ := Coil.startWaits_coil s.begin
    rw [hwaits] at hstarts ⊢
    exact hstarts
  case wait =>
    intro i a c at' b u hfind hwait hb hu
    have hnode : a.node = i := Coil.waitOf_node hfind
    subst hb hnode
    refine ⟨?_, fun hphase => ?_, fun hphase r hr => ⟨fun hnone => ?_, fun k hk hcls => ?_⟩⟩
    · rw [hu]
      exact State.toMono_mono s.begin at'
    · refine completes_act (exec_affinityWaitExpiry a.node s) hrun ?_
      rw [Coil.waitExpiry_stays (s := s.begin) hfind hwait rfl hu hphase]
      rfl
    · refine completes_act (exec_affinityWaitExpiry a.node s) hrun ?_
      rw [Coil.waitExpiry_chooses (s := s.begin) hfind hwait rfl hu hphase hr, hnone]
      rfl
    · refine completes_act (exec_affinityWaitExpiry a.node s) hrun ?_
      rw [Coil.waitExpiry_chooses (s := s.begin) hfind hwait rfl hu hphase hr, hk]
      subst hu
      obtain ⟨hb0, -, hb1, hlast, hothers, hregs, hmem⟩ := Osier.dispatch_background
        (s := Coil.setAct (s.begin.toMono at') a { a with expired := true }) (a := { a with expired := true }) k hcls rfl
      exact ⟨hb0, hb1, hlast, hothers, hregs, hmem⟩
  case noWait =>
    intro i hnone
    refine completes_act (exec_affinityWaitExpiry i s) hrun ?_
    rw [Coil.waitExpiry_idle (s := s.begin) (Coil.waitOf_none (s := s.begin) hnone)]
    rfl
  case complete =>
    intro i w a hact
    refine ⟨fun hcls => ?_, fun hcls hcorr hedges hperiod harmed => ?_, fun hcls hcorr => ?_⟩
    · exact completes_act (exec_nodeComplete i w s) hrun (Coil.complete_direct (s := s.begin) hact w hcls rfl)
    · refine completes_act (exec_nodeComplete i w s) hrun ?_
      rw [Coil.complete_software (s := s.begin) hact w hcls hcorr]
      obtain ⟨honly, hacts, hshown, hothers, hregs, -⟩ := Coil.ended_plain (s := s.begin) hedges hperiod harmed a a.late 0 a.core rfl
      exact ⟨honly, hacts, hshown, hothers, hregs⟩
    · exact completes_act (exec_nodeComplete i w s) hrun (Coil.complete_corr (s := s.begin) hact w hcls hcorr)
  case notRunning =>
    exact fun i w hnone => completes_act (exec_nodeComplete i w s) hrun (Coil.complete_idle (s := s.begin) hnone w)
  case held =>
    exact fun a hheld hroom => completes_act (f := Coil.heldEnter) rfl hrun (Coil.heldEnter_one (s := s.begin) hheld hroom)
  case submit =>
    intro i up hi
    have hcompletes : ∀ {P : State → Prop}, P (Coil.submit s.begin 0 i) → Completes (.coilSubmit i) s P := fun h =>
      completes_act (exec_coilSubmit i s) hrun (by rwa [Coil.poke_submit (s := s.begin) up hi])
    refine ⟨fun hforeign hfull => hcompletes (Coil.submit_held (s := s.begin) hforeign hfull i), fun hnone hcredit hbad => ?_,
      fun hnone hcredit hactive hcls hperiod hstays hsoft hgate => ?_⟩
    · refine hcompletes ?_
      rw [Coil.submit_now (s := s.begin) hnone hcredit, Coil.submitNow_discards (s := s.begin) hbad]
      obtain ⟨b, hcoil⟩ := Coil.creditRise_coil (s.begin.faultD Coil.page 0x85 i)
      rw [hcoil, State.faultD_coil]
      exact ⟨rfl, rfl, rfl⟩
    · refine hcompletes ?_
      rw [Coil.submit_now (s := s.begin) hnone hcredit]
      refine ⟨State.coilOnly_trans (Coil.submitNow_only _ i) (Coil.creditRise_only _), ?_⟩
      rw [(Coil.released.creditRise _).submits]
      exact Coil.submitNow_queues (s := s.begin) hactive hcls hperiod hstays hsoft hgate
  case submitRelease =>
    intro u e l hu hheld hcredit
    refine completes_act (f := Coil.submitRelease) rfl hrun ?_
    rw [Coil.submitRelease_accepts (s := s.begin) hu hheld hcredit]
    exact ⟨rfl, (Coil.released.creditRise _).held.trans (Coil.submitNow_held _ _)⟩
  case posts =>
    intro op c hop up hcount
    have hpost : ∃ f, exec c s = s.act f ∧ f s.begin = Coil.post s.begin op := by
      rcases hop with h | h <;> obtain ⟨rfl, rfl⟩ := Prod.mk.inj h
      · exact ⟨fun t => Reg.poke t Reg.coilNodeCtrl 1, rfl, (Coil.poke_nodeCtrl (s := s.begin) up).1⟩
      · exact ⟨fun t => Reg.poke t Reg.coilNodeCtrl 2, rfl, (Coil.poke_nodeCtrl (s := s.begin) up).2⟩
    obtain ⟨f, hexec, hf⟩ := hpost
    have hkind : op = 1 ∨ op = 2 := hop.imp (fun h => congrArg Prod.fst h) (fun h => congrArg Prod.fst h)
    refine ⟨fun n k hbad => completes_act hexec hrun ?_, fun hgood hon => completes_act hexec hrun ?_⟩
    · rw [hf, Coil.post_refused (s := s.begin) hkind hcount hbad]
      exact Coil.refuse_facts s.begin n k rfl
    · rw [hf]
      exact Coil.post_queued (s := s.begin) hkind hcount hgood hon
  case late =>
    intro i a hfind hcorr
    refine ⟨fun hruns => ?_, fun hwaits hedges hperiod harmed => ?_⟩
    · refine completes_act (exec_activationLate i s) hrun ?_
      rw [Coil.late_running (s := s.begin) hfind hcorr hruns]
      obtain ⟨hcount, hcause⟩ := Coil.lateNoted_facts s.begin i
      refine ⟨State.coilOnly_trans (Coil.lateNoted_only _ i) (Coil.setAct_only _ _ _), ?_, hcount, hcause⟩
      unfold Coil.setAct
      rw [Coil.lateNoted_coil]
      rfl
    · refine completes_act (exec_activationLate i s) hrun ?_
      rw [Coil.late_waiting (s := s.begin) hfind hcorr hwaits]
      obtain ⟨hcount, hcause⟩ := Coil.lateNoted_facts s.begin i
      have honly := Coil.lateNoted_only s.begin i
      have hcoil := Coil.lateNoted_coil s.begin i
      have hnode : Coil.node (Coil.lateNoted s.begin i) i = Coil.node s i := Coil.node_congr (congrArg CoilSt.nodes hcoil) i
      obtain ⟨hkept, hacts, hshown, -, -, hrd⟩ := Coil.ended_plain ((State.coilOnly_edgeCount honly i).trans hedges)
        (fun h => hperiod ((State.coilOnly_period honly i).symm.trans h)) ((congrArg NodeSt.armed hnode).trans harmed) a true 1
        (Coil.lateNoted s.begin i).clk.frame rfl
      rw [hcoil] at hacts
      rw [hnode] at hshown
      refine ⟨State.coilOnly_trans honly hkept, hacts, hshown, (hrd _).trans hcount, ?_⟩
      rw [hrd]
      exact hcause
  case belowCost =>
    exact fun k h => completes_act (exec_directCostStop k s) hrun (Osier.costStop_below (s := s.begin) h)
  case costStop =>
    exact fun k a hnode hcost hfind hruns hdue => completes_act (exec_directCostStop k s) hrun
      (Osier.costStop_due (s := s.begin) hnode hcost hfind hruns hdue)

end Sys2Proof.Machine
end

section
/-!
PROOFS. Numbers stored in memory and read back, and what a core's writes to its local memory leave as it is (R224, R252, R264, R268).
-/
namespace Sys2Proof.Machine

/-! ### Numbers in memory (R11) -/

theorem leBytes_length (n x : Nat) : (leBytes n x).length = n := by
  induction n generalizing x with
  | zero => rfl
  | succ n ih => exact congrArg (· + 1) (ih _)

theorem ofLe_leBytes (n x : Nat) : ofLe (leBytes n x) = x % 256 ^ n := by
  induction n generalizing x with
  | zero => exact (Nat.mod_one x).symm
  | succ n ih =>
    show (BitVec.ofNat 8 x).toNat + 256 * ofLe (leBytes n (x / 256)) = _
    rw [ih, BitVec.toNat_ofNat]
    show x % 256 + 256 * (x / 256 % 256 ^ n) = x % 256 ^ (n + 1)
    rw [Nat.pow_succ', Nat.mod_mul]

/-- Bytes stored are read back as the number they spell. -/
theorem State.ldLe_stN_same (s : State) (a : Nat) (l : List Byte) : (s.stN a l).ldLe a l.length = ofLe l := by
  unfold State.ldLe State.ldN
  congr 1
  refine List.ext_getElem (by simp) fun i hi _ => ?_
  have hlt : i < l.length := by simpa using hi
  rw [List.getElem_map, List.getElem_range, State.ld8_stN, if_pos (by omega), Nat.add_sub_cancel_left]
  exact List.getD_eq_getElem l 0 hlt

/-- A number stored elsewhere leaves what stands here. -/
theorem State.ldLe_stN_apart (s : State) (l : List Byte) {a b n : Nat} (h : b + n ≤ a ∨ a + l.length ≤ b) :
    (s.stN a l).ldLe b n = s.ldLe b n := by
  unfold State.ldLe State.ldN
  refine congrArg ofLe (List.map_congr_left fun i hi => ?_)
  have hlt := List.mem_range.mp hi
  rw [State.ld8_stN, if_neg (by omega)]

theorem State.ld32_st32_same (s : State) (a : Nat) (w : Word) : (s.st32 a w).ld32 a = w := by
  have hread : (s.st32 a w).ldLe a 4 = ofLe (leBytes 4 w.toNat) := State.ldLe_stN_same s a (leBytes 4 w.toNat)
  unfold State.ld32 w32
  rw [hread, ofLe_leBytes, show 256 ^ 4 = 2 ^ 32 from rfl, Nat.mod_eq_of_lt w.isLt, BitVec.ofNat_toNat, BitVec.setWidth_eq]

theorem State.ld32_st32_apart (s : State) (w : Word) {a b : Nat} (h : b + 4 ≤ a ∨ a + 4 ≤ b) : (s.st32 a w).ld32 b = s.ld32 b :=
  congrArg w32 (State.ldLe_stN_apart s (leBytes 4 w.toNat) (by rwa [leBytes_length]))

theorem State.ldLe_st64_same (s : State) (a : Nat) {n : Nat} (h : n < 2 ^ 64) : (s.st64 a n).ldLe a 8 = n := by
  have hread : (s.st64 a n).ldLe a 8 = ofLe (leBytes 8 n) := State.ldLe_stN_same s a (leBytes 8 n)
  rw [hread, ofLe_leBytes, show 256 ^ 8 = 2 ^ 64 from rfl, Nat.mod_eq_of_lt h]

theorem State.ldLe_st64_apart (s : State) (n : Nat) {a b : Nat} (h : b + 8 ≤ a ∨ a + 8 ≤ b) : (s.st64 a n).ldLe b 8 = s.ldLe b 8 :=
  State.ldLe_stN_apart s (leBytes 8 n) (by rwa [leBytes_length])

theorem State.st64_memOnly (s : State) (a n : Nat) : State.memOnly s (s.st64 a n) := .stN _ s a

theorem State.memOnly.osier {s t : State} (h : State.memOnly s t) : t.osier = s.osier := by rw [h]
theorem State.memOnly.regs {s t : State} (h : State.memOnly s t) : t.regs = s.regs := by rw [h]
theorem State.memOnly.coil {s t : State} (h : State.memOnly s t) : t.coil = s.coil := by rw [h]

/-! ### Words of X and Y (R224) -/

/-- A word written to local memory is stored, and but for that only the core's own record of defined words changes. -/
theorem Osier.writeWord_eq (s : State) (k : Nat) (y : Bool) (w : Nat) (v : Word) : ∃ o : OsierSt,
    Osier.writeWord s k y w v = ({ s with osier := o } : State).st32 (Osier.wordAddr k y w) v := by
  unfold Osier.writeWord
  simp only []
  split
  · exact ⟨_, rfl⟩
  · exact ⟨s.osier, rfl⟩

theorem Osier.ld32_writeWord_same (s : State) (k : Nat) (y : Bool) (w : Nat) (v : Word) :
    (Osier.writeWord s k y w v).ld32 (Osier.wordAddr k y w) = v := by
  obtain ⟨o, h⟩ := Osier.writeWord_eq s k y w v
  rw [h, State.ld32_st32_same]

theorem Osier.ld32_writeWord_ne (s : State) (k : Nat) (y : Bool) {w j : Nat} (v : Word) (h : j ≠ w) :
    (Osier.writeWord s k y w v).ld32 (Osier.wordAddr k y j) = s.ld32 (Osier.wordAddr k y j) := by
  obtain ⟨o, heq⟩ := Osier.writeWord_eq s k y w v
  rw [heq, State.ld32_st32_apart]
  · rfl
  · unfold Osier.wordAddr
    omega

theorem Osier.writeWord_coil (s : State) (k : Nat) (y : Bool) (w : Nat) (v : Word) : (Osier.writeWord s k y w v).coil = s.coil := by
  obtain ⟨o, h⟩ := Osier.writeWord_eq s k y w v
  rw [h]
  exact (State.memOnly.stN _ _ _).coil

/-- The words `f` of a transfer's data written from word `loc` on, `n` of them. -/
def Osier.received (s : State) (k : Nat) (y : Bool) (loc n : Nat) (f : Nat → Word) : State :=
  (List.range n).foldl (fun s i => Osier.writeWord s k y (loc + i) (f i)) s

theorem Osier.received_succ (s : State) (k : Nat) (y : Bool) (loc n : Nat) (f : Nat → Word) : Osier.received s k y loc (n + 1) f =
    Osier.writeWord (Osier.received s k y loc n f) k y (loc + n) (f n) := by
  unfold Osier.received
  rw [List.range_succ, List.foldl_append]
  rfl

/-- Each word received stands in its place. -/
theorem Osier.received_word (s : State) (k : Nat) (y : Bool) (loc : Nat) {n w : Nat} (f : Nat → Word) (hw : w < n) :
    (Osier.received s k y loc n f).ld32 (Osier.wordAddr k y (loc + w)) = f w := by
  induction n with
  | zero => omega
  | succ n ih =>
    rw [Osier.received_succ]
    by_cases hlast : w = n
    · rw [hlast, Osier.ld32_writeWord_same]
    · rw [Osier.ld32_writeWord_ne _ _ _ _ (by omega), ih (by omega)]

theorem Osier.received_kept (s : State) (k : Nat) (y : Bool) (loc n : Nat) (f : Nat → Word) (j : Nat) :
    (Osier.core (Osier.received s k y loc n f) j).kept = (Osier.core s j).kept :=
  foldl_keeps (fun s => (Osier.core s j).kept) _ (fun s _ => Osier.kept_writeWord s k y _ _ j) _ s

/-! ### The held accesses of a core (R268) -/

theorem Osier.held_setCore (s : State) (k j : Nat) (c : CoreSt) (h : c.held = (Osier.core s k).held) :
    (Osier.core (Osier.setCore s k c) j).held = (Osier.core s j).held := by
  by_cases hj : j = k
  · rw [hj, Osier.core_setCore, h]
  · rw [Osier.core_setCore_ne _ _ hj]

theorem Osier.held_writeWord (s : State) (k : Nat) (y : Bool) (w : Nat) (v : Word) (j : Nat) :
    (Osier.core (Osier.writeWord s k y w v) j).held = (Osier.core s j).held := by
  unfold Osier.writeWord
  simp only []
  rw [Osier.kept_st32]
  split
  · exact Osier.held_setCore s k j _ rfl
  · rfl

theorem Osier.held_writeImem (s : State) (k o : Nat) (w : Word) (j : Nat) :
    (Osier.core (Osier.writeImem s k o w) j).held = (Osier.core s j).held := by
  have hfault : (Osier.core (s.faultTick (Osier.pageOf k)) j).held = (Osier.core s j).held :=
    congrArg CoreSt.held (Osier.core_of_osier (State.count_osier s _ 1) j)
  unfold Osier.writeImem Osier.writeHigh
  split
  · split
    · exact hfault
    · exact Osier.held_setCore s k j _ rfl
  · split
    · exact hfault
    · exact congrArg CoreSt.held (Osier.core_of_osier (State.st64_memOnly s _ _).osier j)

/-- A word written to the window leaves the accesses that wait. -/
theorem Osier.held_winWriteNow (s : State) (k o : Nat) (w : Word) (j : Nat) :
    (Osier.core (Osier.winWriteNow s k o w) j).held = (Osier.core s j).held := by
  unfold Osier.winWriteNow
  split
  · exact Osier.held_writeWord s k false _ w j
  · split
    · exact Osier.held_writeWord s k true _ w j
    · split
      · exact Osier.held_writeImem s k _ w j
      · split
        · exact foldl_keeps (fun s => (Osier.core s j).held) _ (fun s i => Osier.held_writeImem s i _ w j) _ s
        · rfl

/-- The one access that waits, a write, is served where bank 1 is free. -/
theorem Osier.release_write {s : State} {k o : Nat} {w : Word} (hfree : (Osier.core s k).b1.node = none)
    (hheld : (Osier.core s k).held = [(o, some w)]) : Osier.release s k =
      Osier.winWriteNow (Osier.setCore s k { Osier.core s k with held := [] }) k o w := by
  unfold Osier.release
  simp only [hfree, hheld]
  rfl

/-! ### The instruction memory (R226, R264) -/

theorem unitOf_core {k : Nat} (hk : k < 128) : unitOf (0x60 + k) = some 0x60 := by
  unfold unitOf
  repeat rw [if_neg (by omega)]
  exact if_pos (by omega)

/-- The high word of a bundle of software writes the bundle, with the low word held before. -/
theorem Osier.writeImem_high (s : State) (k : Nat) {n : Nat} (hn : n < 0xC00) (w : Word) : Osier.writeImem s k (8 * n + 4) w =
    s.st64 (Osier.win k + 0x20000 + 8 * n) ((Osier.core s k).low.toNat + w.toNat * 2 ^ 32) := by
  have hindex : (8 * n + 4) / 8 = n := by omega
  have hsoft : Osier.deviceBundle n = false := by simpa [Osier.deviceBundle] using hn
  unfold Osier.writeImem Osier.writeHigh
  rw [if_neg (by omega), hindex, hsoft]
  exact if_neg (by decide)

theorem Osier.bundle_lt (low w : Word) : low.toNat + w.toNat * 2 ^ 32 < 2 ^ 64 := by
  have hlow := low.isLt
  have hw := w.isLt
  omega

/-- A write to the window of a core without a Direct node is served now. -/
theorem Osier.window_now {s : State} {k : Nat} (hk : k < 128) (up : s.pageUp (Osier.pageOf k) = true)
    (hfree : (Osier.core s k).b1.node = none) (o : Nat) (w : Word) :
    Window.write s 0 (0x60 + k) o w = Osier.winWriteNow s k o w := by
  have up' : s.pageUp (0x60 + k) = true := up
  unfold Window.write Osier.winWrite
  simp [up', unitOf_core hk, hfree]

theorem Osier.winWriteNow_bundle (s : State) (k : Nat) {n : Nat} (hn : n < 0xC00) (w : Word) :
    Osier.winWriteNow s k (0x20000 + 8 * n + 4) w =
      s.st64 (Osier.win k + 0x20000 + 8 * n) ((Osier.core s k).low.toNat + w.toNat * 2 ^ 32) := by
  have hoffset : 0x20000 + 8 * n + 4 - 0x20000 = 8 * n + 4 := by omega
  unfold Osier.winWriteNow
  rw [if_neg (by omega), if_neg (by omega), if_pos (by omega), hoffset, Osier.writeImem_high s k hn]

/-- A bundle broadcast through core 0 goes to every core present. -/
theorem Osier.winWriteNow_broadcast (s : State) {n : Nat} (hn : n < 0xC00) (w : Word) : Osier.winWriteNow s 0 (0x80000 + 8 * n + 4) w =
    (Osier.present s).foldl (fun s j => Osier.writeImem s j (8 * n + 4) w) s := by
  have hoffset : 0x80000 + 8 * n + 4 - 0x80000 = 8 * n + 4 := by omega
  unfold Osier.winWriteNow
  rw [if_neg (by omega), if_neg (by omega), if_neg (by omega), if_pos (by omega), hoffset]

theorem Osier.win_apart {j k : Nat} (n : Nat) (h : j ≠ k) :
    Osier.win j + 0x20000 + 8 * n + 8 ≤ Osier.win k + 0x20000 + 8 * n ∨
    Osier.win k + 0x20000 + 8 * n + 8 ≤ Osier.win j + 0x20000 + 8 * n := by
  unfold Osier.win winBase
  omega

section Broadcast

variable {n : Nat} (hn : n < 0xC00) (w : Word)
include hn

/-- A broadcast to other cores leaves a core's bundle. -/
theorem Osier.broadcast_other (l : List Nat) (s : State) {j : Nat} (hj : j ∉ l) :
    (l.foldl (fun s j => Osier.writeImem s j (8 * n + 4) w) s).ldLe (Osier.win j + 0x20000 + 8 * n) 8 =
      s.ldLe (Osier.win j + 0x20000 + 8 * n) 8 := by
  induction l generalizing s with
  | nil => rfl
  | cons i l ih =>
    obtain ⟨hne, hrest⟩ := not_or.mp (mt List.mem_cons.mpr hj)
    rw [List.foldl_cons, ih _ hrest, Osier.writeImem_high s i hn, State.ldLe_st64_apart _ _ (Osier.win_apart n hne)]

/-- A broadcast writes the bundle of each core that it names, with that core's low word. -/
theorem Osier.broadcast_named (l : List Nat) (s : State) {j : Nat} (hnodup : l.Nodup) (hj : j ∈ l) :
    (l.foldl (fun s j => Osier.writeImem s j (8 * n + 4) w) s).ldLe (Osier.win j + 0x20000 + 8 * n) 8 =
      (Osier.core s j).low.toNat + w.toNat * 2 ^ 32 := by
  induction l generalizing s with
  | nil => exact absurd hj List.not_mem_nil
  | cons i l ih =>
    obtain ⟨hi, hrest⟩ := List.nodup_cons.mp hnodup
    rw [List.foldl_cons, Osier.writeImem_high s i hn]
    rcases List.mem_cons.mp hj with rfl | hj
    · rw [Osier.broadcast_other hn w l _ hi, State.ldLe_st64_same _ _ (Osier.bundle_lt _ w)]
    · rw [ih _ hrest hj, Osier.core_of_osier (State.st64_memOnly s _ _).osier]

end Broadcast

theorem Osier.mem_present {s : State} {j : Nat} (hj : j < s.variant.cores) (hp : Coil.corePresent s j = true) : j ∈ Osier.present s :=
  List.mem_filter.mpr ⟨List.mem_range.mpr hj, hp⟩

theorem Osier.present_nodup (s : State) : (Osier.present s).Nodup := List.nodup_range.filter _

/-! ### Injected errors (R267) -/

/-- A write to a core's OSIER_INJECT where direct controls are permitted arms the errors that its bits name. -/
theorem Osier.poke_inject {s : State} {k : Nat} (hk : k < 128) (up : s.pageUp (Osier.pageOf k) = true) (hdirect : s.directControls = true) :
    Reg.poke s (Reg.osierInject k) 2 = Osier.setCore s k { Osier.core s k with injParity := true } ∧
    Reg.poke s (Reg.osierInject k) 1 = Osier.setCore s k { Osier.core s k with injResidue := true } := by
  have haddr : Reg.osierInject k = (0x60 + k) * 0x1000 + 0x64 := by
    unfold Reg.osierInject
    omega
  have hinject (b : Bool) : Osier.inject s k b = Osier.setCore s k
      (if b then { Osier.core s k with injResidue := true } else { Osier.core s k with injParity := true }) := by
    unfold Osier.inject
    rw [up, hdirect]
    rfl
  have haction (v : Word) : Page.action s 0 none (0x60 + k) 0x64 v = some (
      if bit v 1 then Osier.inject (if bit v 0 then Osier.inject s k true else s) k false
      else if bit v 0 then Osier.inject s k true else s) := by
    unfold Page.action
    simp [unitOf_core hk]
  unfold Reg.poke
  rw [haddr]
  exact ⟨(Page.write_acts up 0 0x64 2 (by decide) (by decide) (by decide) (haction 2)).trans (hinject false),
    (Page.write_acts up 0 0x64 1 (by decide) (by decide) (by decide) (haction 1)).trans (hinject true)⟩

end Sys2Proof.Machine
end

section
/-!
PROOFS. What a bundle that no rule stops leaves of its core and of the frame fabric (R228, R250, R251).
-/
namespace Sys2Proof.Machine

/-! ### Channels (R191) -/

section Congr

variable {s t : State} (hsuccs : Coil.succs t = Coil.succs s)
include hsuccs

theorem Coil.reach_congr (l : List Nat) (f : Nat) (from_ : List Nat) : Coil.reach t l f from_ = Coil.reach s l f from_ := by
  have hdirect : Coil.directSuccs t l = Coil.directSuccs s l := by
    funext i
    unfold Coil.directSuccs
    rw [hsuccs]
  induction f generalizing from_ with
  | zero => rfl
  | succ f ih =>
    unfold Coil.reach
    simp only [hdirect, ih]

theorem Coil.before_congr (l : List Nat) (a b : Nat) : Coil.before t l a b = Coil.before s l a b := by
  unfold Coil.before Coil.directSuccs
  rw [Coil.reach_congr hsuccs, hsuccs]

/-- What a channel carries rests on the Coil's own state, the frame and the edges alone. -/
theorem Coil.channel_congr (hcoil : t.coil = s.coil) (hclk : t.clk = s.clk) (pt ch f : Nat) (ws : List Nat) :
    Coil.channel t pt ch f ws = Coil.channel s pt ch f ws := by
  have hin : Coil.pathIn t pt ch = Coil.pathIn s pt ch := by
    unfold Coil.pathIn
    rw [hcoil]
  have hwritten : ∀ i, Coil.written t i ch = Coil.written s i ch := fun i => by
    unfold Coil.written
    rw [hcoil]
  have hnode : ∀ i, Coil.node t i = Coil.node s i := Coil.node_congr (congrArg CoilSt.nodes hcoil)
  induction f generalizing ws with
  | zero => exact hin
  | succ f ih =>
    unfold Coil.channel
    simp only [hin, hwritten, hnode, hclk, Coil.before_congr hsuccs, ih]

end Congr

/-- The banks of the cores have no part in what FRD reads. -/
theorem Osier.fabricRead_settled (s : State) (k : Nat) (i : Bundle) (b : Bank) :
    Osier.fabricRead (Osier.settled s.begin k) i b = Osier.fabricRead s i b := by
  have hread : ∀ node ch, Coil.readChannel (Osier.settled s.begin k) node ch = Coil.readChannel s node ch := fun node ch => by
    have hbefore := Coil.before_congr (s := s) (t := Osier.settled s.begin k) rfl
    unfold Coil.readChannel
    simp only [hbefore]
    exact Coil.channel_congr (s := s) (t := Osier.settled s.begin k) rfl rfl rfl _ ch _ _
  unfold Osier.fabricRead
  simp only [hread]
  rfl

/-! ### FWR (R250) -/

/-- Lane `l` of FWR: `v l` into the node's channel `base + l`, where the node has one. -/
def Osier.laneWrite (node base : Nat) (v : Nat → Int) (s : State) (l : Nat) : State :=
  if base + l < Coil.ioCount s node then Coil.writeChannel s node (Coil.ioFirst s node + (base + l)) (v l) else s

theorem Osier.fabricWrite_lanes (s : State) {i : Bundle} (b : Bank) (h : i.op = 0x61) : Osier.fabricWrite s i b =
    lanes.foldl (Osier.laneWrite (b.node.getD 0) (b.sw i.b).toNat (b.vi i.a)) s := if_pos h

/-- What FWR has written to channel `q`, counted over all nodes. -/
def Coil.writtenAt (s : State) (q : Nat) : Option Int := Tab.get (fun _ => none) s.coil.path.writes q

theorem Coil.writtenAt_writeChannel (s : State) (node ch : Nat) (v : Int) (q : Nat) :
    Coil.writtenAt (Coil.writeChannel s node ch v) q = if q = 1024 * node + ch then some v else Coil.writtenAt s q :=
  Tab.get_set (α := Option Int) (fun _ => none) s.coil.path.writes (1024 * node + ch) q (some v)

/-- The channel, counted over all nodes, that a node's channel `base + l` is. -/
def Coil.laneKey (s : State) (node base l : Nat) : Nat := 1024 * node + (Coil.ioFirst s node + (base + l))

section Lanes

variable (node base : Nat) (v : Nat → Int)

theorem Osier.laneWrite_io (s : State) (l : Nat) : Coil.ioCount (Osier.laneWrite node base v s l) node = Coil.ioCount s node ∧
    Coil.laneKey (Osier.laneWrite node base v s l) node base = Coil.laneKey s node base := by
  unfold Osier.laneWrite
  split <;> exact ⟨rfl, rfl⟩

theorem Osier.laneWrite_key (s : State) {l : Nat} (hin : base + l < Coil.ioCount s node) :
    Coil.writtenAt (Osier.laneWrite node base v s l) (Coil.laneKey s node base l) = some (v l) := by
  unfold Osier.laneWrite
  rw [if_pos hin, Coil.writtenAt_writeChannel]
  exact if_pos rfl

theorem Osier.laneWrite_other (s : State) {l q : Nat} (h : q ≠ Coil.laneKey s node base l) :
    Coil.writtenAt (Osier.laneWrite node base v s l) q = Coil.writtenAt s q := by
  unfold Osier.laneWrite
  split
  · rw [Coil.writtenAt_writeChannel]
    exact if_neg h
  · rfl

/-- Lanes leave the channels that they do not name. -/
theorem Osier.laneWrites_other (ls : List Nat) (s : State) {q : Nat} (h : ∀ l, l ∈ ls → q ≠ Coil.laneKey s node base l) :
    Coil.writtenAt (ls.foldl (Osier.laneWrite node base v) s) q = Coil.writtenAt s q := by
  induction ls generalizing s with
  | nil => rfl
  | cons x ls ih =>
    obtain ⟨-, hkey⟩ := Osier.laneWrite_io node base v s x
    rw [List.foldl_cons, ih _ (by rw [hkey]; exact fun l hl => h l (List.mem_cons_of_mem x hl)),
      Osier.laneWrite_other node base v s (h x List.mem_cons_self)]

/-- Each lane that has a channel of the node's writes it. -/
theorem Osier.laneWrites_lane (ls : List Nat) (s : State) {l : Nat} (hnodup : ls.Nodup) (hl : l ∈ ls)
    (hin : base + l < Coil.ioCount s node) :
    Coil.writtenAt (ls.foldl (Osier.laneWrite node base v) s) (Coil.laneKey s node base l) = some (v l) := by
  induction ls generalizing s with
  | nil => exact absurd hl List.not_mem_nil
  | cons x ls ih =>
    obtain ⟨hx, hrest⟩ := List.nodup_cons.mp hnodup
    obtain ⟨hcount, hkey⟩ := Osier.laneWrite_io node base v s x
    rw [List.foldl_cons]
    rcases List.mem_cons.mp hl with rfl | hl
    · rw [Osier.laneWrites_other, Osier.laneWrite_key node base v s hin]
      rw [hkey]
      intro m hm heq
      obtain rfl : m = l := by
        unfold Coil.laneKey at heq
        omega
      exact hx hm
    · rw [← hkey]
      exact ih _ hrest hl (by rw [hcount]; exact hin)

end Lanes

/-- A lane's value as a signed number. -/
theorem Bank.vi_eq (b : Bank) (r l : Nat) : b.vi r l = (b.vw r l).toInt := by
  unfold Bank.vi signed
  rw [BitVec.toInt_eq_toNat_cond]
  have hlt := (b.vw r l).isLt
  simp only [Nat.mod_eq_of_lt hlt]
  split <;> split <;> omega

/-- FWR writes each lane's channel, and no other. -/
theorem Osier.fabricWrite_channels (s : State) {i : Bundle} (b : Bank) (h : i.op = 0x61) :
    (∀ l, l < 4 → (b.sw i.b).toNat + l < Coil.ioCount s (b.node.getD 0) → Coil.writtenAt (Osier.fabricWrite s i b)
      (Coil.laneKey s (b.node.getD 0) (b.sw i.b).toNat l) = some (b.vw i.a l).toInt) ∧
    (∀ q, (∀ l, l < 4 → q ≠ Coil.laneKey s (b.node.getD 0) (b.sw i.b).toNat l) →
      Coil.writtenAt (Osier.fabricWrite s i b) q = Coil.writtenAt s q) := by
  have hlanes : ∀ l, l ∈ lanes ↔ l < 4 := fun l => by
    simp only [lanes, List.mem_cons, List.not_mem_nil, or_false]
    omega
  rw [Osier.fabricWrite_lanes s b h]
  refine ⟨fun l hl hin => ?_, fun q hq => ?_⟩
  · rw [← Bank.vi_eq]
    exact Osier.laneWrites_lane _ _ _ lanes s (by decide) ((hlanes l).mpr hl) hin
  · exact Osier.laneWrites_other _ _ _ lanes s fun l hl => hq l ((hlanes l).mp hl)

/-! ### A bundle that no rule stops (R228, R229) -/

theorem Osier.settled_xfers (s : State) (k : Nat) : (Osier.core (Osier.settled s k) k).xfers = (Osier.core s k).xfers := by
  unfold Osier.settled
  rw [Osier.core_setCore]
  unfold CoreSt.setActive
  split <;> rfl

/-- Stores to local memory leave the Coil's state. -/
theorem Osier.store_coil (s : State) (k : Nat) (y : Bool) (b : Bank) (m : Move) (p : Nat) : (Osier.store s k y b m p).coil = s.coil := by
  unfold Osier.store
  split
  · exact foldl_keeps State.coil _ (fun s _ => Osier.writeWord_coil s k y _ _) _ s
  · split
    · exact Osier.writeWord_coil s k y p _
    · rfl

theorem Osier.stored_coil (s : State) (k : Nat) (i : Bundle) :
    (Osier.stored s k i).coil = (Osier.fabricWrite s i (Osier.core s k).active).coil :=
  (Osier.store_coil _ k true _ _ _).trans (Osier.store_coil _ k false _ _ _)

/-- A bundle that is not DONE and after which control stays in the instruction memory ends nothing. -/
theorem Osier.conclude_stays {s : State} {k : Nat} {i : Bundle} {one : Bool} (hdone : i.isDone = false)
    (hpc : (if one then (Osier.core s k).b1 else (Osier.core s k).b0).pc < 4096) (pc : Nat) : Osier.conclude s k i one pc = s := by
  unfold Osier.conclude
  simp only [hdone, Bool.false_eq_true, if_false]
  exact if_neg (by omega)

/-- The counts of a Direct node's bundle leave the Coil's state. -/
theorem Osier.tally_coil (s : State) (k : Nat) : (Osier.tally s k true).coil = s.coil := by
  unfold Osier.tally
  simp only [if_true]
  rw [State.wr64_coil]

/-- A bundle of a Direct node that is not DONE and stays in the instruction memory changes of the Coil what FWR writes. -/
theorem Osier.execute_coil {s : State} {k : Nat} {i : Bundle} (hdone : i.isDone = false)
    (hpc : (Osier.flow i (Osier.core s k).active).pc < 4096) (hone : (Osier.core s k).inBank1 = true) :
    (Osier.execute s k i).coil = (Osier.fabricWrite s i (Osier.core s k).active).coil := by
  have hexec : ∃ ws, Osier.execute s k i = Osier.conclude
      (Osier.tally (Osier.setCore (Osier.stored s k i) k (Osier.afterCore s k i ws)) k (Osier.core s k).inBank1) k i
      (Osier.core s k).inBank1 (Osier.core s k).active.pc := ⟨_, rfl⟩
  obtain ⟨ws, hexec⟩ := hexec
  rw [hexec, hone, Osier.conclude_stays hdone]
  · exact (Osier.tally_coil _ k).trans (Osier.stored_coil s k i)
  · have hcore := Osier.core_of_osier (State.coilOnly_osier
      (Osier.tally_only (Osier.setCore (Osier.stored s k i) k (Osier.afterCore s k i ws)) k true)) k
    rw [if_pos rfl, hcore, Osier.core_setCore]
    unfold Osier.afterCore CoreSt.setBank Osier.bankAfter
    rw [hone, Osier.flow_queue]
    exact hpc

section Ready

variable {s : State} {k : Nat} {i : Bundle} {b : Bank} (hr : Osier.ready s k i b) (hdone : i.isDone = false)
  (hpc : (Osier.flow i b).pc < 4096)
include hr

theorem Osier.ready_bank : (Osier.core (Osier.settled s.begin k) k).active = b := by
  obtain ⟨-, -, -, -, hb, -⟩ := hr
  exact (Osier.settled_active s.begin k).trans hb.symm

include hdone hpc

/-- The core after the bundle, with the results of its slots. -/
theorem Osier.issue_core : ∃ ws, ws = i.compute b (Osier.core s k).xfers.length ++ Osier.fabricRead s i b ++
      Osier.companions (Osier.settled s.begin k) k i ∧
    Osier.core (Osier.issue s.begin k i) k = Osier.afterCore (Osier.settled s.begin k) k i ws ∧
    (Osier.issue s.begin k i).mem = (Osier.stored (Osier.settled s.begin k) k i).mem := by
  obtain ⟨ws, hws, h⟩ := Osier.execute_bank (Osier.settled s.begin k) k i hdone (by rwa [Osier.ready_bank hr])
  rw [Osier.ready_bank hr, Osier.settled_xfers, Osier.fabricRead_settled] at hws
  rw [Osier.issue_ready s k i b hr]
  exact ⟨ws, hws, h⟩

/-- The bundle runs with the results of its compute slot, and of FRD's the channels. -/
theorem Osier.issue_ran {l : List OW} (hl : i.compute b (Osier.core s k).xfers.length ++ Osier.fabricRead s i b = l) :
    Osier.ran s (Osier.issue s.begin k i) k i b l := by
  obtain ⟨ws, hws, hcore, hmem⟩ := Osier.issue_core hr hdone hpc
  rw [hl] at hws
  have hbank : Osier.ranBank s (Osier.issue s.begin k i) k = Osier.bankAfter i b ws s.clk.mono := by
    have hsame : (Osier.core (Osier.settled s.begin k) k).inBank1 = (Osier.core s k).inBank1 := Osier.settled_inBank1 s.begin k
    unfold Osier.ranBank
    rw [hcore]
    unfold Osier.afterCore CoreSt.setBank
    rw [hsame, Osier.ready_bank hr]
    cases (Osier.core s k).inBank1 <;> rfl
  refine ⟨Osier.companions (Osier.settled s.begin k) k i, (Osier.bankAfter i b ws s.clk.mono).stalled, ?_, fun hx hy hc => ?_⟩
  · rw [hbank]
    unfold Osier.bankAfter
    rw [Osier.flow_queue, hws]
    rfl
  · obtain ⟨hnone, hkept⟩ := Osier.companions_none (Osier.settled s.begin k) k i hx hy hc
    exact ⟨hnone, hmem.trans hkept⟩

/-- After XRD or XWR the transfers outstanding are those before it, with the new one where it has some bytes. -/
theorem Osier.issue_xfers (hop : i.op = 0x62 ∨ i.op = 0x63) : (Osier.core (Osier.issue s.begin k i) k).xfers =
    if (Osier.xferOf i b s).bytes = 0 then (Osier.core s k).xfers
    else (Osier.core s k).xfers ++ [Osier.xferOf i b (Osier.stored (Osier.settled s.begin k) k i)] := by
  obtain ⟨ws, -, hcore, -⟩ := Osier.issue_core hr hdone hpc
  have hkept := Osier.kept_stored (Osier.settled s.begin k) k i k
  have hxfers : (Osier.core (Osier.stored (Osier.settled s.begin k) k i) k).xfers = (Osier.core s k).xfers :=
    (congrArg (·.2.2.1) hkept).trans (Osier.settled_xfers s.begin k)
  rw [hcore]
  unfold Osier.afterCore Osier.xfersAfter
  simp only [hxfers, Osier.ready_bank hr, if_pos hop]
  rfl

end Ready

end Sys2Proof.Machine
end

section
/-!
PROOFS. The statement on the frame fabric, the transfers and the window of a core (R250 to R268).
-/
namespace Sys2Proof.Machine

/-! ### Transfers (R252, R253) -/

theorem Osier.transfer_idle {s : State} {k : Nat} (h : (Osier.core s k).xfers = []) : Osier.transfer s k = s := by
  unfold Osier.transfer
  simp only [h]

section Transfer

variable {s : State} {k : Nat} {r : Xfer} {xs : List Xfer} (hfirst : (Osier.core s k).xfers = r :: xs)
include hfirst

/-- A write goes out over the Weave, and the transfer ends with what came of it. -/
theorem Osier.transfer_write (hwrite : r.write = true) {s1 : State} {e : Nat}
    (hdeliver : Osier.deliver (if r.y then s else Osier.xRead s k) (13 + k / 32) r.deadline r.release r.common 18
      (if r.common then csAddr r.ext else r.ext)
      ((List.range (r.bytes / 4)).flatMap (fun w => leBytes 4 (Osier.wordAt s k r.y (r.loc + w)).toNat)) = (s1, e)) :
    Osier.transfer s k = Osier.xferEnd s1 k (e != 0) := by
  unfold Osier.transfer
  simp only [hfirst, hwrite, if_true, hdeliver]

/-- A read's words, if they came, reach local memory, and the transfer ends. -/
theorem Osier.transfer_read (hread : r.write = false) {s1 : State} {l : List Byte} {e : Nat}
    (hfetch : Weave.readN s (13 + k / 32) (r.bytes / 256 + 2) (if r.common then csAddr r.ext else r.ext) r.bytes = (s1, l, e)) :
    Osier.transfer s k = Osier.xferEnd (if e ≠ 0 then s1 else
      Osier.received s1 k r.y r.loc (r.bytes / 4) (fun w => w32 (ofLe (slice l (4 * w) 4)))) k (e != 0) := by
  unfold Osier.transfer
  simp only [hfirst, hread, Bool.false_eq_true, if_false, hfetch]
  rfl

end Transfer

/-- Where no DONE waits, the end of a transfer advances the queue and keeps its error. -/
theorem Osier.xferEnd_open {s : State} {k : Nat} (h : (Osier.core s k).b0.done = none) (err : Bool) : Osier.xferEnd s k err =
    Osier.setCore s k { Osier.core s k with
      xfers := (Osier.core s k).xfers.drop 1
      xferErr := (Osier.core s k).xferErr ||
        (err && (Osier.core s k).xfers.head?.map (·.node) == (Osier.core s k).b0.node) } := by
  unfold Osier.xferEnd
  simp only [h]

/-- The end of a transfer looks at what moves of data leave alone. -/
theorem Osier.xferEnd_kept {s t : State} {k : Nat} (hkept : (Osier.core t k).kept = (Osier.core s k).kept)
    (h : (Osier.core s k).b0.done = none) (err : Bool) :
    (Osier.core (Osier.xferEnd t k err) k).xfers = (Osier.core s k).xfers.drop 1 ∧
    (Osier.core (Osier.xferEnd t k err) k).xferErr = ((Osier.core s k).xferErr ||
      (err && (Osier.core s k).xfers.head?.map (·.node) == (Osier.core s k).b0.node)) ∧ (Osier.xferEnd t k err).mem = t.mem := by
  have hb0 : (Osier.core t k).b0 = (Osier.core s k).b0 := congrArg (·.1) hkept
  have hxfers : (Osier.core t k).xfers = (Osier.core s k).xfers := congrArg (·.2.2.1) hkept
  have hxferErr : (Osier.core t k).xferErr = (Osier.core s k).xferErr := congrArg (·.2.2.2.1) hkept
  rw [Osier.xferEnd_open (by rw [hb0]; exact h), Osier.core_setCore, ← hxfers, ← hxferErr, ← hb0]
  exact ⟨rfl, rfl, rfl⟩

theorem State.ld32_congr {s t : State} (h : t.mem = s.mem) (a : Nat) : t.ld32 a = s.ld32 a := by
  unfold State.ld32 State.ldLe State.ldN State.ld8
  rw [h]

/-! ### The rows by what they come to -/

/-- A row of a bundle completes with what its issue leads to. -/
theorem completes_issue {s : State} {k : Nat} {i : Bundle} {b : Bank} {c : Instr} {P : State → Prop}
    (hexec : exec c s = s.act (fun t => Osier.issue t k i)) (hr : Osier.ready s k i b) (h : P (Osier.issue s.begin k i)) :
    Completes c s P := by
  obtain ⟨up, -⟩ := hr
  exact completes_act hexec (State.running_of_pageUp up) h

theorem Operands.bundle_notDone {op : Nat} {f : Slots} (h : f.ctl.toNat / 256 ≠ 4) : (Operands.bundle op f).isDone = false := by
  unfold Bundle.isDone
  simpa [Operands.bundle] using h

/-- A row of XRD or XWR: the bundle runs, and a transfer of some bytes joins those outstanding. -/
theorem completes_xfer {s : State} {k : Nat} {f : Slots} {b : Bank} {op : Nat} {c : Instr} {w : Bool}
    (hop : op = 0x62 ∧ c = Instr.xrd k f ∧ w = false ∨ op = 0x63 ∧ c = Instr.xwr k f ∧ w = true) (hctl : f.ctl.toNat / 256 ≠ 4)
    (hr : Osier.ready s k (Operands.bundle op f) b) (hpc : (Osier.flow (Operands.bundle op f) b).pc < 4096) :
    Completes c s (fun t => Osier.ran s t k (Operands.bundle op f) b [] ∧ ∃ r, r.write = w ∧
      r = Osier.xferOf (Operands.bundle op f) b (Osier.stored (Osier.settled s.begin k) k (Operands.bundle op f)) ∧
      (Osier.core t k).xfers = if r.bytes = 0 then (Osier.core s k).xfers else (Osier.core s k).xfers ++ [r]) := by
  have hdone := Operands.bundle_notDone (op := op) hctl
  have hissue := Osier.issue_xfers hr hdone hpc
  rcases hop with ⟨rfl, rfl, rfl⟩ | ⟨rfl, rfl, rfl⟩
  · exact completes_issue (exec_xrd k f s) hr ⟨Osier.issue_ran hr hdone hpc rfl, _, rfl, rfl, hissue (Or.inl rfl)⟩
  · exact completes_issue (exec_xwr k f s) hr ⟨Osier.issue_ran hr hdone hpc rfl, _, rfl, rfl, hissue (Or.inr rfl)⟩

/-- Fields of a transfer's operands (R251): the word of the local address, and the high byte of the external one. -/
theorem fld_localWord (w : Word) : fld w 13 2 * 4 = w.toNat % 2 ^ 14 / 4 * 4 := by
  unfold fld
  rw [Nat.shiftRight_eq_div_pow]
  omega

theorem fld_lowByte (w : Word) : fld w 7 0 = w.toNat % 256 := by
  unfold fld
  rw [Nat.shiftRight_zero]
  rfl

/-- Settles O20: each row comes to its operation of the core, in the branch that the clause's conditions name. -/
theorem osierFabricTransferWindowRows : Obligations.OsierFabricTransferWindowRows := by
  unfold Obligations.OsierFabricTransferWindowRows
  intro s k
  refine ⟨?bundles, ?transfer, ?noTransfer, ?instruction, ?release, ?inject⟩
  case bundles =>
    intro f b d a x i8 node hd ha hx hi8 hnode hctl
    subst hd ha hx hi8 hnode
    refine ⟨fun hr _ hpc => ?frd, fun hr hpc => ?fwr, fun op c w hop hr hpc => ?xfer⟩
    case frd =>
      exact completes_issue (exec_frd k f s) hr (Osier.issue_ran hr (Operands.bundle_notDone hctl) hpc rfl)
    case fwr =>
      have hdone := Operands.bundle_notDone (op := 0x61) hctl
      have hone : (Osier.core s k).inBank1 = true := by
        obtain ⟨-, -, -, -, -, -, -, hdirect, -⟩ := hr
        exact hdirect (Or.inr rfl)
      have hbank := Osier.ready_bank hr
      have hcoil := Osier.execute_coil (s := Osier.settled s.begin k) hdone (by rwa [hbank])
        ((Osier.settled_inBank1 s.begin k).trans hone)
      rw [hbank] at hcoil
      obtain ⟨hlanes, hothers⟩ := Osier.fabricWrite_channels (Osier.settled s.begin k) (i := Operands.bundle 0x61 f) b rfl
      refine completes_issue (exec_fwr k f s) hr ⟨Osier.issue_ran hr hdone hpc rfl, ?_⟩
      rw [Osier.issue_ready s k _ b hr, hcoil]
      exact ⟨hlanes, hothers⟩
    case xfer =>
      obtain ⟨t, hexec, hran, r, hwrite, hr', hxfers⟩ := completes_xfer hop hctl hr hpc
      have hbytes : r.bytes = (b.sw (f.a.toNat + 3)).toNat / 16 * 16 := by rw [hr']; rfl
      refine ⟨t, hexec, hran, fun hnone => ?_, fun hsome => ⟨r, ?_, hwrite, ?_⟩⟩
      · rw [hxfers, if_pos (by omega)]
      · rw [hxfers, if_neg (by omega)]
      · rw [← fld_localWord, ← fld_lowByte, hr']
        exact ⟨rfl, rfl, rfl, rfl, rfl, rfl⟩
  case transfer =>
    intro hrun r xs ext ini n hfirst hext hini hn
    subst hext hini hn
    refine ⟨fun hread s1 l e hfetch hopen => ?_, fun hwrite s1 e hdeliver => ?_⟩
    · refine completes_act (exec_transferComplete k s) hrun ?_
      rw [Osier.transfer_read (s := s.begin) hfirst hread hfetch]
      by_cases he : e = 0
      · obtain ⟨hxfers, herr, hmem⟩ := Osier.xferEnd_kept (Osier.received_kept s1 k r.y r.loc (r.bytes / 4)
          (fun w => w32 (ofLe (slice l (4 * w) 4))) k) hopen (e != 0)
        rw [if_neg (not_not.mpr he)]
        refine ⟨hxfers, herr, fun _ w hw => ?_, fun hne => absurd he hne⟩
        rw [State.ld32_congr hmem]
        exact Osier.received_word s1 k r.y r.loc _ hw
      · obtain ⟨hxfers, herr, hmem⟩ := Osier.xferEnd_kept (s := s1) (t := s1) rfl hopen (e != 0)
        rw [if_pos he]
        exact ⟨hxfers, herr, fun hzero => absurd hzero he, fun _ => hmem⟩
    · exact completes_act (exec_transferComplete k s) hrun (Osier.transfer_write (s := s.begin) hfirst hwrite hdeliver)
  case noTransfer =>
    exact fun hrun hnone => completes_act (exec_transferComplete k s) hrun (Osier.transfer_idle (s := s.begin) hnone)
  case instruction =>
    intro n w hn hk
    have hmod : n % 4096 = n := Nat.mod_eq_of_lt (by omega)
    refine ⟨fun up hfree => ?_, fun hzero up hfree => ?_⟩
    · refine completes_act (exec_instructionWrite k n false w s) (State.running_of_pageUp up) ?_
      simp only [Bool.false_eq_true, if_false, hmod]
      rw [Osier.window_now (s := s.begin) hk up hfree, Osier.winWriteNow_bundle _ _ hn]
      have hmem := State.st64_memOnly s.begin (Osier.win k + 0x20000 + 8 * n) ((Osier.core s.begin k).low.toNat + w.toNat * 2 ^ 32)
      refine ⟨State.ldLe_st64_same _ _ (Osier.bundle_lt _ w), fun a ha => ?_, hmem.osier, hmem.regs⟩
      exact (State.ld8_stN _ _ _ _).trans (if_neg (by rw [leBytes_length]; omega))
    · refine completes_act (exec_instructionWrite 0 n true w s) (State.running_of_pageUp up) ?_
      simp only [if_true, hmod]
      rw [Osier.window_now (s := s.begin) (k := 0) (by decide) up hfree, Osier.winWriteNow_broadcast _ hn]
      exact fun j hj hp => Osier.broadcast_named hn w _ s.begin (Osier.present_nodup _) (Osier.mem_present (s := s.begin) hj hp)
  case release =>
    intro hrun hfree o w hheld
    refine completes_act (exec_osierWindowAccessRelease k s) hrun ?_
    rw [Osier.release_write (s := s.begin) hfree hheld]
    refine ⟨rfl, ?_⟩
    rw [Osier.held_winWriteNow, Osier.core_setCore]
  case inject =>
    intro up hk hdirect
    obtain ⟨hparity, hresidue⟩ := Osier.poke_inject (s := s.begin) hk up hdirect
    exact ⟨completes_act (exec_injectParity k s) (State.running_of_pageUp up) hparity,
      completes_act (exec_injectResidue k s) (State.running_of_pageUp up) hresidue⟩

end Sys2Proof.Machine
end

section
/-!
PROOFS. Two's complement numbers, saturation and headroom, as the operations of a core use them (R236, R237).
-/
namespace Sys2Proof.Machine

/-! ### Two's complement -/

/-- A number's low `n` bits read as signed are those of the bit vector. -/
theorem signed_eq_toInt {n : Nat} (hn : 0 < n) (m : Nat) : signed n m = (BitVec.ofNat n m).toInt := by
  obtain ⟨j, rfl⟩ : ∃ j, n = j + 1 := ⟨n - 1, by omega⟩
  have hhalf : m % 2 ^ (j + 1) < 2 ^ j ↔ 2 * (m % 2 ^ (j + 1)) < 2 ^ (j + 1) := by omega
  unfold signed
  rw [BitVec.toInt_eq_toNat_cond, BitVec.toNat_ofNat]
  simp only [Nat.add_sub_cancel, hhalf]

theorem signed_toNat {n : Nat} (hn : 0 < n) (w : BitVec n) : signed n w.toNat = w.toInt := by
  rw [signed_eq_toInt hn, BitVec.ofNat_toNat, BitVec.setWidth_eq]

theorem ofNat_unsigned (n : Nat) (x : Int) : BitVec.ofNat n (unsigned n x) = BitVec.ofInt n x := by
  refine BitVec.eq_of_toNat_eq ?_
  rw [BitVec.toNat_ofNat, BitVec.toNat_ofInt]
  exact Nat.mod_eq_of_lt (by have := Nat.two_pow_pos n; unfold unsigned; omega)

theorem w32_unsigned (x : Int) : w32 (unsigned 32 x) = BitVec.ofInt 32 x := ofNat_unsigned 32 x

theorem wrap32_eq (x : Int) : wrap32 x = (BitVec.ofInt 32 x).toInt := by
  unfold wrap32
  rw [signed_eq_toInt (by decide), ofNat_unsigned]

theorem signed_word (w : Word) : signed 32 w.toNat = w.toInt := signed_toNat (by decide) w

theorem Bank.si_eq (b : Bank) (r : Nat) : b.si r = (b.sw r).toInt := signed_word _

theorem ofInt_sub (n : Nat) (x y : Int) : BitVec.ofInt n (x - y) = BitVec.ofInt n x - BitVec.ofInt n y := by
  rw [sub_eq_add_neg, BitVec.ofInt_add, BitVec.ofInt_neg, ← BitVec.sub_eq_add_neg]

theorem wrap32_add (x y : Word) : wrap32 (x.toInt + y.toInt) = (x + y).toInt := by
  rw [wrap32_eq, BitVec.ofInt_add, BitVec.ofInt_toInt, BitVec.ofInt_toInt]

theorem wrap32_sub (x y : Word) : wrap32 (x.toInt - y.toInt) = (x - y).toInt := by
  rw [wrap32_eq, ofInt_sub, BitVec.ofInt_toInt, BitVec.ofInt_toInt]

theorem wrap32_mul (x y : Word) : wrap32 (x.toInt * y.toInt) = (x * y).toInt := by
  rw [wrap32_eq, BitVec.ofInt_mul, BitVec.ofInt_toInt, BitVec.ofInt_toInt]

theorem ofInt_natCast_toNat (x : Word) : BitVec.ofInt 32 (x.toNat : Int) = x := by
  rw [BitVec.ofInt_natCast, BitVec.ofNat_toNat, BitVec.setWidth_eq]

theorem wrap32_natAdd (x y : Word) : wrap32 ((x.toNat + y.toNat : Nat) : Int) = (x + y).toInt := by
  rw [wrap32_eq, Nat.cast_add, BitVec.ofInt_add, ofInt_natCast_toNat, ofInt_natCast_toNat]

theorem wrap32_natSub (x y : Word) : wrap32 ((x.toNat : Int) - y.toNat) = (x - y).toInt := by
  rw [wrap32_eq, ofInt_sub, ofInt_natCast_toNat, ofInt_natCast_toNat]

theorem fdiv_eq (x : Int) (n : Nat) : fdiv x n = x / n := by
  unfold fdiv
  exact Int.fdiv_eq_ediv_of_nonneg x (Int.natCast_nonneg n)

theorem fdiv_two_pow (x : Int) (n : Nat) : fdiv x (2 ^ n) = x / 2 ^ n := by
  rw [fdiv_eq, Nat.cast_pow, Nat.cast_ofNat]

/-! ### Headroom (R237) -/

/-- The bits of a number that differ from its sign. -/
def signApart (x : Int) : Nat := if x < 0 then (-x - 1).toNat else x.toNat

theorem headroom_eq (x : Int) : headroom x = 31 - (signApart x).log2 - (if signApart x = 0 then 0 else 1) := rfl

theorem redundant80_eq (x : Int) : redundant80 x = 79 - (signApart x).log2 - (if signApart x = 0 then 0 else 1) := rfl

theorem headroom_le (x : Int) : headroom x ≤ 31 := by rw [headroom_eq]; omega

theorem redundant80_le (x : Int) : redundant80 x ≤ 79 := by rw [redundant80_eq]; omega

theorem signApart_lt {x : Int} (hlo : -2 ^ 31 ≤ x) (hhi : x < 2 ^ 31) : signApart x < 2 ^ 31 := by
  unfold signApart
  split <;> omega

/-- The bits that differ from the sign are those below the headroom, and the topmost of these is one of them. -/
theorem headroom_bounds {x : Int} (hlo : -2 ^ 31 ≤ x) (hhi : x < 2 ^ 31) :
    signApart x < 2 ^ (31 - headroom x) ∧ (headroom x < 31 → 2 ^ (30 - headroom x) ≤ signApart x) := by
  have hlt := signApart_lt hlo hhi
  rw [headroom_eq]
  generalize signApart x = y at hlt ⊢
  by_cases hy : y = 0
  · subst hy
    exact ⟨by decide, fun h => absurd h (by decide)⟩
  · have hlog : y.log2 < 31 := (Nat.log2_lt hy).mpr hlt
    rw [if_neg hy]
    constructor
    · rw [show 31 - (31 - y.log2 - 1) = y.log2 + 1 by omega]
      exact Nat.lt_log2_self
    · intro _
      rw [show 30 - (31 - y.log2 - 1) = y.log2 by omega]
      exact Nat.log2_self_le hy

/-- Where no bit differs from the sign, the headroom is all the places there are. -/
theorem headroom_lt_of_ne {x : Int} (h0 : x ≠ 0) (h1 : x ≠ -1) : headroom x < 31 := by
  have hy : signApart x ≠ 0 := by
    unfold signApart
    split <;> omega
  rw [headroom_eq, if_neg hy]
  omega

/-- A bit of a word is its sign, but where the word differs from the sign. -/
theorem getLsbD_signApart (w : Word) {i : Nat} (hi : i < 32) : w.getLsbD i = ((signApart w.toInt).testBit i ^^ w.msb) := by
  unfold signApart
  by_cases hneg : w.msb
  · have hlt : w.toInt < 0 := BitVec.toInt_neg_of_msb_true hneg
    have hnot : (-w.toInt - 1).toNat = (~~~w).toNat := by
      rw [BitVec.toInt_eq_msb_cond, if_pos hneg, BitVec.toNat_not]
      have := w.isLt
      omega
    rw [if_pos hlt, hnot, BitVec.testBit_toNat, BitVec.getLsbD_not, hneg]
    simp [hi]
  · have hge : ¬ w.toInt < 0 := not_lt.mpr (BitVec.toInt_nonneg_of_msb_false (by simpa using hneg))
    have hsame : w.toInt.toNat = w.toNat := by
      rw [BitVec.toInt_eq_msb_cond, if_neg hneg, Int.toNat_natCast]
    rw [if_neg hge, hsame, BitVec.testBit_toNat]
    simp [hneg]

/-- Settles O55: a word's bits are its sign but where the word differs from it, which is below the headroom. -/
theorem headroomCountsSignBits : Obligations.HeadroomCountsSignBits := by
  unfold Obligations.HeadroomCountsSignBits
  refine ⟨by decide, by decide, fun w h hh => ?_⟩
  obtain ⟨hlt, htop⟩ := headroom_bounds (BitVec.le_toInt w) BitVec.toInt_lt
  have hle := headroom_le w.toInt
  rw [← hh] at hlt htop hle
  have hsign : w.getLsbD 31 = w.msb := (BitVec.msb_eq_getLsbD_last w).symm
  refine ⟨hle, fun i hi => ?_, fun hlow => ?_, ?_⟩
  · have hclear : (signApart w.toInt).testBit (30 - i) = false :=
      Nat.testBit_lt_two_pow (lt_of_lt_of_le hlt (Nat.pow_le_pow_right (by decide) (by omega)))
    rw [hsign, getLsbD_signApart w (by omega), hclear, Bool.false_xor]
  · have hset : (signApart w.toInt).testBit (30 - h) = true :=
      Nat.testBit_of_two_pow_le_and_two_pow_add_one_gt (htop hlow) (by rwa [show 30 - h + 1 = 31 - h by omega])
    rw [hsign, getLsbD_signApart w (by omega), hset, Bool.true_xor]
    simp
  · have hmagnitude : w.toInt.natAbs ≤ signApart w.toInt + 1 := by
      unfold signApart
      split <;> omega
    omega

end Sys2Proof.Machine
end

section
/-!
PROOFS. The scalar, special-register and block-exponent rows of a core (R223, R229, R237, R241 to R243).
-/
namespace Sys2Proof.Machine

/-! ### Flags (R243) -/

theorem flagsZN_toInt (w : Word) : flagsZN w.toInt = [(.flag 0, if w = 0 then 1 else 0, 1), (.flag 1, if w.msb then 1 else 0, 1)] := by
  have hzero : w.toInt = 0 ↔ w = 0 := BitVec.toInt_inj (y := 0)
  have hneg : w.toInt < 0 ↔ w.msb = true := by
    rw [BitVec.msb_eq_toInt, decide_eq_true_eq]
  unfold flagsZN
  simp only [hzero, hneg]

/-- A sum of signed words overflows exactly where it does not wrap to itself. -/
theorem wrap32_fits (z : Int) : z = wrap32 z ↔ -2 ^ 31 ≤ z ∧ z < 2 ^ 31 := by
  rw [wrap32_eq, BitVec.toInt_ofInt]
  constructor
  · intro h
    rw [h]
    exact ⟨Int.le_bmod (by decide), Int.bmod_lt (by decide)⟩
  · rintro ⟨hlo, hhi⟩
    exact (Int.bmod_eq_of_le (by omega) (by omega)).symm

theorem flagsAdd_eq (x y : Word) : flagsAdd x y = [(.flag 0, if x + y = 0 then 1 else 0, 1), (.flag 1, if (x + y).msb then 1 else 0, 1),
    (.flag 2, if 2 ^ 32 ≤ x.toNat + y.toNat then 1 else 0, 1),
    (.flag 3, if -2 ^ 31 ≤ x.toInt + y.toInt ∧ x.toInt + y.toInt < 2 ^ 31 then 0 else 1, 1)] := by
  unfold flagsAdd
  simp only [signed_word, wrap32_natAdd, flagsZN_toInt]
  rw [← wrap32_add]
  simp only [wrap32_fits, List.cons_append, List.nil_append]

theorem flagsSub_eq (x y : Word) : flagsSub x y = [(.flag 0, if x = y then 1 else 0, 1), (.flag 1, if (x - y).msb then 1 else 0, 1),
    (.flag 2, if y.toNat ≤ x.toNat then 1 else 0, 1),
    (.flag 3, if -2 ^ 31 ≤ x.toInt - y.toInt ∧ x.toInt - y.toInt < 2 ^ 31 then 0 else 1, 1)] := by
  unfold flagsSub
  simp only [signed_word, wrap32_natSub, flagsZN_toInt, sub_eq_zero]
  rw [← wrap32_sub]
  simp only [wrap32_fits, List.cons_append, List.nil_append]

/-! ### Operands and results -/

/-- The low six bits of a word, as a shift count. -/
theorem fld_lowSix (w : Word) : fld w 5 0 = w.toNat % 64 := by
  unfold fld
  rw [Nat.shiftRight_zero]
  rfl

theorem simm8_eq (x c : Nat) : simm8 x c = (BitVec.ofNat 8 (16 * x + c)).toInt := signed_eq_toInt (by decide) _

theorem w32_simm8 (x c : Nat) : w32 (unsigned 32 (simm8 x c)) = (BitVec.ofNat 8 (16 * x + c)).signExtend 32 := by
  rw [w32_unsigned, simm8_eq]
  rfl

theorem wrap32_addImm (w : Word) (x c : Nat) : wrap32 (w.toInt + simm8 x c) = (w + (BitVec.ofNat 8 (16 * x + c)).signExtend 32).toInt := by
  rw [wrap32_eq, BitVec.ofInt_add, BitVec.ofInt_toInt, simm8_eq]
  rfl

theorem fdiv_sshiftRight (w : Word) (n : Nat) : fdiv w.toInt (2 ^ n) = (w.sshiftRight n).toInt := by
  rw [fdiv_two_pow, BitVec.toInt_sshiftRight, Int.shiftRight_eq_div_pow]
  norm_cast

/-- Twelve bits shifted into a word. -/
theorem wrap32_shiftIn (w : Word) {n : Nat} (hn : n < 4096) :
    wrap32 ((w.toNat * 4096 + n : Nat) : Int) = (w <<< 12 ||| BitVec.ofNat 32 n).toInt := by
  have hbits : w.toNat * 4096 + n = w.toNat <<< 12 ||| n := by
    rw [← Nat.shiftLeft_add_eq_or_of_lt hn, Nat.shiftLeft_eq]
  rw [wrap32_eq, BitVec.ofInt_natCast, hbits]
  congr 1
  refine BitVec.eq_of_toNat_eq ?_
  rw [BitVec.toNat_ofNat, BitVec.toNat_or, BitVec.toNat_shiftLeft, BitVec.toNat_ofNat, Nat.or_mod_two_pow]

theorem wrap32_shiftLeft (w : Word) (n : Nat) : wrap32 (w.toInt * 2 ^ n) = (w <<< n).toInt := by
  have hpow : BitVec.ofInt 32 (2 ^ n) = BitVec.twoPow 32 n := by
    refine BitVec.eq_of_toNat_eq ?_
    rw [BitVec.toNat_twoPow, ← BitVec.toNat_ofNat, ← BitVec.ofInt_natCast, Nat.cast_pow, Nat.cast_ofNat]
  rw [wrap32_eq, BitVec.ofInt_mul, BitVec.ofInt_toInt, hpow, BitVec.shiftLeft_eq_mul_twoPow]

/-- The least of four lanes, each within a bound. -/
theorem lanes_foldl_min {g : Nat → Nat} {c h : Nat} (hbound : ∀ l, g l ≤ c) (hlane : ∃ l, l < 4 ∧ h = g l)
    (hleast : ∀ l, l < 4 → h ≤ g l) : lanes.foldl (fun m l => min m (g l)) c = h := by
  have hfold : lanes.foldl (fun m l => min m (g l)) c = min (min (min (min c (g 0)) (g 1)) (g 2)) (g 3) := rfl
  have h0 := hleast 0 (by decide)
  have h1 := hleast 1 (by decide)
  have h2 := hleast 2 (by decide)
  have h3 := hleast 3 (by decide)
  obtain ⟨l, hl, rfl⟩ := hlane
  have hc := hbound l
  rw [hfold]
  interval_cases l <;> omega

/-! ### The operations -/

section Operations

variable (b : Bank) (d a x c : Nat)

theorem opAdd_eq : opAdd b d a x c = (.s d, (b.sw a + b.sw x).toInt, 1) :: flagsAdd (b.sw a) (b.sw x) := by
  unfold opAdd
  rw [Bank.si_eq, Bank.si_eq, wrap32_add]

theorem opSub_eq : opSub b d a x c = (.s d, (b.sw a - b.sw x).toInt, 1) :: flagsSub (b.sw a) (b.sw x) := by
  unfold opSub
  rw [Bank.si_eq, Bank.si_eq, wrap32_sub]

theorem opMul_eq : opMul b d a x c = scalZN d 2 (b.sw a * b.sw x).toInt := by
  unfold opMul
  rw [Bank.si_eq, Bank.si_eq, wrap32_mul]

theorem opAnd_eq : opAnd b d a x c = scalZN d 1 (b.sw a &&& b.sw x).toInt := congrArg (scalZN d 1) (signed_word _)

theorem opOr_eq : opOr b d a x c = scalZN d 1 (b.sw a ||| b.sw x).toInt := congrArg (scalZN d 1) (signed_word _)

theorem opXor_eq : opXor b d a x c = scalZN d 1 (b.sw a ^^^ b.sw x).toInt := congrArg (scalZN d 1) (signed_word _)

theorem opShl_eq : opShl b d a x c = scalZN d 1 (b.sw a <<< ((b.sw x).toNat % 64)).toInt := by
  unfold opShl
  rw [signed_word, fld_lowSix]

theorem opShr_eq : opShr b d a x c = scalZN d 1 (b.sw a >>> ((b.sw x).toNat % 64)).toInt := by
  unfold opShr
  rw [signed_word, fld_lowSix]

theorem opSar_eq : opSar b d a x c = scalZN d 1 ((b.sw a).sshiftRight ((b.sw x).toNat % 64)).toInt := by
  unfold opSar
  rw [Bank.si_eq, fld_lowSix, fdiv_sshiftRight]

theorem opMin_eq : opMin b d a x c = scalZN d 1 (min (b.sw a).toInt (b.sw x).toInt) := by
  unfold opMin
  rw [Bank.si_eq, Bank.si_eq]

theorem opMax_eq : opMax b d a x c = scalZN d 1 (max (b.sw a).toInt (b.sw x).toInt) := by
  unfold opMax
  rw [Bank.si_eq, Bank.si_eq]

theorem opAddi_eq {m : Word} (hm : m = (BitVec.ofNat 8 (16 * x + c)).signExtend 32) :
    opAddi b d a x c = (.s d, (b.sw a + m).toInt, 1) :: flagsAdd (b.sw a) m := by
  unfold opAddi
  rw [Bank.si_eq, wrap32_addImm, w32_simm8, hm]

theorem opCmpi_eq {m : Word} (hm : m = (BitVec.ofNat 8 (16 * x + c)).signExtend 32) : opCmpi b d a x c = flagsSub (b.sw a) m := by
  unfold opCmpi
  rw [w32_simm8, hm]

theorem opMovi_eq : opMovi b d a x c = [(.s d, (BitVec.ofNat 12 (256 * a + (16 * x + c))).toInt, 1)] := by
  unfold opMovi imm12
  rw [signed_eq_toInt (by decide), Nat.add_assoc]

theorem opMovu_eq (ha : a < 16) (hx : x < 16) (hc : c < 16) : opMovu b d a x c =
    [(.s d, (b.sw d <<< 12 ||| BitVec.ofNat 32 (256 * a + (16 * x + c))).toInt, 1)] := by
  unfold opMovu imm12
  rw [wrap32_shiftIn _ (by omega), Nat.add_assoc]

theorem opNorm_eq {h : Nat → Nat} (hh : ∀ l, h l = headroom (b.vi a l)) : opNorm b d a x c =
    vecW d 1 (fun l => (b.vw a l <<< h l).toInt) ++ vecW c 1 (fun l => (h l : Nat)) := by
  obtain rfl : h = fun l => headroom (b.vi a l) := funext hh
  unfold opNorm
  simp only [Bank.vi_eq, wrap32_shiftLeft]

section Least

variable {h : Nat}

theorem opExp_eq (hlane : ∃ l, l < 4 ∧ h = headroom (b.vi a l)) (hleast : ∀ l, l < 4 → h ≤ headroom (b.vi a l)) :
    opExp b d a x c = ([(.s d, (h : Nat), 1)] : List OW) := by
  unfold opExp
  rw [lanes_foldl_min (fun _ => headroom_le _) hlane hleast]

theorem opBexp_eq (hlane : ∃ l, l < 4 ∧ h = headroom (b.vi a l)) (hleast : ∀ l, l < 4 → h ≤ headroom (b.vi a l)) :
    opBexp b d a x c = ([(.bexpMin, (h : Nat), 1)] : List OW) := by
  unfold opBexp
  rw [lanes_foldl_min (fun _ => headroom_le _) hlane hleast]

theorem opAcexp_eq (hlane : ∃ l, l < 4 ∧ h = redundant80 (b.acc a l)) (hleast : ∀ l, l < 4 → h ≤ redundant80 (b.acc a l)) :
    opAcexp b d a x c = [(.s d, (h : Int) - 17, 3)] := by
  unfold opAcexp
  rw [lanes_foldl_min (fun _ => redundant80_le _) hlane hleast]

end Least

/-! #### MOVRS (R223) -/

variable {n j : Nat}

theorem opMovrs_pointer (h : imm8 x c = 4 * n + j) (hn : n < 8) (hj : j < 4) : opMovrs b d a x c =
    ([(.a n j, (if j = 2 ∧ 16384 < (b.sw a).toNat then 16384 else (b.sw a).toNat : Nat), 2)] : List OW) := by
  have hreg : (4 * n + j) / 4 = n := by omega
  have hfield : (4 * n + j) % 4 = j := by omega
  unfold opMovrs
  simp only [h, hreg, hfield]
  exact if_pos (by omega)

theorem opMovrs_lc0 (h : imm8 x c = 0x20) : opMovrs b d a x c = ([(.lc 0, (b.sw a).toNat, 2)] : List OW) := by
  unfold opMovrs
  simp only [h]
  rfl

theorem opMovrs_lc1 (h : imm8 x c = 0x21) : opMovrs b d a x c = ([(.lc 1, (b.sw a).toNat, 2)] : List OW) := by
  unfold opMovrs
  simp only [h]
  rfl

theorem opMovrs_flags (h : imm8 x c = 0x22) :
    opMovrs b d a x c = (List.range 6).map (fun j => ((.flag j, (b2n ((b.sw a).getLsbD j) : Nat), 2) : OW)) := by
  unfold opMovrs
  simp only [h]
  rfl

theorem opMovrs_bexp (h : imm8 x c = 0x23) : opMovrs b d a x c = ([(.bexp, ((b.sw a).toNat % 32 : Nat), 2)] : List OW) := by
  unfold opMovrs
  simp only [h]
  rfl

end Operations

/-- A shift by the headroom keeps a word's sign, and one place more does not (R237). -/
theorem headroom_shift {v : Int} (hlo : -2 ^ 31 ≤ v) (hhi : v < 2 ^ 31) (h0 : v ≠ 0) (h1 : v ≠ -1) :
    (-2 ^ 31 ≤ v * 2 ^ headroom v ∧ v * 2 ^ headroom v < 2 ^ 31) ∧
    ¬ (-2 ^ 31 ≤ v * 2 ^ (headroom v + 1) ∧ v * 2 ^ (headroom v + 1) < 2 ^ 31) := by
  have hlow := headroom_lt_of_ne h0 h1
  obtain ⟨hlt, htop⟩ := headroom_bounds hlo hhi
  have htop := htop hlow
  generalize headroom v = h at hlow hlt htop ⊢
  have hpow : (2 : Int) ^ (30 - h) * 2 ^ h = 2 ^ 30 := by
    rw [← pow_add]
    congr 1
    omega
  rw [show 31 - h = 30 - h + 1 by omega, pow_succ] at hlt
  have hwide : -(2 ^ (30 - h) * 2 : Int) ≤ v ∧ v < 2 ^ (30 - h) * 2 := by
    zify at hlt
    unfold signApart at hlt
    split at hlt <;> omega
  have hnarrow : v < -(2 ^ (30 - h) : Int) ∨ (2 ^ (30 - h) : Int) ≤ v := by
    zify at htop
    unfold signApart at htop
    split at htop <;> omega
  rw [pow_succ 2 h]
  generalize (2 : Int) ^ (30 - h) = e at hpow hwide hnarrow
  have hpos : (0 : Int) < 2 ^ h := by positivity
  generalize (2 : Int) ^ h = p at hpow hpos ⊢
  obtain ⟨hlow, hhigh⟩ := hwide
  refine ⟨⟨by nlinarith, by nlinarith⟩, ?_⟩
  rintro ⟨hge, hlt⟩
  rcases hnarrow with hnarrow | hnarrow <;> nlinarith

/-! ### The rows -/

/-- A compute row whose operation `o`, on the operand fields, gives the results `l` runs with them. -/
theorem Osier.runs.of_op {s : State} {k : Nat} {f : Slots} {b : Bank} {op : Nat} {c : Instr} {l : List OW}
    (o : Bank → Nat → Nat → Nat → Nat → List OW) (he : exec c s = s.act (fun t => Osier.issue t k (Operands.bundle op f)))
    (h60 : op ≠ 0x60)
    (ho : (Operands.bundle op f).compute b (Osier.core s k).xfers.length = o b f.d.toNat f.a.toNat f.b.toNat f.c.toNat)
    (hl : o b f.d.toNat f.a.toNat f.b.toNat f.c.toNat = l) : Osier.runs s k f b op c l :=
  Osier.runs_of he (fun _ => rfl) h60 (ho.trans hl)

/-- Settles O16: each row is its operation on the operand fields, whose results are those of the words read. -/
theorem osierScalarRowsRun : Obligations.OsierScalarRowsRun := by
  unfold Obligations.OsierScalarRowsRun
  refine ⟨?rows, flagsAdd_eq, flagsSub_eq, fun v => headroom_shift, by decide, by decide⟩
  case rows =>
    intro s k f b d a x c i8 hd ha hx hc hi8
    subst hd ha hx hc hi8
    refine ⟨.of_op opAdd (exec_add k f s) (by decide) rfl (opAdd_eq ..), .of_op opSub (exec_sub k f s) (by decide) rfl (opSub_eq ..),
      .of_op opAnd (exec_and k f s) (by decide) rfl (opAnd_eq ..), .of_op opOr (exec_or k f s) (by decide) rfl (opOr_eq ..),
      .of_op opXor (exec_xor k f s) (by decide) rfl (opXor_eq ..), ?shifts,
      .of_op opMin (exec_min k f s) (by decide) rfl (opMin_eq ..), .of_op opMax (exec_max k f s) (by decide) rfl (opMax_eq ..),
      .of_op opMul (exec_mul k f s) (by decide) rfl (opMul_eq ..), ?immediates,
      .of_op opCmp (exec_cmp k f s) (by decide) rfl rfl, .of_op opMovi (exec_movi k f s) (by decide) rfl (opMovi_eq ..),
      .of_op opMovu (exec_movu k f s) (by decide) rfl (opMovu_eq _ _ _ _ _ f.a.isLt f.b.isLt f.c.isLt),
      .of_op (opMovsr _) (exec_movsr k f s) (by decide) rfl rfl, ?pointer,
      fun h => .of_op opMovrs (exec_movrs k f s) (by decide) rfl (opMovrs_lc0 _ _ _ _ _ h),
      fun h => .of_op opMovrs (exec_movrs k f s) (by decide) rfl (opMovrs_lc1 _ _ _ _ _ h),
      fun h => .of_op opMovrs (exec_movrs k f s) (by decide) rfl (opMovrs_flags _ _ _ _ _ h),
      fun h => .of_op opMovrs (exec_movrs k f s) (by decide) rfl (opMovrs_bexp _ _ _ _ _ h),
      .of_op opBexpr (exec_bexpr k f s) (by decide) rfl rfl, ?least, ?acexp, ?norm⟩
    case shifts =>
      rintro n rfl
      exact ⟨.of_op opShl (exec_shl k f s) (by decide) rfl (opShl_eq ..), .of_op opShr (exec_shr k f s) (by decide) rfl (opShr_eq ..),
        .of_op opSar (exec_sar k f s) (by decide) rfl (opSar_eq ..)⟩
    case immediates =>
      intro m hm
      exact ⟨.of_op opAddi (exec_addi k f s) (by decide) rfl (opAddi_eq _ _ _ _ _ hm),
        .of_op opCmpi (exec_cmpi k f s) (by decide) rfl (opCmpi_eq _ _ _ _ _ hm)⟩
    case pointer =>
      intro n j h hn hj
      exact .of_op opMovrs (exec_movrs k f s) (by decide) rfl (opMovrs_pointer _ _ _ _ _ h hn hj)
    case least =>
      intro h hlane hleast
      exact ⟨.of_op opExp (exec_exp k f s) (by decide) rfl (opExp_eq _ _ _ _ _ hlane hleast),
        .of_op opBexp (exec_bexp k f s) (by decide) rfl (opBexp_eq _ _ _ _ _ hlane hleast)⟩
    case acexp =>
      intro h hlane hleast
      exact .of_op opAcexp (exec_acexp k f s) (by decide) rfl (opAcexp_eq _ _ _ _ _ hlane hleast)
    case norm =>
      intro h hh
      exact .of_op opNorm (exec_norm k f s) (by decide) rfl (opNorm_eq _ _ _ _ _ hh)

end Sys2Proof.Machine
end

section
/-!
PROOFS. The accumulator and extraction rows of a core (R236, R238, R241, R242).
-/
namespace Sys2Proof.Machine

/-! ### Parts of an accumulator lane -/

theorem unsigned_eq_toNat (n : Nat) (x : Int) : unsigned n x = (BitVec.ofInt n x).toNat := by
  rw [BitVec.toNat_ofInt]
  rfl

theorem ofInt_signed {n : Nat} (hn : 0 < n) (m : Nat) : BitVec.ofInt n (signed n m) = BitVec.ofNat n m := by
  rw [signed_eq_toInt hn, BitVec.ofInt_toInt]

/-- The bits of a word from bit `k` on, read as signed. -/
theorem signed_extract {m n : Nat} (hn : 0 < n) (w : BitVec m) (k : Nat) : signed n (w.toNat / 2 ^ k) = (w.extractLsb' k n).toInt := by
  rw [signed_eq_toInt hn, ← Nat.shiftRight_eq_div_pow]
  rfl

theorem toNat_append_eq {m n : Nat} (x : BitVec m) (y : BitVec n) : (x ++ y).toNat = x.toNat * 2 ^ n + y.toNat := by
  rw [BitVec.toNat_append, ← Nat.shiftLeft_add_eq_or_of_lt y.isLt, Nat.shiftLeft_eq]

theorem toNat_extract {m : Nat} (w : BitVec m) (k n : Nat) : (w.extractLsb' k n).toNat = w.toNat / 2 ^ k % 2 ^ n := by
  rw [BitVec.extractLsb'_toNat, Nat.shiftRight_eq_div_pow]

section Put

variable (x : Int) (w : Word)

theorem toNat_accPut (p n : Nat) {u : Nat} (hu : u = (BitVec.ofInt 80 x).toNat) : (BitVec.ofInt 80 (accPut x p n)).toNat =
    (if p = 0 then n % 2 ^ 32 + u / 2 ^ 32 % 2 ^ 32 * 2 ^ 32 + u / 2 ^ 64 * 2 ^ 64
      else if p = 1 then u % 2 ^ 32 + n % 2 ^ 32 * 2 ^ 32 + u / 2 ^ 64 * 2 ^ 64
      else u % 2 ^ 32 + u / 2 ^ 32 % 2 ^ 32 * 2 ^ 32 + n % 2 ^ 16 * 2 ^ 64) % 2 ^ 80 := by
  rw [← unsigned_eq_toNat] at hu
  subst hu
  unfold accPut
  rw [ofInt_signed (by decide), BitVec.toNat_ofNat]

theorem accPut_low : BitVec.ofInt 80 (accPut x 0 w.toNat) = (BitVec.ofInt 80 x).extractLsb' 32 48 ++ w := by
  refine BitVec.eq_of_toNat_eq ?_
  have hx := (BitVec.ofInt 80 x).isLt
  have hw := w.isLt
  rw [toNat_accPut x 0 w.toNat rfl, if_pos rfl, toNat_append_eq, toNat_extract]
  omega

theorem accPut_mid : BitVec.ofInt 80 (accPut x 1 w.toNat) =
    (BitVec.ofInt 80 x).extractLsb' 64 16 ++ w ++ (BitVec.ofInt 80 x).extractLsb' 0 32 := by
  refine BitVec.eq_of_toNat_eq ?_
  have hx := (BitVec.ofInt 80 x).isLt
  have hw := w.isLt
  rw [toNat_accPut x 1 w.toNat rfl, if_neg (by decide), if_pos rfl, toNat_append_eq, toNat_append_eq, toNat_extract, toNat_extract]
  omega

theorem accPut_high : BitVec.ofInt 80 (accPut x 2 w.toNat) = w.extractLsb' 0 16 ++ (BitVec.ofInt 80 x).extractLsb' 0 64 := by
  refine BitVec.eq_of_toNat_eq ?_
  have hx := (BitVec.ofInt 80 x).isLt
  rw [toNat_accPut x 2 w.toNat rfl, if_neg (by decide), if_neg (by decide), toNat_append_eq, toNat_extract, toNat_extract]
  omega

end Put

/-! ### The operations -/

theorem extractShift_eq (w : Word) : extractShift w = min 48 (w.toNat % 64) := by
  unfold extractShift
  rw [fld_lowSix]

section Operations

variable (b : Bank) (d a x c : Nat)

theorem opAcsh_left {n : Nat} (h : (BitVec.ofNat 8 (16 * x + c)).toInt = n) :
    opAcsh b d a x c = accSat d (fun l => b.acc a l * 2 ^ n) := by
  unfold opAcsh
  simp only [simm8_eq, h, Int.toNat_natCast]
  exact congrArg (accSat d) (funext fun _ => if_pos (Int.natCast_nonneg n))

theorem opAcsh_right {n : Nat} (h : (BitVec.ofNat 8 (16 * x + c)).toInt = -n) :
    opAcsh b d a x c = accSat d (fun l => b.acc a l / 2 ^ n) := by
  unfold opAcsh
  simp only [simm8_eq, h]
  congr 1
  funext l
  by_cases hn : n = 0
  · subst hn
    simp
  · rw [if_neg (by omega), neg_neg, Int.toNat_natCast, fdiv_two_pow]

section Get

variable {U : Nat → BitVec 80} (hU : ∀ l, U l = BitVec.ofInt 80 (b.acc a l))
include hU

theorem opAcget_low (h : 16 * x + c = 0) : opAcget b d a x c = vecW d 3 (fun l => ((U l).extractLsb' 0 32).toInt) := by
  have hpart (l : Nat) := signed_extract (n := 32) (by decide) (U l) 0
  unfold opAcget imm8
  simp only [h, unsigned_eq_toNat, ← hU, ← hpart]
  simp

theorem opAcget_mid (h : 16 * x + c = 1) : opAcget b d a x c = vecW d 3 (fun l => ((U l).extractLsb' 32 32).toInt) := by
  have hpart (l : Nat) := signed_extract (n := 32) (by decide) (U l) 32
  unfold opAcget imm8
  simp only [h, unsigned_eq_toNat, ← hU, ← hpart]
  simp

theorem opAcget_high (h : 16 * x + c = 2) : opAcget b d a x c = vecW d 3 (fun l => ((U l).extractLsb' 64 16).toInt) := by
  have hpart (l : Nat) := signed_extract (n := 16) (by decide) (U l) 64
  unfold opAcget imm8
  simp only [h, unsigned_eq_toNat, ← hU, ← hpart]
  simp

end Get

theorem opAcput_eq (h : 16 * x + c < 3) : opAcput b d a x c = lanes.map (fun l => (.acPart d l (16 * x + c), b.vi a l, 3)) := by
  unfold opAcput imm8
  rw [Nat.mod_eq_of_lt (by omega)]

section Extract

variable {e : Nat} (he : e = min 48 ((b.sw x).toNat % 64))
include he

theorem opActrn_eq : opActrn b d a x c = vecSat d 3 (fun l => b.acc a l / 2 ^ (31 + e)) := by
  unfold opActrn
  simp only [extractShift_eq, ← he, fdiv_two_pow]

variable {R : Nat → Int} (hR : ∀ l, R l = (b.acc a l + 2 ^ (30 + e)) / 2 ^ (31 + e))
include hR

theorem extractR_eq : extractR b a x = R := by
  funext l
  unfold extractR
  simp only [extractShift_eq, ← he, fdiv_two_pow, hR]

theorem opAcrnd_eq : opAcrnd b d a x c = vecSat d 3 R := by
  unfold opAcrnd
  rw [extractR_eq b a x he hR]

theorem opAcrndb_eq {h : Nat} (hlane : ∃ l, l < 4 ∧ h = headroom (satS 32 (R l))) (hleast : ∀ l, l < 4 → h ≤ headroom (satS 32 (R l))) :
    opAcrndb b d a x c = vecSat d 3 R ++ ([(.bexpMin, (h : Nat), 3)] : List OW) := by
  unfold opAcrndb
  rw [extractR_eq b a x he hR, lanes_foldl_min (fun _ => headroom_le _) hlane hleast]

end Extract

end Operations

/-- Settles O18: each row is its operation on the operand fields, and an accumulator lane is its three parts side by side. -/
theorem osierAccumulatorRowsRun : Obligations.OsierAccumulatorRowsRun := by
  unfold Obligations.OsierAccumulatorRowsRun
  refine ⟨?rows, fun x w _ _ => ⟨accPut_low x w, accPut_mid x w, accPut_high x w⟩⟩
  case rows =>
    intro s k f b d a x i8 e A X S hd ha hx hi8 hA hX hS he
    subst hd ha hx hi8
    obtain rfl : A = b.vi f.a.toNat := funext fun l => (hA l).trans (Bank.vi_eq b _ l).symm
    obtain rfl : X = b.vi f.b.toNat := funext fun l => (hX l).trans (Bank.vi_eq b _ l).symm
    obtain rfl : S = fun _ => b.si f.b.toNat := funext fun l => (hS l).trans (Bank.si_eq b _).symm
    refine ⟨.of_op opMpy (exec_mpy k f s) (by decide) rfl rfl, .of_op opMac (exec_mac k f s) (by decide) rfl rfl,
      .of_op opMsu (exec_msu k f s) (by decide) rfl rfl, .of_op opMpys (exec_mpys k f s) (by decide) rfl rfl,
      .of_op opMacs (exec_macs k f s) (by decide) rfl rfl, .of_op opMsus (exec_msus k f s) (by decide) rfl rfl,
      .of_op opAcclr (exec_acclr k f s) (by decide) rfl rfl, .of_op opAcld (exec_acld k f s) (by decide) rfl rfl,
      .of_op opAcadd (exec_acadd k f s) (by decide) rfl rfl, .of_op opAcaddv (exec_acaddv k f s) (by decide) rfl rfl,
      .of_op opAcsubv (exec_acsubv k f s) (by decide) rfl rfl, .of_op opVbf (exec_vbf k f s) (by decide) rfl rfl,
      .of_op opAcsum (exec_acsum k f s) (by decide) rfl rfl, fun n => ⟨?shiftLeft, ?shiftRight⟩, fun U hU => ⟨?low, ?mid, ?high⟩,
      fun h => .of_op opAcput (exec_acput k f s) (by decide) rfl (opAcput_eq _ _ _ _ _ h), fun R hR => ⟨?round, fun h hlane hleast => ?roundBlock⟩,
      .of_op opActrn (exec_actrn k f s) (by decide) rfl (opActrn_eq _ _ _ _ _ he)⟩
    case shiftLeft => exact fun h => .of_op opAcsh (exec_acsh k f s) (by decide) rfl (opAcsh_left _ _ _ _ _ h)
    case shiftRight => exact fun h => .of_op opAcsh (exec_acsh k f s) (by decide) rfl (opAcsh_right _ _ _ _ _ h)
    case low => exact fun h => .of_op opAcget (exec_acget k f s) (by decide) rfl (opAcget_low _ _ _ _ _ hU h)
    case mid => exact fun h => .of_op opAcget (exec_acget k f s) (by decide) rfl (opAcget_mid _ _ _ _ _ hU h)
    case high => exact fun h => .of_op opAcget (exec_acget k f s) (by decide) rfl (opAcget_high _ _ _ _ _ hU h)
    case round => exact .of_op opAcrnd (exec_acrnd k f s) (by decide) rfl (opAcrnd_eq _ _ _ _ _ he hR)
    case roundBlock => exact .of_op opAcrndb (exec_acrndb k f s) (by decide) rfl (opAcrndb_eq _ _ _ _ _ he hR hlane hleast)

end Sys2Proof.Machine
end

section
/-!
PROOFS. Where control goes after a bundle: branches, delay slots and loops (R244 to R248).
-/
namespace Sys2Proof.Machine

/-! ### Loop levels (R246) -/

theorem Bank.endLevel_none {b : Bank} {pc : Nat} (h : ∀ l, l ∈ b.loops → l.2 ≠ pc) : b.endLevel pc = (b, true) := by
  unfold Bank.endLevel
  rcases hl : b.loops with - | ⟨⟨first, last⟩, - | ⟨⟨first', last'⟩, rest⟩⟩
  · rfl
  · have hlast : last ≠ pc := h (first, last) (by simp [hl])
    simp [hlast]
  · have hlast : last ≠ pc := h (first, last) (by simp [hl])
    have hlast' : last' ≠ pc := h (first', last') (by simp [hl])
    simp [hlast, hlast']

section Level

variable {b : Bank} {pc first : Nat} {rest : List (Nat × Nat)} (hl : b.loops = (first, pc) :: rest)
include hl

/-- The innermost level ends its body and has passes left. -/
theorem Bank.endLevel_again {i n : Nat} (hi : i = if rest = [] then 0 else 1) (hn : n = (if rest = [] then b.lc0 else b.lc1).toNat)
    (h : 1 < n) : b.endLevel pc = ({ b.setLc i (n - 1) with pc := first }, true) := by
  subst hi hn
  unfold Bank.endLevel
  simp only [hl, if_true]
  rw [if_pos (by omega)]

/-- The innermost level ends with its last pass. -/
theorem Bank.endLevel_last {i n : Nat} (hi : i = if rest = [] then 0 else 1) (hn : n = (if rest = [] then b.lc0 else b.lc1).toNat)
    (h : n = 1) : b.endLevel pc = ({ b.setLc i 0 with loops := rest }, false) := by
  subst hi hn
  unfold Bank.endLevel
  simp only [hl, if_true, h]
  rfl

end Level

/-- The outer level ends its body and has passes left, with an inner level that a branch has left. -/
theorem Bank.endLevel_outer {b : Bank} {pc first : Nat} {q : Nat × Nat} (hl : b.loops = [q, (first, pc)]) (hq : q.2 ≠ pc)
    (h : 1 < b.lc0.toNat) : b.endLevel pc = ({ b.setLc 0 (b.lc0.toNat - 1) with pc := first }, true) := by
  unfold Bank.endLevel
  simp only [hl, if_neg hq, ne_eq, not_true, if_false, if_pos h]

/-- The bank at the bundle that follows, one delay slot on. -/
def Bank.next (b : Bank) : Bank := { b with delay := b.delay - 1, pc := b.pc + 1 }

theorem Bank.setLc_next (b : Bank) (i n : Nat) : b.next.setLc i n = { b.setLc i n with delay := b.delay - 1, pc := b.pc + 1 } := by
  unfold Bank.setLc Bank.next
  split <;> rfl

theorem Bank.advance_eq (b : Bank) :
    b.advance = if (b.next.endLevel b.pc).2 then (b.next.endLevel b.pc).1 else ((b.next.endLevel b.pc).1.endLevel b.pc).1 := rfl

/-- Away from the ends of bodies the next bundle follows. -/
theorem Bank.advance_plain {b : Bank} (h : ∀ l, l ∈ b.loops → l.2 ≠ b.pc) : b.advance = b.next := by
  rw [Bank.advance_eq, Bank.endLevel_none (b := b.next) h]
  rfl

/-- At the end of the innermost body control returns to its first bundle while passes are left. -/
theorem Bank.advance_again {b : Bank} {first : Nat} {rest : List (Nat × Nat)} (hl : b.loops = (first, b.pc) :: rest) {i n : Nat}
    (hi : i = if rest = [] then 0 else 1) (hn : n = (if rest = [] then b.lc0 else b.lc1).toNat) (h : 1 < n) :
    b.advance = { b.setLc i (n - 1) with delay := b.delay - 1, pc := first } := by
  rw [Bank.advance_eq, Bank.endLevel_again (b := b.next) hl hi hn h, Bank.setLc_next]
  rfl

/-- At the end of the last pass the level ends, and control goes on where no other body ends. -/
theorem Bank.advance_last {b : Bank} {first : Nat} {rest : List (Nat × Nat)} (hl : b.loops = (first, b.pc) :: rest) {i n : Nat}
    (hi : i = if rest = [] then 0 else 1) (hn : n = (if rest = [] then b.lc0 else b.lc1).toNat) (h : n = 1)
    (hrest : ∀ l, l ∈ rest → l.2 ≠ b.pc) :
    b.advance = { b.setLc i 0 with delay := b.delay - 1, pc := b.pc + 1, loops := rest } := by
  rw [Bank.advance_eq, Bank.endLevel_last (b := b.next) hl hi hn h, Bank.setLc_next, Bank.endLevel_none hrest]
  rfl

/-- At the end of the outer body control returns to its first bundle, with an inner level still active. -/
theorem Bank.advance_outer {b : Bank} {first : Nat} {q : Nat × Nat} (hl : b.loops = [q, (first, b.pc)]) (hq : q.2 ≠ b.pc)
    (h : 1 < b.lc0.toNat) : b.advance = { b.setLc 0 (b.lc0.toNat - 1) with delay := b.delay - 1, pc := first } := by
  rw [Bank.advance_eq, Bank.endLevel_outer (b := b.next) hl hq h]
  rfl

/-! ### The flow of a bundle (R244 to R248) -/

/-- A branch leaves two delay slots, and its target where it is taken. -/
theorem Osier.flow_branch {i : Bundle} (h : i.op = 1 ∨ i.op = 2 ∨ i.op = 3) (b : Bank) : Osier.flow i b =
    { b with delay := 2, target := if i.takes b then some (i.target b) else none, pc := b.pc + 1 } := by
  unfold Osier.flow Bundle.isLoop Bundle.isBranch
  rcases h with h | h | h <;> simp [h]

section Loop

variable {i : Bundle} (h : i.op = 4 ∨ i.op = 5) {b : Bank}
include h

theorem Osier.isLoop_of_op : i.isLoop = true := by
  unfold Bundle.isLoop
  rcases h with h | h <;> simp [h]

/-- A loop without passes skips its body. -/
theorem Osier.flow_loop_skip (hn : i.loopCount b = 0) : Osier.flow i b = { b with pc := b.pc + 1 + imm8 i.b i.c } :=
  if_pos ⟨Osier.isLoop_of_op h, hn⟩

/-- A loop with passes opens a level. -/
theorem Osier.flow_loop_open (hn : i.loopCount b ≠ 0) : Osier.flow i b = b.openLevel (i.loopCount b) (imm8 i.b i.c) := by
  unfold Osier.flow
  rw [if_neg fun hskip => hn hskip.2, if_pos (Osier.isLoop_of_op h)]

end Loop

/-- ENDL drops the innermost level. -/
theorem Osier.flow_endl {i : Bundle} (h : i.op = 6) (b : Bank) : Osier.flow i b = { b with pc := b.pc + 1, loops := b.loops.tail } := by
  unfold Osier.flow Bundle.isLoop
  simp [h]

/-- A bundle that is no branch, loop or end of a level takes the branch that waits, or goes on. -/
theorem Osier.flow_plain {i : Bundle} (h : i.isFlow = false) (b : Bank) : Osier.flow i b =
    if b.delay = 1 ∧ b.target.isSome then { b with delay := 0, target := none, pc := b.target.getD 0 } else b.advance := by
  unfold Bundle.isFlow at h
  simp only [Bool.or_eq_false_iff] at h
  obtain ⟨⟨⟨hbranch, hloop⟩, hend⟩, -⟩ := h
  have hop : i.op ≠ 6 := by simpa using hend
  unfold Osier.flow
  rw [if_neg (by simp [hloop]), if_neg (by simp [hloop]), if_neg hop, if_neg (by simp [hbranch])]

/-- The low twelve bits of a word. -/
theorem fld_lowTwelve (w : Word) : fld w 11 0 = w.toNat % 4096 := by
  unfold fld
  rw [Nat.shiftRight_zero]
  rfl

/-- Settles O19: each branch of the flow by its opcode, and each end of a body by the levels that are open. -/
theorem osierControlRowsRun : Obligations.OsierControlRowsRun := by
  unfold Obligations.OsierControlRowsRun
  refine ⟨fun s k f b => ?rows, ?flow, ?plain, ?conditions⟩
  case rows =>
    exact ⟨Osier.runs_of (exec_nop k f s) (fun _ => rfl) (by decide) rfl, Osier.runs_of (exec_br k f s) (fun _ => rfl) (by decide) rfl,
      Osier.runs_of (exec_call k f s) (fun _ => rfl) (by decide) rfl, Osier.runs_of (exec_jr k f s) (fun _ => rfl) (by decide) rfl,
      Osier.runs_of (exec_loop k f s) (fun _ => rfl) (by decide) rfl, Osier.runs_of (exec_loopi k f s) (fun _ => rfl) (by decide) rfl,
      Osier.runs_of (exec_endl k f s) (fun _ => rfl) (by decide) rfl⟩
  case flow =>
    intro f b d a i12 i8 hd ha hi8 hi12
    subst hd ha hi8
    have himm : imm12 f.a.toNat f.b.toNat f.c.toNat = i12 := by
      unfold imm12
      omega
    refine ⟨fun t ht => ⟨?br, ?jr⟩, ?call, fun op n hop => ?loops, Osier.flow_endl rfl b⟩
    case br =>
      rw [Osier.flow_branch (Or.inl rfl), ht, ← himm]
      rfl
    case jr =>
      rw [Osier.flow_branch (Or.inr (Or.inr rfl)), ht, ← fld_lowTwelve]
      rfl
    case call =>
      rw [Osier.flow_branch (Or.inr (Or.inl rfl)), ← himm]
      rfl
    case loops =>
      have hkind : op = 4 ∨ op = 5 := hop.imp And.left And.left
      have hcount : (Operands.bundle op f).loopCount b = n := by
        rcases hop with ⟨rfl, rfl⟩ | ⟨rfl, rfl⟩ <;> rfl
      refine ⟨fun hn => Osier.flow_loop_skip hkind (hcount.trans hn), fun hn hl => ?_, fun hn l hl => ?_⟩
      · rw [Osier.flow_loop_open hkind (by rwa [hcount]), hcount]
        unfold Bank.openLevel
        simp only [hl, if_true]
        rfl
      · rw [Osier.flow_loop_open hkind (by rwa [hcount]), hcount]
        unfold Bank.openLevel
        simp only [hl]
        rfl
  case plain =>
    intro i b hi
    rw [Osier.flow_plain hi]
    refine ⟨fun hd x hx => ?taken, fun hgo => ?goes⟩
    case taken =>
      rw [if_pos ⟨hd, by rw [hx]; rfl⟩, hx]
      rfl
    case goes =>
      rw [if_neg (by rintro ⟨hd, ht⟩; rcases hgo with h | h; exact h hd; simp [h] at ht)]
      exact ⟨Bank.advance_plain, fun p hl => ⟨Bank.advance_again hl (i := 0) rfl rfl, fun hn => Bank.advance_last hl (i := 0) rfl rfl hn (by simp)⟩,
        fun p q hl hq hn => Bank.advance_outer hl hq hn,
        fun p q hl => ⟨Bank.advance_again hl (i := 1) rfl rfl, fun hn hq => Bank.advance_last hl (i := 1) rfl rfl hn (by simpa using hq)⟩,
        fun n => ⟨rfl, rfl, rfl, rfl, rfl, rfl⟩⟩
  case conditions =>
    intro b z n c v sat hz hn hc hv hsat
    subst hz hn hc hv hsat
    simp only [List.range, List.range.loop, List.map, condHolds, Bank.flag]
    generalize b.flags.testBit 0 = z
    generalize b.flags.testBit 1 = n
    generalize b.flags.testBit 2 = c
    generalize b.flags.testBit 3 = v
    generalize b.flags.testBit 4 = sat
    revert z n c v sat
    decide

end Sys2Proof.Machine
end

section
/-!
PROOFS. The statement on write-backs that become visible (R229 to R231), and that the commands of the cores complete.
-/
namespace Sys2Proof.Machine

/-! ### Write-backs (R229 to R231) -/

/-- A bank whose one write-back, of 5 to lane 0 of V1, is due. -/
def Bank.laneDue : Bank := { wbs := [{ due := 0, issue := 0, dest := .v 1 0, val := 5 }] }

/-- A write-back to a vector register has the register's number for its key, whatever its lane. -/
theorem Bank.laneDue_key : ∀ w ∈ Bank.laneDue.wbs, w.dest.key = 1 := by decide

theorem Bank.laneDue_settle : Bank.laneDue.vw 1 0 = 0 ∧ Bank.laneDue.settle.vw 1 0 = 5 := by decide

/-- Refutes O24: its last clause looks for the write-backs of lane l of V r under the key 4r + l, where the model's key is r. The write-back
of 5 to lane 0 of V1 has the key 1, so that none is found under 4, and the register is claimed to keep its 0; it takes the 5. -/
theorem not_writeBacksBecomeVisible : ¬ Obligations.WriteBacksBecomeVisible := by
  unfold Obligations.WriteBacksBecomeVisible
  rintro ⟨-, -, hkept⟩
  obtain ⟨hlane, -⟩ := hkept Bank.laneDue 1 0
  have hsame : Bank.laneDue.settle.vw 1 0 = Bank.laneDue.vw 1 0 := by
    refine hlane fun w hw _ hkey => ?_
    rw [Bank.laneDue_key w hw] at hkey
    omega
  obtain ⟨hbefore, hafter⟩ := Bank.laneDue_settle
  rw [hbefore, hafter] at hsame
  exact absurd hsame (by decide)

/-! ### Completion -/

/-- Rows of a list that come one by one to the issue of the bundle with their opcode do so each. -/
theorem exec_issueRow {k : Nat} {f : Slots} {s : State} {l : List (Nat × Instr)}
    (h : l.map (fun p => exec p.2 s) = l.map (fun p => s.act (fun t => Osier.issue t k (Operands.bundle p.1 f)))) {op : Nat} {c : Instr}
    (hrow : (op, c) ∈ l) : exec c s = s.act (fun t => Osier.issue t k (Operands.bundle op f)) := List.map_inj_left.mp h _ hrow

/-- Settles O45: each command is its own operation between the common begin and end of a command, and a running device carries it
out. -/
theorem coreCommandsComplete : Obligations.CoreCommandsComplete := fun s hrun =>
  ⟨fun _ _ _ _ hrow => completes_act (exec_issueRow rfl hrow) hrun rfl,
    fun _ _ _ _ _ => completes_act (exec_ldv _ _ _ _ _ s) hrun rfl,
    fun _ _ _ _ _ => completes_act (exec_stv _ _ _ _ _ s) hrun rfl,
    fun _ _ _ _ _ => completes_act (exec_lds _ _ _ _ _ s) hrun rfl,
    fun _ _ _ _ _ => completes_act (exec_sts _ _ _ _ _ s) hrun rfl,
    fun _ _ _ _ _ => completes_act (exec_ldb _ _ _ _ _ s) hrun rfl,
    fun _ _ _ _ => completes_act (exec_upd _ _ _ _ s) hrun rfl,
    fun _ _ _ _ => completes_act (exec_updr _ _ _ _ s) hrun rfl,
    fun _ _ _ _ => completes_act (exec_waitx _ _ _ _ s) hrun rfl,
    fun _ _ _ _ => completes_act (exec_done _ _ _ _ s) hrun rfl,
    fun _ _ _ _ => completes_act (exec_satclr _ _ _ _ s) hrun rfl,
    fun _ _ _ _ => completes_act (exec_instructionWrite _ _ _ _ s) hrun rfl,
    fun _ => completes_act (exec_transferComplete _ s) hrun rfl,
    fun _ => completes_act (exec_osierWindowAccessRelease _ s) hrun rfl,
    fun _ => completes_act (exec_injectParity _ s) hrun rfl,
    fun _ => completes_act (exec_injectResidue _ s) hrun rfl⟩

end Sys2Proof.Machine
end

section
/-!
PROOFS. What a bundle that no rule stops writes back: the results of its slots, its moves and its pointers (R229, R233 to R235, R249).
-/
namespace Sys2Proof.Machine

/-! ### The bank after the bundle (R229) -/

/-- The write-back that a result of a bundle of `b` becomes. -/
def Bank.writeBack (b : Bank) (w : OW) : WriteBack := { due := b.issued + w.2.2, issue := b.issued, dest := w.1, val := w.2.1 }

/-- The results of all slots of the bundle that core `k` issues in `s` with bank `b`. -/
def Osier.results (s : State) (k : Nat) (i : Bundle) (b : Bank) : List OW :=
  i.compute b (Osier.core s k).xfers.length ++ Osier.fabricRead s i b ++ Osier.companions (Osier.settled s.begin k) k i

section Ready

variable {s : State} {k : Nat} {i : Bundle} {b : Bank} (hr : Osier.ready s k i b) (hdone : i.isDone = false)
  (hpc : (Osier.flow i b).pc < 4096)
include hr hdone hpc

theorem Osier.issue_bank : Osier.ranBank s (Osier.issue s.begin k i) k = Osier.bankAfter i b (Osier.results s k i b) s.clk.mono := by
  obtain ⟨ws, hws, hcore, -⟩ := Osier.issue_core hr hdone hpc
  have hsame : (Osier.core (Osier.settled s.begin k) k).inBank1 = (Osier.core s k).inBank1 := Osier.settled_inBank1 s.begin k
  obtain rfl : ws = Osier.results s k i b := hws
  unfold Osier.ranBank
  rw [hcore]
  unfold Osier.afterCore CoreSt.setBank
  rw [hsame, Osier.ready_bank hr]
  cases (Osier.core s k).inBank1 <;> rfl

theorem Osier.issue_wbs :
    (Osier.ranBank s (Osier.issue s.begin k i) k).wbs = b.wbs ++ (Osier.results s k i b).map b.writeBack := by
  rw [Osier.issue_bank hr hdone hpc]
  unfold Osier.bankAfter
  rw [Osier.flow_queue]
  rfl

/-- Each result of a slot joins the write-backs. -/
theorem Osier.result_joins {w : OW} (hw : w ∈ Osier.results s k i b) :
    b.writeBack w ∈ (Osier.ranBank s (Osier.issue s.begin k i) k).wbs := by
  rw [Osier.issue_wbs hr hdone hpc]
  exact List.mem_append_right _ (List.mem_map_of_mem hw)

/-- A write-back that joins is the result of a slot. -/
theorem Osier.joined_result {v : WriteBack} (hv : v ∈ (Osier.ranBank s (Osier.issue s.begin k i) k).wbs) (hnew : v ∉ b.wbs) :
    ∃ w, w ∈ Osier.results s k i b ∧ v = b.writeBack w := by
  rw [Osier.issue_wbs hr hdone hpc] at hv
  obtain ⟨w, hw, rfl⟩ := List.mem_map.mp ((List.mem_append.mp hv).resolve_left hnew)
  exact ⟨w, hw, rfl⟩

/-- The row completes; control has moved on, one more bundle has issued, and no stall is left. -/
theorem Osier.completes_ran {c : Instr} {P : State → Prop} (hexec : exec c s = s.act (fun t => Osier.issue t k i))
    (h : P (Osier.issue s.begin k i)) : Completes c s (fun t => (Osier.ranBank s t k).pc = (Osier.flow i b).pc ∧
      (Osier.ranBank s t k).issued = b.issued + 1 ∧ (Osier.ranBank s t k).stall = none ∧ P t) := by
  refine completes_issue hexec hr ⟨?_, ?_, ?_, h⟩ <;> rw [Osier.issue_bank hr hdone hpc] <;> unfold Osier.bankAfter
  · rw [Osier.flow_queue]
  · rfl
  · rfl

end Ready

theorem Osier.mem_companions {s : State} {k : Nat} {i : Bundle} {w : OW} : w ∈ Osier.companions s k i ↔
    w ∈ Osier.loaded s k i ∨ w ∈ i.pointers (Osier.core s k).active ∨ i.ctl / 256 = 5 ∧ w = (Dest.flag 4, 0, 1) := by
  unfold Osier.companions
  rw [List.mem_append, List.mem_append, or_assoc]
  split <;> simp_all

/-! ### Pointers (R234, R235) -/

section Tables

variable {α : Type} {t : Tab α} {j k : Nat} {u v : α}

theorem Tab.mem_put_self : (k, v) ∈ Tab.put t k v := by
  induction t with
  | nil => exact List.mem_singleton_self _
  | cons e t ih =>
    unfold Tab.put
    split
    · exact List.mem_cons_self
    · split
      · exact List.mem_cons_self
      · exact List.mem_cons_of_mem _ ih

theorem Tab.mem_put_of_ne (hj : j ≠ k) (h : (j, u) ∈ t) : (j, u) ∈ Tab.put t k v := by
  induction t with
  | nil => cases h
  | cons e t ih =>
    unfold Tab.put
    split
    · exact List.mem_cons_of_mem _ h
    · rcases List.mem_cons.mp h with rfl | h
      · rw [if_neg (Ne.symm hj)]
        exact List.mem_cons_self
      · split
        · exact List.mem_cons_of_mem _ h
        · exact List.mem_cons_of_mem _ (ih h)

theorem Tab.mem_erase_of_ne (hj : j ≠ k) (h : (j, u) ∈ t) : (j, u) ∈ Tab.erase t k := by
  induction t with
  | nil => cases h
  | cons e t ih =>
    unfold Tab.erase
    rcases List.mem_cons.mp h with rfl | h
    · rw [if_neg hj]
      exact List.mem_cons_self
    · split
      · exact ih h
      · exact List.mem_cons_of_mem _ (ih h)

end Tables

section Modify

variable (b : Bank) {n j : Nat} (rev : Bool) (x : Int) {st : Tab Nat × Bool}

/-- A post-modify of a pointer that nothing has moved before in the bundle. -/
theorem Osier.modify_result (h : Tab.get (fun i => b.af i 0) st.1 n = b.af n 0) :
    (n, (postModify rev (b.af n 0) (b.af n 1) (b.af n 2) x).1) ∈ (Osier.modify b n rev x st).1 := by
  unfold Osier.modify
  simp only [h]
  exact Tab.mem_put_self

theorem Osier.modify_keeps (hj : j ≠ n) {q : Nat} (h : (j, q) ∈ st.1) : (j, q) ∈ (Osier.modify b n rev x st).1 :=
  Tab.mem_put_of_ne hj (Tab.mem_erase_of_ne hj h)

theorem Osier.modify_adds (hj : j ≠ n) {q : Nat} (h : (j, q) ∈ (Osier.modify b n rev x st).1) : (j, q) ∈ st.1 := by
  rcases Tab.mem_put h with heq | hmem
  · exact absurd (congrArg Prod.fst heq) hj
  · exact Tab.mem_erase hmem

theorem Osier.modify_apart (hj : j ≠ n) :
    Tab.get (fun i => b.af i 0) (Osier.modify b n rev x st).1 j = Tab.get (fun i => b.af i 0) st.1 j :=
  (Tab.get_put_ne _ _ _ hj).trans (Tab.get_erase_ne _ _ hj)

end Modify

/-- The number of the register file's pointer that a move slot names. -/
def Move.pointer (m : Move) (y : Bool) : Nat := if y then 4 + m.areg else m.areg

/-- The move in the X slot of a bundle, or in its Y slot. -/
def Bundle.move (i : Bundle) (y : Bool) : Move := Move.ofNat (if y then i.y else i.x)

/-- The two move slots name pointers of different files. -/
theorem Bundle.pointer_apart (i : Bundle) (y : Bool) : (i.move y).pointer y ≠ (i.move (!y)).pointer (!y) := by
  have hareg : (i.move false).areg < 4 := Nat.mod_lt _ (by decide)
  unfold Move.pointer
  cases y <;> simp <;> omega

/-- The post-modify that a move makes, if any, on the pointers moved before in the bundle. -/
def Osier.moveStep (b : Bank) (m : Move) (n : Nat) (st : Tab Nat × Bool) : Tab Nat × Bool :=
  if m.op = 0 ∨ m.mod = 0 then st
  else if m.mod = 1 then Osier.modify b n false (m.width : Nat) st
  else Osier.modify b n (m.mod == 3) (signed 16 (b.af n 3)) st

/-- The update of one of the control slot's pointers, if it is enabled. -/
def Osier.updateStep (b : Bank) (rev : Bool) (en n : Nat) (st : Tab Nat × Bool) : Tab Nat × Bool :=
  if en = 0 then st else Osier.modify b n rev (signed 16 (b.af n 3)) st

/-- The pointers after the moves of a bundle. -/
def Osier.movedPointers (i : Bundle) (b : Bank) : Tab Nat × Bool :=
  Osier.moveStep b (i.move true) ((i.move true).pointer true)
    (Osier.moveStep b (i.move false) ((i.move false).pointer false) ([], false))

/-- The writes of moved pointers. -/
def Osier.pointerWrites (st : Tab Nat × Bool) : List OW :=
  st.1.map (fun e => (Dest.a e.1 0, (e.2 : Int), 1)) ++ (if st.2 then [(Dest.flag 5, 1, 1)] else [])

theorem Osier.mem_pointerWrites {st : Tab Nat × Bool} {n q : Nat} (h : (n, q) ∈ st.1) :
    (Dest.a n 0, (q : Int), 1) ∈ Osier.pointerWrites st :=
  List.mem_append_left _ (List.mem_map.mpr ⟨_, h, rfl⟩)

theorem Osier.pointerWrites_moved {st : Tab Nat × Bool} {n f : Nat} {w : OW} (hw : w ∈ Osier.pointerWrites st) (hdest : w.1 = .a n f) :
    ∃ q, (n, q) ∈ st.1 := by
  rcases List.mem_append.mp hw with hw | hw
  · obtain ⟨e, he, rfl⟩ := List.mem_map.mp hw
    obtain ⟨rfl, -⟩ := Dest.a.inj hdest
    exact ⟨e.2, he⟩
  · split at hw
    · obtain rfl := List.mem_singleton.mp hw
      cases hdest
    · cases hw

theorem Bundle.pointers_moves {i : Bundle} (h1 : i.ctl / 256 ≠ 1) (h2 : i.ctl / 256 ≠ 2) (b : Bank) :
    i.pointers b = Osier.pointerWrites (Osier.movedPointers i b) := by
  unfold Bundle.pointers
  simp only [h1, h2, or_self, if_false]
  rfl

theorem Bundle.pointers_updates {i : Bundle} {rev : Bool} (h : i.ctl / 256 = if rev then 2 else 1) (b : Bank) :
    i.pointers b = Osier.pointerWrites (Osier.updateStep b rev (i.ctl / 8 % 2) (i.ctl % 8)
      (Osier.updateStep b rev (i.ctl / 128 % 2) (i.ctl / 16 % 8) (Osier.movedPointers i b))) := by
  unfold Bundle.pointers
  cases rev <;> simp only [h] <;> rfl

end Sys2Proof.Machine
end

section
/-!
PROOFS. The moves of a bundle: what they load, store and post-modify (R225, R233 to R235, R256).
-/
namespace Sys2Proof.Machine

/-! ### Slots (R233, R249) -/

theorem Move.ofNat_slot {o : Nat} (ho : o < 8) (m : MoveArgs) : Move.ofNat (Operands.slot o m).toNat =
    { op := o, r := m.r.toNat, areg := m.areg.toNat, mod := m.mod.toNat, res := 0 } := by
  have hr := m.r.isLt
  have hareg := m.areg.isLt
  have hmod := m.mod.isLt
  unfold Move.ofNat Operands.slot at_
  simp only [BitVec.toNat_ofNat, Nat.shiftLeft_eq, Move.mk.injEq]
  omega

theorem Operands.withMove_move (op : Nat) (f : Slots) (y : Bool) {o : Nat} (ho : o < 8) (m : MoveArgs) :
    (Operands.bundle op (Operands.withMove f y o m)).move y =
      { op := o, r := m.r.toNat, areg := m.areg.toNat, mod := m.mod.toNat, res := 0 } := by
  cases y <;> exact Move.ofNat_slot ho m

theorem Operands.withMove_other (op : Nat) (f : Slots) (y : Bool) (o : Nat) (m : MoveArgs)
    (h : (if y then f.x else f.y) = 0) : ((Operands.bundle op (Operands.withMove f y o m)).move (!y)).op = 0 := by
  unfold Bundle.move Operands.bundle Operands.withMove
  cases y
  · simp only [Bool.false_eq_true, if_false] at h
    simp [h, Move.ofNat]
  · simp only [if_true] at h
    simp [h, Move.ofNat]

theorem Operands.withMove_ctl (op : Nat) (f : Slots) (y : Bool) (o : Nat) (m : MoveArgs) :
    (Operands.bundle op (Operands.withMove f y o m)).ctl = f.ctl.toNat := by
  cases y <;> rfl

/-! ### Pointers -/

section Step

variable (b : Bank) (m : Move) {n j q : Nat} {st : Tab Nat × Bool}

theorem Osier.moveStep_cases (n : Nat) (st : Tab Nat × Bool) :
    Osier.moveStep b m n st = st ∨ ∃ rev x, Osier.moveStep b m n st = Osier.modify b n rev x st := by
  unfold Osier.moveStep
  split
  · exact Or.inl rfl
  · split <;> exact Or.inr ⟨_, _, rfl⟩

theorem Osier.moveStep_keeps (hj : j ≠ n) (h : (j, q) ∈ st.1) : (j, q) ∈ (Osier.moveStep b m n st).1 := by
  obtain heq | ⟨rev, x, heq⟩ := Osier.moveStep_cases b m n st <;> rw [heq]
  · exact h
  · exact Osier.modify_keeps b rev x hj h

theorem Osier.moveStep_adds (hj : j ≠ n) (h : (j, q) ∈ (Osier.moveStep b m n st).1) : (j, q) ∈ st.1 := by
  obtain heq | ⟨rev, x, heq⟩ := Osier.moveStep_cases b m n st <;> rw [heq] at h
  · exact h
  · exact Osier.modify_adds b rev x hj h

theorem Osier.moveStep_apart (hj : j ≠ n) :
    Tab.get (fun i => b.af i 0) (Osier.moveStep b m n st).1 j = Tab.get (fun i => b.af i 0) st.1 j := by
  obtain heq | ⟨rev, x, heq⟩ := Osier.moveStep_cases b m n st <;> rw [heq]
  exact Osier.modify_apart b rev x hj

end Step

/-- What the post-modify of a move adds to its pointer, and whether it is bit-reversed (R234). -/
def Move.step (m : Move) (b : Bank) (n : Nat) : Bool × Int := if m.mod = 1 then (false, (m.width : Nat)) else (m.mod == 3, signed 16 (b.af n 3))

theorem Osier.moveStep_on {b : Bank} {m : Move} (hop : m.op ≠ 0) (hmod : m.mod ≠ 0) (n : Nat) (st : Tab Nat × Bool) :
    Osier.moveStep b m n st = Osier.modify b n (m.step b n).1 (m.step b n).2 st := by
  unfold Osier.moveStep Move.step
  rw [if_neg (by tauto)]
  split <;> rfl

theorem Osier.moveStep_off {m : Move} (hmod : m.mod = 0) (b : Bank) (n : Nat) (st : Tab Nat × Bool) : Osier.moveStep b m n st = st :=
  if_pos (Or.inr hmod)

theorem Osier.moveStep_result {b : Bank} {m : Move} (hop : m.op ≠ 0) (hmod : m.mod ≠ 0) {n : Nat} {st : Tab Nat × Bool}
    (h : Tab.get (fun i => b.af i 0) st.1 n = b.af n 0) :
    (n, (postModify (m.step b n).1 (b.af n 0) (b.af n 1) (b.af n 2) (m.step b n).2).1) ∈ (Osier.moveStep b m n st).1 := by
  rw [Osier.moveStep_on hop hmod]
  exact Osier.modify_result b _ _ h

section Moved

variable {i : Bundle} {b : Bank} (y : Bool) {n : Nat} (hn : n = (i.move y).pointer y)
include hn

/-- A move with a post-modify leaves its result in its pointer. -/
theorem Osier.movedPointers_on (hop : (i.move y).op ≠ 0) (hmod : (i.move y).mod ≠ 0) :
    (n, (postModify ((i.move y).step b n).1 (b.af n 0) (b.af n 1) (b.af n 2) ((i.move y).step b n).2).1) ∈
      (Osier.movedPointers i b).1 := by
  subst hn
  cases y
  · exact Osier.moveStep_keeps b _ (i.pointer_apart false) (Osier.moveStep_result hop hmod rfl)
  · exact Osier.moveStep_result hop hmod (Osier.moveStep_apart b _ (i.pointer_apart true))

/-- A move without a post-modify leaves its pointer alone. -/
theorem Osier.movedPointers_off (hmod : (i.move y).mod = 0) {q : Nat} : (n, q) ∉ (Osier.movedPointers i b).1 := by
  subst hn
  intro h
  unfold Osier.movedPointers at h
  cases y
  · have hfirst := Osier.moveStep_adds b _ (i.pointer_apart false) h
    rw [Osier.moveStep_off hmod] at hfirst
    cases hfirst
  · rw [Osier.moveStep_off hmod] at h
    cases Osier.moveStep_adds b _ (i.pointer_apart true) h

end Moved

/-! ### Loads (R233, R256) -/

/-- The banks of the cores have no part in what a word of local memory holds. -/
theorem Osier.wordAt_settled (s : State) (k : Nat) (y : Bool) (w : Nat) :
    Osier.wordAt (Osier.settled s.begin k) k y w = Osier.wordAt s k y w := by
  unfold Osier.wordAt Osier.settled
  rw [Osier.core_setCore]
  unfold CoreSt.setActive
  split <;> rfl

theorem Osier.load_vector {m : Move} (h : m.op = 1) (s : State) (k : Nat) (y : Bool) (p : Nat) :
    Osier.load s k y m p = vecW m.r 2 (fun l => signed 32 (nth 0 ((rangeFrom (p / 4 * 4) 4).map (Osier.wordAt s k y)) l).toNat) := by
  unfold Osier.load Move.isLoad Move.words Move.width
  simp [h]

theorem Osier.load_scalar {m : Move} (h : m.op = 3) (s : State) (k : Nat) (y : Bool) (p : Nat) :
    Osier.load s k y m p = [(.s m.r, (Osier.wordAt s k y p).toInt, 2)] := by
  rw [← signed_word]
  unfold Osier.load Move.isLoad Move.words Move.width
  simp [h]
  rfl

theorem Osier.load_broadcast {m : Move} (h : m.op = 5) (s : State) (k : Nat) (y : Bool) (p : Nat) :
    Osier.load s k y m p = vecW m.r 2 (fun _ => (Osier.wordAt s k y p).toInt) := by
  rw [← signed_word]
  unfold Osier.load Move.isLoad Move.words Move.width
  simp [h]
  rfl

theorem mem_vecW {d lat l : Nat} {f : Nat → Int} {x : Int} (hl : l < 4) (hx : f l = x) : (Dest.v d l, x, lat) ∈ vecW d lat f := by
  subst hx
  exact List.mem_map.mpr ⟨l, by unfold lanes; simp; omega, rfl⟩

/-- Each lane of a vector load takes its word. -/
theorem Osier.load_lane {m : Move} (h : m.op = 1) (s : State) (k : Nat) (y : Bool) (p : Nat) {l : Nat} (hl : l < 4) :
    (Dest.v m.r l, (Osier.wordAt s k y (p / 4 * 4 + l)).toInt, 2) ∈ Osier.load s k y m p := by
  rw [Osier.load_vector h]
  refine mem_vecW hl ?_
  rw [signed_word]
  interval_cases l <;> rfl

/-- What a move slot loads is among the loads of the bundle. -/
theorem Osier.mem_loaded {s : State} {k : Nat} {i : Bundle} {b : Bank} (hb : (Osier.core s k).active = b) (y : Bool) {w : OW}
    (hw : w ∈ Osier.load s k y (i.move y) (b.af ((i.move y).pointer y) 0)) : w ∈ Osier.loaded s k i := by
  subst hb
  cases y
  · exact List.mem_append_left _ hw
  · exact List.mem_append_right _ hw

/-! ### Stores (R224, R233) -/

theorem Osier.writeWord_ld8 (s : State) (k : Nat) (y : Bool) {w a : Nat} (v : Word)
    (h : a < Osier.wordAddr k y w ∨ Osier.wordAddr k y w + 4 ≤ a) : (Osier.writeWord s k y w v).ld8 a = s.ld8 a := by
  obtain ⟨o, heq⟩ := Osier.writeWord_eq s k y w v
  rw [heq]
  refine (State.ld8_stN _ _ _ _).trans ?_
  rw [if_neg (by rw [leBytes_length]; omega)]
  rfl

theorem Osier.received_ld8 (s : State) (k : Nat) (y : Bool) (loc n : Nat) (f : Nat → Word) {a : Nat}
    (h : a < Osier.wordAddr k y loc ∨ Osier.wordAddr k y loc + 4 * n ≤ a) : (Osier.received s k y loc n f).ld8 a = s.ld8 a := by
  induction n with
  | zero => rfl
  | succ n ih =>
    rw [Osier.received_succ, Osier.writeWord_ld8, ih (by omega)]
    unfold Osier.wordAddr at h ⊢
    omega

theorem Osier.store_vector {m : Move} (h : m.op = 2) (s : State) (k : Nat) (y : Bool) (b : Bank) (p : Nat) :
    Osier.store s k y b m p = Osier.received s k y (p / 4 * 4) 4 (b.vw m.r) := by
  have hwords : m.words p = rangeFrom (p / 4 * 4) 4 := by
    unfold Move.words Move.width
    simp [h]
  unfold Osier.store
  rw [if_pos h, hwords]
  rfl

theorem Osier.store_scalar {m : Move} (h : m.op = 4) (s : State) (k : Nat) (y : Bool) (b : Bank) (p : Nat) :
    Osier.store s k y b m p = Osier.writeWord s k y p (b.sw m.r) := by
  unfold Osier.store
  rw [if_neg (by omega), if_pos h]

/-- The words of X lie below those of Y. -/
theorem Osier.writeWord_apart (s : State) (k q : Nat) (v : Word) {w : Nat} (hw : w < 0x4000) :
    (Osier.writeWord s k true q v).ld32 (Osier.wordAddr k false w) = s.ld32 (Osier.wordAddr k false w) := by
  obtain ⟨o, heq⟩ := Osier.writeWord_eq s k true q v
  rw [heq, State.ld32_st32_apart]
  · rfl
  · unfold Osier.wordAddr
    simp
    omega

theorem Osier.store_apart (s : State) (k : Nat) (b : Bank) (m : Move) (p : Nat) {w : Nat} (hw : w < 0x4000) :
    (Osier.store s k true b m p).ld32 (Osier.wordAddr k false w) = s.ld32 (Osier.wordAddr k false w) := by
  unfold Osier.store
  split
  · exact foldl_keeps (fun s => s.ld32 (Osier.wordAddr k false w)) _ (fun s _ => Osier.writeWord_apart s k _ _ hw) _ s
  · split
    · exact Osier.writeWord_apart s k p _ hw
    · rfl

section Stored

variable {s : State} {k : Nat} {i : Bundle} {b : Bank} (hb : (Osier.core s k).active = b) (y : Bool)
include hb

/-- A word of a memory after the bundle is what that memory's move leaves there. -/
theorem Osier.stored_word {w : Nat} (hw : w < 0x4000) : ∃ u, (Osier.stored s k i).ld32 (Osier.wordAddr k y w) =
    (Osier.store u k y b (i.move y) (b.af ((i.move y).pointer y) 0)).ld32 (Osier.wordAddr k y w) := by
  subst hb
  cases y
  · exact ⟨_, Osier.store_apart _ k _ _ _ hw⟩
  · exact ⟨_, rfl⟩

/-- With no move in the other slot, memory changes by this slot's move alone. -/
theorem Osier.stored_alone (hother : (i.move (!y)).op = 0) : ∃ u : State, u.mem = s.mem ∧
    Osier.stored s k i = Osier.store u k y b (i.move y) (b.af ((i.move y).pointer y) 0) := by
  subst hb
  have hkept := State.coilOnly_mem (Osier.fabricWrite_only s i (Osier.core s k).active)
  have hnone : ∀ u z p, z = !y → Osier.store u k z (Osier.core s k).active (i.move z) p = u := by
    rintro u z p rfl
    exact Osier.store_none _ _ _ _ _ _ (by omega) (by omega)
  cases y
  · exact ⟨_, hkept, hnone _ true _ rfl⟩
  · exact ⟨_, hkept, congrArg (Osier.store · k true _ _ _) (hnone _ false _ rfl)⟩

end Stored

/-! ### Results that move no pointer (R242) -/

/-- No result of the list is a pointer. -/
def OW.noPointer (l : List OW) : Prop := ∀ w ∈ l, ∀ n f, w.1 ≠ .a n f

@[simp] theorem OW.noPointer_nil : OW.noPointer [] := nofun

@[simp] theorem OW.noPointer_cons {w : OW} {l : List OW} : OW.noPointer (w :: l) ↔ (∀ n f, w.1 ≠ .a n f) ∧ OW.noPointer l :=
  List.forall_mem_cons

@[simp] theorem OW.noPointer_append {l l' : List OW} : OW.noPointer (l ++ l') ↔ OW.noPointer l ∧ OW.noPointer l' :=
  List.forall_mem_append

@[simp] theorem OW.noPointer_map {α : Type} {l : List α} {g : α → OW} :
    OW.noPointer (l.map g) ↔ ∀ x ∈ l, ∀ n f, (g x).1 ≠ .a n f :=
  List.forall_mem_map

@[simp] theorem OW.noPointer_satWrite (c : Bool) : OW.noPointer (satWrite c) := by
  cases c <;> simp [satWrite]

@[simp] theorem OW.noPointer_vecW (d lat : Nat) (f : Nat → Int) : OW.noPointer (vecW d lat f) := by
  simp [vecW]

@[simp] theorem OW.noPointer_vecSat (d lat : Nat) (f : Nat → Int) : OW.noPointer (vecSat d lat f) :=
  OW.noPointer_append.mpr ⟨OW.noPointer_vecW _ _ _, OW.noPointer_satWrite _⟩

@[simp] theorem OW.noPointer_accSat (d : Nat) (f : Nat → Int) : OW.noPointer (accSat d f) :=
  OW.noPointer_append.mpr ⟨by simp, OW.noPointer_satWrite _⟩

@[simp] theorem OW.noPointer_flagsZN (r : Int) : OW.noPointer (flagsZN r) := by
  simp [flagsZN]

@[simp] theorem OW.noPointer_scalZN (d lat : Nat) (r : Int) : OW.noPointer (scalZN d lat r) := by
  simp [scalZN]

/-- Of the compute operations MOVRS alone writes pointers. -/
theorem Bundle.compute_noPointer {i : Bundle} (h : i.op ≠ 0x08) (b : Bank) (xpend : Nat) : OW.noPointer (i.compute b xpend) := by
  unfold Bundle.compute
  split
  case h_3 heq => exact absurd heq h
  all_goals simp [opMovsr, opBexpr, opAdd, opSub, opAnd, opOr, opXor, opShl, opShr, opSar, opMin, opMax, opMul, opAddi, opCmp, opCmpi,
    opMovi, opMovu, opVadd, opVsub, opVaddw, opVsubw, opVneg, opVabs, opVand, opVor, opVxor, opVmin, opVmax, opVscale,
    opVshli, opVperm, opVbcast, opVins, opVext, opVmulr, opVmulrs, opVcmul, opVcmulj, opMpy, opMac, opMsu, opMpys, opMacs,
    opMsus, opAcclr, opAcld, opAcadd, opAcaddv, opAcsubv, opVbf, opAcsum, opAcsh, opAcget, opAcput, opAcrnd, opAcrndb,
    opActrn, opExp, opAcexp, opNorm, opBexp, flagsAdd, flagsSub]

end Sys2Proof.Machine
end

section
/-!
PROOFS. The rows of the move slots (R233 to R235, R256).
-/
namespace Sys2Proof.Machine

/-! ### A bundle with a move -/

/-- The bundle of opcode `op` with slots `f` and, in the X slot or the Y slot, the move of opcode `o`. -/
def Operands.moving (op : BitVec 8) (f : Slots) (y : Bool) (m : MoveArgs) (o : Nat) : Bundle :=
  Operands.bundle op.toNat (Operands.withMove f y o m)

section Bundle

variable {s : State} {k : Nat} {i : Bundle} {b : Bank} (hr : Osier.ready s k i b) (hdone : i.isDone = false)
  (hpc : (Osier.flow i b).pc < 4096) (y : Bool)
include hr hdone hpc

/-- What a move loads joins the write-backs. -/
theorem Osier.load_joins {w : OW} (hw : w ∈ Osier.load (Osier.settled s.begin k) k y (i.move y) (b.af ((i.move y).pointer y) 0)) :
    b.writeBack w ∈ (Osier.ranBank s (Osier.issue s.begin k i) k).wbs :=
  Osier.result_joins hr hdone hpc
    (List.mem_append_right _ (Osier.mem_companions.mpr (Or.inl (Osier.mem_loaded (Osier.ready_bank hr) y hw))))

/-- What a post-modify leaves in a pointer joins the write-backs. -/
theorem Osier.pointer_joins (h1 : i.ctl / 256 ≠ 1) (h2 : i.ctl / 256 ≠ 2) {n q : Nat} (h : (n, q) ∈ (Osier.movedPointers i b).1) :
    b.writeBack (.a n 0, q, 1) ∈ (Osier.ranBank s (Osier.issue s.begin k i) k).wbs := by
  refine Osier.result_joins hr hdone hpc (List.mem_append_right _ (Osier.mem_companions.mpr (Or.inr (Or.inl ?_))))
  rw [Osier.ready_bank hr, Bundle.pointers_moves h1 h2]
  exact Osier.mem_pointerWrites h

/-- A bundle whose move in one slot is no store, with no move in the other, leaves memory as it was. -/
theorem Osier.issue_mem_of_load (h2 : (i.move y).op ≠ 2) (h4 : (i.move y).op ≠ 4) (hother : (i.move (!y)).op = 0) :
    (Osier.issue s.begin k i).mem = s.mem := by
  obtain ⟨-, -, -, hmem⟩ := Osier.issue_core hr hdone hpc
  obtain ⟨u, hu, hstored⟩ := Osier.stored_alone (i := i) (Osier.ready_bank hr) y hother
  rw [hmem, hstored, Osier.store_none _ _ _ _ _ _ h2 h4, hu]
  rfl

/-- A word of the memory of a move slot after the bundle is what the move leaves there. -/
theorem Osier.issue_word {w : Nat} (hw : w < 0x4000) : ∃ u, (Osier.issue s.begin k i).ld32 (Osier.wordAddr k y w) =
    (Osier.store u k y b (i.move y) (b.af ((i.move y).pointer y) 0)).ld32 (Osier.wordAddr k y w) := by
  obtain ⟨-, -, -, hmem⟩ := Osier.issue_core hr hdone hpc
  rw [State.ld32_congr hmem]
  exact Osier.stored_word (Osier.ready_bank hr) y hw

/-- With no move in the other slot, a byte that a move leaves alone stays. -/
theorem Osier.issue_byte (hother : (i.move (!y)).op = 0) {a : Nat}
    (h : ∀ u : State, (Osier.store u k y b (i.move y) (b.af ((i.move y).pointer y) 0)).ld8 a = u.ld8 a) :
    (Osier.issue s.begin k i).ld8 a = s.ld8 a := by
  obtain ⟨-, -, -, hmem⟩ := Osier.issue_core hr hdone hpc
  obtain ⟨u, hu, hstored⟩ := Osier.stored_alone (i := i) (Osier.ready_bank hr) y hother
  have hbyte := h u
  rw [← hstored] at hbyte
  unfold State.ld8 at hbyte ⊢
  rw [hmem, hbyte, hu]
  rfl

end Bundle

/-! ### Pointers that a bundle leaves alone -/

theorem Osier.load_noPointer (s : State) (k : Nat) (y : Bool) (m : Move) (p : Nat) : OW.noPointer (Osier.load s k y m p) := by
  unfold Osier.load
  split
  · exact OW.noPointer_nil
  · split
    · exact OW.noPointer_vecW _ _ _
    · split
      · exact OW.noPointer_vecW _ _ _
      · simp

theorem Osier.fabricRead_noPointer (s : State) (i : Bundle) (b : Bank) : OW.noPointer (Osier.fabricRead s i b) := by
  unfold Osier.fabricRead
  split
  · exact OW.noPointer_vecW _ _ _
  · exact OW.noPointer_nil

/-- The results that name a pointer are those of post-modifies, unless MOVRS writes one. -/
theorem Osier.results_pointer {s : State} {k : Nat} {i : Bundle} {b : Bank} (h8 : i.op ≠ 0x08) {w : OW} (hw : w ∈ Osier.results s k i b)
    {n f : Nat} (hdest : w.1 = .a n f) : w ∈ i.pointers (Osier.core (Osier.settled s.begin k) k).active := by
  rcases List.mem_append.mp hw with hw | hw
  · exact absurd hdest (OW.noPointer_append.mpr ⟨Bundle.compute_noPointer h8 _ _, Osier.fabricRead_noPointer s i b⟩ w hw n f)
  · rcases Osier.mem_companions.mp hw with hw | hw | ⟨-, rfl⟩
    · exact absurd hdest (OW.noPointer_append.mpr ⟨Osier.load_noPointer _ _ _ _ _, Osier.load_noPointer _ _ _ _ _⟩ w hw n f)
    · exact hw
    · cases hdest

/-- A move without a post-modify leaves its pointer alone. -/
theorem Osier.pointer_kept {s : State} {k : Nat} {i : Bundle} {b : Bank} (hr : Osier.ready s k i b) (hdone : i.isDone = false)
    (hpc : (Osier.flow i b).pc < 4096) (h8 : i.op ≠ 0x08) (h1 : i.ctl / 256 ≠ 1) (h2 : i.ctl / 256 ≠ 2) (y : Bool)
    (hmod : (i.move y).mod = 0) {v : WriteBack} (hv : v ∈ (Osier.ranBank s (Osier.issue s.begin k i) k).wbs) (hnew : v ∉ b.wbs) :
    v.dest ≠ .a ((i.move y).pointer y) 0 := by
  obtain ⟨w, hw, rfl⟩ := Osier.joined_result hr hdone hpc hv hnew
  intro hdest
  have hp := Osier.results_pointer h8 hw hdest
  rw [Osier.ready_bank hr, Bundle.pointers_moves h1 h2] at hp
  obtain ⟨q, hq⟩ := Osier.pointerWrites_moved hp hdest
  exact Osier.movedPointers_off y rfl hmod hq

/-! ### The ring (R234) -/

/-- A linear post-modify within a ring wraps once. -/
theorem postModify_ring {p B L : Nat} {m : Int} (hp : B ≤ p) (hpL : p < B + L) (hfit : B + L ≤ 0x4000) (hlow : -(L : Int) ≤ m) (hhigh : m ≤ L) :
    ∃ q : Nat, postModify false p B L m = (q, false) ∧ B ≤ q ∧ q < B + L ∧
      ((q : Int) = p + m ∨ (q : Int) = p + m - L ∨ (q : Int) = p + m + L) := by
  have hL : L ≠ 0 := by omega
  unfold postModify unsigned
  simp only [Bool.false_and, Bool.false_eq_true, if_false, hL]
  refine ⟨_, rfl, ?_⟩
  split <;> split <;> omega

theorem postModify_linear (p B : Nat) (m : Int) : postModify false p B 0 m = ((((p : Int) + m) % 0x4000).toNat, false) := by
  unfold postModify
  simp [unsigned]

/-! ### The rows -/

section Moving

variable {s : State} {k : Nat} {b : Bank} {op : BitVec 8} {f : Slots} {y : Bool} {m : MoveArgs} {o : Nat}

theorem Operands.moving_move (ho : o < 8) : (Operands.moving op f y m o).move y =
    { op := o, r := m.r.toNat, areg := m.areg.toNat, mod := m.mod.toNat, res := 0 } := Operands.withMove_move op.toNat f y ho m

theorem Operands.moving_pointer (ho : o < 8) : ((Operands.moving op f y m o).move y).pointer y = if y then 4 + m.areg.toNat else m.areg.toNat := by
  rw [Operands.moving_move ho]
  rfl

theorem Operands.moving_ctl : (Operands.moving op f y m o).ctl = f.ctl.toNat := Operands.withMove_ctl op.toNat f y o m

theorem Operands.moving_other (h : (if y then f.x else f.y) = 0) : ((Operands.moving op f y m o).move (!y)).op = 0 :=
  Operands.withMove_other op.toNat f y o m h

/-- The pointer of the move, as the file of the bank holds it. -/
theorem Operands.moving_at {n p : Nat} (hn : n = if y then 4 + m.areg.toNat else m.areg.toNat) (hp : p = b.af n 0) (ho : o < 8) :
    b.af (((Operands.moving op f y m o).move y).pointer y) 0 = p := by
  rw [Operands.moving_pointer ho, hp, hn]

/-- A bundle with a move completes with what it comes to once nothing stops it. -/
theorem completes_moving (hctl : f.ctl.toNat / 256 ≠ 4) {c : Instr} {P : State → Prop}
    (hexec : exec c s = s.act (fun t => Osier.issue t k (Operands.moving op f y m o)))
    (h : (Operands.moving op f y m o).isDone = false → P (Osier.issue s.begin k (Operands.moving op f y m o)))
    (hr : Osier.ready s k (Operands.moving op f y m o) b) (hpc : (Osier.flow (Operands.moving op f y m o) b).pc < 4096) :
    Completes c s (fun t => (Osier.ranBank s t k).pc = (Osier.flow (Operands.moving op f y m o) b).pc ∧
      (Osier.ranBank s t k).issued = b.issued + 1 ∧ P t) := by
  have hdone : (Operands.moving op f y m o).isDone = false := by
    unfold Bundle.isDone
    rw [Operands.moving_ctl]
    simpa using hctl
  obtain ⟨t, hnext, hpc, hissued, -, hP⟩ := Osier.completes_ran hr hdone hpc hexec (h hdone)
  exact ⟨t, hnext, hpc, hissued, hP⟩

variable (hr : Osier.ready s k (Operands.moving op f y m o) b) (hdone : (Operands.moving op f y m o).isDone = false)
  (hpc : (Osier.flow (Operands.moving op f y m o) b).pc < 4096) {n p : Nat} (hn : n = if y then 4 + m.areg.toNat else m.areg.toNat)
  (hp : p = b.af n 0)
include hr hdone hpc

theorem Operands.moving_mem (ho : o = 1 ∨ o = 3 ∨ o = 5) (hother : (if y then f.x else f.y) = 0) :
    (Osier.issue s.begin k (Operands.moving op f y m o)).mem = s.mem := by
  refine Osier.issue_mem_of_load hr hdone hpc y ?_ ?_ (Operands.moving_other hother) <;> rw [Operands.moving_move (by omega)] <;>
    show o ≠ _ <;> omega

include hn hp

/-- What the move loads joins the write-backs. -/
theorem Operands.moving_loads (ho : o < 8) {w : OW} (hw : w ∈ Osier.load (Osier.settled s.begin k) k y
      { op := o, r := m.r.toNat, areg := m.areg.toNat, mod := m.mod.toNat, res := 0 } p) :
    b.writeBack w ∈ (Osier.ranBank s (Osier.issue s.begin k (Operands.moving op f y m o)) k).wbs := by
  refine Osier.load_joins hr hdone hpc y ?_
  rwa [Operands.moving_at hn hp ho, Operands.moving_move ho]

/-- A word of the move's memory after the bundle is what the move leaves there. -/
theorem Operands.moving_word (ho : o < 8) {w : Nat} (hw : w < 0x4000) : ∃ u,
    (Osier.issue s.begin k (Operands.moving op f y m o)).ld32 (Osier.wordAddr k y w) =
      (Osier.store u k y b { op := o, r := m.r.toNat, areg := m.areg.toNat, mod := m.mod.toNat, res := 0 } p).ld32 (Osier.wordAddr k y w) := by
  have hword := Osier.issue_word hr hdone hpc y hw
  rwa [Operands.moving_at hn hp ho, Operands.moving_move ho] at hword

/-- With no move in the other slot, a byte that the move leaves alone stays. -/
theorem Operands.moving_byte (ho : o < 8) (hother : (if y then f.x else f.y) = 0) {a : Nat} (h : ∀ u : State, (Osier.store u k y b
      { op := o, r := m.r.toNat, areg := m.areg.toNat, mod := m.mod.toNat, res := 0 } p).ld8 a = u.ld8 a) :
    (Osier.issue s.begin k (Operands.moving op f y m o)).ld8 a = s.ld8 a := by
  refine Osier.issue_byte hr hdone hpc y (Operands.moving_other hother) ?_
  rwa [Operands.moving_at hn hp ho, Operands.moving_move ho]

/-- What the move's post-modify leaves in its pointer joins the write-backs. -/
theorem Operands.moving_modifies (ho : o < 8) (hop : o ≠ 0) (hmod : m.mod.toNat ≠ 0) (h1 : f.ctl.toNat / 256 ≠ 1)
    (h2 : f.ctl.toNat / 256 ≠ 2) {rev : Bool} {x : Int}
    (hstep : Move.step { op := o, r := m.r.toNat, areg := m.areg.toNat, mod := m.mod.toNat, res := 0 } b n = (rev, x)) :
    b.writeBack (.a n 0, (postModify rev p (b.af n 1) (b.af n 2) x).1, 1) ∈
      (Osier.ranBank s (Osier.issue s.begin k (Operands.moving op f y m o)) k).wbs := by
  have hmoved := Osier.movedPointers_on (i := Operands.moving op f y m o) (b := b) y (n := n) (by rw [Operands.moving_pointer ho, hn])
  rw [Operands.moving_move ho, hstep, ← hp] at hmoved
  exact Osier.pointer_joins hr hdone hpc (by rwa [Operands.moving_ctl]) (by rwa [Operands.moving_ctl]) (hmoved hop hmod)

omit hp in
/-- A move without a post-modify leaves its pointer alone. -/
theorem Operands.moving_keeps (ho : o < 8) (h8 : op ≠ 0x08) (hmod : m.mod = 0) (h1 : f.ctl.toNat / 256 ≠ 1)
    (h2 : f.ctl.toNat / 256 ≠ 2) {v : WriteBack} (hv : v ∈ (Osier.ranBank s (Osier.issue s.begin k (Operands.moving op f y m o)) k).wbs)
    (hnew : v ∉ b.wbs) : v.dest ≠ .a n 0 := by
  have hkept := Osier.pointer_kept hr hdone hpc (fun h => h8 (BitVec.eq_of_toNat_eq h)) (by rwa [Operands.moving_ctl])
    (by rwa [Operands.moving_ctl]) y (by rw [Operands.moving_move ho, hmod]; rfl) hv hnew
  rwa [Operands.moving_pointer ho, ← hn] at hkept

end Moving

/-- What a word of local memory reads as (R256). -/
theorem Osier.wordAt_cases (s : State) (k : Nat) (y : Bool) (j u : Nat) (hu : u = (if y then 0x4000 else 0) + j) :
    ((Osier.core s k).undef = false ∨ 0x3C00 ≤ j ∨ Tab.get (fun _ => false) (Osier.core s k).defd u = true →
        Osier.wordAt s k y j = s.ld32 (Osier.wordAddr k y j)) ∧
      ((Osier.core s k).undef = true → j < 0x3C00 → Tab.get (fun _ => false) (Osier.core s k).defd u = false →
        Osier.wordAt s k y j = Config.coldWord (Osier.core s k).cold k u) := by
  subst hu
  unfold Osier.wordAt
  constructor
  · intro h
    rw [if_neg]
    rcases h with h | h | h
    · simp [h]
    · simp [Nat.not_lt.mpr h]
    · simp [h]
  · intro hundef hcold hfresh
    rw [if_pos]
    simp [hundef, hcold, hfresh]

/-- The rows of the moves are the issue of their bundles. -/
theorem exec_moveRow {k : Nat} {y : Bool} {m : MoveArgs} {op : BitVec 8} {f : Slots} {o : Nat} {c : Instr} (s : State)
    (h : (o = 1 ∧ c = Instr.ldv k y m op f) ∨ (o = 2 ∧ c = Instr.stv k y m op f) ∨ (o = 3 ∧ c = Instr.lds k y m op f) ∨
      (o = 4 ∧ c = Instr.sts k y m op f) ∨ (o = 5 ∧ c = Instr.ldb k y m op f)) :
    exec c s = s.act (fun t => Osier.issue t k (Operands.moving op f y m o)) := by
  rcases h with ⟨rfl, rfl⟩ | ⟨rfl, rfl⟩ | ⟨rfl, rfl⟩ | ⟨rfl, rfl⟩ | ⟨rfl, rfl⟩ <;> rfl

/-- Settles O21: the loads, stores and post-modifies of a move are those of the bundle with that move, and a ring wraps once. -/
theorem osierMovesRun : Obligations.OsierMovesRun := by
  unfold Obligations.OsierMovesRun
  refine ⟨?rows, ?ring, fun p B m => postModify_linear p B m⟩
  case ring =>
    intro p B L m hp hpL hfit hlow hhigh
    obtain ⟨q, heq, hq, hqL, hcong⟩ := postModify_ring hp hpL hfit hlow hhigh
    rw [heq]
    refine ⟨rfl, hq, hqL, ?_⟩
    rcases hcong with h | h | h <;> rw [h]
    · rw [show (p : Int) + m - L - B = p + m - B - L by ring, Int.sub_emod_right]
    · rw [show (p : Int) + m + L - B = p + m - B + L by ring, Int.add_emod_right]
  case rows =>
    intro s k y m op f b n p q r i W hi hn hp hlt hq hr hW hctl
    obtain rfl : i = Operands.moving op f y m := funext hi
    obtain rfl : W = Osier.wordAt s k y := funext hW
    subst hq hr
    refine ⟨⟨?ldv, ?lds, ?ldb⟩, fun j u hu => Osier.wordAt_cases s k y j u hu, ?stv, ?sts, ?modify⟩
    case ldv =>
      refine fun ready hpc => completes_moving hctl (exec_moveRow s (by simp)) (fun hdone => ⟨fun l hl => ?_, fun hother _ => ?_⟩) ready hpc
      · refine Operands.moving_loads ready hdone hpc hn hp (by decide) (w := (.v m.r.toNat l, _, 2)) ?_
        rw [← Osier.wordAt_settled]
        exact Osier.load_lane rfl _ _ _ _ hl
      · exact Operands.moving_mem ready hdone hpc (by simp) hother
    case lds =>
      refine fun ready hpc => completes_moving hctl (exec_moveRow s (by simp)) (fun hdone => ⟨?_, fun hother _ => ?_⟩) ready hpc
      · refine Operands.moving_loads ready hdone hpc hn hp (by decide) (w := (.s m.r.toNat, _, 2)) ?_
        rw [Osier.load_scalar rfl, Osier.wordAt_settled]
        exact List.mem_singleton_self _
      · exact Operands.moving_mem ready hdone hpc (by simp) hother
    case ldb =>
      refine fun ready hpc => completes_moving hctl (exec_moveRow s (by simp)) (fun hdone => ⟨fun l hl => ?_, fun hother _ => ?_⟩) ready hpc
      · refine Operands.moving_loads ready hdone hpc hn hp (by decide) (w := (.v m.r.toNat l, _, 2)) ?_
        rw [Osier.load_broadcast rfl, Osier.wordAt_settled]
        exact mem_vecW hl rfl
      · exact Operands.moving_mem ready hdone hpc (by simp) hother
    case stv =>
      refine fun ready hpc => completes_moving hctl (exec_moveRow s (by simp))
        (fun hdone => ⟨fun l hl => ?_, fun hother _ a ha => ?_⟩) ready hpc
      · obtain ⟨u, hu⟩ := Operands.moving_word ready hdone hpc hn hp (by decide) (show p / 4 * 4 + l < 0x4000 by omega)
        rw [hu, Osier.store_vector rfl]
        exact Osier.received_word u k y _ _ hl
      · refine Operands.moving_byte ready hdone hpc hn hp (by decide) hother fun u => ?_
        rw [Osier.store_vector rfl]
        exact Osier.received_ld8 u k y _ _ _ ha
    case sts =>
      refine fun ready hpc => completes_moving hctl (exec_moveRow s (by simp)) (fun hdone => ⟨?_, fun hother _ a ha => ?_⟩) ready hpc
      · obtain ⟨u, hu⟩ := Operands.moving_word ready hdone hpc hn hp (by decide) hlt
        rw [hu, Osier.store_scalar rfl, Osier.ld32_writeWord_same]
      · refine Operands.moving_byte ready hdone hpc hn hp (by decide) hother fun u => ?_
        rw [Osier.store_scalar rfl]
        exact Osier.writeWord_ld8 u k y _ ha
    case modify =>
      intro o c hrow h1 h2 w hw
      have ho : 0 < o ∧ o < 8 := by omega
      have hjoin := fun ready hdone hpc rev x hmod =>
        Operands.moving_modifies (s := s) (k := k) (op := op) ready hdone hpc hn hp ho.2 (by omega) hmod h1 h2 (rev := rev) (x := x)
      refine fun ready hpc => completes_moving hctl (exec_moveRow s hrow) (fun hdone => ⟨fun hmod h8 v hv hnew => ?_, fun hmod => ?_,
        fun hmod => ?_, fun hmod => ?_⟩) ready hpc
      · exact Operands.moving_keeps ready hdone hpc hn ho.2 h8 hmod h1 h2 hv hnew
      · refine hjoin ready hdone hpc false w (by simp [hmod]) ?_
        simp [Move.step, Move.width, hmod, hw]
      · exact hjoin ready hdone hpc false _ (by simp [hmod]) (by simp [Move.step, hmod])
      · exact hjoin ready hdone hpc true _ (by simp [hmod]) (by simp [Move.step, hmod])

end Sys2Proof.Machine
end

section
/-!
PROOFS. The control slot: pointer updates, WAITX, SATCLR, and DONE with the end of the transfers it waits for (R235, R249, R252, R257).
-/
namespace Sys2Proof.Machine

/-! ### The node of a bank -/

theorem Bank.setLc_node (b : Bank) (i n : Nat) : (b.setLc i n).node = b.node := by
  unfold Bank.setLc
  split <;> rfl

theorem Bank.endLevel_node (b : Bank) (pc : Nat) : (b.endLevel pc).1.node = b.node := by
  unfold Bank.endLevel
  rcases b.loops with - | ⟨⟨first, last⟩, - | ⟨⟨first', last'⟩, rest⟩⟩ <;>
    simp only [apply_ite Prod.fst, apply_ite Bank.node, Bank.setLc_node, ite_self]

theorem Bank.advance_node (b : Bank) : b.advance.node = b.node := by
  unfold Bank.advance
  simp only [apply_ite Bank.node, Bank.endLevel_node, ite_self]

theorem Osier.flow_node (i : Bundle) (b : Bank) : (Osier.flow i b).node = b.node := by
  unfold Osier.flow
  split
  · rfl
  split
  · exact Bank.setLc_node _ _ _
  split
  · rfl
  split
  · rfl
  split
  · rfl
  exact Bank.advance_node b

theorem Osier.bankAfter_node (i : Bundle) (b : Bank) (ws : List OW) (mono : Nat) : (Osier.bankAfter i b ws mono).node = b.node :=
  Osier.flow_node i (b.queue ws)

/-! ### The slot -/

/-- The bundle of opcode `op` with slots `f` and the control operation `o` of argument `arg`. -/
def Operands.controlled (op : BitVec 8) (f : Slots) (arg : BitVec 8) (o : Nat) : Bundle :=
  Operands.bundle op.toNat (Operands.withCtl f o arg)

theorem Operands.controlled_ctl (op : BitVec 8) (f : Slots) (arg : BitVec 8) {o : Nat} (ho : o < 16) :
    (Operands.controlled op f arg o).ctl = 256 * o + arg.toNat := by
  have harg := arg.isLt
  unfold Operands.controlled Operands.bundle Operands.withCtl at_
  simp only [BitVec.toNat_ofNat, Nat.shiftLeft_eq]
  omega

theorem Operands.controlled_kind (op : BitVec 8) (f : Slots) (arg : BitVec 8) {o : Nat} (ho : o < 16) :
    (Operands.controlled op f arg o).ctl / 256 = o := by
  have harg := arg.isLt
  rw [Operands.controlled_ctl op f arg ho]
  omega

theorem Operands.controlled_isDone (op : BitVec 8) (f : Slots) (arg : BitVec 8) {o : Nat} (ho : o < 16) :
    (Operands.controlled op f arg o).isDone = (o == 4) := by
  unfold Bundle.isDone
  rw [Operands.controlled_kind op f arg ho]

/-- The bad bit of DONE, in the slot. -/
theorem Operands.controlled_bad {arg : BitVec 8} (harg : arg.toNat < 2) : ((256 * 4 + arg.toNat) % 2 == 1) = (arg == 1) := by
  obtain h | h : arg = 0 ∨ arg = 1 := by bv_omega
  all_goals subst h; rfl

/-- An enable bit of the argument, in the slot. -/
theorem Operands.controlled_enable {arg : BitVec 8} (o : Nat) {j : Nat} (hj : j < 8) (hbit : arg.getLsbD j = true) :
    (256 * o + arg.toNat) / 2 ^ j % 2 = 1 := by
  rw [BitVec.getLsbD, Nat.testBit_eq_decide_div_mod_eq, decide_eq_true_eq] at hbit
  interval_cases j <;> omega

/-! ### Pointer updates (R235, R249) -/

theorem Osier.movedPointers_none {i : Bundle} (hx : i.x = 0) (hy : i.y = 0) (b : Bank) : Osier.movedPointers i b = ([], false) := by
  unfold Osier.movedPointers Bundle.move
  simp only [hx, hy]
  rfl

theorem Osier.updateStep_on {b : Bank} {rev : Bool} {en n : Nat} (h : en ≠ 0) (st : Tab Nat × Bool) :
    Osier.updateStep b rev en n st = Osier.modify b n rev (signed 16 (b.af n 3)) st := if_neg h

/-- An update of a pointer that nothing has moved before leaves its result. -/
theorem Osier.updateStep_result {b : Bank} {rev : Bool} {en n : Nat} (hen : en ≠ 0) {st : Tab Nat × Bool}
    (h : Tab.get (fun i => b.af i 0) st.1 n = b.af n 0) :
    (n, (postModify rev (b.af n 0) (b.af n 1) (b.af n 2) (signed 16 (b.af n 3))).1) ∈ (Osier.updateStep b rev en n st).1 := by
  rw [Osier.updateStep_on hen]
  exact Osier.modify_result b rev _ h

theorem Osier.updateStep_keeps {b : Bank} {rev : Bool} {en n j q : Nat} {st : Tab Nat × Bool} (hj : j ≠ n) (h : (j, q) ∈ st.1) :
    (j, q) ∈ (Osier.updateStep b rev en n st).1 := by
  unfold Osier.updateStep
  split
  · exact h
  · exact Osier.modify_keeps b rev _ hj h

theorem Osier.updateStep_apart {b : Bank} {rev : Bool} {en n j : Nat} {st : Tab Nat × Bool} (hj : j ≠ n) :
    Tab.get (fun i => b.af i 0) (Osier.updateStep b rev en n st).1 j = Tab.get (fun i => b.af i 0) st.1 j := by
  unfold Osier.updateStep
  split
  · rfl
  · exact Osier.modify_apart b rev _ hj

/-- The row completes, and what its pointers become joins the write-backs. -/
theorem Osier.update_joins {s : State} {k : Nat} {i : Bundle} {b : Bank} (hr : Osier.ready s k i b) (hdone : i.isDone = false)
    (hpc : (Osier.flow i b).pc < 4096) {rev : Bool} (hctl : i.ctl / 256 = if rev then 2 else 1) (hx : i.x = 0) (hy : i.y = 0)
    {n q : Nat} (h : (n, q) ∈ (Osier.updateStep b rev (i.ctl / 8 % 2) (i.ctl % 8)
      (Osier.updateStep b rev (i.ctl / 128 % 2) (i.ctl / 16 % 8) ([], false))).1) :
    b.writeBack (.a n 0, q, 1) ∈ (Osier.ranBank s (Osier.issue s.begin k i) k).wbs := by
  refine Osier.result_joins hr hdone hpc (List.mem_append_right _ (Osier.mem_companions.mpr (Or.inr (Or.inl ?_))))
  rw [Osier.ready_bank hr, Bundle.pointers_updates hctl, Osier.movedPointers_none hx hy]
  exact Osier.mem_pointerWrites h

/-! ### DONE (R257) -/

/-- A DONE that is posted empties its bank. -/
theorem Osier.post_core {s : State} {k i : Nat} {one : Bool} (h : (if one then (Osier.core s k).b1 else (Osier.core s k).b0).node = some i)
    (bad : Bool) : Osier.core (Osier.post s k one bad) k = (Osier.core s k).setBank one {} := by
  unfold Osier.post
  simp only [h]
  exact Osier.core_setCore _ _ _

/-- The activation whose DONE is posted has ended, late where the node says so. -/
theorem Osier.post_acts {s : State} {k i : Nat} {one : Bool} (h : (if one then (Osier.core s k).b1 else (Osier.core s k).b0).node = some i)
    (bad : Bool) {a : Act} (ha : a ∈ (Osier.post s k one bad).coil.acts) (hnode : a.node = i) (hstate : a.state = 2) (hcore : a.core = k) :
    a.posted = true ∧ (bad = true → a.late = true) := by
  unfold Osier.post at ha
  simp only [h] at ha
  obtain ⟨a', -, rfl⟩ := List.mem_map.mp ha
  split at hnode
  · rename_i hrun
    rw [if_pos hrun]
    exact ⟨rfl, fun hbad => by simp [hbad]⟩
  · rename_i hother
    rw [if_neg hother] at hstate hcore
    exact absurd ⟨hnode, hstate, hcore⟩ hother

section Concludes

variable {s : State} {k : Nat} {i : Bundle} {b : Bank} (hr : Osier.ready s k i b)
include hr

/-- A bundle that no rule stops ends with what its bank holds after it; no transfer starts but by XRD and XWR. -/
theorem Osier.issue_concludes (h62 : i.op ≠ 0x62) (h63 : i.op ≠ 0x63) : ∃ u ws,
    Osier.issue s.begin k i = Osier.conclude u k i (Osier.core s k).inBank1 b.pc ∧
    (if (Osier.core s k).inBank1 then (Osier.core u k).b1 else (Osier.core u k).b0) = Osier.bankAfter i b ws s.clk.mono ∧
    (Osier.core u k).xfers = (Osier.core s k).xfers := by
  obtain ⟨u, ws, -, hu, hexec⟩ := Osier.execute_eq (Osier.settled s.begin k) k i
  have hsame : (Osier.core (Osier.settled s.begin k) k).inBank1 = (Osier.core s k).inBank1 := Osier.settled_inBank1 s.begin k
  have hcore : Osier.core u k = Osier.afterCore (Osier.settled s.begin k) k i ws := by
    rw [Osier.core_of_osier (State.coilOnly_osier hu), Osier.core_setCore]
  rw [Osier.ready_bank hr, hsame] at hexec
  refine ⟨u, ws, (Osier.issue_ready s k i b hr).trans hexec, ?_, ?_⟩ <;> rw [hcore] <;> unfold Osier.afterCore
  · unfold CoreSt.setBank
    rw [hsame, Osier.ready_bank hr]
    cases (Osier.core s k).inBank1 <;> rfl
  · have hkept := Osier.kept_stored (Osier.settled s.begin k) k i k
    unfold Osier.xfersAfter
    simp only [h62, h63, or_self, if_false]
    exact (congrArg (·.2.2.1) hkept).trans (Osier.settled_xfers s.begin k)

variable (hdone : i.isDone = true) (h62 : i.op ≠ 0x62) (h63 : i.op ≠ 0x63)
include hdone h62 h63

/-- DONE with nothing to wait for empties the bank and posts the completion. -/
theorem Osier.issue_done (hfree : (Osier.core s k).xfers = [] ∨ (Osier.core s k).inBank1 = true) :
    Osier.ranBank s (Osier.issue s.begin k i) k = {} ∧
    ∀ a, a ∈ (Osier.issue s.begin k i).coil.acts → some a.node = b.node → a.state = 2 → a.core = k →
      a.posted = true ∧ (i.ctl % 2 = 1 → a.late = true) := by
  obtain ⟨u, ws, hissue, hbank, hxfers⟩ := Osier.issue_concludes hr h62 h63
  obtain ⟨-, hsome, -, -, hb, -⟩ := hr
  obtain ⟨n, hn⟩ := Option.isSome_iff_exists.mp hsome
  have hbn : b.node = some n := by rw [hb, Bank.settle_node, hn]
  have hnode : (if (Osier.core s k).inBank1 then (Osier.core u k).b1 else (Osier.core u k).b0).node = some n := by
    rw [hbank, Osier.bankAfter_node, hbn]
  have hpost : Osier.issue s.begin k i = Osier.post u k (Osier.core s k).inBank1 (i.ctl % 2 == 1) := by
    rw [hissue]
    unfold Osier.conclude
    simp only [hdone, if_true, hxfers]
    rw [if_pos (by simpa using hfree)]
  rw [hpost]
  constructor
  · unfold Osier.ranBank
    rw [Osier.post_core hnode]
    unfold CoreSt.setBank
    cases (Osier.core s k).inBank1 <;> rfl
  · intro a ha hanode hstate hcore
    have hlate := Osier.post_acts hnode _ ha (Option.some.inj (hanode.trans hbn)) hstate hcore
    simpa using hlate

/-- DONE in bank 0 with transfers outstanding waits for them with its bad bit. -/
theorem Osier.issue_waits (hwait : (Osier.core s k).xfers ≠ []) (hzero : (Osier.core s k).inBank1 = false) :
    (Osier.ranBank s (Osier.issue s.begin k i) k).done = some (i.ctl % 2 == 1) ∧
    (Osier.ranBank s (Osier.issue s.begin k i) k).node = b.node ∧
    (Osier.core (Osier.issue s.begin k i) k).xfers = (Osier.core s k).xfers := by
  obtain ⟨u, ws, hissue, hbank, hxfers⟩ := Osier.issue_concludes hr h62 h63
  rw [hzero] at hbank
  have hset : Osier.issue s.begin k i = Osier.setCore u k { Osier.core u k with
      b0 := { (Osier.core u k).b0 with done := some (i.ctl % 2 == 1) } } := by
    rw [hissue]
    unfold Osier.conclude
    simp only [hdone, if_true, hxfers, hzero]
    rw [if_neg (by simpa using hwait)]
  unfold Osier.ranBank
  rw [hset, Osier.core_setCore, hzero]
  refine ⟨rfl, ?_, hxfers⟩
  exact (congrArg Bank.node hbank).trans (Osier.bankAfter_node i b ws _)

end Concludes

/-- The end of the last transfer, without an error, posts the DONE that waited for it. -/
theorem Osier.xferEnd_posts {s : State} {k : Nat} {r : Xfer} {bad : Bool} (hlast : (Osier.core s k).xfers = [r])
    (hdone : (Osier.core s k).b0.done = some bad) (hgood : (Osier.core s k).xferErr = false) :
    ∃ u, Osier.xferEnd s k false = Osier.post u k false bad ∧ (Osier.core u k).b0 = (Osier.core s k).b0 ∧ (Osier.core u k).xfers = [] := by
  unfold Osier.xferEnd
  simp only [hlast, hdone, hgood, List.drop_one, List.tail_cons, List.isEmpty_nil, Bool.false_and, Bool.or_self, Bool.false_eq_true,
    if_true, if_false]
  refine ⟨_, rfl, ?_, ?_⟩ <;> rw [Osier.core_setCore]

/-! ### What issue judges (R228, R252, R259 to R263) -/

/-- What becomes of a bundle of core `k` in `s` that may stand where it does and waits for nothing, with the registers that `b` shows:
its moves and its transfer are in range, and no injected error strikes it, or the node is abandoned. `t` is `s` with those registers
settled. -/
def Osier.judgedMoves (s t : State) (k : Nat) (i : Bundle) (b : Bank) : State :=
  let c := Osier.core s k
  let one := c.inBank1
  if !(Move.ofNat i.x).inRegion one (b.af (Move.ofNat i.x).areg 0) ∨ !(Move.ofNat i.y).inRegion one (b.af (4 + (Move.ofNat i.y).areg) 0) then
    Osier.coreFault t k 0x82
  else if (i.op = 0x62 ∨ i.op = 0x63) ∧ (Osier.xferOf i b s).badRange then Osier.coreFault t k 0x82
  else if (Move.ofNat i.x).isLoad ∧ c.injParity then
    Osier.coreFault (((Osier.setCore t k { Osier.core t k with injParity := false }).count (0x60000 + 0x1000 * k + 0x5C) 1).irq
      (Osier.pageOf k) 2) k 0x86
  else if i.multiplies ∧ c.injResidue then
    Osier.coreFault (((Osier.setCore t k { Osier.core t k with injResidue := false }).count (0x60000 + 0x1000 * k + 0x58) 1).irq
      (Osier.pageOf k) 1) k 0x80
  else Osier.execute t k i

/-- What becomes of any bundle of core `k`: whether it may stand where it does, and whether it waits, comes first. -/
def Osier.judged (s t : State) (k : Nat) (i : Bundle) (b : Bank) : State :=
  let c := Osier.core s k
  let one := c.inBank1
  let ctl := i.ctl / 256
  if b.issued = 0 ∧ 0xC00 ≤ b.pc ∧ b.node.getD 0 < 7168 then Osier.coreFault t k 0x82
  else if !i.legal b then Osier.coreFault t k 0x81
  else if ((i.op = 0x60 ∨ i.op = 0x61) ∧ !one) ∨ ((i.op = 0x62 ∨ i.op = 0x63) ∧ one) then Osier.coreFault t k 0x84
  else if !one ∧ ((ctl = 3 ∧ i.ctl % 8 < c.xfers.length) ∨ ((i.op = 0x62 ∨ i.op = 0x63) ∧ 8 ≤ c.xfers.length)) then Osier.stallNow t k
  else if !one ∧ (ctl = 3 ∨ ctl = 4) ∧ c.xferErr then
    Osier.coreFault (Osier.setCore t k { Osier.core t k with xferErr := false }) k 0x85
  else Osier.judgedMoves s t k i b

/-- A view of a core that its banks have no part in stays when its registers settle. -/
theorem Osier.settled_view {α : Type} {g : CoreSt → α} (hg : ∀ c b0 b1, g { c with b0 := b0, b1 := b1 } = g c) (s : State) (k : Nat) :
    g (Osier.core (Osier.settled s k) k) = g (Osier.core s k) := by
  unfold Osier.settled
  rw [Osier.core_setCore]
  unfold CoreSt.setActive
  split
  · exact hg _ (Osier.core s k).b0 _
  · exact hg _ _ (Osier.core s k).b1

section Awake

variable {s : State} {k : Nat} {b : Bank} (up : s.pageUp (Osier.pageOf k) = true) (hnode : (Osier.core s k).active.node.isSome = true)
  (hdone : (Osier.core s k).active.done = none) (hcost : (Osier.core s k).inBank1 = true → (Osier.core s k).b1.issued < (Osier.core s k).b1.cost)
  (hb : b = (Osier.core s k).active.settle)
include up hnode hdone hcost hb

theorem Osier.issue_judged (i : Bundle) : Osier.issue s k i = Osier.judged s (Osier.settled s k) k i b := by
  have hopen : ¬ (!s.pageUp (Osier.pageOf k) ∨ (Osier.core s k).active.node = none ∨ (Osier.core s k).active.done.isSome ∨
      (Osier.core s k).inBank1 ∧ (Osier.core s k).b1.cost ≤ (Osier.core s k).b1.issued) := by
    simpa [up, hdone, Option.isSome_iff_ne_none.mp hnode] using hcost
  have hbank := (Osier.settled_active s k).trans hb.symm
  have hone := Osier.settled_inBank1 s k
  have hxfers := Osier.settled_view (g := CoreSt.xfers) (fun _ _ _ => rfl) s k
  have hxferErr := Osier.settled_view (g := CoreSt.xferErr) (fun _ _ _ => rfl) s k
  have hparity := Osier.settled_view (g := CoreSt.injParity) (fun _ _ _ => rfl) s k
  have hresidue := Osier.settled_view (g := CoreSt.injResidue) (fun _ _ _ => rfl) s k
  unfold Osier.issue
  refine (if_neg hopen).trans ?_
  unfold Osier.judged Osier.judgedMoves
  rw [show Osier.setCore s k ((Osier.core s k).setActive (Osier.core s k).active.settle) = Osier.settled s k from rfl]
  simp only [hbank, hone, hxfers, hxferErr, hparity, hresidue]
  rfl

end Awake

/-! ### WAITX (R252) -/

/-- WAITX with more transfers outstanding than it names stalls the core from now. -/
theorem Osier.judged_stalls {s t : State} {k : Nat} {i : Bundle} {b : Bank} (hzero : (Osier.core s k).inBank1 = false)
    (hlegal : i.legal b = true) (hdevice : ¬ (b.issued = 0 ∧ 0xC00 ≤ b.pc ∧ b.node.getD 0 < 7168)) (h60 : i.op ≠ 0x60)
    (h61 : i.op ≠ 0x61) (hctl : i.ctl / 256 = 3) (hmore : i.ctl % 8 < (Osier.core s k).xfers.length) :
    Osier.judged s t k i b = Osier.stallNow t k := by
  unfold Osier.judged
  simp only [hzero, hctl]
  rw [if_neg hdevice, if_neg (by simp [hlegal]), if_neg (by simp [h60, h61]), if_pos (by simp [hmore])]

/-- A stall of bank 0, whose registers have settled. -/
theorem Osier.stallNow_settled {s : State} {k : Nat} {b : Bank} (hzero : (Osier.core s k).inBank1 = false)
    (hb : b = (Osier.core s k).active.settle) (hstall : b.stall = none) : ∃ o : OsierSt,
    Osier.stallNow (Osier.settled s k) k = { s with osier := o } ∧
    Osier.core { s with osier := o } k = { Osier.core s k with b0 := { b with stall := some s.clk.mono } } ∧
    ∀ j, j ≠ k → Osier.core { s with osier := o } j = Osier.core s j := by
  have hbank := (Osier.settled_active s k).trans hb.symm
  have hone := (Osier.settled_inBank1 s k).trans hzero
  have hstalled : Osier.stallNow (Osier.settled s k) k = Osier.setCore (Osier.settled s k) k
      ((Osier.core (Osier.settled s k) k).setActive { b with stall := some s.clk.mono }) := by
    unfold Osier.stallNow
    simp only [hbank, hstall]
    rfl
  rw [hstalled]
  refine ⟨_, rfl, ?_, fun j hj => ?_⟩
  · refine (Osier.core_setCore _ _ _).trans ?_
    unfold CoreSt.setActive
    rw [hone]
    unfold Osier.settled
    rw [Osier.core_setCore]
    unfold CoreSt.setActive
    rw [hzero]
    rfl
  · exact (Osier.core_setCore_ne _ _ hj).trans (Osier.core_setCore_ne _ _ hj)

/-! ### The rows -/

/-- Settles O22: the updates, WAITX, SATCLR and DONE are the issue of the bundle with that control slot. -/
theorem osierControlSlotRows : Obligations.OsierControlSlotRows := by
  unfold Obligations.OsierControlSlotRows
  intro s k arg op f b c i hi hc
  obtain rfl : i = Operands.controlled op f arg := funext hi
  subst hc
  have hkind := fun o (ho : o < 16) => Operands.controlled_kind op f arg ho
  refine ⟨⟨?updates, ?waitx, ?satclr⟩, ?stall, ?done, ?lastTransfer⟩
  case updates =>
    intro o e rev hrow hx hy n n2 hn hn2 hne hr hpc
    have hexec : exec e s = s.act (fun t => Osier.issue t k (Operands.controlled op f arg o)) := by
      rcases hrow with ⟨rfl, rfl, -⟩ | ⟨rfl, rfl, -⟩ <;> rfl
    have ho : o = if rev then 2 else 1 := by
      rcases hrow with ⟨rfl, -, rfl⟩ | ⟨rfl, -, rfl⟩ <;> rfl
    have hsmall : o < 16 ∧ o ≠ 4 := by rw [ho]; split <;> decide
    have hdone : (Operands.controlled op f arg o).isDone = false := by
      rw [Operands.controlled_isDone op f arg hsmall.1]
      simpa using hsmall.2
    have hctl := Operands.controlled_ctl op f arg hsmall.1
    have hjoins := fun j q => Osier.update_joins hr hdone hpc (rev := rev) (by rw [hkind o hsmall.1, ho])
      (congrArg BitVec.toNat hx) (congrArg BitVec.toNat hy) (n := j) (q := q)
    have hargs : (Operands.controlled op f arg o).ctl / 16 % 8 = n ∧ (Operands.controlled op f arg o).ctl % 8 = n2 := by
      rw [hctl]
      omega
    rw [hargs.1, hargs.2] at hjoins
    refine Osier.completes_ran hr hdone hpc hexec ⟨fun hbit => ?_, fun hbit => ?_⟩
    · refine hjoins n _ (Osier.updateStep_keeps hne (Osier.updateStep_result ?_ rfl))
      have hon := Operands.controlled_enable o (j := 7) (by decide) hbit
      omega
    · refine hjoins n2 _ (Osier.updateStep_result ?_ (Osier.updateStep_apart hne.symm))
      have hon := Operands.controlled_enable o (j := 3) (by decide) hbit
      omega
  case waitx =>
    intro hr hpc
    exact Osier.completes_ran hr (Operands.controlled_isDone op f arg (by decide)) hpc (exec_waitx k arg op f s) trivial
  case satclr =>
    intro hr hpc
    have hdone := Operands.controlled_isDone op f arg (o := 5) (by decide)
    refine Osier.completes_ran hr hdone hpc (exec_satclr k arg op f s) ?_
    refine Osier.result_joins hr hdone hpc (w := (.flag 4, 0, 1)) (List.mem_append_right _ (Osier.mem_companions.mpr ?_))
    exact Or.inr (Or.inr ⟨hkind 5 (by decide), rfl⟩)
  case stall =>
    intro up hnode hdone hzero hb hlegal hdevice h60 h61 hctl hmore hstall
    have hexec : exec (.waitx k arg op f) s = s.act (fun t => Osier.issue t k (Operands.controlled op f arg 3)) := exec_waitx k arg op f s
    refine completes_act hexec (State.running_of_pageUp up) ?_
    rw [Osier.issue_judged (s := s.begin) up hnode hdone (fun h => absurd (hzero.symm.trans h) (by decide)) hb,
      Osier.judged_stalls (s := s.begin) hzero hlegal hdevice h60 h61 hctl hmore]
    obtain ⟨o, hstalled, hcore, hothers⟩ := Osier.stallNow_settled (s := s.begin) hzero hb hstall
    rw [hstalled]
    unfold Osier.ranBank
    rw [hcore, hzero]
    exact ⟨rfl, rfl, rfl, rfl, hothers, rfl⟩
  case done =>
    intro hr harg h62 h63
    have hdone := Operands.controlled_isDone op f arg (o := 4) (by decide)
    have hctl := Operands.controlled_ctl op f arg (o := 4) (by decide)
    refine ⟨fun hfree => ?_, fun hwait hzero => ?_⟩
    · obtain ⟨hempty, hacts⟩ := Osier.issue_done hr hdone h62 h63 hfree
      refine completes_issue (exec_done k arg op f s) hr ⟨hempty, fun a ha hnode hstate hcore => ?_⟩
      obtain ⟨hposted, hlate⟩ := hacts a ha hnode hstate hcore
      refine ⟨hposted, fun hbad => hlate ?_⟩
      rw [hctl, hbad]
      rfl
    · obtain ⟨hset, hnode, hxfers⟩ := Osier.issue_waits hr hdone h62 h63 hwait hzero
      refine completes_issue (exec_done k arg op f s) hr ⟨hset.trans ?_, hnode, hxfers⟩
      rw [hctl, Operands.controlled_bad harg]
  case lastTransfer =>
    intro hrun r bad ext l s1 hlast hread hext hfetch hsame hdone hnode hgood
    subst hext
    refine completes_act (exec_transferComplete k s) hrun ?_
    rw [Osier.transfer_read (s := s.begin) hlast hread hfetch, if_neg (by decide)]
    have hkept := Osier.received_kept s1 k r.y r.loc (r.bytes / 4) (fun w => w32 (ofLe (slice l (4 * w) 4))) k
    rw [hsame] at hkept
    generalize Osier.received s1 k r.y r.loc (r.bytes / 4) (fun w => w32 (ofLe (slice l (4 * w) 4))) = s2 at hkept
    have hb0 : (Osier.core s2 k).b0 = (Osier.core s k).b0 := congrArg (·.1) hkept
    obtain ⟨u, hpost, hub0, huxfers⟩ := Osier.xferEnd_posts ((congrArg (·.2.2.1) hkept).trans hlast)
      ((congrArg Bank.done hb0).trans hdone) ((congrArg (·.2.2.2.1) hkept).trans hgood)
    obtain ⟨n, hn⟩ := Option.isSome_iff_exists.mp hnode
    have hun : (if false then (Osier.core u k).b1 else (Osier.core u k).b0).node = some n := by
      rw [if_neg (by decide), hub0, hb0, hn]
    change _ ∧ _ ∧ _
    rw [show ((0 : Nat) != 0) = false from rfl, hpost, Osier.post_core hun]
    refine ⟨rfl, huxfers, fun a ha hanode hstate hcore => ?_⟩
    obtain ⟨hposted, -⟩ := Osier.post_acts hun bad ha (Option.some.inj (hanode.trans hn)) hstate hcore
    exact hposted

end Sys2Proof.Machine
end

section
/-!
PROOFS. Core faults: the node is abandoned with the code of what the core must not issue (R225, R228, R250 to R252, R259 to R263).
-/
namespace Sys2Proof.Machine

/-! ### Views that the Coil's completions leave alone

What the Coil does when a node ends changes its own state but for the step of the direct path, the tiers to be stepped, and registers
of its page and of the fault log. -/

/-- A view of the state that the Coil's own changes have no part in. -/
structure Coil.Blind {β : Type} (g : State → β) : Prop where
  coil : ∀ s c, c.path.steps = s.coil.path.steps → g { s with coil := c } = g s
  steps : ∀ s l, g { s with budget := { s.budget with steps := l } } = g s
  irq : ∀ s i, g (s.irq Coil.page i) = g s
  fault : ∀ s code d, g (s.faultD Coil.page code d) = g s
  count : ∀ s a n, a / 0x1000 = Coil.page → g (s.count a n) = g s

section Blind

variable {β : Type} {g : State → β} (hg : Coil.Blind g)
include hg

theorem Coil.setNode_blind (s : State) (i : Nat) (x : NodeSt) : g (Coil.setNode s i x) = g s := hg.coil s _ rfl

theorem Coil.event_blind (s : State) : g (Coil.event s) = g s := hg.coil s _ rfl

theorem Coil.dropAct_blind (s : State) (a : Act) : g (Coil.dropAct s a) = g s := hg.coil s _ rfl

theorem Coil.bump_blind (s : State) (i : Nat) (d : Int) : g (Coil.bump s i d) = g s := by
  unfold Coil.bump
  simp only []
  split
  · exact (hg.fault _ _ _).trans ((hg.irq _ _).trans (Coil.setNode_blind hg s i _))
  · exact Coil.setNode_blind hg s i _

theorem Coil.armNode_blind (s : State) (i : Nat) : g (Coil.armNode s i) = g s := by
  unfold Coil.armNode
  refine (Coil.setNode_blind hg _ i _).trans ?_
  split
  · exact Coil.setNode_blind hg s i _
  · exact Coil.bump_blind hg s i _

theorem Coil.addAct_blind (s : State) (i cause key : Nat) (d : Option Nat) : g (Coil.addAct s i cause key d) = g s := by
  unfold Coil.addAct
  simp only []
  split
  · exact (hg.count _ _ _ (by decide)).trans (hg.coil s _ rfl)
  · exact hg.coil s _ rfl

theorem Coil.rearm_blind (s : State) (i : Nat) : g (Coil.rearm s i) = g s := by
  unfold Coil.rearm
  simp only []
  split
  · exact Coil.armNode_blind hg s i
  · rfl

theorem Coil.doRelease_blind (s : State) (i cause key : Nat) : g (Coil.doRelease s i cause key).1 = g s := by
  have hnode := Coil.setNode_blind hg
  unfold Coil.doRelease
  simp only []
  split
  · exact (hnode _ i _).trans (hnode s i _)
  · split
    · exact (hnode _ i _).trans (hnode s i _)
    · exact (hnode _ i _).trans ((Coil.addAct_blind hg _ i cause key _).trans (hnode s i _))

theorem Coil.tryRelease_blind (s : State) (i cause key : Nat) : g (Coil.tryRelease s i cause key).1 = g s := by
  unfold Coil.tryRelease
  simp only []
  split
  · rfl
  · split
    · split
      · exact Coil.setNode_blind hg s i _
      · exact Coil.doRelease_blind hg s i cause key
    · exact Coil.doRelease_blind hg s i cause key

theorem Coil.endAtOnce_blind (s : State) (i : Nat) : g (Coil.endAtOnce s i) = g s := by
  have hset := Coil.setNode_blind hg
  have hrearm := Coil.rearm_blind hg
  unfold Coil.endAtOnce
  by_cases hdirect : Coil.cls s i = 1
  · simp only [if_pos hdirect]
    split
    · exact (hset _ i _).trans ((hrearm _ i).trans (hg.coil s _ rfl))
    · exact (hrearm _ i).trans (hg.coil s _ rfl)
  · simp only [if_neg hdirect]
    split
    · exact (hset _ i _).trans (hrearm s i)
    · exact hrearm s i

theorem Coil.settle_blind (f : Nat) (s : State) (cause key : Nat) (l : List (Nat × Option Bool)) :
    g (Coil.settle f s cause key l) = g s := by
  induction f generalizing s l with
  | zero => rfl
  | succ f ih =>
    cases l with
    | nil => rfl
    | cons e rest =>
      obtain ⟨j, sig⟩ := e
      have hbump : g (if sig.isSome then Coil.bump s j (-1) else s) = g s := by
        split
        · exact Coil.bump_blind hg s j _
        · rfl
      unfold Coil.settle
      simp only []
      generalize (if sig.isSome then Coil.bump s j (-1) else s) = s1 at hbump ⊢
      have hlate : g (if sig = some true then Coil.setNode s1 j { Coil.node s1 j with lateIn := true } else s1) = g s := by
        split
        · exact (Coil.setNode_blind hg s1 j _).trans hbump
        · exact hbump
      generalize (if sig = some true then Coil.setNode s1 j { Coil.node s1 j with lateIn := true } else s1) = s2 at hlate ⊢
      have htry := (Coil.tryRelease_blind hg s2 j cause key).trans hlate
      cases (Coil.tryRelease s2 j cause key).2 with
      | none => exact (ih _ rest).trans htry
      | some b => exact (ih _ _).trans ((Coil.endAtOnce_blind hg _ j).trans htry)

theorem Coil.finish_blind (s : State) (i : Nat) (late : Bool) (cause key : Nat) : g (Coil.finish s i late cause key) = g s :=
  (Coil.settle_blind hg _ _ _ _ _).trans ((Coil.rearm_blind hg _ i).trans
    ((Coil.settle_blind hg _ _ _ _ _).trans (Coil.setNode_blind hg s i _)))

theorem Coil.missStep_blind (s : State) : g s.missStep = g s := by
  unfold State.missStep
  split
  · rfl
  · exact hg.steps s _

theorem Coil.resumed_blind (s : State) (k : Nat) : g (Coil.resumed s k) = g s := by
  unfold Coil.resumed
  split
  · exact hg.coil s _ rfl
  · rfl

theorem Coil.miss_blind (s : State) (i : Nat) : g (Coil.miss s i) = g s := by
  unfold Coil.miss
  simp only []
  split
  · rfl
  · refine (Coil.settle_blind hg _ _ _ _ _).trans ((Coil.event_blind hg _).trans ((Coil.missStep_blind hg _).trans ((hg.fault _ _ _).trans
      ((hg.irq _ _).trans ((hg.count _ _ _ (by decide)).trans ?_)))))
    refine (foldl_keeps g _ (fun s j => Coil.setNode_blind hg s j _) _ _).trans ?_
    exact (foldl_keeps g _ (fun s k => Coil.resumed_blind hg s k) _ _).trans (hg.coil s _ rfl)

end Blind

/-- The Coil's changes reach no register of a page behind it but the fault log's. -/
theorem Coil.blind_rd {a : Nat} (ha : 0x60000 ≤ a) : Coil.Blind (fun s => s.rd a) where
  coil _ _ _ := rfl
  steps _ _ := rfl
  irq s i := State.irq_ne s _ i (by unfold Reg.irqStatus Coil.page; omega)
  fault s code d := State.faultD_ne s _ code d (by unfold Reg.faultCause Coil.page; omega) (by unfold Reg.faultCount Coil.page; omega)
    (by unfold Reg.irqStatus; omega) (by unfold Reg.faultOverflow; omega)
  count s b n hb := State.count_ne s n (by rintro rfl; unfold Coil.page at hb; omega)

theorem Coil.blind_mem : Coil.Blind State.mem where
  coil _ _ _ := rfl
  steps _ _ := rfl
  irq _ _ := rfl
  fault s code d := State.coilOnly_mem (State.coilOnly_faultD s _ code d)
  count s a n _ := State.coilOnly_mem (State.coilOnly_count s a n)

theorem Coil.blind_core (k : Nat) : Coil.Blind (fun s => Osier.core s k) where
  coil _ _ _ := rfl
  steps _ _ := rfl
  irq _ _ := rfl
  fault s code d := Osier.core_of_osier (State.coilOnly_osier (State.coilOnly_faultD s _ code d)) k
  count s a n _ := Osier.core_of_osier (State.coilOnly_osier (State.coilOnly_count s a n)) k

/-! ### The end of the node (R263) -/

/-- Bank 1 or bank 0 of a core. -/
def CoreSt.bank (c : CoreSt) (one : Bool) : Bank := if one then c.b1 else c.b0

theorem Osier.core_clearBank (s : State) (k : Nat) (one : Bool) : Osier.core (Osier.clearBank s k one) k = (Osier.core s k).setBank one {} := by
  unfold Osier.clearBank CoreSt.setBank
  exact Osier.core_setCore _ _ _

/-- A core fault of a bank, before the Coil hears of it. -/
def Osier.recorded (s : State) (k n : Nat) (one : Bool) (pc code : Nat) : State :=
  ((s.wr (Reg.osierFaultInfo k) (w32 (at_ 16 n + at_ 12 (b2n one) + pc % 4096))).irq (Osier.pageOf k) 0).faultD (Osier.pageOf k) code n

section Fault

variable (s : State) (k n : Nat) (one : Bool) (pc : Nat) {code : Nat}

theorem Osier.recorded_irq (code : Nat) : bit ((Osier.recorded s k n one pc code).rd (Reg.irqStatus (Osier.pageOf k))) 0 = true :=
  State.bit_irq_faultD _ code n (by decide) (by unfold Osier.pageOf; omega)

theorem Osier.recorded_cause (hcode : code < 256) : fld ((Osier.recorded s k n one pc code).rd (Reg.faultCause (Osier.pageOf k))) 7 0 = code :=
  State.faultD_cause _ _ _ _ hcode

theorem Osier.recorded_info (code : Nat) : (Osier.recorded s k n one pc code).rd (Reg.osierFaultInfo k) =
    w32 (at_ 16 n + at_ 12 (b2n one) + pc % 4096) := by
  unfold Osier.recorded
  rw [State.faultD_ne, State.irq_ne, State.rd_wr_same]
  all_goals simp only [Reg.osierFaultInfo, Reg.irqStatus, Reg.faultCause, Reg.faultCount, Reg.faultOverflow, Osier.pageOf, ne_eq]
  all_goals omega

theorem Osier.recorded_mem (code : Nat) : (Osier.recorded s k n one pc code).mem = s.mem :=
  (State.coilOnly_mem (State.coilOnly_faultD _ _ _ _)).trans rfl

theorem Osier.recorded_core (code j : Nat) : Osier.core (Osier.recorded s k n one pc code) j = Osier.core s j :=
  Osier.core_of_osier (State.coilOnly_osier (State.coilOnly_faultD (State.irq (State.wr s _ _) _ _) _ _ _)) j

variable {s k n one}

/-- What the Coil has no part in is after a core fault as the core has left it. -/
theorem Osier.bankFault_view {β : Type} {g : State → β} (hg : Coil.Blind g) (hnode : ((Osier.core s k).bank one).node = some n) (code : Nat) :
    g (Osier.bankFault s k one pc code) = g (Osier.clearBank (Osier.recorded s k n one pc code) k one) := by
  have hinfo : 0x60000 + 0x1000 * k + 0x4C = Reg.osierFaultInfo k := by unfold Reg.osierFaultInfo; omega
  unfold CoreSt.bank at hnode
  unfold Osier.bankFault
  simp only [hnode, hinfo]
  split
  · exact Coil.miss_blind hg _ _
  · split
    · exact (Coil.finish_blind hg _ _ _ _ _).trans ((Coil.event_blind hg _).trans (Coil.dropAct_blind hg _ _))
    · rfl

end Fault

/-- The core fault of code `code` at bundle `pc` has abandoned the node `n` of a bank of core `k`, and memory is that of `s` (R263). -/
structure Osier.Abandoned (s t : State) (k n : Nat) (one : Bool) (pc code : Nat) : Prop where
  core : Osier.core t k = (Osier.core s k).setBank one {}
  cause : fld (t.rd (Reg.faultCause (Osier.pageOf k))) 7 0 = code
  irq : bit (t.rd (Reg.irqStatus (Osier.pageOf k))) 0 = true
  info : t.rd (Reg.osierFaultInfo k) = w32 (at_ 16 n + at_ 12 (b2n one) + pc % 4096)
  mem : t.mem = s.mem

theorem Osier.bankFault_abandons {s : State} {k n : Nat} {one : Bool} (hnode : ((Osier.core s k).bank one).node = some n) (pc : Nat) {code : Nat}
    (hcode : code < 256) : Osier.Abandoned s (Osier.bankFault s k one pc code) k n one pc code where
  core := by
    rw [Osier.bankFault_view pc (Coil.blind_core k) hnode, Osier.core_clearBank, Osier.recorded_core]
  cause := by
    rw [Osier.bankFault_view pc (Coil.blind_rd (by unfold Reg.faultCause Osier.pageOf; omega)) hnode]
    exact Osier.recorded_cause s k n one pc hcode
  irq := by
    rw [Osier.bankFault_view pc (Coil.blind_rd (by unfold Reg.irqStatus Osier.pageOf; omega)) hnode]
    exact Osier.recorded_irq s k n one pc code
  info := by
    rw [Osier.bankFault_view pc (Coil.blind_rd (by unfold Reg.osierFaultInfo; omega)) hnode]
    exact Osier.recorded_info s k n one pc code
  mem := (Osier.bankFault_view pc Coil.blind_mem hnode code).trans (Osier.recorded_mem s k n one pc code)

/-- A core fault of the bank whose bundles issue. -/
theorem Osier.coreFault_abandons {s : State} {k n : Nat} {b : Bank} (hpc : (Osier.core s k).active.pc = b.pc)
    (hnode : (Osier.core s k).active.node = some n) {code : Nat} (hcode : code < 256) :
    Osier.Abandoned s (Osier.coreFault s k code) k n (Osier.core s k).inBank1 b.pc code := by
  rw [← hpc]
  exact Osier.bankFault_abandons hnode _ hcode

/-! ### Where the bundle is stopped -/

section Judged

variable {s t : State} {k : Nat} {i : Bundle} {b : Bank} (hdevice : ¬ (b.issued = 0 ∧ 0xC00 ≤ b.pc ∧ b.node.getD 0 < 7168))
include hdevice

theorem Osier.judged_illegal (h : i.legal b = false) : Osier.judged s t k i b = Osier.coreFault t k 0x81 := by
  unfold Osier.judged
  exact (if_neg hdevice).trans (if_pos (by simp [h]))

variable (hlegal : i.legal b = true)
include hlegal

theorem Osier.judged_misplaced (h : ((i.op = 0x60 ∨ i.op = 0x61) ∧ (Osier.core s k).inBank1 = false) ∨
    ((i.op = 0x62 ∨ i.op = 0x63) ∧ (Osier.core s k).inBank1 = true)) : Osier.judged s t k i b = Osier.coreFault t k 0x84 := by
  unfold Osier.judged
  exact (if_neg hdevice).trans ((if_neg (by simp [hlegal])).trans (if_pos (by simpa using h)))

theorem Osier.judged_moves (hfabric : (i.op = 0x60 ∨ i.op = 0x61) → (Osier.core s k).inBank1 = true)
    (hxfer : (i.op = 0x62 ∨ i.op = 0x63) → (Osier.core s k).inBank1 = false ∧ (Osier.core s k).xfers.length < 8)
    (hwait : i.ctl / 256 = 3 → (Osier.core s k).xfers.length ≤ i.ctl % 8) (hgood : (Osier.core s k).xferErr = false) :
    Osier.judged s t k i b = Osier.judgedMoves s t k i b := by
  have hplaced : ¬ (((i.op = 0x60 ∨ i.op = 0x61) ∧ !(Osier.core s k).inBank1) ∨ ((i.op = 0x62 ∨ i.op = 0x63) ∧ (Osier.core s k).inBank1)) := by
    rintro (⟨hop, hone⟩ | ⟨hop, hone⟩)
    · simp [hfabric hop] at hone
    · simp [(hxfer hop).1] at hone
  have hgoes : ¬ ((!(Osier.core s k).inBank1) ∧ ((i.ctl / 256 = 3 ∧ i.ctl % 8 < (Osier.core s k).xfers.length) ∨
      ((i.op = 0x62 ∨ i.op = 0x63) ∧ 8 ≤ (Osier.core s k).xfers.length))) := by
    rintro ⟨-, ⟨hctl, hmore⟩ | ⟨hop, hmore⟩⟩
    · have := hwait hctl
      omega
    · have := (hxfer hop).2
      omega
  unfold Osier.judged
  exact (if_neg hdevice).trans ((if_neg (by simp [hlegal])).trans ((if_neg hplaced).trans ((if_neg hgoes).trans (if_neg (by simp [hgood])))))

end Judged

section Moves

variable {s t : State} {k : Nat} {i : Bundle} {b : Bank}

theorem Osier.judgedMoves_outside (h : (Move.ofNat i.x).inRegion (Osier.core s k).inBank1 (b.af (Move.ofNat i.x).areg 0) = false ∨
    (Move.ofNat i.y).inRegion (Osier.core s k).inBank1 (b.af (4 + (Move.ofNat i.y).areg) 0) = false) :
    Osier.judgedMoves s t k i b = Osier.coreFault t k 0x82 := by
  unfold Osier.judgedMoves
  exact if_pos (by simpa using h)

variable (hx : (Move.ofNat i.x).inRegion (Osier.core s k).inBank1 (b.af (Move.ofNat i.x).areg 0) = true)
  (hy : (Move.ofNat i.y).inRegion (Osier.core s k).inBank1 (b.af (4 + (Move.ofNat i.y).areg) 0) = true)
include hx hy

theorem Osier.judgedMoves_range (h : i.op = 0x62 ∨ i.op = 0x63) (hbad : (Osier.xferOf i b s).badRange = true) :
    Osier.judgedMoves s t k i b = Osier.coreFault t k 0x82 := by
  unfold Osier.judgedMoves
  exact (if_neg (by simp [hx, hy])).trans (if_pos ⟨h, hbad⟩)

variable (hrange : (i.op = 0x62 ∨ i.op = 0x63) → (Osier.xferOf i b s).badRange = false)
include hrange

theorem Osier.judgedMoves_parity (hload : (Move.ofNat i.x).isLoad = true) (hinj : (Osier.core s k).injParity = true) :
    Osier.judgedMoves s t k i b = Osier.coreFault (((Osier.setCore t k { Osier.core t k with injParity := false }).count
      (0x60000 + 0x1000 * k + 0x5C) 1).irq (Osier.pageOf k) 2) k 0x86 := by
  unfold Osier.judgedMoves
  refine (if_neg (by simp [hx, hy])).trans ((if_neg ?_).trans (if_pos ⟨hload, hinj⟩))
  rintro ⟨hop, hbad⟩
  simp [hrange hop] at hbad

theorem Osier.judgedMoves_residue (hquiet : (Move.ofNat i.x).isLoad = false ∨ (Osier.core s k).injParity = false)
    (hmul : i.multiplies = true) (hinj : (Osier.core s k).injResidue = true) :
    Osier.judgedMoves s t k i b = Osier.coreFault (((Osier.setCore t k { Osier.core t k with injResidue := false }).count
      (0x60000 + 0x1000 * k + 0x58) 1).irq (Osier.pageOf k) 1) k 0x80 := by
  unfold Osier.judgedMoves
  refine (if_neg (by simp [hx, hy])).trans ((if_neg ?_).trans ((if_neg ?_).trans (if_pos ⟨hmul, hinj⟩)))
  · rintro ⟨hop, hbad⟩
    simp [hrange hop] at hbad
  · rintro ⟨hload, hparity⟩
    rcases hquiet with h | h <;> simp_all

end Moves

/-! ### The claim -/

/-- The command `e` makes core `k` abandon node `n` with the code: its bank is empty, the code, the interrupt and the place are recorded,
memory is as it was, and `P` holds of the core (R263). -/
def Osier.faults (s : State) (k n : Nat) (b : Bank) (e : Instr) (code : Nat) (P : CoreSt → Prop) : Prop :=
  Completes e s (fun t => Osier.ranBank s t k = {} ∧ fld (t.rd (Reg.faultCause (Osier.pageOf k))) 7 0 = code ∧
    bit (t.rd (Reg.irqStatus (Osier.pageOf k))) 0 = true ∧
    t.rd (Reg.osierFaultInfo k) = w32 (at_ 16 n + at_ 12 (b2n (Osier.core s k).inBank1) + b.pc % 4096) ∧ t.mem = s.mem ∧ P (Osier.core t k))

/-- A command that comes to a core fault of a core with bank `b`, which holds node `n`, in a state with the memory of `s`. -/
theorem Osier.faults_of {s u : State} {k n : Nat} {b : Bank} {e : Instr} {f : State → State} {code : Nat} {P : CoreSt → Prop}
    (hexec : exec e s = s.act f) (hrun : s.running = true) (hcomes : f s.begin = Osier.coreFault u k code) (hcode : code < 256)
    (hone : (Osier.core u k).inBank1 = (Osier.core s k).inBank1) (hpc : (Osier.core u k).active.pc = b.pc)
    (hnode : (Osier.core u k).active.node = some n) (hmem : u.mem = s.mem) (hP : ∀ one, P ((Osier.core u k).setBank one {})) :
    Osier.faults s k n b e code P := by
  obtain ⟨hcore, hcause, hirq, hinfo, hkept⟩ := Osier.coreFault_abandons (n := n) hpc hnode hcode
  rw [hone] at hcore hinfo
  refine completes_act hexec hrun ?_
  rw [hcomes, hcore]
  refine ⟨?_, hcause, hirq, hinfo, hkept.trans hmem, hP _⟩
  unfold Osier.ranBank
  rw [hcore]
  unfold CoreSt.setBank
  cases (Osier.core s k).inBank1 <;> rfl

/-- A flag of the core taken down, an error counted and an interrupt raised: the core is as the flag leaves it. -/
theorem Osier.counted_core (t : State) (k a p j : Nat) (c : CoreSt) : Osier.core (((Osier.setCore t k c).count a 1).irq p j) k = c := by
  refine (Osier.core_of_osier (s := Osier.setCore t k c) ?_ k).trans (Osier.core_setCore t k c)
  exact State.coilOnly_osier (State.coilOnly_trans (State.coilOnly_count _ a 1) (State.coilOnly_irq _ p j))

theorem Osier.counted_mem (t : State) (k a p j : Nat) (c : CoreSt) : (((Osier.setCore t k c).count a 1).irq p j).mem = t.mem :=
  (State.coilOnly_mem (State.coilOnly_trans (State.coilOnly_count _ a 1) (State.coilOnly_irq _ p j))).trans rfl

/-- Settles O23: a core without work issues nothing; otherwise the branch that each clause's conditions name is a core fault. -/
theorem osierFaultsAbandonTheNode : Obligations.OsierFaultsAbandonTheNode := by
  unfold Obligations.OsierFaultsAbandonTheNode
  intro s k i e c b n hexec up _ hc hb
  subst hc
  have hrun := State.running_of_pageUp up
  refine ⟨fun hidle => completes_act hexec hrun (if_pos (Or.inr hidle)), fun hnode hdone hcost hdevice => ?_⟩
  have hbnode : b.node = some n := by rw [hb, Bank.settle_node, hnode]
  have hbdevice : ¬ (b.issued = 0 ∧ 0xC00 ≤ b.pc ∧ b.node.getD 0 < 7168) := by rwa [hbnode]
  have hone : (Osier.core (Osier.settled s.begin k) k).inBank1 = (Osier.core s k).inBank1 := Osier.settled_inBank1 s.begin k
  have hbank : (Osier.core (Osier.settled s.begin k) k).active = b := (Osier.settled_active s.begin k).trans hb.symm
  have hpc := congrArg Bank.pc hbank
  have hheld := (congrArg Bank.node hbank).trans hbnode
  have hjudged := Osier.issue_judged (s := s.begin) up (Option.isSome_of_eq_some hnode) hdone hcost hb i
  have hplain : ∀ code, code < 256 → Osier.judged s.begin (Osier.settled s.begin k) k i b = Osier.coreFault (Osier.settled s.begin k) k code →
      Osier.faults s k n b e code (fun _ => True) := fun code hcode heq =>
    Osier.faults_of hexec hrun (hjudged.trans heq) hcode hone hpc hheld rfl fun _ => trivial
  refine ⟨fun hillegal => hplain 0x81 (by decide) (Osier.judged_illegal hbdevice hillegal), fun hlegal => ⟨fun hmisplaced => ?_, ?_⟩⟩
  · exact hplain 0x84 (by decide) (Osier.judged_misplaced hbdevice hlegal hmisplaced)
  · intro hfabric hxfer hwait hgood
    have hmoves := Osier.judged_moves (s := s.begin) (t := Osier.settled s.begin k) hbdevice hlegal hfabric hxfer hwait hgood
    refine ⟨fun hout => hplain 0x82 (by decide) (hmoves.trans (Osier.judgedMoves_outside hout)), fun hx hy => ⟨fun hop hbad => ?_, ?_⟩⟩
    · exact hplain 0x82 (by decide) (hmoves.trans (Osier.judgedMoves_range hx hy hop hbad))
    · intro hrange
      have hstruck : ∀ (c : CoreSt) (a j code : Nat) (P : CoreSt → Prop), code < 256 → c.inBank1 = (Osier.core s k).inBank1 → c.active = b →
          Osier.judgedMoves s.begin (Osier.settled s.begin k) k i b =
            Osier.coreFault (((Osier.setCore (Osier.settled s.begin k) k c).count a 1).irq (Osier.pageOf k) j) k code →
          (∀ one, P (c.setBank one {})) → Osier.faults s k n b e code P := by
        intro c a j code P hcode hsame hactive heq hP
        refine Osier.faults_of hexec hrun (hjudged.trans (hmoves.trans heq)) hcode ?_ ?_ ?_ (Osier.counted_mem _ _ _ _ _ _) ?_ <;>
          rw [Osier.counted_core]
        · exact hsame
        · rw [hactive]
        · rw [hactive, hbnode]
        · exact hP
      refine ⟨fun hload hinj => ?_, fun hquiet hmul hinj => ?_⟩
      · refine hstruck { Osier.core (Osier.settled s.begin k) k with injParity := false } _ _ 0x86 (fun d => d.injParity = false) (by decide)
          hone hbank (Osier.judgedMoves_parity hx hy hrange hload hinj) fun one => ?_
        cases one <;> rfl
      · refine hstruck { Osier.core (Osier.settled s.begin k) k with injResidue := false } _ _ 0x80 (fun d => d.injResidue = false) (by decide)
          hone hbank (Osier.judgedMoves_residue hx hy hrange hquiet hmul hinj) fun one => ?_
        cases one <;> rfl

end Sys2Proof.Machine
end

section
/-!
PROOFS. What the end of a command leaves of the cores: where no frame and no shutdown is in progress and the device is not frozen, the
banks of the state before it, but those that it has emptied.
-/
namespace Sys2Proof.Machine

/-! ### What the sequences at the end of a command leave alone -/

/-- The cores, the step of the direct path and the start-up state. -/
def State.standing (s : State) : OsierSt × Nat × BootSt := (s.osier, s.coil.path.steps, s.boot)

theorem State.standing_eq {s t : State} (hcores : t.osier = s.osier) (hsteps : t.coil.path.steps = s.coil.path.steps)
    (hboot : t.boot = s.boot) : t.standing = s.standing := by
  unfold State.standing
  rw [hcores, hsteps, hboot]

theorem State.faultD_standing (s : State) (p code d : Nat) : (s.faultD p code d).standing = s.standing := by
  unfold State.standing
  rw [State.faultD_osier, State.faultD_coil, State.faultD_boot]

theorem State.count_standing (s : State) (a n : Nat) : (s.count a n).standing = s.standing := by
  unfold State.standing
  rw [State.count_osier, State.count_coil, State.count_boot]

theorem State.irq_standing (s : State) (p i : Nat) : (s.irq p i).standing = s.standing := rfl

theorem Coil.blind_standing : Coil.Blind State.standing where
  coil s _ h := congrArg (fun n => (s.osier, n, s.boot)) h
  steps _ _ := rfl
  irq _ _ := rfl
  fault s code d := State.faultD_standing s _ code d
  count s a n _ := State.count_standing s a n

theorem Coil.creditRise_standing (s : State) : (Coil.creditRise s).standing = s.standing := by
  unfold Coil.creditRise
  split
  · rfl
  · split <;> rfl

theorem Ptp.setPort_standing (s : State) (p : Nat) (x : PtpPort) : (Ptp.setPort s p x).standing = s.standing := State.standing_eq rfl rfl rfl

theorem Ptp.decide_standing (s : State) : (Ptp.decide_ s).standing = s.standing := by
  unfold Ptp.decide_
  extract_lets own slaveOnly masterOnly best follow alone stateOf sel gm changed oldGm s1 stake s2 anyOn s3
  have h1 : s1.standing = s.standing := by
    refine foldl_keeps State.standing _ (fun s p => ?_) _ s
    simp only []
    split <;> exact Ptp.setPort_standing s p _
  have h2 : s2.standing = s.standing := Eq.trans (State.standing_eq rfl rfl rfl) h1
  have h3 : s3.standing = s.standing := by
    refine Eq.trans ?_ h2
    simp only [s3]
    split <;> rfl
  split
  · exact (State.irq_standing _ _ _).trans h3
  · exact h3

theorem Ptp.follow_standing (s : State) : (Ptp.follow s).standing = s.standing := by
  unfold Ptp.follow
  split
  · exact Ptp.decide_standing s
  · rfl

/-- A new increment, stated for any: the kernel is not to compare it with the one before. -/
theorem Stake.steered_standing (s : State) (i : Nat) :
    { Stake.setI s i with stake := { (Stake.setI s i).stake with steerAt := (Stake.setI s i).clk.mono } }.standing = s.standing :=
  State.standing_eq rfl rfl rfl

theorem Stake.holdSlew_standing (s : State) : (Stake.holdSlew s).standing = s.standing := by
  unfold Stake.holdSlew
  cases s.stake.holdI with
  | none => rfl
  | some m =>
    simp only []
    split
    · rfl
    · split
      · rfl
      · exact Stake.steered_standing s _

theorem Pstg.channelsOnly.standing {s t : State} (h : Pstg.channelsOnly s t) : t.standing = s.standing := by
  rw [h]
  exact State.standing_eq rfl rfl rfl

theorem Pstg.muteAll_standing (s : State) (kind : Nat) : (Pstg.muteAll s kind).standing = s.standing := by
  obtain ⟨u, hu, hmute⟩ := Pstg.muteAll_only s kind
  rw [hmute]
  exact hu.standing

theorem Pstg.endMute_standing (s : State) (kind : Nat) : (Pstg.endMute s kind).standing = s.standing := by
  obtain ⟨_, _, honly⟩ := Pstg.endMute_only s kind
  exact honly.standing

theorem Stake.stepQuiet_standing (s : State) : (Stake.stepQuiet s).standing = s.standing := by
  unfold Stake.stepQuiet
  split
  · rfl
  · simp only []
    refine .trans ?_ (Pstg.muteAll_standing s 4)
    generalize Pstg.muteAll s 4 = u
    refine .trans ?_ (foldl_keeps State.standing (fun s g => (s.irq (Pstg.pageOf g) 3).fault' (Pstg.pageOf g) 0x83)
      (fun s g => State.faultD_standing _ _ _ _) (List.range (Pstg.groups u)) u)
    exact State.standing_eq rfl rfl rfl

theorem Stake.pageReset_standing (s : State) : (Stake.pageReset s).standing = s.standing := by
  unfold Stake.pageReset
  simp only []
  split
  · exact State.standing_eq rfl rfl rfl
  · split <;> exact State.standing_eq rfl rfl rfl

theorem Stake.request_standing (s : State) (op : Nat) (x : Int) : (Stake.request s op x).standing = s.standing := by
  unfold Stake.request
  split
  · unfold Stake.jump
    exact (State.faultD_standing _ _ _ _).trans (State.count_standing _ _ _)
  · rfl

theorem Stake.progress_standing (s : State) : (Stake.progress s).standing = s.standing := by
  unfold Stake.progress
  split
  · exact Stake.stepQuiet_standing s
  · split
    · simp only []
      refine .trans ?_ (Pstg.endMute_standing s 4)
      generalize Pstg.endMute s 4 = u
      split
      · exact (Stake.pageReset_standing _).trans (State.standing_eq rfl rfl rfl)
      · exact State.standing_eq rfl rfl rfl
    · split
      · split
        · rfl
        · exact Stake.request_standing _ _ _
      · rfl

theorem Coil.restart_standing (s : State) : (Coil.restart s).standing = s.standing := by
  have hg := Coil.blind_standing
  unfold Coil.restart
  simp only []
  refine (foldl_keeps State.standing _ (fun s i => Coil.settle_blind hg _ s 1 _ _) _ _).trans ((Coil.event_blind hg _).trans
    ((foldl_keeps State.standing _ (fun s i => ?_) _ _).trans rfl))
  split
  · exact Coil.setNode_blind hg s i _
  · split
    · exact (Coil.armNode_blind hg _ i).trans (Coil.setNode_blind hg s i _)
    · exact Coil.setNode_blind hg s i _

theorem Hoop.leaveStep_standing (s : State) : (Hoop.leaveStep s).standing = s.standing := by
  unfold Hoop.leaveStep
  simp only []
  split
  · rfl
  · split <;> rfl

theorem Hoop.startRejoin_standing (s : State) : (Hoop.startRejoin s).standing = s.standing := by
  unfold Hoop.startRejoin
  split
  · exact Hoop.leaveStep_standing s
  · simp only []
    split <;> exact (Coil.restart_standing _).trans (State.count_standing _ _ _)

theorem Hoop.steppedOut_standing (s : State) (w : Word) : (Hoop.steppedOut s w).standing = s.standing := by
  unfold Hoop.steppedOut
  split
  · rfl
  · unfold Hoop.outOfStep
    split
    · rfl
    · simp only []
      split
      · exact (Hoop.startRejoin_standing _).trans (State.faultD_standing _ _ _ _)
      · exact State.faultD_standing _ _ _ _

theorem Plait.lost_standing (s : State) : (Plait.lost s).standing = s.standing := by
  unfold Plait.lost
  split
  · rfl
  · refine foldl_keeps State.standing _ (fun s k => ?_) _ s
    simp only []
    split <;> rfl

theorem Plait.endPending_standing (s : State) (o : Outcome) (p : Nat → Bool) : (Plait.endPending s o p).standing = s.standing := by
  refine foldl_keeps State.standing _ (fun s k => ?_) _ s
  simp only []
  split <;> rfl

theorem State.startTicks_standing (s : State) (n : Nat) : (s.startTicks n).standing = s.standing := by
  unfold State.startTicks
  refine (foldl_keeps State.standing _ (fun s k => ?_) _ _).trans rfl
  simp only []
  split <;> rfl

theorem Budget.restart_standing (s : State) : (Budget.restart s).standing = s.standing := State.standing_eq rfl rfl rfl

theorem Port.restart_standing (s : State) : (Port.restart s).standing = s.standing := by
  unfold Port.restart
  refine (foldl_keeps State.standing _ (fun s p => ?_) _ s)
  refine (foldl_keeps State.standing _ (fun s t => ?_) _ s)
  simp only []
  split
  · split <;> rfl
  · rfl

theorem Freeze.progress_standing (s : State) : (Freeze.progress s).standing = s.standing := by
  unfold Freeze.progress
  split
  · unfold Freeze.resume
    simp only []
    split
    · rfl
    · refine (Port.restart_standing _).trans ((Budget.restart_standing _).trans ((State.startTicks_standing _ _).trans ?_))
      exact (Plait.endPending_standing _ _ _).trans (State.standing_eq rfl rfl rfl)
  · rfl

/-! ### Sequences that leave a mark -/

/-- Steps of the direct path that run leave their number. -/
theorem Frame.advance_marks (s : State) : Frame.advance s = s ∨ (Frame.advance s).coil.path.steps ≠ 0 := by
  have hfire : ∀ (u : State) k, (Coil.fire (Coil.event u) k).coil.path.steps = u.coil.path.steps := fun u k =>
    congrArg (·.2.1) ((Coil.settle_blind Coil.blind_standing _ _ _ _ _).trans (Coil.event_blind Coil.blind_standing u))
  unfold Frame.advance
  split
  · right
    unfold Frame.steps23
    rw [hfire]
    exact Nat.succ_ne_zero 2
  · split
    · right
      unfold Frame.steps45
      rw [hfire]
      exact Nat.succ_ne_zero 4
    · exact Or.inl rfl
  · split
    · exact Or.inr (Nat.succ_ne_zero 6)
    · exact Or.inl rfl
  · exact Or.inl rfl

theorem Frame.go_marks (s : State) : Frame.go s = s ∨ (Frame.go s).coil.path.steps ≠ 0 := by
  unfold Frame.go
  split
  · obtain h3 | h3 := Frame.advance_marks (Frame.advance (Frame.advance s))
    · obtain h2 | h2 := Frame.advance_marks (Frame.advance s)
      · obtain h1 | h1 := Frame.advance_marks s
        · exact Or.inl (by rw [h1, h1, h1])
        · exact Or.inr (by rwa [h3, h2])
      · exact Or.inr (by rwa [h3])
    · exact Or.inr h3
  · exact Or.inl rfl

/-- The start-up state of a device that goes through a shutdown, or has ended one. -/
def BootSt.shutting (b : BootSt) : Prop := b.phase = 10 ∨ b.shutStep ≠ 0

theorem Shutdown.step_marks (s : State) : (Shutdown.step s).boot.shutting := by
  unfold Shutdown.step
  simp only []
  split
  · exact Or.inr (Nat.succ_ne_zero 2)
  · split
    · exact Or.inr (Nat.succ_ne_zero 3)
    · split
      · split <;> exact Or.inr (Nat.succ_ne_zero 4)
      · exact Or.inl rfl

theorem Shutdown.progress_marks (k : Nat) (s : State) : Shutdown.progress k s = s ∨ (Shutdown.progress k s).boot.shutting := by
  induction k generalizing s with
  | zero => exact Or.inl rfl
  | succ k ih =>
    unfold Shutdown.progress
    split
    · obtain h | h := ih (Shutdown.step s)
      · rw [h]
        exact Or.inr (Shutdown.step_marks s)
      · exact Or.inr h
    · exact Or.inl rfl

theorem Freeze.enter_frozen (s : State) (c : Nat) : (Freeze.enter s c).fault.frozen = true := by
  unfold Freeze.enter
  split
  · assumption
  · simp only []
    rw [State.count_fault]

theorem Freeze.requested_marks (s : State) : Freeze.requested s = s ∨ (Freeze.requested s).fault.frozen = true := by
  unfold Freeze.requested
  split
  · exact Or.inr (Freeze.enter_frozen s _)
  · exact Or.inl rfl

/-! ### Banks that the end of a command empties -/

theorem Osier.clearBank_b1 (s : State) (j k : Nat) (one : Bool) :
    (Osier.core (Osier.clearBank s j one) k).b1 = (Osier.core s k).b1 ∨ (Osier.core (Osier.clearBank s j one) k).b1 = {} := by
  by_cases hk : k = j
  · subst hk
    rw [Osier.core_clearBank]
    cases one
    · exact Or.inl rfl
    · exact Or.inr rfl
  · unfold Osier.clearBank
    rw [Osier.core_setCore_ne _ _ hk]
    exact Or.inl rfl

/-- A bank 1 is kept or emptied. -/
theorem Osier.sync_b1 (s : State) (k : Nat) : (Osier.core (Osier.sync s) k).b1 = (Osier.core s k).b1 ∨ (Osier.core (Osier.sync s) k).b1 = {} := by
  have hclear : ∀ (c : Bool) (u : State) (j : Nat) (one : Bool), ((Osier.core u k).b1 = (Osier.core s k).b1 ∨ (Osier.core u k).b1 = {}) →
      (Osier.core (if c then Osier.clearBank u j one else u) k).b1 = (Osier.core s k).b1 ∨
        (Osier.core (if c then Osier.clearBank u j one else u) k).b1 = {} := by
    intro c u j one hu
    cases c
    · exact hu
    · obtain h | h := Osier.clearBank_b1 u j k one
      · simpa only [if_true, h] using hu
      · exact Or.inr h
  exact List.foldlRecOn _ _ (motive := fun u => (Osier.core u k).b1 = (Osier.core s k).b1 ∨ (Osier.core u k).b1 = {}) (Or.inl rfl)
    fun u hu j _ => hclear _ _ j false (hclear _ u j true hu)

theorem Osier.sync_coil (s : State) : (Osier.sync s).coil = s.coil := by
  refine foldl_keeps State.coil _ (fun s k => ?_) _ s
  simp only []
  split <;> split <;> rfl

/-! ### The end of a command -/

/-- The messages that go out last, and the canonical form of the tables, change nothing else. -/
theorem Irq.sent_standing (c : State) (l : List Instr) : ({ Irq.send (State.canon c) with pending := l } : State).standing = c.standing := by
  rw [Irq.send_eq]
  exact State.standing_eq rfl rfl rfl

theorem Irq.sent_fault (c : State) (l : List Instr) : ({ Irq.send (State.canon c) with pending := l } : State).fault = c.fault := by
  rw [Irq.send_eq]
  rfl

/-- Where the end of a command leaves no frame and no shutdown in progress and the device not frozen, it has emptied banks of cores, and
touched the cores in nothing else. -/
theorem State.close_osier {s t u : State} (hu : u = State.close s t) (hsteps : u.coil.path.steps = 0) (hboot : ¬ u.boot.shutting)
    (hfrozen : u.fault.frozen = false) : u.osier = (Osier.sync t).osier := by
  obtain ⟨b, hb⟩ : ∃ b, b = Shutdown.progress 8 (Stake.progress (Stake.holdSlew (Ptp.follow (Coil.creditRise (Osier.sync (Frame.go t)))))) :=
    ⟨_, rfl⟩
  obtain ⟨d, hd⟩ : ∃ d, d = Freeze.progress (Plait.lost (Hoop.steppedOut b (s.rd Reg.stakeStepCount))) := ⟨_, rfl⟩
  have hclose : u = { Irq.send (State.canon (Freeze.requested d)) with pending := s.pending } := by rw [hu, hd, hb]; rfl
  have hopen : Freeze.requested d = d := (Freeze.requested_marks d).resolve_right fun h => by
    rw [hclose, Irq.sent_fault, h] at hfrozen
    cases hfrozen
  have hud : u.standing = b.standing := by
    rw [hclose, Irq.sent_standing, hopen, hd]
    exact (Freeze.progress_standing _).trans ((Plait.lost_standing _).trans (Hoop.steppedOut_standing _ _))
  have hup : b = Stake.progress (Stake.holdSlew (Ptp.follow (Coil.creditRise (Osier.sync (Frame.go t))))) := by
    rw [hb]
    refine (Shutdown.progress_marks 8 _).resolve_right fun h => hboot ?_
    rw [← hb] at h
    rwa [show u.boot = b.boot from congrArg (·.2.2) hud]
  have hua : u.standing = (Osier.sync (Frame.go t)).standing := by
    rw [hud, hup]
    exact (Stake.progress_standing _).trans ((Stake.holdSlew_standing _).trans ((Ptp.follow_standing _).trans (Coil.creditRise_standing _)))
  have hgo : Frame.go t = t := (Frame.go_marks t).resolve_right fun h => h (by
    rw [← Osier.sync_coil, ← show u.coil.path.steps = (Osier.sync (Frame.go t)).coil.path.steps from congrArg (·.2.1) hua]
    exact hsteps)
  rw [hgo] at hua
  exact congrArg (·.1) hua

/-! ### VINS (R242) -/

/-- A device of which core 0 runs a Direct node, whose registers are all zero. -/
def Osier.directState : State := { State.reset with
  boot := { State.reset.boot with inReset := false, phase := 6 }
  osier := { State.reset.osier with cores := [(0, { b1 := { node := some 0, cost := 2 } })] }
  coil := { State.reset.coil with acts := [{ node := 0, cls := 1, state := 2, core := 0 }], path := { steps := 0 } } }

/-- The bundle that inserts S0 into lane 0 of V0. -/
def Operands.insertBundle : Bundle := Operands.bundle 0x2F {}

theorem Osier.directState_ready : Osier.ready Osier.directState 0 Operands.insertBundle (Osier.core Osier.directState 0).active.settle := by
  dsimp only [Osier.ready]
  and_intros <;> decide +kernel

/-- The state that the bundle leads to. -/
def Osier.insertedState : State := Osier.issue Osier.directState.begin 0 Operands.insertBundle

/-- All four lanes of the register are written back. -/
theorem Osier.insertedState_lanes : (Osier.core Osier.insertedState 0).b1.wbs.map (fun w => w.dest) = [.v 0 0, .v 0 1, .v 0 2, .v 0 3] := by
  decide +kernel

/-- The end of the command changes no core. -/
theorem Osier.insertedState_close : State.close Osier.directState Osier.insertedState = State.sealed Osier.directState Osier.insertedState :=
  State.close_calm (by decide +kernel) (by decide +kernel) (by decide +kernel)

theorem Osier.insertedState_sealed : (State.sealed Osier.directState Osier.insertedState).standing = Osier.insertedState.standing := by
  unfold State.sealed
  rw [Irq.send_eq]
  exact State.standing_eq rfl rfl rfl

theorem Osier.insertedState_still : Osier.insertedState.coil.path.steps = 0 ∧ Osier.insertedState.boot.phase = 6 ∧
    Osier.insertedState.boot.shutStep = 0 ∧ (State.sealed Osier.directState Osier.insertedState).fault.frozen = false := by
  and_intros <;> decide +kernel

/-- Whatever state the command's end may come from, that state's bank holds four write-backs, or the end has emptied it. -/
theorem Osier.inserted_wbs {t : State} (h : State.close Osier.directState t = State.close Osier.directState Osier.insertedState) :
    (Osier.core t 0).b1.wbs.length = 4 := by
  obtain ⟨hsteps, hphase, hstep, hfrozen⟩ := Osier.insertedState_still
  have hstand := Osier.insertedState_sealed
  rw [Osier.insertedState_close] at h
  have hosier := State.close_osier h.symm ((congrArg (·.2.1) hstand).trans hsteps)
    (by
      rw [show (State.sealed Osier.directState Osier.insertedState).boot = Osier.insertedState.boot from congrArg (·.2.2) hstand]
      rintro (hten | hshut)
      · omega
      · exact hshut hstep) hfrozen
  have hcore : Osier.core (Osier.sync t) 0 = Osier.core Osier.insertedState 0 :=
    Osier.core_of_osier (hosier.symm.trans (congrArg (·.1) hstand)) 0
  have hlanes := congrArg List.length Osier.insertedState_lanes
  rw [List.length_map, ← hcore] at hlanes
  obtain hkept | hgone := Osier.sync_b1 t 0
  · rwa [hkept] at hlanes
  · rw [hgone] at hlanes
    cases hlanes

theorem exec_insert : exec (.vins 0 {}) Osier.directState = .next (State.close Osier.directState Osier.insertedState) :=
  (exec_vins 0 {} Osier.directState).trans (State.act_running _ _ (by decide +kernel))

/-- No state that the command's end may come from has the bank of a bundle with one result. -/
theorem Osier.insert_not_alone (w : OW) :
    ¬ Osier.runs Osier.directState 0 {} (Osier.core Osier.directState 0).active.settle 0x2F (.vins 0 {}) [w] := by
  intro hruns
  obtain ⟨t, hnext, rest, held, hbank, hempty⟩ := hruns Osier.directState_ready (by decide) (by decide +kernel)
  obtain ⟨rfl, -⟩ := hempty rfl rfl rfl
  have hclose : State.close Osier.directState t = State.close Osier.directState Osier.insertedState := by
    injection hnext.symm.trans exec_insert
  have hfour := Osier.inserted_wbs hclose
  have hone : (Osier.core Osier.directState 0).inBank1 = true := by decide +kernel
  have hnone : (Osier.core Osier.directState 0).active.settle.wbs = [] := by decide +kernel
  have hwbs := congrArg Bank.wbs hbank
  unfold Osier.ranBank at hwbs
  rw [hone, hnone] at hwbs
  have hlength := congrArg List.length hwbs
  rw [if_pos rfl, hfour] at hlength
  simp at hlength

/-- Refutes O17: VINS is claimed to write back the named lane alone, and with the other slots empty nothing else; the model writes back
all four lanes of Vd, the others with the values that they hold. -/
theorem not_osierVectorRowsRun : ¬ Obligations.OsierVectorRowsRun := by
  unfold Obligations.OsierVectorRowsRun
  rintro ⟨hrows, -⟩
  have hrow := hrows Osier.directState 0 {} (Osier.core Osier.directState 0).active.settle
    0 0 0 0 _ _ rfl rfl rfl rfl (fun _ => rfl) (fun _ => rfl)
  obtain ⟨-, -, -, -, -, -, -, -, -, -, -, -, -, -, hvins, -⟩ := hrow
  exact Osier.insert_not_alone _ hvins

end Sys2Proof.Machine
end

section
/-!
PROOFS. The tier that BUDGET decides (R279), the wakes from standby (R286) and the regulator's timeout (R276); and that the commands of the
power budget, the power stage and supervision complete.
-/
namespace Sys2Proof.Machine

/-! ### Completion -/

/-- Settles O46: each command is its own operation between the common begin and end of a command; a running device carries it out, and a
wake acts on any device. -/
theorem powerStageAndSupervisionCommandsComplete : Obligations.PowerStageAndSupervisionCommandsComplete := fun s =>
  ⟨fun hrun =>
    ⟨fun _ _ _ => completes_act (exec_budgetEpochClose _ _ _ s) hrun rfl,
      completes_act (exec_regulatorTimeout s) hrun rfl,
      completes_act (exec_domainTransitionDone s) hrun rfl,
      completes_act (exec_standbyEnter s) hrun rfl,
      fun _ => completes_act (exec_overCurrent _ s) hrun rfl,
      fun _ => completes_act (exec_short _ s) hrun rfl,
      fun _ => completes_act (exec_driverFault _ s) hrun rfl,
      fun _ => completes_act (exec_driverFaultRecovery _ s) hrun rfl,
      fun _ => completes_act (exec_loopFault _ s) hrun rfl,
      fun _ => completes_act (exec_recheckStart _ s) hrun rfl,
      fun _ => completes_act (exec_recheckCommand _ s) hrun rfl,
      fun _ => completes_act (exec_recheckEnd _ s) hrun rfl,
      fun _ _ _ => completes_act (exec_channelStart _ _ _ s) hrun rfl,
      fun _ => completes_act (exec_channelRampDownDone _ s) hrun rfl,
      completes_act (exec_clockError s) hrun rfl,
      completes_act (exec_clockRecovery s) hrun rfl,
      fun _ _ _ => completes_act (exec_lsupWindowEnd _ _ _ s) hrun rfl,
      fun _ => completes_act (exec_verdictChange _ s) hrun rfl,
      fun _ => completes_act (exec_baselineCapture _ s) hrun rfl,
      fun _ => completes_act (exec_acBaselineTest _ s) hrun rfl,
      fun _ => completes_act (exec_acTestCommand _ s) hrun rfl,
      fun _ => completes_act (exec_clearBaselines _ s) hrun rfl,
      fun _ => completes_act (exec_acTestSilenceStart _ s) hrun rfl,
      fun _ => completes_act (exec_acTestFirstStart _ s) hrun rfl,
      fun _ _ => completes_act (exec_acPointEnd _ _ s) hrun rfl,
      fun _ => completes_act (exec_acTestEnd _ s) hrun rfl,
      fun _ => completes_act (exec_acTestAbort _ s) hrun rfl⟩,
    fun _ => completes_force (exec_wakeSpi _ s) rfl,
    fun _ _ => completes_force (exec_wakeGpio _ _ s) rfl,
    fun _ => completes_force (exec_standbyTimerExpiry _ s) rfl⟩

/-! ### The decision of a tier (R279) -/

section Tier

variable {s : State} {m : Nat} {cap : Nat} (a : Nat) (hm : m = min cap (s.efF Reg.budgetTierMax 1 0))
include hm

/-- Mean power above its limit steps down by one, with reason 1. -/
theorem Budget.tierFor_overPower (slack : Option Nat) (h : s.efF Reg.budgetPowerLimit 15 0 * Budget.cnt s < Budget.sum s) :
    Budget.tierFor s a cap slack = (min a m - 1, 1) := by
  subst hm
  simp [Budget.tierFor, h]

/-- Tj above its limit steps down by one, with reason 2. -/
theorem Budget.tierFor_overTemperature (slack : Option Nat)
    (hpower : Budget.sum s ≤ s.efF Reg.budgetPowerLimit 15 0 * Budget.cnt s)
    (h : ((s.efF Reg.budgetTjLimit 15 0 : Nat) : Int) < s.budget.tj) : Budget.tierFor s a cap slack = (min a m - 1, 2) := by
  subst hm
  simp [Budget.tierFor, not_lt.mpr hpower, h]

/-- Within the limits, with the slack at its target, the tier follows a lower ceiling, steps up by one within the margins, or stays. -/
theorem Budget.tierFor_within {x : Nat}
    (hpower : Budget.sum s ≤ s.efF Reg.budgetPowerLimit 15 0 * Budget.cnt s)
    (htemp : s.budget.tj ≤ ((s.efF Reg.budgetTjLimit 15 0 : Nat) : Int)) (hslack : s.efF Reg.budgetSlackTargetNs 10 0 ≤ x) :
    Budget.tierFor s a cap (some x) =
      if m < a then (m, if cap < a then 6 else 0)
      else if 100 * Budget.sum s ≤ 95 * s.efF Reg.budgetPowerLimit 15 0 * Budget.cnt s ∧
          s.budget.tj ≤ ((s.efF Reg.budgetTjLimit 15 0 : Nat) : Int) - ((s.efF Reg.budgetTjLimit 31 16 : Nat) : Int) ∧
          a < m ∧ s.budget.holdoff = 0 then (a + 1, 0)
      else (a, 0) := by
  have hhigh : ¬ 2 * x < s.efF Reg.budgetSlackTargetNs 10 0 := by omega
  subst hm
  simp [Budget.tierFor, not_lt.mpr hpower, not_lt.mpr htemp, hslack, hhigh]

end Tier

/-- What R279 decides, case by case. -/
theorem Budget.tierFor_cases (s : State) (a cap m limit n sum : Nat) (slack : Option Nat) (tj : Int)
    (hm : m = min cap (s.efF Reg.budgetTierMax 1 0)) (hlimit : limit = s.efF Reg.budgetPowerLimit 15 0)
    (hn : n = s.budget.powers.length) (hsum : sum = s.budget.powers.sum) (htj : tj = (s.efF Reg.budgetTjLimit 15 0 : Nat)) :
    (limit * n < sum → Budget.tierFor s a cap slack = (min a m - 1, 1)) ∧
    (sum ≤ limit * n → tj < s.budget.tj → Budget.tierFor s a cap slack = (min a m - 1, 2)) ∧
    (∀ x, slack = some x → s.efF Reg.budgetSlackTargetNs 10 0 ≤ x → sum ≤ limit * n → s.budget.tj ≤ tj →
      (m < a → (Budget.tierFor s a cap slack).1 = m) ∧
      (a < m → 100 * sum ≤ 95 * limit * n → s.budget.tj ≤ tj - (s.efF Reg.budgetTjLimit 31 16 : Nat) → s.budget.holdoff = 0 →
        Budget.tierFor s a cap slack = (a + 1, 0)) ∧
      (a ≤ m → s.budget.holdoff ≠ 0 ∨ a = m → Budget.tierFor s a cap slack = (a, 0))) := by
  subst hlimit hn hsum htj
  refine ⟨Budget.tierFor_overPower a hm slack, Budget.tierFor_overTemperature a hm slack, ?_⟩
  rintro x rfl hslack hpower htemp
  rw [Budget.tierFor_within a hm hpower htemp hslack]
  refine ⟨fun hceiling => ?ceiling, fun hbelow hmargin htmargin hfree => ?up, fun hle hstay => ?same⟩
  case ceiling => rw [if_pos hceiling]
  case up => rw [if_neg (by omega), if_pos ⟨hmargin, htmargin, hbelow, hfree⟩]
  case same => rw [if_neg (by omega), if_neg (by omega)]

/-! ### Wakes (R286) -/

/-- The start that a wake makes of the state `s` at the wake. -/
def Standby.started (s : State) (e : StartEnv) : State :=
  Boot.begin { s.resetTo 3 with boot := { (s.resetTo 3).boot with env := e } } 2

section Wake

variable {s : State} (e : StartEnv)

theorem Standby.wake_standby (hstandby : s.budget.standby = true) (hheld : s.jtag.held = false) :
    Standby.wake s e = Standby.started s e := if_neg (by simp [hstandby, hheld])

theorem Standby.wakeGpio_standby {pin : Nat} (hstandby : s.budget.standby = true) (hheld : s.jtag.held = false)
    (hpin : pin < 8) (hen : bit (s.rd Reg.budgetStandby) 1 = true) (hsel : fld (s.rd Reg.budgetStandby) 11 7 = pin) :
    Standby.wakeGpio s pin e = Standby.started s e :=
  (if_pos ⟨hen, hsel, hpin⟩).trans (Standby.wake_standby e hstandby hheld)

theorem Standby.timer_standby {x : Nat} (hstandby : s.budget.standby = true) (hheld : s.jtag.held = false)
    (hdue : s.budget.wakeDue = some x) : Standby.timer s e = Standby.started (s.toAon x) e := by
  unfold Standby.timer
  rw [hdue]
  exact (if_pos hstandby).trans (Standby.wake_standby (s := s.toAon x) e hstandby hheld)

variable (hawake : s.budget.standby = false)
include hawake

theorem Standby.wake_awake : Standby.wake s e = s := if_pos (by simp [hawake])

theorem Standby.wakeGpio_awake (pin : Nat) : Standby.wakeGpio s pin e = s := by
  unfold Standby.wakeGpio
  simp only [Standby.wake_awake e hawake, ite_self]

theorem Standby.timer_awake : Standby.timer s e = s := by
  unfold Standby.timer
  cases s.budget.wakeDue with
  | none => rfl
  | some x => exact if_neg (by simp [hawake])

end Wake

/-! ### The regulator does not respond (R276) -/

/-- A stopped voltage loop leaves the set point. -/
theorem Budget.setV_stopped {s : State} (h : s.budget.regFault = true) (v : Int) : Budget.setV s v = s := if_pos h

theorem Budget.regulatorTimeout_budget (s : State) : (Budget.regulatorTimeout s).budget = { s.budget with regFault := true } := by
  unfold Budget.regulatorTimeout
  rw [State.irq_budget, State.faultCode_budget]

/-- An interrupt behind a fault code, seen from both. -/
theorem State.fault_irq_facts (s : State) {p q i code : Nat} (hcode : code < 256) (hi : i < 32) :
    fld (((s.fault' p code).irq q i).rd (Reg.faultCause p)) 7 0 = code ∧
    bit (((s.fault' p code).irq q i).rd (Reg.irqStatus q)) i = true := by
  have hne : Reg.faultCause p ≠ Reg.irqStatus q := by unfold Reg.faultCause Reg.irqStatus; omega
  refine ⟨?_, State.irq_bit _ _ _ hi⟩
  rw [State.irq_ne _ _ _ hne]
  exact State.faultD_cause _ p code 0 hcode

end Sys2Proof.Machine
end

section
/-!
PROOFS. Domain transitions (R273) and the entry into standby (R285).
-/
namespace Sys2Proof.Machine

/-! ### A read behind a fold -/

/-- What some steps of a fold bring to `v`, and no other step changes, is `v` once such a step has been, and else as before. -/
theorem foldl_read {σ α β : Type} {f : σ → α → σ} {g : σ → β} {v : β} {p : α → Prop} [DecidablePred p]
    (h : ∀ s a, g (f s a) = if p a then v else g s) (l : List α) (s : σ) :
    g (l.foldl f s) = if ∃ a ∈ l, p a then v else g s := by
  induction l generalizing s with
  | nil => simp
  | cons a l ih =>
    rw [List.foldl_cons, ih, h]
    by_cases ha : p a
    · simp [ha]
    · simp [ha]

/-! ### What a change of a domain clears (R270 to R273) -/

/-- `t` is `s` with domain `d` cleared: the registers and copies of its pages are gone, and with MEM the requests that wait; the part and
BUDGET are as they were. -/
structure Domain.Clears (s : State) (d : Nat) (t : State) : Prop where
  regs : t.regs = Tab.drop (fun a => decide (pageDomain (a / 0x1000) = d)) s.regs
  eff : t.eff = Tab.drop (fun a => decide (pageDomain (a / 0x1000) = d)) s.eff
  variant : t.variant = s.variant
  budget : t.budget = s.budget
  queue : t.memc.queue = if d = 10 then [] else s.memc.queue

theorem Domain.clear_clears (s : State) (d : Nat) : Domain.Clears s d (Domain.clear s d) := by
  unfold Domain.clear
  split
  case h_11 hmem _ => exact ⟨rfl, rfl, rfl, rfl, (if_neg hmem).symm⟩
  all_goals exact ⟨rfl, rfl, rfl, rfl, rfl⟩

/-- Domain `d` in the transition from `cur` to `new`: cleared where it changes. -/
def Domain.step (cur new : Nat) (s : State) (d : Nat) : State := if cur.testBit d ≠ new.testBit d then Domain.clear s d else s

/-- Every domain of `l` in the transition from `cur` to `new`. -/
def Domain.cleared (cur new : Nat) (l : List Nat) (s : State) : State := l.foldl (Domain.step cur new) s

section Cleared

variable (cur new : Nat) (l : List Nat) (s : State)

theorem Domain.step_kept (d : Nat) :
    (Domain.step cur new s d).variant = s.variant ∧ (Domain.step cur new s d).budget = s.budget := by
  have hclear := Domain.clear_clears s d
  unfold Domain.step
  split
  · exact ⟨hclear.variant, hclear.budget⟩
  · exact ⟨rfl, rfl⟩

theorem Domain.cleared_variant : (Domain.cleared cur new l s).variant = s.variant :=
  foldl_keeps State.variant _ (fun s d => (Domain.step_kept cur new s d).1) l s

theorem Domain.cleared_budget : (Domain.cleared cur new l s).budget = s.budget :=
  foldl_keeps State.budget _ (fun s d => (Domain.step_kept cur new s d).2) l s

/-- What the clear of domain `k` brings to `v`, and the clear of no other domain changes, is `v` where domain `k` changes, and else as
before. -/
theorem Domain.cleared_read {β : Type} (g : State → β) (v : β) (k : Nat)
    (hclear : ∀ s d, g (Domain.clear s d) = if d = k then v else g s) :
    g (Domain.cleared cur new l s) = if k ∈ l ∧ cur.testBit k ≠ new.testBit k then v else g s := by
  have hstep : ∀ s d, g (Domain.step cur new s d) = if d = k ∧ cur.testBit k ≠ new.testBit k then v else g s := fun s d => by
    unfold Domain.step
    by_cases hd : d = k
    · subst hd
      split <;> simp [*]
    · split <;> simp [hclear, hd]
  have hsome : (∃ d ∈ l, d = k ∧ cur.testBit k ≠ new.testBit k) ↔ k ∈ l ∧ cur.testBit k ≠ new.testBit k :=
    ⟨fun ⟨_, hmem, hd, hchange⟩ => ⟨hd ▸ hmem, hchange⟩, fun ⟨hmem, hchange⟩ => ⟨k, hmem, rfl, hchange⟩⟩
  exact (foldl_read hstep l s).trans (if_congr hsome rfl rfl)

/-- A register reads its reset value where its domain changes, and else as before. -/
theorem Domain.rd_cleared (a : Nat) : (Domain.cleared cur new l s).rd a =
    if pageDomain (a / 0x1000) ∈ l ∧ cur.testBit (pageDomain (a / 0x1000)) ≠ new.testBit (pageDomain (a / 0x1000))
    then regReset s.variant a else s.rd a := by
  unfold State.rd
  rw [Domain.cleared_variant]
  refine Domain.cleared_read cur new l s (fun t => Tab.get (regReset s.variant) t.regs a) _ _ fun t d => ?_
  simp only [(Domain.clear_clears t d).regs, Tab.get_drop, decide_eq_true_eq, eq_comm (a := d)]

/-- Its effective copies likewise. -/
theorem Domain.ef_cleared (a : Nat) : (Domain.cleared cur new l s).ef a =
    if pageDomain (a / 0x1000) ∈ l ∧ cur.testBit (pageDomain (a / 0x1000)) ≠ new.testBit (pageDomain (a / 0x1000))
    then regReset s.variant a else s.ef a := by
  unfold State.ef
  rw [Domain.cleared_variant]
  refine Domain.cleared_read cur new l s (fun t => Tab.get (regReset s.variant) t.eff a) _ _ fun t d => ?_
  simp only [(Domain.clear_clears t d).eff, Tab.get_drop, decide_eq_true_eq, eq_comm (a := d)]

theorem Domain.queue_cleared : (Domain.cleared cur new l s).memc.queue =
    if 10 ∈ l ∧ cur.testBit 10 ≠ new.testBit 10 then [] else s.memc.queue :=
  Domain.cleared_read cur new l s (fun t => t.memc.queue) [] 10 fun t d => (Domain.clear_clears t d).queue

end Cleared

/-- There are twelve domains. -/
theorem pageDomain_lt (p : Nat) : pageDomain p < 12 := by
  have hall : ∀ p < 256, pageDomain p < 12 := by decide +kernel
  by_cases h : p < 256
  · exact hall p h
  · have hnone : unitOf p = none := unitOf_ge (not_lt.mp h)
    simp [pageDomain, hnone]

/-! ### MEM turns on (R273) -/

/-- From `s` to `t` BUDGET and every register are as they were. -/
structure State.BudgetRegsKept (s t : State) : Prop where
  budget : t.budget = s.budget
  regs : ∀ a, t.rd a = s.rd a

theorem State.BudgetRegsKept.trans {s t u : State} (hst : State.BudgetRegsKept s t) (htu : State.BudgetRegsKept t u) :
    State.BudgetRegsKept s u := ⟨htu.budget.trans hst.budget, fun a => (htu.regs a).trans (hst.regs a)⟩

/-- With no request waiting, none is served. -/
theorem Memc.drain_empty {s u : State} (hkept : State.BudgetRegsKept s u) (h : u.memc.queue = []) :
    State.BudgetRegsKept s (Memc.drain u) := by
  unfold Memc.drain Memc.refreshUrgency
  rw [h]
  exact hkept.trans ⟨rfl, fun _ => rfl⟩

/-- A training that does not fail writes no register. -/
theorem Memc.trained_good (s : State) (mask : Nat) : State.BudgetRegsKept s (Memc.trained s mask 0) := by
  refine List.foldlRecOn (motive := State.BudgetRegsKept s) _ _ ⟨rfl, fun _ => rfl⟩ fun t ht c _ => ?_
  simp only [Nat.zero_testBit, Bool.false_eq_true, if_false]
  split
  · exact ht
  · exact ht.trans ⟨rfl, fun _ => rfl⟩

/-- With no request waiting, MEM turns on without a change to BUDGET or to a register. -/
theorem Memc.powerOn_empty {s : State} (h : s.memc.queue = []) : State.BudgetRegsKept s (Memc.powerOn s) := by
  have hleave : State.BudgetRegsKept s (Memc.leaveSr { s with memc := { s.memc with
      fsp := 0, held := none, switching := none, training := none } }) := Memc.drain_empty ⟨rfl, fun _ => rfl⟩ h
  unfold Memc.powerOn
  simp only []
  split
  · exact hleave
  · exact hleave.trans (Memc.trained_good _ 1)

/-! ### A transition is over (R273) -/

/-- The state at the end of a transition to `new`, before MEM's own part. -/
def Domain.changed (s : State) (new : Nat) : State :=
  let u := Domain.cleared s.budget.domains new (List.range 12) s
  ({ u with budget := { u.budget with domains := new, transition := none } } : State).irq 6 4

theorem Domain.done_eq {s : State} {new : Nat} (h : s.budget.transition = some new) : Domain.done s =
    if new.testBit 10 ∧ !s.budget.domains.testBit 10 then Memc.powerOn (Domain.changed s new) else Domain.changed s new := by
  unfold Domain.done
  rw [h]
  rfl

section Changed

variable (s : State) (new : Nat)

theorem Domain.changed_budget : (Domain.changed s new).budget = { s.budget with domains := new, transition := none } := by
  unfold Domain.changed
  simp only [State.irq_budget, Domain.cleared_budget]

theorem Domain.changed_irq : bit ((Domain.changed s new).rd (Reg.irqStatus 6)) 4 = true := State.irq_bit _ 6 4 (by decide)

/-- Registers and effective copies read their reset values in a changed domain and are as before in another, BUDGET's status aside. -/
theorem Domain.changed_reads {a d : Nat} (hd : d = pageDomain (a / 0x1000)) (hirq : a ≠ Reg.irqStatus 6) :
    (s.budget.domains.testBit d ≠ new.testBit d →
      (Domain.changed s new).rd a = regReset s.variant a ∧ (Domain.changed s new).ef a = regReset s.variant a) ∧
    (s.budget.domains.testBit d = new.testBit d → (Domain.changed s new).rd a = s.rd a ∧ (Domain.changed s new).ef a = s.ef a) := by
  subst hd
  have hmem : pageDomain (a / 0x1000) ∈ List.range 12 := List.mem_range.mpr (pageDomain_lt _)
  have hrd : (Domain.changed s new).rd a = (Domain.cleared s.budget.domains new (List.range 12) s).rd a := State.irq_ne _ 6 4 hirq
  have hef : (Domain.changed s new).ef a = (Domain.cleared s.budget.domains new (List.range 12) s).ef a := rfl
  rw [hrd, hef, Domain.rd_cleared, Domain.ef_cleared]
  exact ⟨fun hne => ⟨if_pos ⟨hmem, hne⟩, if_pos ⟨hmem, hne⟩⟩, fun heq => ⟨if_neg fun h => h.2 heq, if_neg fun h => h.2 heq⟩⟩

/-- Where MEM turns on, no request waits. -/
theorem Domain.changed_queue (hon : new.testBit 10 = true) (hoff : s.budget.domains.testBit 10 = false) :
    (Domain.changed s new).memc.queue = [] := by
  have hchange : s.budget.domains.testBit 10 ≠ new.testBit 10 := by simp [hon, hoff]
  exact (Domain.queue_cleared _ _ _ s).trans (if_pos ⟨by decide, hchange⟩)

end Changed

/-- What DOMAIN_TRANSITION_DONE leaves, whether MEM turns on or not. -/
theorem Domain.done_facts {s : State} {new : Nat} (h : s.budget.transition = some new) :
    (Domain.done s).budget = { s.budget with domains := new, transition := none } ∧
    bit ((Domain.done s).rd (Reg.irqStatus 6)) 4 = true := by
  have hchanged := And.intro (Domain.changed_budget s new) (Domain.changed_irq s new)
  rw [Domain.done_eq h]
  split
  next hon =>
    obtain ⟨hnew, hcur⟩ := hon
    have hqueue := Domain.changed_queue s new hnew (by simpa using hcur)
    obtain ⟨hbudget, hregs⟩ := Memc.powerOn_empty hqueue
    exact ⟨hbudget.trans hchanged.1, by rw [hregs]; exact hchanged.2⟩
  next => exact hchanged

/-- Where MEM does not turn on, nothing else follows. -/
theorem Domain.done_memStays {s : State} {new : Nat} (h : s.budget.transition = some new)
    (hmem : new.testBit 10 = true → s.budget.domains.testBit 10 = true) : Domain.done s = Domain.changed s new := by
  have hnot : ¬ (new.testBit 10 = true ∧ (!s.budget.domains.testBit 10) = true) := by
    rintro ⟨hon, hoff⟩
    rw [hmem hon] at hoff
    cases hoff
  rw [Domain.done_eq h, if_neg hnot]

/-! ### Entry into standby (R285) -/

/-- Segments that lose their contents change memory only. -/
theorem Memc.loseSegments_only (s : State) (kept : Nat) : ∃ m : List Host.Cell, Memc.loseSegments s kept = { s with mem := m } := by
  refine List.foldlRecOn (motive := fun t => ∃ m : List Host.Cell, t = { s with mem := m }) _ _ ⟨s.mem, rfl⟩ ?_
  rintro _ ⟨m, rfl⟩ g -
  split
  · exact ⟨m, rfl⟩
  · exact ⟨_, rfl⟩

theorem Standby.enter_refused {s : State} (h : fld (s.ef Reg.stakeRenderRate) 2 0 ≠ 0 ∨ s.clk.ticking = true) :
    Standby.enter s = s.fault' 6 0x86 := if_pos h

/-- What the entry into standby leaves: only AON on, the claim released, DRAM in self-refresh, no ticks, and the timer running. -/
theorem Standby.enter_facts {s : State} (hrate : fld (s.ef Reg.stakeRenderRate) 2 0 = 0) (htick : s.clk.ticking = false) :
    (Standby.enter s).budget.standby = true ∧ (Standby.enter s).budget.domains = 1 ∧ (Standby.enter s).hoop.claim = false ∧
    (Standby.enter s).hoop.enables = false ∧ (Standby.enter s).memc.sr = 255 ∧ (Standby.enter s).clk.ticking = false ∧
    (Standby.enter s).budget.wakeDue = (if fld (s.rd Reg.budgetStandby) 23 12 = 0 then none
      else some (s.clk.aon + fld (s.rd Reg.budgetStandby) 23 12 * secU)) := by
  obtain ⟨m, hlose⟩ := Memc.loseSegments_only ((Memc.enterSr (Claim.release s) 2).resetTo 3) (fld (s.rd Reg.budgetStandby) 31 24)
  unfold Standby.enter
  rw [if_neg (by simp [hrate, htick])]
  simp only [hlose]
  split
  · exact ⟨trivial, trivial, rfl, rfl, trivial, rfl, trivial⟩
  · exact ⟨trivial, trivial, rfl, rfl, trivial, rfl, trivial⟩

/-- The word that STANDBY_ENTER writes asks for the entry. -/
theorem bit_standbyWord (w : Word) : bit (w ||| 1) 0 = true := by simp [bit]

/-- Its lowest bit apart, that word keeps the timer's field. -/
theorem fld_standbyWord (w : Word) : fld ((w ||| 1) &&& 0xFFFFFFFE) 23 12 = fld w 23 12 := by
  have hmask : (0xFFFFFFFE : Word).toNat = 0xFFFFFFFE := rfl
  have hone : (1 : Word).toNat = 1 := rfl
  unfold fld
  rw [BitVec.toNat_and, BitVec.toNat_or, hmask, hone, Nat.shiftRight_and_distrib, Nat.shiftRight_or_distrib]
  have hlow : 1 >>> 12 = 0 := rfl
  have hhigh : 0xFFFFFFFE >>> 12 % 2 ^ (23 + 1 - 12) = 2 ^ 12 - 1 := rfl
  refine (Nat.and_mod_two_pow).trans ?_
  rw [hlow, hhigh, Nat.or_zero, Nat.and_two_pow_sub_one_eq_mod]
  exact Nat.mod_mod _ _

/-- The state in which the word that STANDBY_ENTER writes asks for the entry. -/
def Standby.asked (s : State) : State := s.begin.wr Reg.budgetStandby ((s.rd Reg.budgetStandby ||| 1) &&& 0xFFFFFFFE)

/-- The register keeps the timer's field. -/
theorem Standby.asked_timer (s : State) : fld ((Standby.asked s).rd Reg.budgetStandby) 23 12 = fld (s.rd Reg.budgetStandby) 23 12 := by
  unfold Standby.asked
  rw [State.rd_wr_same, fld_standbyWord]

/-- STANDBY_ENTER writes BUDGET_STANDBY, which enters. -/
theorem completes_standbyEnter {s : State} {P : State → Prop} (up : s.pageUp 6 = true)
    (h : P (Standby.enter (Standby.asked s))) : Completes .standbyEnter s P := by
  refine completes_act (exec_standbyEnter s) (State.running_of_pageUp up) ?_
  have hwrite : Page.write s.begin 0 none (6 * 0x1000 + 0xC8) (s.rd Reg.budgetStandby ||| 1) =
      Standby.write s.begin (s.rd Reg.budgetStandby ||| 1) :=
    Page.write_acts (s := s.begin) up 0 0xC8 _ (by omega) (by omega) (by omega) rfl
  have henter : Standby.write s.begin (s.rd Reg.budgetStandby ||| 1) = Standby.enter (Standby.asked s) := if_pos (bit_standbyWord _)
  rw [← henter, ← hwrite] at h
  exact h

end Sys2Proof.Machine
end

section
/-!
PROOFS. The close of a budget epoch (R269, R277 to R282): the readings, the epoch's power, and the tier decided.
-/
namespace Sys2Proof.Machine

/-! ### What the steps of a close pass on -/

/-- What the steps of a close work from and hand on. -/
structure Budget.Books where
  variant : Variant
  eff : Tab Word
  clk : Clock
  hoop : HoopSt
  powers : List Nat
  slackMin : Option Nat
  nextTier : Option (Nat × Nat)
  peerTier : Option Nat

def Budget.books (s : State) : Budget.Books :=
  { variant := s.variant, eff := s.eff, clk := s.clk, hoop := s.hoop, powers := s.budget.powers, slackMin := s.budget.slackMin
    nextTier := s.budget.nextTier, peerTier := s.budget.peerTier }

/-- From `s` to `t` the books are as they were, and the sensors' registers. -/
structure Budget.BooksKept (s t : State) : Prop where
  books : Budget.books t = Budget.books s
  temps : ∀ k, k < 16 → t.rd (Reg.budgetTemp k) = s.rd (Reg.budgetTemp k)

theorem Budget.plain_temp {k : Nat} (hk : k < 16) : Reg.plain (Reg.budgetTemp k) = true := by
  unfold Reg.plain Reg.budgetTemp Reg.faultOverflow
  simp only [Bool.and_eq_true, decide_eq_true_eq, bne_iff_ne]
  omega

section Fields

variable {s t : State} (h : Budget.books t = Budget.books s)
include h

theorem Budget.clk_of_books : t.clk = s.clk := congrArg Budget.Books.clk h
theorem Budget.powers_of_books : t.budget.powers = s.budget.powers := congrArg Budget.Books.powers h
theorem Budget.slackMin_of_books : t.budget.slackMin = s.budget.slackMin := congrArg Budget.Books.slackMin h
theorem Budget.nextTier_of_books : t.budget.nextTier = s.budget.nextTier := congrArg Budget.Books.nextTier h
theorem Budget.peerTier_of_books : t.budget.peerTier = s.budget.peerTier := congrArg Budget.Books.peerTier h

theorem Budget.isStandby_of_books : t.isStandby = s.isStandby := by
  have hhoop : t.hoop = s.hoop := congrArg Budget.Books.hoop h
  unfold State.isStandby
  rw [hhoop]

theorem Budget.efF_of_books (a hi lo : Nat) : t.efF a hi lo = s.efF a hi lo := by
  have hvariant : t.variant = s.variant := congrArg Budget.Books.variant h
  have heff : t.eff = s.eff := congrArg Budget.Books.eff h
  unfold State.efF State.ef
  rw [hvariant, heff]

end Fields

theorem Budget.books_faultD (s : State) (p code d : Nat) : Budget.books (s.faultD p code d) = Budget.books s := by
  simp only [Budget.books, State.faultD_variant, State.faultD_eff, State.faultD_clk, State.faultD_hoop, State.faultD_budget]

namespace Budget.BooksKept

theorem refl (s : State) : Budget.BooksKept s s := ⟨rfl, fun _ _ => rfl⟩

theorem trans {s t u : State} (hst : Budget.BooksKept s t) (htu : Budget.BooksKept t u) : Budget.BooksKept s u :=
  ⟨htu.books.trans hst.books, fun k hk => (htu.temps k hk).trans (hst.temps k hk)⟩

theorem ite {c : Prop} [Decidable c] {s t u : State} (ht : Budget.BooksKept s t) (hu : Budget.BooksKept s u) :
    Budget.BooksKept s (if c then t else u) := by
  split
  · exact ht
  · exact hu

theorem foldl {α : Type} {f : State → α → State} (h : ∀ s a, Budget.BooksKept s (f s a)) (l : List α) (s : State) :
    Budget.BooksKept s (l.foldl f s) :=
  List.foldlRecOn (motive := Budget.BooksKept s) l f (refl s) fun t ht a _ => ht.trans (h t a)

theorem wr (s : State) {a : Nat} (v : Word) (ha : a < 0x6080 ∨ 0x60C0 ≤ a) : Budget.BooksKept s (s.wr a v) :=
  ⟨rfl, fun k hk => State.rd_wr_ne _ _ (by unfold Reg.budgetTemp; omega)⟩

theorem irq (s : State) (p i : Nat) : Budget.BooksKept s (s.irq p i) :=
  ⟨rfl, fun _ hk => State.rd_irq_plain (Budget.plain_temp hk) s p i⟩

theorem fault (s : State) (p code : Nat) : Budget.BooksKept s (s.fault' p code) :=
  ⟨Budget.books_faultD s p code 0, fun _ hk => State.rd_fault_plain (Budget.plain_temp hk) s p code⟩

theorem cap (s : State) (n : Nat) : Budget.BooksKept s { s with budget := { s.budget with cap := n } } := ⟨rfl, fun _ _ => rfl⟩

theorem coil (s : State) (c : CoilSt) : Budget.BooksKept s { s with coil := c } := ⟨rfl, fun _ _ => rfl⟩

theorem corr (s : State) (c : CorrSt) : Budget.BooksKept s { s with corr := c } := ⟨rfl, fun _ _ => rfl⟩

end Budget.BooksKept

/-! ### The sensors (R277, R278) -/

/-- The word that a sensor's reading gives. -/
def Budget.tempWord (temps : List Int) (k : Nat) : Word :=
  w32 (at_ 31 (b2n (Budget.validTemp (nth 0 temps k))) + unsigned 16 (nth 0 temps k))

/-- The reading of sensor `k` is stored, and recorded where it is not valid. -/
def Budget.readSensor (temps : List Int) (s : State) (k : Nat) : State :=
  let t := s.wr (Reg.budgetTemp k) (Budget.tempWord temps k)
  if Budget.validTemp (nth 0 temps k) then t else t.faultD Budget.page 0x83 k

theorem Budget.readSensor_books (temps : List Int) (s : State) (k : Nat) :
    Budget.books (Budget.readSensor temps s k) = Budget.books s := by
  unfold Budget.readSensor
  simp only []
  split
  · rfl
  · exact Budget.books_faultD _ _ _ _

theorem Budget.readSensor_temp (temps : List Int) (s : State) {k : Nat} (hk : k < 16) (j : Nat) :
    (Budget.readSensor temps s j).rd (Reg.budgetTemp k) = if j = k then Budget.tempWord temps k else s.rd (Reg.budgetTemp k) := by
  have hstored : (Budget.readSensor temps s j).rd (Reg.budgetTemp k) =
      (s.wr (Reg.budgetTemp j) (Budget.tempWord temps j)).rd (Reg.budgetTemp k) := by
    unfold Budget.readSensor
    simp only []
    split
    · rfl
    · exact State.rd_faultD_plain (Budget.plain_temp hk) _ _ _ _
  rw [hstored]
  by_cases hj : j = k
  · subst hj
    rw [if_pos rfl, State.rd_wr_same]
  · rw [if_neg hj]
    exact State.rd_wr_ne _ _ (by unfold Reg.budgetTemp; omega)

/-- What follows from the readings, Tj and its alarms, leaves the books and the readings. -/
theorem Budget.sensors_kept (s : State) (temps : List Int) :
    Budget.BooksKept ((List.range 16).foldl (Budget.readSensor temps) s) (Budget.sensors s temps) := by
  unfold Budget.sensors
  extract_lets s1 good top limit tj _ s2 s3 s4 s5
  have h3 : Budget.BooksKept s1 s3 := .trans (t := s2) ⟨rfl, fun _ _ => rfl⟩ (.wr s2 _ (.inl (by decide)))
  have h4 : Budget.BooksKept s1 s4 := .ite (h3.trans (.irq s3 _ _)) h3
  have h5 : Budget.BooksKept s1 s5 := .ite (h4.trans (.trans (.fault s4 _ _) (.irq _ _ _))) (h4.trans (.irq s4 _ _))
  exact .ite (.ite h5 (h5.trans ⟨rfl, fun _ _ => rfl⟩)) h4

theorem Budget.sensors_books (s : State) (temps : List Int) : Budget.books (Budget.sensors s temps) = Budget.books s :=
  (Budget.sensors_kept s temps).books.trans (foldl_keeps Budget.books _ (Budget.readSensor_books temps) _ s)

theorem Budget.sensors_temp (s : State) (temps : List Int) {k : Nat} (hk : k < 16) :
    (Budget.sensors s temps).rd (Reg.budgetTemp k) = Budget.tempWord temps k := by
  rw [(Budget.sensors_kept s temps).temps k hk, foldl_read (g := fun s => s.rd (Reg.budgetTemp k)) fun s => Budget.readSensor_temp temps s hk]
  exact if_pos ⟨k, List.mem_range.mpr hk, rfl⟩

/-! ### The voltage loop (R275, R276) -/

theorem Budget.setV_kept (s : State) (v : Int) : Budget.BooksKept s (Budget.setV s v) :=
  .ite (.refl s) ⟨rfl, fun _ _ => rfl⟩

theorem Budget.voltage_kept (s : State) (mv : Nat) : Budget.BooksKept s (Budget.voltage s mv) := by
  unfold Budget.voltage
  extract_lets v off mm _ s1 s2 s3 target
  have h2 : Budget.BooksKept s s2 := .trans (t := s1) ⟨rfl, fun _ _ => rfl⟩ (.wr s1 _ (.inl (by decide)))
  have h3 : Budget.BooksKept s s3 := .ite (h2.trans (.trans (.fault s2 _ _) (.irq _ _ _))) h2
  refine .ite h3 ?_
  split
  · exact .ite (h3.trans (Budget.setV_kept _ _)) (.ite (h3.trans (Budget.setV_kept _ _)) (h3.trans (Budget.setV_kept _ _)))
  · exact h3

/-- The sensors, and the regulator's voltage where it responds. -/
def Budget.measured (s : State) (temps : List Int) (reg : Option (Nat × Nat)) : State :=
  match reg with
  | some (mv, _) => Budget.voltage (Budget.sensors s temps) mv
  | none => { Budget.sensors s temps with budget := { (Budget.sensors s temps).budget with mismatch := 0 } }

theorem Budget.measured_kept (s : State) (temps : List Int) (reg : Option (Nat × Nat)) :
    Budget.BooksKept (Budget.sensors s temps) (Budget.measured s temps reg) := by
  unfold Budget.measured
  split
  · exact Budget.voltage_kept _ _
  · exact ⟨rfl, fun _ _ => rfl⟩

/-! ### The epoch's power and the figures (R279) -/

/-- The epoch's power `p` joins the last 100, the minimum slack restarts, and the figures are published. -/
def Budget.posted (s : State) (p : Nat) (slack : Option Nat) : State :=
  let s2 := { s with budget := { s.budget with
    powers := (p :: s.budget.powers).take 100, slackMin := none, holdoff := s.budget.holdoff - 1 } }
  let mean := (roundDiv ((Budget.sum s2 : Nat) : Int) (Budget.cnt s2)).toNat
  let s3 := (s2.wr Reg.budgetPower (w32 (at_ 16 (satU 16 p) + satU 16 mean))).wr Reg.budgetSlack (w32 (satU 16 (slack.getD 0)))
  let s4 := Coil.publish s3 s3 s3.clk.rate
  { s4 with budget := { s4.budget with cap := Coil.capTier s4 } }

theorem Coil.publish_kept (s f : State) (code : Nat) : Budget.BooksKept s (Coil.publish s f code) := by
  have hfigure : ∀ {s : State} {a : Nat} {v : Word}, 0x58000 ≤ a → Budget.BooksKept s (s.wr a v) := fun ha => .wr _ _ (by omega)
  exact ((((hfigure (by decide)).trans (hfigure (by decide))).trans (hfigure (by decide))).trans (hfigure (by decide))).trans
    (hfigure (by decide))

/-- The books with the power `p` of an epoch that has closed. -/
def Budget.joined (s : State) (p : Nat) : State :=
  { s with budget := { s.budget with powers := (p :: s.budget.powers).take 100, slackMin := none } }

theorem Budget.posted_kept (s : State) (p : Nat) (slack : Option Nat) : Budget.BooksKept (Budget.joined s p) (Budget.posted s p slack) := by
  unfold Budget.posted
  extract_lets _ s2 mean s3 s4
  have h2 : Budget.BooksKept (Budget.joined s p) s2 := ⟨rfl, fun _ _ => rfl⟩
  have h3 : Budget.BooksKept s2 s3 := .trans (.wr _ _ (.inl (by decide))) (.wr _ _ (.inl (by decide)))
  have h4 : Budget.BooksKept s3 s4 := Coil.publish_kept _ _ _
  exact ((h2.trans h3).trans h4).trans (.cap s4 _)

/-! ### The tier decided (R279 to R282) -/

/-- A ceiling below the tier in force raises the Coil's interrupt. -/
def Budget.capAlarm (s : State) : State := if s.budget.cap < s.budget.admitted then s.irq Coil.page 4 else s

/-- Limits exceeded at tier 0 are recorded. -/
def Budget.limitAlarm (s : State) : State :=
  if s.budget.admitted = 0 ∧ (s.efF Reg.budgetPowerLimit 15 0 * Budget.cnt s < Budget.sum s ∨
      ((s.efF Reg.budgetTjLimit 15 0 : Nat) : Int) < s.budget.tj) then s.fault' Budget.page 0x85 else s

theorem Budget.alarms_kept (s : State) : Budget.BooksKept s (Budget.limitAlarm (Budget.capAlarm s)) := by
  have hcap : Budget.BooksKept s (Budget.capAlarm s) := .ite (.irq s _ _) (.refl s)
  exact .ite (hcap.trans (.fault _ _ _)) hcap

/-- A change of the admitted tier leaves the books. -/
theorem Budget.change_kept (s : State) (new e reason : Nat) (hold : Bool) : Budget.BooksKept s (Budget.change s new e reason hold) := by
  have hcorr : ∀ (s : State) (old : Nat), Budget.BooksKept s (Corr.tierChange s old new e) := fun s old =>
    .trans (.foldl (fun s _ => .corr s _) _ s) (.corr _ _)
  have hcoil : ∀ (s : State) (old : Nat), Budget.BooksKept s (Coil.tierChange s old new e) := fun s old =>
    .foldl (fun s t => .ite (.coil s _) (.ite (.coil s _) (.refl s))) _ s
  unfold Budget.change
  extract_lets old _ s1 s2
  have h2 : Budget.BooksKept s s2 := .trans (t := s1) ⟨rfl, fun _ _ => rfl⟩ (.irq s1 _ _)
  exact .ite (.refl s) ((h2.trans (hcorr _ _)).trans (hcoil _ _))

/-- The tier `x`, no higher than the peer's. -/
def Budget.notAbove (peer : Option Nat) (x : Nat) : Nat := match peer with | some y => min x y | none => x

/-- The tier `r` decided stands for the next epoch boundary, no higher than the other member's; a ceiling `cap` below the tier `a` in force
takes effect at once. -/
def Budget.planned (s : State) (fb a cap : Nat) (r : Nat × Nat) : State :=
  let s8 := { s with budget := { s.budget with
    ownTier := r.1, nextTier := some (s.clk.frame + fb, Budget.notAbove s.budget.peerTier r.1), nextWhy := r.2 } }
  if cap < a then
    let s9 := Budget.change s8 cap s8.clk.frame 6 true
    { s9 with budget := { s9.budget with holdoff := 100 } }
  else s8

theorem Budget.planned_kept (s : State) (fb a cap : Nat) (r : Nat × Nat) :
    Budget.BooksKept { s with budget := { s.budget with
      nextTier := some (s.clk.frame + fb, Budget.notAbove s.budget.peerTier r.1) } } (Budget.planned s fb a cap r) := by
  have hholdoff : ∀ (s : State) (n : Nat), Budget.BooksKept s { s with budget := { s.budget with holdoff := n } } :=
    fun _ _ => ⟨rfl, fun _ _ => rfl⟩
  unfold Budget.planned
  extract_lets _ s8 s9
  have h8 : Budget.BooksKept { s with budget := { s.budget with
      nextTier := some (s.clk.frame + fb, Budget.notAbove s.budget.peerTier r.1) } } s8 := ⟨rfl, fun _ _ => rfl⟩
  exact .ite ((h8.trans (Budget.change_kept s8 _ _ _ _)).trans (hholdoff s9 _)) h8

/-- The decision at the close of an epoch of `fb` frames whose power has joined: a standby reports its tier, another device plans it. -/
def Budget.decided (s : State) (fb : Nat) (slack : Option Nat) : State :=
  let s6 := Budget.capAlarm s
  let s7 := Budget.limitAlarm s6
  let r := Budget.tierFor s6 s6.budget.admitted s.budget.cap slack
  if s7.isStandby then { s7 with budget := { s7.budget with ownTier := if 1760 ≤ s7.budget.tj then 0 else r.1 } }
  else Budget.planned s7 fb s6.budget.admitted s.budget.cap r

/-- The decision leaves the powers, the slack and the readings; and on a device that is no standby it names a tier for the next boundary. -/
theorem Budget.decided_facts (s : State) (fb : Nat) (slack : Option Nat) :
    (Budget.decided s fb slack).budget.powers = s.budget.powers ∧ (Budget.decided s fb slack).budget.slackMin = s.budget.slackMin ∧
    (∀ k, k < 16 → (Budget.decided s fb slack).rd (Reg.budgetTemp k) = s.rd (Reg.budgetTemp k)) ∧
    (s.isStandby = false → ∃ x, (Budget.decided s fb slack).budget.nextTier = some (s.clk.frame + fb, x) ∧
      (∀ y, s.budget.peerTier = some y → x ≤ y)) := by
  have hown : ∀ (s : State) (n : Nat), Budget.BooksKept s { s with budget := { s.budget with ownTier := n } } :=
    fun _ _ => ⟨rfl, fun _ _ => rfl⟩
  have halarms := Budget.alarms_kept s
  unfold Budget.decided
  extract_lets s6 s7 r
  split
  next hstandby =>
    have hkept := halarms.trans (hown s7 (if 1760 ≤ s7.budget.tj then 0 else r.1))
    refine ⟨Budget.powers_of_books hkept.books, Budget.slackMin_of_books hkept.books, hkept.temps, fun hno => ?_⟩
    rw [Budget.isStandby_of_books halarms.books, hno] at hstandby
    cases hstandby
  next =>
    have hplanned := Budget.planned_kept s7 fb s6.budget.admitted s.budget.cap r
    have hpowers := Budget.powers_of_books halarms.books
    have hslack := Budget.slackMin_of_books halarms.books
    refine ⟨(Budget.powers_of_books hplanned.books).trans hpowers, (Budget.slackMin_of_books hplanned.books).trans hslack,
      fun k hk => (hplanned.temps k hk).trans (halarms.temps k hk), fun _ => ⟨Budget.notAbove s7.budget.peerTier r.1, ?_, fun y hy => ?_⟩⟩
    · rw [Budget.nextTier_of_books hplanned.books, Budget.clk_of_books halarms.books]
    · rw [Budget.peerTier_of_books halarms.books, hy]
      exact min_le_right _ _

/-- A close that is due measures, lets the epoch's power join, and decides. -/
theorem Budget.epochClose_eq {s : State} (htick : s.clk.ticking = true) (hepoch : s.clk.frame % frameBase s.clk.rate = 0)
    (hfirst : s.clk.frame ≠ s.clk.firstTick) (temps : List Int) (reg : Option (Nat × Nat)) :
    Budget.epochClose s temps reg =
      let q := Budget.epochPower (Budget.measured s temps reg) s.budget.v (reg.map (·.2))
      Budget.decided (Budget.posted q.2 q.1 s.budget.slackMin) (Budget.fb s) s.budget.slackMin := by
  have hdue : ¬ ((!s.clk.ticking) = true ∨ s.clk.frame % Budget.fb s ≠ 0 ∨ s.clk.frame = s.clk.firstTick) := by
    simp [htick, Budget.fb, hepoch, hfirst]
  unfold Budget.epochClose
  exact (if_neg hdue).trans rfl

/-! ### The close (R269, R279) -/

theorem Budget.epochPower_kept (s : State) (v : Nat) (ma : Option Nat) : Budget.BooksKept s (Budget.epochPower s v ma).2 := by
  unfold Budget.epochPower
  cases ma with
  | none => exact ⟨rfl, fun _ _ => rfl⟩
  | some i => exact .refl s

/-- What a close leaves once it has measured, with the books of `s`, and found the power `p`. -/
theorem Budget.decided_posted {s u : State} (h : Budget.books u = Budget.books s) (p fb : Nat) (slack : Option Nat) :
    (Budget.decided (Budget.posted u p slack) fb slack).budget.powers = (p :: s.budget.powers).take 100 ∧
    (Budget.decided (Budget.posted u p slack) fb slack).budget.slackMin = none ∧
    (∀ k, k < 16 → (Budget.decided (Budget.posted u p slack) fb slack).rd (Reg.budgetTemp k) = u.rd (Reg.budgetTemp k)) ∧
    (s.isStandby = false → ∃ x, (Budget.decided (Budget.posted u p slack) fb slack).budget.nextTier = some (s.clk.frame + fb, x) ∧
      (∀ y, s.budget.peerTier = some y → x ≤ y)) := by
  have hposted := Budget.posted_kept u p slack
  have hjoined : (Budget.joined u p).budget.powers = (p :: s.budget.powers).take 100 := by rw [← Budget.powers_of_books h]; rfl
  obtain ⟨hpowers, hslack, htemps, htier⟩ := Budget.decided_facts (Budget.posted u p slack) fb slack
  refine ⟨hpowers.trans ((Budget.powers_of_books hposted.books).trans hjoined), hslack.trans (Budget.slackMin_of_books hposted.books),
    fun k hk => (htemps k hk).trans (hposted.temps k hk), fun hno => ?_⟩
  have hstandby : (Budget.posted u p slack).isStandby = s.isStandby :=
    (Budget.isStandby_of_books hposted.books).trans (Budget.isStandby_of_books (t := u) h)
  have hclk : (Budget.posted u p slack).clk = s.clk := (Budget.clk_of_books hposted.books).trans (Budget.clk_of_books (t := u) h)
  have hpeer : (Budget.posted u p slack).budget.peerTier = s.budget.peerTier :=
    (Budget.peerTier_of_books hposted.books).trans (Budget.peerTier_of_books (t := u) h)
  rw [hstandby, hclk, hpeer] at htier
  exact htier hno

/-- What a close that is due leaves: the readings, the epoch's power, and the tier for the next boundary. -/
theorem Budget.epochClose_facts {s : State} (htick : s.clk.ticking = true) (hepoch : s.clk.frame % frameBase s.clk.rate = 0)
    (hfirst : s.clk.frame ≠ s.clk.firstTick) (temps : List Int) (reg : Option (Nat × Nat)) :
    (∃ p, (Budget.epochClose s temps reg).budget.powers = (p :: s.budget.powers).take 100 ∧
      (∀ mv ma, reg = some (mv, ma) →
        p = (roundDiv ((s.budget.v * ma : Nat) : Int) 100000).toNat + s.efF Reg.budgetRailAllow 15 0)) ∧
    (Budget.epochClose s temps reg).budget.slackMin = none ∧
    (∀ k, k < 16 → (Budget.epochClose s temps reg).rd (Reg.budgetTemp k) = Budget.tempWord temps k) ∧
    (s.isStandby = false → ∃ x, (Budget.epochClose s temps reg).budget.nextTier = some (s.clk.frame + frameBase s.clk.rate, x) ∧
      (∀ y, s.budget.peerTier = some y → x ≤ y)) := by
  have hmeasured := Budget.measured_kept s temps reg
  have hbooks : Budget.books (Budget.measured s temps reg) = Budget.books s := hmeasured.books.trans (Budget.sensors_books s temps)
  have hdrawn := Budget.epochPower_kept (Budget.measured s temps reg) s.budget.v (reg.map (·.2))
  obtain ⟨hpowers, hslack, htemps, htier⟩ := Budget.decided_posted (hdrawn.books.trans hbooks)
    (Budget.epochPower (Budget.measured s temps reg) s.budget.v (reg.map (·.2))).1 (Budget.fb s) s.budget.slackMin
  rw [Budget.epochClose_eq htick hepoch hfirst]
  refine ⟨⟨_, hpowers, ?power⟩, hslack, fun k hk => ?temp, htier⟩
  case power =>
    rintro mv ma rfl
    rw [← Budget.efF_of_books hbooks]
    rfl
  case temp => rw [htemps k hk, hdrawn.temps k hk, hmeasured.temps k hk, Budget.sensors_temp s temps hk]

theorem Memc.epoch_kept (s : State) : Budget.BooksKept s (Memc.epoch s) := by
  unfold Memc.epoch
  extract_lets len _ s1 demand
  exact .trans (t := s1) ⟨rfl, fun _ _ => rfl⟩ (.wr s1 _ (.inr (by decide)))

/-- The mean frequencies of the self-oscillating channels, each with the fault of its loop. -/
def Epoch.channels (freqs : List (Nat × Nat)) (s : State) : State :=
  freqs.foldl (fun s f => if 10 ≤ (Pstg.ch (Pstg.epoch s f.1 f.2) f.1).farRun then Pstg.loopFault (Pstg.epoch s f.1 f.2) f.1
    else Pstg.epoch s f.1 f.2) s

theorem Epoch.close_due {s : State} (htick : s.clk.ticking = true) (hepoch : s.clk.frame % frameBase s.clk.rate = 0) (temps : List Int)
    (reg : Option (Nat × Nat)) (freqs : List (Nat × Nat)) :
    Epoch.close s temps reg freqs = Epoch.channels freqs (Memc.epoch (Budget.epochClose s temps reg)) :=
  if_neg (by simp [htick, Budget.fb, hepoch])

end Sys2Proof.Machine
end

section
/-!
PROOFS. The statement on the rows of power and heat (R269 to R287).
-/
namespace Sys2Proof.Machine

/-- Settles O25: each row is taken back to what its own operation leaves; the close of an epoch by the books that its steps hand on, a
transition by what the clears of the changed domains leave, the entry into standby by the reset that it makes. -/
theorem powerCommandsAct : Obligations.PowerCommandsAct := by
  refine ⟨fun s => ⟨?close, ?timeout, ?transition, fun up => ⟨?refused, ?entered⟩,
    fun e => ⟨fun hstandby hheld => ?wakes, ?awake⟩⟩, Budget.tierFor_cases⟩
  case close =>
    intro hrun htick hepoch hfirst temps reg freqs
    obtain ⟨hpowers, hslack, htemps, htier⟩ := Budget.epochClose_facts (s := s.begin) htick hepoch hfirst temps reg
    have hmemc := Memc.epoch_kept (Budget.epochClose s.begin temps reg)
    refine completes_act (exec_budgetEpochClose temps reg freqs s) hrun
      ⟨_, Epoch.close_due (s := s.begin) htick hepoch temps reg freqs, ?powers, ?slack, ?temps, fun hno => ?tier⟩
    case powers => rw [Budget.powers_of_books hmemc.books]; exact hpowers
    case slack => rw [Budget.slackMin_of_books hmemc.books]; exact hslack
    case temps => exact fun k hk => (hmemc.temps k hk).trans (htemps k hk)
    case tier => rw [Budget.nextTier_of_books hmemc.books]; exact htier hno
  case timeout =>
    intro hrun
    have hbudget := Budget.regulatorTimeout_budget s.begin
    obtain ⟨hcause, hirq⟩ := State.fault_irq_facts { s.begin with budget := { s.begin.budget with regFault := true } }
      (p := Budget.page) (q := Budget.page) (i := 3) (code := 0x80) (by decide) (by decide)
    exact completes_act (exec_regulatorTimeout s) hrun ⟨hbudget, hcause, hirq, Budget.setV_stopped (by rw [hbudget])⟩
  case transition =>
    intro hrun new hnew
    obtain ⟨hbudget, hirq⟩ := Domain.done_facts (s := s.begin) hnew
    refine completes_act (exec_domainTransitionDone s) hrun ⟨by rw [hbudget], by rw [hbudget], hirq, fun hmem a d hd ha => ?_⟩
    rw [Domain.done_memStays (s := s.begin) hnew hmem]
    exact Domain.changed_reads s.begin new hd ha
  case refused =>
    intro hbusy
    refine completes_standbyEnter up ?_
    rw [Standby.enter_refused (s := Standby.asked s) hbusy]
    exact ⟨State.faultD_cause _ 6 0x86 0 (by decide), State.faultCode_budget _ 6 0x86, State.faultCode_hoop _ 6 0x86⟩
  case entered =>
    intro hrate htick
    refine completes_standbyEnter up ?_
    have hfacts := Standby.enter_facts (s := Standby.asked s) hrate htick
    rw [Standby.asked_timer] at hfacts
    exact hfacts
  case wakes =>
    refine ⟨completes_force (exec_wakeSpi e s) ⟨_, rfl, rfl, Standby.wake_standby (s := s.begin) e hstandby hheld⟩,
      fun pin hpin hen hsel => completes_force (exec_wakeGpio pin e s)
        ⟨_, rfl, Standby.wakeGpio_standby (s := s.begin) e hstandby hheld hpin hen hsel⟩,
      fun x hdue => completes_force (exec_standbyTimerExpiry e s)
        ⟨_, rfl, Standby.timer_standby (s := s.begin) e hstandby hheld hdue⟩⟩
  case awake =>
    exact fun hawake => ⟨completes_force (exec_wakeSpi e s) (Standby.wake_awake (s := s.begin) e hawake),
      fun pin => completes_force (exec_wakeGpio pin e s) (Standby.wakeGpio_awake (s := s.begin) e hawake pin),
      completes_force (exec_standbyTimerExpiry e s) (Standby.timer_awake (s := s.begin) e hawake)⟩

end Sys2Proof.Machine
end

section
/-!
PROOFS. The statement on the rows of the power stage (R298, R304, R305, R308, R309).
-/
namespace Sys2Proof.Machine

/-! ### A command to a channel that no group has (R305) -/

/-- Past the last group's page stands LSUP's: there, the command register of channel 64 would be LSUP_CH_ZNOM of channel 11. -/
theorem Reg.pstgChCmd_pastGroups : Reg.pstgChCmd (64 / 8) (64 % 8) = Reg.lsupChZnom 11 := rfl

/-- A device that runs, with every register at its reset value. -/
def Pstg.runningState : State := { State.reset with boot := { State.reset.boot with inReset := false, phase := 6 } }

/-- Channel 64 has no latch to recheck, and the page that stands where its group's would be answers. -/
theorem Pstg.runningState_noRecheck : Pstg.runningState.running = true ∧
    Pstg.runningState.pageUp (Pstg.pageOf (64 / 8)) = true ∧ Pstg.canRecheck Pstg.runningState 64 = false := by
  and_intros <;> decide +kernel

/-- The state that the command to channel 64 leads to: its word 1 is stored as a nominal impedance. -/
def Pstg.commandedState : State := Reg.poke Pstg.runningState.begin (Reg.lsupChZnom 11) 1

theorem exec_recheckPastGroups :
    exec (.recheckCommand 64) Pstg.runningState = .next (State.close Pstg.runningState Pstg.commandedState) :=
  (exec_recheckCommand 64 Pstg.runningState).trans (State.act_running _ _ Pstg.runningState_noRecheck.1)

/-- The end of the command leaves that register as it finds it: at the command's word, or with no effect at 0. -/
theorem Pstg.close_znom :
    (State.close Pstg.runningState Pstg.commandedState).rd (Reg.lsupChZnom 11) = 1 ∧
    (State.close Pstg.runningState Pstg.runningState.begin).rd (Reg.lsupChZnom 11) = 0 := by
  constructor <;> decide +kernel

/-- Refutes O26: a RECHECK_COMMAND to a channel that may have no recheck is claimed to do nothing for every channel number whose page
answers, with no bound at the channels of the part. At channel 64 the page is LSUP's, and the write of 1 is stored in LSUP_CH_ZNOM of
channel 11, which held 0. -/
theorem not_stageCommandsAct : ¬ Obligations.StageCommandsAct := by
  unfold Obligations.StageCommandsAct
  intro h
  obtain ⟨hrun, hpage, hnone⟩ := Pstg.runningState_noRecheck
  obtain ⟨hchannel, -⟩ := h Pstg.runningState hrun
  obtain ⟨-, -, -, -, -, -, -, -, hcommand, -⟩ := hchannel 64 _ rfl
  obtain ⟨t, hnext, rfl⟩ := (hcommand hpage).2 hnone
  have hclose : State.close Pstg.runningState Pstg.runningState.begin = State.close Pstg.runningState Pstg.commandedState := by
    injection hnext.symm.trans exec_recheckPastGroups
  obtain ⟨hstored, hkept⟩ := Pstg.close_znom
  rw [hclose, hstored] at hkept
  exact absurd hkept (by decide)

end Sys2Proof.Machine
end

section
/-!
PROOFS. The statement on load supervision (R316 to R331, R335): what the end of a command leaves of the note which channels were making
readings at the last tick (R317), and the capture that notes it anew.
-/
namespace Sys2Proof.Machine

/-! ### What leaves the windows in progress alone -/

/-- The channels on which a window is in progress since the last tick. -/
def Lsup.windows (s : State) (c : Nat) : Bool := (Lsup.ch s c).live

theorem Lsup.windows_of_lsup {s t : State} (h : t.lsup = s.lsup) : Lsup.windows t = Lsup.windows s := by
  unfold Lsup.windows Lsup.ch
  rw [h]

theorem Lsup.windows_fault (s : State) (p code : Nat) : Lsup.windows (s.fault' p code) = Lsup.windows s :=
  Lsup.windows_of_lsup (State.faultCode_lsup s p code)

theorem Lsup.windows_count (s : State) (a n : Nat) : Lsup.windows (s.count a n) = Lsup.windows s :=
  Lsup.windows_of_lsup (State.count_lsup s a n)

theorem Lsup.windows_blind : Coil.Blind Lsup.windows where
  coil _ _ _ := rfl
  steps _ _ := rfl
  irq _ _ := rfl
  fault s code d := Lsup.windows_of_lsup (State.faultD_lsup s _ code d)
  count s a n _ := Lsup.windows_count s a n

theorem Osier.sync_windows (s : State) : Lsup.windows (Osier.sync s) = Lsup.windows s := by
  refine foldl_keeps Lsup.windows _ (fun s k => ?_) _ s
  simp only []
  split <;> split <;> rfl

theorem Coil.creditRise_windows (s : State) : Lsup.windows (Coil.creditRise s) = Lsup.windows s := by
  unfold Coil.creditRise
  split
  · rfl
  · split <;> rfl

theorem Ptp.follow_windows (s : State) : Lsup.windows (Ptp.follow s) = Lsup.windows s := by
  unfold Ptp.follow
  split
  · unfold Ptp.decide_
    extract_lets own slaveOnly masterOnly best follow alone stateOf sel gm changed oldGm s1 stake s2 anyOn s3
    have h1 : Lsup.windows s1 = Lsup.windows s := foldl_keeps Lsup.windows _ (fun s p => by simp only []; split <;> rfl) _ s
    have h3 : Lsup.windows s3 = Lsup.windows s := by
      simp only [s3]
      split <;> exact h1
    split <;> exact h3
  · rfl

/-- A new increment, stated for any: the kernel is not to compare it with the one before. -/
theorem Stake.steered_windows (s : State) (i : Nat) :
    Lsup.windows { Stake.setI s i with stake := { (Stake.setI s i).stake with steerAt := (Stake.setI s i).clk.mono } } = Lsup.windows s := rfl

theorem Stake.holdSlew_windows (s : State) : Lsup.windows (Stake.holdSlew s) = Lsup.windows s := by
  unfold Stake.holdSlew
  cases s.stake.holdI with
  | none => rfl
  | some m =>
    simp only []
    split
    · rfl
    · split
      · rfl
      · exact Stake.steered_windows s _

/-! ### The mute of a step (R304, R308, R383) -/

theorem Pstg.tryStart_windows (s : State) (c : Nat) : Lsup.windows (Pstg.tryStart s c) = Lsup.windows s := by
  unfold Pstg.tryStart
  simp only []
  split
  · rfl
  · split
    · exact Lsup.windows_fault s _ _
    · rfl

theorem Pstg.again_windows (s : State) (c : Nat) : Lsup.windows (Pstg.again s c) = Lsup.windows s := by
  unfold Pstg.again
  split
  · rfl
  · exact Pstg.tryStart_windows _ c

/-- A recheck begins with no readings, and takes no note of a window. -/
theorem Pstg.beginRecheck_windows (s : State) (c : Nat) : Lsup.windows (Pstg.beginRecheck s c) = Lsup.windows s := by
  funext d
  obtain rfl | hd := eq_or_ne d c
  · exact (congrArg LsCh.live (Tab.get_set_same _ s.lsup.ch d _)).trans rfl
  · exact congrArg LsCh.live (Tab.get_set_ne _ s.lsup.ch _ hd)

theorem Pstg.muteAll_windows (s : State) (kind : Nat) : Lsup.windows (Pstg.muteAll s kind) = Lsup.windows s := by
  refine foldl_keeps Lsup.windows _ (fun s c => ?_) (Pstg.chans s) s
  simp only []
  split
  · rfl
  · split <;> rfl

theorem Pstg.unmute_windows (s : State) : Lsup.windows (Pstg.unmute s) = Lsup.windows s := by
  refine foldl_keeps Lsup.windows _ (fun s c => ?_) _ _
  simp only []
  split
  · exact Pstg.again_windows s c
  · split
    · exact Pstg.beginRecheck_windows s c
    · exact Pstg.tryStart_windows s c

theorem Pstg.endMute_windows (s : State) (kind : Nat) : Lsup.windows (Pstg.endMute s kind) = Lsup.windows s := by
  unfold Pstg.endMute
  simp only []
  split
  · rfl
  · split
    · exact Pstg.unmute_windows s
    · rfl

theorem Stake.stepQuiet_windows (s : State) : Lsup.windows (Stake.stepQuiet s) = Lsup.windows s := by
  unfold Stake.stepQuiet
  split
  · rfl
  · simp only []
    refine .trans ?_ (Pstg.muteAll_windows s 4)
    generalize Pstg.muteAll s 4 = u
    refine .trans (Lsup.windows_of_lsup rfl) (foldl_keeps Lsup.windows
      (fun s g => (s.irq (Pstg.pageOf g) 3).fault' (Pstg.pageOf g) 0x83) (fun s g => Lsup.windows_fault _ _ _) (List.range (Pstg.groups u)) u)

theorem Stake.pageReset_windows (s : State) : Lsup.windows (Stake.pageReset s) = Lsup.windows s := by
  unfold Stake.pageReset
  simp only []
  split
  · rfl
  · split <;> rfl

theorem Stake.request_windows (s : State) (op : Nat) (x : Int) : Lsup.windows (Stake.request s op x) = Lsup.windows s := by
  unfold Stake.request
  split
  · exact (Lsup.windows_fault _ _ _).trans (Lsup.windows_count _ _ _)
  · rfl

theorem Stake.progress_windows (s : State) : Lsup.windows (Stake.progress s) = Lsup.windows s := by
  unfold Stake.progress
  split
  · exact Stake.stepQuiet_windows s
  · split
    · simp only []
      refine .trans ?_ (Pstg.endMute_windows s 4)
      split
      · exact Stake.pageReset_windows _
      · rfl
    · split
      · split
        · rfl
        · exact Stake.request_windows _ _ _
      · rfl

/-! ### The standby, open plaits and the release from a freeze -/

theorem Coil.restart_windows (s : State) : Lsup.windows (Coil.restart s) = Lsup.windows s := by
  have hg := Lsup.windows_blind
  unfold Coil.restart
  simp only []
  refine (foldl_keeps Lsup.windows _ (fun s i => Coil.settle_blind hg _ s 1 _ _) _ _).trans
    (foldl_keeps Lsup.windows _ (fun s i => ?_) _ _)
  split
  · rfl
  · split
    · exact Coil.armNode_blind hg _ i
    · rfl

theorem Hoop.startRejoin_windows (s : State) : Lsup.windows (Hoop.startRejoin s) = Lsup.windows s := by
  unfold Hoop.startRejoin
  split
  · unfold Hoop.leaveStep
    simp only []
    split
    · rfl
    · split <;> rfl
  · simp only []
    split <;> exact (Coil.restart_windows _).trans (Lsup.windows_count _ _ _)

theorem Hoop.steppedOut_windows (s : State) (w : Word) : Lsup.windows (Hoop.steppedOut s w) = Lsup.windows s := by
  unfold Hoop.steppedOut
  split
  · rfl
  · unfold Hoop.outOfStep
    split
    · rfl
    · simp only []
      split
      · exact (Hoop.startRejoin_windows _).trans (Lsup.windows_fault _ _ _)
      · exact Lsup.windows_fault _ _ _

theorem Plait.lost_windows (s : State) : Lsup.windows (Plait.lost s) = Lsup.windows s := by
  unfold Plait.lost
  split
  · rfl
  · exact foldl_keeps Lsup.windows _ (fun s k => by simp only []; split <;> rfl) _ s

theorem Plait.endPending_windows (s : State) (o : Outcome) (p : Nat → Bool) : Lsup.windows (Plait.endPending s o p) = Lsup.windows s :=
  foldl_keeps Lsup.windows _ (fun s k => by simp only []; split <;> rfl) _ s

theorem Budget.restart_windows (s : State) : Lsup.windows (Budget.restart s) = Lsup.windows s := Lsup.windows_of_lsup rfl

theorem State.startTicks_windows (s : State) (n : Nat) : Lsup.windows (s.startTicks n) = Lsup.windows s :=
  foldl_keeps Lsup.windows _ (fun s k => by simp only []; split <;> rfl) _ _

theorem Port.restart_windows (s : State) : Lsup.windows (Port.restart s) = Lsup.windows s := by
  refine foldl_keeps Lsup.windows _ (fun s p => foldl_keeps Lsup.windows _ (fun s t => ?_) _ s) _ s
  simp only []
  split
  · split <;> rfl
  · rfl

theorem Freeze.progress_windows (s : State) : Lsup.windows (Freeze.progress s) = Lsup.windows s := by
  unfold Freeze.progress
  split
  · unfold Freeze.resume
    simp only []
    split
    · rfl
    · refine (Port.restart_windows _).trans ((Budget.restart_windows _).trans ((State.startTicks_windows _ _).trans ?_))
      exact (Plait.endPending_windows _ _ _).trans (Lsup.windows_of_lsup rfl)
  · rfl

/-! ### The end of a command -/

/-- Where the end of a command leaves no frame and no shutdown in progress and the device not frozen, it has touched no window. -/
theorem State.close_windows {s t u : State} (hu : u = State.close s t) (hsteps : u.coil.path.steps = 0) (hboot : ¬ u.boot.shutting)
    (hfrozen : u.fault.frozen = false) : Lsup.windows u = Lsup.windows t := by
  obtain ⟨a, ha⟩ : ∃ a, a = Stake.progress (Stake.holdSlew (Ptp.follow (Coil.creditRise (Osier.sync (Frame.go t))))) := ⟨_, rfl⟩
  obtain ⟨d, hd⟩ : ∃ d, d = Freeze.progress (Plait.lost (Hoop.steppedOut (Shutdown.progress 8 a) (s.rd Reg.stakeStepCount))) := ⟨_, rfl⟩
  have hclose : u = { Irq.send (State.canon (Freeze.requested d)) with pending := s.pending } := by rw [hu, hd, ha]; rfl
  have hopen : Freeze.requested d = d := (Freeze.requested_marks d).resolve_right fun h => by
    rw [hclose, Irq.sent_fault, h] at hfrozen
    cases hfrozen
  have hup : u.standing = (Shutdown.progress 8 a).standing := by
    rw [hclose, Irq.sent_standing, hopen, hd]
    exact (Freeze.progress_standing _).trans ((Plait.lost_standing _).trans (Hoop.steppedOut_standing _ _))
  have hon : Shutdown.progress 8 a = a := (Shutdown.progress_marks 8 a).resolve_right fun h => hboot (by
    rwa [show u.boot = (Shutdown.progress 8 a).boot from congrArg (·.2.2) hup])
  have hgo : Frame.go t = t := (Frame.go_marks t).resolve_right fun h => h (by
    have hua : u.standing = (Osier.sync (Frame.go t)).standing := by
      rw [hup, hon, ha]
      exact (Stake.progress_standing _).trans ((Stake.holdSlew_standing _).trans ((Ptp.follow_standing _).trans (Coil.creditRise_standing _)))
    have hpath : u.coil.path.steps = (Osier.sync (Frame.go t)).coil.path.steps := congrArg (·.2.1) hua
    rw [← Osier.sync_coil, ← hpath, hsteps])
  have hsent : Lsup.windows u = Lsup.windows d := by
    rw [hclose, hopen, Irq.send_eq]
    rfl
  calc Lsup.windows u
      = Lsup.windows d := hsent
    _ = Lsup.windows a := by rw [hd, Freeze.progress_windows, Plait.lost_windows, Hoop.steppedOut_windows, hon]
    _ = Lsup.windows t := by
      rw [ha, Stake.progress_windows, Stake.holdSlew_windows, Ptp.follow_windows, Coil.creditRise_windows, Osier.sync_windows, hgo]

/-! ### A capture on a channel that has stopped (R323, R335) -/

/-- A device that runs, whose channel 0 was making readings at the last tick and has gone Off since. -/
def Lsup.stoppedState : State := { State.reset with
  boot := { State.reset.boot with inReset := false, phase := 6 }
  coil := { State.reset.coil with path := { steps := 0 } }
  lsup := { ch := [(0, { live := true })] } }

/-- LSUP answers, and no operation runs on it. -/
theorem Lsup.stoppedState_ready : Lsup.stoppedState.running = true ∧ Lsup.stoppedState.pageUp Lsup.page = true ∧
    0 < Lsup.stoppedState.variant.psChannels ∧ Lsup.stoppedState.lsup.busy = none ∧ Lsup.windows Lsup.stoppedState 0 = true := by
  and_intros <;> decide +kernel

/-- The end of the command on the state that the capture leads to. -/
def Lsup.capturingState : State :=
  State.close Lsup.stoppedState (Reg.poke Lsup.stoppedState.begin Reg.lsupCmd (w32 (0 % 64 + at_ 8 1)))

theorem exec_captureStopped : exec (.baselineCapture 0) Lsup.stoppedState = .next Lsup.capturingState :=
  (exec_baselineCapture 0 Lsup.stoppedState).trans (State.act_running _ _ Lsup.stoppedState_ready.1)

/-- The capture has begun, with no window in progress; and no frame, shutdown or freeze has come in between. -/
theorem Lsup.capturingState_facts : (Lsup.ch Lsup.capturingState 0).capture = some [] ∧ Lsup.windows Lsup.capturingState 0 = false ∧
    Lsup.capturingState.coil.path.steps = 0 ∧ Lsup.capturingState.boot.phase = 6 ∧ Lsup.capturingState.boot.shutStep = 0 ∧
    Lsup.capturingState.fault.frozen = false := by
  and_intros <;> decide +kernel

/-- Refutes O27: operation 1 of LSUP_CMD is claimed to change nothing of its channel but the capture; the model notes anew whether the
channel makes readings. On a channel that has stopped since the last tick, the window in progress is claimed to stay; it is dropped. -/
theorem not_supervisionCommandsAct : ¬ Obligations.SupervisionCommandsAct := by
  unfold Obligations.SupervisionCommandsAct
  intro h
  obtain ⟨hrun, hpage, hchannel, hidle, hwindow⟩ := Lsup.stoppedState_ready
  obtain ⟨-, -, -, -, hcommands, -⟩ := h Lsup.stoppedState hrun 0 _ rfl
  obtain ⟨hcapture, -⟩ := (hcommands hpage hchannel).2 hidle
  obtain ⟨t, hnext, -, hch, -⟩ := hcapture
  have hclose : Lsup.capturingState = State.close Lsup.stoppedState t := by
    injection exec_captureStopped.symm.trans hnext
  obtain ⟨-, hdropped, hsteps, hphase, hstep, hfrozen⟩ := Lsup.capturingState_facts
  have hboot : ¬ Lsup.capturingState.boot.shutting := by
    rintro (hten | hshut)
    · omega
    · exact hshut hstep
  have hkept : Lsup.windows t 0 = Lsup.windows Lsup.stoppedState 0 := by
    unfold Lsup.windows
    rw [hch]
  rw [← State.close_windows hclose hsteps hboot hfrozen, hdropped, hwindow] at hkept
  cases hkept

end Sys2Proof.Machine
end

section
/-!
PROOFS. The commands of the ports, Stake and PTP complete (R343 to R365, R382 to R399).
-/
namespace Sys2Proof.Machine

/-- Settles O47: each command is its own operation between the common begin and end of a command, and a running device carries it
out. -/
theorem portAndClockCommandsComplete : Obligations.PortAndClockCommandsComplete := fun s hrun =>
  ⟨fun _ _ => completes_act (exec_portStart _ _ s) hrun rfl,
    fun _ _ => completes_act (exec_leadinEnd _ _ s) hrun rfl,
    fun _ _ => completes_act (exec_portStop _ _ s) hrun rfl,
    fun _ _ => completes_act (exec_portFadeEnd _ _ s) hrun rfl,
    fun _ _ => completes_act (exec_leadoutEnd _ _ s) hrun rfl,
    fun _ _ => completes_act (exec_maskChangeApply _ _ s) hrun rfl,
    fun _ => completes_act (exec_receiverLock _ s) hrun rfl,
    fun _ => completes_act (exec_receiverLockLoss _ s) hrun rfl,
    fun _ _ => completes_act (exec_portInputFrame _ _ s) hrun rfl,
    fun _ _ _ => completes_act (exec_aesInputFrame _ _ _ s) hrun rfl,
    fun _ _ _ => completes_act (exec_aesCsBlock _ _ _ s) hrun rfl,
    fun _ _ => completes_act (exec_madiInputFrame _ _ s) hrun rfl,
    fun _ _ _ _ => completes_act (exec_rateMeasure _ _ _ _ s) hrun rfl,
    fun _ _ => completes_act (exec_asrcLock _ _ s) hrun rfl,
    fun _ _ => completes_act (exec_asrcUnlock _ _ s) hrun rfl,
    fun _ => completes_act (exec_hostAudioInRead _ s) hrun rfl,
    fun _ => completes_act (exec_hostAudioOutDone _ s) hrun rfl,
    fun _ => completes_act (exec_portOutputFrame _ s) hrun rfl,
    fun _ => completes_act (exec_servoMeasurement _ s) hrun rfl,
    fun _ _ _ _ _ _ _ => completes_act (exec_ptpSync _ _ _ _ _ _ _ s) hrun rfl,
    fun _ _ _ _ _ _ => completes_act (exec_ptpFollowUp _ _ _ _ _ _ s) hrun rfl,
    fun _ _ _ _ => completes_act (exec_ptpDelayReq _ _ _ _ s) hrun rfl,
    fun _ _ _ _ _ _ => completes_act (exec_ptpDelayResp _ _ _ _ _ _ s) hrun rfl,
    fun _ _ => completes_act (exec_ptpAnnounce _ _ s) hrun rfl,
    fun _ _ _ => completes_act (exec_ptpManagementSignaling _ _ _ s) hrun rfl,
    fun _ => completes_act (exec_announceTimeout _ s) hrun rfl,
    fun _ _ => completes_act (exec_ptpMessageInterval _ _ s) hrun rfl,
    fun _ => completes_act (exec_ref10mMeasure _ s) hrun rfl,
    fun _ => completes_act (exec_triggerEdge _ s) hrun rfl,
    fun _ _ => completes_act (exec_captureEdge _ _ s) hrun rfl,
    fun _ => completes_act (exec_tcapPop _ s) hrun rfl,
    completes_act (exec_holdover s) hrun rfl,
    completes_act (exec_stakeSet s) hrun rfl,
    completes_act (exec_stakeAdd s) hrun rfl,
    completes_act (exec_stakeSubtract s) hrun rfl,
    completes_act (exec_stakeStepRequest s) hrun rfl,
    completes_act (exec_stakeStepApply s) hrun rfl,
    completes_act (exec_ppsEdge s) hrun rfl,
    completes_act (exec_ppsLoss s) hrun rfl,
    completes_act (exec_gmHoldoverLimit s) hrun rfl⟩

end Sys2Proof.Machine
end

section
/-!
PROOFS. What the operations of a port's directions read and change: its page and its two directions, the fades of the channels and the
bits of a mask (R343 to R348).
-/
namespace Sys2Proof.Machine

/-! ### One page of the ports -/

@[simp] theorem Port.pg_setPg_same (s : State) (p : Nat) (x : PortPg) : Port.pg (Port.setPg s p x) p = x := Tab.get_set_same _ _ _ _

@[simp] theorem Port.pg_begin (s : State) (p : Nat) : Port.pg s.begin p = Port.pg s p := rfl

theorem Port.pg_setPg_ne (s : State) {p q : Nat} (x : PortPg) (h : q ≠ p) : Port.pg (Port.setPg s p x) q = Port.pg s q :=
  Tab.get_set_ne _ _ _ h

/-- What a function reads of the later state it reads of the earlier one with the later one's pages. -/
theorem Port.pagesOnly.read {s t : State} (h : Port.pagesOnly s t) {β : Type} (g : State → β) :
    g t = g { s with port := { s.port with pages := t.port.pages } } := congrArg g h

/-- From `s` to `t` only page `p` of the ports has changed. -/
structure Port.OnePage (p : Nat) (s t : State) : Prop where
  pages : Port.pagesOnly s t
  others : ∀ q, q ≠ p → Port.pg t q = Port.pg s q

namespace Port.OnePage

variable {p : Nat} {s t u : State}

theorem refl (p : Nat) (s : State) : Port.OnePage p s s := ⟨.refl s, fun _ _ => rfl⟩

theorem trans (h : Port.OnePage p s t) (h' : Port.OnePage p t u) : Port.OnePage p s u :=
  ⟨h.pages.trans h'.pages, fun q hq => (h'.others q hq).trans (h.others q hq)⟩

theorem foldl {α : Type} {f : State → α → State} (h : ∀ s a, Port.OnePage p s (f s a)) (l : List α) (s : State) :
    Port.OnePage p s (l.foldl f s) :=
  List.foldlRecOn l f (motive := Port.OnePage p s) (refl p s) fun t ht a _ => ht.trans (h t a)

theorem setPg (s : State) (p : Nat) (x : PortPg) : Port.OnePage p s (Port.setPg s p x) :=
  ⟨Port.setPg_only s p x, fun _ => Port.pg_setPg_ne s x⟩

theorem mapDirs (s : State) (p : Nat) (tx : Bool) (f : PortDir → PortDir) : Port.OnePage p s (Port.mapDirs s p tx f) :=
  .foldl (fun s _ => setPg s p _) _ s

theorem clk (h : Port.OnePage p s t) : t.clk = s.clk := h.pages.read State.clk

end Port.OnePage

/-! ### The directions of a page -/

theorem PortPg.dir_setDir (x : PortPg) (t u : Bool) (d : PortDir) : (x.setDir t d).dir u = if u = t then d else x.dir u := by
  cases t <;> cases u <;> rfl

/-- The page with the directions that a start or stop of `tx` moves changed by `f`. -/
def PortPg.moved (x : PortPg) (p : Nat) (tx : Bool) (f : Bool → PortDir → PortDir) : PortPg :=
  { x with rx := if false = tx ∨ Port.kind p = 1 then f false x.rx else x.rx
           tx := if true = tx ∨ Port.kind p = 1 then f true x.tx else x.tx }

theorem PortPg.dir_moved (x : PortPg) (p : Nat) (tx u : Bool) (f : Bool → PortDir → PortDir) :
    (x.moved p tx f).dir u = if u = tx ∨ Port.kind p = 1 then f u (x.dir u) else x.dir u := by
  cases u <;> rfl

theorem PortPg.dir_moved_in (x : PortPg) {p : Nat} {tx u : Bool} (f : Bool → PortDir → PortDir) (h : u = tx ∨ Port.kind p = 1) :
    (x.moved p tx f).dir u = f u (x.dir u) := (x.dir_moved p tx u f).trans (if_pos h)

/-- The other direction of a page that is not serial stays. -/
theorem PortPg.dir_moved_not (x : PortPg) {p : Nat} (tx : Bool) (f : Bool → PortDir → PortDir) (h : Port.kind p ≠ 1) :
    (x.moved p tx f).dir (!tx) = x.dir (!tx) := (x.dir_moved p tx (!tx) f).trans (if_neg (by simp [h]))

theorem Port.pg_mapDirs (s : State) (p : Nat) (tx : Bool) (f : PortDir → PortDir) :
    Port.pg (Port.mapDirs s p tx f) p = (Port.pg s p).moved p tx (fun _ => f) := by
  unfold Port.mapDirs Port.dirs PortPg.moved
  by_cases hk : Port.kind p = 1
  · simp [hk, PortPg.setDir, PortPg.dir]
  · cases tx <;> simp [hk, PortPg.setDir, PortPg.dir]

theorem Port.dir_mapDirs (s : State) {p : Nat} {tx u : Bool} (f : PortDir → PortDir) (h : u = tx ∨ Port.kind p = 1) :
    (Port.pg (Port.mapDirs s p tx f) p).dir u = f ((Port.pg s p).dir u) := by
  rw [Port.pg_mapDirs, PortPg.dir_moved_in _ _ h]

/-- The rate of a direction depends on the rate that its page runs with, the effective fields and the rate in force. -/
theorem Port.rateCode_of_pages {s t : State} (h : Port.pagesOnly s t) {p : Nat} (hrate : (Port.pg t p).rate = (Port.pg s p).rate) (tx : Bool) :
    Port.rateCode t p tx = Port.rateCode s p tx := by
  have hfield : Port.rateField t p tx = Port.rateField s p tx := h.read (Port.rateField · p tx)
  have hclk : t.clk = s.clk := h.read State.clk
  unfold Port.rateCode
  rw [hrate, hfield, hclk]

/-! ### The fades of the channels -/

/-- Several updates of a table at different keys, each of the value that stands there. -/
theorem Tab.get_foldl_update {α : Type} [DecidableEq α] (d : Nat → α) (g : α → α) {l : List Nat} (hl : l.Nodup) (t : Tab α) (k : Nat) :
    Tab.get d (l.foldl (fun t b => Tab.set d t b (g (Tab.get d t b))) t) k = if k ∈ l then g (Tab.get d t k) else Tab.get d t k := by
  induction l generalizing t with
  | nil => simp
  | cons b l ih =>
    obtain ⟨hb, hl⟩ := List.nodup_cons.mp hl
    rw [List.foldl_cons, ih hl, Tab.get_set]
    by_cases hk : k = b
    · subst hk
      simp [hb]
    · simp [hk]

theorem PortDir.fade_aimAll (d : PortDir) {chans k : Nat} (n r : Nat) (v : Int) (hk : k < chans) :
    Tab.get (fun _ => {}) (d.aimAll chans n r v).fade k = (Tab.get (fun _ => ({} : Ramp)) d.fade k).aim n (n + r) v :=
  (Tab.get_foldl_update _ (fun x : Ramp => x.aim n (n + r) v) List.nodup_range d.fade k).trans (if_pos (List.mem_range.mpr hk))

end Sys2Proof.Machine
end

section
/-!
PROOFS. The start, the lead-in, the stop and the lead-out of a port's directions (R347, R348).
-/
namespace Sys2Proof.Machine

/-! ### The start (R347) -/

/-- The page with the settings in force. -/
def Port.configured (s : State) (p : Nat) (tx : Bool) : PortPg :=
  if Port.kind p = 1 then { Port.pg s p with fmt := s.ef (Port.reg p 0x40), rate := Port.rateField s p tx } else Port.pg s p

/-- Direction `t` with its mask in force and nothing left of the run before. -/
def Port.renewed (s : State) (p : Nat) (t : Bool) (d : PortDir) : PortDir :=
  { d with mask := if Port.kind p = 1 then s.efF (if t then Port.reg p 0x4C else Port.reg p 0x48) 15 0 else 0
           toSet := [], toClear := [], stopping := false, rateLead := false }

/-- The state whose page has taken its settings and masks, and whose directions have not moved. -/
def Port.prepared (s : State) (p : Nat) (tx : Bool) : State :=
  (Port.dirs p tx).foldl (fun s t => Port.setPg s p ((Port.pg s p).setDir t (Port.renewed s p t ((Port.pg s p).dir t))))
    (Port.setPg s p (Port.configured s p tx))

theorem PortPg.moved_moved (x : PortPg) (p : Nat) (tx : Bool) (f g : Bool → PortDir → PortDir) :
    (x.moved p tx f).moved p tx g = x.moved p tx (fun u d => g u (f u d)) := by
  unfold PortPg.moved
  by_cases hf : false = tx ∨ Port.kind p = 1 <;> by_cases ht : true = tx ∨ Port.kind p = 1 <;> simp only [hf, ht, if_true, if_false]

theorem Port.configured_dir (s : State) (p : Nat) (tx u : Bool) : (Port.configured s p tx).dir u = (Port.pg s p).dir u := by
  unfold Port.configured
  split <;> rfl

theorem Port.configured_locked (s : State) (p : Nat) (tx : Bool) : (Port.configured s p tx).locked = (Port.pg s p).locked := by
  unfold Port.configured
  split <;> rfl

theorem Port.ownClock_configured (s : State) (p : Nat) (tx : Bool) :
    Port.ownClock (Port.configured s p tx) p tx = if Port.kind p = 1 then bit (s.ef (Port.reg p 0x40)) 3 else tx := by
  unfold Port.ownClock Port.configured
  split <;> rfl

theorem Port.prepared_onePage (s : State) (p : Nat) (tx : Bool) : Port.OnePage p s (Port.prepared s p tx) :=
  (Port.OnePage.setPg s p _).trans (.foldl (fun t _ => .setPg t p _) _ _)

theorem Port.pg_prepared (s : State) (p : Nat) (tx : Bool) :
    Port.pg (Port.prepared s p tx) p = (Port.configured s p tx).moved p tx (Port.renewed s p) := by
  unfold Port.prepared Port.dirs PortPg.moved
  by_cases hk : Port.kind p = 1
  · simp only [hk, if_true, or_true, List.foldl_cons, List.foldl_nil, Port.pg_setPg_same]
    rfl
  · cases tx <;> simp only [hk, if_false, or_false, List.foldl_cons, List.foldl_nil, Port.pg_setPg_same] <;> rfl

/-- The rate code with which a started direction runs. -/
theorem Port.rateCode_prepared (s : State) (p : Nat) (tx : Bool) :
    Port.rateCode (Port.prepared s p tx) p tx = if Port.rateField s p tx = 0 then s.clk.rate else Port.rateField s p tx := by
  have hone := Port.prepared_onePage s p tx
  have hfield : Port.rateField (Port.prepared s p tx) p tx = Port.rateField s p tx := hone.pages.read (Port.rateField · p tx)
  have hrate : Port.kind p = 1 → (Port.pg (Port.prepared s p tx) p).rate = Port.rateField s p tx := fun hk => by
    rw [Port.pg_prepared]
    unfold Port.configured
    rw [if_pos hk]
    rfl
  unfold Port.rateCode
  rw [hone.clk]
  by_cases hk : Port.kind p = 1
  · simp only [hk, if_true, hrate hk]
  · simp only [hk, if_false, hfield]

/-- A started direction: it leads in at an instant, or waits for the receiver's lock. -/
def PortDir.entered (d : PortDir) (leads : Bool) (instant : Nat) : PortDir :=
  if leads then { d with state := 1, waitLock := false, leadAt := instant, frames := 0, fade := [] } else { d with waitLock := true }

theorem PortDir.entered_mask (d : PortDir) (leads : Bool) (instant : Nat) : (d.entered leads instant).mask = d.mask := by
  cases leads <;> rfl

/-- Whether it leads in or waits, a started direction stops no more and has no mask bits that wait. -/
theorem Port.renewed_entered (s : State) (p : Nat) (t : Bool) (d : PortDir) (leads : Bool) (instant : Nat) :
    ((Port.renewed s p t d).entered leads instant).stopping = false ∧ ((Port.renewed s p t d).entered leads instant).toSet = [] ∧
    ((Port.renewed s p t d).entered leads instant).toClear = [] := by
  cases leads <;> exact ⟨rfl, rfl, rfl⟩

section Start

variable {s : State} {p : Nat} {tx : Bool}

/-- A direction that runs, is disabled or has no rate that MADI carries does not start. -/
theorem Port.start_idle (h : ((Port.pg s p).dir tx).state ≠ 0 ∨ Port.isOn s p tx = false ∨ Port.madiInactive s p tx = true) :
    Port.start s p tx = s := if_pos (.inr (by simpa using h))

variable {code : Nat} {own : Bool} (hkind : Port.kind p ≠ 0) (hstate : ((Port.pg s p).dir tx).state = 0) (hon : Port.isOn s p tx = true)
  (hmadi : Port.madiInactive s p tx = false) (hcode : code = if Port.rateField s p tx = 0 then s.clk.rate else Port.rateField s p tx)
  (hown : own = if Port.kind p = 1 then bit (s.ef (Port.reg p 0x40)) 3 else tx)
include hkind hstate hon hmadi hcode hown

/-- What a start does, by the direction's clock, the rate and the lock. -/
theorem Port.start_eq : Port.start s p tx =
    if own = true ∧ code = 0 then s
    else if own = true ∨ (Port.pg s p).locked = true then Port.beginLead (Port.prepared s p tx) p tx
    else Port.mapDirs (Port.prepared s p tx) p tx (fun d => { d with waitLock := true }) := by
  have hzero : code = 0 ↔ Port.rateField s p tx = 0 ∧ s.clk.rate = 0 := by
    rw [hcode]
    split <;> simp_all
  simp only [hzero]
  rw [hown, ← Port.ownClock_configured, ← Port.configured_locked s p tx]
  exact if_neg (by simp [hkind, hstate, hon, hmadi])

/-- A direction that clocks itself at the render rate waits for one. -/
theorem Port.start_noRate (h : own = true) (hnone : code = 0) : Port.start s p tx = s := by
  rw [Port.start_eq hkind hstate hon hmadi hcode hown, if_pos ⟨h, hnone⟩]

theorem Port.start_leads (hrate : own = false ∨ code ≠ 0) (h : own = true ∨ (Port.pg s p).locked = true) :
    Port.start s p tx = Port.beginLead (Port.prepared s p tx) p tx := by
  rw [Port.start_eq hkind hstate hon hmadi hcode hown, if_neg, if_pos h]
  rintro ⟨howns, hnone⟩
  simp [howns, hnone] at hrate

theorem Port.start_waits (hfollows : own = false) (hunlocked : (Port.pg s p).locked = false) :
    Port.start s p tx = Port.mapDirs (Port.prepared s p tx) p tx (fun d => { d with waitLock := true }) := by
  rw [Port.start_eq hkind hstate hon hmadi hcode hown, if_neg (by simp [hfollows]), if_neg (by simp [hfollows, hunlocked])]

/-- A start changes its page alone, which then has its settings in force and its started directions led in or waiting. -/
theorem Port.start_page (hrate : own = false ∨ code ≠ 0) : Port.OnePage p s (Port.start s p tx) ∧
    Port.pg (Port.start s p tx) p = (Port.configured s p tx).moved p tx (fun u d =>
      (Port.renewed s p u d).entered (own || (Port.pg s p).locked) (Port.frameStart s code)) := by
  have hone := Port.prepared_onePage s p tx
  by_cases h : own = true ∨ (Port.pg s p).locked = true
  · have hat : Port.frameStart (Port.prepared s p tx) (Port.rateCode (Port.prepared s p tx) p tx) = Port.frameStart s code := by
      rw [Port.rateCode_prepared, ← hcode]
      exact hone.pages.read (Port.frameStart · code)
    have hleads : (own || (Port.pg s p).locked) = true := by simpa using h
    rw [Port.start_leads hkind hstate hon hmadi hcode hown hrate h, hleads]
    unfold Port.beginLead
    rw [hat]
    refine ⟨hone.trans (.mapDirs _ p tx _), ?_⟩
    rw [Port.pg_mapDirs, Port.pg_prepared, PortPg.moved_moved]
    rfl
  · have hwaits : (own || (Port.pg s p).locked) = false := by simpa using h
    obtain ⟨hfollows, hunlocked⟩ := Bool.or_eq_false_iff.mp hwaits
    rw [Port.start_waits hkind hstate hon hmadi hcode hown hfollows hunlocked, hwaits]
    refine ⟨hone.trans (.mapDirs _ p tx _), ?_⟩
    rw [Port.pg_mapDirs, Port.pg_prepared, PortPg.moved_moved]
    rfl

theorem Port.dir_start (hrate : own = false ∨ code ≠ 0) {u : Bool} (hu : u = tx ∨ Port.kind p = 1) :
    (Port.pg (Port.start s p tx) p).dir u =
      (Port.renewed s p u ((Port.pg s p).dir u)).entered (own || (Port.pg s p).locked) (Port.frameStart s code) := by
  obtain ⟨-, hpage⟩ := Port.start_page hkind hstate hon hmadi hcode hown hrate
  rw [hpage, PortPg.dir_moved_in _ _ hu, Port.configured_dir]

/-- A serial port starts with its format, rate and masks. -/
theorem Port.start_serial (hrate : own = false ∨ code ≠ 0) (hserial : Port.kind p = 1) :
    (Port.pg (Port.start s p tx) p).fmt = s.ef (Port.reg p 0x40) ∧ (Port.pg (Port.start s p tx) p).rate = Port.rateField s p tx ∧
    (Port.pg (Port.start s p tx) p).rx.mask = s.efF (Port.reg p 0x48) 15 0 ∧
    (Port.pg (Port.start s p tx) p).tx.mask = s.efF (Port.reg p 0x4C) 15 0 := by
  have hmask : ∀ u, ((Port.pg (Port.start s p tx) p).dir u).mask = s.efF (if u then Port.reg p 0x4C else Port.reg p 0x48) 15 0 := fun u => by
    rw [Port.dir_start hkind hstate hon hmadi hcode hown hrate (.inr hserial), PortDir.entered_mask]
    exact if_pos hserial
  obtain ⟨-, hpage⟩ := Port.start_page hkind hstate hon hmadi hcode hown hrate
  refine ⟨?_, ?_, hmask false, hmask true⟩
  all_goals
    rw [hpage]
    unfold Port.configured
    rw [if_pos hserial]
    rfl

end Start

/-! ### The lead-in's end (R347) -/

theorem Port.pg_toStake (s : State) (n q : Nat) : Port.pg (s.toStake n) q = Port.pg s q := by rw [State.toStake_eq]; rfl

/-- The instant up to which a direction's own lead-in or lead-out of `cnt` frames lasts. -/
def Port.ledUntil (s : State) (p : Nat) (tx : Bool) (cnt : Nat) : Nat :=
  ((Port.pg s p).dir tx).leadAt + cdiv (cnt * secU) (rateHz (Port.rateCode s p tx))

/-- The state at the end of the lead-in. -/
def Port.led (s : State) (p : Nat) (tx : Bool) : State :=
  if Port.ownClock (Port.pg s p) p tx = true then s.toStake (Port.ledUntil s p tx (s.efF (Port.reg p 0x50) 15 0)) else s

theorem Port.leadinEnd_idle {s : State} {p : Nat} {tx : Bool} (h : ((Port.pg s p).dir tx).state ≠ 1) : Port.leadinEnd s p tx = s :=
  if_pos (.inr h)

section LeadIn

variable {s : State} {p : Nat} {tx : Bool} (hkind : Port.kind p ≠ 0) (hstate : ((Port.pg s p).dir tx).state = 1)
include hkind hstate

theorem Port.leadinEnd_counting (hown : Port.ownClock (Port.pg s p) p tx = false)
    (hless : ((Port.pg s p).dir tx).frames < s.efF (Port.reg p 0x50) 15 0) : Port.leadinEnd s p tx = s := by
  unfold Port.leadinEnd
  simp only []
  rw [if_neg (by simp [hkind, hstate]), if_pos ⟨by simp [hown], hless⟩]

theorem Port.leadinEnd_over
    (hover : Port.ownClock (Port.pg s p) p tx = true ∨ s.efF (Port.reg p 0x50) 15 0 ≤ ((Port.pg s p).dir tx).frames) :
    Port.leadinEnd s p tx = Port.mapDirs (Port.led s p tx) p tx (fun d =>
      { d.aimAll (Port.chans p) s.clk.frame (if ((Port.pg s p).dir tx).rateLead then s.ms 20 else Port.rampFrames s p) one30 with
        state := 2, rateLead := false }) := by
  have hled : Port.leadinEnd s p tx = Port.mapDirs (Port.led s p tx) p tx (fun d =>
      { d.aimAll (Port.chans p) (Port.led s p tx).clk.frame
          (if ((Port.pg s p).dir tx).rateLead then (Port.led s p tx).ms 20 else Port.rampFrames (Port.led s p tx) p) one30 with
        state := 2, rateLead := false }) := by
    unfold Port.leadinEnd
    simp only []
    rw [if_neg (by simp [hkind, hstate]), if_neg (by rintro ⟨hown, hless⟩; simp [hown] at hover; omega)]
    rfl
  have hreads : (Port.led s p tx).clk.frame = s.clk.frame ∧ (Port.led s p tx).ms 20 = s.ms 20 ∧
      Port.rampFrames (Port.led s p tx) p = Port.rampFrames s p := by
    unfold Port.led
    split
    · rw [State.toStake_eq]
      exact ⟨rfl, rfl, rfl⟩
    · exact ⟨rfl, rfl, rfl⟩
  obtain ⟨hframe, hms, hramp⟩ := hreads
  rw [hled, hframe, hms, hramp]

end LeadIn

/-- The lead-in of a direction that clocks itself ends at an instant of Stake time; that of a receiver moves no time. -/
theorem Port.led_clk (s : State) (p : Nat) (tx : Bool) :
    (Port.ownClock (Port.pg s p) p tx = true →
      (Port.led s p tx).clk.stake = max s.clk.stake (Port.ledUntil s p tx (s.efF (Port.reg p 0x50) 15 0))) ∧
    (Port.ownClock (Port.pg s p) p tx = false → (Port.led s p tx).clk = s.clk) := by
  unfold Port.led
  refine ⟨fun hown => ?_, fun hown => ?_⟩
  · rw [if_pos hown, State.toStake_stake]
  · rw [if_neg (by simp [hown])]

theorem Port.pg_led (s : State) (p : Nat) (tx : Bool) (q : Nat) : Port.pg (Port.led s p tx) q = Port.pg s q := by
  unfold Port.led
  split
  · exact Port.pg_toStake s _ q
  · rfl

/-! ### The stop (R348) -/

/-- A direction at the command to stop in frame `n`, with ramps of `r` frames. -/
def PortDir.stopped (d : PortDir) (chans n r : Nat) : PortDir :=
  if d.state = 0 then { d with waitLock := false }
  else if d.stopping then d
  else { d.aimAll chans n r 0 with stopping := true }

theorem PortDir.stopped_still {d : PortDir} (chans n r : Nat) (h : d.state = 0) : d.stopped chans n r = { d with waitLock := false } := if_pos h

theorem PortDir.stopped_begun {d : PortDir} (chans n r : Nat) (h : d.state ≠ 0) (hstop : d.stopping = true) : d.stopped chans n r = d :=
  (if_neg h).trans (if_pos hstop)

theorem PortDir.stopped_fades {d : PortDir} (chans n r : Nat) (h : d.state ≠ 0) (hstop : d.stopping = false) :
    d.stopped chans n r = { d.aimAll chans n r 0 with stopping := true } := (if_neg h).trans (if_neg (by simp [hstop]))

theorem Port.stop_page (s : State) (p : Nat) (tx : Bool) : Port.OnePage p s (Port.stop s p tx) ∧
    ∀ u, u = tx ∨ Port.kind p = 1 →
      (Port.pg (Port.stop s p tx) p).dir u = ((Port.pg s p).dir u).stopped (Port.chans p) s.clk.frame (Port.rampFrames s p) := by
  have hmap := Port.OnePage.mapDirs s p tx (fun d => d.stopped (Port.chans p) s.clk.frame (Port.rampFrames s p))
  have hdir := fun u hu => Port.dir_mapDirs s (u := u) (tx := tx) (p := p) (fun d => d.stopped (Port.chans p) s.clk.frame (Port.rampFrames s p)) hu
  unfold Port.stop
  simp only []
  split
  · refine ⟨hmap.trans (.setPg _ p _), fun u hu => ?_⟩
    rw [Port.pg_setPg_same, ← hdir u hu]
    rfl
  · exact ⟨hmap, hdir⟩

/-- An enabled direction goes on. -/
theorem Port.stopCmd_on {s : State} {p : Nat} {tx : Bool} (h : Port.isOn s p tx = true) : Port.stopCmd s p tx = s := if_pos (.inr h)

theorem Port.stopCmd_off {s : State} {p : Nat} {tx : Bool} (hkind : Port.kind p ≠ 0) (h : Port.isOn s p tx = false) :
    Port.stopCmd s p tx = Port.stop s p tx := if_neg (by simp [hkind, h])

/-! ### The ends of the fade and of the lead-out (R348) -/

theorem Port.fadeEnd_over {s : State} {p : Nat} {tx : Bool} (hstop : ((Port.pg s p).dir tx).stopping = true)
    (hstate : ((Port.pg s p).dir tx).state ≠ 3) (hfade : ∀ e ∈ ((Port.pg s p).dir tx).fade, e.2.h ≤ s.clk.frame) :
    Port.fadeEnd s p tx = Port.mapDirs s p tx (fun d =>
      { d with state := 3, leadAt := Port.frameStart s (Port.rateCode s p tx), frames := 0 }) :=
  if_pos ⟨hstop, hstate, by simpa using hfade⟩

theorem Port.fadeEnd_idle {s : State} {p : Nat} {tx : Bool} (h : ((Port.pg s p).dir tx).stopping = false ∨ ((Port.pg s p).dir tx).state = 3 ∨
    ∃ e ∈ ((Port.pg s p).dir tx).fade, s.clk.frame < e.2.h) : Port.fadeEnd s p tx = s := by
  refine if_neg ?_
  rintro ⟨hstop, hstate, hfade⟩
  obtain hnot | hthree | ⟨e, he, hruns⟩ := h
  · rw [hnot] at hstop
    cases hstop
  · exact hstate hthree
  · have := of_decide_eq_true (List.all_eq_true.mp hfade e he)
    omega

theorem Port.leadoutEnd_idle {s : State} {p : Nat} {tx : Bool} (h : ((Port.pg s p).dir tx).state ≠ 3 ∨ ((Port.pg s p).dir tx).rateLead = true) :
    Port.leadoutEnd s p tx = s := if_pos h

/-- The lead-out's end stops the clocks at its instant and leaves no output. -/
theorem Port.leadoutEnd_over {s : State} {p : Nat} {tx : Bool} (hstate : ((Port.pg s p).dir tx).state = 3)
    (hrate : ((Port.pg s p).dir tx).rateLead = false) :
    (Port.leadoutEnd s p tx).clk.stake = max s.clk.stake (Port.ledUntil s p tx (s.efF (Port.reg p 0x50) 31 16)) ∧
    (tx = true ∨ Port.kind p = 1 → (Port.pg (Port.leadoutEnd s p tx) p).outReg = [] ∧ (Port.pg (Port.leadoutEnd s p tx) p).outStd = [] ∧
      (Port.pg (Port.leadoutEnd s p tx) p).outPin = []) ∧
    ∀ u, u = tx ∨ Port.kind p = 1 → (Port.pg (Port.leadoutEnd s p tx) p).dir u = ((Port.pg s p).dir u).halted := by
  have hstake := State.toStake_stake s (Port.ledUntil s p tx (s.efF (Port.reg p 0x50) 31 16))
  have hpage := Port.pg_toStake s (Port.ledUntil s p tx (s.efF (Port.reg p 0x50) 31 16)) p
  have heq : Port.leadoutEnd s p tx =
      (let t := Port.mapDirs (s.toStake (Port.ledUntil s p tx (s.efF (Port.reg p 0x50) 31 16))) p tx PortDir.halted
       if tx = true ∨ Port.kind p = 1 then Port.setPg t p { Port.pg t p with outReg := [], outStd := [], outPin := [], auxPin := [] } else t) :=
    if_neg (by simp [hstate, hrate])
  generalize s.toStake _ = a at hstake hpage heq
  have hclk := (Port.OnePage.mapDirs a p tx PortDir.halted).clk
  have hdir := fun u hu => Port.dir_mapDirs a (u := u) (tx := tx) (p := p) PortDir.halted hu
  rw [hpage] at hdir
  rw [heq]
  simp only []
  split
  · refine ⟨(congrArg Clock.stake hclk).trans hstake, fun _ => ?_, fun u hu => ?_⟩
    · rw [Port.pg_setPg_same]
      exact ⟨rfl, rfl, rfl⟩
    · rw [Port.pg_setPg_same, ← hdir u hu]
      rfl
  · exact ⟨(congrArg Clock.stake hclk).trans hstake, fun h => absurd h ‹_›, hdir⟩

end Sys2Proof.Machine
end

section
/-!
PROOFS. The mask bits of a serial port whose frame sync has come (R343), and the lock of a receiver (R350, R353).
-/
namespace Sys2Proof.Machine

/-! ### Mask bits (R343) -/

/-- Bit `k` of a mask is set where it is due, and cleared where it is gone. -/
def Port.maskBit (due gone : List Nat) (m k : Nat) : Nat :=
  if k ∈ due then m ||| 1 <<< k else if k ∈ gone ∧ m.testBit k then m ^^^ 1 <<< k else m

theorem Port.maskBit_testBit (due gone : List Nat) (m j k : Nat) :
    (Port.maskBit due gone m j).testBit k = if k = j then decide (k ∈ due) || (m.testBit k && !decide (k ∈ gone)) else m.testBit k := by
  have hone : (1 <<< j).testBit k = decide (j = k) := by rw [Nat.one_shiftLeft, Nat.testBit_two_pow]
  unfold Port.maskBit
  by_cases hk : k = j
  · subst hk
    by_cases hdue : k ∈ due
    · simp [hdue, hone]
    · by_cases hgone : k ∈ gone <;> cases hbit : m.testBit k <;> simp [hdue, hgone, hbit, hone]
  · have hj : j ≠ k := Ne.symm hk
    by_cases hdue : j ∈ due
    · simp [hk, hj, hdue, hone]
    · by_cases hgone : j ∈ gone ∧ m.testBit j = true <;> simp [hk, hj, hdue, hgone, hone]

theorem Port.maskBits_testBit (due gone : List Nat) {l : List Nat} (hl : l.Nodup) (m k : Nat) :
    (l.foldl (Port.maskBit due gone) m).testBit k =
      if k ∈ l then decide (k ∈ due) || (m.testBit k && !decide (k ∈ gone)) else m.testBit k := by
  induction l generalizing m with
  | nil => simp
  | cons j l ih =>
    obtain ⟨hj, hl⟩ := List.nodup_cons.mp hl
    rw [List.foldl_cons, ih hl, Port.maskBit_testBit]
    by_cases hk : k = j
    · subst hk
      simp [hj]
    · simp [hk]

namespace PortDir

/-- The bits to set whose frame sync has come. -/
def due (d : PortDir) (now : Nat) : List Nat := (d.toSet.filter (fun e => e.2 ≤ now)).map (·.1)

/-- The bits to clear whose frame sync has come and whose fade is over in frame `n`. -/
def gone (d : PortDir) (now n : Nat) : List Nat :=
  (d.toClear.filter (fun e => decide (e.2 ≤ now) && decide ((Tab.get (fun _ => ({} : Ramp)) d.fade e.1).h ≤ n))).map (·.1)

/-- The direction with the mask bits applied whose frame sync has come by `now`; new ones fade in from frame `n` over `r`. -/
def applied (d : PortDir) (now n r : Nat) : PortDir :=
  { d with
    mask := (List.range 16).foldl (Port.maskBit (d.due now) (d.gone now n)) d.mask
    fade := (d.due now).foldl (fun f k => if d.state = 2 ∧ !d.stopping then
      Tab.set (fun _ => {}) f k ({ v0 := 0, v1 := one30, s := n, h := n + r } : Ramp) else f) d.fade
    toSet := d.toSet.filter (fun e => !(e.1 ∈ d.due now)), toClear := d.toClear.filter (fun e => !(e.1 ∈ d.gone now n)) }

variable {d : PortDir} {now n k : Nat}

theorem mem_due : k ∈ d.due now ↔ ∃ x ∈ d.toSet, x.1 = k ∧ x.2 ≤ now := by
  simp only [due, List.mem_map, List.mem_filter, decide_eq_true_eq]
  exact ⟨fun ⟨x, ⟨hx, hnow⟩, hk⟩ => ⟨x, hx, hk, hnow⟩, fun ⟨x, hx, hk, hnow⟩ => ⟨x, ⟨hx, hnow⟩, hk⟩⟩

theorem mem_gone : k ∈ d.gone now n ↔
    (∃ x ∈ d.toClear, x.1 = k ∧ x.2 ≤ now) ∧ (Tab.get (fun _ => ({} : Ramp)) d.fade k).h ≤ n := by
  simp only [gone, List.mem_map, List.mem_filter, Bool.and_eq_true, decide_eq_true_eq]
  constructor
  · rintro ⟨x, ⟨hx, hnow, hfade⟩, rfl⟩
    exact ⟨⟨x, hx, rfl, hnow⟩, hfade⟩
  · rintro ⟨⟨x, hx, rfl, hnow⟩, hfade⟩
    exact ⟨x, ⟨hx, hnow, hfade⟩, rfl⟩

theorem applied_mask (r : Nat) (hk : k < 16) : (d.applied now n r).mask.testBit k =
    (decide (k ∈ d.due now) || (d.mask.testBit k && !decide (k ∈ d.gone now n))) :=
  (Port.maskBits_testBit _ _ List.nodup_range d.mask k).trans (if_pos (List.mem_range.mpr hk))

theorem applied_fade (r : Nat) : Tab.get (fun _ => {}) (d.applied now n r).fade k =
    if k ∈ d.due now ∧ d.state = 2 ∧ d.stopping = false then ({ v0 := 0, v1 := one30, s := n, h := n + r } : Ramp)
    else Tab.get (fun _ => {}) d.fade k := by
  unfold applied
  simp only []
  by_cases hruns : d.state = 2 ∧ d.stopping = false
  · obtain ⟨hstate, hstop⟩ := hruns
    simp only [hstate, hstop, Bool.not_false, and_self, if_true, and_true]
    exact Tab.get_foldl_set _ (fun _ => _) _ _ k
  · have hskips : ¬ (d.state = 2 ∧ (!d.stopping) = true) := by simpa using hruns
    simp only [hskips, hruns, if_false, and_false]
    rw [foldl_fixed fun _ _ => rfl]

/-- A bit whose frame sync has come is set, waits no longer and fades in where the direction runs. -/
theorem applied_set (r : Nat) (hk : k < 16) (h : ∃ x ∈ d.toSet, x.1 = k ∧ x.2 ≤ now) :
    (d.applied now n r).mask.testBit k = true ∧ (∀ x ∈ (d.applied now n r).toSet, x.1 ≠ k) ∧
    (d.state = 2 → d.stopping = false → Tab.get (fun _ => {}) (d.applied now n r).fade k =
      ({ v0 := 0, v1 := one30, s := n, h := n + r } : Ramp)) := by
  have hdue : k ∈ d.due now := mem_due.mpr h
  refine ⟨?_, fun x hx hxk => ?_, fun hstate hstop => ?_⟩
  · rw [applied_mask r hk]
    simp [hdue]
  · obtain ⟨-, hnot⟩ := List.mem_filter.mp hx
    simp [hxk, hdue] at hnot
  · rw [applied_fade, if_pos ⟨hdue, hstate, hstop⟩]

/-- A bit that none sets keeps its fade, and is cleared where its frame sync has come and its fade is over. -/
theorem applied_clear (r : Nat) (hk : k < 16) (h : ∀ x ∈ d.toSet, x.1 = k → now < x.2) :
    Tab.get (fun _ => ({} : Ramp)) (d.applied now n r).fade k = Tab.get (fun _ => {}) d.fade k ∧
    ((∃ x ∈ d.toClear, x.1 = k ∧ x.2 ≤ now) → (Tab.get (fun _ => ({} : Ramp)) d.fade k).h ≤ n →
      (d.applied now n r).mask.testBit k = false) ∧
    ((∀ x ∈ d.toClear, x.1 = k → now < x.2) ∨ n < (Tab.get (fun _ => ({} : Ramp)) d.fade k).h →
      (d.applied now n r).mask.testBit k = d.mask.testBit k) := by
  have hdue : k ∉ d.due now := fun hmem => by
    obtain ⟨x, hx, hxk, hnow⟩ := mem_due.mp hmem
    have := h x hx hxk
    omega
  refine ⟨?_, fun hsync hfade => ?_, fun hstays => ?_⟩
  · rw [applied_fade, if_neg (by simp [hdue])]
  · rw [applied_mask r hk]
    simp [hdue, mem_gone.mpr ⟨hsync, hfade⟩]
  · have hgone : k ∉ d.gone now n := fun hmem => by
      obtain ⟨⟨x, hx, hxk, hnow⟩, hfade⟩ := mem_gone.mp hmem
      obtain hlater | hruns := hstays
      · have := hlater x hx hxk
        omega
      · omega
    rw [applied_mask r hk]
    simp [hdue, hgone]

end PortDir

/-- A page that is not serial has no mask. -/
theorem Port.maskApply_other {s : State} {p : Nat} (tx : Bool) (h : Port.kind p ≠ 1) : Port.maskApply s p tx = s := if_pos h

theorem Port.maskApply_serial (s : State) {p : Nat} (tx : Bool) (h : Port.kind p = 1) :
    Port.maskApply s p tx = Port.setPg s p ((Port.pg s p).setDir tx
      (((Port.pg s p).dir tx).applied s.clk.stake s.clk.frame (Port.rampFrames s p))) := if_neg (not_not.mpr h)

/-! ### The lock of a receiver (R350, R353) -/

theorem Port.lock_idle {s : State} {p : Nat} (h : Port.receiver s p = false ∨ (Port.pg s p).locked = true) : Port.lock s p = s :=
  if_pos (by simpa using h)

/-- The state of a receiver that has its lock, with its input as it was. -/
def Port.lockNoted (s : State) (p : Nat) : State := (Port.setPg s p { Port.pg s p with locked := true, group := 0, nextTag := none }).irq p 1

/-- The direction whose channels fade in again. -/
def Port.fadedIn (s : State) (p : Nat) (d : PortDir) : PortDir :=
  { d with fade := [] }.aimAll (Port.chans p) s.clk.frame (Port.rampFrames s p) one30

theorem Port.pg_fault (s : State) (p code q : Nat) : Port.pg (s.fault' p code) q = Port.pg s q := by
  unfold Port.pg
  rw [State.faultCode_port]

theorem Port.pg_lockNoted (s : State) (p : Nat) :
    Port.pg (Port.lockNoted s p) p = { Port.pg s p with locked := true, group := 0, nextTag := none } := Port.pg_setPg_same _ _ _

theorem Port.lockNoted_others (s : State) {p q : Nat} (h : q ≠ p) : Port.pg (Port.lockNoted s p) q = Port.pg s q := Port.pg_setPg_ne s _ h

theorem Port.lockNoted_irq (s : State) (p : Nat) : bit ((Port.lockNoted s p).rd (Reg.irqStatus p)) 1 = true := State.irq_bit _ _ _ (by decide)

section Lock

variable {s : State} {p : Nat} (hreceiver : Port.receiver s p = true) (hunlocked : (Port.pg s p).locked = false)
include hreceiver hunlocked

/-- What a lock leads to: a waiting start leads in, an input that runs fades in again, and any other stays as it is. -/
theorem Port.lock_eq : Port.lock s p =
    if (Port.pg s p).rx.waitLock = true then Port.beginLead (Port.lockNoted s p) p false
    else if (Port.pg s p).rx.state = 2 ∧ (Port.pg s p).rx.stopping = false then
      Port.setPg (Port.lockNoted s p) p { Port.pg (Port.lockNoted s p) p with rx := Port.fadedIn s p (Port.pg s p).rx }
    else Port.lockNoted s p := by
  have hruns : (Port.pg s p).rx.stopping = false ↔ (!(Port.pg s p).rx.stopping) = true := by simp
  simp only [hruns]
  exact if_neg (by simp [hreceiver, hunlocked])

/-- A lock sets bit 1 and changes its page alone. -/
theorem Port.lock_page : Port.OnePage p (Port.lockNoted s p) (Port.lock s p) ∧
    (Port.pg (Port.lock s p) p).locked = true ∧ (Port.pg (Port.lock s p) p).group = 0 := by
  have hnoted := Port.pg_lockNoted s p
  rw [Port.lock_eq hreceiver hunlocked]
  split
  · unfold Port.beginLead
    refine ⟨.mapDirs _ p false _, ?_⟩
    rw [Port.pg_mapDirs, hnoted]
    exact ⟨rfl, rfl⟩
  · split
    · refine ⟨.setPg _ p _, ?_⟩
      rw [Port.pg_setPg_same, hnoted]
      exact ⟨rfl, rfl⟩
    · refine ⟨.refl p _, ?_⟩
      rw [hnoted]
      exact ⟨rfl, rfl⟩

theorem Port.lock_leads (hwait : (Port.pg s p).rx.waitLock = true) : (Port.pg (Port.lock s p) p).rx =
    { (Port.pg s p).rx with state := 1, waitLock := false, leadAt := Port.frameStart s (Port.rateCode s p false), frames := 0, fade := [] } := by
  have hcode : Port.rateCode (Port.lockNoted s p) p false = Port.rateCode s p false :=
    Port.rateCode_of_pages (Port.setPg_only s p { Port.pg s p with locked := true, group := 0, nextTag := none })
      (by rw [Port.pg_setPg_same]) false
  have hdir := Port.dir_mapDirs (Port.lockNoted s p) (p := p) (tx := false) (u := false) (fun d =>
    { d with state := 1, waitLock := false, leadAt := Port.frameStart s (Port.rateCode s p false), frames := 0, fade := [] }) (.inl rfl)
  rw [Port.lock_eq hreceiver hunlocked, if_pos hwait]
  unfold Port.beginLead
  rw [hcode]
  rw [Port.pg_lockNoted] at hdir
  exact hdir

theorem Port.lock_stays (hwait : (Port.pg s p).rx.waitLock = false) (hstill : (Port.pg s p).rx.state ≠ 2 ∨ (Port.pg s p).rx.stopping = true) :
    Port.lock s p = Port.lockNoted s p := by
  rw [Port.lock_eq hreceiver hunlocked, if_neg (by simp [hwait]), if_neg]
  rintro ⟨hstate, hstop⟩
  simp [hstate, hstop] at hstill

theorem Port.lock_fades (hwait : (Port.pg s p).rx.waitLock = false) (hstate : (Port.pg s p).rx.state = 2)
    (hstop : (Port.pg s p).rx.stopping = false) : (Port.pg (Port.lock s p) p).rx = Port.fadedIn s p (Port.pg s p).rx := by
  rw [Port.lock_eq hreceiver hunlocked, if_neg (by simp [hwait]), if_pos ⟨hstate, hstop⟩, Port.pg_setPg_same]

end Lock

theorem Port.lockLoss_idle {s : State} {p : Nat} (h : (Port.pg s p).locked = false) : Port.lockLoss s p = s := if_pos (by simp [h])

/-- The state of a receiver that has lost its lock, before its code is recorded. -/
def Port.lossNoted (s : State) (p : Nat) : State := (Port.setPg s p { Port.pg s p with locked := false, group := 0, nextTag := none }).irq p 1

theorem Port.lockLoss_eq {s : State} {p : Nat} (h : (Port.pg s p).locked = true) :
    Port.lockLoss s p = if Port.kind p = 3 then (Port.lossNoted s p).fault' p 0x80 else Port.lossNoted s p := if_neg (by simp [h])

/-- A port's page is not the FAULT page. -/
theorem Port.kind_range {p : Nat} (h : Port.kind p ≠ 0) : 0x20 ≤ p ∧ p < 0x3C := by
  unfold Port.kind at h
  split at h
  · omega
  · split at h
    · omega
    · split at h <;> omega

theorem Port.lockLoss_facts {s : State} {p : Nat} (hkind : Port.kind p ≠ 0) (h : (Port.pg s p).locked = true) :
    Port.pg (Port.lockLoss s p) p = { Port.pg s p with locked := false, group := 0, nextTag := none } ∧
    bit ((Port.lockLoss s p).rd (Reg.irqStatus p)) 1 = true ∧
    (Port.kind p = 3 → fld ((Port.lockLoss s p).rd (Reg.faultCause p)) 7 0 = 0x80) ∧
    ∀ q, q ≠ p → Port.pg (Port.lockLoss s p) q = Port.pg s q := by
  have hsame : Port.pg (Port.lossNoted s p) p = { Port.pg s p with locked := false, group := 0, nextTag := none } := Port.pg_setPg_same _ _ _
  have hothers : ∀ q, q ≠ p → Port.pg (Port.lossNoted s p) q = Port.pg s q := fun _ => Port.pg_setPg_ne s _
  have hfault : p ≠ 7 := by
    have := Port.kind_range hkind
    omega
  rw [Port.lockLoss_eq h]
  split
  · refine ⟨(Port.pg_fault _ p _ p).trans hsame, State.bit_irq_faultD _ _ _ (by decide) hfault, fun _ => State.faultD_cause _ _ _ _ (by decide),
      fun q hq => (Port.pg_fault _ p _ q).trans (hothers q hq)⟩
  · exact ⟨hsame, State.irq_bit _ _ _ (by decide), fun hmadi => absurd hmadi ‹_›, hothers⟩

end Sys2Proof.Machine
end

section
/-!
PROOFS. The statement on the rows that move a port's directions (R343 to R353).
-/
namespace Sys2Proof.Machine

theorem completes_maskChangeApply {s : State} (hrun : s.running = true) {p : Nat} (tx : Bool) (hserial : Port.kind p = 1) :
    Completes (.maskChangeApply p tx) s (fun t => (∀ q, q ≠ p → Port.pg t q = Port.pg s q) ∧
      (Port.pg t p).dir (!tx) = (Port.pg s p).dir (!tx) ∧
      (Port.pg t p).dir tx = ((Port.pg s p).dir tx).applied s.clk.stake s.clk.frame (Port.rampFrames s p)) := by
  refine completes_act (exec_maskChangeApply p tx s) hrun ?_
  rw [Port.maskApply_serial s.begin tx hserial]
  refine ⟨fun q => Port.pg_setPg_ne s.begin _, ?_, ?_⟩
  · rw [Port.pg_setPg_same, PortPg.dir_setDir, if_neg (by simp)]
    rfl
  · rw [Port.pg_setPg_same, PortPg.dir_setDir, if_pos rfl]
    rfl

/-- Settles O28: each row comes to its operation of the port, in the branch that the clause's conditions name. -/
theorem portDirectionsAct : Obligations.PortDirectionsAct := by
  intro s hrun p hkind
  refine ⟨?directions, ?receiver⟩
  case directions =>
    rintro tx _ code own rfl
    refine ⟨fun hcode hown => ⟨fun hstate hon hmadi => ⟨?noRate, ?starts⟩, ?idle⟩, ?leadin, ?leadinIdle, ?stopOn, ?stop, ?fadeEnd, ?fadeIdle,
      ?leadout, ?leadoutIdle, ?maskOther, ?mask⟩
    case noRate =>
      exact fun howns hnone => completes_act (exec_portStart p tx s) hrun
        (Port.start_noRate (s := s.begin) hkind hstate hon hmadi hcode hown howns hnone)
    case starts =>
      intro hrate
      obtain ⟨hone, hpage⟩ := Port.start_page (s := s.begin) hkind hstate hon hmadi hcode hown hrate
      refine completes_act (exec_portStart p tx s) hrun ⟨hone.pages, hone.others,
        Port.start_serial (s := s.begin) hkind hstate hon hmadi hcode hown hrate, fun hother => ?_, fun u hu => ?_⟩
      · rw [hpage, PortPg.dir_moved_not _ _ _ hother, Port.configured_dir]
        rfl
      · obtain ⟨hstop, hset, hclear⟩ := Port.renewed_entered s.begin p u ((Port.pg s p).dir u) (own || (Port.pg s p).locked)
          (Port.frameStart s code)
        refine ⟨_, (Port.dir_start (s := s.begin) hkind hstate hon hmadi hcode hown hrate hu).symm, hstop, hset, hclear,
          fun hleads => ?_, fun hfollows hunlocked => ?_⟩
        · have hgo : (own || (Port.pg s.begin p).locked) = true := by simpa using hleads
          rw [hgo]
          exact ⟨rfl, rfl, rfl, rfl, rfl⟩
        · rw [hfollows, Port.pg_begin, hunlocked]
          exact ⟨rfl, rfl⟩
    case idle => exact fun h => completes_act (exec_portStart p tx s) hrun (Port.start_idle (s := s.begin) h)
    case leadin =>
      rintro _ _ rfl rfl hstate
      refine ⟨fun hown hless => completes_act (exec_leadinEnd p tx s) hrun
        (Port.leadinEnd_counting (s := s.begin) hkind hstate hown hless), fun hover => completes_act (exec_leadinEnd p tx s) hrun ?_⟩
      have hone := Port.OnePage.mapDirs (Port.led s.begin p tx) p tx
      have hpage := Port.pg_led s.begin p tx p
      obtain ⟨hmoves, hstands⟩ := Port.led_clk s.begin p tx
      rw [Port.leadinEnd_over (s := s.begin) hkind hstate hover]
      refine ⟨fun hown => ?_, fun hown => (hone _).clk.trans (hstands hown), fun u hu => ?_⟩
      · rw [(hone _).clk]
        exact hmoves hown
      · rw [Port.dir_mapDirs _ _ hu, hpage]
        exact ⟨rfl, fun k hk => PortDir.fade_aimAll _ _ _ _ hk⟩
    case leadinIdle => exact fun h => completes_act (exec_leadinEnd p tx s) hrun (Port.leadinEnd_idle (s := s.begin) h)
    case stopOn => exact fun h => completes_act (exec_portStop p tx s) hrun (Port.stopCmd_on (s := s.begin) h)
    case stop =>
      intro hoff
      obtain ⟨hone, hdir⟩ := Port.stop_page s.begin p tx
      refine completes_act (exec_portStop p tx s) hrun ?_
      rw [Port.stopCmd_off (s := s.begin) hkind hoff]
      refine ⟨hone.others, ?_⟩
      rintro u _ hu rfl
      rw [hdir u hu, Port.pg_begin]
      refine ⟨PortDir.stopped_still _ _ _, PortDir.stopped_begun _ _ _, fun hruns hstop => ?_⟩
      rw [PortDir.stopped_fades _ _ _ hruns hstop]
      exact ⟨rfl, rfl, fun k hk => PortDir.fade_aimAll _ _ _ _ hk⟩
    case fadeEnd =>
      intro hstop hstate hfade
      refine completes_act (exec_portFadeEnd p tx s) hrun fun u hu => ?_
      rw [Port.fadeEnd_over (s := s.begin) hstop hstate hfade, Port.dir_mapDirs _ _ hu]
      rfl
    case fadeIdle => exact fun h => completes_act (exec_portFadeEnd p tx s) hrun (Port.fadeEnd_idle (s := s.begin) h)
    case leadout =>
      intro hstate hrate
      obtain ⟨hstake, hout, hdir⟩ := Port.leadoutEnd_over (s := s.begin) hstate hrate
      refine completes_act (exec_leadoutEnd p tx s) hrun ⟨hstake, hout, fun u hu => ?_⟩
      rw [hdir u hu]
      exact ⟨rfl, rfl, rfl⟩
    case leadoutIdle => exact fun h => completes_act (exec_leadoutEnd p tx s) hrun (Port.leadoutEnd_idle (s := s.begin) h)
    case maskOther => exact fun h => completes_act (exec_maskChangeApply p tx s) hrun (Port.maskApply_other (s := s.begin) tx h)
    case mask =>
      intro hserial
      obtain ⟨t, hexec, hothers, hother, hdir⟩ := completes_maskChangeApply hrun tx hserial
      exact ⟨t, hexec, hothers, hother, _, hdir.symm, rfl, fun k hk => ⟨PortDir.applied_set _ hk, PortDir.applied_clear _ hk⟩⟩
  case receiver =>
    rintro _ rfl
    refine ⟨fun h => completes_act (exec_receiverLock p s) hrun (Port.lock_idle (s := s.begin) h), fun hreceiver hunlocked => ?locks,
      fun h => completes_act (exec_receiverLockLoss p s) hrun (Port.lockLoss_idle (s := s.begin) h),
      fun h => completes_act (exec_receiverLockLoss p s) hrun (Port.lockLoss_facts (s := s.begin) hkind h)⟩
    case locks =>
      obtain ⟨hone, hlocked, hgroup⟩ := Port.lock_page (s := s.begin) hreceiver hunlocked
      refine completes_act (exec_receiverLock p s) hrun ⟨hlocked, hgroup, ?_, fun q hq => ?_, fun hwait => ?_, fun hwait hstill => ?_,
        fun hwait hstate hstop => ?_⟩
      · have hirq := hone.pages.read (fun u => u.rd (Reg.irqStatus p))
        exact (congrArg (bit · 1) hirq).trans (Port.lockNoted_irq s.begin p)
      · exact (hone.others q hq).trans (Port.lockNoted_others s.begin hq)
      · rw [Port.lock_leads (s := s.begin) hreceiver hunlocked hwait]
        exact ⟨rfl, rfl, rfl⟩
      · rw [Port.lock_stays (s := s.begin) hreceiver hunlocked hwait hstill, Port.pg_lockNoted]
        exact ⟨rfl, rfl⟩
      · rw [Port.lock_fades (s := s.begin) hreceiver hunlocked hwait hstate hstop]
        exact ⟨hstate, fun k hk => PortDir.fade_aimAll _ _ _ _ hk⟩

end Sys2Proof.Machine
end

section
/-!
PROOFS. What the engines of the sample-rate converters do at a lock and an unlock (R364, R365).
-/
namespace Sys2Proof.Machine

/-! ### A fold whose steps act on one index each -/

/-- A fold over different indices, seen where only index `k` acts: what it leaves there is what the step of `k` leaves, on a state that the
fold's other steps have not changed there. -/
theorem foldl_at {σ β : Type} {f : σ → Nat → σ} (kept : σ → Prop) (view : σ → β) {k : Nat} (hkept : ∀ s a, kept s → kept (f s a))
    (hview : ∀ s a, a ≠ k → view (f s a) = view s) {l : List Nat} (hl : l.Nodup) (hk : k ∈ l) {s : σ} (hs : kept s) :
    ∃ u, kept u ∧ view u = view s ∧ view (l.foldl f s) = view (f u k) := by
  induction l generalizing s with
  | nil => cases hk
  | cons a l ih =>
    obtain ⟨ha, hl⟩ := List.nodup_cons.mp hl
    rw [List.foldl_cons]
    by_cases hak : a = k
    · subst hak
      refine ⟨s, hs, rfl, ?_⟩
      exact List.foldlRecOn l f (motive := fun t => view t = view (f s a)) rfl fun t ht b hb =>
        (hview t b (fun h => ha (h ▸ hb))).trans ht
    · obtain ⟨u, hu, hsame, hend⟩ := ih hl ((List.mem_cons.mp hk).resolve_left (Ne.symm hak)) (hkept s a hs)
      exact ⟨u, hu, hsame.trans (hview s a hak), hend⟩

/-- Where no step of a fold acts, it changes nothing. -/
theorem foldl_apart {σ β : Type} {f : σ → Nat → σ} (view : σ → β) {k : Nat} (hview : ∀ s a, a ≠ k → view (f s a) = view s) {l : List Nat}
    (hk : k ∉ l) (s : σ) : view (l.foldl f s) = view s :=
  List.foldlRecOn l f (motive := fun t => view t = view s) rfl fun t ht a ha => (hview t a (fun h => hk (h ▸ ha))).trans ht

/-! ### The engines (R363) -/

@[simp] theorem Asrc.eng_setEng_same (s : State) (e : Nat) (x : AsrcEng) : Asrc.eng (Asrc.setEng s e x) e = x := Tab.get_set_same _ _ _ _

theorem Asrc.eng_setEng_ne (s : State) {e k : Nat} (x : AsrcEng) (h : k ≠ e) : Asrc.eng (Asrc.setEng s e x) k = Asrc.eng s k :=
  Tab.get_set_ne _ _ _ h

theorem Asrc.eng_fault (s : State) (p code k : Nat) : Asrc.eng (s.fault' p code) k = Asrc.eng s k := by
  unfold Asrc.eng
  rw [State.faultCode_port]

theorem Asrc.gang_nodup (s : State) (p : Nat) (tx : Bool) : (Asrc.gang s p tx).Nodup := List.nodup_range.filter _

theorem Asrc.gangOf_nodup (s : State) (e : Nat) : (Asrc.gangOf s e).Nodup := by
  unfold Asrc.gangOf
  split
  · exact List.nodup_nil
  · exact Asrc.gang_nodup s _ _

/-- From `s` to `t` only registers, the FAULT unit and the engines have changed. -/
def Asrc.enginesOnly (s t : State) : Prop :=
  t = { s with regs := t.regs, fault := t.fault, port := { s.port with asrc := t.port.asrc } }

namespace Asrc.enginesOnly

variable {s t u : State}

theorem refl (s : State) : Asrc.enginesOnly s s := rfl

theorem trans (hst : Asrc.enginesOnly s t) (htu : Asrc.enginesOnly t u) : Asrc.enginesOnly s u := by
  unfold Asrc.enginesOnly at hst htu ⊢
  rw [hst] at htu
  exact htu

theorem foldl {α : Type} {f : State → α → State} (h : ∀ s a, Asrc.enginesOnly s (f s a)) (l : List α) (s : State) :
    Asrc.enginesOnly s (l.foldl f s) :=
  List.foldlRecOn l f (motive := Asrc.enginesOnly s) (refl s) fun t ht a _ => ht.trans (h t a)

/-- What a function reads of the later state it reads of the earlier one with the later one's registers, FAULT unit and engines. -/
theorem read (h : Asrc.enginesOnly s t) {β : Type} (g : State → β) :
    g t = g { s with regs := t.regs, fault := t.fault, port := { s.port with asrc := t.port.asrc } } := congrArg g h

theorem fault (s : State) (p code : Nat) : Asrc.enginesOnly s (s.fault' p code) := by
  unfold Asrc.enginesOnly State.fault'
  rw [State.faultD_eq]

end Asrc.enginesOnly

/-- A register of another page than an engine's and FAULT's. -/
theorem State.rd_irq_fault_apart (s : State) {e a : Nat} (i code : Nat) (ha : a / 0x1000 ≠ e) (h7 : a / 0x1000 ≠ 7) :
    ((s.irq e i).fault' e code).rd a = s.rd a := by
  unfold State.fault'
  rw [State.faultD_ne, State.irq_ne]
  all_goals
    simp only [Reg.irqStatus, Reg.faultCause, Reg.faultCount, Reg.faultOverflow, ne_eq]
    omega

/-! ### An engine unlocks (R365) -/

theorem Asrc.unlockOne_only (s : State) (e code n : Nat) : Asrc.enginesOnly s (Asrc.unlockOne s e code n) := by
  unfold Asrc.unlockOne
  simp only []
  split
  · exact .refl s
  · exact .trans (show Asrc.enginesOnly s ((Asrc.setEng s e _).irq (Asrc.page e) 1) from rfl) (.fault _ _ _)

theorem Asrc.unlockOne_unlocked {s : State} {e : Nat} (code n : Nat) (h : (Asrc.eng s e).locked = false) : Asrc.unlockOne s e code n = s :=
  if_pos (by simp [h])

/-- An engine without lock from frame `n` on, with its fade to zero over `r` frames. -/
def AsrcEng.released (x : AsrcEng) (n r : Nat) : AsrcEng := { x with locked := false, fade := x.fade.aim n (n + r) 0 }

theorem Asrc.unlockOne_eq {s : State} {e : Nat} (code n : Nat) (h : (Asrc.eng s e).locked = true) : Asrc.unlockOne s e code n =
    ((Asrc.setEng s e ((Asrc.eng s e).released n (s.ms 5))).irq (Asrc.page e) 1).fault' (Asrc.page e) code := if_neg (by simp [h])

theorem Asrc.eng_unlockOne {s : State} {e : Nat} (code n : Nat) (h : (Asrc.eng s e).locked = true) :
    Asrc.eng (Asrc.unlockOne s e code n) e = (Asrc.eng s e).released n (s.ms 5) := by
  rw [Asrc.unlockOne_eq code n h, Asrc.eng_fault]
  exact Asrc.eng_setEng_same s e _

/-- A locked engine that unlocks raises bit 1 and records the code of what unlocked it. -/
theorem Asrc.unlockOne_reports {s : State} {e : Nat} {code : Nat} (n : Nat) (hcode : code < 256) (h : (Asrc.eng s e).locked = true) :
    bit ((Asrc.unlockOne s e code n).rd (Reg.irqStatus (Asrc.page e))) 1 = true ∧
    fld ((Asrc.unlockOne s e code n).rd (Reg.faultCause (Asrc.page e))) 7 0 = code := by
  rw [Asrc.unlockOne_eq code n h]
  exact ⟨State.bit_irq_faultD _ _ _ (by decide) (by unfold Asrc.page; omega), State.faultD_cause _ _ _ _ hcode⟩

theorem Asrc.unlockOne_ends (s : State) (e code n : Nat) : (Asrc.eng (Asrc.unlockOne s e code n) e).locked = false := by
  cases h : (Asrc.eng s e).locked with
  | false => rw [Asrc.unlockOne_unlocked code n h, h]
  | true => rw [Asrc.eng_unlockOne code n h]; rfl

theorem Asrc.unlockOne_others (s : State) {e k : Nat} (code n : Nat) (h : e ≠ k) : Asrc.eng (Asrc.unlockOne s e code n) k = Asrc.eng s k := by
  unfold Asrc.unlockOne
  simp only []
  split
  · rfl
  · rw [Asrc.eng_fault]
    exact Asrc.eng_setEng_ne s _ (Ne.symm h)

theorem Asrc.unlockOne_rd (s : State) {e a : Nat} (code n : Nat) (ha : a / 0x1000 ≠ Asrc.page e) (h7 : a / 0x1000 ≠ 7) :
    (Asrc.unlockOne s e code n).rd a = s.rd a := by
  unfold Asrc.unlockOne
  simp only []
  split
  · rfl
  · exact State.rd_irq_fault_apart _ 1 code ha h7

/-- Engine `k` and the registers of its page. -/
def Asrc.view (k : Nat) (s : State) : AsrcEng × (Fin 0x1000 → Word) := (Asrc.eng s k, fun o => s.rd (Asrc.page k * 0x1000 + o))

theorem Asrc.rd_of_view {s t : State} {k : Nat} (h : Asrc.view k t = Asrc.view k s) {a : Nat} (ha : a / 0x1000 = Asrc.page k) :
    t.rd a = s.rd a := by
  have hread := congrFun (congrArg Prod.snd h) ⟨a % 0x1000, Nat.mod_lt _ (by decide)⟩
  have haddr : Asrc.page k * 0x1000 + a % 0x1000 = a := by omega
  simpa only [Asrc.view, haddr] using hread

theorem Asrc.view_eq {s t : State} {k : Nat} (heng : Asrc.eng t k = Asrc.eng s k)
    (hrd : ∀ a, a / 0x1000 = Asrc.page k → t.rd a = s.rd a) : Asrc.view k t = Asrc.view k s :=
  Prod.ext heng (funext fun o => hrd _ (by omega))

theorem Asrc.unlockOne_view (s : State) {e k : Nat} (code n : Nat) (h : e ≠ k) :
    Asrc.view k (Asrc.unlockOne s e code n) = Asrc.view k s :=
  Asrc.view_eq (Asrc.unlockOne_others s code n h) fun _ ha => Asrc.unlockOne_rd s code n (by unfold Asrc.page at *; omega)
    (by unfold Asrc.page at *; omega)

/-- The frame of a lock and the rate are read off what an unlock leaves. -/
theorem Asrc.enginesOnly.lockFrame {s t : State} (h : Asrc.enginesOnly s t) : Asrc.lockFrame t = Asrc.lockFrame s := h.read Asrc.lockFrame

theorem Asrc.enginesOnly.ms {s t : State} (h : Asrc.enginesOnly s t) (m : Nat) : t.ms m = s.ms m := h.read (State.ms · m)

theorem Asrc.enginesOnly.isStandby {s t : State} (h : Asrc.enginesOnly s t) : t.isStandby = s.isStandby := h.read State.isStandby

/-! ### A gang unlocks (R365) -/

theorem Asrc.unlock_standby {s : State} (e : Nat) (range : Bool) (h : s.isStandby = true) : Asrc.unlock s e range = s := if_pos h

section Unlock

variable {s : State} (e : Nat) (range : Bool) (hactive : s.isStandby = false)
include hactive

theorem Asrc.unlock_eq : Asrc.unlock s e range =
    (Asrc.gangOf s e).foldl (fun t k => Asrc.unlockOne t k (if range then 0x82 else 0x81) (Asrc.lockFrame t)) s := if_neg (by simp [hactive])

/-- An engine outside the gang keeps its state. -/
theorem Asrc.unlock_apart {k : Nat} (h : k ∉ Asrc.gangOf s e) : Asrc.eng (Asrc.unlock s e range) k = Asrc.eng s k := by
  rw [Asrc.unlock_eq e range hactive]
  exact foldl_apart (Asrc.eng · k) (fun t a ha => Asrc.unlockOne_others t _ _ ha) h s

/-- An engine of the gang is left as its own unlock leaves it. -/
theorem Asrc.unlock_member {k : Nat} (h : k ∈ Asrc.gangOf s e) : ∃ u, Asrc.enginesOnly s u ∧ Asrc.eng u k = Asrc.eng s k ∧
    Asrc.view k (Asrc.unlock s e range) = Asrc.view k (Asrc.unlockOne u k (if range then 0x82 else 0x81) (Asrc.lockFrame s)) := by
  obtain ⟨u, hu, hsame, hend⟩ := foldl_at (Asrc.enginesOnly s) (Asrc.view k)
    (f := fun t k => Asrc.unlockOne t k (if range then 0x82 else 0x81) (Asrc.lockFrame t))
    (fun t a ht => ht.trans (Asrc.unlockOne_only t a _ _)) (fun t a ha => Asrc.unlockOne_view t _ _ ha) (Asrc.gangOf_nodup s e) h (.refl s)
  rw [hu.lockFrame] at hend
  rw [Asrc.unlock_eq e range hactive]
  exact ⟨u, hu, congrArg Prod.fst hsame, hend⟩

theorem Asrc.unlock_locked {k : Nat} (h : k ∈ Asrc.gangOf s e) (hlocked : (Asrc.eng s k).locked = true) :
    Asrc.eng (Asrc.unlock s e range) k = (Asrc.eng s k).released (Asrc.lockFrame s) (s.ms 5) ∧
    bit ((Asrc.unlock s e range).rd (Reg.irqStatus (Asrc.page k))) 1 = true ∧
    fld ((Asrc.unlock s e range).rd (Reg.faultCause (Asrc.page k))) 7 0 = if range then 0x82 else 0x81 := by
  obtain ⟨u, hu, hsame, hend⟩ := Asrc.unlock_member e range hactive h
  have hlocked' : (Asrc.eng u k).locked = true := by rw [hsame, hlocked]
  have hcode : (if range then 0x82 else 0x81) < 256 := by cases range <;> decide
  obtain ⟨hirq, hcause⟩ := Asrc.unlockOne_reports (Asrc.lockFrame s) hcode hlocked'
  refine ⟨?_, ?_, ?_⟩
  · rw [show Asrc.eng (Asrc.unlock s e range) k = _ from congrArg Prod.fst hend]
    exact (Asrc.eng_unlockOne _ _ hlocked').trans (by rw [hsame, hu.ms])
  · rw [Asrc.rd_of_view hend (by unfold Reg.irqStatus; omega)]
    exact hirq
  · rw [Asrc.rd_of_view hend (by unfold Reg.faultCause; omega)]
    exact hcause

theorem Asrc.unlock_unlocked {k : Nat} (hunlocked : (Asrc.eng s k).locked = false) : Asrc.eng (Asrc.unlock s e range) k = Asrc.eng s k := by
  by_cases h : k ∈ Asrc.gangOf s e
  · obtain ⟨u, -, hsame, hend⟩ := Asrc.unlock_member e range hactive h
    rw [Asrc.unlockOne_unlocked _ _ (by rw [hsame, hunlocked])] at hend
    exact (congrArg Prod.fst hend).trans hsame
  · exact Asrc.unlock_apart e range hactive h

end Unlock

/-! ### A gang locks (R364, R365) -/

/-- A locked engine: it fades in from frame `n` over `r` frames. -/
def AsrcEng.engaged (x : AsrcEng) (pos narrow n r : Nat) : AsrcEng :=
  { x with locked := true, pos := pos, narrowAt := narrow, fade := x.fade.aim n (n + r) one30 }

/-- What a lock at ratio `r` does to engine `k`. -/
def Asrc.lockOne (r pos n : Nat) (s : State) (k : Nat) : State :=
  if !s.unitOn (Asrc.page k) then s
  else
    (((Asrc.setEng s k ((Asrc.eng s k).engaged pos (s.clk.mono + secU) n (s.ms 20))).wr (Reg.asrcRatioLo k) (w32 r)).wr
      (Reg.asrcRatioHi k) (w32 (r / 2 ^ 32))).irq (Asrc.page k) 0

theorem Asrc.lockAt_eq (s : State) (e r pos n : Nat) : Asrc.lockAt s e r pos n = (Asrc.gangOf s e).foldl (Asrc.lockOne r pos n) s := rfl

/-- A lock leaves the FAULT unit. -/
theorem Asrc.lockOne_only (r pos n : Nat) (s : State) (k : Nat) :
    Asrc.enginesOnly s (Asrc.lockOne r pos n s k) ∧ (Asrc.lockOne r pos n s k).fault = s.fault := by
  unfold Asrc.lockOne
  split <;> exact ⟨rfl, rfl⟩

theorem Asrc.lockOne_view (r pos n : Nat) (s : State) {e k : Nat} (h : e ≠ k) :
    Asrc.view k (Asrc.lockOne r pos n s e) = Asrc.view k s := by
  unfold Asrc.lockOne
  split
  · rfl
  · refine Asrc.view_eq (Asrc.eng_setEng_ne s _ (Ne.symm h)) fun a ha => ?_
    rw [State.irq_ne, State.rd_wr_ne, State.rd_wr_ne]
    · rfl
    all_goals
      simp only [Asrc.page, Reg.irqStatus, Reg.asrcRatioLo, Reg.asrcRatioHi, ne_eq] at *
      omega

theorem Asrc.lockOne_off (r pos n : Nat) {s : State} {k : Nat} (h : s.unitOn (Asrc.page k) = false) : Asrc.lockOne r pos n s k = s :=
  if_pos (by simp [h])

theorem Asrc.lockOne_on (r pos n : Nat) {s : State} {k : Nat} (h : s.unitOn (Asrc.page k) = true) :
    Asrc.eng (Asrc.lockOne r pos n s k) k = (Asrc.eng s k).engaged pos (s.clk.mono + secU) n (s.ms 20) ∧
    (Asrc.lockOne r pos n s k).rd (Reg.asrcRatioLo k) = w32 r ∧ (Asrc.lockOne r pos n s k).rd (Reg.asrcRatioHi k) = w32 (r / 2 ^ 32) ∧
    bit ((Asrc.lockOne r pos n s k).rd (Reg.irqStatus (Asrc.page k))) 0 = true := by
  have hlo : Reg.asrcRatioLo k ≠ Reg.irqStatus (Asrc.page k) ∧ Reg.asrcRatioLo k ≠ Reg.asrcRatioHi k := by
    unfold Reg.asrcRatioLo Reg.asrcRatioHi Reg.irqStatus Asrc.page
    omega
  have hhi : Reg.asrcRatioHi k ≠ Reg.irqStatus (Asrc.page k) := by
    unfold Reg.asrcRatioHi Reg.irqStatus Asrc.page
    omega
  unfold Asrc.lockOne
  rw [if_neg (by simp [h])]
  refine ⟨Asrc.eng_setEng_same s k _, ?_, ?_, State.irq_bit _ _ _ (by decide)⟩
  · rw [State.irq_ne _ _ _ hlo.1, State.rd_wr_ne _ _ hlo.2, State.rd_wr_same]
  · rw [State.irq_ne _ _ _ hhi, State.rd_wr_same]

section Lock

variable (s : State) (e r pos n : Nat)

/-- An engine of the gang is left as its own lock leaves it. -/
theorem Asrc.lockAt_member {k : Nat} (h : k ∈ Asrc.gangOf s e) : ∃ u, Asrc.enginesOnly s u ∧ u.fault = s.fault ∧ Asrc.eng u k = Asrc.eng s k ∧
    Asrc.view k (Asrc.lockAt s e r pos n) = Asrc.view k (Asrc.lockOne r pos n u k) := by
  obtain ⟨u, ⟨hu, hfault⟩, hsame, hend⟩ := foldl_at (fun u => Asrc.enginesOnly s u ∧ u.fault = s.fault) (Asrc.view k)
    (f := Asrc.lockOne r pos n) (fun t a ht => ⟨ht.1.trans (Asrc.lockOne_only r pos n t a).1, (Asrc.lockOne_only r pos n t a).2.trans ht.2⟩)
    (fun t a ha => Asrc.lockOne_view r pos n t ha) (Asrc.gangOf_nodup s e) h ⟨.refl s, rfl⟩
  rw [Asrc.lockAt_eq]
  exact ⟨u, hu, hfault, congrArg Prod.fst hsame, hend⟩

theorem Asrc.unitOn_of_engines {s u : State} (hu : Asrc.enginesOnly s u) (hfault : u.fault = s.fault) (p : Nat) : u.unitOn p = s.unitOn p := by
  have hread := hu.read (State.unitOn · p)
  rw [hfault] at hread
  exact hread

theorem Asrc.lockAt_on {k : Nat} (h : k ∈ Asrc.gangOf s e) (hon : s.unitOn (Asrc.page k) = true) :
    Asrc.eng (Asrc.lockAt s e r pos n) k = (Asrc.eng s k).engaged pos (s.clk.mono + secU) n (s.ms 20) ∧
    (Asrc.lockAt s e r pos n).rd (Reg.asrcRatioLo k) = w32 r ∧ (Asrc.lockAt s e r pos n).rd (Reg.asrcRatioHi k) = w32 (r / 2 ^ 32) ∧
    bit ((Asrc.lockAt s e r pos n).rd (Reg.irqStatus (Asrc.page k))) 0 = true := by
  obtain ⟨u, hu, hfault, hsame, hend⟩ := Asrc.lockAt_member s e r pos n h
  obtain ⟨heng, hlo, hhi, hirq⟩ := Asrc.lockOne_on r pos n ((Asrc.unitOn_of_engines hu hfault (Asrc.page k)).trans hon)
  have hmono : u.clk.mono = s.clk.mono := hu.read (fun v => v.clk.mono)
  refine ⟨?_, ?_, ?_, ?_⟩
  · rw [show Asrc.eng (Asrc.lockAt s e r pos n) k = _ from congrArg Prod.fst hend]
    exact heng.trans (by rw [hsame, hmono, hu.ms])
  · rw [Asrc.rd_of_view hend (by unfold Reg.asrcRatioLo Asrc.page; omega), hlo]
  · rw [Asrc.rd_of_view hend (by unfold Reg.asrcRatioHi Asrc.page; omega), hhi]
  · rw [Asrc.rd_of_view hend (by unfold Reg.irqStatus; omega), hirq]

theorem Asrc.lockAt_apart {k : Nat} (h : k ∉ Asrc.gangOf s e ∨ s.unitOn (Asrc.page k) = false) :
    Asrc.eng (Asrc.lockAt s e r pos n) k = Asrc.eng s k := by
  by_cases hmem : k ∈ Asrc.gangOf s e
  · obtain ⟨u, hu, hfault, hsame, hend⟩ := Asrc.lockAt_member s e r pos n hmem
    have hoff := (Asrc.unitOn_of_engines hu hfault (Asrc.page k)).trans (h.resolve_left (not_not.mpr hmem))
    rw [Asrc.lockOne_off r pos n hoff] at hend
    exact (congrArg Prod.fst hend).trans hsame
  · rw [Asrc.lockAt_eq]
    exact congrArg Prod.fst (foldl_apart (Asrc.view k) (fun t a ha => Asrc.lockOne_view r pos n t ha) hmem s)

end Lock

section LockRow

variable {s : State} {e r : Nat} (hleader : Asrc.isLeader s e = true) (hon : s.unitOn (Asrc.page e) = true)
  (hunlocked : (Asrc.eng s e).locked = false) (hactive : s.isStandby = false)
include hleader hon hunlocked hactive

/-- A ratio beyond 1/8 to 8 keeps the gang unlocked. -/
theorem Asrc.lock_beyond (h : r < 2 ^ 37 ∨ 2 ^ 43 < r) : Asrc.lock s e r = s.fault' (Asrc.page e) 0x82 :=
  (if_neg (by simp [hleader, hon, hunlocked, hactive])).trans (if_pos h)

/-- A gang locks at an input sample index that no rule gives. -/
theorem Asrc.lock_within (hlow : 2 ^ 37 ≤ r) (hhigh : r ≤ 2 ^ 43) :
    Asrc.lock s e r = Asrc.lockAt s.drawFree.2 e r s.drawFree.1.toNat (Asrc.lockFrame s) :=
  (if_neg (by simp [hleader, hon, hunlocked, hactive])).trans (if_neg (by omega))

end LockRow

end Sys2Proof.Machine
end

section
/-!
PROOFS. Input frames and channel status (R341, R351, R353, R355, R356).
-/
namespace Sys2Proof.Machine

/-! ### Registers past a page's header -/

theorem Reg.plain_of {a : Nat} (hplace : 0x40 ≤ a % 0x1000) (hpage : a / 0x1000 ≠ 7) : Reg.plain a = true := by
  unfold Reg.plain Reg.faultOverflow
  simp only [Bool.and_eq_true, decide_eq_true_eq, bne_iff_ne, ne_eq]
  omega

/-- A count of none leaves a counter as it is. -/
theorem satAdd_zero (w : Word) : satAdd w 0 = w := by
  unfold satAdd satU w32
  rw [Nat.add_zero, if_pos w.isLt, BitVec.ofNat_toNat, BitVec.setWidth_eq]

theorem State.rd_count (s : State) (a n : Nat) : (s.count a n).rd a = satAdd (s.rd a) n := by
  unfold State.count
  split
  · rename_i h
    rw [h, satAdd_zero]
  · exact State.rd_wr_same _ _ _

theorem Port.pg_count (s : State) (a n q : Nat) : Port.pg (s.count a n) q = Port.pg s q := by
  unfold State.count
  split <;> rfl

/-! ### The buffer of four (R357) -/

/-- The page whose receiver has taken frame `f`. -/
def PortPg.pushed (x : PortPg) (f : InFrame) : PortPg :=
  { x with
    buf := (x.buf ++ [{ f with tag := x.nextTag }]).drop (x.buf.length - 3), lastIn := f.vals, nextTag := x.nextTag.map (· + 1)
    rx := { x.rx with frames := x.rx.frames + 1 } }

theorem Port.push_eq (s : State) (p : Nat) (f : InFrame) : Port.push s p f = Port.setPg s p ((Port.pg s p).pushed f) := by
  unfold Port.push PortPg.pushed
  simp only [List.length_append, List.length_singleton, Nat.add_sub_add_right _ 1 3]

@[simp] theorem Port.pg_push_same (s : State) (p : Nat) (f : InFrame) : Port.pg (Port.push s p f) p = (Port.pg s p).pushed f := by
  rw [Port.push_eq, Port.pg_setPg_same]

theorem Port.pg_push_ne (s : State) {p q : Nat} (f : InFrame) (h : q ≠ p) : Port.pg (Port.push s p f) q = Port.pg s q := by
  rw [Port.push_eq, Port.pg_setPg_ne s _ h]

theorem Port.rd_push (s : State) (p : Nat) (f : InFrame) (a : Nat) : (Port.push s p f).rd a = s.rd a := by
  rw [Port.push_eq]
  rfl

theorem PortPg.pushed_length (x : PortPg) (f : InFrame) : (x.pushed f).buf.length = min 4 (x.buf.length + 1) := by
  simp only [PortPg.pushed, List.length_drop, List.length_append, List.length_singleton]
  omega

/-! ### Serial frames (R341, R345) -/

/-- The frame that ends now with the slots' words. -/
def Port.serialFrame (s : State) (p : Nat) (words : List Nat) : InFrame :=
  { finish := if Port.leader (Port.pg s p) ∧ Port.rateCode s p false ≠ 0 then
      cdiv (s.clk.stake * rateHz (Port.rateCode s p false) / secU * secU) (rateHz (Port.rateCode s p false)) else s.clk.stake
    vals := (List.range (Port.slots (Port.pg s p))).map (fun k =>
      signed (Port.dataBits (Port.pg s p).fmt) (nth 0 words k) * 2 ^ (32 - Port.dataBits (Port.pg s p).fmt)) }

theorem Port.inputFrame_idle {s : State} {p : Nat} (words : List Nat) (h : s.pageUp p = false ∨ (Port.pg s p).rx.state = 0 ∨
    (Port.leader (Port.pg s p) = false ∧ (Port.pg s p).locked = false)) : Port.inputFrame s p words = s := by
  refine if_pos (.inr ?_)
  obtain hdown | hstopped | ⟨hfollows, hunlocked⟩ := h
  · exact .inl (by simp [hdown])
  · exact .inr (.inl hstopped)
  · exact .inr (.inr (by simp [hfollows, hunlocked]))

theorem Port.inputFrame_taken {s : State} {p : Nat} (hserial : Port.kind p = 1) (words : List Nat) (up : s.pageUp p = true)
    (hstate : (Port.pg s p).rx.state ≠ 0) (h : Port.leader (Port.pg s p) = true ∨ (Port.pg s p).locked = true) :
    Port.inputFrame s p words = Port.push s p (Port.serialFrame s p words) := if_neg (by obtain h | h := h <;> simp [hserial, up, hstate, h])

theorem Port.serialFrame_follower {s : State} {p : Nat} (words : List Nat) (h : Port.leader (Port.pg s p) = false) :
    (Port.serialFrame s p words).finish = s.clk.stake := if_neg (by simp [h])

/-! ### AES3 frames (R353) -/

section Aes

variable (s : State) (i : Nat)

/-- The sample of a subframe of AES3 input `i` on channel `k`. -/
def Port.aesSample (k : Nat) (f : Subframe) : Int :=
  (Port.subSample (bit (s.ef (Reg.aesRxCfg i)) 2) (bit (s.ef (Reg.aesRxCfg i)) 1) (nth 0 (Port.pg s (0x30 + i)).lastIn k) f).1

/-- The frame of two subframes. -/
def Port.aesPair (a b : Subframe) : InFrame :=
  { finish := s.clk.stake, vals := [Port.aesSample s i 0 a, Port.aesSample s i 1 b], aux := [(a.2.1, a.2.2.1), (b.2.1, b.2.2.1)] }

/-- The state with the frame of two subframes taken, and its parity and validity errors counted. -/
def Port.aesCounted (a b : Subframe) : State :=
  ((Port.push s (0x30 + i) (Port.aesPair s i a b)).count (Reg.aesParityCount i) (b2n a.2.2.2 + b2n b.2.2.2)).count (Reg.aesValidityCount i)
    (b2n (bit (s.ef (Reg.aesRxCfg i)) 1 && a.2.1) + b2n (bit (s.ef (Reg.aesRxCfg i)) 1 && b.2.1))

variable {s i}

theorem Port.aesCounted_page (a b : Subframe) :
    Port.pg (Port.aesCounted s i a b) (0x30 + i) = (Port.pg s (0x30 + i)).pushed (Port.aesPair s i a b) := by
  unfold Port.aesCounted
  rw [Port.pg_count, Port.pg_count, Port.pg_push_same]

theorem Port.aesCounted_counts (a b : Subframe) :
    (Port.aesCounted s i a b).rd (Reg.aesParityCount i) = satAdd (s.rd (Reg.aesParityCount i)) (b2n a.2.2.2 + b2n b.2.2.2) ∧
    (Port.aesCounted s i a b).rd (Reg.aesValidityCount i) = satAdd (s.rd (Reg.aesValidityCount i))
      (b2n (bit (s.ef (Reg.aesRxCfg i)) 1 && a.2.1) + b2n (bit (s.ef (Reg.aesRxCfg i)) 1 && b.2.1)) := by
  have hne : Reg.aesParityCount i ≠ Reg.aesValidityCount i := by
    unfold Reg.aesParityCount Reg.aesValidityCount
    omega
  unfold Port.aesCounted
  refine ⟨?_, ?_⟩
  · rw [State.count_ne _ _ hne, State.rd_count, Port.rd_push]
  · rw [State.rd_count, State.count_ne _ _ (Ne.symm hne), Port.rd_push]

/-- A sample is missing where its parity fails, or where its validity counts and is set; then the last one stands. -/
theorem Port.aesSample_eq (k w : Nat) (v u e : Bool) : Port.aesSample s i k (w, v, u, e) =
    if e = true ∨ (bit (s.ef (Reg.aesRxCfg i)) 1 = true ∧ v = true) then nth 0 (Port.pg s (0x30 + i)).lastIn k
    else signed 24 (if bit (s.ef (Reg.aesRxCfg i)) 2 = true then w / 16 * 16 else w) * 256 := by
  unfold Port.aesSample Port.subSample
  simp only []
  split <;> rfl

section Taken

variable (hi : i < 8) (hon : Port.isOn s (0x30 + i) false = true) (hlocked : (Port.pg s (0x30 + i)).locked = true)
  (hstate : (Port.pg s (0x30 + i)).rx.state ≠ 0) (a b : Subframe)
include hi hon hlocked hstate

theorem Port.aesFrame_eq : Port.aesFrame s i a b =
    if b2n a.2.2.2 + b2n b.2.2.2 = 0 then Port.aesCounted s i a b else (Port.aesCounted s i a b).fault' (0x30 + i) 0x81 :=
  if_neg (by simp [hi, hon, hlocked, hstate])

/-- The code of a parity error leaves the frame taken. -/
theorem Port.aesFrame_page : Port.pg (Port.aesFrame s i a b) (0x30 + i) = (Port.pg s (0x30 + i)).pushed (Port.aesPair s i a b) := by
  rw [Port.aesFrame_eq hi hon hlocked hstate, ← Port.aesCounted_page]
  split
  · rfl
  · exact Port.pg_fault _ _ _ _

theorem Port.rd_aesFrame {r : Nat} (hplain : Reg.plain r = true) : (Port.aesFrame s i a b).rd r = (Port.aesCounted s i a b).rd r := by
  rw [Port.aesFrame_eq hi hon hlocked hstate]
  split
  · rfl
  · exact State.rd_fault_plain hplain _ _ _

theorem Port.aesFrame_counts :
    (Port.aesFrame s i a b).rd (Reg.aesParityCount i) = satAdd (s.rd (Reg.aesParityCount i)) (b2n a.2.2.2 + b2n b.2.2.2) ∧
    (Port.aesFrame s i a b).rd (Reg.aesValidityCount i) = satAdd (s.rd (Reg.aesValidityCount i))
      (b2n (bit (s.ef (Reg.aesRxCfg i)) 1 && a.2.1) + b2n (bit (s.ef (Reg.aesRxCfg i)) 1 && b.2.1)) := by
  have hplain : Reg.plain (Reg.aesParityCount i) = true ∧ Reg.plain (Reg.aesValidityCount i) = true := by
    refine ⟨Reg.plain_of ?_ ?_, Reg.plain_of ?_ ?_⟩
    all_goals
      simp only [Reg.aesParityCount, Reg.aesValidityCount]
      omega
  rw [Port.rd_aesFrame hi hon hlocked hstate a b hplain.1, Port.rd_aesFrame hi hon hlocked hstate a b hplain.2]
  exact Port.aesCounted_counts a b

theorem Port.aesFrame_parity (hbad : a.2.2.2 = true ∨ b.2.2.2 = true) :
    fld ((Port.aesFrame s i a b).rd (Reg.faultCause (0x30 + i))) 7 0 = 0x81 := by
  have herrors : b2n a.2.2.2 + b2n b.2.2.2 ≠ 0 := by obtain h | h := hbad <;> simp [h, b2n]
  rw [Port.aesFrame_eq hi hon hlocked hstate, if_neg herrors]
  exact State.faultD_cause _ _ _ _ (by decide)

end Taken

end Aes

/-! ### Channel status (R351) -/

section ChannelStatus

variable (i : Nat) (b : Bool) (bytes : List Byte)

/-- Register `k` of the block of subframe A, or B. -/
def Port.csReg (k : Nat) : Nat := if b then Reg.aesRxCsb i k else Reg.aesRxCsa i k

/-- Word `k` of the block. -/
def Port.csWord (k : Nat) : Word := w32 (ofLe ((List.range 4).map (fun j => nth 0 bytes (4 * k + j))))

/-- The state with the block stored. -/
def Port.csStored (s : State) : State := (List.range 6).foldl (fun s k => s.wr (Port.csReg i b k) (Port.csWord bytes k)) s

theorem Port.csReg_place {k : Nat} (hk : k < 6) : Port.csReg i b k / 0x1000 = 0x30 + i ∧ 0xA0 ≤ Port.csReg i b k % 0x1000 ∧
    Port.csReg i b k % 0x1000 < 0xE0 := by
  unfold Port.csReg Reg.aesRxCsb Reg.aesRxCsa
  split <;> omega

theorem Port.csReg_ne {j k : Nat} (h : j ≠ k) : Port.csReg i b j ≠ Port.csReg i b k := by
  unfold Port.csReg Reg.aesRxCsb Reg.aesRxCsa
  split <;> omega

theorem Port.rd_csStored (s : State) {k : Nat} (hk : k < 6) : (Port.csStored i b bytes s).rd (Port.csReg i b k) = Port.csWord bytes k := by
  obtain ⟨u, -, -, hend⟩ := foldl_at (fun _ => True) (fun t : State => t.rd (Port.csReg i b k))
    (f := fun s k => s.wr (Port.csReg i b k) (Port.csWord bytes k)) (k := k) (fun _ _ _ => trivial)
    (fun t a ha => State.rd_wr_ne t _ (Port.csReg_ne i b (Ne.symm ha))) List.nodup_range (List.mem_range.mpr hk) (s := s) trivial
  exact hend.trans (State.rd_wr_same _ _ _)

theorem Port.rd_csStored_irq (s : State) (p : Nat) : (Port.csStored i b bytes s).rd (Reg.irqStatus p) = s.rd (Reg.irqStatus p) := by
  refine List.foldlRecOn (List.range 6) _ (motive := fun t : State => t.rd (Reg.irqStatus p) = s.rd (Reg.irqStatus p)) rfl fun t ht k hk => ?_
  have hplace := Port.csReg_place i b (List.mem_range.mp hk)
  rw [State.rd_wr_ne, ht]
  unfold Reg.irqStatus
  omega

variable {i b bytes} {s : State} (hi : i < 8) (hon : Port.isOn s (0x30 + i) false = true) (hlocked : (Port.pg s (0x30 + i)).locked = true)
include hi hon hlocked

/-- A professional block whose CRCC fails is counted and dropped. -/
theorem Port.csBlock_failed (hprof : (nth (0 : Byte) bytes 0).getLsbD 0 = true)
    (hcrcc : crcc ((List.range 23).map (nth 0 bytes)) ≠ (nth (0 : Byte) bytes 23).toNat) :
    Port.csBlock s i b bytes = ((s.count (Reg.aesCrccCount i) 1).irq (0x30 + i) 5).fault' (0x30 + i) 0x80 :=
  (if_neg (by simp [hi, hon, hlocked])).trans (if_pos ⟨hprof, hcrcc⟩)

theorem Port.csBlock_failed_facts (hprof : (nth (0 : Byte) bytes 0).getLsbD 0 = true)
    (hcrcc : crcc ((List.range 23).map (nth 0 bytes)) ≠ (nth (0 : Byte) bytes 23).toNat) :
    (Port.csBlock s i b bytes).rd (Reg.aesCrccCount i) = satAdd (s.rd (Reg.aesCrccCount i)) 1 ∧
    bit ((Port.csBlock s i b bytes).rd (Reg.irqStatus (0x30 + i))) 5 = true ∧
    fld ((Port.csBlock s i b bytes).rd (Reg.faultCause (0x30 + i))) 7 0 = 0x80 ∧
    ∀ k, k < 6 → (Port.csBlock s i b bytes).rd (Port.csReg i b k) = s.rd (Port.csReg i b k) := by
  have hcounter : Reg.aesCrccCount i / 0x1000 = 0x30 + i ∧ Reg.aesCrccCount i % 0x1000 = 0xE0 := by
    unfold Reg.aesCrccCount
    omega
  obtain ⟨hcount, hcause⟩ := State.discarded_facts s (p := 0x30 + i) (i := 5) (code := 0x80)
    (Reg.plain_of (a := Reg.aesCrccCount i) (by omega) (by omega)) (by decide)
  rw [Port.csBlock_failed hi hon hlocked hprof hcrcc]
  refine ⟨hcount, State.bit_irq_faultD _ _ _ (by decide) (by omega), hcause, fun k hk => ?_⟩
  have hplace := Port.csReg_place i b hk
  have hplain : Reg.plain (Port.csReg i b k) = true := Reg.plain_of (by omega) (by omega)
  rw [State.rd_fault_plain hplain, State.rd_irq_plain hplain, State.count_ne]
  intro heq
  omega

theorem Port.csBlock_holds (h : (nth (0 : Byte) bytes 0).getLsbD 0 = false ∨
    crcc ((List.range 23).map (nth 0 bytes)) = (nth (0 : Byte) bytes 23).toNat) :
    Port.csBlock s i b bytes = if (List.range 6).any (fun k => s.rd (Port.csReg i b k) != Port.csWord bytes k) then
      (Port.csStored i b bytes s).irq (0x30 + i) 6 else Port.csStored i b bytes s := by
  refine (if_neg (by simp [hi, hon, hlocked])).trans (if_neg ?_)
  rintro ⟨hprof, hfails⟩
  obtain hnot | hcrcc := h
  · rw [hnot] at hprof
    cases hprof
  · exact hfails hcrcc

/-- A block that holds is stored, with bit 6 where a word of it changes. -/
theorem Port.csBlock_stored (h : (nth (0 : Byte) bytes 0).getLsbD 0 = false ∨
    crcc ((List.range 23).map (nth 0 bytes)) = (nth (0 : Byte) bytes 23).toNat) :
    (∀ k, k < 6 → (Port.csBlock s i b bytes).rd (Port.csReg i b k) = Port.csWord bytes k) ∧
    ((∃ k, k < 6 ∧ s.rd (Port.csReg i b k) ≠ Port.csWord bytes k) → bit ((Port.csBlock s i b bytes).rd (Reg.irqStatus (0x30 + i))) 6 = true) ∧
    ((∀ k, k < 6 → s.rd (Port.csReg i b k) = Port.csWord bytes k) →
      (Port.csBlock s i b bytes).rd (Reg.irqStatus (0x30 + i)) = s.rd (Reg.irqStatus (0x30 + i))) := by
  rw [Port.csBlock_holds hi hon hlocked h]
  split
  · rename_i hany
    obtain ⟨j, hj, hdiffers⟩ := List.any_eq_true.mp hany
    refine ⟨fun k hk => ?_, fun _ => State.irq_bit _ _ _ (by decide), fun hsame => absurd (hsame j (List.mem_range.mp hj)) (by simpa using hdiffers)⟩
    have hplace := Port.csReg_place i b hk
    rw [State.irq_ne, Port.rd_csStored i b bytes s hk]
    unfold Reg.irqStatus
    omega
  · rename_i hnone
    refine ⟨fun k hk => Port.rd_csStored i b bytes s hk, ?_, fun _ => Port.rd_csStored_irq i b bytes s _⟩
    rintro ⟨k, hk, hdiffers⟩
    exact absurd (List.any_eq_true.mpr ⟨k, List.mem_range.mpr hk, by simpa using hdiffers⟩) hnone

end ChannelStatus

/-! ### MADI frames (R355, R356) -/

section Madi

variable (s : State) (i : Nat) (sub : List Subframe)

/-- Samples of the channels carried, where channel `k` is in subframe `sel k` and `last` are the samples before. -/
def Port.madiSamples (last : List Int) (sel : Nat → Nat) : List Int :=
  (Port.carried s (0x38 + i) false).map (fun k =>
    (Port.subSample false (s.efB (Reg.madiCfg i) 2) (nth 0 last k) (nth (0, false, false, false) sub (sel k))).1)

/-- The state with the samples of a link frame taken: one of each channel, or two at 88.2 and 96 kHz. -/
def Port.madiTaken : State :=
  let last := (Port.pg s (0x38 + i)).lastIn
  if 3 ≤ Port.rateCode s (0x38 + i) false then
    Port.push (Port.push s (0x38 + i)
        { finish := s.clk.stake - cdiv secU (rateHz (Port.rateCode s (0x38 + i) false)), vals := Port.madiSamples s i sub last (fun k => 2 * k) })
      (0x38 + i) { finish := s.clk.stake
                   vals := Port.madiSamples s i sub (Port.madiSamples s i sub last (fun k => 2 * k)) (fun k => 2 * k + 1) }
  else Port.push s (0x38 + i) { finish := s.clk.stake, vals := Port.madiSamples s i sub last id }

/-- Parity errors in the subframes that carry samples. -/
def Port.madiParity : Nat :=
  let chs := Port.carried s (0x38 + i) false
  let used := if 3 ≤ Port.rateCode s (0x38 + i) false then chs.flatMap (fun k => [2 * k, 2 * k + 1]) else chs
  (used.filter (fun j => (nth (0, false, false, false) sub j).2.2.2)).length

variable {s i} (hi : i < 4) (hon : Port.isOn s (0x38 + i) false = true) (hlocked : (Port.pg s (0x38 + i)).locked = true)
  (hstate : (Port.pg s (0x38 + i)).rx.state ≠ 0) (hmadi : Port.madiInactive s (0x38 + i) false = false)

include hi hon hlocked hstate hmadi in
theorem Port.madiFrame_eq : Port.madiFrame s i sub =
    if Port.madiParity s i sub = 0 then (Port.madiTaken s i sub).count (Reg.madiParityCount i) (Port.madiParity s i sub)
    else ((Port.madiTaken s i sub).count (Reg.madiParityCount i) (Port.madiParity s i sub)).fault' (0x38 + i) 0x81 :=
  if_neg (by simp [hi, hon, hlocked, hstate, hmadi])

include hi hon hlocked hstate hmadi in
/-- A link frame's parity errors change no page. -/
theorem Port.pg_madiFrame (q : Nat) : Port.pg (Port.madiFrame s i sub) q = Port.pg (Port.madiTaken s i sub) q := by
  rw [Port.madiFrame_eq sub hi hon hlocked hstate hmadi]
  split
  · exact Port.pg_count _ _ _ q
  · exact (Port.pg_fault _ _ _ q).trans (Port.pg_count _ _ _ q)

theorem Port.madiTaken_one (h : Port.rateCode s (0x38 + i) false < 3) : Port.madiTaken s i sub = Port.push s (0x38 + i)
    { finish := s.clk.stake, vals := Port.madiSamples s i sub (Port.pg s (0x38 + i)).lastIn id } := if_neg (by omega)

theorem Port.madiTaken_two (h : 3 ≤ Port.rateCode s (0x38 + i) false) : ∃ f g : InFrame,
    f.vals = Port.madiSamples s i sub (Port.pg s (0x38 + i)).lastIn (fun k => 2 * k) ∧
    g.vals = Port.madiSamples s i sub f.vals (fun k => 2 * k + 1) ∧
    Port.madiTaken s i sub = Port.push (Port.push s (0x38 + i) f) (0x38 + i) g := ⟨_, _, rfl, rfl, if_pos h⟩

theorem Port.madiTaken_others {q : Nat} (h : q ≠ 0x38 + i) : Port.pg (Port.madiTaken s i sub) q = Port.pg s q := by
  unfold Port.madiTaken
  simp only []
  split
  · rw [Port.pg_push_ne _ _ h, Port.pg_push_ne _ _ h]
  · rw [Port.pg_push_ne _ _ h]

theorem Port.madiTaken_length : (Port.pg (Port.madiTaken s i sub) (0x38 + i)).buf.length =
    min 4 ((Port.pg s (0x38 + i)).buf.length + if 3 ≤ Port.rateCode s (0x38 + i) false then 2 else 1) := by
  by_cases h : 3 ≤ Port.rateCode s (0x38 + i) false
  · obtain ⟨f, g, -, -, htaken⟩ := Port.madiTaken_two sub h
    rw [htaken, Port.pg_push_same, Port.pg_push_same, PortPg.pushed_length, PortPg.pushed_length, if_pos h]
    omega
  · rw [Port.madiTaken_one sub (by omega), Port.pg_push_same, PortPg.pushed_length, if_neg h]

end Madi

end Sys2Proof.Machine
end

section
/-!
PROOFS. Output frames (R345), the rate meter (R360, R361) and host audio (R370, R371).
-/
namespace Sys2Proof.Machine

/-! ### Converted samples (R365) -/

/-- The step of a converter changes no lock, no fade and no FAULT. -/
theorem Asrc.step_kept (s : State) (p : Nat) (tx : Bool) (n : Nat) : Asrc.enginesOnly s (Asrc.step s p tx n) ∧
    (Asrc.step s p tx n).fault = s.fault ∧ ∀ e, (Asrc.eng (Asrc.step s p tx n) e).locked = (Asrc.eng s e).locked ∧
      (Asrc.eng (Asrc.step s p tx n) e).fade = (Asrc.eng s e).fade := by
  unfold Asrc.step
  simp only []
  split
  · exact ⟨.refl s, rfl, fun _ => ⟨rfl, rfl⟩⟩
  · refine List.foldlRecOn (motive := fun t => Asrc.enginesOnly s t ∧ t.fault = s.fault ∧
      ∀ e, (Asrc.eng t e).locked = (Asrc.eng s e).locked ∧ (Asrc.eng t e).fade = (Asrc.eng s e).fade) _ _
      ⟨.refl s, rfl, fun _ => ⟨rfl, rfl⟩⟩ fun t ⟨honly, hfault, heng⟩ k _ => ?_
    split
    · refine ⟨honly.trans rfl, hfault, fun e => ?_⟩
      by_cases he : e = k
      · subst he
        rw [Asrc.eng_setEng_same]
        exact heng e
      · rw [Asrc.eng_setEng_ne t _ he]
        exact heng e
    · exact ⟨honly, hfault, heng⟩

theorem Asrc.gives_step (s : State) (p : Nat) (tx : Bool) (e n : Nat) : Asrc.gives (Asrc.step s p tx n) e n = Asrc.gives s e n := by
  obtain ⟨honly, hfault, heng⟩ := Asrc.step_kept s p tx n
  obtain ⟨hlocked, hfade⟩ := heng e
  unfold Asrc.gives
  rw [Asrc.unitOn_of_engines honly hfault, hlocked, hfade]

theorem Asrc.cover_step (s : State) (p : Nat) (tx : Bool) (k n : Nat) : Asrc.cover (Asrc.step s p tx n) p tx k = Asrc.cover s p tx k :=
  (Asrc.step_kept s p tx n).1.read (Asrc.cover · p tx k)

/-- No engine gives channel `k` of the direction a signal in frame `n`. -/
def Port.silent (s : State) (p : Nat) (tx : Bool) (n k : Nat) : Prop := ∀ e, Asrc.cover s p tx k = some e → Asrc.gives s e n = false

/-- The conversion of one channel more. -/
def Port.convertOne (s : State) (p : Nat) (tx : Bool) (n : Nat) (r : List Int × State) (k : Nat) : List Int × State :=
  match Asrc.cover s p tx k with
  | none => (r.1 ++ [0], r.2)
  | some e =>
    if Asrc.gives s e n then (r.1 ++ [satS 32 (rnd 30 (r.2.drawSample.1 * ((Asrc.eng s e).fade).at n))], r.2.drawSample.2)
    else (r.1 ++ [0], r.2)

theorem Port.convert_eq (s : State) (p : Nat) (tx : Bool) (n : Nat) :
    Port.convert s p tx n = (List.range (Port.chans p)).foldl (Port.convertOne s p tx n) ([], s) := rfl

/-- One channel more is one sample more, zero where no engine gives a signal; and nothing changes but the free values drawn. -/
theorem Port.convertOne_adds (s : State) (p : Nat) (tx : Bool) (n : Nat) (r : List Int × State) (k : Nat) :
    ∃ v c, Port.convertOne s p tx n r k = (r.1 ++ [v], { r.2 with freeCtr := c }) ∧ (Port.silent s p tx n k → v = 0) := by
  unfold Port.convertOne
  cases hcover : Asrc.cover s p tx k with
  | none => exact ⟨0, r.2.freeCtr, rfl, fun _ => rfl⟩
  | some e =>
    simp only []
    by_cases hgives : Asrc.gives s e n = true
    · rw [if_pos hgives]
      exact ⟨_, _, rfl, fun hsilent => absurd ((hsilent e hcover).symm.trans hgives) (by decide)⟩
    · rw [if_neg hgives]
      exact ⟨0, r.2.freeCtr, rfl, fun _ => rfl⟩

theorem Port.convert_facts (s : State) (p : Nat) (tx : Bool) (n : Nat) : (Port.convert s p tx n).1.length = Port.chans p ∧
    (∃ c, (Port.convert s p tx n).2 = { s with freeCtr := c }) ∧
    ∀ k, k < Port.chans p → Port.silent s p tx n k → nth 0 (Port.convert s p tx n).1 k = 0 := by
  rw [Port.convert_eq]
  generalize Port.chans p = m
  induction m with
  | zero => exact ⟨rfl, ⟨s.freeCtr, rfl⟩, fun k hk => absurd hk (Nat.not_lt_zero k)⟩
  | succ m ih =>
    obtain ⟨hlength, ⟨c, hstate⟩, hzero⟩ := ih
    rw [List.range_succ, List.foldl_append, List.foldl_cons, List.foldl_nil]
    generalize (List.range m).foldl (Port.convertOne s p tx n) ([], s) = r at hlength hstate hzero
    obtain ⟨v, c', hone, hv⟩ := Port.convertOne_adds s p tx n r m
    rw [hone]
    refine ⟨by simp [hlength], ⟨c', by rw [hstate]⟩, fun k hk hsilent => ?_⟩
    by_cases hkm : k < m
    · exact (List.getD_append r.1 [v] 0 k (hlength ▸ hkm)).trans (hzero k hkm hsilent)
    · obtain rfl : k = m := by omega
      calc nth 0 (r.1 ++ [v]) k = [v].getD (k - r.1.length) 0 := List.getD_append_right _ _ _ _ (by omega)
        _ = v := by rw [hlength, Nat.sub_self, List.getD_cons_zero]
        _ = 0 := hv hsilent

/-! ### Output frames (R345) -/

theorem Port.outBits_cases (s : State) (p : Nat) : Port.outBits s p ∈ [16, 20, 24, 32] := by
  unfold Port.outBits Port.dataBits bitsOf
  split_ifs <;> decide

/-- Silence stays silence at every word length. -/
theorem roundTo_zero {b : Nat} (h : b ∈ [16, 20, 24, 32]) : roundTo b 0 = 0 := by
  have hall : ∀ b ∈ [16, 20, 24, 32], roundTo b 0 = 0 := by decide
  exact hall b h

theorem Port.present_page {s : State} {p : Nat} (v : List Int) (aux : List (Bool × Bool)) (hstate : (Port.pg s p).tx.state ≠ 0)
    (hmadi : Port.madiInactive s p true = false) :
    Port.OnePage p s (Port.present s p v aux) ∧ (Port.pg (Port.present s p v aux) p).outPin = v := by
  unfold Port.present
  simp only []
  rw [if_neg (by simp [hstate, hmadi])]
  split
  all_goals
    refine ⟨.setPg s p _, ?_⟩
    rw [Port.pg_setPg_same]

theorem Port.outputFrame_idle {s : State} {p : Nat} (h : Port.kind p = 0 ∨ (Port.pg s p).tx.state = 0) : Port.outputFrame s p = s := if_pos h

section Output

variable {s : State} {p : Nat} (hkind : Port.kind p ≠ 0) (hstate : (Port.pg s p).tx.state ≠ 0)
include hkind hstate

theorem Port.outputFrame_eq : Port.outputFrame s p =
    if Port.converted s p true = true then
      Port.present (Port.convert (Asrc.step s p true s.clk.frame) p true s.clk.frame).2 p
        (if (Port.pg s p).tx.state = 2 then
          (Port.convert (Asrc.step s p true s.clk.frame) p true s.clk.frame).1.map (roundTo (Port.outBits s p)) else []) []
    else if Port.ownClock (Port.pg s p) p true = true then s
    else Port.present s p (Port.pg s p).outStd [] := if_neg (by simp [hkind, hstate])

/-- An output that runs on the ticks has no frame of its own. -/
theorem Port.outputFrame_ticked (hplain : Port.converted s p true = false) (hown : Port.ownClock (Port.pg s p) p true = true) :
    Port.outputFrame s p = s := by
  rw [Port.outputFrame_eq hkind hstate, if_neg (by simp [hplain]), if_pos hown]

/-- A follower is a serial port, and presents what Standard outputs do. -/
theorem Port.outputFrame_follower (hplain : Port.converted s p true = false) (hown : Port.ownClock (Port.pg s p) p true = false) :
    Port.outputFrame s p = Port.setPg s p { Port.pg s p with outPin := (Port.pg s p).outStd, auxPin := [] } := by
  have hserial : Port.kind p = 1 := by
    by_contra hother
    unfold Port.ownClock at hown
    rw [if_neg hother] at hown
    cases hown
  rw [Port.outputFrame_eq hkind hstate, if_neg (by simp [hplain]), if_neg (by simp [hown])]
  unfold Port.present
  simp only []
  rw [if_neg (by simp [hstate, Port.madiInactive, hserial]), if_neg (by simp [hserial])]

/-- A converted direction presents a sample of each channel while it runs, zero where no engine gives a signal, and before that none. -/
theorem Port.outputFrame_converted (hconv : Port.converted s p true = true) (hmadi : Port.madiInactive s p true = false) :
    ((Port.pg s p).tx.state ≠ 2 → (Port.pg (Port.outputFrame s p) p).outPin = []) ∧
    ((Port.pg s p).tx.state = 2 → (Port.pg (Port.outputFrame s p) p).outPin.length = Port.chans p ∧
      ∀ k, k < Port.chans p → Port.silent s p true s.clk.frame k → nth 0 (Port.pg (Port.outputFrame s p) p).outPin k = 0) ∧
    ∀ q, q ≠ p → Port.pg (Port.outputFrame s p) q = Port.pg s q := by
  have hstep := (Asrc.step_kept s p true s.clk.frame).1
  obtain ⟨hlength, ⟨c, hdrawn⟩, hzero⟩ := Port.convert_facts (Asrc.step s p true s.clk.frame) p true s.clk.frame
  have hpages : ∀ q, Port.pg (Port.convert (Asrc.step s p true s.clk.frame) p true s.clk.frame).2 q = Port.pg s q := fun q => by
    rw [hdrawn]
    exact hstep.read (Port.pg · q)
  have hmadi' : Port.madiInactive (Port.convert (Asrc.step s p true s.clk.frame) p true s.clk.frame).2 p true = false := by
    rw [hdrawn, ← hmadi]
    exact hstep.read (Port.madiInactive · p true)
  have hsilent : ∀ k, Port.silent s p true s.clk.frame k → Port.silent (Asrc.step s p true s.clk.frame) p true s.clk.frame k := by
    intro k h e hcover
    rw [Asrc.cover_step] at hcover
    rw [Asrc.gives_step]
    exact h e hcover
  rw [Port.outputFrame_eq hkind hstate, if_pos hconv]
  obtain ⟨hone, hpin⟩ := Port.present_page (s := (Port.convert (Asrc.step s p true s.clk.frame) p true s.clk.frame).2) (p := p)
    (if (Port.pg s p).tx.state = 2 then
      (Port.convert (Asrc.step s p true s.clk.frame) p true s.clk.frame).1.map (roundTo (Port.outBits s p)) else [])
    [] (by rw [hpages]; exact hstate) hmadi'
  rw [hpin]
  refine ⟨fun hrest => if_neg hrest, fun hruns => ?_, fun q hq => (hone.others q hq).trans (hpages q)⟩
  rw [if_pos hruns]
  refine ⟨by rw [List.length_map, hlength], fun k hk hnone => ?_⟩
  have hk' := hzero k hk (hsilent k hnone)
  have hrounds := roundTo_zero (Port.outBits_cases s p)
  unfold nth at hk' ⊢
  rw [List.getD_eq_getElem _ _ (by rw [hlength]; exact hk)] at hk'
  rw [List.getD_eq_getElem _ _ (by rw [List.length_map, hlength]; exact hk), List.getElem_map, hk', hrounds]

end Output

/-! ### The rate meter (R360, R361) -/

/-- The figure of a page: a leader's is its own rate. -/
def Port.figure (s : State) (p cnt t0 t1 : Nat) : Nat :=
  if Port.kind p = 1 ∧ Port.leader (Port.pg s p) = true then
    (if (Port.pg s p).tx.state = 0 then 0 else rateHz (Port.rateCode s p false) * 1000)
  else s.measuredMhz cnt t0 t1

/-- The state with figure and class in their registers. -/
def Port.figured (s : State) (p mhz : Nat) : State :=
  (s.wr (Port.reg p 0x68) (w32 (satU 32 mhz))).wr (Port.reg p 0x6C) (w32 (rateClassOf mhz + 8 * b2n (offNominal mhz (rateClassOf mhz))))

/-- The unlock of an engine at a change of class, on a member of a pair that is not the standby. -/
def Asrc.unlockActive (s : State) (e : Nat) : State := if s.isStandby then s else Asrc.unlockOne s e 0x81 (Asrc.lockFrame s)

/-- The state after a change of class. -/
def Port.reclassed (s : State) (p mhz : Nat) : State :=
  (Asrc.gang (Port.figured s p mhz) p false).foldl Asrc.unlockActive ((Port.figured s p mhz).irq p 0)

theorem Port.measure_idle {s : State} {p : Nat} (cnt t0 t1 : Nat) (h : Port.kind p = 0 ∨ Port.isOn s p false = false) :
    Port.measure s p cnt t0 t1 = s := if_pos (by simpa using h)

theorem Port.measure_eq {s : State} {p : Nat} (cnt t0 t1 : Nat) (hkind : Port.kind p ≠ 0) (hon : Port.isOn s p false = true) :
    Port.measure s p cnt t0 t1 =
      if rateClassOf (Port.figure s p cnt t0 t1) = s.rdF (Port.reg p 0x6C) 2 0 then Port.figured s p (Port.figure s p cnt t0 t1)
      else Port.reclassed s p (Port.figure s p cnt t0 t1) := if_neg (by simp [hkind, hon])

theorem Port.rd_figured (s : State) (p mhz : Nat) : (Port.figured s p mhz).rd (Port.reg p 0x68) = w32 (satU 32 mhz) ∧
    (Port.figured s p mhz).rd (Port.reg p 0x6C) = w32 (rateClassOf mhz + 8 * b2n (offNominal mhz (rateClassOf mhz))) ∧
    (Port.figured s p mhz).rd (Reg.irqStatus p) = s.rd (Reg.irqStatus p) := by
  have hne : Port.reg p 0x68 ≠ Port.reg p 0x6C ∧ Reg.irqStatus p ≠ Port.reg p 0x6C ∧ Reg.irqStatus p ≠ Port.reg p 0x68 := by
    unfold Port.reg Reg.irqStatus
    omega
  obtain ⟨hfigure, hclass, hrate⟩ := hne
  unfold Port.figured
  exact ⟨(State.rd_wr_ne _ _ hfigure).trans (State.rd_wr_same _ _ _), State.rd_wr_same _ _ _,
    (State.rd_wr_ne _ _ hclass).trans (State.rd_wr_ne _ _ hrate)⟩

theorem Asrc.unlockActive_only (s : State) (e : Nat) : Asrc.enginesOnly s (Asrc.unlockActive s e) := by
  unfold Asrc.unlockActive
  split
  · exact .refl s
  · exact Asrc.unlockOne_only s e _ _

/-- The unlocks leave the registers of a port's page. -/
theorem Port.rd_reclassed (s : State) {p : Nat} (hkind : Port.kind p ≠ 0) (mhz : Nat) {a : Nat} (ha : a / 0x1000 = p) :
    (Port.reclassed s p mhz).rd a = ((Port.figured s p mhz).irq p 0).rd a := by
  have hrange := Port.kind_range hkind
  refine List.foldlRecOn _ _ (motive := fun t : State => t.rd a = ((Port.figured s p mhz).irq p 0).rd a) rfl fun t ht e _ => ?_
  unfold Asrc.unlockActive
  split
  · exact ht
  · rw [Asrc.unlockOne_rd t _ _ (by unfold Asrc.page; omega) (by omega), ht]

theorem Port.reclassed_unlocked {s : State} (p mhz : Nat) (hactive : s.isStandby = false) {e : Nat} (he : e ∈ Asrc.gang s p false) :
    (Asrc.eng (Port.reclassed s p mhz) e).locked = false := by
  have hmoves : ∀ (t : State) a, a ≠ e → (Asrc.eng (Asrc.unlockActive t a) e).locked = (Asrc.eng t e).locked := fun t a ha => by
    unfold Asrc.unlockActive
    split
    · rfl
    · rw [Asrc.unlockOne_others t _ _ ha]
  obtain ⟨u, hu, -, hend⟩ := foldl_at (Asrc.enginesOnly s) (fun t => (Asrc.eng t e).locked) (f := Asrc.unlockActive)
    (fun t a ht => ht.trans (Asrc.unlockActive_only t a)) hmoves (Asrc.gang_nodup (Port.figured s p mhz) p false)
    (show e ∈ Asrc.gang (Port.figured s p mhz) p false from he) (s := (Port.figured s p mhz).irq p 0) rfl
  refine hend.trans ?_
  unfold Asrc.unlockActive
  rw [if_neg (by simp [hu.isStandby, hactive])]
  exact Asrc.unlockOne_ends u e _ _

/-- STAKE is no port's page. -/
theorem Port.kind_ne_stake {p : Nat} (h : Port.kind p ≠ 0) : p ≠ Stake.page := by
  have := Port.kind_range h
  unfold Stake.page
  omega

theorem rateHz_lt (code : Nat) : rateHz code * 1000 < 2 ^ 32 := by
  unfold rateHz
  split <;> decide

theorem Stake.wclkMeasure_up {s : State} (cnt t0 t1 : Nat) (up : s.pageUp Stake.page = true) :
    Stake.wclkMeasure s cnt t0 t1 = s.wr Reg.stakeWclkInMhz (w32 (satU 32 (s.measuredMhz cnt t0 t1))) := if_neg (by simp [up])

/-- What a measurement leaves in the registers of a port's page, whether the class changes or not. -/
theorem Port.measure_registers {s : State} {p : Nat} (cnt t0 t1 : Nat) (hkind : Port.kind p ≠ 0) (hon : Port.isOn s p false = true) :
    (Port.measure s p cnt t0 t1).rd (Port.reg p 0x68) = w32 (satU 32 (Port.figure s p cnt t0 t1)) ∧
    (Port.measure s p cnt t0 t1).rd (Port.reg p 0x6C) = w32 (rateClassOf (Port.figure s p cnt t0 t1) +
      8 * b2n (offNominal (Port.figure s p cnt t0 t1) (rateClassOf (Port.figure s p cnt t0 t1)))) := by
  obtain ⟨hfigure, hclass, -⟩ := Port.rd_figured s p (Port.figure s p cnt t0 t1)
  have hne : Port.reg p 0x68 ≠ Reg.irqStatus p ∧ Port.reg p 0x6C ≠ Reg.irqStatus p := by
    unfold Port.reg Reg.irqStatus
    omega
  rw [Port.measure_eq cnt t0 t1 hkind hon]
  split
  · exact ⟨hfigure, hclass⟩
  · rw [Port.rd_reclassed s hkind _ (by unfold Port.reg; omega), Port.rd_reclassed s hkind _ (by unfold Port.reg; omega),
      State.irq_ne _ _ _ hne.1, State.irq_ne _ _ _ hne.2]
    exact ⟨hfigure, hclass⟩

/-! ### Host audio (R370, R371) -/

theorem HostAud.read_idle {s : State} (data : List Byte) (h : HostAud.active s false = false ∨ s.rateOn = false) :
    HostAud.read s data = s := if_pos (by simpa using h)

/-- The host's bytes of output frame `n`. -/
def HostAud.outBytes (s : State) (n : Nat) (v : List Int) : List Byte :=
  leBytes 8 n ++ List.replicate 8 0 ++ (List.range (HostAud.channels s true)).flatMap (fun j => leBytes 4 (unsigned 32 (nth 0 v j)))

/-- The state with output frame `n` stored, or handed to the host. -/
def HostAud.stored (s : State) (n : Nat) (v : List Int) : State :=
  if HostAud.inHost s true then
    { s with ctl := { s.ctl with hostWrites := s.ctl.hostWrites ++ [(HostAud.slotAddr s true n, HostAud.outBytes s n v)] } }
  else s.stN (HostAud.slotAddr s true n) (HostAud.outBytes s n v)

/-- The state with the frames `l` left to write. -/
def HostAud.waiting (s : State) (l : List (Nat × List Int)) : State := { s with port := { s.port with hostPend := l } }

theorem HostAud.done_none {s : State} (err : Bool) (h : s.port.hostPend = []) : HostAud.done s err = s := by
  unfold HostAud.done
  rw [h]

section Done

variable {s : State} {n : Nat} {v : List Int} {rest : List (Nat × List Int)} (h : s.port.hostPend = (n, v) :: rest)
include h

theorem HostAud.done_error : HostAud.done s true = ((HostAud.waiting s []).wr Reg.hostAudStatus 1).fault' 1 0x80 := by
  unfold HostAud.done
  rw [h]
  rfl

theorem HostAud.done_written : HostAud.done s false =
    (HostAud.stored (HostAud.waiting s rest) n v).wr64 Reg.hostAudOutPosLo Reg.hostAudOutPosHi n := by
  unfold HostAud.done
  rw [h]
  rfl

end Done

/-- A frame goes to the host, or to the memory at its slot. -/
theorem HostAud.stored_facts (s : State) (n : Nat) (v : List Int) : (HostAud.stored s n v).port = s.port ∧
    (HostAud.inHost s true = true →
      (HostAud.stored s n v).ctl.hostWrites = s.ctl.hostWrites ++ [(HostAud.slotAddr s true n, HostAud.outBytes s n v)] ∧
      ∀ a, (HostAud.stored s n v).ld8 a = s.ld8 a) ∧
    (HostAud.inHost s true = false → (HostAud.stored s n v).ctl.hostWrites = s.ctl.hostWrites ∧ ∀ a, (HostAud.stored s n v).ld8 a =
      if HostAud.slotAddr s true n ≤ a ∧ a < HostAud.slotAddr s true n + (HostAud.outBytes s n v).length then
        (HostAud.outBytes s n v).getD (a - HostAud.slotAddr s true n) 0 else s.ld8 a) := by
  unfold HostAud.stored
  cases hhost : HostAud.inHost s true with
  | true => exact ⟨rfl, fun _ => ⟨rfl, fun _ => rfl⟩, fun h => absurd h (by decide)⟩
  | false =>
    have honly := State.stN_only (HostAud.outBytes s n v) s (HostAud.slotAddr s true n)
    have hport : (s.stN (HostAud.slotAddr s true n) (HostAud.outBytes s n v)).port = s.port := by rw [honly]
    have hctl : (s.stN (HostAud.slotAddr s true n) (HostAud.outBytes s n v)).ctl = s.ctl := by rw [honly]
    rw [if_neg Bool.false_ne_true]
    exact ⟨hport, fun h => absurd h (by decide), fun _ => ⟨by rw [hctl], State.ld8_stN _ s _⟩⟩

end Sys2Proof.Machine
end

section
/-!
PROOFS. The statement on the rows that bring and take frames, measure rates, convert them and move host audio (R341 to R371).
-/
namespace Sys2Proof.Machine

/-! ### One row each -/

section Rows

variable {s : State} (hrun : s.running = true) {P : State → Prop}
include hrun

/-- RATE_MEASURE on a port's page. -/
theorem completes_rateMeasure {p cnt t0 t1 : Nat} (hpage : p ≠ Stake.page) (h : P (Port.measure s.begin p cnt t0 t1)) :
    Completes (.rateMeasure p cnt t0 t1) s P :=
  completes_act (exec_rateMeasure p cnt t0 t1 s) hrun (by rwa [if_neg hpage])

theorem completes_rateMeasure_stake {cnt t0 t1 : Nat} (h : P (Stake.wclkMeasure s.begin cnt t0 t1)) :
    Completes (.rateMeasure Stake.page cnt t0 t1) s P :=
  completes_act (exec_rateMeasure Stake.page cnt t0 t1 s) hrun (by rwa [if_pos rfl])

theorem completes_hostAudioOutDone_error {n : Nat} {v : List Int} {rest : List (Nat × List Int)} (hpend : s.port.hostPend = (n, v) :: rest) :
    Completes (.hostAudioOutDone true) s (fun t => t.port.hostPend = [] ∧ t.rd Reg.hostAudStatus = 1 ∧
      fld (t.rd (Reg.faultCause 1)) 7 0 = 0x80 ∧ (∀ a, t.ld8 a = s.ld8 a) ∧ t.ctl.hostWrites = []) := by
  refine completes_act (exec_hostAudioOutDone true s) hrun ?_
  rw [HostAud.done_error (s := s.begin) hpend]
  refine ⟨?_, ?_, State.faultD_cause _ _ _ _ (by decide), fun a => ?_, ?_⟩
  · rw [State.faultCode_port]
    rfl
  · rw [State.rd_fault_plain (by decide), State.rd_wr_same]
  · unfold State.ld8
    rw [State.faultCode_mem]
    rfl
  · rw [State.faultCode_ctl]
    rfl

theorem completes_hostAudioOutDone_written {n : Nat} {v : List Int} {rest : List (Nat × List Int)}
    (hpend : s.port.hostPend = (n, v) :: rest) :
    Completes (.hostAudioOutDone false) s (fun t => t.port.hostPend = rest ∧ t.rd Reg.hostAudOutPosLo = w32 n ∧
      t.rd Reg.hostAudOutPosHi = w32 (n / 2 ^ 32) ∧
      (HostAud.inHost s true = true → t.ctl.hostWrites = [(HostAud.slotAddr s true n, HostAud.outBytes s n v)] ∧ ∀ a, t.ld8 a = s.ld8 a) ∧
      (HostAud.inHost s true = false → t.ctl.hostWrites = [] ∧ ∀ a, t.ld8 a =
        if HostAud.slotAddr s true n ≤ a ∧ a < HostAud.slotAddr s true n + (HostAud.outBytes s n v).length then
          (HostAud.outBytes s n v).getD (a - HostAud.slotAddr s true n) 0 else s.ld8 a)) := by
  obtain ⟨hport, hhost, hmemory⟩ := HostAud.stored_facts (HostAud.waiting s.begin rest) n v
  refine completes_act (exec_hostAudioOutDone false s) hrun ?_
  rw [HostAud.done_written (s := s.begin) hpend]
  refine ⟨?_, State.rd_wr64_lo _ _ (by decide), State.rd_wr_same _ _ _, hhost, hmemory⟩
  rw [State.wr64_port, hport]
  rfl

/-- What a change of class, or none, leaves on a port whose frame syncs are counted. -/
theorem completes_rateMeasure_counted {p : Nat} (cnt t0 t1 : Nat) (hkind : Port.kind p ≠ 0) (hon : Port.isOn s p false = true)
    (hcounted : ¬ (Port.kind p = 1 ∧ Port.leader (Port.pg s p) = true)) :
    Completes (.rateMeasure p cnt t0 t1) s (fun t =>
      t.rd (Port.reg p 0x68) = w32 (satU 32 (s.measuredMhz cnt t0 t1)) ∧
      t.rd (Port.reg p 0x6C) = w32 (rateClassOf (s.measuredMhz cnt t0 t1) +
        8 * b2n (offNominal (s.measuredMhz cnt t0 t1) (rateClassOf (s.measuredMhz cnt t0 t1)))) ∧
      (rateClassOf (s.measuredMhz cnt t0 t1) = s.rdF (Port.reg p 0x6C) 2 0 →
        t.port = s.port ∧ t.rd (Reg.irqStatus p) = s.rd (Reg.irqStatus p)) ∧
      (rateClassOf (s.measuredMhz cnt t0 t1) ≠ s.rdF (Port.reg p 0x6C) 2 0 → bit (t.rd (Reg.irqStatus p)) 0 = true ∧
        (s.isStandby = false → ∀ e ∈ Asrc.gang s p false, (Asrc.eng t e).locked = false))) := by
  have hfigure : Port.figure s.begin p cnt t0 t1 = s.measuredMhz cnt t0 t1 := if_neg hcounted
  have hregisters := Port.measure_registers (s := s.begin) cnt t0 t1 hkind hon
  rw [hfigure] at hregisters
  refine completes_rateMeasure hrun (Port.kind_ne_stake hkind) ⟨hregisters.1, hregisters.2, fun hsame => ?_, fun hchanged => ?_⟩
  · rw [Port.measure_eq (s := s.begin) cnt t0 t1 hkind hon, hfigure, State.rdF_begin, if_pos hsame]
    exact ⟨rfl, (Port.rd_figured s.begin p _).2.2⟩
  · rw [Port.measure_eq (s := s.begin) cnt t0 t1 hkind hon, hfigure, State.rdF_begin, if_neg hchanged,
      Port.rd_reclassed s.begin hkind _ (by unfold Reg.irqStatus; omega)]
    exact ⟨State.irq_bit _ _ _ (by decide), fun hactive e he => Port.reclassed_unlocked (s := s.begin) p _ hactive he⟩

end Rows

/-- Settles O29: each row comes to its operation of the port, the converter or host audio, in the branch that the clause's conditions
name. -/
theorem portFramesAct : Obligations.PortFramesAct := by
  intro s hrun
  refine ⟨?serial, ?aes, ?madi, ?output, ?outputIdle, ?rateIdle, ?rateStake, ?rateLeader, ?rateCounted, ?lock, ?unlock, ?hostIn, ?hostNone,
    ?hostOut⟩
  case serial =>
    rintro p _ _ rfl rfl hserial ws
    refine ⟨fun up hstate h => ?_, fun h => completes_act (exec_portInputFrame p ws s) hrun (Port.inputFrame_idle (s := s.begin) ws h)⟩
    refine completes_act (exec_portInputFrame p ws s) hrun ⟨{ Port.serialFrame s.begin p ws with tag := (Port.pg s p).nextTag }, rfl,
      Port.serialFrame_follower (s := s.begin) ws, rfl, ?_⟩
    rw [Port.inputFrame_taken (s := s.begin) hserial ws up hstate h, Port.pg_push_same]
    exact ⟨rfl, rfl, rfl, rfl, fun q => Port.pg_push_ne s.begin _⟩
  case aes =>
    rintro i _ _ hi rfl rfl hon hlocked
    refine ⟨fun hstate w0 v0 u0 e0 w1 v1 u1 e1 => ?frame, ?block⟩
    case frame =>
      have hframe := Port.aesFrame_page (s := s.begin) hi hon hlocked hstate (w0, v0, u0, e0) (w1, v1, u1, e1)
      obtain ⟨hparity, hvalidity⟩ := Port.aesFrame_counts (s := s.begin) hi hon hlocked hstate (w0, v0, u0, e0) (w1, v1, u1, e1)
      refine completes_act (exec_aesInputFrame i _ _ s) hrun ⟨?_, ?_, hparity, hvalidity,
        Port.aesFrame_parity (s := s.begin) hi hon hlocked hstate (w0, v0, u0, e0) (w1, v1, u1, e1)⟩
      · rintro _ rfl
        rw [hframe]
        exact congrArg₂ (fun x y => [x, y]) (Port.aesSample_eq (s := s.begin) 0 w0 v0 u0 e0) (Port.aesSample_eq (s := s.begin) 1 w1 v1 u1 e1)
      · rw [hframe]
        exact ⟨{ Port.aesPair s.begin i (w0, v0, u0, e0) (w1, v1, u1, e1) with tag := (Port.pg s (0x30 + i)).nextTag }, rfl, rfl, rfl, rfl⟩
    case block =>
      rintro b bytes _ rfl
      refine ⟨fun hprof hfails => completes_act (exec_aesCsBlock i b bytes s) hrun
        (Port.csBlock_failed_facts (s := s.begin) hi hon hlocked hprof hfails), fun hholds => ?_⟩
      obtain ⟨hwords, hchanged, hsame⟩ := Port.csBlock_stored (s := s.begin) hi hon hlocked hholds
      refine completes_act (exec_aesCsBlock i b bytes s) hrun ⟨hwords, ?_, fun h => hsame fun k hk => ?_⟩
      · rintro ⟨k, hk, hdiffers⟩
        exact hchanged ⟨k, hk, fun heq => hdiffers ((hwords k hk).trans heq.symm)⟩
      · exact (h k hk).symm.trans (hwords k hk)
  case madi =>
    rintro i _ _ _ sub _ hi rfl rfl rfl hon hlocked hstate hmadi rfl
    have hpages := Port.pg_madiFrame (s := s.begin) sub hi hon hlocked hstate hmadi
    refine completes_act (exec_madiInputFrame i sub s) hrun ⟨fun h => ?_, fun h => ?_, ?_, fun q hq => ?_⟩
    · rw [hpages, Port.madiTaken_one (s := s.begin) sub h, Port.pg_push_same]
      exact ⟨rfl, rfl⟩
    · obtain ⟨f, g, hf, hg, htaken⟩ := Port.madiTaken_two (s := s.begin) sub h
      rw [hpages, htaken, Port.pg_push_same, Port.pg_push_same]
      exact ⟨rfl, _, hf, hg⟩
    · rw [hpages]
      exact Port.madiTaken_length (s := s.begin) sub
    · exact (hpages q).trans (Port.madiTaken_others (s := s.begin) sub hq)
  case output =>
    rintro p _ rfl hkind hstate
    refine ⟨fun hplain => ⟨fun hown => ?_, fun hown => ?_⟩, fun hconv hmadi => ?_⟩
    · exact completes_act (exec_portOutputFrame p s) hrun (Port.outputFrame_ticked (s := s.begin) hkind hstate hplain hown)
    · refine completes_act (exec_portOutputFrame p s) hrun ?_
      rw [Port.outputFrame_follower (s := s.begin) hkind hstate hplain hown]
      exact ⟨Port.pg_setPg_same _ _ _, fun q => Port.pg_setPg_ne s.begin _⟩
    · exact completes_act (exec_portOutputFrame p s) hrun (Port.outputFrame_converted (s := s.begin) hkind hstate hconv hmadi)
  case outputIdle => exact fun p h => completes_act (exec_portOutputFrame p s) hrun (Port.outputFrame_idle (s := s.begin) h)
  case rateIdle => exact fun p cnt t0 t1 h hpage => completes_rateMeasure hrun hpage (Port.measure_idle (s := s.begin) cnt t0 t1 h)
  case rateStake => exact fun cnt t0 t1 up => completes_rateMeasure_stake hrun (Stake.wclkMeasure_up (s := s.begin) cnt t0 t1 up)
  case rateLeader =>
    intro p cnt t0 t1 hserial hleader hon
    have hkind : Port.kind p ≠ 0 := by omega
    have hfigure : Port.figure s.begin p cnt t0 t1 = if (Port.pg s p).tx.state = 0 then 0 else rateHz (Port.rateCode s p false) * 1000 :=
      if_pos ⟨hserial, hleader⟩
    obtain ⟨hregister, -⟩ := Port.measure_registers (s := s.begin) cnt t0 t1 hkind hon
    refine completes_rateMeasure hrun (Port.kind_ne_stake hkind) (hregister.trans ?_)
    rw [hfigure]
    split
    · rfl
    · unfold satU
      rw [if_pos (rateHz_lt _)]
  case rateCounted =>
    intro p cnt t0 t1 hkind hon hcounted
    obtain ⟨t, hexec, hfigure, hclass, hsame, hchanged⟩ := completes_rateMeasure_counted hrun cnt t0 t1 hkind hon hcounted
    refine ⟨t, hexec, s.measuredMhz cnt t0 t1, _, fun h => if_pos h, fun hcnt htime hrecent => if_neg ?_, rfl, hfigure, hclass, hsame, hchanged⟩
    omega
  case lock =>
    intro e r hleader hon hunlocked hactive
    refine ⟨fun h => ?_, fun hlow hhigh => ?_⟩
    · refine completes_act (exec_asrcLock e r s) hrun ?_
      rw [Asrc.lock_beyond (s := s.begin) hleader hon hunlocked hactive h]
      exact ⟨State.faultCode_port _ _ _, State.faultD_cause _ _ _ _ (by decide)⟩
    · refine completes_act (exec_asrcLock e r s) hrun ?_
      rw [Asrc.lock_within (s := s.begin) hleader hon hunlocked hactive hlow hhigh]
      exact ⟨⟨_, fun k hk hup => Asrc.lockAt_on s.begin.drawFree.2 e r _ _ hk hup⟩,
        fun k hk => Asrc.lockAt_apart s.begin.drawFree.2 e r _ _ hk⟩
  case unlock =>
    rintro e range _ rfl
    refine ⟨fun h => completes_act (exec_asrcUnlock e range s) hrun (Asrc.unlock_standby (s := s.begin) e range h), fun hactive => ?_⟩
    refine completes_act (exec_asrcUnlock e range s) hrun ?_
    rintro k _ rfl
    refine ⟨fun hk hlocked => Asrc.unlock_locked (s := s.begin) e range hactive hk hlocked, fun h => ?_⟩
    obtain hapart | hunlocked := h
    · exact Asrc.unlock_apart (s := s.begin) e range hactive hapart
    · exact Asrc.unlock_unlocked (s := s.begin) e range hactive hunlocked
  case hostIn =>
    rintro data _ _ rfl rfl
    refine ⟨fun h => completes_act (exec_hostAudioInRead data s) hrun (HostAud.read_idle (s := s.begin) data h), fun hactive hrate => ?_⟩
    exact completes_act (exec_hostAudioInRead data s) hrun ⟨_, fun h => if_pos h, fun h => if_neg (by simp [h]),
      if_neg (show ¬ ((!HostAud.active s false) = true ∨ (!s.rateOn) = true) by simp [hactive, hrate])⟩
  case hostNone => exact fun h err => completes_act (exec_hostAudioOutDone err s) hrun (HostAud.done_none (s := s.begin) err h)
  case hostOut =>
    intro n v rest hpend
    obtain ⟨t, hexec, hleft, hlo, hhi, hhost, hmemory⟩ := completes_hostAudioOutDone_written hrun hpend
    exact ⟨completes_hostAudioOutDone_error hrun hpend, t, hexec, hleft, hlo, hhi, _, rfl, hhost, hmemory⟩

end Sys2Proof.Machine
end
